-- ==== Sys2Proof/Word.lean ====
section
/-!
DEFINITION. Words and bytes: the widths the specification uses for registers (00_scope R5, 02 R67) and for
data carried on its interfaces.
-/
namespace Sys2Proof

/-- A byte. -/
abbrev Byte := BitVec 8

/-- A 32-bit register word (02 R67). -/
abbrev Word := BitVec 32

/-- A 64-bit value held as two register words (02 R68). -/
abbrev Word64 := BitVec 64

/-- A byte string, byte 0 first (02 R42). -/
abbrev Bytes := List Byte

end Sys2Proof
end

