-- ==== Sys2Proof/Syntax.lean ====
section
/-!
DEFINITION. The commands the block takes: one constructor per row of spec/opcode_table.json, and the types of their
operands. The table gives its rows no operands; what each command carries is the model's reading (log entry 16).
-/
namespace Sys2Proof

/-- The path an operator access arrives on, or the session of a tenant access (02 R43). -/
inductive Path where
  | can | spi | svc
  | house (sess : Nat)
  | tenant (sess : Nat)
  deriving DecidableEq, Repr

/-- An SDO initiate-download request: expedited data, or the announced size of a segmented or block transfer
(02 R55, CiA 301). -/
structure SdoInit where
  index : Nat
  sub : Nat
  expedited : Bool
  block : Bool
  size : Option Nat
  data : Bytes
  deriving DecidableEq, Repr

/-- A segment of a segmented SDO transfer: a download segment, or an upload segment request (02 R56, CiA 301). -/
inductive SdoSeg where
  | down (toggle : Bool) (last : Bool) (data : Bytes)
  | up (toggle : Bool)
  deriving DecidableEq, Repr

/-- A message of an SDO block transfer: a download segment, the end of a download, the start of an upload, the
answer to an upload block (last sequence number received and next block size), the end of an upload (02 R57, CiA
301). -/
inductive SdoBlock where
  | down (seqno : Nat) (last : Bool) (data : Bytes)
  | downEnd (unused : Nat)
  | upStart
  | upAck (ackseq : Nat) (blksize : Nat)
  | upEnd
  deriving DecidableEq, Repr

/-- The header of a received Nerquelu message, with whether its GCM tag verifies (03 R96; log entry 15). -/
structure NqHeader where
  sender : Nat
  epoch : Word
  seq : Nat
  tagOk : Bool
  deriving DecidableEq, Repr

/-- What a lock request or lock answer message says (03 R103; log entry 17). -/
structure LockMsg where
  lock : Nat
  op : Nat
  member : Nat
  sess : Nat
  tenant : Nat
  epoch : Word
  status : Word
  state : Nat
  afterBreak : Bool
  deriving DecidableEq, Repr

/-- A PLL of the table Clocks and their sources (01 R29). -/
inductive PllId where
  | core | upstream | pcie
  | gallery (g : Nat)
  | gen1 (w : Nat)
  | gen2 (w : Nat)
  deriving DecidableEq, Repr

/-- The UDP checksum of a received frame: absent (0), right or wrong (04 R119). -/
inductive UdpCheck where
  | zero | good | bad
  deriving DecidableEq, Repr

/-- How a frame reached the hub: the upstream link it came on, its IP destination, UDP destination port and checksum, and the address
and port it came from (04 R118, R119). -/
structure Arrival where
  link : Nat
  dst : Bytes
  port : Nat
  check : UdpCheck
  src : Bytes
  srcPort : Nat
  deriving DecidableEq, Repr

/-- How a PTP message reached the hub: link, domain and UDP port (04 R133, R134). -/
structure PtpVia where
  link : Nat
  domain : Nat
  port : Nat
  deriving DecidableEq, Repr

/-- A received Sync: how it came and the offset of hub time it measures, in ns (09 R256). -/
structure SyncMsg where
  via : PtpVia
  offset : Int
  deriving DecidableEq, Repr

/-- A received Delay_Resp: how it came and the path delay it completes, in ns (04 R133, 09 R256). -/
structure DelayMsg where
  via : PtpVia
  delay : Nat
  deriving DecidableEq, Repr

/-- A received Isaix frame under a session key: how it came, its header and SACK blocks, whether its GCM tag verifies under the
session's present key, and its plaintext, whose length is LENGTH (04 R121; log entry 15). -/
structure Frame where
  via : Arrival
  typ : Nat
  sess : Nat
  tenant : Nat
  version : Nat
  stalled : Bool
  retx : Bool
  ackValid : Bool
  seq : Nat
  sacks : List (Nat × Nat)
  ack : Nat
  window : Nat
  txc : Nat
  tsval : Word
  tsecr : Word
  tagOk : Bool
  payload : Bytes
  deriving DecidableEq, Repr

/-- A received open-exchange frame of SESSION 0xFFFF under a principal's transport key (05 R139, R142). -/
structure OpenFrame where
  via : Arrival
  typ : Nat
  version : Nat
  tsval : Word
  tenant : Nat
  txc : Nat
  tagOk : Bool
  payload : Bytes
  deriving DecidableEq, Repr

/-- The key of the frame that carries a RESET record: a session key, or the principal's transport key (05 R142). -/
inductive ResetKey where
  | session | transport
  deriving DecidableEq, Repr

/-- What training found on an upstream link: whether the two ends share an ability (04 R112, R114). -/
structure TrainReport where
  link : Nat
  common : Bool
  deriving DecidableEq, Repr

/-- A command record: the session that carried it, its accession number, deadline and body (05 R152, R153). -/
structure Rec where
  sess : Nat
  acc : Nat
  deadline : Nat
  body : Bytes
  deriving DecidableEq, Repr

/-- Speed codes (06 R166). -/
inductive Speed where
  | none | ls | fs | hs | gen1x1 | gen1x2 | gen2x1 | gen2x2
  deriving DecidableEq, Repr

/-- What is seen on a port's data pins (06 R168). -/
inductive ConnKind where
  | none | dPlus | dMinus | rxTerm
  deriving DecidableEq, Repr

/-- The bus below a port was idle for the L1 idle time: the baseline BESL its device advertises with LPM in its BOS descriptor,
none where it advertises no LPM (06 R196). -/
structure L1Idle where
  port : Nat
  besl : Option Nat
  deriving DecidableEq, Repr

/-- How a request of the Registrar to a device ended: the data of its data stage, a STALL, or a failure after the
edge replay budget (06 R177, R178, R188). -/
inductive ReqRes where
  | ok (data : Bytes)
  | stall
  | failed
  deriving DecidableEq, Repr

/-- A port status change of an external hub (06 R177, R180, R181). -/
inductive HubChange where
  | connect
  | resetDone (speed : Speed)
  | disconnect
  deriving DecidableEq, Repr

/-- How a transaction ended on the bus (07 R216, R218, R227, R228): bytes accepted by the device, an IN packet with its
toggle or sequence number, a handshake, an error, a device that sent beyond the expected length, or one that moves the pipe to a stream of its own selection. -/
inductive XactRes where
  | ack (bytes : Nat)
  | data (seq : Nat) (bytes : Bytes)
  | nak
  | nrdy
  | stall
  | error
  | babble
  | move (stream : Nat)
  deriving DecidableEq, Repr

/-- An endpoint of a configuration descriptor: its interface, its address with direction bit, and its packet sizes
(07 R212, R214, 06 R188). -/
structure EpDesc where
  iface : Nat
  ep : Nat
  maxPacket : Nat
  burst : Nat
  mult : Nat
  deriving DecidableEq, Repr

/-- A configuration descriptor as read by the Registrar, or none when the read failed (07 R214). -/
abbrev IfMap := Option (List EpDesc)

/-- A namespace a drive reports: its NSID, whether its active LBA format has 4,096-byte data and no metadata, and its
size in regions of 1 MiB (10 R272, R273). -/
structure NsRep where
  nsid : Nat
  formatOk : Bool
  regions : Nat
  deriving DecidableEq, Repr

/-- A drive found at a Vault enable and its namespaces (10 R270, R272). -/
structure DriveRep where
  drive : Nat
  spaces : List NsRep
  deriving DecidableEq, Repr

/-- The drives found at a Vault enable (10 R281). -/
abbrev DriveReps := List DriveRep

/-- A failing burst of a mover channel: the cause, the address in the form of R312, its side, line and, for a pipe
transfer, its outcome code (11 R320). -/
structure BusErr where
  cause : Nat
  addr : Nat
  dst : Bool
  line : Nat
  info : Nat
  deriving DecidableEq, Repr

/-- An error a reader or the Conservator finds in an on-package memory: memory code 0 pipe store, 1 packet buffer, 2
port FIFO; address in the format of MEM_UNC_FIRST; whether it is uncorrectable (12 R333, R334, R340). -/
structure MemErr where
  memory : Nat
  addr : Nat
  uncorrectable : Bool
  deriving DecidableEq, Repr

/-- The errors met in one Conservator pass (12 R336). -/
abbrev MemErrs := List MemErr

/-- A freed region of an on-package memory being zeroed before reuse: what it is part of, its key there and its size
in KiB (12 R337). -/
structure Region where
  part : Nat
  key : Nat
  kib : Nat
  deriving DecidableEq, Repr

/-- What a CC pin shows: nothing, Rd or Ra (13 R342). -/
inductive CcPin where
  | bare | rd | ra
  deriving DecidableEq, Repr

/-- What a cable's Discover Identity answer declares (13 R349, R350). -/
structure CableCaps where
  active : Bool
  sop2 : Bool
  amps5 : Bool
  epr : Bool
  v50 : Bool
  usb2Only : Bool
  deriving DecidableEq, Repr

/-- A sink's Request: object position, voltage in 10 mV units (the fixed object's own, or the requested PPS or AVS
voltage), operating current in 10 mA units, No USB Suspend (13 R353, 06 R194). -/
structure PdReq where
  pos : Nat
  voltage : Nat
  current : Nat
  noSuspend : Bool
  deriving DecidableEq, Repr

/-- What a poll of a power stage gives: no answer after 3 attempts, fault bits, the temperature warning bit (13 R359). -/
structure StageStatus where
  noAnswer : Bool
  vout : Bool
  iout : Bool
  temp : Bool
  warn : Bool
  deriving DecidableEq, Repr

/-- A power domain of a waking (15 R400). -/
inductive Domain where
  | pgMain | core | portA | portB | upstream
  deriving DecidableEq, Repr

/-- The straps as sampled (18 R467), and whether a word fails the built-in test where that test runs (17 R436). -/
structure Straps where
  /-- MFR_VOUT_MAX in mV as the stage of a port answers it, 0 where the stage does not answer; an unlisted stage reaches every limit. -/
  stages : List (Nat × Nat)
  bistBad : Bool
  recovery : Bool
  noxo : Bool
  test : Bool
  deriving DecidableEq, Repr

/-- A TAP instruction (17, 18 R466). -/
inductive JtagIns where
  | idcode | bypass | samplePreload | extest
  | debug (code : Nat)
  deriving DecidableEq, Repr


/-- The commands, in the order of spec/opcode_table.json. -/
inductive Instr where
  /-- SDO_INITIATE_DOWNLOAD (R55). -/
  | sdoInitiateDownload (req : SdoInit)
  /-- SDO_INITIATE_UPLOAD (R55). -/
  | sdoInitiateUpload (index : Nat) (sub : Nat) (block : Option Nat)
  /-- SDO_SEGMENT (R56). -/
  | sdoSegment (seg : SdoSeg)
  /-- SDO_BLOCK_SEGMENT (R57). -/
  | sdoBlockSegment (seg : SdoBlock)
  /-- SDO_PROTOCOL_TIMED_OUT (R56). -/
  | sdoProtocolTimedOut
  /-- NMT_COMMAND (R55). -/
  | nmtCommand (cmd : Nat) (node : Nat)
  /-- CAN_HEARTBEAT (R53). -/
  | canHeartbeat
  /-- TPDO_EVENT_TIMER_EXPIRY (R59). -/
  | tpdoEventTimerExpiry (n : Nat)
  /-- TPDO_CHANGE_COMPARE (R59). -/
  | tpdoChangeCompare (n : Nat)
  /-- TPDO_INHIBIT_TIME_END (R59). -/
  | tpdoInhibitTimeEnd (n : Nat)
  /-- HELD_TRANSFER_TIMEOUT (R489). -/
  | heldTransferTimeout (path : Path)
  /-- SPI_REGISTER_READ (R62). -/
  | spiRegisterRead (addr : Nat) (words : Nat) (ahead : Nat)
  /-- SPI_REGISTER_WRITE (R61). -/
  | spiRegisterWrite (addr : Nat) (words : List Word) (cutBits : Nat)
  /-- SPI_CATALOGUE_REQUEST (R63). -/
  | spiCatalogueRequest (record : Bytes)
  /-- SPI_CATALOGUE_RESPONSE (R63). -/
  | spiCatalogueResponse (nbytes : Nat)
  /-- SPI_STATUS (R61). -/
  | spiStatus (n : Nat)
  /-- SPI_UNKNOWN_OPCODE (R61). -/
  | spiUnknownOpcode (op : Nat)
  /-- SERVICE_PORT_REQUEST (R66). -/
  | servicePortRequest (record : Bytes)
  /-- SERVICE_PORT_RESPONSE_READ (R66). -/
  | servicePortResponseRead
  /-- REGISTER_WRITE (R67). -/
  | registerWrite (addr : Nat) (val : Word)
  /-- REGISTER_READ_CLEAR (R332). -/
  | registerReadClear (addr : Nat)
  /-- BIT_ALIAS_WRITE (R74). -/
  | bitAliasWrite (addr : Nat) (val : Word)
  /-- RWP_WRITE (R70). -/
  | rwpWrite (addr : Nat) (val : Word)
  /-- RWP_WRITE_ABSORBED (R70). -/
  | rwpWriteAbsorbed
  /-- GUARDED_WRITE (R72). -/
  | guardedWrite (addr : Nat) (val : Word)
  /-- GUARDED_PAIR_TIMEOUT (R72). -/
  | guardedPairTimeout
  /-- RV_ACCESS (R79). -/
  | rvAccess (addr : Nat) (write : Option Word)
  /-- NORMAL_SERVICE_ENTRY (R78). -/
  | normalServiceEntry
  /-- CLK_EVT_CLEAR (R39). -/
  | clkEvtClear (val : Word)
  /-- LINK_UNIT_ERROR (R21). -/
  | linkUnitError (link : Nat)
  /-- LINK_RETRAIN_DONE (R22). -/
  | linkRetrainDone (link : Nat) (ok : Bool)
  /-- PLL_LOCK (R32). -/
  | pllLock (pll : PllId)
  /-- PLL_LOCK_TIMEOUT (R32). -/
  | pllLockTimeout (pll : PllId)
  /-- PLL_LOSS_OF_LOCK (R33). -/
  | pllLossOfLock (pll : PllId)
  /-- PLL_STOP_DELAY_EXPIRY (R30). -/
  | pllStopDelayExpiry (pll : PllId)
  /-- REFCLK_ETH_LOSS (R36). -/
  | refclkEthLoss
  /-- CRYSTAL_FAILURE (R37). -/
  | crystalFailure
  /-- LOAN_GRANT (R83). -/
  | loanGrant (t : Nat) (path : Path)
  /-- LOAN_CHANGE (R83). -/
  | loanChange (t : Nat) (path : Path)
  /-- LOAN_END (R90). -/
  | loanEnd (t : Nat) (path : Path)
  /-- LOAN_RESUME (R412). -/
  | loanResume (t : Nat) (path : Path)
  /-- LAST_ITEM_ENDED (R90). -/
  | lastItemEnded (t : Nat)
  /-- LEASE_EXPIRY (R99). -/
  | leaseExpiry (t : Nat)
  /-- NERQUELU_HEARTBEAT_SEND (R97). -/
  | nerqueluHeartbeatSend
  /-- HEARTBEAT_RECEIVED (R98). -/
  | heartbeatReceived (hdr : NqHeader) (digest : Bytes) (quorumSet : Word)
  /-- QUORUM_WINDOW_EXPIRY (R98). -/
  | quorumWindowExpiry (voter : Nat)
  /-- EPOCH_ADVANCE_REQUEST (R102). -/
  | epochAdvanceRequest (path : Path)
  /-- EPOCH_PROPOSE (R102). -/
  | epochPropose (hdr : NqHeader) (proposed : Word)
  /-- EPOCH_ACCEPT (R102). -/
  | epochAccept (hdr : NqHeader) (accepted : Word)
  /-- EPOCH_ADVANCE_TIMEOUT (R102). -/
  | epochAdvanceTimeout
  /-- LOCK_ACQUIRE (R103). -/
  | lockAcquire (lock : Nat) (path : Path)
  /-- LOCK_RELEASE (R106). -/
  | lockRelease (lock : Nat) (path : Path)
  /-- LOCK_BREAK (R106). -/
  | lockBreak (lock : Nat) (path : Path)
  /-- LOCK_REQUEST_MESSAGE (R103). -/
  | lockRequestMessage (hdr : NqHeader) (msg : LockMsg)
  /-- LOCK_ANSWER_MESSAGE (R103). -/
  | lockAnswerMessage (hdr : NqHeader) (msg : LockMsg)
  /-- LOCK_OWNER_LOST_EXPIRY (R104). -/
  | lockOwnerLostExpiry (member : Nat)
  /-- UPSTREAM_LINKS_ENABLED_WRITE (R114). -/
  | upstreamLinksEnabledWrite (val : Nat) (path : Path)
  /-- UPSTREAM_TRAINING_DONE (R114). -/
  | upstreamTrainingDone (rep : TrainReport)
  /-- UPSTREAM_TRAINING_FAIL (R114). -/
  | upstreamTrainingFail (link : Nat)
  /-- PROBATION_EXPIRY (R114). -/
  | probationExpiry (link : Nat)
  /-- UPSTREAM_LINK_FAULT (R113). -/
  | upstreamLinkFault (link : Nat)
  /-- ALL_DOWN_HOLD_EXPIRY (R117). -/
  | allDownHoldExpiry
  /-- ISAIX_FRAME_SEND (R126). -/
  | isaixFrameSend (sess : Nat)
  /-- ISAIX_DATA_FRAME (R131). -/
  | isaixDataFrame (f : Frame)
  /-- ISAIX_ACK_FRAME (R128). -/
  | isaixAckFrame (f : Frame)
  /-- ISAIX_PROBE_FRAME (R129). -/
  | isaixProbeFrame (f : Frame)
  /-- ACK_DELAY_EXPIRY (R129). -/
  | ackDelayExpiry (sess : Nat)
  /-- REORDER_ALLOWANCE_EXPIRY (R130). -/
  | reorderAllowanceExpiry (sess : Nat) (seq : Nat)
  /-- RETRANSMISSION_TIMEOUT (R130). -/
  | retransmissionTimeout (sess : Nat)
  /-- PTP_SYNC (R256). -/
  | ptpSync (sync : SyncMsg)
  /-- PTP_DELAY_RESPONSE (R133). -/
  | ptpDelayResponse (resp : DelayMsg)
  /-- SYNC_TIMEOUT (R258). -/
  | syncTimeout
  /-- PPS_OUT_SECOND (R135). -/
  | ppsOutSecond
  /-- PPS_OUT_WIDTH_END (R135). -/
  | ppsOutWidthEnd
  /-- PPS_IN_EDGE (R135). -/
  | ppsInEdge (sinceLast : Nat)
  /-- OPEN (R143). -/
  | openSession (f : OpenFrame)
  /-- CONFIRM (R145). -/
  | confirm (f : Frame)
  /-- OPEN_TIMEOUT (R145). -/
  | openTimeout (sess : Nat)
  /-- CLOSE_DRAIN (R145). -/
  | closeDrain (f : Frame)
  /-- CLOSE_ABORT (R145). -/
  | closeAbort (f : Frame)
  /-- SESSION_RESET (R145). -/
  | sessionReset (key : ResetKey) (f : Frame)
  /-- SESSION_ENDING_COMPLETE (R145). -/
  | sessionEndingComplete (sess : Nat)
  /-- VBUS_ON (R344). -/
  | vbusOn (r : Rec)
  /-- VBUS_OFF (R344). -/
  | vbusOff (r : Rec)
  /-- PORT_RESET (R172). -/
  | portReset (r : Rec)
  /-- SUSPEND_TREE (R191). -/
  | suspendTree (r : Rec)
  /-- RESUME_TREE (R193). -/
  | resumeTree (r : Rec)
  /-- DISABLE (R182). -/
  | disable (r : Rec)
  /-- PORT_STATUS (R153). -/
  | portStatus (r : Rec)
  /-- PIPE_OPEN (R206). -/
  | pipeOpen (r : Rec)
  /-- PIPE_CLOSE (R209). -/
  | pipeClose (r : Rec)
  /-- PIPE_RESYNC (R213). -/
  | pipeResync (r : Rec)
  /-- PIPE_ABORT (R210). -/
  | pipeAbort (r : Rec)
  /-- TRANSFER (R209). -/
  | transfer (r : Rec)
  /-- OUT_DATA (R154). -/
  | outData (r : Rec)
  /-- CAT_READ (R153). -/
  | catRead (r : Rec)
  /-- CAT_WRITE (R153). -/
  | catWrite (r : Rec)
  /-- VHOST_STOP (R151). -/
  | vhostStop (r : Rec)
  /-- VHOST_START (R151). -/
  | vhostStart (r : Rec)
  /-- UNKNOWN_COMMAND_RECORD (R153). -/
  | unknownCommandRecord (op : Nat) (r : Rec)
  /-- DEADLINE_EXPIRY (R221). -/
  | deadlineExpiry (principal : Nat) (acc : Nat)
  /-- VBUS_GOOD (R167). -/
  | vbusGood (p : Nat)
  /-- PORT_VBUS_OFF (R182). -/
  | portVbusOff (p : Nat)
  /-- CONNECT (R168). -/
  | connect (p : Nat) (kind : ConnKind)
  /-- CONNECTION_CONFIRMED (R168). -/
  | connectionConfirmed (p : Nat)
  /-- PORT_DISCONNECT (R181). -/
  | portDisconnect (p : Nat)
  /-- POLLING_TIMEOUT (R170). -/
  | pollingTimeout (p : Nat)
  /-- PORT_RESET_END (R172). -/
  | portResetEnd (p : Nat) (trained : Speed)
  /-- RESET_RECOVERY_EXPIRY (R174). -/
  | resetRecoveryExpiry (p : Nat)
  /-- DEVICE_RESET_REQUEST (R176). -/
  | deviceResetRequest (p : Nat) (addr : Nat) (path : Path)
  /-- ENUMERATION_REQUEST_COMPLETE (R177). -/
  | enumerationRequestComplete (p : Nat) (res : ReqRes)
  /-- SET_ADDRESS_RECOVERY_EXPIRY (R177). -/
  | setAddressRecoveryExpiry (p : Nat)
  /-- ADDRESS_RELEASE (R177). -/
  | addressRelease (p : Nat) (addr : Nat)
  /-- EXTERNAL_HUB_STATUS_CHANGE (R180). -/
  | externalHubStatusChange (p : Nat) (hub : Nat) (hubPort : Nat) (change : HubChange)
  /-- SUPERSPEED_RECOVERY (R185). -/
  | superspeedRecovery (p : Nat) (reachedU0 : Bool)
  /-- RECOVERY_WINDOW_EXPIRY (R185). -/
  | recoveryWindowExpiry (p : Nat)
  /-- RESTORE_REQUEST_COMPLETE (R188). -/
  | restoreRequestComplete (p : Nat) (res : ReqRes)
  /-- RESTORE_WINDOW_EXPIRY (R189). -/
  | restoreWindowExpiry (p : Nat)
  /-- RESTORE_TIMEOUT (R189). -/
  | restoreTimeout (p : Nat)
  /-- SUSPEND_ENTRY_DONE (R191). -/
  | suspendEntryDone (p : Nat)
  /-- IDLE_SUSPEND_EXPIRY (R192). -/
  | idleSuspendExpiry (p : Nat)
  /-- SUSPEND_CURRENT_CHECK (R195). -/
  | suspendCurrentCheck (p : Nat) (avg : Int)
  /-- RESUME_SIGNALLING_DONE (R193). -/
  | resumeSignallingDone (p : Nat)
  /-- U3_EXIT_TIMEOUT (R193). -/
  | u3ExitTimeout (p : Nat)
  /-- REMOTE_WAKE (R197). -/
  | remoteWake (p : Nat) (device : Nat)
  /-- L1_IDLE_EXPIRY (R196). -/
  | l1IdleExpiry (idle : L1Idle)
  /-- QUARANTINE_RELEASE (R182). -/
  | quarantineRelease (p : Nat) (path : Path)
  /-- MICROFRAME_BOUNDARY (R222). -/
  | microframeBoundary (p : Nat)
  /-- TRANSACTION_COMPLETE (R217). -/
  | transactionComplete (pipe : Nat) (res : XactRes)
  /-- INTERFACE_MAP_READ_COMPLETE (R214). -/
  | interfaceMapReadComplete (p : Nat) (addr : Nat) (map : IfMap)
  /-- ERDY (R227). -/
  | erdy (pipe : Nat) (stream : Nat)
  /-- PIPE_FREE (R209). -/
  | pipeFree (pipe : Nat)
  /-- PIPE_VIEW_SELECT (R235). -/
  | pipeViewSelect (pipe : Nat)
  /-- VAULT_ENABLE (R281). -/
  | vaultEnable (drives : DriveReps)
  /-- VAULT_DISABLE (R304). -/
  | vaultDisable (path : Path)
  /-- VAULT_READ (R279). -/
  | vaultRead (r : Rec)
  /-- VAULT_WRITE (R278). -/
  | vaultWrite (r : Rec)
  /-- VAULT_FLUSH (R283). -/
  | vaultFlush (r : Rec)
  /-- VAULT_DEALLOCATE (R283). -/
  | vaultDeallocate (r : Rec)
  /-- NVME_COMMAND_COMPLETE (R274). -/
  | nvmeCommandComplete (cmd : Nat) (ok : Bool)
  /-- NVME_COMMAND_TIMEOUT (R274). -/
  | nvmeCommandTimeout (cmd : Nat)
  /-- TEMPLATE_LOAD (R287). -/
  | templateLoad (r : Rec)
  /-- FANOUT_START (R290). -/
  | fanoutStart (r : Rec)
  /-- FANOUT_STATUS (R297). -/
  | fanoutStatus (r : Rec)
  /-- FANOUT_CANCEL (R296). -/
  | fanoutCancel (r : Rec)
  /-- EXCHANGE_STATUS (R295). -/
  | exchangeStatus (job : Nat) (target : Nat) (status : Bytes)
  /-- STATUS_PHASE_TIMEOUT (R293). -/
  | statusPhaseTimeout (job : Nat) (target : Nat)
  /-- VERIFY_READ_COMPLETE (R294). -/
  | verifyReadComplete (job : Nat) (target : Nat) (data : Bytes)
  /-- JOB_RESULT_RETENTION_EXPIRY (R290). -/
  | jobResultRetentionExpiry (job : Nat)
  /-- FANOUT_PROGRESS (R299). -/
  | fanoutProgress (hdr : NqHeader) (body : Bytes)
  /-- CAPTURE_START (R300). -/
  | captureStart (r : Rec)
  /-- CAPTURE_STOP (R300). -/
  | captureStop (r : Rec)
  /-- GO (R319). -/
  | go (chan : Nat)
  /-- RESUME (R319). -/
  | resume (chan : Nat)
  /-- SKIP (R319). -/
  | skip (chan : Nat)
  /-- STOP (R319). -/
  | stop (chan : Nat)
  /-- DESCRIPTOR_END (R317). -/
  | descriptorEnd (chan : Nat) (data : Bytes)
  /-- MOVER_BUS_ERROR (R320). -/
  | moverBusError (chan : Nat) (err : BusErr)
  /-- PIPE_SHORT_END (R315). -/
  | pipeShortEnd (chan : Nat) (data : Bytes)
  /-- STOPPING_COMPLETE (R319). -/
  | stoppingComplete (chan : Nat)
  /-- CHECK_UNIT_FREE (R322). -/
  | checkUnitFree (unit : Nat)
  /-- MOVER_WINDOW_ACCESS (R308). -/
  | moverWindowAccess (addr : Nat) (write : Option Word)
  /-- SCAN_GO (R325). -/
  | scanGo (ctrl : Word)
  /-- SCAN_COMPLETE (R325). -/
  | scanComplete
  /-- SCRUB_PASS (R336). -/
  | scrubPass (found : MemErrs)
  /-- REGION_ZEROING_DONE (R337). -/
  | regionZeroingDone (r : Region)
  /-- RD_ON_ONE_CC (R342). -/
  | rdOnOneCc (p : Nat) (cc1 : CcPin) (cc2 : CcPin)
  /-- CC_ATTACH_DEBOUNCE_EXPIRY (R342). -/
  | ccAttachDebounceExpiry (p : Nat)
  /-- RD_LOST (R342). -/
  | rdLost (p : Nat)
  /-- CC_DETACH_DEBOUNCE_EXPIRY (R342). -/
  | ccDetachDebounceExpiry (p : Nat)
  /-- UNATTACHED_DRAIN_DONE (R342). -/
  | unattachedDrainDone (p : Nat)
  /-- VCONN_FAULT (R348). -/
  | vconnFault (p : Nat)
  /-- DISCOVER_IDENTITY_INTERVAL (R349). -/
  | discoverIdentityInterval (p : Nat)
  /-- CABLE_IDENTITY_RECEIVED (R349). -/
  | cableIdentityReceived (p : Nat) (idHeader : Word) (vdo : Word) (caps : CableCaps)
  /-- BC12_PRIMARY_DETECTION (R346). -/
  | bc12PrimaryDetection (p : Nat)
  /-- RP_CURRENT_ADJUST_EXPIRY (R345). -/
  | rpCurrentAdjustExpiry (p : Nat)
  /-- SOURCE_CAPABILITIES_INTERVAL (R351). -/
  | sourceCapabilitiesInterval (p : Nat) (goodCrc : Bool)
  /-- PD_REQUEST (R353). -/
  | pdRequest (p : Nat) (req : PdReq)
  /-- EPR_MODE_ENTER (R353). -/
  | eprModeEnter (p : Nat)
  /-- EPR_KEEPALIVE (R355). -/
  | eprKeepalive (p : Nat)
  /-- GET_SOURCE_CAP (R351). -/
  | getSourceCap (p : Nat)
  /-- GET_STATUS (R351). -/
  | getStatus (p : Nat)
  /-- GET_REVISION (R351). -/
  | getRevision (p : Nat)
  /-- PR_SWAP (R351). -/
  | prSwap (p : Nat)
  /-- DR_SWAP (R351). -/
  | drSwap (p : Nat)
  /-- VCONN_SWAP (R351). -/
  | vconnSwap (p : Nat)
  /-- FR_SWAP (R351). -/
  | frSwap (p : Nat)
  /-- STRUCTURED_VDM (R351). -/
  | structuredVdm (p : Nat)
  /-- PS_RDY (R354). -/
  | psRdy (p : Nat)
  /-- PPS_KEEPALIVE_TIMEOUT (R355). -/
  | ppsKeepaliveTimeout (p : Nat)
  /-- EPR_KEEPALIVE_TIMEOUT (R355). -/
  | eprKeepaliveTimeout (p : Nat)
  /-- HARD_RESET (R356). -/
  | hardReset (p : Nat) (received : Bool)
  /-- HARD_RESET_RECOVERY_EXPIRY (R356). -/
  | hardResetRecoveryExpiry (p : Nat)
  /-- RENEGOTIATION_NO_REQUEST_EXPIRY (R357). -/
  | renegotiationNoRequestExpiry (p : Nat)
  /-- STATUS_WORD_POLL (R358). -/
  | statusWordPoll (p : Nat) (status : StageStatus)
  /-- SMBALERT (R358). -/
  | smbalert (p : Nat) (status : StageStatus)
  /-- STAGE_WARNING_CLEAR_EXPIRY (R359). -/
  | stageWarningClearExpiry (p : Nat)
  /-- PMBUS_BUS_HELD_LOW (R359). -/
  | pmbusBusHeldLow (g : Nat)
  /-- PMBUS_SEGMENT_RECOVERED (R360). -/
  | pmbusSegmentRecovered (g : Nat)
  /-- GALLERY_POWER_SUM (R362). -/
  | galleryPowerSum (g : Nat)
  /-- RAISE_SLOT (R364). -/
  | raiseSlot (g : Nat)
  /-- SERVICE_PORT_FAST_DOMAIN_ON (R366). -/
  | servicePortFastDomainOn
  /-- SERVICE_PORT_FAST_DOMAIN_OFF (R366). -/
  | servicePortFastDomainOff
  /-- SERVICE_PORT_RP_SEEN (R366). -/
  | servicePortRpSeen
  /-- SERVICE_PORT_RD_SEEN (R366). -/
  | servicePortRdSeen
  /-- SERVICE_PORT_ROLE_TOGGLE (R366). -/
  | servicePortRoleToggle
  /-- SERVICE_PORT_VBUS_LOSS (R366). -/
  | servicePortVbusLoss
  /-- SERVICE_PORT_RD_LOST (R366). -/
  | servicePortRdLost
  /-- CURRENT_SAMPLE (R374). -/
  | currentSample (p : Nat) (current : Int) (vbus : Nat)
  /-- FAST_TRIP (R376). -/
  | fastTrip (p : Nat)
  /-- OFFSET_MEASUREMENT (R371). -/
  | offsetMeasurement (p : Nat)
  /-- OFFSET_MEASUREMENT_END (R372). -/
  | offsetMeasurementEnd (p : Nat) (offset : Int)
  /-- PRECHARGE_DONE (R378). -/
  | prechargeDone (p : Nat)
  /-- RAMP_SAFE_POINT (R378). -/
  | rampSafePoint (p : Nat)
  /-- VBUS_SETTLE_EXPIRY (R384). -/
  | vbusSettleExpiry (p : Nat)
  /-- RAMP_TIMEOUT (R377). -/
  | rampTimeout (p : Nat)
  /-- VBUS_DRAINED (R384). -/
  | vbusDrained (p : Nat)
  /-- DRAIN_TIMEOUT (R383). -/
  | drainTimeout (p : Nat)
  /-- RETRY_OFF_TIME_EXPIRY (R381). -/
  | retryOffTimeExpiry (p : Nat) (status : StageStatus)
  /-- RETRY_CLEAR_EXPIRY (R382). -/
  | retryClearExpiry (p : Nat)
  /-- REQUESTED_STATE_WRITE (R392). -/
  | requestedStateWrite (val : Nat) (path : Path)
  /-- ENTRY_GUARD_CLEAR (R392). -/
  | entryGuardClear
  /-- DROWSE_IDLE_EXPIRY (R393). -/
  | drowseIdleExpiry
  /-- SETTLING_DONE (R394). -/
  | settlingDone
  /-- PG_MAIN_LOST (R395). -/
  | pgMainLost
  /-- WAKE_N_FALL (R398). -/
  | wakeNFall
  /-- ALARM_EXPIRY (R398). -/
  | alarmExpiry
  /-- SERVICE_PORT_VBUS_WAKE (R398). -/
  | servicePortVbusWake
  /-- DORMANT_ACCESS_WAKE (R391). -/
  | dormantAccessWake
  /-- DOMAIN_POWER_GOOD (R400). -/
  | domainPowerGood (d : Domain)
  /-- POWER_GOOD_TIMEOUT (R400). -/
  | powerGoodTimeout (d : Domain)
  /-- CORE_VOLTAGE_UPDATE (R402). -/
  | coreVoltageUpdate (mv : Nat)
  /-- REACTION_TIME_EXPIRY (R417). -/
  | reactionTimeExpiry (slot : Nat)
  /-- FAULT_ACKNOWLEDGE (R418). -/
  | faultAcknowledge (source : Nat) (inst : Nat)
  /-- SAFE_STOP_RELEASE (R410). -/
  | safeStopRelease (path : Path)
  /-- JUNCTION_TEMPERATURE_READING (R414). -/
  | junctionTemperatureReading (group : Nat) (temp : Int)
  /-- CURATOR_WATCHDOG_EXPIRY (R413). -/
  | curatorWatchdogExpiry
  /-- ERR_OUT_N_MINIMUM_EXPIRY (R419). -/
  | errOutNMinimumExpiry
  /-- EMCY_INHIBIT_EXPIRY (R420). -/
  | emcyInhibitExpiry
  /-- ERROR_HISTORY_CLEAR (R422). -/
  | errorHistoryClear (path : Path)
  /-- INJECTION_ARM (R425). -/
  | injectionArm (val : Word)
  /-- COLD_START (R433). -/
  | coldStart (straps : Straps)
  /-- MAIN_EN_POWER_GOOD_TIMEOUT (R462). -/
  | mainEnPowerGoodTimeout
  /-- WARM_RESET (R429). -/
  | warmReset (straps : Straps)
  /-- RESET_N_LOW (R482). -/
  | resetNLow (straps : Straps)
  /-- RESET_N_RISE (R482). -/
  | resetNRise
  /-- RESET_REQUEST (R432). -/
  | resetRequest
  /-- CUSTODIAN_RESET (R462). -/
  | custodianReset (noxo : Bool)
  /-- IMAGE_WRITE (R442). -/
  | imageWrite (offset : Nat) (data : Bytes) (path : Path)
  /-- IMAGE_VERIFY (R442). -/
  | imageVerify (path : Path)
  /-- ROLLBACK_COMMIT (R443). -/
  | rollbackCommit (path : Path)
  /-- ATTESTATION_NONCE (R445). -/
  | attestationNonce (nonce : Bytes) (path : Path)
  /-- TRANSPORT_KEY_WRITE (R446). -/
  | transportKeyWrite (slot : Nat) (key : Bytes) (path : Path)
  /-- DEBUG_REQUEST (R449). -/
  | debugRequest (val : Word)
  /-- ERASING_COMPLETE (R450). -/
  | erasingComplete
  /-- CRYSTAL_RUNNING (R38). -/
  | crystalRunning
  /-- CONTROLLER_FATAL_STATUS (R274). -/
  | controllerFatalStatus (drive : Nat)
  /-- DRIVE_LINK_DOWN (R274). -/
  | driveLinkDown (drive : Nat)
  /-- CURATOR_RESTART_TIMEOUT (R413). -/
  | curatorRestartTimeout
  /-- RESTARTED_CURATOR_RUNS (R413). -/
  | restartedCuratorRuns
  /-- U1_U2_INACTIVITY_TIMEOUT (R196). -/
  | u1U2InactivityTimeout (p : Nat) (u2 : Bool)
  /-- DEVICE_INITIATED_LINK_ENTRY (R196). -/
  | deviceInitiatedLinkEntry (p : Nat) (level : Nat)
  /-- SERVICE_PORT_SOURCE_CAPABILITIES (R366). -/
  | servicePortSourceCapabilities (offeredMa : Nat)
  /-- SERVICE_PORT_DR_SWAP_ANSWER (R366). -/
  | servicePortDrSwapAnswer (accept : Bool)
  /-- SDO_ABORT_TRANSFER_REQUEST (R55). -/
  | sdoAbortTransferRequest
  /-- JTAG_INSTRUCTION (R466). -/
  | jtagInstruction (ins : JtagIns)
  /-- VDD_STBY_LOSS (R460). -/
  | vddStbyLoss
  /-- VDD_STBY_RETURN (R460). -/
  | vddStbyReturn
  deriving DecidableEq, Repr

end Sys2Proof
end

