-- ==== Sys2Proof/Decode.lean ====
section
/-!
DEFINITION. Commands from words. The command table of this block gives no row any bits: a command is an event, not a
word, so no word spells one.
-/
namespace Sys2Proof

/-- The command that a word spells by the table's bits: the table gives bits to no row. -/
def decodeTableWord (_nbits _w : Nat) : Option Instr := none

end Sys2Proof
end

