-- ==== Sys2Proof/Machine/Bytes.lean ====
section
/-!
DEFINITION. Numbers as bytes in both byte orders (00 R6, 02 R42, 05 R152), slices of byte strings, saturating counts
and the CRC of the check-value units (11, 10 R294).
-/
namespace Sys2Proof.Machine

/-- The number a byte string holds, least significant byte first. -/
def leNat : Bytes → Nat
  | [] => 0
  | b :: t => b.toNat + 256 * leNat t

/-- The number a byte string holds, most significant byte first. -/
def beNat (bs : Bytes) : Nat := bs.foldl (fun a b => a * 256 + b.toNat) 0

/-- `n` bytes of a number, least significant first. -/
def natLE : Nat → Nat → Bytes
  | 0, _ => []
  | n + 1, v => BitVec.ofNat 8 v :: natLE n (v / 256)

/-- `n` bytes of a number, most significant first. -/
def natBE (n v : Nat) : Bytes := (natLE n v).reverse

/-- `n` bytes of `d` from offset `o`. -/
def slice (d : Bytes) (o n : Nat) : Bytes := (d.drop o).take n

/-- `n` zero bytes. -/
def zeros (n : Nat) : Bytes := List.replicate n 0

/-- A byte string padded with zeros to length `n`. -/
def padTo (n : Nat) (d : Bytes) : Bytes := d ++ zeros (n - d.length)

/-- Bit `n` of a number. -/
def bitOf (v n : Nat) : Bool := v / 2 ^ n % 2 = 1

/-- Bits [n + w - 1 : n] of a number. -/
def bitsOf (v n w : Nat) : Nat := v / 2 ^ n % 2 ^ w

/-- 1 for true, 0 for false. -/
def b2n (b : Bool) : Nat := if b then 1 else 0

/-- A count advanced by `n`, held at its all-ones value of `w` bits (04 R138 and every saturating count). -/
def satAdd {w : Nat} (c : BitVec w) (n : Nat) : BitVec w :=
  if c.toNat + n < 2 ^ w then BitVec.ofNat w (c.toNat + n) else BitVec.allOnes w

/-- A signed value held within 32 bits (09 R268 "saturating"). -/
def satInt32 (v : Int) : Int := if v < -2147483648 then -2147483648 else if 2147483647 < v then 2147483647 else v

/-- The two's complement encoding of an integer in `w` bits (02 R42). -/
def intBits (w : Nat) (v : Int) : Nat := (v % (2 ^ w : Nat)).toNat

/-- The smallest whole number not below a / b. -/
def ceilDiv (a b : Nat) : Nat := (a + b - 1) / b

/-- Bits of a byte, least significant first. -/
def byteBits (b : Byte) : List Bool := (List.range 8).map (fun i => b.getLsbD i)

/-- One bit through a CRC register of `w` bits, most significant bit first (11, Check-value units). -/
def crcBit (w poly : Nat) (r : Nat) (b : Bool) : Nat :=
  let top := bitOf r (w - 1)
  let sh := r * 2 % 2 ^ w
  if top != b then Nat.xor sh poly else sh

/-- One byte through a CRC register, its bits reflected where `refin` holds. -/
def crcByte (w poly : Nat) (refin : Bool) (r : Nat) (b : Byte) : Nat :=
  (if refin then byteBits b else (byteBits b).reverse).foldl (crcBit w poly) r

/-- The low `w` bits of a number in reverse order. -/
def reflect (w v : Nat) : Nat := (List.range w).foldl (fun a i => a * 2 + b2n (bitOf v i)) 0

/-- The CRC of a byte string under the usual parameters (11, Check-value units). -/
def crcOf (w poly init xorout : Nat) (refin refout : Bool) (d : Bytes) : Nat :=
  let r := d.foldl (crcByte w poly refin) init
  Nat.xor (if refout then reflect w r else r) xorout

/-- CRC-64 of R294: reflected, initial value and final XOR all ones. -/
def crc64 (d : Bytes) : BitVec 64 :=
  BitVec.ofNat 64 (crcOf 64 0x42F0E1EBA9EA3693 0xFFFFFFFFFFFFFFFF 0xFFFFFFFFFFFFFFFF true true d)

/-- CRC-32 as Ethernet (11, Unit configurations and check values; 17 R438). -/
def crc32 (d : Bytes) : BitVec 32 :=
  BitVec.ofNat 32 (crcOf 32 0x04C11DB7 0xFFFFFFFF 0xFFFFFFFF true true d)

end Sys2Proof.Machine
end

