-- ==== Sys2Proof/Config.lean ====
section
/-!
DEFINITION. The values the specification leaves open and the functions it names without defining: opaque constants
with no body, so that every claim holds whatever they are (log entries 14 and 15).
-/
namespace Sys2Proof.Config

/-- The free value number `n` (log entry 14): where the specification leaves a value open, a step takes this constant
at the state's counter of free values and advances the counter. -/
opaque freeNat : Nat → Nat

/-- The packet-buffer address of a queued item and the FIFO offset of a buffered copy: places the specification leaves
open (07 R204 QUEUE_HEAD, QUEUE_TAIL, REISSUE_PTR; log entry 14). -/
opaque itemAddr : Nat → Nat

/-- SHA-256 of a byte string (03 R108, 05 R141; log entry 15). -/
opaque sha256 : Bytes → BitVec 256

/-- SHA-384 of a byte string (17 R439, R440; log entry 15). -/
opaque sha384 : Bytes → BitVec 384

/-- The ECDSA P-384 signature of a byte string under the device identity key (17 R444, R445; log entry 15). -/
opaque identitySign : Bytes → BitVec 768

/-- Whether a signature (third argument) of a byte string (second) verifies under a public key (17 R440; log
entry 15). -/
opaque ecdsaVerify : Bytes → Bytes → Bytes → Bool

/-- HKDF-SHA-256 of input keying material, salt and info, 32 bytes long (05 R141; log entry 15). -/
opaque hkdfSha256 : Bytes → Bytes → Bytes → BitVec 256

/-- AES-256-GCM under a key, a nonce and associated data: the ciphertext of a plaintext and its 16-byte tag (03 R96, 04 R123; log
entry 15). -/
opaque aesGcm : Bytes → Bytes → Bytes → Bytes → Bytes

/-- The UDP source port of an open-exchange frame: R118 gives 49,152 plus the session number, which for SESSION 0xFFFF is no port
(04 R118; log entry 14). -/
opaque exchangePort : Nat

end Sys2Proof.Config
end

