-- ==== Sys2Proof/Machine/State.lean ====
section
/-!
DEFINITION. The state of the block as plain data: every register, buffer, counter, mode and pin the specification
names, and the queue of waiting commands. Each field cites the file and rule of spec/ that names it; a field marked
DESIGN CHOICE n has its reset value from log entry n.
-/
namespace Sys2Proof.Machine

/-- A sparse map with number keys: (key, value) pairs in canonical form, keys strictly rising and no entry equal to
what an unlisted key reads as (INVENTORY, Memory and ordering). -/
abbrev SMap (α : Type) := List (Nat × α)

/-- Port states (06 R165). -/
inductive PortState where
  | unpowered | powered | attaching | resetting | enabled | disabled | suspended | tripped | quarantined
  deriving DecidableEq, Repr

/-- What a reset or training in progress is (06 R168, R172, R186). -/
inductive ResetKind where
  | none | polling | usb2 | hot | warm
  deriving DecidableEq, Repr

/-- A deferred port action (06 R183). -/
inductive Deferred where
  | reset (item : Option Nat)
  | suspend (item : Option Nat)
  | disable (item : Option Nat)
  deriving DecidableEq, Repr

/-- Where a restore stands (06 R188, R189): waiting for VBUS after a trip, waiting for the connection, running. -/
inductive RestStep where
  | vbus | connect | running
  deriving DecidableEq, Repr

/-- A restore pending or running, and whether a trip or a fallback caused it (06 R188, R190). -/
structure Restore where
  trip : Bool
  step : RestStep
  deriving DecidableEq, Repr

/-- Who suspended a tree (06 R191, R192). -/
inductive SuspBy where
  | none | owner | idle
  deriving DecidableEq, Repr

/-- A device of a tree: its address, depth, the hub above it and that hub's port (0 at the root), whether it is an
external hub, its speed, descriptor and serial string, the requests to replay in a restore (SETUP bytes, in the order
they completed), its endpoints of the present configuration, and whether a hub is served as multi-TT (06 R177, R188,
07 R214, 08 R242), and a hub's think time in FS bytes (08 R242). -/
structure Device where
  addr : Nat
  depth : Nat
  parent : Nat
  parentPort : Nat
  isHub : Bool
  speed : Speed
  desc : Bytes
  serial : Bytes
  requests : List Bytes
  map : List EpDesc
  multiTt : Bool
  think : Nat
  deriving DecidableEq, Repr

/-- The request an enumeration or restore is waiting for (06 R177, R178, R180, R188). -/
inductive EnumStep where
  | desc8 | setAddress | recovery | desc18 | langs | serial | setSel | isochDelay
  | hubDesc | hubConfig | hubTt | waitAddress
  | config (left : List Bytes)
  | mapRead
  | queued | portReset
  deriving DecidableEq, Repr

/-- An enumeration in progress: the hub and port above the device, its depth and speed, its previous address (0 none),
the address being given, the step waited for, attempts made, and what has been read (06 R177, R178). -/
structure Enum where
  parent : Nat
  parentPort : Nat
  depth : Nat
  speed : Speed
  prev : Nat
  addr : Nat
  step : EnumStep
  tries : Nat
  desc : Bytes
  serial : Bytes
  ports : Nat
  multiTt : Bool
  think : Nat
  deriving DecidableEq, Repr

/-- CC states (13 R342). -/
inductive CcState where
  | unattached | attachWait | attached | withheld | unattachedWait
  deriving DecidableEq, Repr

/-- The kinds of Source_Capabilities object (13 R352). -/
inductive OfferKind where
  | fixed | pps | eprFixed | avs
  deriving DecidableEq, Repr

/-- An offered object: its position, kind, voltage range and maximum current, in 10 mV and 10 mA units, and for an
AVS object its PDP in W (13 R352). -/
structure Offer where
  pos : Nat
  kind : OfferKind
  vMin : Nat
  vMax : Nat
  iMax : Nat
  pdp : Nat
  deriving DecidableEq, Repr

/-- A cable's identity as read (13 R349, R350). -/
structure Cable where
  idHeader : Word
  vdo : Word
  caps : CableCaps
  deriving DecidableEq, Repr

/-- Switch states (14 R384). -/
inductive SwState where
  | off | ramping | on | draining | cooling | locked
  deriving DecidableEq, Repr

/-- Phases of a power-up (14 R378). -/
inductive RampPhase where
  | offset | precharge | ramp
  deriving DecidableEq, Repr

/-- Pipe states (07 R209). -/
inductive PipeState where
  | free | opened | halted | closing
  deriving DecidableEq, Repr

/-- Flow control of a pipe by its device (07 R227). -/
inductive Flow where
  | ready | ping | nrdy
  deriving DecidableEq, Repr

/-- What holds a pipe (10 R284, 11 R314). -/
inductive PipeHold where
  | none
  | job (slot : Nat)
  | capture (item : Nat)
  | channel (c : Nat)
  deriving DecidableEq, Repr

/-- Session states (05 R145). -/
inductive SessState where
  | closed | opening | opened | draining | held | ending
  deriving DecidableEq, Repr

/-- The inputs of a session key: transport key, salt, info (05 R141); the key itself is HKDF of them (log entry 15). -/
structure SessKey where
  ikm : Bytes
  salt : Bytes
  info : Bytes
  deriving DecidableEq, Repr

/-- The zeroed key (04 R125). -/
def SessKey.zero : SessKey := ⟨[], [], []⟩

/-- A record the hub sends in a session (05 Hub records, R153). -/
inductive HubRec where
  | completion (orphan : Bool) (isIn : Bool) (acc : Nat) (outcome : Nat) (detail : Nat) (actual : Nat) (pipeState : Nat)
      (endFrame : Nat) (body : Bytes)
  | inData (port : Nat) (acc : Nat) (offset : Nat) (data : Bytes)
  | event (code : Nat) (port : Nat) (device : Nat) (param : Nat) (time : Nat) (body : Bytes)
  deriving DecidableEq, Repr

/-- A frame held in a replay buffer: its SEQ, its records in plaintext, the link and hub time of its last sending, and
its payload length (04 R124, R128). -/
structure Replay where
  seq : Nat
  recs : List HubRec
  link : Nat
  sentAt : Nat
  len : Nat
  deriving DecidableEq, Repr

/-- Loan states (03 R90). -/
inductive LoanState where
  | idle | active | paused | recalling
  deriving DecidableEq, Repr

/-- A ledger entry: the completion kept for delivery on another session (05 R160). -/
structure LedgerEntry where
  acc : Nat
  outcome : Nat
  detail : Nat
  actual : Nat
  pipeState : Nat
  endFrame : Nat
  deriving DecidableEq, Repr

/-- A held pending value: the value and the tenant that wrote it, 0 the operator (00 R11, 02 R50). -/
structure PendVal where
  value : Bytes
  tenant : Nat
  deriving DecidableEq, Repr

/-- A held OCTETS transfer on a record path (02 R48, R489). -/
structure HeldXfer where
  path : Path
  index : Nat
  sub : Nat
  data : Bytes
  deriving DecidableEq, Repr

/-- NMT states (02 R55). -/
inductive Nmt where
  | preop | operational | stopped
  deriving DecidableEq, Repr

/-- The open SDO transfer: object, direction, block form, data carried so far or still to send, the toggle or sequence
expected, and for a block upload the blocks not yet acknowledged (02 R55, R56; CiA 301). -/
structure SdoXfer where
  index : Nat
  sub : Nat
  upload : Bool
  block : Bool
  data : Bytes
  toggle : Bool
  seqno : Nat
  lastSeen : Bool
  size : Option Nat
  deriving DecidableEq, Repr

/-- A TPDO: whether its inhibit time runs, whether a sending is held, the values last compared (02 R59). -/
structure Tpdo where
  inhibit : Bool
  held : Bool
  last : Bytes
  deriving DecidableEq, Repr

/-- States of a PLL (01 R30 to R33): stopped, started and not locked, locked, off for good. -/
inductive PllState where
  | stopped | starting | locked | failed
  deriving DecidableEq, Repr

/-- A PLL: its state, restarts made without lock, whether it runs on its alternate reference (01 R32). -/
structure Pll where
  state : PllState
  restarts : Nat
  alt : Bool
  deriving DecidableEq, Repr

/-- Upstream link states (04 R114). -/
inductive LinkState where
  | off | training | probation | member
  deriving DecidableEq, Repr

/-- What was heard of a voter: whether its latest heartbeat is within tQWIN, whether it names this package, its epoch,
the last SEQUENCE accepted from it, when it was last heard, and its digest mismatches in succession (03 R97, R98,
R109). -/
structure Voter where
  heard : Bool
  names : Bool
  epoch : Word
  seq : Option Nat
  lastHeard : Nat
  mismatches : Nat
  quorum : Bool
  deriving DecidableEq, Repr

/-- Lock states (03 R103). -/
inductive LockState where
  | free | held | broken
  deriving DecidableEq, Repr

/-- A lock's copy: state, AFTER_BREAK, owner member and session, epoch at acquire (03 R103, R107). -/
structure Lock where
  state : LockState
  afterBreak : Bool
  member : Nat
  sess : Nat
  epoch : Word
  deriving DecidableEq, Repr

/-- A lock request sent to the lock server and not answered: lock, request, the session and item it came from
(03 R103). -/
structure LockReq where
  lock : Nat
  op : Nat
  path : Path
  item : Option Nat
  deriving DecidableEq, Repr

/-- An acquire that the lock server has recorded and that waits for a majority of voters to have recorded it: the lock as it was,
the owner's member and session, and the voters that have recorded it (03 R103). -/
structure LockGrant where
  lock : Nat
  old : Lock
  member : Nat
  sess : Nat
  acks : List Nat
  deriving DecidableEq, Repr

/-- Device power states (15 R387). -/
inductive PwrState where
  | run | drowse | dormant | shelf | waking | settling
  deriving DecidableEq, Repr

/-- Settling steps (15 R394). -/
inductive SettleStep where
  | flush | stopPcie | retainPorts | stopPlls | lowerCore
  | linksOff | retainMem | saveCore | stopCore | retentionVoltage | startCount
  | portsOff | clearDebug | mainEnLow | toVbat
  deriving DecidableEq, Repr

/-- A wake latch entry (15 R396). -/
structure Wake where
  source : Nat
  port : Nat
  stamp : Nat
  deriving DecidableEq, Repr

/-- Service port states (13 R366). -/
inductive SvcState where
  | deadBattery | unattachedSnk | unattachedSrc | attachedSnk | attachedSrc
  deriving DecidableEq, Repr

/-- Reaction slot states (16 R417). -/
inductive SlotState where
  | free | armed | escalated
  deriving DecidableEq, Repr

/-- A latched fault record (16 R428, FLT_FIRST). -/
structure FltRec where
  source : Nat
  inst : Nat
  cls : Nat
  die : Nat
  injected : Bool
  /-- Hub time of the occurrence. -/
  time : Nat
  deriving DecidableEq, Repr

/-- A die-to-die link: repeats of the present unit, whether it retrains, failures in succession, whether it is lost, repeats
that succeeded, whether the errors of the present retrain were injected, and the results of transactions held by back-pressure
during a retrain, oldest first (01 R21 to R25; 16 R425). -/
structure DieLink where
  repeats : Nat
  retraining : Bool
  fails : Nat
  lost : Bool
  repeated : Nat
  injected : Bool
  held : List (Nat × XactRes)
  deriving DecidableEq, Repr

/-- Start-up phases (17 R454 BOOT_STAT.PHASE). -/
inductive Phase where
  | startup | bist | recovery | service
  deriving DecidableEq, Repr

/-- A valid configuration copy in the boot flash: sequence number, B-class values by object key, Collection epoch,
boot count, recorded house extents (17 R437, R438, 10 R281). -/
structure FlashCfg where
  seq : Nat
  values : SMap (Option Bytes)
  epoch : Word
  boots : Nat
  house : List (Nat × Nat)
  deriving DecidableEq, Repr

/-- A namespace of the Vault: its state code, drive, NSID, first region of its usable regions and their number
(10 R272, R273). -/
structure Nspace where
  code : Nat
  drive : Nat
  nsid : Nat
  first : Nat
  regions : Nat
  deriving DecidableEq, Repr

/-- Target states of a fan-out job (10 R295). -/
inductive TgtState where
  | queued | streaming | catching | held | verifying | ended
  deriving DecidableEq, Repr

/-- A target of a fan-out job (10 R290, R295): device and pipes, first chunk, base offset, state and remembered state,
the chunk in hand, TAG of the present exchange, retries of it, chunks written, whether the chunk in hand was repaired,
whether an exchange or a read for it runs, whether the staged chunk is read, the verdict of a verify read, staging
held, outcome and detail. -/
structure Target where
  device : Nat
  cmd : Nat
  out : Nat
  inp : Nat
  stat : Nat
  first : Nat
  base : Nat
  state : TgtState
  remembered : TgtState
  chunk : Nat
  tag : Nat
  retries : Nat
  written : Nat
  repairing : Bool
  repaired : Bool
  busy : Bool
  loaded : Bool
  verdict : Option Bool
  staging : Bool
  outcome : Nat
  detail : Nat
  deriving DecidableEq, Repr

/-- Mover channel states (11 R319). -/
inductive ChanState where
  | idle | running | halted | stopping
  deriving DecidableEq, Repr

/-- The Ethernet, IP and UDP layers of a frame the hub sends, as R118 fixes them: source MAC address, the tag control word of an
IEEE 802.1Q tag where there is one, EtherType after it, IP source and destination, traffic class byte, flow label, TTL or hop limit,
DF, and the UDP ports and checksum (04 R118). -/
structure Layers where
  srcMac : Bytes
  tag : Option Nat
  etherType : Nat
  src : Bytes
  dst : Bytes
  tos : Nat
  flow : Nat
  ttl : Nat
  df : Bool
  srcPort : Nat
  dstPort : Nat
  check : Nat
  deriving DecidableEq, Repr

/-- An Isaix frame the hub sends, apart from the layers of the link it takes: the fields of its header, its SACK blocks, its payload
in plaintext, the ciphertext with the GCM tag, and the peer's address and port (04 R118, R121, R123). -/
structure OutFrame where
  typ : Nat
  sess : Nat
  tenant : Nat
  flags : Nat
  seq : Nat
  ack : Nat
  window : Nat
  sacks : List (Nat × Nat)
  txc : Nat
  tsval : Nat
  tsecr : Nat
  payload : Bytes
  sealed : Bytes
  peer : Bytes
  peerPort : Nat
  deriving DecidableEq, Repr

/-- What the hub sends or drives, in order (log entry 3). -/
inductive Sent where
  | can (cob : Nat) (data : Bytes)
  | spi (data : Bytes)
  | svc (data : Bytes)
  | reg (addr : Nat) (val : Word)
  | isaix (link : Nat) (eth : Layers) (f : OutFrame)
  | train (link : Nat) (phy : Nat) (negotiate : Bool)
  | nerquelu (member : Nat) (typ : Nat) (addr : Bytes) (port : Nat) (header : Bytes) (body : Bytes) (sealed : Bytes)
  | ptp (link : Nat) (domain : Nat) (port : Nat)
  | usb (port : Nat) (addr : Nat) (setup : Bytes)
  | bus (port : Nat) (code : Nat) (arg : Nat)
  | xact (pipe : Nat) (stage : Nat) (bytes : Nat)
  | jobOut (pipe : Nat) (stream : Nat) (data : Bytes)
  | jobIn (pipe : Nat) (stream : Nat) (bytes : Nat)
  | pd (port : Nat) (sop : Nat) (msg : Nat) (args : List Nat)
  | pmbus (gallery : Nat) (addr : Nat) (cmd : Nat) (arg : Nat)
  | nvme (drive : Nat) (op : Nat) (lba : Nat) (blocks : Nat) (fua : Bool)
  | nvmeAdmin (drive : Nat) (op : Nat) (arg : Nat)
  | wingCopy (wing : Nat) (job : Nat) (chunk : Nat) (bytes : Nat)
  | avs (mv : Nat)
  | pin (code : Nat) (arg : Nat) (level : Bool)
  | jtag (data : Nat)
  | answer (path : Path) (index : Nat) (sub : Nat) (abort : Nat)
  deriving DecidableEq, Repr

/-- The USB side of one port: the port state machine of R182 and its tree. -/
structure PortUsb where
  /-- port state code (06 R165/R200 PORT_STAT.STATE). -/
  state : PortState
  /-- speed code of the link (06 R166/R200 PORT_STAT.SPEED). -/
  speed : Speed
  /-- present fallback cap, as a speed code (06 R186/R200 PORT_STAT.CAP). -/
  cap : Nat
  /-- 0 U0/L0, 1 U1/L1, 2 U2, 3 U3/L2 (06 R200 PORT_STAT.LINKPM). -/
  linkpm : Nat
  /-- suspend current above the limit (06 R195/R200 PORT_STAT.NONCOMPLIANT). -/
  noncompliant : Bool
  /-- W1C event bits (06 R200 PORT_EVT). -/
  evt : BitVec 12
  /-- interrupt enables (06 R200 PORT_IRQ_EN). -/
  irqEn : BitVec 12
  /-- connection being confirmed or confirmed (06 R168). -/
  connKind : ConnKind
  /-- SuperSpeed disabled until the next disconnect (06 R170/R186). -/
  ssDisabled : Bool
  /-- USB 2.0 pull-up present now (D+ or D-) (06 R170/R171). DESIGN CHOICE 4. -/
  pullUp : ConnKind
  /-- reset or training in progress (06 R172). -/
  resetKind : ResetKind
  /-- failed attempts of the present reset (06 R175). -/
  resetTries : Nat
  /-- waiting tRSTRCY after a trained reset (06 R174). -/
  timebaseFrom : Bool
  /-- the deferred reset/suspend/disable request (06 R183). -/
  deferred : Option Deferred
  /-- a fallback is in progress (06 R186). -/
  fallback : Bool
  /-- the items of the tree are held (06 R183). -/
  hold : Bool
  /-- restore pending or running (RESTORING) (06 R188/R189). -/
  restore : Option Restore
  /-- who suspended the tree (06 R191/R192). -/
  suspBy : SuspBy
  /-- a suspend entry is in progress (06 R191/R198). -/
  suspEntry : Bool
  /-- a remote wake arrived during the entry (06 R198). -/
  wakeInEntry : Bool
  /-- the tSUSCHK check is due (06 R195). -/
  suspCheck : Bool
  /-- resume signalling is driven (06 R193). -/
  resuming : Bool
  /-- Recoveries inside tRECWIN (06 R185). -/
  recWindow : Nat
  /-- recoveries since boot, saturating (06 R199 0x8203:p). -/
  recoveries : BitVec 32
  /-- fallbacks since boot (06 R199 0x8204:p). -/
  fallbacks : BitVec 32
  /-- restores done since boot (06 R199 0x8205:p). -/
  restoresDone : BitVec 32
  /-- restores failed since boot (06 R199 0x8206:p). -/
  restoresFailed : BitVec 32
  /-- devices refused by R179 (06 R199 0x8207:p). -/
  devRefused : BitVec 32
  /-- last suspend current, sample units (06 R199 0x8208:p). -/
  suspCurrent : Int
  /-- devices of the tree the Registrar enumerated or knows (06 R177/R188). -/
  devices : List Device
  /-- addresses held back until old items' completions are formed (06 R177). -/
  heldAddrs : List Nat
  /-- enumerations in progress, the first one served (06 R177/R178). -/
  enums : List Enum
  /-- recorded devices still to restore (06 R188). -/
  restoreDevs : List Device
  /-- source and instance of the fault that contained the port (16 R411). -/
  containedBy : Option (Nat × Nat)
  /-- item of the reset or suspend in progress (06 R183/05 R153). -/
  actionItem : Option Nat
  /-- items of the resume requests in progress (06 R193/05 R153). -/
  resumeItems : List Nat
  /-- RC masked replays (07 R235 XACT_STAT.REPLAYS). -/
  replays : BitVec 16
  /-- RC budgets exhausted (07 R235 XACT_STAT.EXHAUSTED). -/
  exhausted : BitVec 16
  /-- masked replays since boot (07 R234 0x8210:p). -/
  replaysTotal : BitVec 32
  /-- budgets exhausted since boot (07 R234 0x8211:p). -/
  exhaustedTotal : BitVec 32
  /-- last pipe served by the bulk round-robin (07 R222). -/
  rrNext : Nat
  /-- last pipe served by the control round-robin (07 R222). -/
  rrCtl : Nat
  /-- ns of the present microframe not yet used (07 R222/R224). -/
  busLeft : Nat
  /-- packets each bulk pipe moved in this microframe (07 R225). -/
  burst : List (Nat × Nat)
  /-- periodic translator slots used in the present microframe (08 R239). -/
  slots : Nat
  /-- requests of the Registrar that wait or run, the one in progress first: address, SETUP, and 0 none, 1 an enumeration or restore, 2 a map read waiting for it (07 R201/R230). -/
  requests : List (Nat × (Bytes × Nat))
  /-- pipes with a transaction on the bus (07 R222). -/
  inFlight : List Nat
  /-- VBUS-allowed, parity-protected register (02 R77/R78, 14 R384). -/
  vbusAllowedReg : Bool
  /-- port loan owner: 0 none, 1 to 64 (03 R87/R93 0x4001:p). -/
  loanOwner : Nat
  deriving DecidableEq, Repr

/-- PortUsb at reset. -/
def PortUsb.reset : PortUsb where
  state := .unpowered
  speed := .none
  cap := 7
  linkpm := 0
  noncompliant := false
  evt := 0
  irqEn := 0
  connKind := .none
  ssDisabled := false
  pullUp := .none
  resetKind := .none
  resetTries := 0
  timebaseFrom := false
  deferred := none
  fallback := false
  hold := false
  restore := none
  suspBy := .none
  suspEntry := false
  wakeInEntry := false
  suspCheck := false
  resuming := false
  recWindow := 0
  recoveries := 0
  fallbacks := 0
  restoresDone := 0
  restoresFailed := 0
  devRefused := 0
  suspCurrent := 0
  devices := []
  heldAddrs := []
  enums := []
  restoreDevs := []
  containedBy := none
  actionItem := none
  resumeItems := []
  replays := 0
  exhausted := 0
  replaysTotal := 0
  exhaustedTotal := 0
  rrNext := 0
  rrCtl := 0
  busLeft := 0
  burst := []
  slots := 0
  requests := []
  inFlight := []
  vbusAllowedReg := false
  loanOwner := 0

/-- The power-contract side of one port: CC, Rp, VCONN, PD (13). -/
structure PortPwr where
  /-- CC state (13 R342/R368 PWR_STAT.CC_STATE). -/
  cc : CcState
  /-- CC2 orientation (13 R341, 06 R200 PORT_STAT.ORIENT). -/
  orient : Bool
  /-- Ra on the other CC: the cable needs VCONN (13 R342). -/
  ra : Bool
  /-- Rd is seen now (13 R342). -/
  rd : Bool
  /-- the accessory presence was already flagged (13 R342). -/
  accessory : Bool
  /-- contract kind 0 to 9 (13 R367 0x8271:p, PWR_STAT.KIND). -/
  kind : Nat
  /-- 10 mV units (13 R368 PWR_CONTRACT.VOLTAGE). -/
  voltage : Nat
  /-- 10 mA units (13 R368 PWR_CONTRACT.CURRENT). -/
  current : Nat
  /-- contract power, mW (13 R353/R367 0x8270:p). -/
  power : Nat
  /-- Rp advertised (13 R345/R368 PWR_STAT.RP). -/
  rp : Nat
  /-- current limit in mA that protection holds (14 R373). DESIGN CHOICE 5. -/
  ilim : Nat
  /-- current limit that stands after the transition or tRPADJ (14 R373). DESIGN CHOICE 5. -/
  ilimNext : Nat
  /-- current limit in mA that follows tRPADJ after Rp fell (14 R373, 13 R345). -/
  rpNext : Option Nat
  /-- hub time until which I_lim is held after PS_RDY (14 R373). -/
  ilimUntil : Option Nat
  /-- BC 1.2 primary detection was completed on this attach (13 R346). -/
  bcDone : Bool
  /-- a PD negotiation is in progress (13 R357). -/
  negot : Bool
  /-- I_lim held at the larger value (14 R373/R386 PROT_STAT.ILIM_HELD). -/
  ilimHeld : Bool
  /-- an explicit PD contract stands (13 R345/R353). -/
  explicit : Bool
  /-- the sink's Request set No USB Suspend (06 R194). -/
  noSuspend : Bool
  /-- the contract's offer carried USB Suspend Supported (06 R194/13 R352). -/
  offerSusp : Bool
  /-- EPR mode (13 R353/R368 PWR_STAT.EPR). -/
  epr : Bool
  /-- the offers of the last Source_Capabilities sent (13 R352). -/
  offers : List Offer
  /-- Source_Capabilities sent, up to 50 (13 R351). -/
  capCount : Nat
  /-- the sink answered Source_Capabilities with GoodCRC (13 R351). -/
  goodCrc : Bool
  /-- voltage and current of a transition in progress (13 R354). -/
  transition : Option (Nat × Nat)
  /-- voltage before the transition in progress (14 R377). -/
  oldVoltage : Nat
  /-- a renegotiation starts when the present one ends (13 R357). -/
  renegOwed : Bool
  /-- the contract lies outside the new offers (13 R357). -/
  mustReq : Bool
  /-- VCONN applied (13 R347/R368 PWR_STAT.VCONN_ON). -/
  vconn : Bool
  /-- VCONN enable, parity-protected register (02 R77). -/
  vconnAllowed : Bool
  /-- VCONN stays off until the next attach (13 R348). -/
  vconnFaulted : Bool
  /-- Discover Identity attempts on SOP' (13 R349). -/
  discCount : Nat
  /-- Discover Identity is also sent on SOP'' (13 R349). -/
  disc2 : Bool
  /-- cable identity read (13 R349/R350 0x8273:p). -/
  cable : Option Cable
  /-- stage temperature warning: ceiling lowered (13 R359). -/
  warn : Bool
  /-- a stage fault is present or unread (13 R359). -/
  stageFault : Bool
  /-- MFR_VOUT_MAX read, mV (13 R359). DESIGN CHOICE 5. -/
  stageMax : Nat
  /-- VOUT_COMMAND written, mV (13 R358). DESIGN CHOICE 5. -/
  vout : Nat
  /-- W1C events (13 R368 PWR_EVT). -/
  evt : BitVec 12
  /-- interrupt enables (13 R368 PWR_IRQ_EN). -/
  irqEn : BitVec 12
  /-- hard resets (13 R367 0x8274:p). -/
  hardResets : BitVec 32
  /-- VBUS held at vSafe0V for tSRCRCV (13 R356). -/
  inHardReset : Bool
  deriving DecidableEq, Repr

/-- PortPwr at reset. -/
def PortPwr.reset : PortPwr where
  cc := .unattached
  orient := false
  ra := false
  rd := false
  accessory := false
  kind := 0
  voltage := 0
  current := 0
  power := 0
  rp := 0
  ilim := 900
  ilimNext := 900
  rpNext := none
  ilimUntil := none
  bcDone := false
  negot := false
  ilimHeld := false
  explicit := false
  noSuspend := false
  offerSusp := false
  epr := false
  offers := []
  capCount := 0
  goodCrc := false
  transition := none
  oldVoltage := 0
  renegOwed := false
  mustReq := false
  vconn := false
  vconnAllowed := false
  vconnFaulted := false
  discCount := 0
  disc2 := false
  cable := none
  warn := false
  stageFault := false
  stageMax := 65535
  vout := 0
  evt := 0
  irqEn := 0
  hardResets := 0
  inHardReset := false

/-- Switching and protection of one port, on the sentry die (14). -/
structure PortProt where
  /-- switch state (14 R384/R386 PROT_STAT.SW_STATE). -/
  sw : SwState
  /-- phase of the power-up (14 R378). -/
  rampPhase : RampPhase
  /-- an off request is pending (14 R378/R380 PROT_STAT.OFF_PENDING). -/
  offPend : Bool
  /-- an on request is pending (14 R379/R380 PROT_STAT.ON_PENDING). -/
  onPend : Bool
  /-- items of the off requests pending or in hand (14 R490). -/
  offItems : List Nat
  /-- items of the on requests pending or in hand (14 R490). -/
  onItems : List Nat
  /-- trips in the present sequence (14 R381/R386 PROT_STAT.TRIPS). -/
  trips : Nat
  /-- a trip sequence is in progress (14 R381). -/
  tripSeq : Bool
  /-- the present power-up is a retry (14 R381). -/
  retrying : Bool
  /-- hub time at which the present power-up began (14 R381). -/
  rampAt : Nat
  /-- off time now running, ms (14 R381). -/
  offTime : Nat
  /-- last trip cause (14 R377/R386 PROT_STAT.CAUSE). -/
  cause : Nat
  /-- k - 1 of the last curve trip (14 R386 PROT_TRIP.BREAKPOINT). -/
  breakpoint : Nat
  /-- sample at the trip (14 R386 PROT_TRIP.CURRENT). -/
  tripCurrent : Int
  /-- gate driven (14 R386 PROT_STAT.GATE_ON, 18 R463 PnGATE). -/
  gate : Bool
  /-- bleed switch closed (14 R386 PROT_STAT.BLEED_ON, PnVBUS_DIS). -/
  bleed : Bool
  /-- VBUS good (14 R386 PROT_STAT.VBUS_GOOD). -/
  vbusGood : Bool
  /-- W1C events (14 R386 PROT_EVT). -/
  evt : BitVec 5
  /-- interrupt enables (14 R386 PROT_IRQ_EN). -/
  irqEn : BitVec 5
  /-- VBUS sample, 4 mV units (14 R386 PROT_SAMPLE.VBUS, 0x8282:p). -/
  vSample : Nat
  /-- current sample, offset removed (14 R386 PROT_SAMPLE.CURRENT, 0x8283:p). -/
  iSample : Int
  /-- last raw sample before the input disconnect (14 R371). -/
  rawLast : Int
  /-- RC sticky peak (14 R386 PROT_PEAK.PEAK). -/
  peak : Int
  /-- last 16 offset measurements, newest first (14 R371). -/
  offsets : List Int
  /-- input-disconnect switch open (14 R371). -/
  measuring : Bool
  /-- accumulators A_1 to A_8, us (14 R374). -/
  acc : List Nat
  /-- dividers of the breakpoints (14 R374). -/
  div : List Nat
  /-- us with VBUS above 1.15 x target (14 R377). -/
  ovRun : Nat
  /-- us with current below -100 mA (14 R377). -/
  revRun : Nat
  /-- trips since boot (14 R385 0x8280:p). -/
  tripsTotal : BitVec 32
  /-- exhaustions since boot (14 R385 0x8285:p). -/
  exhaustions : BitVec 32
  /-- sentry die's copy of VBUS-allowed (02 R77, 14 R384). -/
  vbusAllowed : Bool
  /-- sentry die's copy of the fast-trip threshold, sample units (14 R376, 17 R434). -/
  sentryFast : Nat
  /-- the curve the sentry die keeps while its link is lost (01 R24). -/
  heldCurve : Option (List (Nat × Nat))
  /-- requests at the switch held while the sentry link is lost: 0 off, 1 on, 2 detach, with their items (01 R24). -/
  heldReqs : List (Nat × Option Nat)
  /-- VBUS has not drained: the FET is taken as shorted (14 R383). -/
  stuck : Bool
  /-- sum of V x I over the samples since the last gallery sum, mW (13 R362). -/
  mwSum : Nat
  /-- samples in that sum (13 R362). -/
  mwCnt : Nat
  deriving DecidableEq, Repr

/-- PortProt at reset. -/
def PortProt.reset : PortProt where
  sw := .off
  rampPhase := .offset
  offPend := false
  onPend := false
  offItems := []
  onItems := []
  trips := 0
  tripSeq := false
  retrying := false
  rampAt := 0
  offTime := 0
  cause := 0
  breakpoint := 0
  tripCurrent := 0
  gate := false
  bleed := false
  vbusGood := false
  evt := 0
  irqEn := 0
  vSample := 0
  iSample := 0
  rawLast := 0
  peak := 0
  offsets := []
  measuring := false
  acc := [0,0,0,0,0,0,0,0]
  div := [0,0,0,0,0,0,0,0]
  ovRun := 0
  revRun := 0
  tripsTotal := 0
  exhaustions := 0
  vbusAllowed := false
  sentryFast := 8000
  heldCurve := none
  heldReqs := []
  stuck := false
  mwSum := 0
  mwCnt := 0

/-- Microframe timebase of one port (09). -/
structure PortFt where
  /-- the timebase runs (09 R260). -/
  running : Bool
  /-- microframe count; reads 0 while stopped (09 R259/R269 FT_PORT.COUNT). -/
  count : BitVec 32
  /-- count bias B (09 R259/R269 FT_PORT.BIAS). -/
  bias : BitVec 32
  /-- trim, 1/256 step (09 R262/R269 FT_PORT.TRIM). -/
  trim : Int
  /-- accumulator of the trim's fraction (09 R262). -/
  frac : Nat
  /-- length of the present microframe in steps of 1/16 HS bit time (09 R262). -/
  steps : Nat
  /-- hub time at which the present microframe began (07 R222). -/
  began : Nat
  /-- phase error, ns (09 R264/R269 FT_PORT.PHASE). -/
  phase : Int
  /-- frequency term last learned (09 R266). -/
  learned : Int
  /-- microframes since the trim last changed (09 R263). -/
  sinceTrim : Nat
  /-- hub-time step not yet absorbed at a boundary (09 R265). -/
  stepOwed : Int
  /-- trim at the limit (09 R267). -/
  saturated : Bool
  deriving DecidableEq, Repr

/-- PortFt at reset. -/
def PortFt.reset : PortFt where
  running := false
  count := 0
  bias := 0
  trim := 0
  frac := 0
  steps := 960000
  began := 0
  phase := 0
  learned := 0
  sinceTrim := 0
  stepOwed := 0
  saturated := false

/-- FIFO levels and errors of one port (12). -/
structure PortMem where
  /-- RC sticky peak OUT (12 R340 FIFO_PEAK). -/
  outPeak : Nat
  /-- RC sticky peak IN (12 R340 FIFO_PEAK). -/
  inPeak : Nat
  /-- RC (12 R340 FIFO_ECC.CORRECTED). -/
  corrected : BitVec 16
  /-- RC (12 R340 FIFO_ECC.UNCORRECTABLE). -/
  uncorrectable : BitVec 8
  /-- since boot (12 R339 0x8264:p). -/
  correctedTotal : BitVec 32
  deriving DecidableEq, Repr

/-- PortMem at reset. -/
def PortMem.reset : PortMem where
  outPeak := 0
  inPeak := 0
  corrected := 0
  uncorrectable := 0
  correctedTotal := 0

/-- One gallery: translator, budget, PMBus segment (08, 13). -/
structure Gallery where
  /-- holders of the 16 non-periodic translator buffers: port and pipe context, in order (08 R240). -/
  npHeld : List (Nat × Nat)
  /-- RC sticky peak (08 R255 TRANS_STAT.NP_PEAK). -/
  npPeak : Nat
  /-- pipes whose split waits for a buffer (08 R240). -/
  npWaiting : List Nat
  /-- RC saturating (08 R255 TRANS_STAT.NP_WAITS). -/
  npWaits : Nat
  /-- port that took a shared buffer last, for the round-robin (08 R240). -/
  npTurn : Nat
  /-- translator slots non-periodic splits used in the present 125 us of hub time (08 R239). -/
  npSlots : Nat
  /-- that 125 us of hub time (08 R239). -/
  slotWin : Nat
  /-- raise queue, head first (13 R363). -/
  raiseQ : List Nat
  /-- frozen by a PMBus segment held low (13 R360 GAL_PWR_EVT.FROZEN). -/
  frozenBus : Bool
  /-- frozen by the Curator watchdog (16 R413 source 0x3F). -/
  frozenCur : Bool
  /-- frozen by a lost sentry link (01 R24/13 R360). -/
  frozenLink : Bool
  /-- mW measured over 100 ms (13 R362 0x8276:g, GAL_PWR.MEASURED). -/
  measured : Nat
  /-- 100 ms sums in succession above budget + 5 % (13 R362). -/
  overRun : Nat
  /-- W1C (13 R368 GAL_PWR_EVT.OVERDRAW). -/
  overdraw : Bool
  /-- RW (13 R368 GAL_PWR_EVT.IRQ_EN). -/
  irqEn : Bool
  deriving DecidableEq, Repr

/-- Gallery at reset. -/
def Gallery.reset : Gallery where
  npHeld := []
  npPeak := 0
  npWaiting := []
  npWaits := 0
  npTurn := 0
  npSlots := 0
  slotWin := 0
  raiseQ := []
  frozenBus := false
  frozenCur := false
  frozenLink := false
  measured := 0
  overRun := 0
  overdraw := false
  irqEn := false

/-- One pipe context of the pipe store (07 R204). -/
structure Pipe where
  /-- Free, Open, Halted, Closing (07 R204 STATE). -/
  state : PipeState
  /-- 0 control, 1 isochronous, 2 bulk, 3 interrupt (07 R204 TYPE). -/
  typ : Nat
  /-- IN (07 R204 DIR). -/
  dirIn : Bool
  /-- 0 Prompt, 1 Steady, 2 Bulk (07 R204 CLASS). -/
  cls : Nat
  /-- 1 to 96 (07 R204 PORT). -/
  port : Nat
  /-- a stream context (07 R204 STREAM_CTX). -/
  streamCtx : Bool
  /-- USB address (07 R204 ADDRESS). -/
  address : Nat
  /-- endpoint number (07 R204 ENDPOINT). -/
  endpoint : Nat
  /-- speed code (07 R204 SPEED). -/
  speed : Nat
  /-- 0 STALL, 1 budget (07 R204 HALT_CAUSE). -/
  haltCause : Bool
  /-- owner tag (07 R204 TENANT). -/
  tenant : Nat
  /-- replay budget (07 R204 BUDGET). -/
  budget : Nat
  /-- re-issues of the present transaction (07 R204 REPLAYS). -/
  replays : Nat
  /-- (07 R204 MAX_PACKET). -/
  maxPacket : Nat
  /-- (07 R204 BURST). -/
  burst : Nat
  /-- (07 R204 MULT). -/
  mult : Nat
  /-- period 2^n microframes (07 R204 INTERVAL). -/
  interval : Nat
  /-- DATA1 (07 R204 TOGGLE). -/
  toggle : Bool
  /-- sequence number (07 R204 SEQ). -/
  seq : BitVec 5
  /-- number of streams, or stream ID (07 R204 STREAM). -/
  stream : Nat
  /-- first stream context, or parent (07 R204 LINK). -/
  link : Nat
  /-- (07 R204 BYTES_PER_INTERVAL). -/
  bytesPerInterval : Nat
  /-- PATH, HUB_ADDR, TT_PORT (07 R204/08 R237 SPLIT). -/
  split : Nat
  /-- (07 R204 PHASE). -/
  phase : Nat
  /-- (07 R204 ORDER). -/
  order : Nat
  /-- (07 R204 NEXT_DUE). -/
  nextDue : BitVec 32
  /-- queued items, head first (07 R204 QUEUE_HEAD/QUEUE_TAIL). -/
  queue : List Nat
  /-- bytes of the item in progress moved (07 R204 ITEM_DONE). -/
  itemDone : BitVec 32
  /-- buffered copy of the transaction in progress (07 R204 REISSUE_PTR/REISSUE_LEN). -/
  reissueLen : Nat
  /-- masked replays (07 R204 REPLAYS_TOTAL). -/
  replaysTotal : BitVec 16
  /-- a transaction is in progress (07 R209). -/
  inXact : Bool
  /-- new toggle or SEQ that stands after the transaction in progress (07 R215). -/
  resyncOwed : Option Nat
  /-- NAK, PING and NRDY flow control (07 R227). -/
  flow : Flow
  /-- fan-out job, capture or mover channel that holds the pipe (10 R284, 11 R314). -/
  heldBy : PipeHold
  /-- wire start offset in its frame, ns (08 R238). -/
  wireOff : Nat
  /-- microframe of the start-split in progress; none where no split is (08 R238). -/
  ssFrame : Option Nat
  /-- bytes of an isochronous OUT packet already sent in start-splits to an external translator (08 R242). -/
  ssSent : Nat
  /-- microframe of the last complete-split of the split in progress (08 R238). -/
  csFrame : Option Nat
  /-- result a translator holds until its complete-split retrieves it (08 R238/R240). -/
  wireRes : Option XactRes
  /-- microframe in which that result arose (08 R238). -/
  wireAt : Nat
  /-- packets moved in the present service of an interrupt pipe (07 R222). -/
  svc : Nat
  /-- an ERDY gives the pipe the next turn of its step (07 R227). -/
  erdy : Bool
  /-- stream the device has moved the pipe to and that is not served yet; 0 none (07 R228). -/
  devStream : Nat
  deriving DecidableEq, Repr

/-- Pipe at reset. -/
def Pipe.reset : Pipe where
  state := .free
  typ := 0
  dirIn := false
  cls := 0
  port := 0
  streamCtx := false
  address := 0
  endpoint := 0
  speed := 0
  haltCause := false
  tenant := 0
  budget := 0
  replays := 0
  maxPacket := 0
  burst := 0
  mult := 0
  interval := 0
  toggle := false
  seq := 0
  stream := 0
  link := 0
  bytesPerInterval := 0
  split := 0
  phase := 0
  order := 0
  nextDue := 0
  queue := []
  itemDone := 0
  reissueLen := 0
  replaysTotal := 0
  inXact := false
  resyncOwed := none
  flow := .ready
  heldBy := .none
  wireOff := 0
  ssFrame := none
  ssSent := 0
  csFrame := none
  wireRes := none
  wireAt := 0
  svc := 0
  erdy := false
  devStream := 0

/-- One item of a session (05 R153 to R162). -/
structure Item where
  /-- session that carried it (05 R153). -/
  sess : Nat
  /-- tenant, 0 operator (05 R150). -/
  principal : Nat
  /-- accession number (05 R156). -/
  acc : Nat
  /-- opcode (05 R153). -/
  op : Nat
  /-- port concerned, 0 none (05 R153). -/
  port : Nat
  /-- pipe of a TRANSFER (05 R153). -/
  pipe : Option Nat
  /-- (05 R153 FLAGS). -/
  isIn : Bool
  /-- (05 R153 FLAGS). -/
  shortOk : Bool
  /-- (05 R153 FLAGS). -/
  zlp : Bool
  /-- (05 R153 LENGTH). -/
  length : Nat
  /-- (05 R153 SETUP). -/
  setup : Bytes
  /-- (05 R153 STREAM). -/
  stream : Nat
  /-- (05 R153 ISO_START). -/
  isoStart : Nat
  /-- (05 R153 ISO_PACKETS). -/
  isoPackets : Nat
  /-- per-packet outcome and bytes (05 R153). -/
  isoDone : List (Nat × Nat)
  /-- OUT_DATA bytes carried so far (05 R154). -/
  outNext : Nat
  /-- OUT_DATA bytes waiting (05 R154). -/
  outData : Bytes
  /-- us from arrival; 0 none (05 R153 DEADLINE). -/
  deadline : Nat
  /-- hub time of arrival (05 R153). -/
  arrived : Nat
  /-- bytes moved on the bus (05 R154 ACTUAL). -/
  moved : Nat
  /-- ranked cause chosen so far: outcome and detail (05 R159). -/
  cause : Option (Nat × Nat)
  /-- control transfer: 0 setup, 1 data, 2 status (07 R209/R217). -/
  stage : Nat
  /-- items whose completions it waits for (07 R210). -/
  closes : List Nat
  /-- first block of a Vault item (10 R282). -/
  vault : Nat
  /-- blocks of a Vault item (10 R282). -/
  blocks : Nat
  /-- the record's body, kept while the item waits for Run (05 R153/15 R389). -/
  body : Bytes
  deriving DecidableEq, Repr

/-- Item at reset. -/
def Item.reset : Item where
  sess := 0
  principal := 0
  acc := 0
  op := 0
  port := 0
  pipe := none
  isIn := false
  shortOk := false
  zlp := false
  length := 0
  setup := []
  stream := 0
  isoStart := 0
  isoPackets := 0
  isoDone := []
  outNext := 0
  outData := []
  deadline := 0
  arrived := 0
  moved := 0
  cause := none
  stage := 0
  closes := []
  vault := 0
  blocks := 0
  body := []

/-- One Isaix session (04, 05). -/
structure Session where
  /-- session state (05 R145). -/
  state : SessState
  /-- Held was entered from Draining (05 R145). -/
  heldFrom : Bool
  /-- the end was a loss: SESS_STAT.STATE reads 3 (05 R145). -/
  lossEnd : Bool
  /-- address the peer's last accepted frame came from (04 R118). -/
  peer : Bytes
  /-- port the peer's last accepted frame came from: its session port (04 R118). -/
  peerPort : Nat
  /-- a house session that ends once the response of the write that disabled its path has been sent (05 R146). -/
  pathEnd : Bool
  /-- (05 R142 CLOSED REASON). -/
  reason : Nat
  /-- (05 R142 ITEMS_ENDED). -/
  ended : Nat
  /-- (04 R137 SESS_STAT.TENANT). -/
  tenant : Nat
  /-- inputs of the session key; zeroed at the end (05 R141). -/
  key : SessKey
  /-- accession block (05 R157). -/
  block : Nat
  /-- expected item index (05 R156). -/
  expect : Nat
  /-- whether the ACCESSION_GAP event of the expected index has been sent (05 R156). -/
  gapTold : Bool
  /-- session item limit at open (05 R158). -/
  itemLimit : Nat
  /-- size of each buffer (04 R132). -/
  bufKib : Nat
  /-- bytes reserved in the ledger area (05 R160). -/
  ledgerRes : Nat
  /-- records waiting to be framed, oldest first; at most 1,024 of them events (05 R163) (05 R155). -/
  txQueue : List HubRec
  /-- records of items on periodic pipes waiting to be framed, oldest first (07 R231, R233). -/
  perQueue : List HubRec
  /-- events dropped and not yet reported (05 R163). -/
  evLost : Nat
  /-- next SEQ to send (04 R137 TX_NEXT). -/
  txNext : Nat
  /-- oldest unacknowledged SEQ (04 R137 TX_OLDEST). -/
  txOldest : Nat
  /-- next SEQ expected (04 R137 RX_NEXT). -/
  rxNext : Nat
  /-- replay buffer, oldest first (04 R128). -/
  replay : List Replay
  /-- RC sticky peak of HELD (04 R137 HELD_PEAK). -/
  heldPeak : Nat
  /-- frames received out of order: SEQ, TYPE and payload (04 R131). -/
  rxBuf : List (Nat × (Nat × Bytes))
  /-- SACK blocks of the last frame that carried any (04 R121/R130). -/
  peerSacks : List (Nat × Nat)
  /-- peer's last WINDOW, KiB (04 R121 WINDOW). -/
  window : Nat
  /-- next TXC to send (04 R124/R137 TXC). -/
  txc : Nat
  /-- last TXC accepted from the peer (04 R122). -/
  rxTxc : Option Nat
  /-- DATA frames received in order and not acknowledged (04 R129). -/
  unacked : Nat
  /-- TSVAL of the last frame received (04 R121 TSECR). -/
  tsRecent : BitVec 32
  /-- smoothed round trip, us (04 R130). -/
  srtt : Nat
  /-- round trip variation, us (04 R130). -/
  rttvar : Nat
  /-- present timeout, us (04 R130). -/
  rto : Nat
  /-- expiries in succession (04 R130). -/
  rtoCount : Nat
  /-- (04 R137 CAUSE_SPAN). -/
  stallSpanNow : Bool
  /-- (04 R137 CAUSE_BUFFER). -/
  stallBufNow : Bool
  /-- (04 R137 CAUSE_WINDOW). -/
  stallWinNow : Bool
  /-- saturating (04 R137 STALL_SPAN). -/
  stallSpan : BitVec 32
  /-- saturating (04 R137 STALL_BUFFER). -/
  stallBuf : BitVec 32
  /-- saturating (04 R137 STALL_WINDOW). -/
  stallWin : BitVec 32
  /-- saturating (04 R137 RETX). -/
  retx : BitVec 32
  /-- blocks whose LEDGER_DONE awaits its ACK, with its SEQ (05 R161). -/
  ledgerWait : List (Nat × Nat)
  deriving DecidableEq, Repr

/-- Session at reset. -/
def Session.reset : Session where
  state := .closed
  heldFrom := false
  lossEnd := false
  peer := List.replicate 16 0
  peerPort := 0
  pathEnd := false
  reason := 0
  ended := 0
  tenant := 0
  key := SessKey.zero
  block := 0
  expect := 0
  gapTold := false
  itemLimit := 0
  bufKib := 0
  ledgerRes := 0
  txQueue := []
  perQueue := []
  evLost := 0
  txNext := 0
  txOldest := 0
  rxNext := 0
  replay := []
  heldPeak := 0
  rxBuf := []
  peerSacks := []
  window := 0
  txc := 0
  rxTxc := none
  unacked := 0
  tsRecent := 0
  srtt := 0
  rttvar := 0
  rto := 0
  rtoCount := 0
  stallSpanNow := false
  stallBufNow := false
  stallWinNow := false
  stallSpan := 0
  stallBuf := 0
  stallWin := 0
  retx := 0
  ledgerWait := []

/-- One principal: tenant 1 to 64, or 0 for the operator (03, 05). -/
structure Tenant where
  /-- loan state (03 R90/R93 0x6000:t). -/
  loan : LoanState
  /-- effective port set (03 R93 0x8100:t). -/
  ports : BitVec 96
  /-- effective power budget (03 R93 0x8101:t). -/
  power : Nat
  /-- effective periodic reservation (03 R93 0x8102:t). -/
  periodic : Nat
  /-- effective Vault allotment (03 R93 0x8103:t). -/
  vaultMib : Nat
  /-- effective bulk share (03 R93 0x8104:t). -/
  share : Nat
  /-- loan or house generation (03 R93 0x600A:t; 05 R164 0x8133 for 0). -/
  generation : BitVec 32
  /-- last action result (03 R93 0x6008:t). -/
  lastResult : BitVec 32
  /-- faults whose suspend-loan reaction holds the loan (03 R91, 16 R412). -/
  pausedBy : List (Nat × Nat)
  /-- next accession block (05 R157). -/
  nextBlock : Nat
  /-- virtual host Stopped (05 R151/R164 0x6013:t). -/
  stopped : Bool
  /-- VHOST_STOP item waiting for the others (05 R151). -/
  stopWait : Option Nat
  /-- items held, not yet issued, while the loan is Paused (03 R91). -/
  heldItems : List Nat
  /-- ledger entries not yet delivered (05 R160/R161). -/
  ledger : List LedgerEntry
  /-- accession blocks of ended sessions whose reservation is held, with its bytes (05 R160/R161). -/
  ledgerResv : List (Nat × Nat)
  /-- last open-exchange TXC accepted (05 R140). -/
  openTxc : Option Nat
  /-- counter of the hub's open-exchange TXC (05 R140). -/
  hubTxc : Nat
  /-- discarded ledger entries (05 R164 0x8130:t). -/
  discLedger : BitVec 32
  /-- discarded command records (05 R164 0x8131:t). -/
  discRecords : BitVec 32
  /-- stall count (04 R136 0x8120:t). -/
  stalls : BitVec 32
  /-- retransmitted frames (04 R136 0x8121:t). -/
  retx : BitVec 32
  /-- opens refused, quota (07 R234 0x8215:t). -/
  quotaRefused : BitVec 32
  /-- last admission refusal (08 R254 0x8226:t). -/
  lastRefusal : Nat
  /-- Vault extents: first region and count, in TLBA order (10 R275). -/
  extents : List (Nat × Nat)
  /-- attestation nonce as written (17 R445). -/
  nonce : Bytes
  /-- attestation report; empty reads all 0 (17 R445/R453 0x2703:02). -/
  report : Bytes
  deriving DecidableEq, Repr

/-- Tenant at reset. -/
def Tenant.reset : Tenant where
  loan := .idle
  ports := 0
  power := 0
  periodic := 0
  vaultMib := 0
  share := 0
  generation := 0
  lastResult := 0
  pausedBy := []
  nextBlock := 0
  stopped := false
  stopWait := none
  heldItems := []
  ledger := []
  ledgerResv := []
  openTxc := none
  hubTxc := 0
  discLedger := 0
  discRecords := 0
  stalls := 0
  retx := 0
  quotaRefused := 0
  lastRefusal := 0
  extents := []
  nonce := []
  report := []

/-- The Catalogue: effective and pending values, transfers held (02). -/
structure CatState where
  /-- effective values that differ from the default (02 R42/R53 and every chapter's object table). -/
  eff : SMap (Option Bytes)
  /-- pending values (00 R11). -/
  pend : SMap (Option PendVal)
  /-- held OCTETS transfers (02 R48/R489). -/
  held : List HeldXfer
  /-- an access is performed inside one step (02 R80 CAT_STAT.ARB_BUSY). -/
  arbBusy : Bool
  /-- the boot flash refuses writes (board condition) (02 R51). DESIGN CHOICE 6. -/
  flashFail : Bool
  deriving DecidableEq, Repr

/-- CatState at reset. -/
def CatState.reset : CatState where
  eff := []
  pend := []
  held := []
  arbBusy := false
  flashFail := false

/-- CAN FD: NMT, SDO server, heartbeat, TPDOs, EMCY (02, 16). -/
structure Can where
  /-- NMT state (02 R55). -/
  nmt : Nmt
  /-- the open SDO transfer (02 R55). -/
  sdo : Option SdoXfer
  /-- per TPDO: inhibit running, sending held, last values (02 R59). -/
  tpdo : SMap Tpdo
  /-- fault EMCY frames sent since boot (16 R421 SEQUENCE). -/
  emcySeq : BitVec 16
  /-- the inhibit time runs (16 R420). -/
  emcyInhibit : Bool
  /-- EMCY frames held by the inhibit time (16 R420). -/
  emcyQueue : List (Bytes)
  /-- last 16 fault EMCY frames, newest first (16 R422 0x1003). -/
  history : List Word
  deriving DecidableEq, Repr

/-- Can at reset. -/
def Can.reset : Can where
  nmt := .preop
  sdo := none
  tpdo := []
  emcySeq := 0
  emcyInhibit := false
  emcyQueue := []
  history := []

/-- SPI mailbox and service port records (02). -/
structure Board where
  /-- (02 R80 SPI_STAT.RSP_READY). -/
  rspReady : Bool
  /-- (02 R80 SPI_STAT.OVERRUN). -/
  overrun : Bool
  /-- (02 R80 SPI_STAT.BAD_OP). -/
  badOp : Bool
  /-- (02 R80 SPI_STAT.REQ_BUSY). -/
  reqBusy : Bool
  /-- (02 R80 SPI_STAT.RSP_IRQ_EN). -/
  rspIrqEn : Bool
  /-- the response record in the mailbox (02 R63). -/
  rsp : Bytes
  /-- service-port responses in order; true when the request counts among the 8 (02 R66). -/
  svcQueue : List (Bool × Bytes)
  deriving DecidableEq, Repr

/-- Board at reset. -/
def Board.reset : Board where
  rspReady := false
  overrun := false
  badOp := false
  reqBusy := false
  rspIrqEn := false
  rsp := []
  svcQueue := []

/-- Custodian, guarded, parity, voter and 64-bit write machinery (02). -/
structure Regs where
  /-- (02 R80 CUST_STAT.BUSY). -/
  custBusy : Bool
  /-- (02 R80 CUST_STAT.WRITE_LOST). -/
  writeLost : Bool
  /-- (02 R80 CUST_STAT.LOST_ADDR). -/
  lostAddr : BitVec 16
  /-- posted write being absorbed (02 R70). -/
  custWrite : Option (Nat × Word)
  /-- mirror (15 R405 CUST_WAKE_EN). -/
  custWakeEn : Word
  /-- alarm countdown, s (15 R405 CUST_ALARM). -/
  custAlarm : Word
  /-- slow-clock edges counted in the present second of the alarm (15 R405). -/
  alarmEdges : Nat
  /-- mirror of CLK_STAT.XO32_OK (00 R9, 01 R38). -/
  mXo : Bool
  /-- mirror of CLK_STAT.RC32_ACTIVE (00 R9, 01 R38). -/
  mRc : Bool
  /-- mirror of CUST_LATCH (00 R9, 15 R405). -/
  mLatch : List Wake
  /-- mirror of DBG_STAT.OPENED (00 R9, 17 R454). -/
  mOpened : Bool
  /-- mirror of STRAP_STAT.NOXO (00 R9, 18 R467). DESIGN CHOICE 11. -/
  mNoxo : Bool
  /-- mirror of CUST_WAKE_EN (02 R70, 15 R405). -/
  mWakeEn : Word
  /-- mirror of CUST_ALARM (02 R70, 15 R405). -/
  mAlarm : Word
  /-- (02 R80 GUARD_STAT.MISMATCH). -/
  gMismatch : Bool
  /-- (02 R80 GUARD_STAT.CAUSE_VALUE). -/
  gValue : Bool
  /-- (02 R80 GUARD_STAT.CAUSE_TIME). -/
  gTime : Bool
  /-- (02 R80 GUARD_STAT.CAUSE_INTERLEAVE). -/
  gInter : Bool
  /-- (02 R80 GUARD_STAT.LAST_ADDR). -/
  gLast : BitVec 16
  /-- address and value of the waiting half (02 R72 GUARD_STAT.WAITING). -/
  gWait : Option (Nat × Word)
  /-- guarded value in effect at 0x02_0100 (17 R454 DBG_REQ). -/
  gDebug : Word
  /-- addresses of registers whose parity is bad (02 R75). -/
  parBad : List Nat
  /-- (02 R80 PARITY_STAT.FIRST_ADDR). -/
  parFirst : BitVec 24
  /-- FIRST_ADDR is latched (02 R75). -/
  parLatched : Bool
  /-- RC (02 R80 PARITY_STAT.COUNT). -/
  parCount : BitVec 8
  /-- (02 R80 VOTE_STAT.IN_SERVICE). -/
  inService : Bool
  /-- (02 R80 VOTE_STAT.RV_IN_SERVICE). -/
  rvInService : Bool
  /-- RC (02 R80 VOTE_STAT.CORRECTED). -/
  corrected : BitVec 16
  /-- a Note for voter corrections is owed at service entry (02 R77). -/
  voterNote : Bool
  /-- copy 0 of the voted views, keyed 0 package, p port (02 R77). -/
  vote0 : SMap Word
  /-- copy 1 of the voted views (02 R77). -/
  vote1 : SMap Word
  /-- copy 2 of the voted views (02 R77). -/
  vote2 : SMap Word
  /-- low words written and not yet taken, by address (02 R69). -/
  lowLatch : SMap (Option Word)
  /-- (07 R235 PIPE_VIEW_SEL.PIPE). -/
  viewSel : BitVec 20
  /-- (07 R235 PIPE_VIEW_SEL.READY). -/
  viewReady : Bool
  /-- snapshot; empty reads 0 (07 R235 PIPE_VIEW). -/
  view : List Word
  /-- (07 R235 PIPE_STORE_STAT.EXHAUSTED). -/
  psExhausted : Bool
  /-- (07 R235 PIPE_STORE_STAT.MAP_FAIL). -/
  psMapFail : Bool
  /-- (07 R235 PIPE_STORE_STAT.IRQ_EN). -/
  psIrqEn : Bool
  /-- opens refused, store full (07 R234 0x8213:00). -/
  storeRefused : BitVec 32
  deriving DecidableEq, Repr

/-- Regs at reset. -/
def Regs.reset : Regs where
  custBusy := false
  writeLost := false
  lostAddr := 0
  custWrite := none
  custWakeEn := 0x3F
  custAlarm := 0
  alarmEdges := 0
  mXo := false
  mRc := true
  mLatch := []
  mOpened := false
  mNoxo := false
  mWakeEn := 0x3F
  mAlarm := 0
  gMismatch := false
  gValue := false
  gTime := false
  gInter := false
  gLast := 0
  gWait := none
  gDebug := 0
  parBad := []
  parFirst := 0
  parLatched := false
  parCount := 0
  inService := false
  rvInService := false
  corrected := 0
  voterNote := false
  vote0 := []
  vote1 := []
  vote2 := []
  lowLatch := []
  viewSel := 0
  viewReady := false
  view := []
  psExhausted := false
  psMapFail := false
  psIrqEn := false
  storeRefused := 0

/-- Clocks and PLLs, hub time (01, 09). -/
structure Clk where
  /-- hub time, ns (09 R269 HUB_TIME). -/
  hubTime : BitVec 64
  /-- free-running microsecond count (04 R121 TSVAL). DESIGN CHOICE 7. -/
  usCount : BitVec 32
  /-- state of each PLL, keyed by PllId.code (01 R29/R32). -/
  plls : SMap Pll
  /-- (01 R38 CLK_STAT.CORE_ALT). -/
  coreAlt : Bool
  /-- (01 R38 CLK_STAT.XO32_OK). -/
  xo32Ok : Bool
  /-- (01 R38 CLK_STAT.RC32_ACTIVE). -/
  rc32 : Bool
  /-- (01 R38 CLK_BORROW.GPLL_BORROWED). -/
  borrowed : BitVec 12
  /-- gallery whose PLL each borrowing gallery uses (01 R33). -/
  lender : SMap Nat
  /-- (01 R38 CLK_BORROW.SSPLL5_SUBST). -/
  subst : BitVec 4
  /-- W1C events (01 R38 CLK_EVT). -/
  evt : Word
  /-- causes of CLK_EVT bits that persist (01 R39). -/
  evtCause : Word
  /-- REFCLK_ETH present (board condition) (01 R36). DESIGN CHOICE 8. -/
  refEth : Bool
  deriving DecidableEq, Repr

/-- Clk at reset. -/
def Clk.reset : Clk where
  hubTime := 0
  usCount := 0
  plls := []
  coreAlt := false
  xo32Ok := false
  rc32 := true
  borrowed := 0
  lender := []
  subst := 0
  evt := 0
  evtCause := 0
  refEth := true

/-- One upstream link (04). -/
structure Link where
  /-- link state (04 R114). -/
  state : LinkState
  /-- bytes of the frame being sent that have not left yet (04 R115). -/
  txq : Nat
  /-- frames queued behind the one being sent, with their bytes on the wire, oldest first (04 R115/R116). -/
  queue : List (Nat × OutFrame)
  deriving DecidableEq, Repr

/-- Link at reset. -/
def Link.reset : Link where
  state := .off
  txq := 0
  queue := []

/-- The upstream (04). -/
structure Upl where
  /-- links 1 to 8 (04 R114/R137 UP_LINK_STAT). -/
  links : SMap Link
  /-- next link of the round-robin (04 R115). -/
  rrNext : Nat
  /-- RC saturating (04 R137 TRAIN_FAILS). -/
  trainFails : BitVec 8
  /-- W1C (04 R137 UP_EVT). -/
  evt : BitVec 19
  /-- RW (04 R137 UP_IRQ_EN). -/
  irqEn : BitVec 19
  /-- link used for PTP (04 R134/R137 PTP_LINK). -/
  ptpLink : Nat
  /-- discarded Isaix frames (04 R136 0x8122:00). -/
  discarded : BitVec 32
  /-- effective upstream mode (04 R137 UP_LINK_STAT.MODE). -/
  mode : Bool
  /-- frames that every link of the spray set is too full for, or that no link is there for, oldest first; MODEL's own (04 R115, log entry 95). -/
  backlog : List OutFrame
  /-- principal whose turn it is in the deficit round-robin (07 R231, log entry 96). -/
  drrTurn : Nat
  /-- bytes each principal may still send in its turn (07 R231, log entry 96). -/
  deficit : SMap Nat
  /-- bits of periodic traffic each loan has sent ahead of bulk traffic beyond what its reservation has covered since (07 R231, log entry 96). -/
  perUsed : SMap Nat
  /-- a PTP link has been in Member since boot (04 R134). -/
  ptpHad : Bool
  deriving DecidableEq, Repr

/-- Upl at reset. -/
def Upl.reset : Upl where
  links := []
  rrNext := 1
  trainFails := 0
  evt := 0
  irqEn := 0
  ptpLink := 1
  discarded := 0
  mode := false
  backlog := []
  drrTurn := 0
  deficit := []
  perUsed := []
  ptpHad := false

/-- PTP time, PPS pins, frame-timing events (04, 09). -/
structure Ptp where
  /-- 0 no PTP time, 1 locked, 2 holdover (09 R269 FT_STAT.PTP_STATE). -/
  state : Nat
  /-- path delay measured on the PTP link, ns (09 R256). -/
  pathDelay : Option Nat
  /-- a Delay_Req has been sent and not answered (04 R133). -/
  asked : Bool
  /-- the first-stage step is still to be made (09 R256). -/
  first : Bool
  /-- successive Syncs with an offset below 1 us (09 R256). -/
  good : Nat
  /-- last measured offset (09 R268 0x8231:00). -/
  offset : Int
  /-- frequency correction in force, ppb (09 R257/R258). -/
  freq : Int
  /-- millionths of a ns that the correction has gathered since the last whole ns (09 R257). -/
  frac : Int
  /-- W1C (09 R269 FT_EVT). -/
  evt : BitVec 4
  /-- RW (09 R269 FT_IRQ_EN). -/
  irqEn : BitVec 4
  /-- pin level (04 R135, 18 R463 PPS_OUT). -/
  ppsOut : Bool
  /-- time stamp of the last PPS_IN edge (04 R135). DESIGN CHOICE 9. -/
  ppsStamp : BitVec 64
  deriving DecidableEq, Repr

/-- Ptp at reset. -/
def Ptp.reset : Ptp where
  state := 0
  pathDelay := none
  asked := false
  first := true
  good := 0
  offset := 0
  freq := 0
  frac := 0
  evt := 0
  irqEn := 0
  ppsOut := false
  ppsStamp := 0

/-- Collection membership, epoch and digests (03). -/
structure Coll where
  /-- Collection epoch (03 R102 0x7004:00). -/
  epoch : BitVec 32
  /-- epoch this member has accepted a proposal for (03 R102). -/
  acceptedFor : Option (BitVec 32)
  /-- voters whose accept of epoch + 1 was seen (03 R102). -/
  accepts : List Nat
  /-- this member's proposal awaits a majority (03 R102). -/
  proposing : Bool
  /-- what was heard of each voter; key 0 the witness (03 R98). -/
  voters : SMap Voter
  /-- messages sent since boot (03 R96 SEQUENCE). -/
  seqOut : Nat
  /-- hub time at which quorum was last held (03 R98). -/
  tQ : Nat
  /-- (03 R110 COLL_STAT.QUORUM). -/
  quorum : Bool
  /-- W1C (03 R110 COLL_STAT.QUORUM_LOST). -/
  quorumLost : Bool
  /-- W1C (03 R110 COLL_STAT.DIGEST_MISMATCH). -/
  digestMm : Bool
  /-- W1C (03 R110 COLL_STAT.LEASE_EXPIRED). -/
  leaseExp : Bool
  /-- W1C (03 R110 COLL_STAT.LOCK_BROKEN). -/
  lockBroken : Bool
  /-- W1C (03 R110 COLL_STAT.EPOCH_FAILED). -/
  epochFailed : Bool
  /-- RW (03 R110 COLL_STAT.IRQ_EN). -/
  irqEn : Bool
  /-- digest mismatch members (03 R109 0x7008:00). -/
  mismatch : BitVec 16
  /-- discarded Nerquelu messages (03 R97 0x8110:00). -/
  discarded : BitVec 32
  /-- the 256 locks: state, owner, epoch, assignment (03 R103/R107). -/
  locks : SMap Lock
  /-- lock requests sent to the lock server and not answered (03 R103). -/
  lockReqs : List LockReq
  /-- acquires recorded by this lock server that wait for a majority of voters (03 R103). -/
  grants : List LockGrant
  /-- Collection job views (10 R304 0x7010:m). -/
  jobViews : SMap (Bytes)
  /-- working copy of the Collection key; none once debug access has zeroed it (17 R450, R451; 03 0x7003:00). -/
  key : Option Bytes
  deriving DecidableEq, Repr

/-- Coll at reset. -/
def Coll.reset : Coll where
  epoch := 0
  acceptedFor := none
  accepts := []
  proposing := false
  voters := []
  seqOut := 0
  tQ := 0
  quorum := false
  quorumLost := false
  digestMm := false
  leaseExp := false
  lockBroken := false
  epochFailed := false
  irqEn := false
  mismatch := 0
  discarded := 0
  locks := []
  lockReqs := []
  grants := []
  jobViews := []
  key := some (List.replicate 32 0)

/-- Device power states and the wake latch (15). -/
structure Dps where
  /-- reset reads 0b100 (15 R405 PWRST_STAT.STATE). -/
  state : PwrState
  /-- settling target or held request (15 R405 PWRST_STAT.TARGET). -/
  target : PwrState
  /-- state the transition began in (15 R394/R400). DESIGN CHOICE 10. -/
  fromState : PwrState
  /-- held request (15 R392). -/
  request : Option PwrState
  /-- the held request came over the house session (15 R392). -/
  requestHouse : Bool
  /-- (15 R405 PWRST_STAT.BLOCKED). -/
  blocked : BitVec 6
  /-- settling steps still to do (15 R394). -/
  settle : List SettleStep
  /-- wake latch, oldest first (15 R396/R405 CUST_LATCH). -/
  latch : List Wake
  /-- (15 R405 LATCH_OVF). -/
  latchOvf : Bool
  /-- (15 R404 0x8293:00). -/
  overflows : BitVec 32
  /-- W1C (15 R405 PWRST_EVT). -/
  evt : BitVec 4
  /-- RW (15 R405 PWRST_IRQ_EN). -/
  irqEn : BitVec 4
  /-- first latch entry of the last wake (15 R404 0x8291:00). -/
  wakeFirst : Word
  /-- failure code of R401 (15 R404 0x8291:00). -/
  wakeFail : BitVec 32
  /-- (15 R404 0x8292:00). -/
  wakeCount : BitVec 32
  /-- core voltage requested (15 R404 0x8294:00). -/
  coreMv : Nat
  /-- domains brought up in this waking (15 R400). -/
  domainsUp : List Domain
  /-- domains failed until the next start-up (15 R401). -/
  domainsFailed : List Domain
  /-- domains on their second attempt (15 R400). -/
  retried : List Domain
  /-- hub time recorded on entry to Dormant (15 R390). -/
  savedTime : BitVec 64
  /-- slow-clock edges counted (15 R390/R396). -/
  slowEdges : Nat
  /-- millionths of a slow-clock edge counted since the last (01 R29). -/
  slowFrac : Nat
  /-- edge count at the record (15 R390). -/
  edgesAt : Nat
  /-- pin level (18 R463 MAIN_EN). DESIGN CHOICE 10. -/
  mainEn : Bool
  /-- VDD_STBY present (18 R460). DESIGN CHOICE 10. -/
  stby : Bool
  /-- VBAT present (18 R460). DESIGN CHOICE 10. -/
  vbat : Bool
  /-- the Custodian runs from VBAT (18 R460). DESIGN CHOICE 10. -/
  onVbat : Bool
  /-- pin level (18 R463 PG_MAIN). DESIGN CHOICE 10. -/
  pgMain : Bool
  /-- fast domain of sentry die A on (13 R366). DESIGN CHOICE 10. -/
  fastA : Bool
  /-- SRAM read assist on (15 R402). -/
  assist : Bool
  /-- SRAM write assist on (15 R402). -/
  writeAssist : Bool
  /-- items held in Drowse until Run (15 R389). -/
  heldAcc : List Nat
  deriving DecidableEq, Repr

/-- Dps at reset. -/
def Dps.reset : Dps where
  state := .waking
  target := .run
  fromState := .shelf
  request := none
  requestHouse := false
  blocked := 0
  settle := []
  latch := []
  latchOvf := false
  overflows := 0
  evt := 0
  irqEn := 0
  wakeFirst := 0
  wakeFail := 0
  wakeCount := 0
  coreMv := 0
  domainsUp := []
  domainsFailed := []
  retried := []
  savedTime := 0
  slowEdges := 0
  slowFrac := 0
  edgesAt := 0
  mainEn := false
  stby := true
  vbat := true
  onVbat := false
  pgMain := false
  fastA := false
  assist := false
  writeAssist := false
  heldAcc := []

/-- The service port's Type-C side (13). -/
structure Svc where
  /-- service port state (13 R366). -/
  state : SvcState
  /-- pin level (13 R366, 18 R463 SVC_SRC_EN). -/
  srcEn : Bool
  /-- USB data carried (13 R366). -/
  data : Bool
  /-- DR_Swap sent and not answered (13 R366). -/
  drSent : Bool
  /-- current requested as a sink, mA (13 R366). -/
  request : Nat
  deriving DecidableEq, Repr

/-- Svc at reset. -/
def Svc.reset : Svc where
  state := .deadBattery
  srcEn := false
  data := false
  drSent := false
  request := 0

/-- One reaction slot (16). -/
structure Slot where
  /-- (16 R428 FLT_SLOT.SOURCE). -/
  source : Nat
  /-- (16 R428 FLT_SLOT.INSTANCE). -/
  inst : Nat
  /-- (16 R428 FLT_SLOT.STATE). -/
  state : SlotState
  /-- (16 R417). -/
  cls : Nat
  /-- hub time at which the slot was armed (16 R417). -/
  armedAt : Nat
  /-- reaction time taken at arming, us (16 R417). -/
  span : Nat
  /-- the occurrence carries INJECTED (16 R425). -/
  injected : Bool
  /-- the die of the occurrence (16 R491). -/
  die : Nat
  deriving DecidableEq, Repr

/-- Slot at reset. -/
def Slot.reset : Slot where
  source := 0
  inst := 0
  state := .free
  cls := 0
  armedAt := 0
  span := 0
  injected := false
  die := 0

/-- One FIRST latch: collector, die or wing aggregator (16). -/
structure Aggr where
  /-- first occurrence (16 R415/R428 FIRST). -/
  latched : Option FltRec
  /-- (16 R428 OVERFLOW). -/
  overflow : Bool
  /-- RC (16 R428 AGG_FIRST.COUNT). -/
  count : BitVec 16
  deriving DecidableEq, Repr

/-- Aggr at reset. -/
def Aggr.reset : Aggr where
  latched := none
  overflow := false
  count := 0

/-- Faults, reactions and injection (16). -/
structure Flt where
  /-- reaction slots 0 to 31 (16 R417/R428 FLT_SLOT). -/
  slots : SMap Slot
  /-- (16 R428 FLT_STAT.SAFE_STOP). -/
  safeStop : Bool
  /-- faults that applied package-safe-stop (16 R410). -/
  stopBy : List (Nat × Nat)
  /-- W1C (16 R428 FLT_STAT.SLOTS_FULL). -/
  slotsFull : Bool
  /-- W1C (16 R428 FLT_STAT.PENDING). -/
  pending : BitVec 4
  /-- RW (16 R428 FLT_STAT.IRQ_EN). -/
  irqEn : BitVec 4
  /-- collector's FIRST (16 R428 FLT_FIRST). -/
  first : Aggr
  /-- hub time of the first occurrence (16 R428 FLT_FIRST +4). -/
  firstTime : BitVec 64
  /-- die aggregators (16 R428 AGG_FIRST). -/
  dieAgg : SMap Aggr
  /-- wing aggregators (16 R428 AGG_FIRST). -/
  wingAgg : SMap Aggr
  /-- RW (16 R428 ERR_CTRL.FORCE). -/
  force : Bool
  /-- tERRMIN runs (16 R419). -/
  minRun : Bool
  /-- ERR_OUT_N held by R401, R416 or R436 (16 R419/R416). -/
  pinHold : Bool
  /-- RC counts by class (16 R428 FLT_CNT). -/
  cnt : List Nat
  /-- counts by class since boot (16 R427 0x82A0). -/
  total : List Nat
  /-- source and instance whose cause persists (16 R410/R411/R412). -/
  causes : List (Nat × Nat)
  /-- (16 R427 0x82A1). -/
  wingTemp : List Int
  /-- (16 R427 0x82A3). -/
  coreTemp : Int
  /-- thermal sources raised and not re-armed (16 R414). -/
  thermal : List (Nat × Nat)
  /-- (16 R428 INJ_SEL.TARGET). -/
  injTarget : Nat
  /-- (16 R428 INJ_SEL.BITS). -/
  injBits : Nat
  /-- (16 R428 INJ_SEL.COPY). -/
  injCopy : Nat
  /-- (16 R428 INJ_SEL.COUNT). -/
  injCount : Nat
  /-- (16 R428 INJ_SEL.BIT). -/
  injBit : Nat
  /-- (16 R428 INJ_ADDR). -/
  injAddr : Word
  /-- (16 R428 INJ_STAT.ARMED). -/
  injArmed : Bool
  /-- W1C (16 R428 INJ_STAT.FIRED). -/
  injFired : Bool
  /-- W1C (16 R428 INJ_STAT.REFUSED). -/
  injRefused : Bool
  /-- the occurrence in hand was injected (16 R425). -/
  injNow : Bool
  /-- die-to-die links 1 to 7: repeats, retraining, lost (01 R21/R22). -/
  dieLinks : SMap DieLink
  /-- the Curator is restarting (16 R413 0x3F). -/
  curRestart : Bool
  /-- occurrences that found no free slot, whose escalation is about to be applied (16 R417). -/
  escDue : List FltRec
  /-- memory code and loan concerned of Serious uncorrectable errors (16 R413 0x23). -/
  uncLoans : List (Nat × Nat)
  deriving DecidableEq, Repr

/-- Flt at reset. -/
def Flt.reset : Flt where
  slots := []
  safeStop := false
  stopBy := []
  slotsFull := false
  pending := 0
  irqEn := 0
  first := Aggr.reset
  firstTime := 0
  dieAgg := []
  wingAgg := []
  force := false
  minRun := false
  pinHold := false
  cnt := [0,0,0,0]
  total := [0,0,0,0]
  causes := []
  wingTemp := [0,0,0,0]
  coreTemp := 0
  thermal := []
  injTarget := 0
  injBits := 1
  injCopy := 0
  injCount := 1
  injBit := 0
  injAddr := 0
  injArmed := false
  injFired := false
  injRefused := false
  injNow := false
  dieLinks := []
  curRestart := false
  escDue := []
  uncLoans := []

/-- Start-up, boot flash, images, fuses, identity (17, 18). -/
structure Boot where
  /-- (17 R454 BOOT_STAT.PHASE). -/
  phase : Phase
  /-- running slot B (17 R454 BOOT_STAT.SLOT). -/
  slot : Bool
  /-- W1C (17 R454 OTHER_SLOT). -/
  otherSlot : Bool
  /-- W1C (17 R454 SECRETS_LOST). -/
  secretsLost : Bool
  /-- W1C (17 R454 CONFIG_LOST). -/
  configLost : Bool
  /-- (17 R454 BIST_FAIL). -/
  bistFail : Bool
  /-- (17 R454 FAIL_A). -/
  failA : Nat
  /-- (17 R454 FAIL_B). -/
  failB : Nat
  /-- image slot A of the boot flash; an unlisted byte is erased and reads 0xFF (17 R437). DESIGN CHOICE 11. -/
  imgA : SMap Byte
  /-- image slot B of the boot flash, as slot A (17 R437). DESIGN CHOICE 11. -/
  imgB : SMap Byte
  /-- (17 R453 0x2701:02). -/
  imageCheck : Nat
  /-- hash of the running image (17 R453 0x2702:00). DESIGN CHOICE 11. -/
  hash : Bytes
  /-- (17 R453 0x2700:02). DESIGN CHOICE 11. -/
  imageVersion : Nat
  /-- ROLLBACK of the running image (17 R443). DESIGN CHOICE 11. -/
  imageRollback : Nat
  /-- fuse rollback floor (17 R440/R453 0x2700:03). DESIGN CHOICE 11. -/
  floor : Nat
  /-- fused key hashes (17 R440). DESIGN CHOICE 11. -/
  keyHashes : List (Bytes)
  /-- fused revocation bits (17 R440). DESIGN CHOICE 11. -/
  revoked : BitVec 4
  /-- debug-disable fuse (17 R434). DESIGN CHOICE 11. -/
  debugFuse : Bool
  /-- 0 C, 1 I (02 R80 CHIP_ID.GRADE). DESIGN CHOICE 11. -/
  grade : Bool
  /-- identity serial (17 R453 0x2703:04). DESIGN CHOICE 11. -/
  serial : BitVec 64
  /-- base MAC address from identity (04 R136 0x2202:01). DESIGN CHOICE 11. -/
  mac : Bytes
  /-- identity certificate (17 R453 0x2703:03). DESIGN CHOICE 11. -/
  cert : Bytes
  /-- identity key present (17 R444/R451). -/
  identity : Bool
  /-- boot count in the Custodian (17 R438). DESIGN CHOICE 11. -/
  bootCust : Nat
  /-- boot count in use (17 R453 0x82B0:00). DESIGN CHOICE 11. -/
  bootCount : BitVec 32
  /-- configuration copy at 0x001_0000 (17 R437/R438). DESIGN CHOICE 11. -/
  cfgA : Option FlashCfg
  /-- configuration copy at 0x008_8000 (17 R437/R438). DESIGN CHOICE 11. -/
  cfgB : Option FlashCfg
  /-- sampled (18 R467 STRAP_STAT.RECOVERY). -/
  strapRec : Bool
  /-- sampled (18 R467 STRAP_STAT.NOXO). -/
  strapNoxo : Bool
  /-- sampled (18 R467 STRAP_STAT.TEST). -/
  strapTest : Bool
  /-- RESET_N is low: start-up is held at step 3 (18 R482). -/
  resetLow : Bool
  /-- start-up is in progress from step 3 (17 R433). -/
  inReset : Bool
  /-- start-up has done steps 4 to 9, and normal service is entered next (17 R433). -/
  started : Bool
  /-- a Custodian reset zeroed the secret store (17 R447). -/
  custLost : Bool
  /-- secret store slots; unlisted is all zero (17 R446). -/
  secrets : SMap (Bytes)
  deriving DecidableEq, Repr

/-- Boot at reset. -/
def Boot.reset : Boot where
  phase := .startup
  slot := false
  otherSlot := false
  secretsLost := false
  configLost := false
  bistFail := false
  failA := 0
  failB := 0
  imgA := []
  imgB := []
  imageCheck := 1
  hash := []
  imageVersion := 0
  imageRollback := 0
  floor := 0
  keyHashes := []
  revoked := 0
  debugFuse := false
  grade := false
  serial := 0
  mac := [0,0,0,0,0,0]
  cert := []
  identity := false
  bootCust := 0
  bootCount := 0
  cfgA := none
  cfgB := none
  strapRec := false
  strapNoxo := false
  strapTest := false
  resetLow := false
  inReset := false
  started := false
  custLost := false
  secrets := []

/-- Debug access (17). -/
structure Dbg where
  /-- 0 LOCKED, 1 ERASING, 2 OPEN, 3 DISABLED (17 R448/R454 DBG_STAT.LOCK). -/
  lock : Nat
  /-- DEBUG_OPENED (17 R454 DBG_STAT.OPENED). -/
  opened : Bool
  /-- (17 R454 JTAG_OPEN). -/
  jtag : Bool
  /-- (17 R454 SVC_OPEN). -/
  svc : Bool
  /-- W1C (17 R454 REFUSED). -/
  refused : Bool
  /-- access asked by the request in ERASING (17 R449). -/
  asked : Nat
  /-- debug openings (17 R453 0x82B1:00). -/
  opens : BitVec 32
  /-- instruction in the TAP (17, 18 R466). DESIGN CHOICE 12. -/
  tapIr : Nat
  deriving DecidableEq, Repr

/-- Dbg at reset. -/
def Dbg.reset : Dbg where
  lock := 0
  opened := false
  jtag := false
  svc := false
  refused := false
  asked := 0
  opens := 0
  tapIr := 0

/-- On-package memories (12). -/
structure Mem where
  /-- RC (12 R340 MEM_ECC.PIPE_CORR). -/
  pipeCorr : BitVec 16
  /-- RC (12 R340 MEM_ECC.PBUF_CORR). -/
  pbufCorr : BitVec 16
  /-- (12 R340 MEM_UNC_FIRST.ADDR). -/
  uncAddr : BitVec 26
  /-- (12 R340 MEM_UNC_FIRST.MEMORY). -/
  uncMem : Nat
  /-- (12 R340 MEM_UNC_FIRST.OVERFLOW). -/
  uncOvf : Bool
  /-- W1C (12 R340 MEM_UNC_FIRST.VALID). -/
  uncValid : Bool
  /-- RC sticky peak (12 R340 TRANSIT_LVL.PEAK). -/
  peak : Nat
  /-- (12 R339 0x8262:00, SCRUB_STAT.PASSES). -/
  passes : BitVec 32
  /-- microsecond count at which the present Conservator pass began (12 R336/R340 SCRUB_STAT.PROGRESS). -/
  passFrom : BitVec 32
  /-- (12 R340 SCRUB_STAT.RUNNING). -/
  running : Bool
  /-- W1C (12 R340 MEM_EVT). -/
  evt : BitVec 4
  /-- RW (12 R340 MEM_IRQ_EN). -/
  irqEn : BitVec 4
  /-- (12 R339 0x8260:00). -/
  corrTotal : BitVec 64
  /-- (12 R339 0x8261:00). -/
  uncTotal : BitVec 32
  /-- last stuck address (12 R339 0x8265:00). -/
  stuck : BitVec 32
  /-- words corrected in the present pass (12 R333). -/
  passCorr : List Nat
  /-- corrected errors of the present pass (12 R333). -/
  passCount : Nat
  /-- words corrected in the pass before (12 R333). -/
  prevCorr : List Nat
  /-- regions being zeroed before reuse (12 R337). -/
  zeroing : List Region
  /-- KiB of the replay pool in use (04 R132/R136 0x8123:00). -/
  poolUsed : Nat
  /-- bytes of the ledger area reserved (05 R160). -/
  ledgerUsed : Nat
  /-- KiB of the fan-out pool in use (10 R291). -/
  fanUsed : Nat
  deriving DecidableEq, Repr

/-- Mem at reset. -/
def Mem.reset : Mem where
  pipeCorr := 0
  pbufCorr := 0
  uncAddr := 0
  uncMem := 0
  uncOvf := false
  uncValid := false
  peak := 0
  passes := 0
  passFrom := 0
  running := false
  evt := 0
  irqEn := 0
  corrTotal := 0
  uncTotal := 0
  stuck := 0
  passCorr := []
  passCount := 0
  prevCorr := []
  zeroing := []
  poolUsed := 0
  ledgerUsed := 0
  fanUsed := 0

/-- One NVMe drive (10). -/
structure Drive where
  /-- (10 R305 DRIVES_UP). -/
  up : Bool
  /-- (10 R305 DRIVES_FAILED). -/
  failed : Bool
  /-- commands in succession that timed out (10 R274). -/
  timeouts : Nat
  deriving DecidableEq, Repr

/-- Drive at reset. -/
def Drive.reset : Drive where
  up := false
  failed := false
  timeouts := 0

/-- One NVMe command outstanding (10). -/
structure Nvme where
  /-- (10 R274). -/
  drive : Nat
  /-- 0 read, 1 write, 2 flush, 3 deallocate (10 R271). -/
  op : Nat
  /-- Vault item served (10 R274). -/
  item : Option Nat
  /-- job and target served (10 R274). -/
  job : Option (Nat × Nat)
  /-- operator channel served, 32 the scan (11 R309/R325). -/
  chan : Option Nat
  /-- chunk read for a job (10 R291). -/
  chunk : Nat
  /-- first region touched (10 R278). -/
  region : Nat
  /-- first Vault block (10 R275). -/
  lba : Nat
  /-- blocks (10 R275). -/
  blocks : Nat
  /-- repeated once (10 R274). -/
  retried : Bool
  /-- data to write (10 R278). -/
  data : Bytes
  /-- FUA asked (10 R271). -/
  fua : Bool
  /-- sent to the drive; waits at the Vault attachment while false (10 R286). -/
  issued : Bool
  /-- order of arrival at the Vault attachment (10 R286). -/
  seq : Nat
  deriving DecidableEq, Repr

/-- Nvme at reset. -/
def Nvme.reset : Nvme where
  drive := 0
  op := 0
  item := none
  job := none
  chan := none
  chunk := 0
  region := 0
  lba := 0
  blocks := 0
  retried := false
  data := []
  fua := false
  issued := false
  seq := 0

/-- One fan-out job slot (10). -/
structure Job where
  /-- (10 R305 JOB_STAT.ACTIVE). -/
  active : Bool
  /-- slot taken until tJOBKEEP after the completion (10 R290). -/
  taken : Bool
  /-- (10 R305 JOB_STAT.PRINCIPAL). -/
  principal : Nat
  /-- accession of the job item (10 R290). -/
  acc : Nat
  /-- item key (10 R290). -/
  item : Nat
  /-- the template used (10 R287). -/
  tmpl : Bytes
  /-- (10 R290 SOURCE_UPSTREAM). -/
  upstream : Bool
  /-- (10 R290 COLLECTION). -/
  coll : Bool
  /-- (10 R290 JOB_ID). -/
  jobId : Nat
  /-- (10 R290 SOURCE_TLBA). -/
  tlba : Nat
  /-- (10 R290 IMAGE_BLOCKS). -/
  blocks : Nat
  /-- window size in chunks (10 R291). -/
  window : Nat
  /-- pool taken by the window, KiB (10 R291). -/
  winKib : Nat
  /-- oldest chunk in the window (10 R291). -/
  tail : Nat
  /-- next chunk to be read into the window (10 R305 JOB_STAT.HEAD). -/
  head : Nat
  /-- (10 R305 VAULT_BYTES). -/
  vaultBytes : BitVec 64
  /-- reference check values by chunk (10 R294). -/
  checks : SMap (Option (BitVec 64))
  /-- targets (10 R295). -/
  targets : List Target
  /-- (10 R299 IMAGE_CHECK). -/
  imageCheck : BitVec 64
  /-- chunks of the window already sent over a wing link: chunk and wing (01 R26). -/
  copied : List (Nat × Nat)
  /-- (10 R299 BYTES_CONFIRMED). -/
  confirmed : Nat
  /-- outcome and detail of the ended job (10 R297). -/
  outcome : Option (Nat × Nat)
  deriving DecidableEq, Repr

/-- Job at reset. -/
def Job.reset : Job where
  active := false
  taken := false
  principal := 0
  acc := 0
  item := 0
  tmpl := []
  upstream := false
  coll := false
  jobId := 0
  tlba := 0
  blocks := 0
  window := 0
  winKib := 0
  tail := 0
  head := 0
  vaultBytes := 0
  checks := []
  targets := []
  imageCheck := 0
  copied := []
  confirmed := 0
  outcome := none

/-- One capture (10). -/
structure Capt where
  /-- item key (10 R300). -/
  item : Nat
  /-- (10 R300). -/
  acc : Nat
  /-- (10 R300). -/
  principal : Nat
  /-- (10 R300 PIPE). -/
  pipe : Nat
  /-- (10 R300 STREAM). -/
  stream : Nat
  /-- (10 R300 RING). -/
  ring : Bool
  /-- (10 R300 SPLIT_ON_SHORT). -/
  split : Bool
  /-- (10 R300 TLBA). -/
  tlba : Nat
  /-- (10 R300 BLOCKS). -/
  blocks : Nat
  /-- (10 R300 RECORD_BLOCKS). -/
  recBlocks : Nat
  /-- (10 R300 ISO_INTERVALS). -/
  isoIntervals : Nat
  /-- slot being filled (10 R301). -/
  slot : Nat
  /-- payload of the record being filled (10 R301). -/
  payload : Bytes
  /-- service intervals of the record (10 R301). -/
  isoWords : List Word
  /-- (10 R301 START_FRAME). -/
  startFrame : BitVec 32
  /-- (10 R301 HUB_TIME). -/
  startTime : BitVec 64
  /-- (10 R301 RECORD_SEQ). -/
  seq : BitVec 64
  /-- (10 R301 MISSED_COUNT). -/
  missed : Nat
  /-- (10 R282 PAYLOAD_BYTES). -/
  bytes : BitVec 64
  deriving DecidableEq, Repr

/-- Capt at reset. -/
def Capt.reset : Capt where
  item := 0
  acc := 0
  principal := 0
  pipe := 0
  stream := 0
  ring := false
  split := false
  tlba := 0
  blocks := 0
  recBlocks := 0
  isoIntervals := 0
  slot := 0
  payload := []
  isoWords := []
  startFrame := 0
  startTime := 0
  seq := 0
  missed := 0
  bytes := 0

/-- The Vault (10). -/
structure Vault where
  /-- drives 1 to 8 (10 R274/R305 VAULT_STAT). -/
  drives : SMap Drive
  /-- namespaces (10 R272/R304 0x8242:n). -/
  ns : SMap Nspace
  /-- (10 R305 VAULT_STAT.ENABLED). -/
  enabled : Bool
  /-- an enable waits until its clearing of written bits is durable (10 R281). -/
  enabling : Bool
  /-- W1C (10 R305 VAULT_EVT). -/
  evt : BitVec 12
  /-- RW (10 R305 VAULT_IRQ_EN). -/
  irqEn : BitVec 12
  /-- usable regions (10 R273 0x8240:00). -/
  regions : Nat
  /-- regions whose written bit is set, rising (10 R277). -/
  written : List Nat
  /-- drive contents of written regions, by Vault byte address (10 R278/R279). -/
  data : SMap Byte
  /-- house extents recorded in the boot flash (10 R281). -/
  houseRec : List (Nat × Nat)
  /-- template slots, keyed principal*8 + slot (10 R287). -/
  templates : SMap (Bytes)
  /-- job slots 0 to 15 (10 R290). -/
  jobs : SMap Job
  /-- captures running (10 R300). -/
  captures : List Capt
  /-- NVMe commands outstanding by identifier (10 R271/R274). -/
  cmds : SMap Nvme
  /-- next command identifier (10 R271). DESIGN CHOICE 13. -/
  nextCmd : Nat
  /-- next order of arrival at the Vault attachment (10 R286). -/
  nextSeq : Nat
  /-- bytes that reads may still carry over the Vault attachment in the present us; below 0 what later ones make up (01 R27). -/
  roomIn : Int
  /-- bytes that writes may still carry over the Vault attachment in the present us (01 R27). -/
  roomOut : Int
  /-- job slot whose shared stream was served last (10 R286). -/
  jobTurn : Nat
  /-- principal whose turn it is at the Vault attachment (07 R232). -/
  drrTurn : Nat
  /-- bytes each principal may still move in its turn at the Vault attachment (07 R232). -/
  deficit : SMap Nat
  /-- bytes of catch-up reads served while such reads waited (10 R286). -/
  catchUsed : Nat
  /-- bytes of other third-level traffic served meanwhile (10 R286). -/
  restUsed : Nat
  /-- transfers of the hub on held pipes that have ended and are not yet acted on: pipe, outcome, body, data (10 R284/R302, 11 R314). -/
  ended : List (Nat × (Nat × Nat) × Bytes × Item)
  /-- catch-up bytes (10 R304 0x8243:00). -/
  catchup : BitVec 64
  /-- NVMe command errors (10 R304 0x8245:00). -/
  errors : BitVec 32
  deriving DecidableEq, Repr

/-- Vault at reset. -/
def Vault.reset : Vault where
  drives := []
  ns := []
  enabled := false
  enabling := false
  evt := 0
  irqEn := 0
  regions := 0
  written := []
  data := []
  houseRec := []
  templates := []
  jobs := []
  captures := []
  cmds := []
  nextCmd := 1
  nextSeq := 0
  roomIn := 63000
  roomOut := 63000
  jobTurn := 15
  drrTurn := 0
  deficit := []
  catchUsed := 0
  restUsed := 0
  ended := []
  catchup := 0
  errors := 0

/-- Configuration of one check-value unit (11). -/
structure UnitCfg where
  /-- (11 R327 WIDTH). -/
  width : Nat
  /-- (11 R327 REFIN). -/
  refin : Bool
  /-- (11 R327 REFOUT). -/
  refout : Bool
  /-- (11 R327 LOCATOR). -/
  locator : Nat
  /-- (11 R327 APPEND_LE). -/
  appendLe : Bool
  /-- (11 R327 POLY). -/
  poly : BitVec 64
  /-- (11 R327 INIT). -/
  init : BitVec 64
  /-- (11 R327 XOROUT). -/
  xorout : BitVec 64
  /-- (11 R327 CU_LOCATOR). -/
  loc : BitVec 64
  deriving DecidableEq, Repr

/-- UnitCfg at reset. -/
def UnitCfg.reset : UnitCfg where
  width := 64
  refin := true
  refout := true
  locator := 0
  appendLe := false
  poly := 0x42F0E1EBA9EA3693
  init := 0xFFFFFFFFFFFFFFFF
  xorout := 0xFFFFFFFFFFFFFFFF
  loc := 0

/-- One mover channel (11). -/
structure Chan where
  /-- (11 R327 CH_STAT.STATE). -/
  state : ChanState
  /-- (11 R327 CH_CTRL.PRIO). -/
  prio : Nat
  /-- (11 R327 CH_HEAD). -/
  head : Nat
  /-- (11 R327 WAIT_UNIT). -/
  waitUnit : Bool
  /-- (11 R327 WAIT_PIPE). -/
  waitPipe : Bool
  /-- (11 R327 CAUSE). -/
  cause : Nat
  /-- (11 R327 ERR_INFO). -/
  errInfo : Nat
  /-- (11 R327 ERR_DIR). -/
  errDir : Bool
  /-- (11 R327 CUR). -/
  cur : Nat
  /-- (11 R327 ERR_ADDR). -/
  errAddr : BitVec 64
  /-- (11 R327 ERR_LINE). -/
  errLine : Word
  /-- (11 R327 BYTES). -/
  bytes : Word
  /-- W1C (11 R327 CH_EVT). -/
  evt : BitVec 5
  /-- RW (11 R327 CH_IRQ_EN). -/
  irqEn : BitVec 5
  /-- (11 R327 CHECK_RX). -/
  checkRx : BitVec 64
  /-- value the unit computed for the descriptor in hand (11 R311 CHECK). -/
  check : BitVec 64
  /-- the descriptor as read at its fetch (11 R311). -/
  desc : Bytes
  /-- configuration copied at the start (11 R322). -/
  unitCfg : Option UnitCfg
  /-- zeros of never-written memory were read (11 R316). -/
  unwritten : Bool
  /-- cause a Stopping channel ends with (11 R319). -/
  stopCause : Nat
  /-- source bytes read by the bursts granted so far (11 R309). -/
  got : Bytes
  /-- grants that have passed the channel over in succession (11 R309). -/
  passed : Nat
  /-- Vault commands of the descriptor: 0 none yet, 1 reads, 2 writes, 3 Flush and 4 read of a read-back (11 R309/R318). -/
  vstage : Nat
  /-- house Vault items that arrived before the descriptor and touch its blocks (11 R309; 10 R285). -/
  ahead : List Nat
  deriving DecidableEq, Repr

/-- Chan at reset. -/
def Chan.reset : Chan where
  state := .idle
  prio := 1
  head := 0
  waitUnit := false
  waitPipe := false
  cause := 0
  errInfo := 0
  errDir := false
  cur := 0
  errAddr := 0
  errLine := 0
  bytes := 0
  evt := 0
  irqEn := 0
  checkRx := 0
  check := 0
  desc := []
  unitCfg := none
  unwritten := false
  stopCause := 0
  got := []
  passed := 0
  vstage := 0
  ahead := []

/-- One check-value unit (11). -/
structure CheckUnit where
  /-- configuration (11 R327). -/
  cfg : UnitCfg
  /-- (11 R327 BUSY). -/
  busy : Bool
  /-- channel or scan (32) using it (11 R322). -/
  user : Option Nat
  deriving DecidableEq, Repr

/-- CheckUnit at reset. -/
def CheckUnit.reset : CheckUnit where
  cfg := UnitCfg.reset
  busy := false
  user := none

/-- Movers, units, the mover area and the scan engine (11). -/
structure Mov where
  /-- channels 0 to 31 (11 R306). -/
  chans : SMap Chan
  /-- units 0 to 15 (11 R321). -/
  units : SMap CheckUnit
  /-- (11 R327 MV_WIN.PAGE). -/
  page : Nat
  /-- the mover area (11 R307). -/
  area : SMap Byte
  /-- 64-byte lines of the area whose written flag is set, rising (12 R328/R338). -/
  areaWritten : List Nat
  /-- (11 R327 SCAN KIND). -/
  scanKind : Bool
  /-- (11 R327 SCAN UNIT). -/
  scanUnit : Nat
  /-- (11 R327 SCAN COMPARE). -/
  scanCompare : Bool
  /-- (11 R327 SCAN_ADDR). -/
  scanAddr : BitVec 64
  /-- (11 R327 SCAN_LEN). -/
  scanLen : BitVec 64
  /-- (11 R327 SCAN_EXPECT). -/
  scanExpect : BitVec 64
  /-- (11 R327 RESULT). -/
  scanResult : BitVec 64
  /-- (11 R327 SCAN_STAT.BUSY). -/
  scanBusy : Bool
  /-- W1C (11 R327 SCAN_STAT.DONE). -/
  scanDone : Bool
  /-- (11 R327 SCAN_STAT.MATCH). -/
  scanMatch : Bool
  /-- W1C (11 R327 SCAN_STAT.PROG_ERR). -/
  scanProg : Bool
  /-- RW (11 R327 SCAN_STAT.IRQ_EN). -/
  scanIrqEn : Bool
  /-- (11 R327 SCAN_STAT.UNWRITTEN). -/
  scanUnw : BitVec 16
  /-- configuration copied at GO (11 R322). -/
  scanCfg : UnitCfg
  /-- (11 R326 0x8250:00). -/
  descs : BitVec 64
  /-- (11 R326 0x8251:00). -/
  moved : BitVec 64
  /-- (11 R326 0x8252:00). -/
  busErrs : BitVec 32
  /-- (11 R326 0x8253:00). -/
  mismatches : BitVec 32
  /-- channel granted last (11 R309). -/
  turn : Nat
  deriving DecidableEq, Repr

/-- Mov at reset. -/
def Mov.reset : Mov where
  chans := []
  units := []
  page := 0
  area := []
  areaWritten := []
  scanKind := false
  scanUnit := 8
  scanCompare := false
  scanAddr := 0
  scanLen := 0
  scanExpect := 0
  scanResult := 0
  scanBusy := false
  scanDone := false
  scanMatch := false
  scanProg := false
  scanIrqEn := false
  scanUnw := 0
  scanCfg := UnitCfg.reset
  descs := 0
  moved := 0
  busErrs := 0
  mismatches := 0
  turn := 0

/-- The whole state: per-unit structures in sparse maps (an unlisted unit is at its reset value), the single groups, the
outputs sent, the counter of free values (log entry 14) and the queue of commands waiting, first in, first out. -/
structure State where
  /-- The ports, keyed 1 to 96. -/
  usb : SMap PortUsb
  /-- The ports, keyed 1 to 96. -/
  pwr : SMap PortPwr
  /-- The ports, keyed 1 to 96. -/
  prot : SMap PortProt
  /-- The ports, keyed 1 to 96. -/
  ft : SMap PortFt
  /-- The ports, keyed 1 to 96. -/
  fifo : SMap PortMem
  /-- The galleries, keyed 1 to 12. -/
  gals : SMap Gallery
  /-- The pipe contexts, keyed by number. -/
  pipes : SMap Pipe
  /-- The open items, keyed principal * 2^48 + accession. -/
  items : SMap Item
  /-- The sessions, keyed 0 to 1,023. -/
  sess : SMap Session
  /-- The principals: tenants 1 to 64, 0 the operator. -/
  tenants : SMap Tenant
  /-- The Catalogue: effective and pending values, transfers held (02). -/
  cat : CatState
  /-- CAN FD: NMT, SDO server, heartbeat, TPDOs, EMCY (02, 16). -/
  can : Can
  /-- SPI mailbox and service port records (02). -/
  board : Board
  /-- Custodian, guarded, parity, voter and 64-bit write machinery (02). -/
  regs : Regs
  /-- Clocks and PLLs, hub time (01, 09). -/
  clk : Clk
  /-- The upstream (04). -/
  upl : Upl
  /-- PTP time, PPS pins, frame-timing events (04, 09). -/
  ptp : Ptp
  /-- Collection membership, epoch and digests (03). -/
  coll : Coll
  /-- Device power states and the wake latch (15). -/
  dps : Dps
  /-- The service port's Type-C side (13). -/
  svc : Svc
  /-- Faults, reactions and injection (16). -/
  flt : Flt
  /-- Start-up, boot flash, images, fuses, identity (17, 18). -/
  boot : Boot
  /-- Debug access (17). -/
  dbg : Dbg
  /-- On-package memories (12). -/
  mem : Mem
  /-- The Vault (10). -/
  vault : Vault
  /-- Movers, units, the mover area and the scan engine (11). -/
  mov : Mov
  /-- Everything the hub has sent or driven, oldest first (log entry 3). -/
  sent : List Sent
  /-- The model's own counter of free values (log entry 14). -/
  freeCtr : Nat
  /-- The queue of commands waiting, first in, first out. -/
  pending : List Instr
  deriving DecidableEq, Repr

/-- The block at reset: every register at its reset value, start-up not yet run (log entry 2), the queue empty. -/
def State.reset : State where
  usb := []
  pwr := []
  prot := []
  ft := []
  fifo := []
  gals := []
  pipes := []
  items := []
  sess := []
  tenants := []
  cat := CatState.reset
  can := Can.reset
  board := Board.reset
  regs := Regs.reset
  clk := Clk.reset
  upl := Upl.reset
  ptp := Ptp.reset
  coll := Coll.reset
  dps := Dps.reset
  svc := Svc.reset
  flt := Flt.reset
  boot := Boot.reset
  dbg := Dbg.reset
  mem := Mem.reset
  vault := Vault.reset
  mov := Mov.reset
  sent := []
  freeCtr := 0
  pending := []

/-- Faults of the model. -/
inductive Fault where
  /-- A command names a unit (kind, number) that the specification says does not exist, such as port 97: no such event
  happens on the hardware. Raised by every meaning that acts on a numbered unit. Safe. -/
  | noSuchUnit (kind : String) (n : Nat)
  deriving DecidableEq, Repr

/-- Refusals of the model. -/
inductive Refusal where
  /-- The command has no meaning yet; raised by an arm of the dispatch alone. Safe. -/
  | notModelled (mnemonic : String)
  deriving DecidableEq, Repr

end Sys2Proof.Machine
end

