-- ==== Sys2Proof/Machine/Store.lean ====
section
/-!
DEFINITION. Reading and writing sparse maps, and the update functions of the state: one get, set and modify per
per-unit structure and one modify per group.
-/
namespace Sys2Proof.Machine

/-- The value of key `k`, `d` where the map lists none. -/
def SMap.get {α : Type} (d : α) : SMap α → Nat → α
  | [], _ => d
  | (j, v) :: m, k => if j = k then v else SMap.get d m k

/-- The map without its entries for key `k`. -/
def SMap.erase {α : Type} : SMap α → Nat → SMap α
  | [], _ => []
  | (j, v) :: m, k => if j = k then SMap.erase m k else (j, v) :: SMap.erase m k

/-- The map with key `k` at `v`; writing the value an unlisted key reads as removes the entry. -/
def SMap.put {α : Type} [DecidableEq α] (d : α) : SMap α → Nat → α → SMap α
  | [], k, v => if v = d then [] else [(k, v)]
  | (j, w) :: m, k, v =>
    if k < j then (if v = d then SMap.erase ((j, w) :: m) k else (k, v) :: (j, w) :: m)
    else if k = j then (if v = d then SMap.erase m k else (k, v) :: m)
    else (j, w) :: SMap.put d m k v

/-- Keys strictly rising from `lo` on, and no entry equal to `d`. -/
def SMap.wfFrom {α : Type} [DecidableEq α] (d : α) : Nat → SMap α → Bool
  | _, [] => true
  | lo, (k, v) :: m => decide (lo ≤ k) && decide (v ≠ d) && SMap.wfFrom d (k + 1) m

/-- The canonical form of a sparse map. -/
def SMap.wf {α : Type} [DecidableEq α] (d : α) (m : SMap α) : Bool := SMap.wfFrom d 0 m

/-- The keys and values a map lists, those satisfying `p` alone. -/
def SMap.select {α : Type} (p : Nat → α → Bool) : SMap α → SMap α
  | [] => []
  | (k, v) :: m => if p k v then (k, v) :: SMap.select p m else SMap.select p m

/-- The map with every listed value changed by `f`, in canonical form. -/
def SMap.mapv {α : Type} [DecidableEq α] (d : α) (f : α → α) : SMap α → SMap α
  | [] => []
  | (k, v) :: m => if f v = d then SMap.mapv d f m else (k, f v) :: SMap.mapv d f m

/-- Unit `k` of the ports. -/
def State.getUsb (s : State) (k : Nat) : PortUsb := SMap.get PortUsb.reset s.usb k

/-- The state with unit `k` of the ports at `v`. -/
def State.setUsb (s : State) (k : Nat) (v : PortUsb) : State := { s with usb := SMap.put PortUsb.reset s.usb k v }

/-- The state with unit `k` of the ports changed by `f`. -/
def State.modUsb (s : State) (k : Nat) (f : PortUsb → PortUsb) : State := s.setUsb k (f (s.getUsb k))

/-- Unit `k` of the ports. -/
def State.getPwr (s : State) (k : Nat) : PortPwr := SMap.get PortPwr.reset s.pwr k

/-- The state with unit `k` of the ports at `v`. -/
def State.setPwr (s : State) (k : Nat) (v : PortPwr) : State := { s with pwr := SMap.put PortPwr.reset s.pwr k v }

/-- The state with unit `k` of the ports changed by `f`. -/
def State.modPwr (s : State) (k : Nat) (f : PortPwr → PortPwr) : State := s.setPwr k (f (s.getPwr k))

/-- Unit `k` of the ports. -/
def State.getProt (s : State) (k : Nat) : PortProt := SMap.get PortProt.reset s.prot k

/-- The state with unit `k` of the ports at `v`. -/
def State.setProt (s : State) (k : Nat) (v : PortProt) : State := { s with prot := SMap.put PortProt.reset s.prot k v }

/-- The state with unit `k` of the ports changed by `f`. -/
def State.modProt (s : State) (k : Nat) (f : PortProt → PortProt) : State := s.setProt k (f (s.getProt k))

/-- Unit `k` of the ports. -/
def State.getFt (s : State) (k : Nat) : PortFt := SMap.get PortFt.reset s.ft k

/-- The state with unit `k` of the ports at `v`. -/
def State.setFt (s : State) (k : Nat) (v : PortFt) : State := { s with ft := SMap.put PortFt.reset s.ft k v }

/-- The state with unit `k` of the ports changed by `f`. -/
def State.modFt (s : State) (k : Nat) (f : PortFt → PortFt) : State := s.setFt k (f (s.getFt k))

/-- Unit `k` of the ports. -/
def State.getFifo (s : State) (k : Nat) : PortMem := SMap.get PortMem.reset s.fifo k

/-- The state with unit `k` of the ports at `v`. -/
def State.setFifo (s : State) (k : Nat) (v : PortMem) : State := { s with fifo := SMap.put PortMem.reset s.fifo k v }

/-- The state with unit `k` of the ports changed by `f`. -/
def State.modFifo (s : State) (k : Nat) (f : PortMem → PortMem) : State := s.setFifo k (f (s.getFifo k))

/-- Unit `k` of the galleries. -/
def State.getGals (s : State) (k : Nat) : Gallery := SMap.get Gallery.reset s.gals k

/-- The state with unit `k` of the galleries at `v`. -/
def State.setGals (s : State) (k : Nat) (v : Gallery) : State := { s with gals := SMap.put Gallery.reset s.gals k v }

/-- The state with unit `k` of the galleries changed by `f`. -/
def State.modGals (s : State) (k : Nat) (f : Gallery → Gallery) : State := s.setGals k (f (s.getGals k))

/-- Unit `k` of the pipe contexts. -/
def State.getPipes (s : State) (k : Nat) : Pipe := SMap.get Pipe.reset s.pipes k

/-- The state with unit `k` of the pipe contexts at `v`. -/
def State.setPipes (s : State) (k : Nat) (v : Pipe) : State := { s with pipes := SMap.put Pipe.reset s.pipes k v }

/-- The state with unit `k` of the pipe contexts changed by `f`. -/
def State.modPipes (s : State) (k : Nat) (f : Pipe → Pipe) : State := s.setPipes k (f (s.getPipes k))

/-- Unit `k` of the open items. -/
def State.getItems (s : State) (k : Nat) : Item := SMap.get Item.reset s.items k

/-- The state with unit `k` of the open items at `v`. -/
def State.setItems (s : State) (k : Nat) (v : Item) : State := { s with items := SMap.put Item.reset s.items k v }

/-- The state with unit `k` of the open items changed by `f`. -/
def State.modItems (s : State) (k : Nat) (f : Item → Item) : State := s.setItems k (f (s.getItems k))

/-- Unit `k` of the sessions. -/
def State.getSess (s : State) (k : Nat) : Session := SMap.get Session.reset s.sess k

/-- The state with unit `k` of the sessions at `v`. -/
def State.setSess (s : State) (k : Nat) (v : Session) : State := { s with sess := SMap.put Session.reset s.sess k v }

/-- The state with unit `k` of the sessions changed by `f`. -/
def State.modSess (s : State) (k : Nat) (f : Session → Session) : State := s.setSess k (f (s.getSess k))

/-- Unit `k` of the principals: tenants 1 to 64. -/
def State.getTenants (s : State) (k : Nat) : Tenant := SMap.get Tenant.reset s.tenants k

/-- The state with unit `k` of the principals: tenants 1 to 64 at `v`. -/
def State.setTenants (s : State) (k : Nat) (v : Tenant) : State := { s with tenants := SMap.put Tenant.reset s.tenants k v }

/-- The state with unit `k` of the principals: tenants 1 to 64 changed by `f`. -/
def State.modTenants (s : State) (k : Nat) (f : Tenant → Tenant) : State := s.setTenants k (f (s.getTenants k))

/-- The state with its group `cat` changed by `f`. -/
def State.modCat (s : State) (f : CatState → CatState) : State := { s with cat := f s.cat }

/-- The state with its group `can` changed by `f`. -/
def State.modCan (s : State) (f : Can → Can) : State := { s with can := f s.can }

/-- The state with its group `board` changed by `f`. -/
def State.modBoard (s : State) (f : Board → Board) : State := { s with board := f s.board }

/-- The state with its group `regs` changed by `f`. -/
def State.modRegs (s : State) (f : Regs → Regs) : State := { s with regs := f s.regs }

/-- The state with its group `clk` changed by `f`. -/
def State.modClk (s : State) (f : Clk → Clk) : State := { s with clk := f s.clk }

/-- The state with its group `upl` changed by `f`. -/
def State.modUpl (s : State) (f : Upl → Upl) : State := { s with upl := f s.upl }

/-- The state with its group `ptp` changed by `f`. -/
def State.modPtp (s : State) (f : Ptp → Ptp) : State := { s with ptp := f s.ptp }

/-- The state with its group `coll` changed by `f`. -/
def State.modColl (s : State) (f : Coll → Coll) : State := { s with coll := f s.coll }

/-- The state with its group `dps` changed by `f`. -/
def State.modDps (s : State) (f : Dps → Dps) : State := { s with dps := f s.dps }

/-- The state with its group `svc` changed by `f`. -/
def State.modSvc (s : State) (f : Svc → Svc) : State := { s with svc := f s.svc }

/-- The state with its group `flt` changed by `f`. -/
def State.modFlt (s : State) (f : Flt → Flt) : State := { s with flt := f s.flt }

/-- The state with its group `boot` changed by `f`. -/
def State.modBoot (s : State) (f : Boot → Boot) : State := { s with boot := f s.boot }

/-- The state with its group `dbg` changed by `f`. -/
def State.modDbg (s : State) (f : Dbg → Dbg) : State := { s with dbg := f s.dbg }

/-- The state with its group `mem` changed by `f`. -/
def State.modMem (s : State) (f : Mem → Mem) : State := { s with mem := f s.mem }

/-- The state with its group `vault` changed by `f`. -/
def State.modVault (s : State) (f : Vault → Vault) : State := { s with vault := f s.vault }

/-- The state with its group `mov` changed by `f`. -/
def State.modMov (s : State) (f : Mov → Mov) : State := { s with mov := f s.mov }

/-- The state after the outputs `xs`. -/
def State.emits (s : State) (xs : List Sent) : State := { s with sent := s.sent ++ xs }

/-- The state after the output `x`. -/
def State.emit (s : State) (x : Sent) : State := { s with sent := s.sent ++ [x] }

/-- The next free value (log entry 14). -/
def State.free (s : State) : Nat := Config.freeNat s.freeCtr

/-- The state after one free value has been taken. -/
def State.tookFree (s : State) : State := { s with freeCtr := s.freeCtr + 1 }

end Sys2Proof.Machine
end

