-- ==== Sys2Proof/Machine/Flags.lean ====
section
/-!
DEFINITION. Event bits and interrupt lines: how a W1C register takes new bits and a written word, and the state of
IRQ_N and ERR_OUT_N as the registers' rules give it (00 R9; 02 R63; 03 R110; 04 R137; 06 R200; 07 R235; 09; 10 R305;
11 R327; 12 R340; 13 R368; 14 R386; 15 R405; 16 R419, R420).
-/
namespace Sys2Proof.Machine

/-- The bits of `new` that are not yet set in `old`. -/
def newBits {w : Nat} (old new : BitVec w) : BitVec w := new &&& ~~~old

/-- W1C: writing 1 clears a bit, writing 0 has no effect (00 R9). -/
def w1c {w : Nat} (old : BitVec w) (wr : Nat) : BitVec w := old &&& ~~~(BitVec.ofNat w wr)

/-- W1C of one flag (00 R9). -/
def w1cFlag (old : Bool) (wr n : Nat) : Bool := old && !(bitOf wr n)

/-- COLL_STAT's W1C bits as a number in the register's places (03 R110). -/
def Coll.evtBits (c : Coll) : Nat :=
  b2n c.quorumLost * 4 + b2n c.digestMm * 8 + b2n c.leaseExp * 16 + b2n c.lockBroken * 32 + b2n c.epochFailed * 128

/-- Whether port `p` has an enabled PORT_EVT bit (06 R200). -/
def State.portIrq (s : State) (p : Nat) : Bool := (s.getUsb p).evt &&& (s.getUsb p).irqEn ≠ 0

/-- Whether mover channel `c` has an enabled event (11 R327). -/
def Chan.irq (c : Chan) : Bool := c.evt &&& c.irqEn ≠ 0

/-- IRQ_N is asserted (the rules listed above). -/
def State.irq (s : State) : Bool :=
  (s.board.rspReady && s.board.rspIrqEn)
  || (s.coll.irqEn && s.coll.evtBits ≠ 0)
  || (s.upl.evt &&& s.upl.irqEn ≠ 0)
  || s.usb.any (fun e => e.2.evt &&& e.2.irqEn ≠ 0)
  || (s.regs.psIrqEn && (s.regs.psExhausted || s.regs.psMapFail))
  || (s.ptp.evt &&& s.ptp.irqEn ≠ 0)
  || (s.vault.evt &&& s.vault.irqEn ≠ 0)
  || s.mov.chans.any (fun e => e.2.irq)
  || (s.mov.scanDone && s.mov.scanIrqEn)
  || (s.mem.evt &&& s.mem.irqEn ≠ 0)
  || s.pwr.any (fun e => e.2.evt &&& e.2.irqEn ≠ 0)
  || s.gals.any (fun e => e.2.overdraw && e.2.irqEn)
  || s.prot.any (fun e => e.2.evt &&& e.2.irqEn ≠ 0)
  || (s.dps.evt &&& s.dps.irqEn ≠ 0)
  || (s.flt.pending &&& s.flt.irqEn ≠ 0)

/-- Whether an aggregator holds a Serious or Grave occurrence (16 R416). -/
def Flt.aggSerious (f : Flt) : Bool :=
  (f.dieAgg ++ f.wingAgg).any (fun e => match e.2.latched with | some r => decide (2 ≤ r.cls) | none => false)

/-- ERR_OUT_N is asserted: FORCE, the minimum assertion, a hold of R401 or of the built-in test, or, before normal service, an aggregator
that holds a Serious or Grave occurrence (16 R416, R419). -/
def State.errOut (s : State) : Bool :=
  s.flt.force || s.flt.minRun || s.flt.pinHold || (!s.regs.inService && s.flt.aggSerious)

end Sys2Proof.Machine
end

