-- ==== Sys2Proof/Machine/Objects.lean ====
section
/-!
DEFINITION. The Catalogue's object table: for each object its type, rights, apply class, set of values and default,
as the chapters' object tables give them (02 R40 to R42, R488).
-/
namespace Sys2Proof.Machine

/-- Catalogue data types (02 R42). -/
inductive Ty where
  | bool | u8 | u16 | u32 | u64 | i16 | i32 | s14
  | octets (n : Nat)
  | str | dom
  deriving DecidableEq, Repr

/-- Access rights of one kind of principal (02 R43). -/
inductive Right where
  | no | r | w | rw
  deriving DecidableEq, Repr

/-- Apply classes (00 R10). -/
inductive Cls where
  | i | m | c | v | s | e | b
  deriving DecidableEq, Repr

/-- An object's set of values (02 R488): any value of the type, a BOOL, one value alone, or ranges (low, high, step). -/
inductive VSet where
  | any
  | boolean
  | only (v : Nat)
  | ranges (l : List (Nat × Nat × Nat))
  deriving DecidableEq, Repr

/-- A default value: a number in the type's encoding, or bytes. -/
inductive Dflt where
  | nat (v : Nat)
  | bytes (b : Bytes)
  deriving DecidableEq, Repr

/-- A row of an object table: index and subindex ranges, type, operator and tenant rights, apply class, set of
values, mask of the bits that are not reserved (00 R7), default. -/
structure Obj where
  idxLo : Nat
  idxHi : Nat
  subLo : Nat
  subHi : Nat
  ty : Ty
  op : Right
  ten : Right
  cls : Option Cls
  vset : VSet
  mask : Option Nat
  dflt : Dflt
  deriving DecidableEq, Repr

/-- The default trip curve (14 R374, the table Default trip curve). -/
def curveBytes : Bytes :=
  [0x83E8044C, 0x80C804E2, 0x803205DC, 0x43E807D0, 0x40C809C4, 0x40320BB8, 0x400A0DAC, 0x00C80FA0].flatMap (natLE 4)

/-- Rows of the object tables, piece 1, by index. -/
def objRows1 : List Obj :=
  [⟨0x1000, 0x1000, 0, 0, .u32, .r, .r, none, .any, none, .nat 0x9600⟩,
   ⟨0x1001, 0x1001, 0, 0, .u8, .r, .no, none, .any, none, .nat 0x0⟩,
   ⟨0x1003, 0x1003, 0, 0, .u8, .rw, .no, (some .i), .only 0, none, .nat 0⟩,
   ⟨0x1003, 0x1003, 1, 16, .u32, .r, .no, none, .any, none, .nat 0⟩,
   ⟨0x1008, 0x1008, 0, 0, .str, .r, .r, none, .any, none, .bytes [0x4F, 0x56, 0x47, 0x2D, 0x39, 0x36, 0x30, 0x30]⟩,
   ⟨0x1014, 0x1014, 0, 0, .u32, .rw, .no, (some .b), .any, none, .nat 0⟩,
   ⟨0x1015, 0x1015, 0, 0, .u16, .rw, .no, (some .i), .any, none, .nat 10⟩,
   ⟨0x1017, 0x1017, 0, 0, .u16, .rw, .no, (some .i), .any, none, .nat 1000⟩,
   ⟨0x1018, 0x1018, 1, 1, .u32, .r, .r, none, .any, none, .nat 0xd5e⟩,
   ⟨0x1018, 0x1018, 2, 2, .u32, .r, .r, none, .any, none, .nat 0x9600⟩,
   ⟨0x1018, 0x1018, 3, 3, .u32, .r, .r, none, .any, none, .nat 0xb1⟩,
   ⟨0x1018, 0x1018, 4, 4, .u32, .r, .r, none, .any, none, .nat 0⟩,
   ⟨0x1800, 0x1803, 0, 0, .u8, .r, .no, none, .any, none, .nat 5⟩,
   ⟨0x1800, 0x1803, 1, 1, .u32, .rw, .no, (some .i), .any, none, .nat 0⟩,
   ⟨0x1800, 0x1803, 2, 2, .u8, .rw, .no, (some .i), .any, none, .nat 0xfe⟩,
   ⟨0x1800, 0x1803, 3, 3, .u16, .rw, .no, (some .i), .any, none, .nat 100⟩,
   ⟨0x1800, 0x1803, 5, 5, .u16, .rw, .no, (some .i), .any, none, .nat 1000⟩,
   ⟨0x1A00, 0x1A03, 0, 0, .u8, .rw, .no, (some .i), .ranges [(0, 16, 1)], none, .nat 0⟩,
   ⟨0x1A00, 0x1A03, 1, 16, .u32, .rw, .no, (some .i), .any, none, .nat 0⟩,
   ⟨0x2010, 0x2010, 1, 1, .u8, .rw, .no, (some .b), .ranges [(1, 127, 1)], none, .nat 0x10⟩,
   ⟨0x2010, 0x2010, 2, 2, .u32, .rw, .no, (some .b), .ranges [(125000, 125000, 1), (250000, 250000, 1), (500000, 500000, 1), (1000000, 1000000, 1)], none, .nat 500000⟩,
   ⟨0x2010, 0x2010, 3, 3, .u32, .rw, .no, (some .b), .ranges [(1000000, 1000000, 1), (2000000, 2000000, 1), (4000000, 4000000, 1), (5000000, 5000000, 1)], none, .nat 2000000⟩,
   ⟨0x2010, 0x2010, 4, 4, .u16, .rw, .no, (some .i), .ranges [(10, 5000, 1)], none, .nat 500⟩,
   ⟨0x2011, 0x2011, 1, 1, .bool, .rw, .no, (some .i), .boolean, none, .nat 1⟩,
   ⟨0x2011, 0x2011, 2, 2, .bool, .rw, .no, (some .i), .boolean, none, .nat 1⟩,
   ⟨0x2011, 0x2011, 3, 3, .bool, .rw, .no, (some .i), .boolean, none, .nat 1⟩,
   ⟨0x2011, 0x2011, 4, 4, .bool, .rw, .no, (some .i), .boolean, none, .nat 1⟩,
   ⟨0x2020, 0x2020, 1, 1, .u16, .rw, .no, (some .i), .ranges [(1, 1000, 1)], none, .nat 100⟩,
   ⟨0x2021, 0x2021, 1, 1, .u32, .rw, .no, (some .i), .ranges [(0, 720000000, 1)], none, .nat 600000000⟩,
   ⟨0x2021, 0x2021, 2, 2, .u32, .rw, .no, (some .i), .any, none, .nat 1000000⟩]

/-- Rows of the object tables, piece 2, by index. -/
def objRows2 : List Obj :=
  [⟨0x2030, 0x2030, 1, 1, .u16, .rw, .no, (some .i), .ranges [(10, 3600, 1)], none, .nat 60⟩,
   ⟨0x2030, 0x2030, 2, 2, .u32, .rw, .no, (some .i), .ranges [(1, 1000000, 1)], none, .nat 64⟩,
   ⟨0x2030, 0x2030, 3, 3, .u8, .rw, .r, (some .i), .ranges [(5, 100, 1)], none, .nat 25⟩,
   ⟨0x2040, 0x2040, 1, 1, .u32, .rw, .r, (some .i), .ranges [(0, 4800000, 1)], none, .nat 95000⟩,
   ⟨0x2040, 0x2040, 2, 2, .u32, .rw, .r, (some .i), .ranges [(4500, 60000, 1)], none, .nat 15000⟩,
   ⟨0x2040, 0x2040, 3, 3, .u16, .rw, .no, (some .i), .ranges [(12, 5000, 1)], none, .nat 100⟩,
   ⟨0x2042, 0x2042, 1, 1, .u16, .rw, .no, (some .b), .ranges [(500, 3000, 1)], none, .nat 3000⟩,
   ⟨0x2042, 0x2042, 2, 2, .bool, .rw, .no, (some .b), .boolean, none, .nat 0⟩,
   ⟨0x2100, 0x2100, 1, 1, .u8, .rw, .no, (some .i), .ranges [(0, 3, 1)], none, .nat 0⟩,
   ⟨0x2100, 0x2100, 2, 2, .u32, .rw, .no, (some .i), .ranges [(0, 0, 1), (1000, 3600000, 1)], none, .nat 0⟩,
   ⟨0x2100, 0x2100, 3, 3, .u8, .rw, .no, (some .i), .any, some 0x3F, .nat 0x3f⟩,
   ⟨0x2100, 0x2100, 4, 4, .u32, .rw, .no, (some .i), .any, none, .nat 0⟩,
   ⟨0x2200, 0x2200, 1, 1, .u8, .rw, .r, (some .b), .ranges [(0, 1, 1)], none, .nat 0⟩,
   ⟨0x2200, 0x2200, 2, 2, .u8, .rw, .no, (some .b), .ranges [(0, 2, 1)], none, .nat 0⟩,
   ⟨0x2200, 0x2200, 3, 3, .bool, .rw, .no, (some .b), .boolean, none, .nat 1⟩,
   ⟨0x2200, 0x2200, 4, 4, .u8, .rw, .no, (some .i), .any, none, .nat 0xff⟩,
   ⟨0x2200, 0x2200, 5, 5, .u16, .rw, .r, (some .s), .ranges [(1518, 9216, 1)], none, .nat 9216⟩,
   ⟨0x2201, 0x2201, 1, 8, (.octets 16), .rw, .r, (some .s), .any, none, .nat 0⟩,
   ⟨0x2202, 0x2202, 1, 1, (.octets 6), .rw, .no, (some .b), .any, none, .nat 0⟩,
   ⟨0x2202, 0x2202, 2, 2, .u16, .rw, .no, (some .s), .ranges [(0, 4094, 1)], none, .nat 0⟩,
   ⟨0x2202, 0x2202, 3, 3, .u8, .rw, .no, (some .s), .ranges [(0, 7, 1)], none, .nat 5⟩,
   ⟨0x2202, 0x2202, 4, 4, .u8, .rw, .no, (some .s), .ranges [(0, 63, 1)], none, .nat 0⟩,
   ⟨0x2202, 0x2202, 5, 5, .u16, .rw, .r, (some .s), .ranges [(1, 65535, 1)], none, .nat 31308⟩,
   ⟨0x2203, 0x2203, 1, 1, .u32, .rw, .no, (some .b), .ranges [(0, 49152, 16)], none, .nat 32768⟩,
   ⟨0x2203, 0x2203, 2, 2, .u32, .rw, .no, (some .i), .ranges [(1000, 100000, 1)], none, .nat 8000⟩,
   ⟨0x2203, 0x2203, 3, 3, .u16, .rw, .no, (some .i), .ranges [(20, 10000, 1)], none, .nat 50⟩,
   ⟨0x2203, 0x2203, 4, 4, .u8, .rw, .no, (some .i), .ranges [(3, 30, 1)], none, .nat 12⟩,
   ⟨0x2203, 0x2203, 5, 5, .u16, .rw, .no, (some .i), .ranges [(100, 60000, 1)], none, .nat 5000⟩,
   ⟨0x2204, 0x2204, 1, 1, .u8, .rw, .no, (some .i), .ranges [(0, 127, 1)], none, .nat 0⟩,
   ⟨0x2204, 0x2204, 2, 2, .u8, .rw, .no, (some .i), .ranges [(0, 8, 1)], none, .nat 0⟩]

/-- Rows of the object tables, piece 3, by index. -/
def objRows3 : List Obj :=
  [⟨0x2204, 0x2204, 3, 3, .u32, .rw, .no, (some .i), .ranges [(1, 500000, 1)], none, .nat 100000⟩,
   ⟨0x2204, 0x2204, 4, 4, .bool, .rw, .no, (some .i), .boolean, none, .nat 0⟩,
   ⟨0x2205, 0x2205, 1, 1, (.octets 32), .w, .no, (some .s), .any, none, .nat 0⟩,
   ⟨0x2205, 0x2205, 2, 2, .u32, .rw, .no, (some .b), .ranges [(1024, 16384, 16)], none, .nat 8192⟩,
   ⟨0x2205, 0x2205, 3, 3, .u16, .rw, .no, (some .i), .ranges [(100, 10000, 1)], none, .nat 1000⟩,
   ⟨0x2300, 0x2300, 1, 1, .u8, .rw, .no, (some .b), .ranges [(0, 3, 1)], none, .nat 0⟩,
   ⟨0x2300, 0x2300, 2, 2, .bool, .rw, .r, (some .i), .boolean, none, .nat 0⟩,
   ⟨0x2300, 0x2300, 3, 3, .u16, .rw, .no, (some .i), .ranges [(1000, 60000, 1)], none, .nat 8000⟩,
   ⟨0x2300, 0x2300, 4, 4, .u16, .rw, .no, (some .b), .ranges [(16, 1024, 1)], none, .nat 256⟩,
   ⟨0x2301, 0x2301, 1, 64, (.octets 8), .rw, .no, (some .b), .any, none, .nat 0⟩,
   ⟨0x2302, 0x2302, 0, 0, .u32, .rw, .no, (some .b), .ranges [(0, 49152, 4096)], none, .nat 16384⟩,
   ⟨0x2303, 0x2303, 0, 0, .u8, .rw, .no, (some .i), .ranges [(0, 100, 1)], none, .nat 25⟩,
   ⟨0x2304, 0x2304, 0, 0, .u32, .rw, .no, (some .i), .any, none, .nat 0⟩,
   ⟨0x2305, 0x2305, 0, 0, .u8, .rw, .r, (some .i), .ranges [(0, 15, 1)], none, .nat 3⟩,
   ⟨0x2306, 0x2306, 0, 0, .u16, .rw, .no, (some .i), .ranges [(1, 3600, 1)], none, .nat 60⟩,
   ⟨0x2400, 0x2400, 1, 1, .u32, .rw, .no, (some .b), .ranges [(0, 6144, 64)], none, .nat 1024⟩,
   ⟨0x2500, 0x2500, 1, 1, .u32, .rw, .no, (some .i), .ranges [(100, 100000, 1)], none, .nat 10000⟩,
   ⟨0x2500, 0x2500, 2, 2, .u32, .rw, .no, (some .i), .ranges [(100, 100000, 1)], none, .nat 1000⟩,
   ⟨0x2501, 0x2501, 1, 1, .u8, .rw, .no, (some .i), .ranges [(0, 15, 1)], none, .nat 0xe⟩,
   ⟨0x2502, 0x2502, 1, 1, .u16, .w, .no, (some .i), .any, none, .nat 0⟩,
   ⟨0x2502, 0x2502, 2, 2, .u8, .w, .no, (some .i), .only 1, none, .nat 0⟩,
   ⟨0x2600, 0x2600, 1, 1, .u32, .rw, .no, (some .i), .ranges [(10000, 1000000000, 1)], none, .nat 1000000⟩,
   ⟨0x2600, 0x2600, 2, 2, .u16, .rw, .no, (some .i), .ranges [(100, 10000, 1)], none, .nat 1000⟩,
   ⟨0x2601, 0x2601, 1, 1, .u16, .rw, .r, (some .i), .ranges [(16, 480, 1)], none, .nat 192⟩,
   ⟨0x2700, 0x2700, 1, 1, .u8, .r, .r, none, .any, none, .nat 0⟩,
   ⟨0x2700, 0x2700, 2, 2, .u32, .r, .r, none, .any, none, .nat 0⟩,
   ⟨0x2700, 0x2700, 3, 3, .u8, .r, .r, none, .any, none, .nat 0⟩,
   ⟨0x2700, 0x2700, 4, 4, .u8, .w, .no, (some .i), .only 1, none, .nat 0⟩,
   ⟨0x2700, 0x2700, 5, 5, .u8, .rw, .no, (some .b), .ranges [(0, 2, 1)], none, .nat 0⟩,
   ⟨0x2700, 0x2700, 6, 6, .bool, .rw, .no, (some .b), .boolean, none, .nat 0⟩]

/-- Rows of the object tables, piece 4, by index. -/
def objRows4 : List Obj :=
  [⟨0x2701, 0x2701, 1, 1, .dom, .w, .no, (some .i), .any, none, .nat 0⟩,
   ⟨0x2701, 0x2701, 2, 2, .u8, .r, .no, none, .any, none, .nat 1⟩,
   ⟨0x2701, 0x2701, 3, 3, .u8, .w, .no, (some .i), .only 1, none, .nat 0⟩,
   ⟨0x2702, 0x2702, 0, 0, (.octets 48), .r, .r, none, .any, none, .nat 0⟩,
   ⟨0x2703, 0x2703, 1, 1, (.octets 32), .w, .w, (some .i), .any, none, .nat 0⟩,
   ⟨0x2703, 0x2703, 2, 2, (.octets 256), .r, .r, none, .any, none, .nat 0⟩,
   ⟨0x2703, 0x2703, 3, 3, .dom, .r, .r, none, .any, none, .nat 0⟩,
   ⟨0x2703, 0x2703, 4, 4, .u64, .r, .r, none, .any, none, .nat 0⟩,
   ⟨0x3000, 0x3000, 1, 12, .u8, .rw, .r, (some .i), .ranges [(1, 9, 1)], none, .nat 4⟩,
   ⟨0x3010, 0x3010, 1, 12, .u32, .rw, .r, (some .i), .ranges [(0, 2000000, 1)], none, .nat 0⟩,
   ⟨0x3011, 0x3011, 1, 12, .u32, .rw, .r, (some .b), .ranges [(20000, 20000, 1), (28000, 28000, 1), (36000, 36000, 1), (48000, 48000, 1)], none, .nat 20000⟩,
   ⟨0x3012, 0x3012, 1, 12, .u16, .rw, .no, (some .i), .ranges [(0, 8000, 1)], none, .nat 8000⟩,
   ⟨0x3013, 0x3013, 1, 12, .u8, .rw, .no, (some .b), .ranges [(8, 112, 8)], none, .nat 0x40⟩,
   ⟨0x4001, 0x4001, 1, 96, .u8, .r, .r, none, .any, none, .nat 0⟩,
   ⟨0x4010, 0x4010, 1, 96, .bool, .rw, .r, (some .b), .boolean, none, .nat 1⟩,
   ⟨0x4012, 0x4012, 1, 96, .u32, .rw, .r, (some .c), .ranges [(0, 0, 1), (4500, 240000, 1)], none, .nat 0⟩,
   ⟨0x4013, 0x4013, 1, 96, .u8, .rw, .r, (some .c), .any, some 0x3F, .nat 0xf⟩,
   ⟨0x4014, 0x4014, 1, 96, .bool, .rw, .r, (some .c), .boolean, none, .nat 0⟩,
   ⟨0x4015, 0x4015, 1, 96, .u8, .rw, .r, (some .c), .ranges [(0, 2, 1)], none, .nat 2⟩,
   ⟨0x4016, 0x4016, 1, 96, .u8, .rw, .r, (some .v), .ranges [(0, 2, 1)], none, .nat 1⟩,
   ⟨0x4017, 0x4017, 1, 96, .bool, .rw, .no, (some .v), .boolean, none, .nat 1⟩,
   ⟨0x4018, 0x4018, 1, 96, .bool, .rw, .r, (some .v), .boolean, none, .nat 1⟩,
   ⟨0x4020, 0x4020, 1, 96, .u16, .rw, .r, (some .i), .ranges [(100, 1000, 1)], none, .nat 100⟩,
   ⟨0x4021, 0x4021, 1, 96, .u8, .rw, .r, (some .i), .ranges [(50, 100, 1)], none, .nat 50⟩,
   ⟨0x4022, 0x4022, 1, 96, .u8, .rw, .r, (some .i), .ranges [(2, 7, 1)], none, .nat 7⟩,
   ⟨0x4023, 0x4023, 1, 96, .u8, .rw, .r, (some .i), .ranges [(0, 2, 1)], none, .nat 2⟩,
   ⟨0x4024, 0x4024, 1, 96, .u8, .w, .w, (some .i), .ranges [(1, 127, 1)], none, .nat 0⟩,
   ⟨0x4025, 0x4025, 1, 96, .bool, .rw, .r, (some .i), .boolean, none, .nat 1⟩,
   ⟨0x4026, 0x4026, 1, 96, .u32, .rw, .rw, (some .i), .ranges [(0, 0, 1), (10, 3600000, 1)], none, .nat 0⟩,
   ⟨0x4027, 0x4027, 1, 96, .u16, .rw, .r, (some .i), .ranges [(0, 500, 1)], none, .nat 0⟩]

/-- Rows of the object tables, piece 5, by index. -/
def objRows5 : List Obj :=
  [⟨0x4028, 0x4028, 1, 96, .u8, .rw, .r, (some .i), .ranges [(0, 1, 1)], none, .nat 0⟩,
   ⟨0x4029, 0x4029, 1, 96, .u8, .rw, .rw, (some .m), .any, some 0x7, .nat 0x0⟩,
   ⟨0x402A, 0x402A, 1, 96, .u16, .rw, .rw, (some .m), .ranges [(100, 65535, 1)], none, .nat 1000⟩,
   ⟨0x402B, 0x402B, 1, 96, .u8, .rw, .rw, (some .m), .ranges [(1, 127, 1)], none, .nat 10⟩,
   ⟨0x402C, 0x402C, 1, 96, .u8, .rw, .rw, (some .m), .ranges [(1, 254, 1)], none, .nat 4⟩,
   ⟨0x402D, 0x402D, 1, 96, .u8, .w, .no, (some .i), .only 1, none, .nat 0⟩,
   ⟨0x402E, 0x402E, 1, 96, .u8, .rw, .r, (some .i), .ranges [(2, 64, 1)], none, .nat 8⟩,
   ⟨0x4030, 0x4030, 1, 96, .u8, .rw, .r, (some .m), .ranges [(3, 15, 1)], none, .nat 7⟩,
   ⟨0x4031, 0x4031, 1, 96, .u16, .rw, .r, (some .m), .ranges [(1, 256, 1)], none, .nat 64⟩,
   ⟨0x4040, 0x4040, 1, 96, .u8, .rw, .r, (some .i), .ranges [(0, 48, 1)], none, .nat 6⟩,
   ⟨0x4050, 0x4050, 1, 96, .u32, .rw, .rw, (some .m), .ranges [(0, 124999, 1)], none, .nat 0⟩,
   ⟨0x4060, 0x4060, 1, 96, (.octets 32), .rw, .r, (some .i), .any, none, .bytes (curveBytes)⟩,
   ⟨0x4061, 0x4061, 1, 96, .u8, .rw, .r, (some .v), .ranges [(1, 100, 1)], none, .nat 10⟩,
   ⟨0x4062, 0x4062, 1, 96, .u16, .rw, .r, (some .i), .ranges [(500, 20000, 1)], none, .nat 8000⟩,
   ⟨0x4063, 0x4063, 1, 96, .u8, .rw, .r, (some .i), .ranges [(0, 15, 1)], none, .nat 3⟩,
   ⟨0x4064, 0x4064, 1, 96, .u16, .rw, .r, (some .i), .ranges [(10, 10000, 1)], none, .nat 200⟩,
   ⟨0x4065, 0x4065, 1, 96, .u16, .rw, .r, (some .v), .ranges [(1000, 20000, 1)], none, .nat 5000⟩,
   ⟨0x4066, 0x4066, 1, 96, .u16, .rw, .no, (some .i), .ranges [(10, 1000, 1)], none, .nat 100⟩,
   ⟨0x6000, 0x6000, 1, 64, .u8, .r, .r, none, .any, none, .nat 0⟩,
   ⟨0x6001, 0x6001, 1, 64, (.octets 12), .rw, .no, (some .i), .any, none, .nat 0⟩,
   ⟨0x6002, 0x6002, 1, 64, .u32, .rw, .no, (some .i), .ranges [(0, 4800000, 1)], none, .nat 0⟩,
   ⟨0x6003, 0x6003, 1, 64, .u32, .rw, .no, (some .i), .ranges [(0, 800000000, 1)], none, .nat 0⟩,
   ⟨0x6004, 0x6004, 1, 64, .u32, .rw, .no, (some .i), .any, none, .nat 0⟩,
   ⟨0x6005, 0x6005, 1, 64, .u16, .rw, .no, (some .i), .ranges [(1, 1000, 1)], none, .nat 100⟩,
   ⟨0x6006, 0x6006, 1, 64, (.octets 32), .w, .no, (some .s), .any, none, .nat 0⟩,
   ⟨0x6007, 0x6007, 1, 64, .u8, .w, .no, (some .i), .ranges [(1, 4, 1)], none, .nat 0⟩,
   ⟨0x6008, 0x6008, 1, 64, .u32, .r, .no, none, .any, none, .nat 0⟩,
   ⟨0x6009, 0x6009, 1, 64, .u32, .r, .r, none, .any, none, .nat 0⟩,
   ⟨0x600A, 0x600A, 1, 64, .u32, .r, .r, none, .any, none, .nat 0⟩,
   ⟨0x6010, 0x6010, 1, 64, .u32, .rw, .r, (some .s), .ranges [(16, 8192, 16)], none, .nat 1024⟩]

/-- Rows of the object tables, piece 6, by index. -/
def objRows6 : List Obj :=
  [⟨0x6011, 0x6011, 1, 64, .u16, .rw, .r, (some .s), .ranges [(1, 1024, 1)], none, .nat 16⟩,
   ⟨0x6012, 0x6012, 1, 64, .u16, .rw, .r, (some .s), .ranges [(64, 16384, 1)], none, .nat 4096⟩,
   ⟨0x6013, 0x6013, 1, 64, .u8, .r, .r, none, .any, none, .nat 0⟩,
   ⟨0x6014, 0x6014, 1, 64, .u32, .rw, .r, (some .i), .ranges [(1, 1036288, 1)], none, .nat 65536⟩,
   ⟨0x6400, 0x64FF, 0, 0, .u8, .r, .r, none, .any, none, .nat 4⟩,
   ⟨0x6400, 0x64FF, 1, 1, .u32, .r, .r, none, .any, none, .nat 0⟩,
   ⟨0x6400, 0x64FF, 2, 2, .u32, .r, .r, none, .any, none, .nat 0⟩,
   ⟨0x6400, 0x64FF, 3, 3, .u8, .w, .w, (some .i), .any, none, .nat 0⟩,
   ⟨0x6400, 0x64FF, 4, 4, .u8, .rw, .r, (some .i), .any, none, .nat 0x0⟩,
   ⟨0x7000, 0x7000, 1, 1, .u8, .rw, .r, (some .b), .ranges [(1, 16, 1)], none, .nat 1⟩,
   ⟨0x7000, 0x7000, 2, 2, .u8, .rw, .r, (some .e), .ranges [(1, 16, 1)], none, .nat 1⟩,
   ⟨0x7000, 0x7000, 3, 3, .u16, .rw, .no, (some .e), .ranges [(1, 65535, 1)], none, .nat 31309⟩,
   ⟨0x7000, 0x7000, 4, 4, .u16, .rw, .r, (some .e), .ranges [(5, 300, 1)], none, .nat 30⟩,
   ⟨0x7000, 0x7000, 5, 5, .bool, .rw, .no, (some .e), .boolean, none, .nat 0⟩,
   ⟨0x7001, 0x7001, 1, 16, (.octets 16), .rw, .no, (some .e), .any, none, .nat 0⟩,
   ⟨0x7002, 0x7002, 0, 0, (.octets 16), .rw, .no, (some .e), .any, none, .nat 0⟩,
   ⟨0x7003, 0x7003, 0, 0, (.octets 32), .w, .no, (some .e), .any, none, .nat 0⟩,
   ⟨0x7004, 0x7004, 0, 0, .u32, .r, .r, none, .any, none, .nat 0⟩,
   ⟨0x7005, 0x7005, 0, 0, .u8, .w, .no, (some .i), .only 1, none, .nat 0⟩,
   ⟨0x7006, 0x7006, 0, 0, .u32, .r, .r, none, .any, none, .nat 0⟩,
   ⟨0x7007, 0x7007, 0, 0, (.octets 32), .r, .r, none, .any, none, .nat 0⟩,
   ⟨0x7008, 0x7008, 0, 0, .u16, .r, .no, none, .any, none, .nat 0⟩,
   ⟨0x7010, 0x7010, 1, 16, (.octets 32), .r, .no, none, .any, none, .nat 0⟩,
   ⟨0x8001, 0x8001, 0, 0, .u16, .r, .r, none, .any, none, .nat 0⟩,
   ⟨0x8002, 0x8002, 0, 0, .dom, .r, .r, none, .any, none, .nat 0⟩,
   ⟨0x8100, 0x8100, 1, 64, (.octets 12), .r, .r, none, .any, none, .nat 0⟩,
   ⟨0x8101, 0x8101, 1, 64, .u32, .r, .r, none, .any, none, .nat 0⟩,
   ⟨0x8102, 0x8102, 1, 64, .u32, .r, .r, none, .any, none, .nat 0⟩,
   ⟨0x8103, 0x8103, 1, 64, .u32, .r, .r, none, .any, none, .nat 0⟩,
   ⟨0x8104, 0x8104, 1, 64, .u16, .r, .r, none, .any, none, .nat 0⟩]

/-- Rows of the object tables, piece 7, by index. -/
def objRows7 : List Obj :=
  [⟨0x8110, 0x8110, 0, 0, .u32, .r, .no, none, .any, none, .nat 0⟩,
   ⟨0x8120, 0x8120, 1, 64, .u32, .r, .r, none, .any, none, .nat 0⟩,
   ⟨0x8121, 0x8121, 1, 64, .u32, .r, .r, none, .any, none, .nat 0⟩,
   ⟨0x8122, 0x8122, 0, 0, .u32, .r, .no, none, .any, none, .nat 0⟩,
   ⟨0x8123, 0x8123, 0, 0, .u32, .r, .no, none, .any, none, .nat 32768⟩,
   ⟨0x8130, 0x8130, 1, 64, .u32, .r, .r, none, .any, none, .nat 0⟩,
   ⟨0x8131, 0x8131, 1, 64, .u32, .r, .r, none, .any, none, .nat 0⟩,
   ⟨0x8132, 0x8132, 1, 64, .u32, .r, .r, none, .any, none, .nat 0⟩,
   ⟨0x8133, 0x8133, 0, 0, .u32, .r, .no, none, .any, none, .nat 0⟩,
   ⟨0x8200, 0x8200, 1, 96, .u8, .r, .r, none, .any, none, .nat 0⟩,
   ⟨0x8201, 0x8201, 1, 96, .u8, .r, .r, none, .any, none, .nat 0⟩,
   ⟨0x8202, 0x8202, 1, 96, .u8, .r, .r, none, .any, none, .nat 0⟩,
   ⟨0x8203, 0x8203, 1, 96, .u32, .r, .r, none, .any, none, .nat 0⟩,
   ⟨0x8204, 0x8204, 1, 96, .u32, .r, .r, none, .any, none, .nat 0⟩,
   ⟨0x8205, 0x8205, 1, 96, .u32, .r, .r, none, .any, none, .nat 0⟩,
   ⟨0x8206, 0x8206, 1, 96, .u32, .r, .r, none, .any, none, .nat 0⟩,
   ⟨0x8207, 0x8207, 1, 96, .u32, .r, .r, none, .any, none, .nat 0⟩,
   ⟨0x8208, 0x8208, 1, 96, .s14, .r, .r, none, .any, none, .nat 0⟩,
   ⟨0x8210, 0x8210, 1, 96, .u32, .r, .r, none, .any, none, .nat 0⟩,
   ⟨0x8211, 0x8211, 1, 96, .u32, .r, .r, none, .any, none, .nat 0⟩,
   ⟨0x8212, 0x8212, 0, 0, .u32, .r, .no, none, .any, none, .nat 1036288⟩,
   ⟨0x8213, 0x8213, 0, 0, .u32, .r, .no, none, .any, none, .nat 0⟩,
   ⟨0x8214, 0x8214, 1, 64, .u32, .r, .r, none, .any, none, .nat 0⟩,
   ⟨0x8215, 0x8215, 1, 64, .u32, .r, .r, none, .any, none, .nat 0⟩,
   ⟨0x8220, 0x8220, 1, 96, .u32, .r, .r, none, .any, none, .nat 0⟩,
   ⟨0x8221, 0x8221, 1, 96, .u8, .r, .r, none, .any, none, .nat 0⟩,
   ⟨0x8222, 0x8222, 1, 64, .u32, .r, .r, none, .any, none, .nat 0⟩,
   ⟨0x8223, 0x8223, 1, 64, .u32, .r, .r, none, .any, none, .nat 0⟩,
   ⟨0x8224, 0x8224, 1, 4, .u32, .r, .no, none, .any, none, .nat 0⟩,
   ⟨0x8225, 0x8225, 1, 4, .u32, .r, .no, none, .any, none, .nat 0⟩]

/-- Rows of the object tables, piece 8, by index. -/
def objRows8 : List Obj :=
  [⟨0x8226, 0x8226, 1, 64, .u8, .r, .r, none, .any, none, .nat 0⟩,
   ⟨0x8230, 0x8230, 0, 0, .u8, .r, .r, none, .any, none, .nat 0⟩,
   ⟨0x8231, 0x8231, 0, 0, .i32, .r, .no, none, .any, none, .nat 0⟩,
   ⟨0x8232, 0x8232, 1, 96, .i32, .r, .r, none, .any, none, .nat 0⟩,
   ⟨0x8233, 0x8233, 1, 96, .i32, .r, .r, none, .any, none, .nat 0⟩,
   ⟨0x8234, 0x8234, 1, 96, .u32, .r, .r, none, .any, none, .nat 0⟩,
   ⟨0x8240, 0x8240, 0, 0, .u32, .r, .r, none, .any, none, .nat 0⟩,
   ⟨0x8241, 0x8241, 0, 0, .u32, .r, .no, none, .any, none, .nat 0⟩,
   ⟨0x8242, 0x8242, 1, 64, .u8, .r, .no, none, .any, none, .nat 0⟩,
   ⟨0x8243, 0x8243, 0, 0, .u64, .r, .no, none, .any, none, .nat 0⟩,
   ⟨0x8244, 0x8244, 1, 64, .u32, .r, .r, none, .any, none, .nat 0⟩,
   ⟨0x8245, 0x8245, 0, 0, .u32, .r, .no, none, .any, none, .nat 0⟩,
   ⟨0x8250, 0x8250, 0, 0, .u64, .r, .no, none, .any, none, .nat 0⟩,
   ⟨0x8251, 0x8251, 0, 0, .u64, .r, .no, none, .any, none, .nat 0⟩,
   ⟨0x8252, 0x8252, 0, 0, .u32, .r, .no, none, .any, none, .nat 0⟩,
   ⟨0x8253, 0x8253, 0, 0, .u32, .r, .no, none, .any, none, .nat 0⟩,
   ⟨0x8260, 0x8260, 0, 0, .u64, .r, .no, none, .any, none, .nat 0⟩,
   ⟨0x8261, 0x8261, 0, 0, .u32, .r, .no, none, .any, none, .nat 0⟩,
   ⟨0x8262, 0x8262, 0, 0, .u32, .r, .no, none, .any, none, .nat 0⟩,
   ⟨0x8263, 0x8263, 0, 0, .u32, .r, .no, none, .any, none, .nat 7168⟩,
   ⟨0x8264, 0x8264, 1, 96, .u32, .r, .r, none, .any, none, .nat 0⟩,
   ⟨0x8265, 0x8265, 0, 0, .u32, .r, .no, none, .any, none, .nat 0⟩,
   ⟨0x8270, 0x8270, 1, 96, .u32, .r, .r, none, .any, none, .nat 0⟩,
   ⟨0x8271, 0x8271, 1, 96, .u8, .r, .r, none, .any, none, .nat 0⟩,
   ⟨0x8272, 0x8272, 1, 96, .u32, .r, .r, none, .any, none, .nat 0⟩,
   ⟨0x8273, 0x8273, 1, 96, (.octets 8), .r, .r, none, .any, none, .nat 0⟩,
   ⟨0x8274, 0x8274, 1, 96, .u32, .r, .r, none, .any, none, .nat 0⟩,
   ⟨0x8275, 0x8275, 1, 12, .u32, .r, .r, none, .any, none, .nat 0⟩,
   ⟨0x8276, 0x8276, 1, 12, .u32, .r, .no, none, .any, none, .nat 0⟩,
   ⟨0x8277, 0x8277, 0, 0, .u32, .r, .no, none, .any, none, .nat 0⟩]

/-- Rows of the object tables, piece 9, by index. -/
def objRows9 : List Obj :=
  [⟨0x8280, 0x8280, 1, 96, .u32, .r, .r, none, .any, none, .nat 0⟩,
   ⟨0x8281, 0x8281, 1, 96, .u8, .r, .r, none, .any, none, .nat 0⟩,
   ⟨0x8282, 0x8282, 1, 96, .u16, .r, .r, none, .any, none, .nat 0⟩,
   ⟨0x8283, 0x8283, 1, 96, .s14, .r, .r, none, .any, none, .nat 0⟩,
   ⟨0x8284, 0x8284, 1, 96, .s14, .r, .no, none, .any, none, .nat 0⟩,
   ⟨0x8285, 0x8285, 1, 96, .u32, .r, .r, none, .any, none, .nat 0⟩,
   ⟨0x8290, 0x8290, 0, 0, .u8, .r, .r, none, .any, none, .nat 0⟩,
   ⟨0x8291, 0x8291, 0, 0, (.octets 8), .r, .no, none, .any, none, .nat 0⟩,
   ⟨0x8292, 0x8292, 0, 0, .u32, .r, .no, none, .any, none, .nat 0⟩,
   ⟨0x8293, 0x8293, 0, 0, .u32, .r, .no, none, .any, none, .nat 0⟩,
   ⟨0x8294, 0x8294, 0, 0, .u16, .r, .no, none, .any, none, .nat 0⟩,
   ⟨0x82A0, 0x82A0, 1, 4, .u32, .r, .no, none, .any, none, .nat 0⟩,
   ⟨0x82A1, 0x82A1, 1, 4, .i16, .r, .no, none, .any, none, .nat 0⟩,
   ⟨0x82A2, 0x82A2, 0, 0, .bool, .r, .r, none, .boolean, none, .nat 0⟩,
   ⟨0x82A3, 0x82A3, 0, 0, .i16, .r, .no, none, .any, none, .nat 0⟩,
   ⟨0x82B0, 0x82B0, 0, 0, .u32, .r, .r, none, .any, none, .nat 0⟩,
   ⟨0x82B1, 0x82B1, 0, 0, .u32, .r, .r, none, .any, none, .nat 0⟩]

/-- The object table. -/
def objTable : List Obj :=
  objRows1 ++ objRows2 ++ objRows3 ++ objRows4 ++ objRows5 ++ objRows6 ++ objRows7 ++ objRows8 ++ objRows9

/-- The first row of `l` that covers the object. -/
def findRow (idx sub : Nat) : List Obj → Option Obj
  | [] => none
  | o :: l =>
    if o.idxLo ≤ idx ∧ idx ≤ o.idxHi ∧ o.subLo ≤ sub ∧ sub ≤ o.subHi then some o else findRow idx sub l

/-- The highest subindex the rows of `l` define for an index; 0 where none is above 0 (02 R41). -/
def highestSub (idx : Nat) : List Obj → Nat
  | [] => 0
  | o :: l => if o.idxLo ≤ idx ∧ idx ≤ o.idxHi then max o.subHi (highestSub idx l) else highestSub idx l

/-- The rows of `l` that cover an index. -/
def rowsOf (idx : Nat) : List Obj → List Obj
  | [] => []
  | o :: l => if o.idxLo ≤ idx ∧ idx ≤ o.idxHi then o :: rowsOf idx l else rowsOf idx l

/-- The size of a type's values in bytes; none where it varies (02 R42). -/
def Ty.size : Ty → Option Nat
  | .bool => some 1
  | .u8 => some 1
  | .u16 => some 2
  | .u32 => some 4
  | .u64 => some 8
  | .i16 => some 2
  | .i32 => some 4
  | .s14 => some 2
  | .octets n => some n
  | .str => none
  | .dom => none

/-- Whether a type is numeric or BOOL (02 R489). -/
def Ty.numeric : Ty → Bool
  | .octets _ => false
  | .str => false
  | .dom => false
  | _ => true

/-- The bytes of a default (02 R42). -/
def Obj.dfltBytes (o : Obj) : Bytes :=
  match o.dflt with
  | .bytes b => b
  | .nat v => natLE (o.ty.size.getD 0) v

/-- The highest value of a list of ranges. -/
def rangesTop : List (Nat × Nat × Nat) → Nat
  | [] => 0
  | (_, h, _) :: l => max h (rangesTop l)

/-- Whether a value lies in one of the ranges, on its step from 0. -/
def inRanges (v : Nat) : List (Nat × Nat × Nat) → Bool
  | [] => false
  | (lo, h, st) :: l => (decide (lo ≤ v) && decide (v ≤ h) && decide (v % st = 0)) || inRanges v l

/-- The range check of R46: 0 where the value is in the set, else the abort code R488 chooses. -/
def VSet.check (vs : VSet) (v : Nat) : Nat :=
  match vs with
  | .any => 0
  | .boolean => if v ≤ 1 then 0 else 0x06090030
  | .only w => if v = w then 0 else 0x06090030
  | .ranges l =>
    if inRanges v l then 0
    else if rangesTop l < v then 0x06090031
    else match l with
      | (lo, _, _) :: _ => if v < lo then 0x06090032 else 0x06090030
      | [] => 0

/-- The apply class as one ASCII capital letter (02 R52). -/
def Cls.letter : Cls → Byte
  | .i => 0x49
  | .m => 0x4D
  | .c => 0x43
  | .v => 0x56
  | .s => 0x53
  | .e => 0x45
  | .b => 0x42

end Sys2Proof.Machine
end

