-- ==== Sys2Proof/Machine/Units.lean ====
section
/-!
DEFINITION. Unit numbers and codes: which gallery, wing and die carry a port (00, 01 R15, R16), the codes of states
and speeds (06 R165, R166; 13 R368; 14 R386; 15 R387), and ranges of unit numbers.
-/
namespace Sys2Proof.Machine

/-- The gallery of a port: ceil(p / 8) (00). -/
def galOf (p : Nat) : Nat := (p + 7) / 8

/-- The wing of a gallery: ceil(g / 3) (00). -/
def wingOfGal (g : Nat) : Nat := (g + 2) / 3

/-- The wing of a port (00). -/
def wingOf (p : Nat) : Nat := wingOfGal (galOf p)

/-- The port die of a port (01 R15, R17). -/
def portDie (p : Nat) : Nat := if p ≤ 48 then 1 else 2

/-- The sentry die of a port (01 R15, R17). -/
def sentryDie (p : Nat) : Nat := if p ≤ 48 then 3 else 4

/-- The port die of a gallery (01 R15). -/
def galDie (g : Nat) : Nat := if g ≤ 6 then 1 else 2

/-- The port die of a wing (01 R15). -/
def wingDie (w : Nat) : Nat := if w ≤ 2 then 1 else 2

/-- Ports 8g - 7 to 8g of a gallery, ascending (01, Levels). -/
def portsOfGal (g : Nat) : List Nat := (List.range 8).map (fun i => 8 * g - 7 + i)

/-- Galleries 3w - 2 to 3w of a wing, ascending (01, Levels). -/
def galsOfWing (w : Nat) : List Nat := [3 * w - 2, 3 * w - 1, 3 * w]

/-- Ports 1 to 96. -/
def allPorts : List Nat := (List.range 96).map (· + 1)

/-- Galleries 1 to 12. -/
def allGals : List Nat := (List.range 12).map (· + 1)

/-- Whether a port number names a port. -/
def portOk (p : Nat) : Bool := decide (1 ≤ p) && decide (p ≤ 96)

/-- Whether a gallery number names a gallery. -/
def galOk (g : Nat) : Bool := decide (1 ≤ g) && decide (g ≤ 12)

/-- Whether a tenant number names a tenant (03). -/
def tenantOk (t : Nat) : Bool := decide (1 ≤ t) && decide (t ≤ 64)

/-- Whether a number names an upstream link (04 R111). -/
def linkOk (m : Nat) : Bool := decide (1 ≤ m) && decide (m ≤ 8)

/-- Port state codes (06 R165). -/
def portStateCode : PortState → Nat
  | .unpowered => 0
  | .powered => 1
  | .attaching => 2
  | .resetting => 3
  | .enabled => 4
  | .disabled => 5
  | .suspended => 6
  | .tripped => 7
  | .quarantined => 8

/-- Speed codes (06 R166). -/
def speedCode : Speed → Nat
  | .none => 0
  | .ls => 1
  | .fs => 2
  | .hs => 3
  | .gen1x1 => 4
  | .gen2x1 => 5
  | .gen1x2 => 6
  | .gen2x2 => 7

/-- Whether a speed code is a SuperSpeed mode (06 R166). -/
def isSuper (c : Nat) : Bool := decide (4 ≤ c)

/-- CC state codes (13 R368). -/
def ccCode : CcState → Nat
  | .unattached => 0
  | .attachWait => 1
  | .attached => 2
  | .withheld => 3
  | .unattachedWait => 4

/-- Switch state codes (14 R386). -/
def swCode : SwState → Nat
  | .off => 0
  | .ramping => 1
  | .on => 2
  | .draining => 3
  | .cooling => 4
  | .locked => 5

/-- Device power state codes (15 R387). -/
def pwrCode : PwrState → Nat
  | .run => 0
  | .drowse => 1
  | .dormant => 2
  | .shelf => 3
  | .waking => 4
  | .settling => 5

/-- The device power state a requested-state value names (15 R404). -/
def pwrOf (v : Nat) : PwrState :=
  if v = 1 then .drowse else if v = 2 then .dormant else if v = 3 then .shelf else .run

/-- Loan state codes (03 R93). -/
def loanCode : LoanState → Nat
  | .idle => 0
  | .active => 1
  | .paused => 2
  | .recalling => 3

/-- The key of a PLL in the clock state: core 0, upstream 1, PCIe 2, gallery 10 + g, Gen 1 30 + w, Gen 2 40 + w. -/
def pllKey : PllId → Nat
  | .core => 0
  | .upstream => 1
  | .pcie => 2
  | .gallery g => 10 + g
  | .gen1 w => 30 + w
  | .gen2 w => 40 + w

/-- A PLL that is stopped. -/
def Pll.reset : Pll := ⟨.stopped, 0, false⟩

/-- The PLL `q` (01 R29). -/
def State.pll (s : State) (q : PllId) : Pll := SMap.get Pll.reset s.clk.plls (pllKey q)

/-- The state with PLL `q` at `v`. -/
def State.setPll (s : State) (q : PllId) (v : Pll) : State :=
  s.modClk (fun c => { c with plls := SMap.put Pll.reset c.plls (pllKey q) v })

/-- Whether PLL `q` is locked. -/
def State.locked (s : State) (q : PllId) : Bool := (s.pll q).state = .locked

/-- A link that is Off with an empty queue (04 R114). -/
def State.link (s : State) (m : Nat) : Link := SMap.get Link.reset s.upl.links m

/-- The state with upstream link `m` at `v`. -/
def State.setLink (s : State) (m : Nat) (v : Link) : State :=
  s.modUpl (fun u => { u with links := SMap.put Link.reset u.links m v })

/-- A slot, job, channel or other numbered unit inside a group. -/
def State.slot (s : State) (n : Nat) : Slot := SMap.get Slot.reset s.flt.slots n

/-- The state with reaction slot `n` at `v`. -/
def State.setSlot (s : State) (n : Nat) (v : Slot) : State :=
  s.modFlt (fun f => { f with slots := SMap.put Slot.reset f.slots n v })

/-- Mover channel `c` (11 R306). -/
def State.chan (s : State) (c : Nat) : Chan := SMap.get Chan.reset s.mov.chans c

/-- The state with mover channel `c` at `v`. -/
def State.setChan (s : State) (c : Nat) (v : Chan) : State :=
  s.modMov (fun m => { m with chans := SMap.put Chan.reset m.chans c v })

/-- Check-value unit `u` (11 R321). -/
def State.unit (s : State) (u : Nat) : CheckUnit := SMap.get CheckUnit.reset s.mov.units u

/-- The state with check-value unit `u` at `v`. -/
def State.setUnit (s : State) (u : Nat) (v : CheckUnit) : State :=
  s.modMov (fun m => { m with units := SMap.put CheckUnit.reset m.units u v })

/-- Fan-out job slot `j` (10 R290). -/
def State.job (s : State) (j : Nat) : Job := SMap.get Job.reset s.vault.jobs j

/-- The state with fan-out job slot `j` at `v`. -/
def State.setJob (s : State) (j : Nat) (v : Job) : State :=
  s.modVault (fun m => { m with jobs := SMap.put Job.reset m.jobs j v })

/-- Drive `n` (10 R274). -/
def State.drive (s : State) (n : Nat) : Drive := SMap.get Drive.reset s.vault.drives n

/-- The state with drive `n` at `v`. -/
def State.setDrive (s : State) (n : Nat) (v : Drive) : State :=
  s.modVault (fun m => { m with drives := SMap.put Drive.reset m.drives n v })

/-- A voter of which nothing was heard. -/
def Voter.reset : Voter := ⟨false, false, 0, none, 0, 0, false⟩

/-- Voter `m`, 0 the witness (03 R98). -/
def State.voter (s : State) (m : Nat) : Voter := SMap.get Voter.reset s.coll.voters m

/-- The state with voter `m` at `v`. -/
def State.setVoter (s : State) (m : Nat) (v : Voter) : State :=
  s.modColl (fun c => { c with voters := SMap.put Voter.reset c.voters m v })

/-- A lock that is Free (03 R103). -/
def Lock.reset : Lock := ⟨.free, false, 0, 0, 0⟩

/-- Lock `n` (03 R103). -/
def State.lock (s : State) (n : Nat) : Lock := SMap.get Lock.reset s.coll.locks n

/-- The state with lock `n` at `v`. -/
def State.setLock (s : State) (n : Nat) (v : Lock) : State :=
  s.modColl (fun c => { c with locks := SMap.put Lock.reset c.locks n v })

/-- A TPDO never sent. -/
def Tpdo.reset : Tpdo := ⟨false, false, []⟩

/-- TPDO `n` (02 R58). -/
def State.tpdoOf (s : State) (n : Nat) : Tpdo := SMap.get Tpdo.reset s.can.tpdo n

/-- The state with TPDO `n` at `v`. -/
def State.setTpdo (s : State) (n : Nat) (v : Tpdo) : State :=
  s.modCan (fun c => { c with tpdo := SMap.put Tpdo.reset c.tpdo n v })

/-- A die-to-die link at rest. -/
def DieLink.reset : DieLink := ⟨0, false, 0, false, 0, false, []⟩

/-- Die-to-die link `n`: 1 to 4 wing links, 5 and 6 sentry links, 7 Custodian link (01 R21). -/
def State.dieLink (s : State) (n : Nat) : DieLink := SMap.get DieLink.reset s.flt.dieLinks n

/-- The state with die-to-die link `n` at `v`. -/
def State.setDieLink (s : State) (n : Nat) (v : DieLink) : State :=
  s.modFlt (fun f => { f with dieLinks := SMap.put DieLink.reset f.dieLinks n v })

/-- A namespace that is not enrolled (10 R304). -/
def Nspace.reset : Nspace := ⟨0, 0, 0, 0, 0⟩

/-- Hub time in ns (09). -/
def State.now (s : State) : Nat := s.clk.hubTime.toNat

/-- PTP time for event records: hub time while PTP time is held, else 0 (05 Hub records, 09 R258). -/
def State.ptpTime (s : State) : Nat := if s.ptp.state = 1 then s.now else 0

/-- Whether the hub is in normal service (02 R78). -/
def State.inService (s : State) : Bool := s.regs.inService

end Sys2Proof.Machine
end

