-- ==== Sys2Proof/Machine/Settings.lean ====
section
/-!
DEFINITION. The configured values of Catalogue objects: defaults, effective and pending values, and the apply moments
of the classes (00 R10 to R14, 02 R49, R50).
-/
namespace Sys2Proof.Machine

/-- The key of an object: index * 256 + subindex. -/
def objKey (idx sub : Nat) : Nat := idx * 256 + sub

/-- The bytes configured for an object, or its default where the object's table gives it (02 R42); the node-ID is
passed for the defaults that add it (02 Transmit PDO objects, 16 R427) and the identity's base MAC address (04 R136). -/
def objDefault (node : Nat) (mac : Bytes) (idx sub : Nat) : Bytes :=
  if idx = 0x1800 ∧ sub = 1 then natLE 4 (0x180 + node)
  else if idx = 0x1801 ∧ sub = 1 then natLE 4 (0x280 + node)
  else if idx = 0x1802 ∧ sub = 1 then natLE 4 (0x80000380 + node)
  else if idx = 0x1803 ∧ sub = 1 then natLE 4 (0x80000480 + node)
  else if idx = 0x1014 then natLE 4 (0x80 + node)
  else if idx = 0x1A00 then
    natLE (if sub = 0 then 1 else 4)
      (if sub = 0 then 3 else if sub = 1 then 0x82900008 else if sub = 2 then 0x82A20008
       else if sub = 3 then 0x82770020 else 0)
  else if idx = 0x1A01 then
    natLE (if sub = 0 then 1 else 4)
      (if sub = 0 then 5 else if sub = 1 then 0x82A30010 else if sub ≤ 5 then 0x82A10010 + (sub - 1) * 0x100 else 0)
  else if idx = 0x2202 ∧ sub = 1 then mac
  else match findRow idx sub objTable with
    | some o => o.dfltBytes
    | none => []

/-- The effective CAN node-ID (02 R53). -/
def State.nodeId (s : State) : Nat :=
  match SMap.get none s.cat.eff (objKey 0x2010 1) with
  | some b => leNat b
  | none => 0x10

/-- The effective value of a configured object as bytes (00 R10). -/
def State.cfgB (s : State) (idx sub : Nat) : Bytes :=
  match SMap.get none s.cat.eff (objKey idx sub) with
  | some b => b
  | none => objDefault s.nodeId s.boot.mac idx sub

/-- The effective value of a configured numeric object (00 R10). -/
def State.cfg (s : State) (idx sub : Nat) : Nat := leNat (s.cfgB idx sub)

/-- Percent of the present Conservator pass, from its set period (12 R336, R340 SCRUB_STAT.PROGRESS). -/
def State.passPercent (s : State) : Nat :=
  if s.mem.running then min 100 ((s.clk.usCount - s.mem.passFrom).toNat / (s.cfg 0x2030 1 * 10000)) else 0

/-- The pending value of an object (00 R11). -/
def State.pendOf (s : State) (idx sub : Nat) : Option PendVal := SMap.get none s.cat.pend (objKey idx sub)

/-- The state with the effective value of an object at `b` (the default is kept unlisted). -/
def State.setEff (s : State) (idx sub : Nat) (b : Bytes) : State :=
  let v := if b = objDefault s.nodeId s.boot.mac idx sub then none else some b
  s.modCat (fun c => { c with eff := SMap.put none c.eff (objKey idx sub) v })

/-- The state with the pending value of an object at `v` (00 R12). -/
def State.setPend (s : State) (idx sub : Nat) (v : Option PendVal) : State :=
  s.modCat (fun c => { c with pend := SMap.put none c.pend (objKey idx sub) v })

/-- The apply class of an object (00 R10). -/
def clsOf (idx sub : Nat) : Option Cls := (findRow idx sub objTable).bind (·.cls)

/-- Apply the pending values whose object satisfies `p`, in ascending order of index and subindex (02 R49). -/
def State.applyWhere (s : State) (p : Nat → Nat → Bool) : State :=
  s.cat.pend.foldl
    (fun s e =>
      if p (e.1 / 256) (e.1 % 256) then
        match e.2 with
        | some v => (s.setEff (e.1 / 256) (e.1 % 256) v.value).setPend (e.1 / 256) (e.1 % 256) none
        | none => s
      else s) s

/-- Whether an object is a per-port array entry of port `q` of class `cl`. -/
def portCls (cl : Cls) (q idx sub : Nat) : Bool :=
  decide (0x4000 ≤ idx) && decide (idx ≤ 0x5FFF) && decide (sub = q) && decide (clsOf idx sub = some cl)

/-- The M-class values of port `q` take effect (00 R10, R13). -/
def State.applyM (s : State) (q : Nat) : State := s.applyWhere (portCls .m q)

/-- The C-class values of port `q` take effect at a contract negotiation (00 R10). -/
def State.applyC (s : State) (q : Nat) : State := s.applyWhere (portCls .c q)

/-- The V-class values of port `q` take effect while its VBUS is off (00 R10). -/
def State.applyV (s : State) (q : Nat) : State := s.applyWhere (portCls .v q)

/-- The E-class values take effect at a Collection epoch (00 R10, 03 R102). -/
def State.applyE (s : State) : State := s.applyWhere (fun i j => decide (clsOf i j = some .e))

/-- The B-class values take effect at a boot (00 R11). -/
def State.applyB (s : State) : State := s.applyWhere (fun i j => decide (clsOf i j = some .b))

/-- Whether an S-class object belongs to principal `t`, or to the whole hub (00 R14). -/
def sOwned (t idx sub : Nat) : Bool :=
  decide (clsOf idx sub = some .s) &&
    (if 0x6000 ≤ idx ∧ idx ≤ 0x63FF then decide (sub = t)
     else if idx = 0x2205 ∧ sub = 1 then decide (t = 0) else true)

/-- The S-class values take effect at a session open of principal `t` (00 R14). -/
def State.applyS (s : State) (t : Nat) : State := s.applyWhere (sOwned t)

/-- Pending values a tenant wrote to objects of port `q` are discarded when the port leaves its loan (02 R50). -/
def State.dropPend (s : State) (t q : Nat) : State :=
  let stays := fun (k : Nat) (v : Option PendVal) =>
    !(decide (0x4000 ≤ k / 256) && decide (k / 256 ≤ 0x5FFF) && decide (k % 256 = q) &&
      (match v with | some pv => decide (pv.tenant = t) | none => true))
  s.modCat (fun c => { c with pend := SMap.select stays c.pend })

end Sys2Proof.Machine
end

