-- ==== Sys2Proof/Machine/Ops.lean ====
section
/-!
DEFINITION. Shared operations: records and events into sessions (05 R152, R163), event registers with their house
events, EMCY frames (16 R420 to R422) and the recording of a fault occurrence (16 R415 to R421). The reactions to a
fault are in Reactions.lean.
-/
namespace Sys2Proof.Machine

/-! ### Outcomes of a command -/

/-- The outcome of a command that names a numbered unit: a fault where no such unit exists. -/
def onUnit (ok : Bool) (kind : String) (n : Nat) (s : State) : Host.Outcome State Fault Refusal :=
  if ok then .next s else .fault (.noSuchUnit kind n)

/-! ### Sharing among principals -/

/-- The bulk weight of a principal: a tenant's effective bulk share, the house sessions' house bulk share (07 R231, R232). -/
def State.bulkWeight (s : State) (t : Nat) : Nat := max 1 (if t = 0 then s.cfg 0x2020 1 else (s.getTenants t).share)

/-- The principal whose turn a deficit round-robin gives, of those with work waiting, each with the size of its next piece: the present
one while its deficit covers that, else the next in ascending order (07 R231, R232; log entry 96). -/
def drrNext (cur : Nat) (deficit : SMap Nat) (work : List (Nat × Nat)) : Option Nat :=
  let act := work.map (·.1)
  if work.any (fun e => decide (e.1 = cur) && decide (e.2 ≤ SMap.get 0 deficit cur)) then some cur
  else match (List.range 65).find? (fun t => decide (cur < t) && act.contains t) with
    | some t => some t
    | none => (List.range 65).find? (fun t => act.contains t)

/-- The deficit a principal has for a piece of `len` bytes: what is left of its turn, or a new turn's quantum for each unit of weight
added (07 R231, R232; log entry 96). -/
def State.drrHad (s : State) (cur : Nat) (deficit : SMap Nat) (quantum t len : Nat) : Nat :=
  let d := SMap.get 0 deficit t
  if cur = t ∧ len ≤ d then d else max len (d + quantum * s.bulkWeight t)

/-! ### Records and events -/

/-- Whether a record is an event record. -/
def HubRec.isEvent : HubRec → Bool
  | .event .. => true
  | _ => false

/-- How many event records a queue holds (05 R163). -/
def eventCount (q : List HubRec) : Nat := (q.filter HubRec.isEvent).length

/-- A session with a record added to its queue; an event that finds 1,024 events waiting is dropped and counted
(05 R163). -/
def Session.push (r : HubRec) (x : Session) : Session :=
  if r.isEvent && decide (1024 ≤ eventCount x.txQueue) then { x with evLost := x.evLost + 1 }
  else { x with txQueue := x.txQueue ++ [r] }

/-- The state with every session that satisfies `p` changed by `f`. -/
def State.modSessWhere (s : State) (p : Nat → Session → Bool) (f : Session → Session) : State :=
  s.sess.foldl (fun s e => if p e.1 e.2 then s.modSess e.1 f else s) s

/-- A session that carries records: Open, Draining or Held (05 R145). -/
def Session.live (x : Session) : Bool :=
  decide (x.state = .opened) || decide (x.state = .draining) || decide (x.state = .held)

/-- A live house session (05 R163). -/
def Session.house (x : Session) : Bool := x.live && decide (x.tenant = 0)

/-- A package event: to house sessions only (05 R163). -/
def State.houseEvent (s : State) (code port device param time : Nat) : State :=
  s.modSessWhere (fun _ x => x.house) (Session.push (.event code port device param time []))

/-- Whether a port is a principal's: in the tenant's loan and not removed from it by a change, or on no loan for the operator (02 R45;
03 R85, R87; 05 R150). -/
def State.portIs (s : State) (t p : Nat) : Bool :=
  decide ((s.getUsb p).loanOwner = t) && (decide (t = 0) || bitOf (s.getTenants t).ports.toNat (p - 1))

/-- A port's event: to every Open session of the tenant that holds the port and to every house session (05 R163). -/
def State.portEvent (s : State) (p code device param : Nat) (body : Bytes) : State :=
  let owner := (s.getUsb p).loanOwner
  s.modSessWhere
    (fun _ x => x.house || (decide (owner ≠ 0) && s.portIs owner p && decide (x.tenant = owner) && decide (x.state = .opened)))
    (Session.push (.event code p device param s.ptpTime body))

/-- A loan's event to the tenant's Open sessions and to house sessions (05 R163, LOAN_STATE). -/
def State.tenantEvent (s : State) (t code param : Nat) : State :=
  s.modSessWhere (fun _ x => x.house || (decide (x.tenant = t) && decide (x.state = .opened)))
    (Session.push (.event code 0 0 param s.ptpTime []))

/-- An event to one session (05, LEDGER_DONE, ACCESSION_GAP, EVENTS_LOST). -/
def State.sessEvent (s : State) (k code param : Nat) : State :=
  s.modSess k (Session.push (.event code 0 0 param s.ptpTime []))

/-! ### Event registers and their house events -/

/-- COLL_STAT W1C bits newly set, as event 0x0100 (03 R110). -/
def State.collEvent (s : State) (f : Coll → Coll) : State :=
  let c := f s.coll
  let fresh := Nat.xor (c.evtBits ||| s.coll.evtBits) s.coll.evtBits
  let s := s.modColl f
  if fresh = 0 then s else s.houseEvent 0x0100 0 0 fresh s.ptpTime

/-- UP_EVT bits, as event 0x0101 (04 R137). -/
def State.upEvent (s : State) (b : BitVec 19) : State :=
  let fresh := newBits s.upl.evt b
  let s := s.modUpl (fun u => { u with evt := u.evt ||| b })
  if fresh = 0 then s else s.houseEvent 0x0101 0 0 fresh.toNat s.ptpTime

/-- FT_EVT bits, as event 0x0103 (09). -/
def State.ftEvent (s : State) (port : Nat) (b : BitVec 4) : State :=
  let fresh := newBits s.ptp.evt b
  let s := s.modPtp (fun u => { u with evt := u.evt ||| b })
  if fresh = 0 then s else s.houseEvent 0x0103 port 0 fresh.toNat s.ptpTime

/-- VAULT_EVT bits, as event 0x0104 (10 R305). -/
def State.vaultEvent (s : State) (b : BitVec 12) : State :=
  let fresh := newBits s.vault.evt b
  let s := s.modVault (fun u => { u with evt := u.evt ||| b })
  if fresh = 0 then s else s.houseEvent 0x0104 0 0 fresh.toNat s.ptpTime

/-- CH_EVT bits of channel `c`, as event 0x0105 for an operator channel (11 R327). -/
def State.chanEvent (s : State) (c : Nat) (b : BitVec 5) : State :=
  let fresh := newBits (s.chan c).evt b
  let s := s.setChan c { s.chan c with evt := (s.chan c).evt ||| b }
  if fresh = 0 ∨ c < 16 then s else s.houseEvent 0x0105 0 0 (c + fresh.toNat * 256) s.ptpTime

/-- MEM_EVT bits, as event 0x0106 (12 R340). -/
def State.memEvent (s : State) (b : BitVec 4) : State :=
  let fresh := newBits s.mem.evt b
  let s := s.modMem (fun u => { u with evt := u.evt ||| b })
  if fresh = 0 then s else s.houseEvent 0x0106 0 0 fresh.toNat s.ptpTime

/-- PWR_EVT bits of port `p`, as event 0x0107 (13 R368). -/
def State.pwrEvent (s : State) (p : Nat) (b : BitVec 12) : State :=
  let fresh := newBits (s.getPwr p).evt b
  let s := s.modPwr p (fun u => { u with evt := u.evt ||| b })
  if fresh = 0 then s else s.houseEvent 0x0107 p 0 (p + fresh.toNat * 65536) s.ptpTime

/-- PROT_EVT bits of port `p`, as event 0x0108 (14 R386). -/
def State.protEvent (s : State) (p : Nat) (b : BitVec 5) : State :=
  let fresh := newBits (s.getProt p).evt b
  let s := s.modProt p (fun u => { u with evt := u.evt ||| b })
  if fresh = 0 then s else s.houseEvent 0x0108 p 0 (p + fresh.toNat * 65536) s.ptpTime

/-- PWRST_EVT bits, as event 0x0109 (15 R405). -/
def State.dpsEvent (s : State) (b : BitVec 4) : State :=
  let fresh := newBits s.dps.evt b
  let s := s.modDps (fun u => { u with evt := u.evt ||| b })
  if fresh = 0 then s else s.houseEvent 0x0109 0 0 fresh.toNat s.ptpTime

/-- PORT_EVT bits of port `p` (06 R200). -/
def State.usbEvent (s : State) (p : Nat) (b : BitVec 12) : State :=
  s.modUsb p (fun u => { u with evt := u.evt ||| b })

/-! ### Faults: the record of an occurrence -/

/-- The error code of a source (16 R421). -/
def errCode (src : Nat) : Nat :=
  if src = 0x30 ∨ src = 0x31 ∨ (0x34 ≤ src ∧ src ≤ 0x37) ∨ src = 0x39 then 0x2300
  else if src = 0x32 ∨ (0x3C ≤ src ∧ src ≤ 0x3E) then 0x4200
  else if src = 0x18 ∨ src = 0x19 ∨ src = 0x1A ∨ src = 0x33 then 0x8100
  else if src = 0x3F then 0x6000
  else 0x5000

/-- The class of a source, 0 Note to 3 Grave (16 R413); source 0x23 takes its class from the table Uncorrectable
errors and is given where it is raised. -/
def fltClass (src : Nat) : Nat :=
  if src = 0x04 ∨ src = 0x0C ∨ src = 0x3E then 3
  else if src = 0x02 ∨ src = 0x03 ∨ src = 0x09 ∨ src = 0x0D ∨ src = 0x12 ∨ src = 0x19 ∨ src = 0x28 ∨ src = 0x31
      ∨ src = 0x33 ∨ src = 0x37 ∨ src = 0x38 ∨ src = 0x3D ∨ src = 0x3F then 2
  else if src = 0x08 ∨ src = 0x0A ∨ src = 0x0E ∨ src = 0x10 ∨ src = 0x13 ∨ src = 0x1B ∨ src = 0x20 ∨ src = 0x2B then 0
  else 1

/-- The die on which a source is detected (16 R491; log entry 18 for the sources whose die no rule names). -/
def fltDie (src inst : Nat) : Nat :=
  if src = 0x01 then (if inst ≤ 4 then wingDie inst else if inst = 5 then 3 else if inst = 6 then 4 else 3)
  else if src = 0x02 then wingDie inst
  else if src = 0x03 then (if inst = 1 then 3 else 4)
  else if src = 0x04 then 3
  else if src = 0x08 then galDie inst
  else if src = 0x09 then galDie inst
  else if src = 0x0A ∨ src = 0x0B then wingDie inst
  else if src = 0x0E ∨ src = 0x10 ∨ src = 0x38 then 3
  else if src = 0x12 then inst
  else if src = 0x1C then portDie inst
  else if src = 0x33 then (if inst ≤ 6 then 3 else 4)
  else if 0x30 ≤ src ∧ src ≤ 0x39 ∧ src ≠ 0x34 then sentryDie inst
  else if 0x3C ≤ src ∧ src ≤ 0x3E then (if inst = 0 then 0 else wingDie inst)
  else 0

/-- The port a source's instance names; 0 where it names none (16 R420). -/
def fltPort (src inst : Nat) : Nat :=
  if src = 0x1C ∨ src = 0x30 ∨ src = 0x31 ∨ src = 0x32 ∨ src = 0x35 ∨ src = 0x36 ∨ src = 0x37 ∨ src = 0x39 then inst
  else 0

/-- The wing whose aggregator receives a source before its die's does; 0 for none (16 R415, log entry 18). -/
def fltWing (src inst : Nat) : Nat :=
  if src = 0x02 ∨ src = 0x0A ∨ src = 0x0B then inst
  else if src = 0x01 ∧ inst ≤ 4 then inst
  else if src = 0x08 ∨ src = 0x09 then wingOfGal inst
  else if src = 0x1C then wingOf inst
  else if 0x3C ≤ src ∧ src ≤ 0x3E then inst
  else 0

/-- Whether a slot is held (16 R428). -/
def Slot.isHeld (x : Slot) : Bool := decide (x.state ≠ .free)

/-- The slots held. -/
def Flt.heldSlots (f : Flt) : List Slot := (f.slots.map (·.2)).filter Slot.isHeld

/-- Whether a slot holds a source and instance (16 R417). -/
def Flt.holds (f : Flt) (src inst : Nat) : Bool :=
  f.heldSlots.any (fun x => decide (x.source = src) && decide (x.inst = inst))

/-- The lowest free slot of 0 to 31 (16 R417). -/
def Flt.freeSlot (f : Flt) : Option Nat :=
  (List.range 32).find? (fun n => !(SMap.get Slot.reset f.slots n).isHeld)

/-- The error register 0x1001:00 (16 R422). -/
def Flt.errReg (f : Flt) : Nat :=
  let has := fun c => f.heldSlots.any (fun x => decide (errCode x.source = c))
  b2n (!f.heldSlots.isEmpty) + b2n (has 0x2300) * 2 + b2n (has 0x4200) * 8 + b2n (has 0x8100) * 16
    + b2n (has 0x5000 || has 0x6000) * 128

/-- An EMCY frame sent: a fault frame carries SEQUENCE in bytes 6 and 7, advances it and is entered in 0x1003; an
error-reset frame does neither (16 R421, R422). `f` is the frame's first 6 bytes, or the 8 zero bytes of a reset. -/
def State.emcyOut (s : State) (f : Bytes) : State :=
  let cob := s.cfg 0x1014 0 % 2048
  let inh := decide (s.cfg 0x1015 0 ≠ 0)
  if f.length = 6 then
    let entry := leNat (f.take 2) + leNat (slice f 3 2) * 65536
    (s.modCan (fun c => { c with emcySeq := c.emcySeq + 1, emcyInhibit := inh,
                                 history := (BitVec.ofNat 32 entry :: c.history).take 16 })).emit
      (.can cob (f ++ natLE 2 s.can.emcySeq.toNat))
  else (s.modCan (fun c => { c with emcyInhibit := inh })).emit (.can cob f)

/-- An EMCY frame due: sent, or held while the inhibit time runs; none in NMT Stopped or with COB-ID bit 31 set
(16 R420, R427). -/
def State.emcy (s : State) (f : Bytes) : State :=
  if s.can.nmt = .stopped ∨ bitOf (s.cfg 0x1014 0) 31 = true then s
  else if s.can.emcyInhibit then s.modCan (fun c => { c with emcyQueue := c.emcyQueue ++ [f] })
  else s.emcyOut f

/-- A count of a list, saturating, raised at place `n`. -/
def bumpAt (n top : Nat) (l : List Nat) : List Nat :=
  (List.range l.length).map (fun i => if i = n then min top (l.getD i 0 + 1) else l.getD i 0)

/-- A latch that receives an occurrence (16 R415). -/
def Aggr.take (r : FltRec) (a : Aggr) : Aggr :=
  let a := { a with count := satAdd a.count 1 }
  match a.latched with
  | none => { a with latched := some r }
  | some _ => { a with overflow := true }

/-- The delivery of an occurrence or escalation (16 R420). -/
def State.deliver (s : State) (r : FltRec) (esc first : Bool) : State :=
  let s := s.modFlt (fun f => { f with
    cnt := bumpAt r.cls 255 f.cnt
    total := bumpAt r.cls 0xFFFFFFFF f.total
    pending := f.pending ||| BitVec.ofNat 4 (2 ^ r.cls) })
  let param := r.source + r.inst * 256 + r.cls * 65536 + r.die * 262144 + b2n esc * 2097152 + b2n first * 4194304
    + b2n r.injected * 8388608
  let s := s.houseEvent 0x0102 (fltPort r.source r.inst) 0 param r.time
  if bitOf (s.cfg 0x2501 1) r.cls then
    s.emcy (natLE 2 (errCode r.source) ++ natLE 1 s.flt.errReg ++ natLE 1 r.source ++ natLE 1 r.inst ++
      natLE 1 (r.cls + b2n esc * 4 + b2n r.injected * 8 + r.die * 16))
  else s

/-- ERR_OUT_N asserted for a Serious or Grave occurrence or an escalation (16 R419). -/
def State.errOn (s : State) : State := s.modFlt (fun f => { f with force := true, minRun := true })

/-- The aggregators receive an occurrence: that of its wing, and that of its die, which feeds the collector (16 R415; log entry
18). -/
def State.aggregate (s : State) (r : FltRec) : State :=
  let w := fltWing r.source r.inst
  s.modFlt (fun f => { f with
    wingAgg := if w ≠ 0 then SMap.put Aggr.reset f.wingAgg w ((SMap.get Aggr.reset f.wingAgg w).take r) else f.wingAgg
    dieAgg := SMap.put Aggr.reset f.dieAgg r.die ((SMap.get Aggr.reset f.dieAgg r.die).take r) })

/-- A reaction slot armed for a Serious or Grave occurrence that no slot holds; SLOTS_FULL where none is free
(16 R417). -/
def State.arm (s : State) (r : FltRec) : State :=
  if r.cls < 2 ∨ s.flt.holds r.source r.inst = true then s
  else match s.flt.freeSlot with
    | some n => s.setSlot n { source := r.source, inst := r.inst, state := .armed, cls := r.cls, armedAt := s.now,
                              span := s.cfg 0x2500 (if r.cls = 3 then 2 else 1), injected := r.injected, die := r.die }
    | none => s.modFlt (fun f => { f with slotsFull := true })

/-- Whether an occurrence finds no slot and is escalated at once (16 R417). -/
def State.noSlot (s : State) (r : FltRec) : Bool :=
  s.inService && decide (2 ≤ r.cls) && !(s.flt.holds r.source r.inst) && s.flt.freeSlot.isNone

/-- The collector's part of an occurrence: its FIRST latch, slot, delivery and ERR_OUT_N (16 R415 to R420). -/
def State.collect (s : State) (r : FltRec) : State :=
  let first := s.flt.first.latched.isNone
  let s := s.modFlt (fun f => { f with
    first := f.first.take r
    firstTime := if first then BitVec.ofNat 64 r.time else f.firstTime })
  let s := (s.arm r).deliver r false first
  if 2 ≤ r.cls then s.errOn else s

/-- An occurrence recorded: by the collector in normal service, in the aggregators alone before it (16 R415, R416). -/
def State.record (s : State) (r : FltRec) : State :=
  let s := s.aggregate r
  if s.inService then s.collect r else s

/-- The record of source `src` at instance `inst`. -/
def State.recOf (s : State) (src inst : Nat) : FltRec :=
  { source := src, inst := inst, cls := fltClass src, die := fltDie src inst, injected := s.flt.injNow, time := s.now }

/-- A fault of class Note or Minor whose reaction is done where it is raised (16 R413). -/
def State.note (s : State) (src inst : Nat) : State := s.record (s.recOf src inst)

/-- The delivery of an escalation: counted and delivered with ESCALATED set, and ERR_OUT_N asserted (16 R417, R419,
R420). -/
def State.deliverEsc (s : State) (r : FltRec) : State := (s.deliver r true false).errOn

/-- A record recorded; an escalation is owed at once where a Serious or Grave occurrence finds no free slot (16 R417). -/
def State.faultRec (s : State) (r : FltRec) : State :=
  let s' := s.record r
  if s.noSlot r then s'.modFlt (fun f => { f with escDue := f.escDue ++ [r] }) else s'

/-- A fault recorded under its source and instance (16 R413 to R417). -/
def State.fault (s : State) (src inst : Nat) : State := s.faultRec (s.recOf src inst)

/-- The cause of a fault persists (16 R410 to R412). -/
def State.causeOn (s : State) (src inst : Nat) : State :=
  if s.flt.causes.contains (src, inst) then s
  else s.modFlt (fun f => { f with causes := f.causes ++ [(src, inst)] })

/-- The cause of a fault has ended. -/
def State.causeOff (s : State) (src inst : Nat) : State :=
  s.modFlt (fun f => { f with causes := f.causes.filter (fun x => x ≠ (src, inst)) })

end Sys2Proof.Machine
end

