-- ==== Sys2Proof/Machine/Parity.lean ====
section
/-!
DEFINITION. Where registers lie in the register space, the voted store of critical fields, and the parity of configuration registers
(02 R67, R75 to R78).
-/
namespace Sys2Proof.Machine

/-! ### Where registers lie (02 R67) -/

/-- The unit and the offset in its block of an address in a bank of `n` blocks of `size` bytes from `base`; units count from 0. -/
def bankAt (base size n a : Nat) : Option (Nat × Nat) :=
  if base ≤ a ∧ a < base + size * n then some ((a - base) / size, (a - base) % size) else none

/-- The port and offset of an address in the per-port blocks (02 R67). -/
def portAt (a : Nat) : Option (Nat × Nat) := (bankAt 0x100000 0x1000 96 a).map (fun x => (x.1 + 1, x.2))

/-- The gallery and offset of an address in the per-gallery blocks (02 R67). -/
def galAt (a : Nat) : Option (Nat × Nat) := (bankAt 0x180000 0x1000 12 a).map (fun x => (x.1 + 1, x.2))

/-- The voted view an address is: 0 the debug-lock state, p the fields of port p (02 R77). -/
def viewAt (a : Nat) : Option Nat :=
  if a = 0x180 then some 0 else match portAt a with | some (p, 0xF00) => some p | _ => none

/-- The bits of a view that voted fields occupy (02 R77). -/
def viewMask (k : Nat) : Word := if k = 0 then 3 else 0xFFFF7F03

/-- The die that holds a register (02 R67). -/
def regDie (a : Nat) : Nat :=
  match portAt a, galAt a, bankAt 0x190000 0x1000 4 a with
  | some x, _, _ => portDie x.1
  | _, some x, _ => galDie x.1
  | _, _, some x => wingDie (x.1 + 1)
  | _, _, _ => if 0x10000 ≤ a ∧ a < 0x20000 then 3 else 0

/-! ### The voted store (02 R77) -/

/-- A word of the voted views changed in all three copies (02 R77). -/
def State.modVote (s : State) (k : Nat) (f : Word → Word) : State :=
  s.modRegs (fun r => { r with
    vote0 := SMap.put 0 r.vote0 k (f (SMap.get 0 r.vote0 k))
    vote1 := SMap.put 0 r.vote1 k (f (SMap.get 0 r.vote1 k))
    vote2 := SMap.put 0 r.vote2 k (f (SMap.get 0 r.vote2 k)) })

/-- A word with bits [lo + w - 1 : lo] at `v`. -/
def setBits (x : Word) (lo w v : Nat) : Word :=
  BitVec.ofNat 32 (x.toNat - bitsOf x.toNat lo w * 2 ^ lo + v % 2 ^ w * 2 ^ lo)

/-- The majority of three words, bit by bit (02 R77). -/
def majority3 (a b c : Word) : Word := (a &&& b) ||| (a &&& c) ||| (b &&& c)

/-- Ones in a word. -/
def ones (x : Word) : Nat := ((List.range 32).filter (fun i => x.getLsbD i)).length

/-- The voted view `k`: 0 the debug-lock state, p the fields of port p (02 R77). -/
def State.voted (s : State) (k : Nat) : Word :=
  majority3 (SMap.get 0 s.regs.vote0 k) (SMap.get 0 s.regs.vote1 k) (SMap.get 0 s.regs.vote2 k)

/-- The bits of a view whose three copies disagree. -/
def State.disagree (s : State) (k : Nat) : Word :=
  let v := s.voted k
  (SMap.get 0 s.regs.vote0 k ^^^ v) ||| (SMap.get 0 s.regs.vote1 k ^^^ v) ||| (SMap.get 0 s.regs.vote2 k ^^^ v)

/-- A use of a voted view: disagreeing bits are corrected and counted, and a Note is owed at service entry (02 R77). -/
def State.vote (s : State) (k : Nat) : State :=
  let n := ones (s.disagree k)
  if n = 0 then s
  else
    let v := s.voted k
    (s.modVote k (fun _ => v)).modRegs (fun r => { r with corrected := satAdd r.corrected n, voterNote := true })

/-- A use of a voted field by the hub outside normal service (02 R77). -/
def State.voteUse (s : State) (k : Nat) : State := if s.inService then s else s.vote k

/-- The debug-lock state that a use takes: voted outside normal service (02 R77). -/
def State.lockNow (s : State) : Nat := if s.inService then s.dbg.lock else (s.voted 0).toNat % 4

/-- VCONN enable as a use takes it: voted outside normal service (02 R77). -/
def State.vconnEnabled (s : State) (p : Nat) : Bool :=
  if s.inService then (s.getPwr p).vconnAllowed else (s.voted p).getLsbD 1

/-! ### Parity (02 R75) -/

/-- A parity mismatch found at an address: latched, counted, and a Serious fault, which has no immediate reaction (02 R75; 16 R413
0x12). -/
def State.parityHit (s : State) (a : Nat) : State :=
  let s := s.modRegs (fun r => { r with
    parCount := satAdd r.parCount 1, parLatched := true, parFirst := if r.parLatched then r.parFirst else BitVec.ofNat 24 a })
  (s.causeOn 0x12 (regDie a)).fault 0x12 (regDie a)

/-- Whether an armed injection fires at a read or use of a register (16 R425, R426). -/
def State.injectsAt (s : State) (a : Nat) : Bool :=
  s.flt.injArmed && decide (s.flt.injTarget = 3) && decide (s.flt.injAddr.toNat = a)

/-- Whether a check of a register's parity finds a mismatch (02 R75; 16 R425). -/
def State.parityFails (s : State) (a : Nat) : Bool := s.inService && (s.regs.parBad.contains a || s.injectsAt a)

/-- The check of a register's parity at a use or a read of it, in normal service; an injection gives one mismatch (02 R75; 16 R425,
R426). What a critical field's mismatch does beside stands at `State.parityCheck`. -/
def State.parityUse (s : State) (a : Nat) : State :=
  if s.inService = false then s
  else
    let s := if s.regs.parBad.contains a then s.parityHit a else s
    if s.injectsAt a then
      let s := s.modFlt (fun f => { f with injArmed := false, injFired := true, injNow := true })
      ((s.parityHit a).causeOff 0x12 (regDie a)).modFlt (fun f => { f with injNow := false })
    else s

/-- A use of several registers that hold no critical field (02 R75). -/
def State.parityUses (s : State) (l : List Nat) : State := l.foldl State.parityUse s

/-- Fresh parity stored by a write (02 R75). -/
def State.parityFresh (s : State) (a : Nat) : State :=
  if s.regs.parBad.contains a then
    (s.modRegs (fun r => { r with parBad := r.parBad.filter (fun x => x ≠ a) })).causeOff 0x12 (regDie a)
  else s

end Sys2Proof.Machine
end

