-- ==== Sys2Proof/Machine/Items.lean ====
section
/-!
DEFINITION. Items and their completions (05, Ending items, Outcomes, Ledger delivery), locks at a session's end (03
R104) and the end of a session (05 R145 to R149).
-/
namespace Sys2Proof.Machine

/-- The key of an item: its principal and accession number. -/
def itemKey (t acc : Nat) : Nat := t * 281474976710656 + acc

/-- The open item with key `k`. -/
def State.item? (s : State) (k : Nat) : Option Item := (s.items.find? (fun e => decide (e.1 = k))).map (·.2)

/-- Whether an item is open. -/
def State.hasItem (s : State) (k : Nat) : Bool := s.items.any (fun e => decide (e.1 = k))

/-- The keys of the open items that satisfy `p`, in ascending order. -/
def State.itemsWhere (s : State) (p : Nat → Item → Bool) : List Nat :=
  (s.items.filter (fun e => p e.1 e.2)).map (·.1)

/-- Open items of a session (05 R158). -/
def State.sessItems (s : State) (n : Nat) : List Nat := s.itemsWhere (fun _ i => decide (i.sess = n))

/-- Open items of a principal (05 R164). -/
def State.tenantItems (s : State) (t : Nat) : List Nat := s.itemsWhere (fun _ i => decide (i.principal = t))

/-- The precedence of an outcome code; 8 for the codes without a rank (05 R159). -/
def outRank (out : Nat) : Nat :=
  if out = 0x0F then 1 else if out = 0x0A then 2 else if out = 0x09 then 3 else if out = 0x08 then 4
  else if out = 0x0B then 5 else if out = 0x07 then 6 else if out = 0x06 then 7 else 8

/-- The first cause in precedence order; of equal rank, the one that arose first (05 R159). -/
def bestCause (a : Option (Nat × Nat)) (b : Nat × Nat) : Nat × Nat :=
  match a with
  | none => b
  | some c => if outRank c.1 ≤ outRank b.1 then c else b

/-- The microframe count of a port; 0 while its timebase is stopped (09 R261, R269). -/
def State.portCount (s : State) (p : Nat) : Nat := if (s.getFt p).running then (s.getFt p).count.toNat else 0

/-- The context that holds a pipe's sequence number: the parent of a stream context (07 R228). -/
def State.seqPipe (s : State) (n : Nat) : Pipe :=
  let x := s.getPipes n
  if x.streamCtx then s.getPipes x.link else x

/-- PIPE_STATE of a pipe (05 Hub records, 07 R204). -/
def State.pipeWord (s : State) (n : Nat) : Nat :=
  let x := s.seqPipe n
  2147483648 + b2n x.toggle * 256 + x.seq.toNat

/-- The port an item concerns: its own, or its pipe's; 0 where it has none. -/
def State.itemPort (s : State) (i : Item) : Nat :=
  if i.port ≠ 0 then i.port else match i.pipe with
    | some n => (s.getPipes n).port
    | none => 0

/-- Whether a USB transaction of the item is in progress (05 R147). -/
def State.onBus (s : State) (k : Nat) (i : Item) : Bool :=
  match i.pipe with
  | some n => decide (i.op = 0x30) && (s.getPipes n).inXact && decide ((s.getPipes n).queue.head? = some k)
  | none => false

/-- Whether a transaction of the item is in progress on a bus or at a drive (05 R147, R159). -/
def State.inProgress (s : State) (k : Nat) (i : Item) : Bool :=
  s.onBus k i
  || s.vault.cmds.any (fun e => decide (e.2.item = some k))
  || s.vault.jobs.any (fun e => e.2.active && decide (e.2.item = k))
  || s.vault.captures.any (fun c => decide (c.item = k))

/-- The principal of the hub's own transfers on pipes it holds; such an item belongs to no session (10 R284, 11 R314). -/
def hubPrincipal : Nat := 127

/-- A ledger entry kept for principal `t` from session `n` (05 R160, R142 ITEMS_ENDED). -/
def State.toLedger (s : State) (n t : Nat) (e : LedgerEntry) : State :=
  (s.modTenants t (fun x => { x with ledger := x.ledger ++ [e] })).modSess n (fun x => { x with ended := x.ended + 1 })

/-- A deferred action forgets the item it would complete. -/
def Deferred.forget (k : Nat) : Deferred → Deferred
  | .reset i => .reset (if i = some k then none else i)
  | .suspend i => .suspend (if i = some k then none else i)
  | .disable i => .disable (if i = some k then none else i)

/-- A transaction of the pipe is in progress, a re-issue of one included (07 R215, R217). -/
def Pipe.pending (x : Pipe) : Bool := x.inXact || decide (x.replays ≠ 0)

/-- A resynchronisation that waited for the pipe's transaction takes effect once none is in progress (07 R215). -/
def Pipe.takeOwed (x : Pipe) : Pipe :=
  if x.pending then x
  else match x.resyncOwed with
    | some v =>
      if isSuper x.speed then { x with seq := BitVec.ofNat 5 v, resyncOwed := none }
      else { x with toggle := decide (v % 2 = 1), resyncOwed := none }
    | none => x

/-- The stream contexts of a parent pipe (07 R204 LINK). -/
def State.streamsOf (s : State) (n : Nat) : List Nat :=
  (s.pipes.filter (fun e => e.2.streamCtx && decide (e.2.link = n))).map (·.1)

/-- A pipe and its stream contexts, which share its state (07 R209). -/
def State.group (s : State) (n : Nat) : List Nat := n :: s.streamsOf n

/-- Whether a transaction of the pipe or one of its streams is in progress or to be re-issued (07 R215, R217). -/
def State.groupPending (s : State) (n : Nat) : Bool := (s.group n).any (fun m => (s.getPipes m).pending)

/-- The context that holds a pipe's toggle, sequence number and flow control: the parent of a stream context (07 R228). -/
def State.parent (s : State) (n : Nat) : Nat := if (s.getPipes n).streamCtx then (s.getPipes n).link else n

/-- A resynchronisation that waited for its pipe's transaction takes effect once none of the pipe's group is in progress (07 R215). -/
def State.takeResync (s : State) (n : Nat) : State :=
  if s.groupPending n then s else s.modPipes n Pipe.takeOwed

/-- Item `k` leaves the queue of context `n`; a transaction of it that was to be re-issued ends with it (07 R215, R217). -/
def State.unqueue (s : State) (n k : Nat) : State :=
  if (s.getPipes n).queue.head? = some k then
    let s := s.modPipes n (fun x => { x with queue := x.queue.filter (· ≠ k), itemDone := 0, replays := 0 })
    s.takeResync (s.parent n)
  else s.modPipes n (fun x => { x with queue := x.queue.filter (· ≠ k) })

/-- The state without item `k`: out of the open items, its pipe's queue and the requests that would complete it. -/
def State.dropItem (s : State) (k : Nat) (i : Item) : State :=
  let s := s.setItems k Item.reset
  let s := match i.pipe with
    | some n => s.unqueue n k
    | none => s
  let p := i.port
  if p = 0 then s
  else (s.modUsb p (fun u => { u with
      actionItem := if u.actionItem = some k then none else u.actionItem
      resumeItems := u.resumeItems.filter (· ≠ k)
      deferred := u.deferred.map (Deferred.forget k) })).modProt p (fun r => { r with
      offItems := r.offItems.filter (· ≠ k)
      onItems := r.onItems.filter (· ≠ k) })

/-- Whether an item is periodic traffic at the upstream: a transfer on an isochronous or interrupt pipe (07 R231; log entry 96). -/
def State.periodicItem (s : State) (i : Item) : Bool :=
  decide (i.op = 0x30) && (match i.pipe with
    | some n => decide ((s.seqPipe n).typ = 1) || decide ((s.seqPipe n).typ = 3)
    | none => false)

/-- A session with a record of an item added: periodic traffic waits apart from the rest (07 R231, R233). -/
def Session.pushItem (periodic : Bool) (r : HubRec) (x : Session) : Session :=
  if periodic then { x with perQueue := x.perQueue ++ [r] } else x.push r

/-- The completion of item `k` is formed with an outcome, a detail and a body: into its session while that is live,
else into the ledger; a ranked cause that has arisen goes first, and the body of another result then does not go with it (05 R155,
R159, R160; log entry 97). -/
def State.finishB (s : State) (k out det : Nat) (body : Bytes) : State :=
  match s.item? k with
  | none => s
  | some i =>
    let c := bestCause i.cause (out, det)
    let body := if c = (out, det) then body else []
    let ps := match i.pipe with | some n => s.pipeWord n | none => 0
    let fr := s.portCount (s.itemPort i)
    let s' := s.dropItem k i
    if i.principal = hubPrincipal then
      s'.modVault (fun v => { v with ended := v.ended ++ [(i.pipe.getD 0, c, body, i)] })
    else if (s.getSess i.sess).live then
      s'.modSess i.sess (Session.pushItem (s.periodicItem i) (.completion false i.isIn i.acc c.1 c.2 i.moved ps fr body))
    else s'.toLedger i.sess i.principal ⟨i.acc, c.1, c.2, i.moved, ps, fr⟩

/-- The completion of item `k` without a body. -/
def State.finish (s : State) (k out det : Nat) : State := s.finishB k out det []

/-- The completion of an item that may be absent (a request the hub raised for itself has none, 14 R490). -/
def State.finishO (s : State) (k : Option Nat) (out det : Nat) : State :=
  match k with
  | some k => s.finish k out det
  | none => s

/-- A request of the Registrar to a device joins those of its port; `kind` 0 where nothing waits for its end, 1 for a step of an
enumeration or restore, 2 for a read of an interface map (07 R201, R230). -/
def State.ask (s : State) (p a kind : Nat) (setup : Bytes) : State :=
  s.modUsb p (fun u => { u with requests := u.requests ++ [(a, setup, kind)] })

/-- CLEAR_TT_BUFFER to the hub that holds the translator of a control or bulk split ended without its complete-split
(08 R243; USB 2.0 11.24.2.3: device, endpoint, type and direction in wValue, the port in wIndex for a multi-TT hub). -/
def State.clearTt (s : State) (n : Nat) : State :=
  let x := s.getPipes n
  if x.split % 4 = 2 ∧ (x.typ = 0 ∨ x.typ = 2) then
    let hub := bitsOf x.split 2 7
    let multi := (s.getUsb x.port).devices.any (fun d => decide (d.addr = hub) && d.multiTt)
    let wValue := x.endpoint + x.address * 16 + x.typ * 2048 + b2n x.dirIn * 32768
    let wIndex := if multi then bitsOf x.split 9 7 else 1
    s.ask x.port hub 0 ([0x23, 0x08] ++ natLE 2 wValue ++ natLE 2 wIndex ++ zeros 2)
  else s

/-- A control or bulk split to an external translator is given up without its complete-split: its buffer there is cleared, and what it
returns later is not taken (08 R243). -/
def State.dropSplit (s : State) (n : Nat) : State :=
  let x := s.getPipes n
  if x.split % 4 = 2 ∧ (x.typ = 0 ∨ x.typ = 2) ∧ x.inXact = true then
    (s.clearTt n).modPipes n (fun x => { x with inXact := false, reissueLen := 0, ssFrame := none, csFrame := none, wireRes := none })
  else s

/-- A split of the item to an external translator is given up at an end by its owner or its deadline (08 R243). -/
def State.giveUpSplit (s : State) (out k : Nat) (i : Item) : State :=
  match i.pipe with
  | some n => if (out = 0x07 ∨ out = 0x06) ∧ s.onBus k i = true then s.dropSplit n else s
  | none => s

/-- A cause reaches item `k`: it ends at once, or at its packet boundary when a transaction is in progress (05 R159). -/
def State.causeItem (s : State) (out det k : Nat) : State :=
  match s.item? k with
  | none => s
  | some i =>
    let s := s.giveUpSplit out k i
    if s.inProgress k i then s.modItems k (fun i => { i with cause := some (bestCause i.cause (out, det)) })
    else s.finish k out det

/-- A cause reaches each item of a list. -/
def State.causeItems (s : State) (out det : Nat) (ks : List Nat) : State := ks.foldl (State.causeItem · out det ·) s

/-- PIPE_CLOSE and PIPE_ABORT items whose ended items all have completions complete `DONE` (07 R210). -/
def State.settleCloses (s : State) : State :=
  (s.items.filter (fun e => decide (e.2.closes ≠ []) && decide (e.2.op < 0x50))).foldl
    (fun s e =>
      if e.2.closes.any (fun k => s.hasItem k) then s else s.finish e.1 0 0) s

/-- `VHOST_STOP` completes `DONE` when the last of the items it ended has ended (05 R151). -/
def State.settleStops (s : State) : State :=
  (s.tenants.filter (fun e => decide (e.2.stopWait ≠ none))).foldl
    (fun s e => match e.2.stopWait with
      | some k =>
        if s.hasItem k then
          (if ((s.item? k).getD Item.reset).closes.all (fun j => !(s.hasItem j)) then (s.finish k 0 0).modTenants e.1 (fun x => { x with stopWait := none }) else s)
        else s.modTenants e.1 (fun x => { x with stopWait := none })
      | none => s) s

/-- The open items of a session in Ending end together, once no USB transaction of the session is in progress (05 R147, R149). -/
def State.settleEnding (s : State) : State :=
  (s.sess.filter (fun e => decide (e.2.state = .ending))).foldl
    (fun s e =>
      let ks := s.sessItems e.1
      if ks.any (fun k => match s.item? k with | some i => s.onBus k i | none => false) then s
      else ks.foldl (fun s k => match s.item? k with
        | some i => (match i.cause with
          | some c => if s.inProgress k i then s else s.finish k c.1 c.2
          | none => s)
        | none => s) s) s

/-- Items that wait for others to end are completed. -/
def State.settleWaits (s : State) : State := s.settleEnding.settleCloses.settleStops

/-! ### Hub records on the wire -/

/-- A record's bytes, padded to a multiple of 8 (05 R152, Hub record layouts). -/
def HubRec.encode : HubRec → Bytes
  | .completion orphan _ acc out det actual ps fr body =>
    padTo (ceilDiv (24 + body.length) 8 * 8)
      (natBE 1 0x80 ++ natBE 1 (b2n orphan) ++ natBE 2 body.length ++ natBE 6 acc ++ natBE 1 out ++ natBE 1 det ++
        natBE 4 actual ++ natBE 4 ps ++ natBE 4 fr ++ body)
  | .inData _ acc off data =>
    padTo (ceilDiv (16 + data.length) 8 * 8)
      (natBE 1 0x81 ++ zeros 1 ++ natBE 2 data.length ++ natBE 6 acc ++ zeros 2 ++ natBE 4 off ++ data)
  | .event code port dev param time body =>
    padTo (ceilDiv (24 + body.length) 8 * 8)
      (natBE 1 0x82 ++ zeros 1 ++ natBE 2 body.length ++ natBE 2 code ++ natBE 1 port ++ zeros 1 ++ natBE 2 dev ++
        zeros 2 ++ natBE 4 param ++ natBE 8 time ++ body)

/-- The records of a session not yet acknowledged or not yet sent, oldest first (05 R148). -/
def Session.unsent (x : Session) : List HubRec := x.replay.flatMap (·.recs) ++ x.perQueue ++ x.txQueue

/-- Whether a record is a completion. -/
def HubRec.isCompletion : HubRec → Bool
  | .completion .. => true
  | _ => false

/-- Whether a record is the LEDGER_DONE event of a block (05 R161). -/
def HubRec.isDone (block : Nat) : HubRec → Bool
  | .event 9 _ _ param _ _ => decide (param = block)
  | _ => false

/-! ### Ledger delivery -/

/-- The lowest-numbered Open session of a principal (05 R161). -/
def State.openSess (s : State) (t : Nat) : Option Nat :=
  (s.sess.find? (fun e => decide (e.2.state = .opened) && decide (e.2.tenant = t))).map (·.1)

/-- Whether the entries of a block are on their way in some session (05 R161). -/
def State.delivering (s : State) (t block : Nat) : Bool :=
  s.sess.any (fun e => e.2.live && decide (e.2.tenant = t) &&
    (e.2.unsent.any (HubRec.isDone block) || e.2.ledgerWait.any (fun w => decide (w.1 = block))))

/-- The ledger entries of one block, then its LEDGER_DONE, into session `n` (05 R161). -/
def State.deliverBlock (s : State) (n t block : Nat) : State :=
  let mine := (s.getTenants t).ledger.filter (fun e => decide (e.acc / 4294967296 = block))
  let s := s.modTenants t (fun x => { x with ledger := x.ledger.filter (fun e => decide (e.acc / 4294967296 ≠ block)) })
  let recs := mine.map (fun e =>
    HubRec.completion true false e.acc e.outcome e.detail e.actual e.pipeState e.endFrame [])
  let s := s.modSess n (fun x => { x with txQueue := x.txQueue ++ recs })
  s.sessEvent n 0x0009 block

/-- The ledger entries of ended sessions go out on the lowest-numbered Open session, if there is one (05 R161). -/
def State.deliverLedger (s : State) (t : Nat) : State :=
  match s.openSess t with
  | none => s
  | some n =>
    (s.getTenants t).ledgerResv.foldl
      (fun s b => if s.delivering t b.1 then s else s.deliverBlock n t b.1) s

/-- The reservation of a block is freed (05 R161). -/
def State.freeBlock (s : State) (t block : Nat) : State :=
  match (s.getTenants t).ledgerResv.find? (fun b => decide (b.1 = block)) with
  | some b => (s.modTenants t (fun x => { x with ledgerResv := x.ledgerResv.filter (fun b => decide (b.1 ≠ block)) })).modMem
      (fun m => { m with ledgerUsed := m.ledgerUsed - b.2 })
  | none => s

/-- Undelivered ledger entries of a loan that reached Idle are discarded and counted (05 R162). -/
def State.dropLedger (s : State) (t : Nat) : State :=
  let s := (s.getTenants t).ledgerResv.foldl (fun s b => s.freeBlock t b.1) s
  s.modTenants t (fun x => { x with discLedger := satAdd x.discLedger x.ledger.length, ledger := [] })

/-! ### Locks at a session's end -/

/-- The member number of this package (03 R109). -/
def State.member (s : State) : Nat := s.cfg 0x7000 1

/-- A Nerquelu message to one member or, as 0, the witness: at its address and the Nerquelu port, with its header in clear and its
body encrypted under the Collection key (03 R96). -/
def State.nqSend (s : State) (to_ typ : Nat) (body : Bytes) : State :=
  let seq := s.boot.bootCount.toNat % 16777216 * 1099511627776 + s.coll.seqOut % 1099511627776
  let header := natBE 1 1 ++ natBE 1 typ ++ natBE 1 s.member ++ zeros 1 ++ natBE 4 s.coll.epoch.toNat ++ natBE 8 seq ++
    natBE 2 body.length
  let nonce := natBE 1 s.member ++ zeros 3 ++ natBE 8 seq
  let addr := if to_ = 0 then s.cfgB 0x7002 0 else s.cfgB 0x7001 to_
  (s.modColl (fun c => { c with seqOut := c.seqOut + 1 })).emit
    (.nerquelu to_ typ addr (s.cfg 0x7000 3) header body (Config.aesGcm (s.coll.key.getD []) nonce header body))

/-- The other members of the Collection (03 R98). -/
def State.others (s : State) : List Nat :=
  ((List.range (s.cfg 0x7000 2)).map (· + 1)).filter (fun m => decide (m ≠ s.member))

/-- Lock state codes (03 R107). -/
def lockCode : LockState → Nat
  | .free => 0
  | .held => 1
  | .broken => 2

/-- The copy of a lock as a lock message carries it (log entry 17). -/
def State.lockBody (s : State) (n : Nat) : Bytes :=
  let l := s.lock n
  natBE 1 n ++ natBE 1 (lockCode l.state) ++ natBE 1 (b2n l.afterBreak) ++ natBE 1 l.member ++ natBE 2 l.sess ++
    natBE 4 l.epoch.toNat

/-- The voters other than this package, the witness as 0 where it votes (03 R98). -/
def State.voterList (s : State) : List Nat := s.others ++ (if s.cfg 0x7000 5 = 1 then [0] else [])

/-- The state of a lock sent to every other voter to record (03 R103, TYPE 0x05; log entry 17). -/
def State.lockTell (s : State) (n : Nat) : State :=
  s.voterList.foldl (fun s m => s.nqSend m 5 (natBE 1 0 ++ s.lockBody n)) s

/-- The locks held by session `n` of this package go Free, or Broken with `COLL_STAT.LOCK_BROKEN` (03 R104, R110). -/
def State.freeLocks (s : State) (n : Nat) (broken : Bool) : State :=
  let mine := (s.coll.locks.filter (fun e =>
    decide (e.2.state = .held) && decide (e.2.member = s.member) && decide (e.2.sess = n))).map (·.1)
  let s := mine.foldl (fun s l => s.setLock l
    (if broken then { s.lock l with state := .broken } else { s.lock l with state := .free, afterBreak := false })) s
  let s := mine.foldl (fun s l => s.lockTell l) s
  let s := s.modColl (fun c => { c with grants := c.grants.filter (fun g => !(mine.contains g.lock)) })
  if broken && !mine.isEmpty then s.collEvent (fun c => { c with lockBroken := true }) else s

/-! ### The end of a session -/

/-- An undelivered completion of an ending session goes to the ledger: an IN item's as `ABORTED_OWNER` unless a cause
that precedes it had ended the item, every other as it was formed (05 R147, R148, R160). -/
def ledgerOf (det : Nat) : HubRec → Option LedgerEntry
  | .completion _ isIn acc out dt actual ps fr _ =>
    some (if isIn && decide (6 ≤ outRank out) then ⟨acc, 0x07, det, actual, ps, fr⟩
      else ⟨acc, out, dt, actual, ps, fr⟩)
  | _ => none

/-- The frames of a session that wait for a link are discarded, but for its SESSION frames (05 R148). -/
def State.dropFrames (s : State) (n : Nat) : State :=
  let keep := fun (f : OutFrame) => decide (f.sess ≠ n) || decide (f.typ = 4)
  let s := [1, 2, 3, 4, 5, 6, 7, 8].foldl
    (fun s m => s.setLink m { s.link m with queue := (s.link m).queue.filter (fun e => keep e.2) }) s
  s.modUpl (fun u => { u with backlog := u.backlog.filter keep })

/-- A cause reaches an item of an ending session: kept until the session's transactions in progress have reached their packet
boundaries, when the items end together (05 R147, R159). -/
def State.endCause (s : State) (det : Nat) (k : Nat) : State :=
  let s := s.modItems k (fun i => { i with cause := some (bestCause i.cause (0x07, det)) })
  match s.item? k with
  | some i => s.giveUpSplit 0x07 k i
  | none => s

/-- A session enters Ending: undelivered completions to the ledger, every other open item ended `ABORTED_OWNER` once the
transactions in progress are over, queued data discarded (05 R145, R147, R148). -/
def State.endSession (s : State) (n det reason : Nat) (loss broken : Bool) : State :=
  let x := s.getSess n
  let s := s.modSess n (fun x => { x with
    state := .ending, lossEnd := loss, reason := reason, ended := 0, txQueue := [], perQueue := [], replay := [], rxBuf := [],
    ledgerWait := [], evLost := 0, pathEnd := false, stallSpanNow := false, stallBufNow := false, stallWinNow := false })
  let s := (x.unsent.filterMap (ledgerOf det)).foldl (fun s e => s.toLedger n x.tenant e) s
  let s := (s.sessItems n).foldl (fun s k => s.endCause det k) s
  ((s.dropFrames n).freeLocks n broken).settleWaits

/-- Sessions of a principal that are not Closed. -/
def State.heldSess (s : State) (t : Nat) : List Nat :=
  (s.sess.filter (fun e => decide (e.2.state ≠ .closed) && decide (e.2.tenant = t))).map (·.1)

/-- The house block counter returns to 0 in a new house generation once every house block is used up, no house session
is open and no house ledger entry waits (05 R157). -/
def State.renewHouse (s : State) (t : Nat) : State :=
  let x := s.getTenants 0
  if t = 0 ∧ x.nextBlock = 65536 ∧ s.heldSess 0 = [] ∧ x.ledger = [] then
    s.modTenants 0 (fun x => { x with nextBlock := 0, generation := satAdd x.generation 1 })
  else s

/-- A session reaches Closed: its key, buffers and reservation are zeroed and released, the buffers back in the pool once
their zeroing ends (12 R337); the reservation stays while the
ledger holds entries of its block; a block without entries gets no LEDGER_DONE event (05 R145, R157, R160, R161; 04 R125; log
entry 97). -/
def State.closeSession (s : State) (n : Nat) : State :=
  let x := s.getSess n
  let keep := (s.getTenants x.tenant).ledger.any (fun e => decide (e.acc / 4294967296 = x.block))
  let s := if keep then s.modTenants x.tenant (fun t => { t with ledgerResv := t.ledgerResv ++ [(x.block, x.ledgerRes)] })
    else s.modMem (fun m => { m with ledgerUsed := m.ledgerUsed - x.ledgerRes })
  let s := s.modMem (fun m => { m with zeroing := m.zeroing ++ [⟨1, n, 2 * x.bufKib⟩] })
  ((s.modSess n (fun x => { x with
    state := .closed, key := SessKey.zero, txQueue := [], perQueue := [], replay := [], rxBuf := [], ledgerWait := [], ledgerRes := 0,
    bufKib := 0, heldFrom := false, lossEnd := false, evLost := 0, ended := 0, pathEnd := false, stallSpanNow := false,
    stallBufNow := false, stallWinNow := false })).deliverLedger x.tenant).renewHouse x.tenant

/-- Sessions of a principal that are Open, Draining or Held. -/
def State.liveSess (s : State) (t : Nat) : List Nat :=
  (s.sess.filter (fun e => e.2.live && decide (e.2.tenant = t))).map (·.1)

/-- Sessions of a principal that are Opening. -/
def State.openingSess (s : State) (t : Nat) : List Nat :=
  (s.sess.filter (fun e => decide (e.2.state = .opening) && decide (e.2.tenant = t))).map (·.1)

end Sys2Proof.Machine
end

