-- ==== Sys2Proof/Machine/Admission.lean ====
section
/-!
DEFINITION. The periodic budget (08): the path of a pipe, its charges at every level, and admission. All charges are
computed from the open pipes' contexts; nothing is kept beside them.
-/
namespace Sys2Proof.Machine

/-- A charge: admission check, key of the table (kind, port, hub, hub port), entry, amount and limit (08 R248). -/
abbrev Charge := Nat × (Nat × Nat × Nat × Nat) × Nat × Nat × Nat

/-- The device at an address of a port's tree. -/
def PortUsb.device? (u : PortUsb) (a : Nat) : Option Device := u.devices.find? (fun d => decide (d.addr = a))

/-- The external hub links from a device up to the root port: hub address, hub port, speed code of the link below it,
whether the hub is served as multi-TT; nearest the device first (06 R179: at most five hubs). -/
def PortUsb.chainUp (u : PortUsb) : Nat → Nat → List (Nat × Nat × Nat × Bool)
  | 0, _ => []
  | k + 1, a =>
    match u.device? a with
    | some d =>
      if d.parent = 0 then []
      else (d.parent, d.parentPort, speedCode d.speed,
        (match u.device? d.parent with | some h => h.multiTt | none => false)) :: PortUsb.chainUp u k d.parent
    | none => []

/-- The external hub links above a device. -/
def PortUsb.chain (u : PortUsb) (a : Nat) : List (Nat × Nat × Nat × Bool) := u.chainUp 6 a

/-- The SPLIT field of a pipe to a device: direct, gallery translator, or the translator of the nearest HS hub above an
FS or LS device (08 R236, R237). -/
def PortUsb.splitOf (u : PortUsb) (root a : Nat) : Nat :=
  if root = 1 ∨ root = 2 then 1
  else match u.device? a with
    | none => 0
    | some d =>
      if speedCode d.speed = 1 ∨ speedCode d.speed = 2 then
        match (u.chain a).find? (fun l => match u.device? l.1 with
            | some h => decide (speedCode h.speed = 3)
            | none => false) with
        | some l => 2 + l.1 % 128 * 4 + l.2.1 % 128 * 512
        | none => 0
      else 0

/-- HS bus time of `n` transactions of `b` bytes, times 9, before rounding (08 R244). -/
def hsTime9 (n b : Nat) (intr : Bool) : Nat := n * (b * 175 + 9 * (if intr then 1200 else 900))

/-- Whether a pipe is an interrupt pipe. -/
def Pipe.intr (x : Pipe) : Bool := decide (x.typ = 3)

/-- HS charge of a pipe, in ns (08 R244). -/
def Pipe.hsNs (x : Pipe) : Nat := ceilDiv (hsTime9 (x.mult + 1 + b2n x.intr) x.maxPacket x.intr) 9

/-- Byte time of a SuperSpeed mode in units of 1/80 ns (08 R244). -/
def byteTime80 (mode : Nat) : Nat := if mode = 5 then 66 else if mode = 6 then 80 else if mode = 7 then 33 else 160

/-- SuperSpeed charge of a pipe at a mode, in ns; the repeat of an interrupt pipe is one more packet (08 R244, R219). -/
def Pipe.ssNs (x : Pipe) (mode : Nat) : Nat :=
  300 + ceilDiv (((x.burst + 1) * (x.mult + 1) + b2n x.intr) * (x.maxPacket + 40) * byteTime80 mode) 80

/-- Wire time of one FS or LS transaction of the pipe, in ns (08 R244). -/
def Pipe.wireOne (x : Pipe) (belowHub : Bool) : Nat :=
  if x.speed = 1 then ceilDiv (x.maxPacket * 56000 + 9 * (64000 + b2n belowHub * 8000)) 9
  else ceilDiv (x.maxPacket * 7000 + 9 * (if x.intr then 10000 else 9000)) 9

/-- Wire charge of a pipe with an interrupt pipe's repeat, in ns (08 R244). -/
def Pipe.wireNs (x : Pipe) (belowHub : Bool) : Nat :=
  let o := if x.speed = 1 then 64000 + b2n belowHub * 8000 else if x.intr then 10000 else 9000
  let per := if x.speed = 1 then 56000 else 7000
  ceilDiv ((1 + b2n x.intr) * (x.maxPacket * per + 9 * o)) 9

/-- FS bytes of one transaction for the best-case budget of clause 11.18: wire time in FS byte times and the translator's think time
(08 R242; log entry 22). -/
def Pipe.fsBytes (x : Pipe) (belowHub : Bool) (think : Nat) : Nat := ceilDiv (x.wireOne belowHub * 3) 2000 + think

/-- Microframes the FS bytes of a transaction take, at most 188 in each (08 R242). -/
def Pipe.fsFrames (x : Pipe) (belowHub : Bool) (think : Nat) : Nat := ceilDiv (x.fsBytes belowHub think) 188

/-- Start-splits of an isochronous OUT packet, of at most 188 bytes each, one in a microframe (08 R242). -/
def Pipe.startSplits (x : Pipe) : Nat := if x.typ = 1 ∧ x.dirIn = false then max 1 (ceilDiv x.maxPacket 188) else 1

/-- Microframes after the start-split in which complete-splits follow: three for an interrupt pipe, one more than those the transaction
takes for isochronous IN, none for isochronous OUT (08 R242; USB 2.0 11.18; log entry 22). -/
def Pipe.completeSplits (x : Pipe) (belowHub : Bool) (think : Nat) : List Nat :=
  if x.typ = 1 ∧ x.dirIn = false then []
  else (List.range (if x.intr then 3 else x.fsFrames belowHub think + 1)).map (· + 2)

/-- HS splits to an external translator: microframe offset and bus time of the start-split, charged with the OUT data, and of each
complete-split, charged with the IN data; an interrupt pipe adds its largest transaction once more, beside the first of its kind (08
R242, R244; log entry 22). -/
def Pipe.splits (x : Pipe) (belowHub : Bool) (think : Nat) : List (Nat × Nat) :=
  let hs := fun b => ceilDiv (hsTime9 1 b x.intr) 9
  let data := hs x.maxPacket
  let out := if x.dirIn then hs 0 else data
  let inn := if x.dirIn then data else hs 0
  let again : List (Nat × Nat) := if x.intr then [(if x.dirIn then 2 else 0, data)] else []
  (0, out) :: (x.completeSplits belowHub think).map (fun d => (d, inn)) ++ again

/-- The period of a pipe in microframes, at most 256 (08 R245). -/
def Pipe.period (x : Pipe) : Nat := 2 ^ (min x.interval 8)

/-- A charge in every entry of a 256-microframe table congruent to PHASE + d (08 R245). -/
def Pipe.inMicro (x : Pipe) (ck : Nat) (key : Nat × Nat × Nat × Nat) (d amt lim : Nat) : List Charge :=
  (List.range (256 / x.period)).map (fun k => (ck, key, (x.phase + d + k * x.period) % 256, amt, lim))

/-- The frame of a pipe's transaction on an FS or LS wire: the one that holds the microframe after its start-split's (08 R238). -/
def Pipe.frameOf (x : Pipe) : Nat := (x.phase + 1) / 8

/-- A charge in every frame of a 32-frame table that the pipe is served in (08 R245). -/
def Pipe.inFrames (x : Pipe) (ck : Nat) (key : Nat × Nat × Nat × Nat) (amt : Nat) : List Charge :=
  let per := max 1 (x.period / 8)
  (List.range (32 / per)).map (fun k => (ck, key, (x.frameOf + k * per) % 32, amt, 900000))

/-- The table key of an external translator: its hub, and its port there for a multi-TT hub (08 R242). -/
def PortUsb.ttKey (u : PortUsb) (x : Pipe) (kind : Nat) : Nat × Nat × Nat × Nat :=
  let hub := bitsOf x.split 2 7
  let multi := match u.device? hub with | some h => h.multiTt | none => false
  (kind, x.port, hub, if multi then bitsOf x.split 9 7 else 0)

/-- The think time of the external translator a pipe uses, in FS bytes (08 R242). -/
def PortUsb.thinkOf (u : PortUsb) (x : Pipe) : Nat :=
  match u.device? (bitsOf x.split 2 7) with
  | some h => h.think
  | none => 0

/-- Microframes from a gallery start-split to its complete-split: from the one before the wire start to the one after the wire end (08
R238). -/
def Pipe.csAfter (x : Pipe) (belowHub : Bool) : Nat :=
  (x.wireOff + x.wireOne belowHub - 1) / 125000 + 2 - (x.phase + 1) % 8

/-- The charges of a pipe at its PHASE, wire offset and path, in the order of the table Admission checks. `fb` is the
effective speed fallback object, `share` the port's slot share (08 R244 to R248, R246). -/
def PortUsb.charges (u : PortUsb) (x : Pipe) (fb share : Nat) : List Charge :=
  let p := x.port
  let links := u.chain x.address
  let below := !links.isEmpty
  let path := x.split % 4
  let think := u.thinkOf x
  let hs := if path = 2 then x.splits below think else [(0, x.hsNs)]
  let on := fun (mode : Nat) => if isSuper mode then ([(0, x.ssNs (if fb = 0 then mode else 4))], 112500) else (hs, 100000)
  let port := speedCode u.speed
  let mode := if isSuper x.speed ∧ isSuper port = true then port else x.speed
  let root :=
    if path = 1 then x.inFrames 1 (0, p, 0, 0) (x.wireNs below)
    else ((on mode).1.flatMap (fun e => x.inMicro 1 (1, p, 0, 0) e.1 e.2 (on mode).2))
  let wire := if path = 2 then x.inFrames 2 (u.ttKey x 2) (x.wireNs below) else []
  let hubs := links.flatMap (fun l =>
    if l.2.2.1 ≤ 2 then []
    else (on l.2.2.1).1.flatMap (fun e => x.inMicro 2 (5, p, l.1, l.2.1) e.1 e.2 (on l.2.2.1).2))
  let tt :=
    if path = 2 then
      (List.range (x.fsFrames below think)).flatMap (fun k =>
        x.inMicro 3 (u.ttKey x 3) (1 + k) (min 188 (x.fsBytes below think - 188 * k)) 188)
    else []
  let slots :=
    if path = 1 then x.inMicro 4 (4, p, 0, 0) 0 1 share ++ x.inMicro 4 (4, p, 0, 0) (x.csAfter below) 1 share
    else []
  root ++ wire ++ hubs ++ tt ++ slots

/-- Whether a pipe carries a charge: a periodic pipe of class Prompt or Steady (08 Charges, 07 R207). -/
def Pipe.reserved (x : Pipe) : Bool :=
  decide (x.state ≠ .free) && (decide (x.typ = 1) || decide (x.typ = 3)) && decide (x.cls ≠ 2)

/-- The pipes with reservations that satisfy a test. -/
def State.reservedPipes (s : State) (p : Pipe → Bool) : List Pipe :=
  (s.pipes.map (·.2)).filter (fun x => x.reserved && p x)

/-- The charges of a pipe under the present settings of its port. -/
def State.chargesOf (s : State) (x : Pipe) : List Charge :=
  (s.getUsb x.port).charges x (s.cfg 0x4023 x.port) (s.cfg 0x4040 x.port)

/-- The charges of all pipes of a port. -/
def State.portCharges (s : State) (p : Nat) : List Charge :=
  (s.reservedPipes (fun x => decide (x.port = p))).flatMap s.chargesOf

/-- The sum of the charges in one entry of one table. -/
def chargeSum (cs : List Charge) (key : Nat × Nat × Nat × Nat) (e : Nat) : Nat :=
  (cs.filter (fun c => decide (c.2.1 = key) && decide (c.2.2.1 = e))).foldl (fun a c => a + c.2.2.2.1) 0

/-- Whether new charges of one check stay within their limits beside those in force (08 R248). -/
def chargesFit (ck : Nat) (have_ new : List Charge) : Bool :=
  new.all (fun c => decide (c.1 ≠ ck) || decide (chargeSum have_ c.2.1 c.2.2.1 + chargeSum new c.2.1 c.2.2.1 ≤ c.2.2.2.2))

/-- The fullest entry of a table. -/
def fullest (cs : List Charge) (kind : Nat) : Nat :=
  (cs.filter (fun c => decide (c.2.1.1 = kind))).foldl (fun a c => max a (chargeSum cs c.2.1 c.2.2.1)) 0

/-- Reserved bus time of a port: the fullest entry of its budget table (08 R254 0x8220). -/
def State.busReserved (s : State) (p : Nat) : Nat :=
  let cs := s.portCharges p
  max (fullest cs 0) (fullest cs 1)

/-- Reserved translator slots of a port in its fullest microframe (08 R254 0x8221). -/
def State.slotsReserved (s : State) (p : Nat) : Nat := fullest (s.portCharges p) 4

/-- Slots reserved in a gallery's fullest microframe (08 R255 SLOTS_RES). -/
def State.galSlots (s : State) (g : Nat) : Nat :=
  let cs := ((portsOfGal g).flatMap s.portCharges).filter (fun c => decide (c.2.1.1 = 4))
  (List.range 256).foldl (fun a e =>
    max a ((cs.filter (fun c => decide (c.2.2.1 = e))).foldl (fun a c => a + c.2.2.2.1) 0)) 0

/-- Upstream charge of a pipe in kbit/s (08 R247). -/
def Pipe.upKbps (x : Pipe) : Nat := ceilDiv (x.bytesPerInterval * 64 * 17) (2 ^ x.interval * 16)

/-- Wing-link charge of a pipe in kbit/s, times 2^15 so that it is whole (08 R247). -/
def Pipe.wingUnits (x : Pipe) : Nat := x.bytesPerInterval * 64 * 2 ^ (15 - x.interval)

/-- The principal a pipe's upstream charge falls on: its tenant, or for the Registrar's pipes the port's loan owner or
the operator (06 R180, 08 R249). -/
def State.chargedTo (s : State) (x : Pipe) : Nat := if x.tenant = 127 then (s.getUsb x.port).loanOwner else x.tenant

/-- Upstream periodic charge of a principal in one direction, kbit/s (08 R254 0x8222, 0x8223). -/
def State.upCharge (s : State) (t : Nat) (inward : Bool) : Nat :=
  (s.reservedPipes (fun x => decide (s.chargedTo x = t) && decide (x.dirIn = inward))).foldl (fun a x => a + x.upKbps) 0

/-- Wing periodic charge in one direction, in units of kbit/s / 2^15 (08 R247). -/
def State.wingCharge (s : State) (w : Nat) (inward : Bool) : Nat :=
  (s.reservedPipes (fun x => decide (wingOf x.port = w) && decide (x.dirIn = inward))).foldl (fun a x => a + x.wingUnits) 0

/-- The limit of check 6: a loan's effective periodic reservation, or the house's (08 R248, R249). -/
def State.upLimit (s : State) (t : Nat) : Nat := if t = 0 then s.cfg 0x2021 2 else (s.getTenants t).periodic

/-- The transactions that Prompt pipes already have on the wire of an FS or LS root port in the frames a pipe is served in: offset and
end of each within the frame (08 R238). -/
def State.onWire (s : State) (x : Pipe) : List (Nat × Nat) :=
  let per := fun (y : Pipe) => max 1 (y.period / 8)
  let below := fun (y : Pipe) => !((s.getUsb y.port).chain y.address).isEmpty
  ((s.reservedPipes (fun y => decide (y.port = x.port) && decide (y.cls = 0) && decide (y.split % 4 = 1))).filter
    (fun y => decide (x.frameOf % min (per x) (per y) = y.frameOf % min (per x) (per y)))).map
    (fun y => (y.wireOff, y.wireOff + y.wireOne (below y)))

/-- The lowest offset from `lo` on at which `len` ns stay clear of what is on the wire and end within the frame (08 R238). -/
def wireSlot (lo len : Nat) (busy : List (Nat × Nat)) : Option Nat :=
  let cands := (lo :: (busy.map (·.2)).filter (fun e => decide (lo ≤ e))).filter
    (fun o => decide (o + len ≤ 1000000) && busy.all (fun b => decide (o + len ≤ b.1) || decide (b.2 ≤ o)))
  cands.foldl (fun a o => match a with | some b => some (min b o) | none => some o) none

/-- Candidate placements of a pipe, lowest PHASE first, PHASE being the microframe of its start-split. On a root port at FS or LS a
Prompt pipe takes a wire offset after that microframe; to an external translator no start-split falls in a frame's last microframe (08
R238, R242, R245; log entry 22). -/
def State.placements (s : State) (x : Pipe) : List Pipe :=
  let path := x.split % 4
  (List.range x.period).filterMap (fun ph =>
    let y := { x with phase := ph, wireOff := 0 }
    if path = 1 then
      let lo := (ph + 1) % 8 * 125000
      if x.cls ≠ 0 then some { y with wireOff := lo }
      else (wireSlot lo (x.wireOne (!((s.getUsb x.port).chain x.address).isEmpty)) (s.onWire y)).map
        (fun o => { y with wireOff := o })
    else if path = 2 then (if 7 < ph % 8 + x.startSplits then none else some y)
    else some y)

/-- The lowest ORDER that no Prompt pipe of the port holds in a microframe a pipe is served in (07 R204, R223). -/
def State.freeOrder (s : State) (x : Pipe) : Nat :=
  let taken := (s.reservedPipes (fun y => decide (y.port = x.port) && decide (y.cls = 0) &&
    decide (x.phase % min (2 ^ x.interval) (2 ^ y.interval) = y.phase % min (2 ^ x.interval) (2 ^ y.interval)))).map (·.order)
  ((List.range 256).find? (fun o => !(taken.contains o))).getD 255

/-- The first failing admission check, 0 where all pass, with the pipe at the lowest PHASE that fits (08 R245, R248). -/
def State.admitPipe (s : State) (x : Pipe) : Nat × Pipe :=
  let held := s.portCharges x.port
  let fitTo := fun ck => (s.placements x).find? (fun c =>
    (List.range ck).all (fun k => chargesFit (k + 1) held (s.chargesOf c)))
  match fitTo 4 with
  | none => (((List.range 4).find? (fun k => (fitTo (k + 1)).isNone)).getD 0 + 1, x)
  | some c =>
    let t := s.chargedTo x
    if 480000000 * 32768 < s.wingCharge (wingOf x.port) x.dirIn + x.wingUnits then (5, x)
    else if s.upLimit t < s.upCharge t x.dirIn + x.upKbps then (6, x)
    else
      (0, { c with order := if c.cls = 0 then s.freeOrder c else 0 })

end Sys2Proof.Machine
end

