-- ==== Sys2Proof/Machine/Operands.lean ====
section
/-!
DEFINITION. Command records: the checks every record passes before its command is done, and the fields of record
bodies (05 R152 to R158; 16 R409; 03 R90).
-/
namespace Sys2Proof.Machine

/-- A big-endian field of an item's body (05 R152). -/
def Item.f (i : Item) (o n : Nat) : Nat := beNat (slice i.body o n)

/-- The item a record becomes (05 R153, R156). -/
def recItem (t : Nat) (r : Rec) (op now : Nat) : Item :=
  { Item.reset with sess := r.sess, principal := t, acc := r.acc, op := op, deadline := r.deadline, arrived := now,
                    body := r.body }

/-- An unexpected accession index: the record is discarded and counted; one ACCESSION_GAP event names the index expected,
and the records that follow before that index arrives raise no further one (05 R156; log entry 91). -/
def State.gap (s : State) (n : Nat) : State :=
  let x := s.getSess n
  let s := s.modTenants x.tenant (fun t => { t with discRecords := satAdd t.discRecords 1 })
  if x.gapTold then s
  else (s.sessEvent n 0x000A x.expect).modSess n (fun x => { x with gapTold := true })

/-- What ends a new item before its command is looked at: a ranked cause first (package-safe-stop, a recall), then an
unknown opcode or short body, a Draining session, the item limit, a Stopped virtual host (05 R145, R151, R153, R158;
16 R409; 03 R90; log entry 23 for the order). `served` holds for the commands that package-safe-stop and a Stopped
virtual host still serve, `start` for `VHOST_START`. -/
def State.earlyEnd (s : State) (i : Item) (served start unknown : Bool) (minLen : Nat) : Option (Nat × Nat) :=
  let x := s.getSess i.sess
  if s.flt.safeStop && !served then some (0x0F, 0x60)
  else if (s.getTenants i.principal).loan = .recalling then some (0x0B, 0)
  else if unknown then some (0x0C, 0x02)
  else if i.body.length < minLen then some (0x0C, 0x01)
  else if x.state = .draining then some (0x0C, 0x0A)
  else if x.itemLimit < (s.sessItems i.sess).length then some (0x0C, 0x04)
  else if (s.getTenants i.principal).stopped && !(served || start) then some (0x0C, 0x06)
  else none

/-- A command record arrives: discarded outside Open and Draining, a gap where its index is not the expected one, else
an item, which ends early or is handed to its command (05 R145, R153, R156). -/
def State.takeRec (s : State) (op : Nat) (r : Rec) (served start unknown : Bool) (minLen : Nat)
    (run : State → Nat → Item → State) : State :=
  let x := s.getSess r.sess
  if x.state ≠ .opened ∧ x.state ≠ .draining then s
  else if r.acc / 4294967296 ≠ x.block ∨ r.acc % 4294967296 ≠ x.expect then s.gap r.sess
  else
    let k := itemKey x.tenant r.acc
    let i := recItem x.tenant r op s.now
    let s := (s.modSess r.sess (fun x => { x with expect := x.expect + 1, gapTold := false })).setItems k i
    match s.earlyEnd i served start unknown minLen with
    | some (out, det) => s.finish k out det
    | none => run s k i

/-- Whether a principal holds a port: a tenant its loan's ports, the operator the ports on no loan (02 R45; 05 R150;
log entry 21). -/
def State.holdsPort (s : State) (t p : Nat) : Bool := portOk p && s.portIs t p

/-- Whether a principal holds a pipe: open or halted, owned by it, and not a stream context (05 R150, 07 R209). -/
def State.holdsPipe (s : State) (t n : Nat) : Bool :=
  let x := s.getPipes n
  decide (12288 ≤ n) && (decide (x.state = .opened) || decide (x.state = .halted)) && decide (x.tenant = t)
    && !x.streamCtx

end Sys2Proof.Machine
end

