-- ==== Sys2Proof/Machine/Pipes.lean ====
section
/-!
DEFINITION. The pipe store: opening, queueing, resynchronising, closing and freeing pipes (07 R201 to R215, R228, R229).
-/
namespace Sys2Proof.Machine

/-- The pipe numbers that satisfy a test, ascending. -/
def State.pipesWhere (s : State) (p : Pipe → Bool) : List Nat := (s.pipes.filter (fun e => p e.2)).map (·.1)

/-- The Registrar's control pipe of a port, one of contexts 0 to 95 (07 R201). -/
def Pipe.registrarCtl (x : Pipe) : Bool := decide (x.tenant = 127) && decide (x.typ = 0)

/-- The pipes of a port that are Open or Halted, stream contexts and the Registrar's control pipe apart. -/
def State.portPipes (s : State) (p : Nat) : List Nat :=
  s.pipesWhere (fun x => decide (x.port = p) && (decide (x.state = .opened) || decide (x.state = .halted)) && !x.streamCtx &&
    !x.registrarCtl)

/-- The pipes of a device that are Open or Halted, stream contexts apart. -/
def State.devicePipes (s : State) (p a : Nat) : List Nat :=
  s.pipesWhere (fun x => decide (x.port = p) && decide (x.address = a) &&
    (decide (x.state = .opened) || decide (x.state = .halted)) && !x.streamCtx && !x.registrarCtl)

/-- Tenant and operator contexts in use (07 R234 0x8212). -/
def State.ctxUsed (s : State) : Nat := (s.pipes.filter (fun e => decide (12288 ≤ e.1))).length

/-- Tenant and operator contexts free (07 R234 0x8212, R235 FREE). -/
def State.ctxFree (s : State) : Nat := 1036288 - s.ctxUsed

/-- Contexts held by a principal (07 R234 0x8214). -/
def State.ctxHeld (s : State) (t : Nat) : Nat :=
  (s.pipes.filter (fun e => decide (12288 ≤ e.1) && decide (e.2.tenant = t))).length

/-- The lowest free numbers from `lo` on, given the used ones in ascending order (07 R202). -/
def freeNums : Nat → Nat → List Nat → Nat → List Nat
  | 0, _, _, _ => []
  | _, _, _, 0 => []
  | f + 1, lo, [], n + 1 => lo :: freeNums f (lo + 1) [] n
  | f + 1, lo, u :: t, n + 1 =>
    if u < lo then freeNums f lo t (n + 1)
    else if u = lo then freeNums f (lo + 1) t (n + 1)
    else lo :: freeNums f (lo + 1) (u :: t) n

/-- The `n` lowest free contexts from `lo` on (07 R202). -/
def State.freeCtx (s : State) (lo n : Nat) : List Nat := freeNums (n + s.pipes.length + 1) lo (s.pipes.map (·.1)) n

/-- A pipe and its stream contexts changed alike. -/
def State.modGroup (s : State) (n : Nat) (f : Pipe → Pipe) : State := (s.group n).foldl (fun s m => s.modPipes m f) s

/-- The items queued on a pipe and its stream contexts, in order. -/
def State.groupItems (s : State) (n : Nat) : List Nat := (s.group n).flatMap (fun m => (s.getPipes m).queue)

/-- Whether a transaction of the pipe or one of its streams is on the bus. -/
def State.groupBusy (s : State) (n : Nat) : Bool := (s.group n).any (fun m => (s.getPipes m).inXact)

/-- Whether a pipe runs at SuperSpeed, so that it has a sequence number in place of a toggle (07 R212, R213). -/
def Pipe.super (x : Pipe) : Bool := isSuper x.speed

/-- PIPE_RESYNCED with the pipe and its PIPE_STATE (05 Event codes, 07 R212). -/
def State.resyncEvent (s : State) (n word : Nat) : State := s.portEvent (s.getPipes n).port 0x0004 0 n (natBE 4 word)

/-- A resynchronisation: TOGGLE or SEQ set, before the next transaction; a transaction in progress finishes with the old
value. A Halted pipe is Open again (07 R209, R212, R213, R215). -/
def State.resync (s : State) (n v : Nat) : State :=
  let x := s.getPipes n
  if x.state = .opened ∨ x.state = .halted then
    let word := 2147483648 + (if x.super then v % 32 + b2n x.toggle * 256 else v % 2 * 256 + x.seq.toNat)
    let s := s.modGroup n (fun x => { x with state := .opened, haltCause := false })
    let s :=
      if s.groupPending n then s.modPipes n (fun x => { x with resyncOwed := some v })
      else if x.super then s.modPipes n (fun x => { x with seq := BitVec.ofNat 5 v, resyncOwed := none })
      else s.modPipes n (fun x => { x with toggle := decide (v % 2 = 1), resyncOwed := none })
    s.resyncEvent n word
  else s

/-- A pipe goes Closing, its items ended with a cause (07 R209). -/
def State.closing (s : State) (out det n : Nat) : State :=
  let x := s.getPipes n
  if x.state = .opened ∨ x.state = .halted then
    let items := s.groupItems n
    (s.modGroup n (fun x => { x with state := .closing })).causeItems out det items
  else s

/-- The pipes of a list go Closing with a cause. -/
def State.closeAll (s : State) (out det : Nat) (ns : List Nat) : State := ns.foldl (fun s n => s.closing out det n) s

/-- The last completion of a Closing pipe is formed: its contexts are zeroed and free (07 R209, 03 R95). -/
def State.freePipe (s : State) (n : Nat) : State :=
  let x := s.getPipes n
  if x.state = .closing ∧ x.streamCtx = false ∧ s.groupItems n = [] ∧ s.groupBusy n = false then
    (s.group n).foldl (fun s m => s.setPipes m Pipe.reset) s
  else s

/-! ### Opening -/

/-- The limits of the table Pipe parameter limits by type and speed code (07 R206). -/
def pipeLimits (typ speed mps burst mult streams : Nat) : Bool :=
  let small := mps = 8 ∨ mps = 16 ∨ mps = 32 ∨ mps = 64
  if 4 ≤ speed then
    if typ = 0 then mps = 512 ∧ burst = 0 ∧ mult = 0 ∧ streams = 0
    else if typ = 2 then mps = 1024 ∧ burst ≤ 15 ∧ mult = 0 ∧ streams ≤ 65533
    else if typ = 3 then 1 ≤ mps ∧ mps ≤ 1024 ∧ burst ≤ 2 ∧ (burst = 0 ∨ mps = 1024) ∧ mult = 0 ∧ streams = 0
    else mps ≤ 1024 ∧ burst ≤ 15 ∧ mult ≤ 2 ∧ streams = 0
  else if burst ≠ 0 ∨ streams ≠ 0 then false
  else if speed = 3 then
    if typ = 0 then mps = 64 ∧ mult = 0
    else if typ = 2 then mps = 512 ∧ mult = 0
    else if typ = 3 then 1 ≤ mps ∧ mps ≤ 1024 ∧ mult ≤ 2
    else mps ≤ 1024 ∧ mult ≤ 2
  else if mult ≠ 0 then false
  else if speed = 2 then
    if typ = 0 ∨ typ = 2 then small
    else if typ = 3 then 1 ≤ mps ∧ mps ≤ 64
    else mps ≤ 1023
  else if speed = 1 then
    if typ = 0 then mps = 8
    else if typ = 3 then 1 ≤ mps ∧ mps ≤ 8
    else false
  else false

/-- The further conditions of R206. -/
def pipeRules (x : Pipe) (streams : Nat) : Bool :=
  pipeLimits x.typ x.speed x.maxPacket x.burst x.mult streams
    && decide (x.interval ≤ 15)
    && (decide (3 ≤ x.speed) || decide (3 ≤ x.interval))
    && (decide (x.typ = 0) || decide (x.typ = 2) ||
        decide (x.bytesPerInterval ≤ x.maxPacket * (x.burst + 1) * (x.mult + 1)))
    && (if x.typ = 0 ∨ x.typ = 2 then decide (x.cls = 2) else if x.typ = 1 then decide (x.cls ≤ 1) else decide (x.cls ≤ 2))

/-- A DEVICE handle's port and address; none where bits 15 and 7 are not 0 (05 R150). -/
def handleOf (h : Nat) : Option (Nat × Nat) :=
  if bitOf h 15 ∨ bitOf h 7 then none else some (bitsOf h 8 7, h % 128)

/-- A device's handle (05 R150). -/
def handle (p a : Nat) : Nat := p * 256 + a

/-- The pipe a `PIPE_OPEN` describes (05 R153). -/
def State.pipeOf (s : State) (i : Item) (p a : Nat) (d : Device) : Pipe :=
  let typ := i.f 3 1
  { Pipe.reset with
    state := .opened, typ := typ, dirIn := bitOf (i.f 2 1) 7 && decide (typ ≠ 0), cls := i.f 9 1, port := p,
    address := a, endpoint := i.f 2 1 % 16, speed := speedCode d.speed, tenant := i.principal, budget := s.cfg 0x4030 p,
    maxPacket := i.f 4 2, burst := i.f 6 1, mult := i.f 7 1, interval := i.f 8 1, stream := i.f 10 2,
    bytesPerInterval := if typ = 0 ∨ typ = 2 then 0 else i.f 12 4,
    split := (s.getUsb p).splitOf (speedCode (s.getUsb p).speed) a }

/-- Whether an endpoint and direction of a device already has an open pipe (07 R206). -/
def State.hasPipe (s : State) (x : Pipe) : Bool :=
  (s.devicePipes x.port x.address).any (fun n =>
    let y := s.getPipes n
    decide (y.endpoint = x.endpoint) && (decide (y.dirIn = x.dirIn) || decide (x.typ = 0) || decide (y.typ = 0)))

/-- The first service of a new periodic pipe: a Prompt pipe's next assigned microframe, any other's present one (07 R204 NEXT_DUE,
R207, R222, R223). -/
def State.firstDue (s : State) (x : Pipe) : Word :=
  let c := s.portCount x.port
  let per := 2 ^ x.interval
  if x.typ ≠ 1 ∧ x.typ ≠ 3 then 0
  else if x.cls = 0 then BitVec.ofNat 32 (c + (x.phase % per + per - c % per) % per)
  else BitVec.ofNat 32 c

/-- A pipe is written with its stream contexts, on the lowest free contexts (07 R202, R208, R209). -/
def State.writePipe (s : State) (ctxs : List Nat) (x : Pipe) : State :=
  match ctxs with
  | [] => s
  | n :: strs =>
    let s := s.setPipes n { x with link := strs.headD 0, nextDue := s.firstDue x }
    (strs.zipIdx 1).foldl (fun s e =>
      s.setPipes e.1 { Pipe.reset with
        state := .opened, typ := x.typ, dirIn := x.dirIn, cls := x.cls, port := x.port, address := x.address,
        endpoint := x.endpoint, speed := x.speed, tenant := x.tenant, budget := x.budget, maxPacket := x.maxPacket,
        burst := x.burst, streamCtx := true, stream := e.2, link := n }) s

/-- The first refusal for want of contexts after EXHAUSTED was cleared sets it and raises a Note (07 R203, R235). -/
def State.storeFull (s : State) : State :=
  let s := s.modRegs (fun r => { r with storeRefused := satAdd r.storeRefused 1 })
  if s.regs.psExhausted then s else (s.modRegs (fun r => { r with psExhausted := true })).note 0x20 0

/-- `PIPE_OPEN` (07 R202, R203, R206 to R208; 08 R248). -/
def State.doPipeOpen (s : State) (k : Nat) (i : Item) : State :=
  match handleOf (i.f 0 2) with
  | none => s.finish k 0x0C 0x05
  | some (p, a) =>
    if s.holdsPort i.principal p = false then s.finish k 0x0C 0x05
    else match (s.getUsb p).device? a with
      | none => s.finish k 0x0C 0x05
      | some d =>
        if a = 0 ∨ d.isHub = true then s.finish k 0x0C 0x05
        else
          let x := s.pipeOf i p a d
          let streams := i.f 10 2
          if 3 < i.f 3 1 ∨ bitsOf (i.f 2 1) 4 3 ≠ 0 ∨ pipeRules x streams = false ∨ s.hasPipe x = true then
            s.finish k 0x0C 0x01
          else if s.ctxFree < 1 + streams then s.storeFull.finish k 0x0C 0x07
          else if i.principal ≠ 0 ∧ s.cfg 0x6014 i.principal < s.ctxHeld i.principal + 1 + streams then
            (s.modTenants i.principal (fun t => { t with quotaRefused := satAdd t.quotaRefused 1 })).finish k 0x0C 0x0D
          else
            let (code, x) := if x.reserved then s.admitPipe x else (0, x)
            if code ≠ 0 then
              (s.modTenants i.principal (fun t => { t with lastRefusal := code })).finish k 0x0C 0x08
            else
              let ctxs := s.freeCtx 12288 (1 + streams)
              (s.writePipe ctxs x).finishB k 0 0 (natBE 4 (ctxs.headD 0) ++ zeros 4)

/-- `PIPE_CLOSE` (07 R209, R210). -/
def State.doPipeClose (s : State) (k : Nat) (i : Item) : State :=
  let n := i.f 0 4 % 1048576
  if s.holdsPipe i.principal n then
    let items := s.groupItems n
    let s := s.modItems k (fun i => { i with pipe := some n, closes := items })
    let s := s.closing 0x07 0x35 n
    if items = [] then s.finish k 0 0 else s
  else s.finish k 0x0C 0x05

/-- `PIPE_ABORT` (07 R209, R210). -/
def State.doPipeAbort (s : State) (k : Nat) (i : Item) : State :=
  let n := i.f 0 4 % 1048576
  if s.holdsPipe i.principal n then
    let items := s.groupItems n
    let s := s.modItems k (fun i => { i with pipe := some n, closes := items })
    let s := s.causeItems 0x07 0x33 items
    if items = [] then s.finish k 0 0 else s
  else s.finish k 0x0C 0x05

/-- `PIPE_RESYNC` (07 R213). -/
def State.doPipeResync (s : State) (k : Nat) (i : Item) : State :=
  let n := i.f 0 4 % 1048576
  if s.holdsPipe i.principal n then
    ((s.modItems k (fun i => { i with pipe := some n })).resync n (i.f 4 1)).finish k 0 0
  else s.finish k 0x0C 0x05

/-! ### Queueing a transfer -/

/-- The item a `TRANSFER` record describes (05 R153). -/
def State.xferItem (s : State) (i : Item) (n : Nat) : Item :=
  { i with
    pipe := some n
    isIn := bitOf (i.f 6 1) 0
    shortOk := bitOf (i.f 6 1) 1
    zlp := bitOf (i.f 6 1) 2
    length := i.f 8 4
    setup := slice i.body 12 8
    stream := i.f 4 2
    isoStart := if (s.getPipes n).typ = 1 then i.f 20 4 else 0
    isoPackets := if (s.getPipes n).typ = 1 then i.f 24 2 else 0 }

/-- What refuses a `TRANSFER` on a pipe the principal holds: a pipe held by a job, capture or channel, SET_ADDRESS, a
malformed stream, length, direction or ISO_START (05 R150, R153; 07 R228, R229; 10 R284). -/
def State.xferRefusal (s : State) (i : Item) (n : Nat) : Option Nat :=
  let x := s.getPipes n
  let ahead := (i.isoStart + 4294967296 - s.portCount x.port) % 4294967296
  if x.heldBy ≠ .none then some 0x0E
  else if 4194304 < i.length ∨ (if x.stream = 0 then i.stream ≠ 0 else i.stream = 0 ∨ x.stream < i.stream) then some 0x01
  else if x.typ ≠ 0 ∧ i.isIn ≠ x.dirIn then some 0x01
  else if x.typ = 1 ∧ i.isoStart ≠ 0xFFFFFFFF ∧ 8192 < ahead ∧ ahead < 2147483648 then some 0x01
  else if x.typ = 0 ∧ i.setup.take 2 = [0x00, 0x05] then some 0x0C
  else none

/-- The context whose queue an item joins: the pipe's, or its stream's (07 R228). -/
def State.queueOf (s : State) (n stream : Nat) : Nat :=
  if stream = 0 then n
  else ((s.streamsOf n).find? (fun m => decide ((s.getPipes m).stream = stream))).getD n

/-- The microframe of the service at or after an ISO_START: the next of a Prompt pipe's PHASE, or the start of the interval of a Steady
pipe that holds it (07 R223, R229; log entry 88). -/
def Pipe.isoBase (x : Pipe) (start : Nat) : Nat :=
  let per := 2 ^ x.interval
  if x.cls = 0 then start + (x.phase % per + per - start % per) % per else start / per * per

/-- Isochronous packets whose microframe, or a Steady pipe's interval, has passed when the item arrives end `MISSED` (07 R229). -/
def State.isoPast (s : State) (i : Item) (x : Pipe) : Nat :=
  if x.typ ≠ 1 ∨ i.isoStart = 0xFFFFFFFF then 0
  else
    let back := (s.portCount x.port + 8589934592 - x.isoBase i.isoStart) % 4294967296
    if 2147483648 ≤ back then 0
    else min i.isoPackets (if x.cls = 0 then ceilDiv back (2 ^ x.interval) else back / 2 ^ x.interval)

/-- `TRANSFER` queued on its pipe (07 R209). -/
def State.doTransfer (s : State) (k : Nat) (i : Item) : State :=
  let n := i.f 0 4 % 1048576
  if s.holdsPipe i.principal n = false then s.finish k 0x0C 0x05
  else
    let j := s.xferItem i n
    match s.xferRefusal j n with
    | some det => s.finish k 0x0C det
    | none =>
      let x := s.getPipes n
      let past := s.isoPast j x
      let start := if x.typ = 1 ∧ j.isoStart = 0xFFFFFFFF then (s.portCount x.port + 2) % 4294967296 else j.isoStart
      let m := s.queueOf n j.stream
      let j := { j with pipe := some m, isoStart := start, isoDone := List.replicate past (5, 0) }
      let s := (s.setItems k j).modPipes m (fun x => { x with queue := x.queue ++ [k] })
      if x.typ = 1 ∧ j.isoPackets ≤ past then
        s.finishB k (if past = 0 then 0 else 5) 0 (j.isoDone.flatMap (fun d => natBE 4 (d.1 * 65536 + d.2)))
      else s

/-- The items that take `OUT_DATA` records: `TRANSFER`, `VAULT_WRITE`, `TEMPLATE_LOAD`, `FANOUT_START` (05 R154, 10 R282). -/
def takesOut (op : Nat) : Bool := decide (op = 0x30) || decide (op = 0x61) || decide (op = 0x64) || decide (op = 0x65)

/-- `OUT_DATA` of an open OUT item of the session: appended in order; a gap or overlap ends the item (05 R154). -/
def State.doOutData (s : State) (r : Rec) : State :=
  let x := s.getSess r.sess
  let k := itemKey x.tenant r.acc
  if x.state ≠ .opened ∧ x.state ≠ .draining then s
  else match s.item? k with
    | none => s
    | some i =>
      if i.sess ≠ r.sess ∨ takesOut i.op = false ∨ i.isIn = true then s
      else
        let off := beNat (slice r.body 0 4)
        let data := r.body.drop 8
        if r.body.length < 8 ∨ off ≠ i.outNext ∨ i.length < off + data.length then s.causeItem 0x0C 0x01 k
        else s.modItems k (fun i => { i with outNext := i.outNext + data.length, outData := i.outData ++ data })

/-! ### The pipe view -/

/-- The 16 words of a pipe context (07 R204). -/
def State.ctxWords (s : State) (n : Nat) : List Word :=
  let x := s.getPipes n
  let st := match x.state with | .free => 0 | .opened => 1 | .halted => 2 | .closing => 3
  let w0 := st + x.typ % 4 * 8 + b2n x.dirIn * 32 + x.cls % 4 * 64 + x.port % 128 * 256 + b2n x.streamCtx * 32768
    + x.address % 128 * 65536 + x.endpoint % 16 * 16777216 + x.speed % 8 * 268435456 + b2n x.haltCause * 2147483648
  let w1 := x.tenant % 128 + x.budget % 16 * 256 + x.replays % 16 * 4096 + x.maxPacket % 2048 * 65536
  let w2 := x.burst % 16 + x.mult % 4 * 16 + x.interval % 16 * 64 + b2n x.toggle * 1024 + x.seq.toNat * 2048
    + x.stream % 65536 * 65536
  let acc := match x.queue with
    | k :: _ => k % 281474976710656
    | [] => 0
  let qa := fun (o : Option Nat) => match o with | some k => Config.itemAddr k % 67108863 + 1 | none => 0
  [w0, w1, w2, x.link % 1048576, x.bytesPerInterval, x.split % 65536, x.phase % 32768 + x.order % 256 * 65536,
    x.nextDue.toNat, qa x.queue.head?, qa x.queue.getLast?, acc % 4294967296, acc / 4294967296, x.itemDone.toNat,
    (if x.reissueLen = 0 then 0 else Config.itemAddr n % 131072) + x.reissueLen % 32768 * 131072, x.replaysTotal.toNat, 0].map (BitVec.ofNat 32)

end Sys2Proof.Machine
end

