-- ==== Sys2Proof/Machine/Xact.lean ====
section
/-!
DEFINITION. The levels of the port FIFOs and the transit area, the buffers of a gallery translator, and what the end of a
transaction does to its item and pipe (07 R209, R212 to R221, R227, R228; 08 R240, R243; 12 R329 to R332).
-/
namespace Sys2Proof.Machine

/-! ### Levels of the port FIFO and the transit area -/

/-- The sum of a list of numbers. -/
def sumOf (l : List Nat) : Nat := l.foldl (· + ·) 0

/-- Bytes of an IN data record that came from port `p`. -/
def HubRec.inBytes (p : Nat) : HubRec → Nat
  | .inData q _ _ d => if q = p then d.length else 0
  | _ => 0

/-- IN data of a port that waits for the upstream, in bytes (07 R233, 12 R329). -/
def State.inWaiting (s : State) (p : Nat) : Nat :=
  sumOf (s.sess.map (fun e => sumOf ((e.2.perQueue ++ e.2.txQueue).map (HubRec.inBytes p))))

/-- The shared part of the transit area in bytes (12 R329). -/
def State.transitShared (s : State) : Nat :=
  (65536 - s.cfg 0x2203 1 - s.cfg 0x2205 2 - s.cfg 0x2302 0 - s.cfg 0x2400 1 - 1536 - 512) * 1024

/-- What one port may hold of the shared part (12 R330). -/
def State.transitShare (s : State) : Nat := s.transitShared * s.cfg 0x2030 3 / 100

/-- What a port may hold in the transit area: its guarantee and its share of the shared part (12 R330). -/
def State.transitLimit (s : State) : Nat := 8192 + s.transitShare

/-- What a port's waiting IN data must have of the shared part: all that neither its guarantee nor its FIFO holds (12 R328, R329). -/
def State.transitMust (s : State) (p : Nat) : Nat := s.inWaiting p - 139264

/-- What a port's waiting IN data would fill of the shared part beyond that (12 R330; 07 R233). -/
def State.transitMore (s : State) (p : Nat) : Nat := min (s.inWaiting p - 8192) s.transitShare - s.transitMust p

/-- Bytes of the transit area a port holds: its guarantee, then what is free of the shared part, lower-numbered ports first; the rest of
its waiting IN data is in its FIFO (12 R329 to R331; log entry 22). -/
def State.transitOf (s : State) (p : Nat) : Nat :=
  let must := sumOf (allPorts.map s.transitMust)
  let before := sumOf ((allPorts.filter (fun q => decide (q < p))).map s.transitMore)
  min (s.inWaiting p) 8192 + s.transitMust p + min (s.transitMore p) (s.transitShared - must - before)

/-- 64-byte lines in the IN half of a port's FIFO (12 R340). -/
def State.fifoIn (s : State) (p : Nat) : Nat := ceilDiv (s.inWaiting p - s.transitOf p) 64

/-- OUT data of a port's items that waits for the bus, in bytes. -/
def State.outWaiting (s : State) (p : Nat) : Nat :=
  sumOf ((s.items.filter (fun e => decide (e.2.op = 0x30) && decide (s.itemPort e.2 = p))).map (fun e => e.2.outData.length))

/-- 64-byte lines in the OUT half of a port's FIFO, at most 126 KiB (12 R328, R340). -/
def State.fifoOut (s : State) (p : Nat) : Nat := ceilDiv (min (s.outWaiting p) 129024) 64

/-- KiB of the transit area in use (12 R340 TRANSIT_LVL): IN data waiting, and the data of Vault items in flight. -/
def State.transitUsed (s : State) : Nat :=
  ceilDiv (sumOf (allPorts.map s.transitOf) + sumOf (s.vault.cmds.map (fun e => e.2.data.length))) 1024

/-- Whether there is room for `n` more bytes of a port's IN data: in its guarantee, its FIFO, its share of the shared part, and what
other ports leave of that part (07 R226; 12 R329, R330). -/
def State.inRoom (s : State) (p n : Nat) : Bool :=
  let must := s.inWaiting p + n - 139264
  decide (must = 0) || (decide (must ≤ s.transitShare) &&
    decide (sumOf ((allPorts.filter (· ≠ p)).map s.transitMust) + must ≤ s.transitShared))

/-- The sticky peaks follow the levels, and data that must wait on the shared part sets TRANSIT_WAIT (12 R331, R332). -/
def State.levels (s : State) (p : Nat) : State :=
  let s := s.modFifo p (fun f => { f with inPeak := max f.inPeak (s.fifoIn p), outPeak := max f.outPeak (s.fifoOut p) })
  let s := s.modMem (fun m => { m with peak := max m.peak s.transitUsed })
  if s.transitOf p < s.inWaiting p then s.memEvent 8 else s

/-! ### Non-periodic buffers of a gallery translator -/

/-- Whether a pipe's splits take a non-periodic buffer. -/
def Pipe.np (x : Pipe) : Bool := decide (x.split % 4 = 1) && (decide (x.typ = 0) || decide (x.typ = 2))

/-- The non-periodic buffers port `q` holds (08 R240). -/
def Gallery.npOf (g : Gallery) (q : Nat) : Nat := (g.npHeld.filter (fun e => decide (e.1 = q))).length

/-- How far a port stands after the one that took a shared buffer last (08 R240). -/
def Gallery.npRank (g : Gallery) (q : Nat) : Nat := (q + 7 - g.npTurn % 8) % 8

/-- The ports of a gallery whose splits wait for a buffer they may hold, in round-robin order (08 R240). -/
def State.npWaiters (s : State) (gal : Nat) : List Nat :=
  let g := s.getGals gal
  let ports := (portsOfGal gal).filter (fun q =>
    decide (g.npOf q < s.cfg 0x3000 gal) && g.npWaiting.any (fun n => decide ((s.getPipes n).port = q)))
  (List.range 8).flatMap (fun k => ports.filter (fun q => decide (g.npRank q = k)))

/-- Whether port `p` may take a non-periodic buffer: its guaranteed one, or a shared one below its cap, when no waiting port has the
turn before it (08 R240). -/
def State.npFree (s : State) (p : Nat) : Bool :=
  let g := s.getGals (galOf p)
  let shared := sumOf ((portsOfGal (galOf p)).map (fun q => g.npOf q - 1))
  decide (g.npOf p < s.cfg 0x3000 (galOf p)) && (decide (g.npOf p = 0) ||
    (decide (shared < 8) && (s.npWaiters (galOf p)).all (fun q => decide (g.npOf q = 0) || decide (g.npRank p ≤ g.npRank q))))

/-- A non-periodic buffer taken by port `p` for context `n`; a shared one moves the round-robin (08 R240, R255). -/
def State.npTake (s : State) (p n : Nat) : State :=
  s.modGals (galOf p) (fun g => { g with
    npHeld := g.npHeld ++ [(p, n)]
    npPeak := max g.npPeak (g.npHeld.length + 1)
    npTurn := if g.npOf p = 0 then g.npTurn else p
    npWaiting := g.npWaiting.filter (· ≠ n) })

/-- A split that finds no buffer waits and is counted once (08 R240, R255 NP_WAITS). -/
def State.npWait (s : State) (p n : Nat) : State :=
  s.modGals (galOf p) (fun g =>
    if g.npWaiting.contains n then g
    else { g with npWaiting := g.npWaiting ++ [n], npWaits := min 255 (g.npWaits + 1) })

/-- A list without its first `a`. -/
def dropFirst (a : Nat × Nat) : List (Nat × Nat) → List (Nat × Nat)
  | [] => []
  | b :: t => if a = b then t else b :: dropFirst a t

/-- The buffer of a split returned (08 R240). -/
def State.npGive (s : State) (p n : Nat) : State :=
  s.modGals (galOf p) (fun g => { g with npHeld := dropFirst (p, n) g.npHeld })

/-! ### Toggles, replays and packet boundaries -/

/-- Packets of `b` bytes on a pipe, an empty one included (07 R224). -/
def Pipe.packets (x : Pipe) (b : Nat) : Nat := max 1 (ceilDiv b (max 1 x.maxPacket))

/-- Whether a run of packets of `b` bytes ends short: its last packet is not a full one. -/
def Pipe.shortRun (x : Pipe) (b : Nat) : Bool := decide (b = 0) || decide (b % max 1 x.maxPacket ≠ 0)

/-- Toggle or sequence number advanced by `k` packets (07 R213, R218). -/
def State.advance (s : State) (n k : Nat) : State :=
  s.modPipes (s.parent n) (fun x =>
    if x.super then { x with seq := x.seq + BitVec.ofNat 5 k } else { x with toggle := if k % 2 = 1 then !x.toggle else x.toggle })

/-- Packets a pipe has moved in this microframe (07 R225). -/
def PortUsb.moved (u : PortUsb) (n : Nat) : Nat :=
  match u.burst.find? (fun e => decide (e.1 = n)) with
  | some e => e.2
  | none => 0

/-- Packets moved are counted for the pipe's bulk burst cap and for the service it is in (07 R222, R225). -/
def State.bump (s : State) (n k : Nat) : State :=
  let x := s.getPipes n
  let m := s.parent n
  if x.typ = 2 then
    s.modUsb x.port (fun u => { u with burst := (m, u.moved m + k) :: u.burst.filter (fun e => decide (e.1 ≠ m)) })
  else if x.typ = 3 then s.modPipes n (fun x => { x with svc := x.svc + k })
  else s

/-- Replays of a repaired transaction counted; none goes to a tenant (07 R217, R220, R234, R235). -/
def State.repaired (s : State) (n : Nat) : State :=
  let x := s.getPipes n
  if x.replays = 0 then s
  else
    let s := s.modPipes n (fun x => { x with replays := 0, replaysTotal := satAdd x.replaysTotal x.replays })
    s.modUsb x.port (fun u => { u with
      replays := satAdd u.replays x.replays, replaysTotal := satAdd u.replaysTotal x.replays })

/-- A transaction whose budget is used up, counted (07 R217, R234, R235). -/
def State.spent (s : State) (p : Nat) : State :=
  s.modUsb p (fun u => { u with exhausted := satAdd u.exhausted 1, exhaustedTotal := satAdd u.exhaustedTotal 1 })

/-- An item whose cause has arisen ends at this packet boundary (05 R159); the items of a session in Ending end together (05 R147). -/
def State.boundary (s : State) (k : Nat) : State :=
  match s.item? k with
  | some i => (match i.cause with
    | some c => if (s.getSess i.sess).state = .ending ∧ i.principal ≠ hubPrincipal then s else s.finish k c.1 c.2
    | none => s)
  | none => s

/-- The end of a service of a periodic pipe in microframe `c`: the next interval of a Steady pipe, one period later otherwise (07 R204
NEXT_DUE, R207, R222). -/
def State.served (s : State) (n : Nat) : State :=
  let x := s.getPipes n
  let c := s.portCount x.port
  if x.typ = 1 ∨ x.typ = 3 then
    let due := if x.cls = 1 then (c / 2 ^ x.interval + 1) * 2 ^ x.interval else c + 2 ^ x.interval
    s.modPipes n (fun x => { x with nextDue := BitVec.ofNat 32 due, svc := 0 })
  else s

/-- The service of an interrupt pipe goes on until it has moved (BURST + 1) × (MULT + 1) packets or a short one (07 R206, R222). -/
def State.serviceOver (s : State) (n : Nat) (short : Bool) : State :=
  let x := s.getPipes n
  if x.typ = 3 ∧ (short = true ∨ (x.burst + 1) * (x.mult + 1) ≤ x.svc) then s.served n else s

/-! ### What a result does to an item -/

/-- The completion body of an isochronous item: outcome and bytes of each packet (05 R153). -/
def isoBody (l : List (Nat × Nat)) : Bytes := l.flatMap (fun d => natBE 4 (d.1 % 256 * 65536 + d.2 % 65536))

/-- An isochronous packet's outcome recorded; after the last one the item ends, `MISSED` where any packet was (05 R153,
R159). -/
def State.isoPacket (s : State) (k out bytes : Nat) : State :=
  let s := s.modItems k (fun i => { i with isoDone := i.isoDone ++ [(out, bytes)] })
  match s.item? k with
  | some i =>
    if i.isoPackets ≤ i.isoDone.length then
      s.finishB k (if i.isoDone.any (fun d => decide (d.1 ≠ 0)) then 5 else 0) 0 (isoBody i.isoDone)
    else s
  | none => s

/-- IN data accepted from the bus goes to the item's session while that is live, and is discarded otherwise (05 R148,
R155); periodic data waits apart from the rest (07 R231, R233). -/
def State.inArrived (s : State) (k p : Nat) (d : Bytes) : State :=
  match s.item? k with
  | none => s
  | some i =>
    let off := i.moved
    let s := s.modItems k (fun i => { i with moved := i.moved + d.length })
    if i.principal = hubPrincipal then
      s.modItems k (fun i => { i with
        arrived := if i.outData = [] then s.now else i.arrived
        blocks := if i.outData = [] then s.portCount p else i.blocks
        outData := i.outData ++ d })
    else if (s.getSess i.sess).live ∧ d ≠ [] then
      (s.modSess i.sess (Session.pushItem (s.periodicItem i) (.inData p i.acc off d))).levels p
    else s

/-- The Registrar reads the configuration descriptor of configuration `v` after a successful SET_CONFIGURATION other than 0, and the
device's control pipes wait for it; its index is taken as v - 1 (07 R214; log entry 22). -/
def State.readMap (s : State) (p a v : Nat) : State :=
  let e : Enum := { parent := 0, parentPort := 0, depth := 0, speed := .none, prev := 0, addr := a, step := .mapRead,
                    tries := 0, desc := [], serial := [], ports := 0, multiTt := false, think := 0 }
  (s.modUsb p (fun u => { u with enums := u.enums ++ [e] })).ask p a 2 [0x80, 0x06, BitVec.ofNat 8 (v - 1), 0x02, 0x00, 0x00, 0xFF, 0xFF]

/-- A device of a tree changed. -/
def State.modDevice (s : State) (p a : Nat) (f : Device → Device) : State :=
  s.modUsb p (fun u => { u with devices := u.devices.map (fun d => if d.addr = a then f d else d) })

/-- Whether a pipe serves the endpoint that wIndex names; endpoint 0 has one pipe for both directions (07 R212). -/
def Pipe.serves (x : Pipe) (wIndex : Nat) : Bool :=
  decide (x.endpoint = wIndex % 16) && (decide (x.typ = 0) || decide (b2n x.dirIn = wIndex / 128 % 2))

/-- The status stage of a control transfer succeeded: resynchronisations and the restore record (07 R212, R214; 06
R188). -/
def State.statusDone (s : State) (p a : Nat) (rq : Bytes) : State :=
  let wIndex := leNat (slice rq 4 2)
  let all := s.devicePipes p a
  if rq.take 2 = [0x00, 0x09] then
    let s := s.modDevice p a (fun d => { d with requests := [rq], map := [] })
    let s := (all.filter (fun n => decide ((s.getPipes n).endpoint ≠ 0))).foldl (fun s n => s.resync n 0) s
    if slice rq 2 2 = [0, 0] then s else s.readMap p a (leNat (slice rq 2 1))
  else if rq.take 2 = [0x01, 0x0B] then
    let eps : List Nat := match (s.getUsb p).device? a with
      | some d => (d.map.filter (fun (e : EpDesc) => decide (e.iface = wIndex))).map (fun (e : EpDesc) => e.ep)
      | none => []
    let s := s.modDevice p a (fun d => { d with
      requests := d.requests.filter (fun q => !(decide (q.take 2 = [0x01, 0x0B]) && decide (slice q 4 2 = slice rq 4 2)))
        ++ [rq] })
    (all.filter (fun n => eps.any (fun e => (s.getPipes n).serves e))).foldl (fun s n => s.resync n 0) s
  else if rq.take 2 = [0x02, 0x01] ∧ slice rq 2 2 = [0, 0] then
    (all.filter (fun n => (s.getPipes n).serves wIndex)).foldl (fun s n => s.resync n 0) s
  else s

/-- The stage after a control transfer's present one (07 R209). -/
def nextStage (i : Item) : Nat := if i.stage = 0 ∧ i.length ≠ 0 then 1 else 2

/-- The outcome of a control transfer whose status stage succeeded (05 R159). -/
def controlOut (i : Item) : Nat := if i.isIn && decide (i.moved < i.length) && !i.shortOk then 1 else 0

/-- Bytes of an item counted as moved on its pipe (07 R204 ITEM_DONE). -/
def State.itemMoved (s : State) (n b : Nat) : State :=
  s.modPipes n (fun x => { x with itemDone := x.itemDone + BitVec.ofNat 32 b })

/-- A transaction of a control transfer accepted: setup, OUT data or status (07 R209, R212). -/
def State.controlAck (s : State) (n k : Nat) (i : Item) (b : Nat) : State :=
  let x := s.getPipes n
  if i.stage = 0 then
    (s.modItems k (fun i => { i with stage := nextStage i })).modPipes n (fun x =>
      if x.super then { x with seq := 0 } else { x with toggle := true })
  else if i.stage = 1 then
    let s := ((s.advance n 1).itemMoved n b).modItems k (fun i => { i with moved := i.moved + b, outData := i.outData.drop b })
    s.modItems k (fun i => if i.length ≤ i.moved then { i with stage := 2 } else i)
  else (s.finish k (controlOut i) 0).statusDone x.port x.address i.setup

/-- Whether an OUT item is done after packets of `b` bytes (05 R153 ZLP). -/
def outDone (x : Pipe) (i : Item) (b : Nat) : Bool :=
  decide (i.length ≤ i.moved) &&
    (!i.zlp || x.shortRun b || decide (i.length = 0))

/-- OUT packets accepted by the device (07 R209, R217). -/
def State.outAck (s : State) (n k : Nat) (b : Nat) : State :=
  let x := s.getPipes n
  let s := ((s.advance n (x.packets b)).bump n (x.packets b)).modItems k (fun i => { i with
    moved := i.moved + b, outData := i.outData.drop b })
  let s := ((s.itemMoved n b).modPipes n (fun x => { x with flow := .ready })).serviceOver n (x.shortRun b)
  match s.item? k with
  | some i => if outDone x i b then s.finish k 0 0 else s
  | none => s

/-- IN packets with the expected toggle or sequence number (07 R209, R218; 05 R159 DONE_SHORT). -/
def State.inAck (s : State) (n k : Nat) (d : Bytes) : State :=
  let x := s.getPipes n
  let pk := x.packets d.length
  let s := ((s.advance n pk).bump n pk).inArrived k x.port d
  let s := ((s.itemMoved n d.length).modPipes n (fun x => { x with flow := .ready })).serviceOver n (x.shortRun d.length)
  match s.item? k with
  | none => s
  | some i =>
    if x.typ = 0 then
      if i.length ≤ i.moved ∨ x.shortRun d.length = true then s.modItems k (fun i => { i with stage := 2 }) else s
    else if i.length ≤ i.moved then s.finish k 0 0
    else if x.shortRun d.length then s.finish k (if i.shortOk then 0 else 1) 0
    else s

/-- An Open pipe halts; any other keeps its state (07 R209). -/
def State.halt (s : State) (n : Nat) (budget : Bool) : State :=
  if (s.getPipes (s.parent n)).state = .opened then
    s.modGroup (s.parent n) (fun x => { x with state := .halted, haltCause := budget, replays := 0 })
  else s

/-- A transaction error: re-issued within the budget, the item failed beyond it (07 R217, R219 to R221; 08 R243). -/
def State.xactError (s : State) (n k : Nat) (i : Item) : State :=
  let x := s.getPipes n
  if x.typ = 1 then s.isoPacket k 5 0
  else if x.budget ≤ x.replays then (((s.clearTt n).halt n true).spent x.port).finish k 0x04 0x20
  else if i.cause ≠ none then (s.modPipes n (fun x => { x with replays := 0 })).boundary k
  else s.modPipes n (fun x => { x with replays := x.replays + 1 })

/-- STALL (07 R209). -/
def State.xactStall (s : State) (n k : Nat) : State :=
  let x := s.getPipes n
  if x.typ = 0 then s.finish k 0x02 0 else (s.halt n false).finish k 0x02 0

/-- The toggle or sequence number expected next on a pipe (07 R218). -/
def State.expected (s : State) (n : Nat) : Nat :=
  let x := s.seqPipe n
  if x.super then x.seq.toNat else b2n x.toggle

/-- Flow control by the device: NRDY waits for ERDY, NAK sends a high-speed bulk OUT pipe to PING; a periodic pipe's service is over
(07 R227). -/
def State.xactWait (s : State) (n : Nat) (nrdy : Bool) : State :=
  let x := s.getPipes n
  let f : Flow := if nrdy then .nrdy else if x.typ = 2 ∧ x.dirIn = false ∧ x.speed = 3 ∧ x.split % 4 = 0 then .ping else x.flow
  (s.modPipes (s.parent n) (fun x => { x with flow := f })).served n

/-- The device moves a pipe to a stream, which is served next, or ended with NoStream where no item of it waits (07 R228). -/
def State.streamMove (s : State) (n stream : Nat) : State :=
  let m := s.parent n
  let s := s.modPipes m (fun x => { x with flow := .ready })
  let q := s.queueOf m stream
  if (s.getPipes q).queue = [] then s.emit (.xact m 3 stream)
  else (s.modPipes m (fun x => { x with devStream := stream })).modPipes q (fun x => { x with erdy := true })

/-- Bytes of an issued run of packets that the device accepted (07 R224). -/
def Pipe.accepted (x : Pipe) (b got : Nat) : Nat := if b ≤ x.maxPacket then b else min b got

/-- What the end of a transaction does to the item in progress (07 R209, R216 to R228). A packet repeated for want of its
acknowledgement is discarded before its length is looked at. -/
def State.xactResult (s : State) (n k : Nat) (i : Item) (b : Nat) (r : XactRes) : State :=
  let x := s.getPipes n
  match r with
  | .ack got =>
    let s := s.repaired n
    if x.flow = .ping then s.modPipes n (fun x => { x with flow := .ready })
    else if x.typ = 0 then s.controlAck n k i b
    else if x.typ = 1 then
      (((s.served n).itemMoved n b).modItems k (fun i => { i with
        moved := i.moved + b
        outData := i.outData.drop (i.isoDone.length * x.bytesPerInterval + b - (i.outNext - i.outData.length)) })).isoPacket k 0 b
    else s.outAck n k (x.accepted b got)
  | .data q d =>
    if x.typ = 1 then
      if b < d.length then (s.served n).isoPacket k 3 0
      else (((s.served n).inArrived k x.port d).itemMoved n d.length).isoPacket k 0 d.length
    else if x.typ = 0 ∧ i.stage = 2 then ((s.repaired n).finish k (controlOut i) 0).statusDone x.port x.address i.setup
    else if q ≠ s.expected n then s
    else if b < d.length then s.finish k 0x03 0
    else (s.repaired n).inAck n k d
  | .nak => s.xactWait n false
  | .nrdy => s.xactWait n true
  | .stall => s.xactStall n k
  | .error => s.xactError n k i
  | .babble => if x.typ = 1 then (s.served n).isoPacket k 3 0 else s.finish k 0x03 0
  | .move stream => s.streamMove n stream

/-- What the end of a poll of an external hub's interrupt pipe does to it; the change it reports is a command of its own (06 R180; 07
R217, R227). -/
def State.hubPolled (s : State) (n : Nat) (r : XactRes) : State :=
  let x := s.getPipes n
  match r with
  | .data q _ => if q = s.expected n then ((s.repaired n).advance n 1).served n else s
  | .error =>
    if x.budget ≤ x.replays then ((s.spent x.port).modPipes n (fun x => { x with replays := 0 })).served n
    else s.modPipes n (fun x => { x with replays := x.replays + 1 })
  | .nrdy => s.xactWait n true
  | _ => s.served n

/-- A transaction is over: its buffer is free, its result goes to the item, a cause that has arisen ends the item at this boundary, and
an owed resynchronisation takes effect (07 R209 to R226). -/
def State.xactOver (s : State) (n : Nat) (r : XactRes) : State :=
  let x := s.getPipes n
  let b := x.reissueLen
  let s := s.modPipes n (fun x => { x with
    inXact := false, reissueLen := 0, ssFrame := none, ssSent := 0, csFrame := none, wireRes := none })
  let s := s.modUsb x.port (fun u => { u with inFlight := u.inFlight.filter (· ≠ n) })
  let s := if x.np then s.npGive x.port n else s
  let s := match x.queue.head? with
    | some k => (match s.item? k with
      | some i => (s.xactResult n k i b r).boundary k
      | none => s)
    | none => if x.tenant = 127 then s.hubPolled n r else s
  s.takeResync (s.parent n)

end Sys2Proof.Machine
end

