-- ==== Sys2Proof/Machine/Schedule.lean ====
section
/-!
DEFINITION. Serving a port: what is ready in a microframe, the choice of the next transaction, its issue and its end (07 R217 to
R230; 08 R238 to R242).
-/
namespace Sys2Proof.Machine

/-! ### What is ready -/

/-- (a - b) mod 2^32 below 2^31: count `a` is at or after count `b` (09 R261). -/
def countAt (a b : Nat) : Bool := decide ((a + 4294967296 - b % 4294967296) % 4294967296 < 2147483648)

/-- Microframes from count `a` to count `b` (09 R261). -/
def countFrom (a b : Nat) : Nat := (b + 4294967296 - a % 4294967296) % 4294967296

/-- The microframe of the next packet of an isochronous item, or the start of its interval on a Steady pipe (07 R223, R229). -/
def isoFrame (x : Pipe) (i : Item) : Nat := (x.isoBase i.isoStart + i.isoDone.length * 2 ^ x.interval) % 4294967296

/-- Whether an isochronous packet is due in microframe `c`: in its own on a Prompt pipe, in its interval and not before ISO_START on a
Steady one (07 R222, R223, R229). -/
def isoDue (x : Pipe) (i : Item) (c : Nat) : Bool :=
  let f := isoFrame x i
  if x.cls = 0 then decide (c % 4294967296 = f)
  else countAt c f && countAt c i.isoStart && !(countAt c (f + 2 ^ x.interval))

/-- Whether an interrupt pipe is due in microframe `c`: a Prompt pipe in its PHASE, any other once its next service has come (07 R207,
R222, R223). -/
def Pipe.due (x : Pipe) (c : Nat) : Bool :=
  (decide (x.cls ≠ 0) || decide (c % 2 ^ x.interval = x.phase % 2 ^ x.interval)) && countAt c x.nextDue.toNat

/-- Packets of a SuperSpeed burst, one on any other pipe (07 R224). -/
def Pipe.burstMax (x : Pipe) : Nat := if x.super ∧ (x.typ = 2 ∨ x.typ = 3) then x.burst + 1 else 1

/-- The next transaction of a queued item: its stage (0 setup, 1 data, 2 status) and the bytes it has for it, at most a burst; none where
it has nothing to send yet (07 R209, R226; 05 R154). -/
def nextXact (x : Pipe) (i : Item) : Option (Nat × Nat) :=
  let left := i.length - i.moved
  if x.typ = 0 then
    if i.stage = 0 then some (0, 8)
    else if i.stage = 1 then
      let n := min x.maxPacket left
      if i.isIn ∨ n ≤ i.outData.length then some (1, n) else none
    else some (2, 0)
  else if x.typ = 1 then
    let off := i.isoDone.length * x.bytesPerInterval
    let n := min x.bytesPerInterval (i.length - off)
    if i.isIn ∨ off + n ≤ i.outNext then some (1, n) else none
  else
    let n := min (x.maxPacket * x.burstMax) left
    let have_ := if left ≤ i.outData.length then n else min n (i.outData.length / max 1 x.maxPacket * x.maxPacket)
    if i.isIn then some (1, n) else if have_ = 0 ∧ left ≠ 0 then none else some (1, have_)

/-- Bus time of `b` bytes of a pipe, ns (08 R244). -/
def Pipe.busTime (x : Pipe) (b : Nat) : Nat :=
  if x.super then 300 + ceilDiv ((b + 40 * x.packets b) * byteTime80 x.speed) 80
  else ceilDiv (b * 175 + 9 * (if x.typ = 1 then 900 else 1200)) 9

/-- Bus time of a transaction: none of the microframe for a split of a gallery translator; the OUT data with a start-split to an
external translator, the IN data with a complete-split (08 R238, R242, R244). -/
def Pipe.cost (x : Pipe) (st b : Nat) : Nat :=
  if x.split % 4 = 1 then 0
  else if x.split % 4 = 2 then x.busTime (if decide (st = 4) = x.dirIn then b else 0)
  else x.busTime (if st = 5 then 0 else b)

/-- Time left in a port's microframe: what its transactions have not used, and what has not passed (07 R222, R224). -/
def State.timeLeft (s : State) (p : Nat) : Nat :=
  let left := (s.getUsb p).busLeft
  if (s.getFt p).running then min left (125000 - (s.now - (s.getFt p).began)) else left

/-- Whether the interface map of a device is being read, which holds its control pipes (07 R214). -/
def PortUsb.mapPending (u : PortUsb) (a : Nat) : Bool :=
  u.enums.any (fun e => decide (e.step = .mapRead) && decide (e.addr = a))

/-- Whether a port's bus carries transactions: Enabled with its link trained, tRSTRCY over, no package-safe-stop, and its wing link
not retraining (01 R22; 06 R174; 07 R230; 16 R409). -/
def State.busUp (s : State) (p : Nat) : Bool :=
  let u := s.getUsb p
  decide (u.state = .enabled) && decide (u.speed ≠ .none) && decide (u.resetKind = .none) && !u.timebaseFrom && !s.flt.safeStop &&
    !(s.dieLink (wingOf p)).retraining

/-- Whether the port's tenant pipes may be served: its bus is up, its tree not held, the loan not Paused (07 R230, 16 R409). -/
def State.mayServe (s : State) (p : Nat) : Bool :=
  s.busUp p && !(s.getUsb p).hold && decide ((s.getTenants (s.getUsb p).loanOwner).loan ≠ .paused)

/-- Whether a split's complete-split is due: at the gallery translator from the microframe after the result arose, at an external one
in the microframes of clause 11.18, and for a control or bulk pipe once its result is there (08 R238, R242). -/
def State.csDue (s : State) (x : Pipe) (c : Nat) : Bool :=
  match x.ssFrame with
  | none => false
  | some f =>
    let u := s.getUsb x.port
    if x.inXact = false then false
    else if x.typ = 0 ∨ x.typ = 2 then x.wireRes.isSome
    else if x.split % 4 = 1 then x.wireRes.isSome && countAt c (x.wireAt + 1)
    else decide (2 ≤ countFrom f c) && decide (x.csFrame ≠ some c) && (x.wireRes.isSome ||
      (x.completeSplits (!(u.chain x.address).isEmpty) (u.thinkOf x)).contains (countFrom f c))

/-- Whether an isochronous OUT packet to an external translator has a further start-split due, at most 188 bytes in each microframe (08
R242). -/
def Pipe.moreOut (x : Pipe) (c : Nat) : Bool :=
  match x.ssFrame with
  | some f => x.inXact && decide (x.split % 4 = 2) && decide (x.ssSent < x.reissueLen) && decide (countFrom f c = ceilDiv x.ssSent 188)
  | none => false

/-- Whether a split of port `p` finds a slot: a periodic one among the port's own, any other among those no port has reserved or used
(08 R239; log entry 22). -/
def State.slotFree (s : State) (p : Nat) (periodic : Bool) : Bool :=
  if periodic then decide ((s.getUsb p).slots < s.cfg 0x4040 p)
  else
    let g := s.getGals (galOf p)
    let used := if g.slotWin = s.now / 125000 then g.npSlots else 0
    decide (used + sumOf ((portsOfGal (galOf p)).map (fun q => max (s.slotsReserved q) (s.getUsb q).slots)) < 48)

/-- Whether a Prompt transaction of the frame in which a start-split in microframe `c` reaches the wire still comes: a Steady one
follows it (08 R238). -/
def State.promptAhead (s : State) (p c : Nat) : Bool :=
  s.pipes.any (fun e => decide (e.2.port = p) && decide (e.2.state = .opened) && decide (e.2.cls = 0) && decide (e.2.split % 4 = 1) &&
    (List.range 7).any (fun k => decide ((c + k + 2) / 8 = (c + 1) / 8) &&
      decide ((c + k + 1) % 2 ^ e.2.interval = e.2.phase % 2 ^ e.2.interval)))

/-- The runs that may carry `n` bytes: all of them, and on a pipe with bursts any fewer whole packets, longest first (07 R224). -/
def Pipe.cuts (x : Pipe) (n : Nat) : List Nat :=
  if x.burstMax = 1 then [n] else (List.range (x.packets n)).map (fun k => min n ((x.packets n - k) * x.maxPacket))

/-- The longest run of packets of at most `n` bytes that fits the time left and, for IN data, the port FIFO (07 R224, R226). -/
def State.fitRun (s : State) (x : Pipe) (isIn : Bool) (st n left : Nat) : Option Nat :=
  (x.cuts n).find? (fun b =>
    decide (x.cost st b ≤ left) && (!(isIn && decide (st = 1)) || s.inRoom x.port b))

/-- The next transaction of the item at the head of context `n` in microframe `c`, if it may start (07 R214, R222 to R228; 05 R159). -/
def State.readyItem (s : State) (x : Pipe) (k c : Nat) : Option (Nat × Nat) :=
  match s.item? k with
  | none => none
  | some i =>
    let u := s.getUsb x.port
    let path := x.split % 4
    if i.cause ≠ none ∨ (x.typ = 0 ∧ u.mapPending x.address = true) then none
    else if (x.typ = 1 ∧ isoDue x i c = false) ∨ (x.typ = 3 ∧ x.due c = false) then none
    else if path = 1 ∧ s.slotFree x.port (decide (x.typ % 2 = 1)) = false then none
    else if path = 1 ∧ x.typ % 2 = 1 ∧ x.cls = 1 ∧ s.promptAhead x.port c = true then none
    else match nextXact x i with
      | none => none
      | some (st, n) =>
        if x.flow = .ping ∧ x.typ = 2 then (if x.cost 5 0 ≤ s.timeLeft x.port then some (5, 0) else none)
        else (s.fitRun x i.isIn st n (s.timeLeft x.port)).map (fun b => (st, b))

/-- The transaction of context `n` that is ready in microframe `c`: of a split in progress, a further start-split (stage 6) or its
complete-split (stage 4); of an idle pipe, the next of its item, or the poll of an external hub (07 R222 to R230; 08 R238 to R242). -/
def State.ready (s : State) (n : Nat) (x : Pipe) (c : Nat) : Option (Nat × Nat) :=
  let left := s.timeLeft x.port
  let group := s.getPipes (s.parent n)
  if x.inXact then
    if x.moreOut c ∧ x.cost 6 188 ≤ left then some (6, min 188 (x.reissueLen - x.ssSent))
    else if s.csDue x c ∧ x.cost 4 x.reissueLen ≤ left ∧
        (x.split % 4 ≠ 1 ∨ s.slotFree x.port (decide (x.typ % 2 = 1)) = true) then some (4, x.reissueLen)
    else none
  else if x.state ≠ .opened ∨ x.flow = .nrdy ∨ group.flow = .nrdy then none
  else if x.streamCtx = true ∧ (s.groupBusy x.link = true ∨ (group.devStream ≠ 0 ∧ group.devStream ≠ x.stream)) then none
  else if x.tenant = 127 then
    if s.busUp x.port ∧ x.typ = 3 ∧ x.due c = true ∧ x.cost 1 x.maxPacket ≤ left ∧
        (x.split % 4 ≠ 1 ∨ s.slotFree x.port true = true) then some (1, x.maxPacket)
    else none
  else match x.queue with
    | k :: _ => if s.mayServe x.port then s.readyItem x k c else none
    | [] => none

/-- The serving step of R222 a pipe belongs to: 1 Prompt, 2 Steady, 3 repeats of periodic transactions, 4 control and pipes released by
ERDY, 5 bulk and Bulk-class interrupt (07 R222, R227). -/
def Pipe.step (x : Pipe) : Nat :=
  if x.typ = 0 then 4
  else if x.typ = 2 ∨ x.cls = 2 then (if x.erdy then 4 else 5)
  else if x.replays ≠ 0 then 3
  else if x.cls = 0 then 1
  else 2

/-- A round-robin key: how far a pipe stands after the one served last (07 R222). -/
def afterKey (last n : Nat) : Nat := (n + 1048576 - last % 1048576 - 1) % 1048576

/-- The rank of a ready pipe within its step: ORDER, the earliest end of interval, a release by ERDY, the round-robin, pipes that used
up the bulk burst cap last (07 R222, R225, R227). -/
def State.rankOf (s : State) (u : PortUsb) (n : Nat) (x : Pipe) (c : Nat) : Nat :=
  if x.step = 1 then x.order
  else if x.step = 2 ∨ x.step = 3 then 2 ^ x.interval - c % 2 ^ x.interval
  else if x.erdy then 0
  else if x.step = 4 then afterKey u.rrCtl n + 1
  else (if s.cfg 0x4031 x.port ≤ u.moved (s.parent n) then 1048576 else 0) + afterKey u.rrNext n

/-- The Registrar's control context of a port (07 R201). -/
def regCtx (p : Nat) : Nat := p - 1

/-- The Registrar's next request to a device of the port, as stage 7 of its control context (07 R201, R222, R230; 06 R174). -/
def State.readyAsk (s : State) (p : Nat) : List (Nat × Nat × Nat × Nat × Nat) :=
  let u := s.getUsb p
  let n := regCtx p
  if u.requests = [] ∨ s.busUp p = false ∨ (s.getPipes n).inXact = true then []
  else [(4, afterKey u.rrCtl n + 1, n, 7, 0)]

/-- The ready transactions of a port with their step and rank. -/
def State.readyList (s : State) (p : Nat) : List (Nat × Nat × Nat × Nat × Nat) :=
  let u := s.getUsb p
  let c := s.portCount p
  s.readyAsk p ++ s.pipes.filterMap (fun e =>
    if e.2.port = p ∧ e.2.registrarCtl = false then
      (s.ready e.1 e.2 c).map (fun r => (e.2.step, s.rankOf u e.1 e.2 c, e.1, r.1, r.2))
    else none)

/-- The first of a list in the order of step and rank. -/
def firstOf : List (Nat × Nat × Nat × Nat × Nat) → Option (Nat × Nat × Nat × Nat × Nat)
  | [] => none
  | a :: t =>
    match firstOf t with
    | none => some a
    | some b => if a.1 < b.1 ∨ (a.1 = b.1 ∧ a.2.1 ≤ b.2.1) then some a else some b

/-! ### Issue -/

/-- Whether a ready transaction takes a non-periodic buffer: a control or bulk start-split, or a request of the Registrar on a port at
FS or LS (08 R240). -/
def State.needsNp (s : State) (p n st : Nat) : Bool :=
  if st = 7 then decide ((s.getUsb p).speed = .ls) || decide ((s.getUsb p).speed = .fs)
  else decide (st ≠ 4) && (s.getPipes n).np

/-- A slot of the split engine used by port `p` (08 R239). -/
def State.takeSlot (s : State) (p : Nat) (periodic : Bool) : State :=
  if periodic then s.modUsb p (fun u => { u with slots := u.slots + 1 })
  else
    let w := s.now / 125000
    s.modGals (galOf p) (fun g => { g with npSlots := (if g.slotWin = w then g.npSlots else 0) + 1, slotWin := w })

/-- What every transaction issued on a context uses: bus time, a slot, and the turn of its step; the link wakes (06 R196; 07 R222; 08
R239). -/
def State.useBus (s : State) (n st b : Nat) : State :=
  let x := s.getPipes n
  let s := s.modUsb x.port (fun u => { u with
    busLeft := u.busLeft - x.cost st b
    linkpm := 0
    rrCtl := if x.typ = 0 then n else u.rrCtl
    rrNext := if x.step = 5 then n else u.rrNext })
  let s := if x.split % 4 = 1 then s.takeSlot x.port (decide (x.typ % 2 = 1)) else s
  s.emit (.xact n st b)

/-- A transaction starts on context `n`: of a split the start-split, which leaves the bus free until its complete-split (07 R222, R225,
R230; 08 R238). -/
def State.startXact (s : State) (n st b : Nat) : State :=
  let x := s.getPipes n
  let path := x.split % 4
  let first := if path = 2 ∧ x.typ = 1 ∧ x.dirIn = false then min 188 b else b
  let s := s.useBus n st first
  let s := s.modPipes n (fun x => { x with
    inXact := true, reissueLen := b, erdy := false, ssSent := first
    ssFrame := if path ≠ 0 ∧ (s.getFt x.port).running = true then some (s.portCount x.port) else none })
  let s := if x.streamCtx then s.modPipes x.link (fun y => { y with devStream := 0 }) else s
  let s := if path = 0 then s.modUsb x.port (fun u => { u with inFlight := u.inFlight ++ [n] }) else s
  if x.np then s.npTake x.port n else s

/-- A request of the Registrar goes out on its control context; one that nothing waits for is done with (07 R201). -/
def State.sendAsk (s : State) (p : Nat) : State :=
  let u := s.getUsb p
  let n := regCtx p
  match u.requests with
  | [] => s
  | (a, setup, kind) :: rest =>
    let code := match u.device? a with | some d => speedCode d.speed | none => speedCode u.speed
    let x : Pipe := { Pipe.reset with
      state := .opened, typ := 0, cls := 2, port := p, address := a, speed := code, tenant := 127, budget := s.cfg 0x4030 p,
      maxPacket := if 4 ≤ code then 512 else if code = 3 then 64 else 8, split := u.splitOf (speedCode u.speed) a,
      inXact := decide (kind ≠ 0) }
    let s := if s.needsNp p n 7 && decide (kind ≠ 0) then s.npTake p n else s
    let s := s.setPipes n (if kind = 0 ∧ rest = [] then Pipe.reset else x)
    (s.modUsb p (fun u => { u with linkpm := 0, rrCtl := n, requests := if kind = 0 then rest else u.requests })).emit (.usb p a setup)

/-- A ready transaction of port `p` is issued; a complete-split that finds a result retrieves it (07 R222; 08 R238, R242). -/
def State.issue (s : State) (p n st b : Nat) : State :=
  if st = 7 then s.sendAsk p
  else if st = 6 then (s.useBus n 6 b).modPipes n (fun x => { x with ssSent := x.ssSent + b })
  else if st = 4 then
    match (s.getPipes n).wireRes with
    | some r => (s.useBus n 4 b).xactOver n r
    | none => (s.useBus n 4 b).modPipes n (fun x => { x with csFrame := some (s.portCount x.port) })
  else s.startXact n st b

/-- The scheduler of a port issues what is ready in the order of R222, one transaction at a time on the port's bus; a split leaves the
bus free, and one that finds no buffer waits (07 R222 to R226; 08 R238 to R240). -/
def State.schedule (s : State) (p : Nat) : Nat → State
  | 0 => s
  | f + 1 =>
    if (s.getUsb p).inFlight ≠ [] then s
    else
      let l := s.readyList p
      match firstOf (l.filter (fun r => !(s.needsNp p r.2.2.1 r.2.2.2.1) || s.npFree p)) with
      | none => l.foldl (fun s r => if s.needsNp p r.2.2.1 r.2.2.2.1 then s.npWait p r.2.2.1 else s) s
      | some r => (s.issue p r.2.2.1 r.2.2.2.1 r.2.2.2.2).schedule p f

/-- Transactions a port's scheduler may issue in one run. -/
def State.runs (s : State) (p : Nat) : Nat := 3 * s.pipes.length + (s.getUsb p).requests.length + 1

/-- The scheduler run on a port; a buffer that it leaves free goes to the ports of its gallery that wait for one, in turn (07 R222; 08
R240). -/
def State.serve (s : State) (p : Nat) : State :=
  let s := s.schedule p (s.runs p)
  if (s.getGals (galOf p)).npWaiting = [] then s
  else (s.npWaiters (galOf p)).foldl (fun s q => s.schedule q (s.runs q)) s

/-! ### The end of a transaction -/

/-- A transaction ends: the result of a split is kept by its translator until a complete-split retrieves it, any other goes to the item;
the scheduler goes on (07 R217; 08 R238, R242). -/
def State.xactDone (s : State) (n : Nat) (r : XactRes) : State :=
  let x := s.getPipes n
  if x.inXact = false ∨ x.registrarCtl = true then s
  else
    let held := decide (x.ssFrame ≠ none) && !(decide (x.split % 4 = 2) && decide (x.typ = 1) && !x.dirIn)
    let s := if held then s.modPipes n (fun y => { y with wireRes := some r, wireAt := s.portCount x.port }) else s.xactOver n r
    s.serve x.port

/-- A request of the Registrar that something waited for has ended (07 R201; 06 R177, R188). -/
def State.askDone (s : State) (p kind : Nat) : State :=
  let n := regCtx p
  let l := (s.getUsb p).requests
  match l.find? (fun e => decide (e.2.2 = kind)) with
  | none => s
  | some e =>
    let s := if l.head? = some e then (s.npGive p n).modPipes n (fun x => { x with inXact := false }) else s
    let s := s.modUsb p (fun u => { u with requests := l.erase e })
    if l.erase e = [] then s.setPipes n Pipe.reset else s

/-- The Registrar's requests to a device that is gone are dropped (07 R201, R211). -/
def State.askGone (s : State) (p a : Nat) : State :=
  let l := (s.getUsb p).requests
  let n := regCtx p
  if l.all (fun e => decide (e.1 ≠ a)) then s
  else
    let s := if (l.head?.map (·.1)) = some a then (s.npGive p n).modPipes n (fun x => { x with inXact := false }) else s
    let rest := l.filter (fun e => decide (e.1 ≠ a))
    let s := s.modUsb p (fun u => { u with requests := rest })
    if rest = [] then s.setPipes n Pipe.reset else s

/-- The Registrar has nothing in hand on a port: its requests there are dropped, reads of interface maps with them, and its control
context is free (07 R201). -/
def State.dropAsks (s : State) (p : Nat) : State :=
  if (s.getUsb p).requests = [] then s
  else ((s.npGive p (regCtx p)).modUsb p (fun u => { u with
    requests := [], enums := u.enums.filter (fun e => decide (e.step ≠ .mapRead)) })).setPipes (regCtx p) Pipe.reset

/-! ### Microframes -/

/-- Isochronous packets whose microframe has passed unserved end `MISSED` (07 R219, R229; 03 R91; 06 R183). -/
def State.missIso (s : State) (k c : Nat) : Nat → State
  | 0 => s
  | f + 1 =>
    match s.item? k with
    | none => s
    | some i =>
      match i.pipe with
      | none => s
      | some n =>
        let x := s.getPipes n
        if countAt c (isoFrame x i + (if x.cls = 0 then 1 else 2 ^ x.interval)) then (s.isoPacket k 5 0).missIso k c f else s

/-- The isochronous items queued on a port's pipes lose the packets that are past (07 R219). -/
def State.missAll (s : State) (p c : Nat) : State :=
  let queued := s.pipes.flatMap (fun e =>
    if e.2.port = p ∧ e.2.typ = 1 then (if e.2.inXact then e.2.queue.drop 1 else e.2.queue) else [])
  queued.foldl (fun s k => s.missIso k c (match s.item? k with | some i => i.isoPackets | none => 0)) s

/-- A service left unfinished is over with its microframe on a Prompt pipe, with its interval on a Steady one (07 R222, R223). -/
def State.closeServices (s : State) (p c : Nat) : State :=
  (s.pipesWhere (fun x => decide (x.port = p) && decide (x.typ = 3) && decide (x.svc ≠ 0) &&
    (decide (x.cls = 0) || (decide (x.cls = 1) && decide (c % 2 ^ x.interval = 0))))).foldl
    (fun s n => s.modPipes n (fun x => { x with svc := 0, nextDue := if x.cls = 0 then s.firstDue x else BitVec.ofNat 32 c })) s

/-- The scheduler starts a microframe of the port (07 R222; 08 R239). -/
def State.openMicroframe (s : State) (p : Nat) : State :=
  let c := s.portCount p
  let s := (s.missAll p c).closeServices p c
  let s := s.modFt p (fun f => { f with began := s.now })
  (s.modUsb p (fun u => { u with busLeft := 125000, burst := [], slots := 0 })).serve p

/-- ERDY: the pipe is asked again at its next turn, a control or bulk pipe without waiting for its turn; the stream it names is the one
served next (07 R227, R228). -/
def State.erdy (s : State) (n stream : Nat) : State :=
  let x := s.getPipes n
  let m := s.parent n
  let s := s.modPipes m (fun x => { x with flow := .ready })
  let s := if stream = 0 then s.modPipes n (fun x => { x with flow := .ready, erdy := decide (x.typ = 0) || decide (x.typ = 2) })
    else s.streamMove n stream
  s.serve x.port

/-- The Registrar's read of a configuration descriptor ends: the interface map is built, or left empty with MAP_FAIL
(07 R214, R235). -/
def State.mapRead (s : State) (p a : Nat) (map : IfMap) : State :=
  if (s.getUsb p).mapPending a = false then s
  else
    let s := (s.askDone p 2).modUsb p (fun u => { u with
      enums := u.enums.filter (fun e => !(decide (e.step = .mapRead) && decide (e.addr = a))) })
    let s := match map with
      | some m => s.modDevice p a (fun d => { d with map := m })
      | none => (s.modDevice p a (fun d => { d with map := [] })).modRegs (fun r => { r with psMapFail := true })
    s.serve p

end Sys2Proof.Machine
end

