-- ==== Sys2Proof/Machine/Transport.lean ====
section
/-!
DEFINITION. Upstream links and the Isaix transport (04): link membership, spraying, the PTP link, the sending and
receiving of frames, acknowledgement, retransmission and the buffers of a session.
-/
namespace Sys2Proof.Machine

/-! ### Links -/

/-- Whether link `m` is in Member (04 R114). -/
def State.isMember (s : State) (m : Nat) : Bool := decide ((s.link m).state = .member)

/-- The links in Member, ascending (04 R115). -/
def State.members (s : State) : List Nat := [1, 2, 3, 4, 5, 6, 7, 8].filter s.isMember

/-- Whether the links-enabled object enables link `m`; in single-link mode bit 0 alone governs (04 R136). -/
def State.linkEnabled (s : State) (m : Nat) : Bool :=
  if s.upl.mode then decide (m = 1) && bitOf (s.cfg 0x2200 4) 0 else bitOf (s.cfg 0x2200 4) (m - 1)

/-- The link PTP uses: the preferred one where it is in Member, else the lowest in Member, else the last used
(04 R134). -/
def State.ptpChoice (s : State) : Nat :=
  if s.isMember (s.cfg 0x2204 2) then s.cfg 0x2204 2
  else match s.members with
    | m :: _ => m
    | [] => s.upl.ptpLink

/-- The PPS_OUT pin goes low (04 R135). -/
def State.ppsFall (s : State) : State :=
  if s.ptp.ppsOut then (s.modPtp (fun p => { p with ppsOut := false })).emit (.pin 1 0 false) else s

/-- PTP time is lost: holdover, with PPS_OUT low (04 R135, 09 R258, R267). -/
def State.enterHoldover (s : State) : State :=
  ((s.ppsFall.modPtp (fun p => { p with state := 2 })).ftEvent 0 2).note 0x1B 0

/-- The PTP link chosen anew. Where PTP's link has left Member, PTP moves with `UP_EVT.PTP_MOVED`; on a new link the path delay is
to be measured again, and PTP time held before goes to holdover until it is (04 R134, 09 R258). -/
def State.movePtp (s : State) : State :=
  let old := s.upl.ptpLink
  let new := s.ptpChoice
  let had := s.upl.ptpHad
  let s' := if s.isMember new then s.modUpl (fun u => { u with ptpHad := true }) else s
  if new = old then s'
  else
    let s' := s'.modUpl (fun u => { u with ptpLink := new })
    if had then
      let s' := s'.modPtp (fun p => { p with pathDelay := none, asked := false, good := 0 })
      let s' := if s.isMember old then s' else s'.upEvent 0x20000
      if s'.ptp.state = 1 then s'.enterHoldover else s'
    else s'

/-! ### Sequence numbers and frames -/

/-- (b - a) mod 2^24 (04 R126). -/
def seqDiff (b a : Nat) : Nat := (b + 16777216 - a % 16777216) % 16777216

/-- a precedes b modulo 2^24 (04 R126). -/
def seqBefore (a b : Nat) : Bool := decide (1 ≤ seqDiff b a) && decide (seqDiff b a ≤ 8388607)

/-- What a replay-buffer entry of a payload occupies (04 R128). -/
def entryBytes (len : Nat) : Nat := ceilDiv len 64 * 64 + 64

/-- Bytes held in the replay buffer (04 R137 HELD). -/
def Session.held (x : Session) : Nat := (x.replay.map (fun r => entryBytes r.len)).foldl (· + ·) 0

/-- Payload bytes unacknowledged (04 R126). -/
def Session.unackedBytes (x : Session) : Nat := (x.replay.map (·.len)).foldl (· + ·) 0

/-- Free receive space in KiB (04 R121 WINDOW). -/
def Session.space (x : Session) : Nat := x.bufKib - ceilDiv ((x.rxBuf.map (fun f => f.2.2.length)).foldl (· + ·) 0) 1024

/-- The largest payload of a frame (04 R120). -/
def State.maxPayload (s : State) : Nat := s.cfg 0x2200 5 - 192

/-- The session is stalled (04 R126). -/
def Session.stalled (x : Session) : Bool := x.stallSpanNow || x.stallBufNow || x.stallWinNow

/-- The run of received sequence numbers that holds `q`, grown upwards within the frames held (04 R121). -/
def runUp (held : List Nat) : Nat → Nat → Nat
  | 0, e => e
  | k + 1, e => if held.contains (e % 16777216) then runUp held k (e + 1) else e

/-- The same run grown downwards: its first sequence number. -/
def runDown (held : List Nat) : Nat → Nat → Nat
  | 0, b => b
  | k + 1, b => if held.contains ((b + 16777215) % 16777216) then runDown held k (b + 16777215) else b

/-- SACK blocks: runs of frames held above ACK, the most recently extended first, at most four (04 R121). -/
def Session.sackList (x : Session) : List (Nat × Nat) :=
  let held := x.rxBuf.map (·.1)
  let runs := held.map (fun q => (runDown held held.length q % 16777216, runUp held held.length q % 16777216))
  (runs.foldl (fun a r => if a.contains r then a else a ++ [r]) []).take 4

/-- Bytes in the transmit queue of a link (04 R115). -/
def Link.load (l : Link) : Nat := l.txq + (l.queue.map (·.1)).foldl (· + ·) 0

/-- The next link of the spray set after the one used last, skipping a link whose queue holds more than 64 KiB (04
R115). -/
def State.sprayLink (s : State) : Option Nat :=
  let free := s.members.filter (fun m => decide ((s.link m).load ≤ 65536))
  match free.find? (fun m => decide (s.upl.rrNext ≤ m)) with
  | some m => some m
  | none => free.head?

/-- Whether a 16-byte address is IPv4-mapped (04 R136 0x2201). -/
def isV4 (a : Bytes) : Bool := decide (a.take 12 = zeros 10 ++ [0xFF, 0xFF])

/-- An address as its layer carries it: 4 bytes of IPv4, else 16 (04 R118). -/
def ipBytes (a : Bytes) : Bytes := if isV4 a then a.drop 12 else a

/-- Bytes of a frame on the wire of link `m`, from destination address to FCS (04 R118). -/
def State.wireBytes (s : State) (m : Nat) (f : OutFrame) : Nat :=
  14 + (if s.cfg 0x2202 2 = 0 then 0 else 4) + (if isV4 (s.cfgB 0x2201 m) then 20 else 40) + 8 + 32 + 8 * f.sacks.length
    + f.payload.length + 16 + 4

/-- The Isaix header, 32 bytes (04 R121). -/
def OutFrame.header (f : OutFrame) : Bytes :=
  natBE 1 (16 + f.typ) ++ natBE 1 f.flags ++ natBE 2 f.sess ++ natBE 1 f.tenant ++ natBE 3 f.seq ++ natBE 1 f.sacks.length ++
    natBE 3 f.ack ++ natBE 2 f.window ++ natBE 2 f.payload.length ++ natBE 8 f.txc ++ natBE 4 f.tsval ++ natBE 4 f.tsecr

/-- The associated data of a frame: its header and SACK blocks (04 R121, R123). -/
def OutFrame.ad (f : OutFrame) : Bytes := f.header ++ f.sacks.flatMap (fun b => natBE 4 b.1 ++ natBE 4 b.2)

/-- The 12-byte nonce of a frame the hub sends (04 R123). -/
def OutFrame.nonce (f : OutFrame) : Bytes := [1, 0] ++ natBE 2 f.sess ++ natBE 8 f.txc

/-- The bytes of a session key (05 R141). -/
def SessKey.bytes (k : SessKey) : Bytes := natBE 32 (Config.hkdfSha256 k.ikm k.salt k.info).toNat

/-- A frame with its payload encrypted and its tag (04 R123). -/
def OutFrame.seal (key : Bytes) (f : OutFrame) : OutFrame := { f with sealed := Config.aesGcm key f.nonce f.ad f.payload }

/-- Big-endian 16-bit words of a byte string, the last padded with 0 (RFC 768). -/
def words16 : Bytes → List Nat
  | [] => []
  | [a] => [a.toNat * 256]
  | a :: b :: t => (a.toNat * 256 + b.toNat) :: words16 t

/-- The UDP checksum of a datagram: the one's complement of the one's complement sum over the pseudo-header and the datagram (04 R118;
RFC 768). -/
def udpCheck (src dst : Bytes) (srcPort dstPort : Nat) (data : Bytes) : Nat :=
  let b := src ++ dst ++ natBE 2 17 ++ natBE 2 (data.length + 8) ++ natBE 2 srcPort ++ natBE 2 dstPort ++ natBE 2 (data.length + 8)
    ++ zeros 2 ++ data
  65535 - (words16 b).foldl (· + ·) 0 % 65535

/-- The hub's MAC address on link `m` (04 R118, R136 0x2202:01). -/
def State.macOf (s : State) (m : Nat) : Bytes :=
  let b := s.cfgB 0x2202 1
  if s.upl.mode then b else b.take 5 ++ (b.drop 5).map (fun x => x + BitVec.ofNat 8 (m - 1))

/-- The layers of a frame on link `m` (04 R118). -/
def State.layers (s : State) (m : Nat) (f : OutFrame) : Layers :=
  let a := s.cfgB 0x2201 m
  let v4 := isV4 a
  let vid := s.cfg 0x2202 2
  let from_ := if f.sess = 0xFFFF then Config.exchangePort else 49152 + f.sess
  { srcMac := s.macOf m
    tag := if vid = 0 then none else some (s.cfg 0x2202 3 * 8192 + vid)
    etherType := if v4 then 0x0800 else 0x86DD
    src := ipBytes a
    dst := ipBytes f.peer
    tos := s.cfg 0x2202 4 * 4
    flow := 0
    ttl := 64
    df := v4
    srcPort := from_
    dstPort := f.peerPort
    check := udpCheck (ipBytes a) (ipBytes f.peer) from_ f.peerPort (f.ad ++ f.sealed) }

/-- A frame leaves on link `m`. -/
def State.wire (s : State) (m : Nat) (f : OutFrame) : State := s.emit (.isaix m (s.layers m f) f)

/-- A replay entry's frame is sent on link `m` (04 R116, R130). -/
def Session.sentOn (m now : Nat) (f : OutFrame) (x : Session) : Session :=
  if f.typ = 1 then { x with replay := x.replay.map (fun e => if e.seq = f.seq then { e with link := m, sentAt := now } else e) }
  else x

/-- A frame takes its place on link `m`: it leaves at once on an idle link, else it is queued; the round-robin moves on (04 R115). -/
def State.onLink (s : State) (m : Nat) (f : OutFrame) : State :=
  let l := s.link m
  let b := s.wireBytes m f
  let s := (s.modUpl (fun u => { u with rrNext := m % 8 + 1 })).modSess f.sess (Session.sentOn m s.now f)
  if l.load = 0 then (s.setLink m { l with txq := b }).wire m f
  else s.setLink m { l with queue := l.queue ++ [(b, f)] }

/-- A frame goes to the next link of the spray set, or waits where every queue is full or no link is in Member (04 R115; log entry
95). -/
def State.queueFrame (s : State) (f : OutFrame) : State :=
  match s.sprayLink with
  | some m => s.onLink m f
  | none => s.modUpl (fun u => { u with backlog := u.backlog ++ [f] })

/-- The frames that wait for a link, as far as links take them (log entry 95). -/
def State.flushBacklog : Nat → State → State
  | 0, s => s
  | k + 1, s =>
    match s.sprayLink, s.upl.backlog with
    | some m, f :: t => State.flushBacklog k ((s.modUpl (fun u => { u with backlog := t })).onLink m f)
    | _, _ => s

/-- What `room` bytes of line time do on link `m`: the frame being sent goes on, and the next one queued follows it (04 R115). -/
def State.drainLink (m : Nat) : Nat → Nat → State → State
  | 0, _, s => s
  | k + 1, room, s =>
    let l := s.link m
    if room < l.txq then s.setLink m { l with txq := l.txq - room }
    else match l.queue with
      | [] => s.setLink m { l with txq := 0 }
      | e :: t => State.drainLink m k (room - l.txq) ((s.setLink m { l with txq := e.1, queue := t }).wire m e.2)

/-- A frame of session `n` sent with the next TXC of its direction: header, SACK blocks, payload encrypted afresh (04 R121, R123, R124,
R127). -/
def State.sendFrame (s : State) (n typ seq : Nat) (retx : Bool) (payload : Bytes) : State :=
  let x := s.getSess n
  let sacks := x.sackList
  let f : OutFrame :=
    { typ := typ, sess := n, tenant := x.tenant
      flags := b2n x.stalled * 8 + b2n retx * 4 + b2n (!sacks.isEmpty) * 2 + 1
      seq := seq, ack := x.rxNext, window := x.space, sacks := sacks, txc := x.txc, tsval := s.clk.usCount.toNat
      tsecr := x.tsRecent.toNat, payload := payload, sealed := [], peer := x.peer, peerPort := x.peerPort }
  (s.modSess n (fun x => { x with txc := x.txc + 1, unacked := 0 })).queueFrame (f.seal x.key.bytes)

/-- A SESSION frame, which takes a sequence number (05 R142). -/
def State.sendRecord (s : State) (n : Nat) (payload : Bytes) : State :=
  let q := (s.getSess n).txNext
  (s.modSess n (fun x => { x with txNext := (q + 1) % 16777216 })).sendFrame n 4 q false payload

/-- CLOSED, 8 bytes: REASON and ITEMS_ENDED (05 R142). -/
def State.sendClosed (s : State) (n reason ended : Nat) : State :=
  s.sendRecord n (natBE 1 6 ++ natBE 1 reason ++ zeros 2 ++ natBE 4 ended)

/-- Whether the next TXC would wrap, the last value being kept for CLOSED (04 R124; log entry 98). -/
def Session.wraps (x : Session) : Bool := decide (18446744073709551615 ≤ x.txc)

/-- The hub closes a session whose TXC would wrap (04 R124; 05 R142 REASON 0x02). -/
def State.wrapClose (s : State) (n : Nat) : State := s.endSession n 0x32 0x02 false false

/-- An ACK frame (04 R129), unless its TXC would wrap (R124). -/
def State.sendAck (s : State) (n : Nat) : State :=
  if (s.getSess n).wraps then s.wrapClose n else s.sendFrame n 2 (s.getSess n).txNext false []

/-! ### Stalls, framing and retransmission -/

/-- The records that fit in one payload, and the rest (05 R152). -/
def packRecs (room : Nat) : List HubRec → List HubRec × List HubRec
  | [] => ([], [])
  | r :: t =>
    let b := r.encode.length
    if b ≤ room then
      let (a, rest) := packRecs (room - b) t
      (r :: a, rest)
    else ([], r :: t)

/-- The records of the next DATA frame of a session: those of its periodic items first (05 R152; 07 R231, R233). -/
def State.nextFrame (s : State) (n : Nat) : List HubRec × List HubRec :=
  let x := s.getSess n
  packRecs s.maxPayload (if x.perQueue = [] then x.txQueue else x.perQueue)

/-- The payload bytes of the next DATA frame. -/
def State.nextLen (s : State) (n : Nat) : Nat := ((s.nextFrame n).1.flatMap HubRec.encode).length

/-- A session has records to send. -/
def Session.wants (x : Session) : Bool := decide (x.perQueue ≠ []) || decide (x.txQueue ≠ [])

/-- The span condition of R126 fails for the next DATA frame (04 R126). -/
def Session.spanFails (x : Session) : Bool := x.wants && decide (8388608 ≤ seqDiff x.txNext x.txOldest)

/-- The buffer condition of R126 fails (04 R126, R128). -/
def State.bufFails (s : State) (n : Nat) : Bool :=
  let x := s.getSess n
  x.wants && decide (x.bufKib * 1024 < x.held + entryBytes (s.nextLen n))

/-- The window condition of R126 fails (04 R126). -/
def State.winFails (s : State) (n : Nat) : Bool :=
  let x := s.getSess n
  x.wants && decide (x.window * 1024 < x.unackedBytes + s.nextLen n)

/-- The three conditions of R126 evaluated for the next DATA frame; an entry into a stall is counted once, under the first that
fails (04 R126, R127; log entry 98). -/
def State.restall (s : State) (n : Nat) : State :=
  let x := s.getSess n
  let span := x.spanFails
  let buf := s.bufFails n
  let win := s.winFails n
  let fresh := !x.stalled
  let s := s.modSess n (fun x => { x with
    stallSpan := satAdd x.stallSpan (b2n (fresh && span))
    stallBuf := satAdd x.stallBuf (b2n (fresh && !span && buf))
    stallWin := satAdd x.stallWin (b2n (fresh && !span && !buf && win))
    stallSpanNow := span
    stallBufNow := buf
    stallWinNow := win })
  if fresh && (span || buf || win) then s.modTenants x.tenant (fun t => { t with stalls := satAdd t.stalls 1 }) else s

/-- EVENTS_LOST once the event queue has space again (05 R163). -/
def Session.reportLost (time : Nat) (x : Session) : Session :=
  if x.evLost = 0 ∨ 1024 ≤ eventCount x.txQueue then x
  else { x with txQueue := x.txQueue ++ [.event 0x000B 0 0 x.evLost time []], evLost := 0 }

/-- A new DATA frame: the records that fit, kept in the replay buffer until acknowledged (04 R126, R128; 05 R161). -/
def State.sendData (s : State) (n : Nat) : State :=
  let now := (s.nextFrame n).1
  let rest := (s.nextFrame n).2
  let payload := now.flatMap HubRec.encode
  let q := (s.getSess n).txNext
  let done := now.filterMap (fun r => match r with
    | .event 9 _ _ param _ _ => some (param, q)
    | _ => none)
  let entry : Replay := ⟨q, now, 0, s.now, payload.length⟩
  let s := s.modSess n (fun x =>
    let y := { x with perQueue := if x.perQueue = [] then [] else rest, txQueue := if x.perQueue = [] then rest else x.txQueue,
                      txNext := (q + 1) % 16777216, replay := x.replay ++ [entry], ledgerWait := x.ledgerWait ++ done }
    { y with heldPeak := max y.heldPeak y.held })
  (s.sendFrame n 1 q false payload).modSess n (Session.reportLost s.ptpTime)

/-- A frame of the replay buffer sent again with a new TXC and RETX set, and counted; a session whose TXC would wrap is closed
(04 R124, R130, R137). -/
def State.resend (s : State) (n q : Nat) : State :=
  match (s.getSess n).replay.find? (fun r => decide (r.seq = q)) with
  | some r =>
    if (s.getSess n).wraps then s.wrapClose n
    else
      let s := s.sendFrame n 1 q true (r.recs.flatMap HubRec.encode)
      let s := s.modSess n (fun x => { x with retx := satAdd x.retx 1 })
      s.modTenants (s.getSess n).tenant (fun t => { t with retx := satAdd t.retx 1 })
  | none => s

/-- Whether a SACK block shows a frame later than `q` received (04 R130). -/
def laterSacked (sacks : List (Nat × Nat)) (q : Nat) : Bool :=
  sacks.any (fun b => seqBefore q ((b.2 + 16777215) % 16777216)) && !(sacks.any (fun b =>
    (decide (b.1 = q) || seqBefore b.1 q) && seqBefore q b.2))

/-- The frames that a SACK shows overtaken and that were last sent more than tREORD before are sent again (04 R130). -/
def State.resendSacked (s : State) (n : Nat) : State :=
  let x := s.getSess n
  let due := x.replay.filter (fun r => laterSacked x.peerSacks r.seq && decide (s.cfg 0x2203 2 < s.now - r.sentAt))
  due.foldl (fun s r => s.resend n r.seq) s

/-- The retransmission timeout without back-off, in us (04 R130). -/
def State.baseRto (s : State) (x : Session) : Nat := min 100000 (max (s.cfg 0x2203 3) (x.srtt + 4 * x.rttvar))

/-- A session that loses its TXC space, is lost or is closed by the hub (04 R124, R130). -/
def State.loseSession (s : State) (n : Nat) : State := s.endSession n 0x31 0x04 true true

/-- A Draining session whose last completion is acknowledged closes in order (05 R145). -/
def State.drained (s : State) (n : Nat) : State :=
  let x := s.getSess n
  if x.state = .draining ∧ s.sessItems n = [] ∧ x.unsent.any HubRec.isCompletion = false then
    (((s.sendClosed n 0 0).freeLocks n false).closeSession n)
  else s

/-- The cumulative acknowledgement of a received frame (04 R128, R130; 05 R161). -/
def State.takeAck (s : State) (n a : Nat) : State :=
  let x := s.getSess n
  if seqDiff a x.txOldest = 0 ∨ seqDiff x.txNext x.txOldest < seqDiff a x.txOldest then s
  else
    let freed := x.ledgerWait.filter (fun w => seqBefore w.2 a)
    let s := s.modSess n (fun x => { x with
      txOldest := a
      rtoCount := 0
      rto := s.baseRto x
      replay := x.replay.filter (fun r => !(seqBefore r.seq a))
      ledgerWait := x.ledgerWait.filter (fun w => !(seqBefore w.2 a)) })
    (freed.foldl (fun s w => s.freeBlock x.tenant w.1) s).drained n

/-- A round-trip measurement from TSECR (04 R130; the filter is RFC 6298's, log entry 20). -/
def Session.sample (r : Nat) (x : Session) : Session :=
  if x.srtt = 0 then { x with srtt := r, rttvar := r / 2 }
  else
    let d := if r < x.srtt then x.srtt - r else r - x.srtt
    { x with rttvar := (3 * x.rttvar + d) / 4, srtt := (7 * x.srtt + r) / 8 }

/-- Whether a datagram is one the hub takes as an Isaix frame: on a link in Member, to the Isaix port at the address of such a link,
with a right UDP checksum or, on IPv4, none (04 R114, R119). -/
def State.arrives (s : State) (v : Arrival) : Bool :=
  s.isMember v.link && decide (v.port = s.cfg 0x2202 5) && s.members.any (fun m => decide (s.cfgB 0x2201 m = v.dst))
    && (match v.check with | .good => true | .zero => isV4 v.dst | .bad => false)

/-- Whether a received frame of TYPE `typ` passes R122 for a session in one of some states (04 R122). -/
def State.frameOk (s : State) (f : Frame) (typ : Nat) (states : List SessState) : Bool :=
  let x := s.getSess f.sess
  decide (f.version = 1) && decide (f.typ = typ) && decide (f.sess < 1024) && states.contains x.state
    && decide (f.tenant = x.tenant) && f.tagOk
    && (match x.rxTxc with | some t => decide (t < f.txc) | none => true) && decide (f.payload.length ≤ s.maxPayload)

/-- A discarded frame is counted (04 R122). -/
def State.discardFrame (s : State) : State := s.modUpl (fun u => { u with discarded := satAdd u.discarded 1 })

/-- What every accepted frame carries: its TXC, time stamps, window, acknowledgement and SACK blocks, and where it came from (04 R118,
R121, R122, R130). -/
def State.takeHeader (s : State) (f : Frame) : State :=
  let n := f.sess
  let s := s.modSess n (fun x => { x with
    rxTxc := some f.txc
    tsRecent := f.tsval
    peer := f.via.src
    peerPort := f.via.srcPort
    window := if f.ackValid then f.window else x.window
    peerSacks := if f.sacks = [] then x.peerSacks else f.sacks.take 4 })
  if f.ackValid then
    let echo := (s.clk.usCount - f.tsecr).toNat
    let s := if (s.getSess n).replay = [] ∨ f.tsecr = 0 then s else s.modSess n (Session.sample echo)
    let s := (s.takeAck n f.ack).restall n
    if f.sacks = [] then s else s.resendSacked n
  else s.restall n

/-! ### Membership -/

/-- Every session is held: Open and Draining go Held (04 R117, 05 R145). -/
def State.holdSessions (s : State) : State :=
  s.modSessWhere (fun _ x => decide (x.state = .opened) || decide (x.state = .draining))
    (fun x => { x with heldFrom := decide (x.state = .draining), state := .held })

/-- Held sessions continue, and ledger entries kept back meanwhile go out (04 R117, 05 R145, R161). -/
def State.resumeSessions (s : State) : State :=
  let s := s.modSessWhere (fun _ x => decide (x.state = .held))
    (fun x => { x with state := if x.heldFrom then .draining else .opened, heldFrom := false })
  s.sess.foldl (fun s e => s.deliverLedger e.2.tenant) s

/-- A link leaves the spray set: the frames queued on it move to the other links, and every unacknowledged frame last sent on it is
sent again at once; with no link left, sessions are held and the Serious fault 0x19 is raised (04 R116, R117). -/
def State.leaveSpray (s : State) (m : Nat) : State :=
  let moved := (s.link m).queue.map (·.2)
  let s := moved.foldl (fun s f => s.queueFrame f) ((s.setLink m { s.link m with queue := [] }).movePtp)
  if s.members = [] then
    (((s.upEvent 0x10000).causeOn 0x19 0).fault 0x19 0).holdSessions
  else
    s.sess.foldl (fun s e =>
      (e.2.replay.filter (fun r => decide (r.link = m))).foldl (fun s r => s.resend e.1 r.seq) s) s

/-- A link enters Member: it joins the spray set, and held sessions continue (04 R114, R117). -/
def State.joinSpray (s : State) (m : Nat) : State :=
  let s := s.setLink m { Link.reset with state := .member }
  let s := s.upEvent (BitVec.ofNat 19 (2 ^ (7 + m)))
  let s := (s.movePtp.causeOff 0x19 0).resumeSessions
  State.flushBacklog s.upl.backlog.length s

/-- Whether link `m` is brought up by auto-negotiation: where it is enabled and the PHY is no AUI (04 R112). -/
def State.negotiates (s : State) : Bool := decide (s.cfg 0x2200 3 = 1) && decide (s.cfg 0x2200 2 ≠ 2)

/-- A link starts training: by auto-negotiation that advertises the selected PHY alone, or directly at it with the transmit equaliser
at its preset (04 R112, R114). -/
def State.train (s : State) (m : Nat) : State :=
  (s.setLink m { s.link m with state := .training, txq := 0 }).emit (.train m (s.cfg 0x2200 2) s.negotiates)

/-- An enable bit set takes a link from Off to Training while the upstream PLL is locked; cleared, it takes a link Off
(04 R114). -/
def State.applyLinkEnables (s : State) : State :=
  [1, 2, 3, 4, 5, 6, 7, 8].foldl
    (fun s m =>
      match (s.link m).state, s.linkEnabled m with
      | .off, true => if s.locked .upstream then s.train m else s
      | .training, false | .probation, false => s.setLink m Link.reset
      | .member, false => (s.setLink m { s.link m with state := .off, txq := 0 }).leaveSpray m
      | _, _ => s) s

end Sys2Proof.Machine
end

