-- ==== Sys2Proof/Machine/Timing.lean ====
section
/-!
DEFINITION. Frame timing (09) and the PTP and PPS events of the upstream (04 R133 to R135).
-/
namespace Sys2Proof.Machine

/-! ### Port timebases -/

/-- The microframe count R259 gives for a port at a hub time: whole microframes since the phase offset, plus the bias. -/
def countOf (now offset : Nat) (bias : Word) : Word :=
  BitVec.ofInt 32 (((now : Int) - (offset : Int)) / 125000) + bias

/-- The phase error of the boundary with count `c` at hub time `now`: that time minus its target under R259, which lies the difference
of the counts in whole microframes from the grid point before it (09 R259, R264). -/
def phaseOf (now offset : Nat) (bias c : Word) : Int :=
  ((now : Int) - (offset : Int)) % 125000 + 125000 * (countOf now offset bias - c).toInt

/-- The step rule at a boundary: whole microframes into the bias, the rest into the phase error (09 R265). -/
def PortFt.absorb (f : PortFt) : PortFt :=
  if f.stepOwed = 0 then f
  else
    let k := (f.stepOwed - 62500 + 124999) / 125000
    { f with bias := f.bias - BitVec.ofInt 32 k, phase := satInt32 (f.phase + (f.stepOwed - k * 125000)), stepOwed := 0 }

/-- A timebase starts (09 R260): the count is the one R259 gives, a step still owed taken first. -/
def State.startTimebase (s : State) (p : Nat) : State :=
  let f := s.getFt p
  if f.running then s
  else s.modFt p (fun f =>
    let g := f.absorb
    { g with running := true, count := countOf s.now (s.cfg 0x4050 p) g.bias, frac := 0 })

/-- A timebase stops (09 R260). -/
def State.stopTimebase (s : State) (p : Nat) : State := s.modFt p (fun f => { f with running := false })

/-- Every running timebase restarts: its count is derived from hub time anew (09 R260; 15 R390). -/
def State.restartTimebases (s : State) : State :=
  s.ft.foldl (fun s e => if e.2.running then (s.stopTimebase e.1).startTimebase e.1 else s) s

/-- A step of hub time by `d` ns reaches every running timebase; each absorbs it at its next boundary (09 R257, R265). -/
def State.stepAll (s : State) (d : Int) : State :=
  s.ft.foldl (fun s e => if e.2.running then s.modFt e.1 (fun f => { f with stepOwed := f.stepOwed + d }) else s) s

/-- The trim that keeps a boundary in step with hub time: the frequency correction of hub time, in ppb, in units of the trim (09 R262,
R264, R266; log entry 24). -/
def freqTerm (freq : Int) : Int := (50000 - freq * 24576) / 100000

/-- One unit of trim, at most one in four microframes and within the trim limit, to which a trim beyond a lowered limit goes by such
units too: while PTP time is held, towards removing the phase error in the shortest time the bounds allow, which is by speeding up
until what is left is the distance that slowing down takes; else towards the frequency term last learned (09 R263 to R266; log entry
24). -/
def PortFt.discipline (f : PortFt) (locked : Bool) (limit freq : Int) : PortFt :=
  let learned := if locked then freqTerm freq else f.learned
  if f.sinceTrim < 3 then { f with sinceTrim := f.sinceTrim + 1, learned := learned }
  else
    let d := f.trim - learned
    let past := decide (98304 * f.phase.natAbs < 100 * (d.natAbs * (d.natAbs + 1)))
    let want : Int :=
      if locked ∧ 0 < f.phase then (if d < 0 ∧ past = true then f.trim + 1 else f.trim - 1)
      else if locked ∧ f.phase < 0 then (if 0 < d ∧ past = true then f.trim - 1 else f.trim + 1)
      else if d < 0 then f.trim + 1
      else if 0 < d then f.trim - 1
      else f.trim
    let t := if limit < f.trim then f.trim - 1 else if f.trim < -limit then f.trim + 1
      else if limit < want then limit else if want < -limit then -limit else want
    if t = f.trim then { f with learned := learned } else { f with trim := t, sinceTrim := 0, learned := learned }

/-- The length of the microframe that begins: 960,000 steps and the trim in whole steps, its fraction carried by the accumulator (09
R262). -/
def PortFt.accumulate (f : PortFt) : PortFt :=
  let sum : Int := (f.frac : Int) + f.trim
  { f with frac := (sum % 256).toNat, steps := (960000 + sum / 256).toNat }

/-- The trim at its limit raises TRIM_SAT and a Minor fault once (09 R267). -/
def State.trimCheck (s : State) (p : Nat) (limit : Int) : State :=
  let f := s.getFt p
  let at_ := decide (limit ≤ f.trim) || decide (f.trim ≤ -limit)
  let s' := s.modFt p (fun f => { f with saturated := at_ })
  if at_ && !f.saturated then (s'.ftEvent p 8).note 0x1C p else s'

/-- M-class values of a port take effect: the replay budget goes into every pipe of the port, and a change of the frame
phase offset of a running port is a step (00 R10, R13; 07 R234 0x4030; 09 R265). -/
def State.applyPort (s : State) (p : Nat) : State :=
  let before := s.cfg 0x4050 p
  let s := s.applyM p
  let b := s.cfg 0x4030 p
  let d : Int := (before : Int) - (s.cfg 0x4050 p : Int)
  let s := (s.pipesWhere (fun x => decide (x.port = p))).foldl (fun s n => s.modPipes n (fun x => { x with budget := b })) s
  if d ≠ 0 ∧ (s.getFt p).running = true then s.modFt p (fun f => { f with stepOwed := f.stepOwed + d }) else s

/-- The fields of an isochronous timestamp packet: the bus interval counter in bits 13 to 0 and the delta in bits 26 to 14, the time from
the boundary to the packet in 8 HS bit times (09 R261; USB 3.2 8.7; log entry 24). -/
def itp (c delta : Nat) : Nat := c % 16384 + delta % 8192 * 16384

/-- The start-of-frame or isochronous timestamp packet of a boundary, in Enabled alone: at high speed every one, at FS and LS those whose
count is a multiple of 8, at SuperSpeed in U0, which a link being trained anew is not in. It goes out at the boundary, with delta 0 (09
R261; log entry 24). -/
def State.sendSof (s : State) (p : Nat) : State :=
  let u := s.getUsb p
  let c := (s.getFt p).count.toNat
  if u.state ≠ .enabled ∨ u.resetKind ≠ .none then s
  else if u.speed = .hs ∨ ((u.speed = .fs ∨ u.speed = .ls) ∧ c % 8 = 0) then s.emit (.bus p 1 (c / 8 % 2048))
  else if isSuper (speedCode u.speed) ∧ u.linkpm = 0 then s.emit (.bus p 2 (itp c 0))
  else s

/-- Whether M-class values of a port take effect at its present boundary: at every one, on a port that carries only FS or LS traffic at
those that begin a frame (00 R10). -/
def State.takesM (s : State) (p : Nat) : Bool :=
  let u := s.getUsb p
  !(decide (u.speed = .fs) || decide (u.speed = .ls)) || decide ((s.getFt p).count.toNat % 8 = 0)

/-- A microframe boundary of a port (09 R259 to R267, 07 R222): steps are absorbed, the count and the phase error follow,
the trim moves, M-class values apply, the boundary packet is sent, isochronous packets that are past are missed, and the
scheduler starts the microframe. -/
def State.microframe (s : State) (p : Nat) : State :=
  if (s.getFt p).running = false then s
  else
    let limit : Int := (s.cfg 0x2601 1 : Int) * 256
    let locked := decide (s.ptp.state = 1)
    let off := s.cfg 0x4050 p
    let s := s.modFt p (fun f =>
      let g := { f with count := f.count + 1 }
      let h := if f.stepOwed = 0 then { g with phase := satInt32 (phaseOf s.now off g.bias g.count) } else g.absorb
      (h.discipline locked limit s.ptp.freq).accumulate)
    let s := s.trimCheck p limit
    let s := if s.takesM p then s.applyPort p else s
    (s.sendSof p).openMicroframe p

/-! ### PTP -/

/-- Hub time moved by `d` ns in one step (09 R256, R257). -/
def State.stepHub (s : State) (d : Int) : State :=
  ((s.modClk (fun c => { c with hubTime := c.hubTime + BitVec.ofInt 64 d })).ftEvent 0 4).stepAll d

/-- The frequency correction after an offset, in ppb: the offset over the Sync interval the specification leaves open is a
free value (09 R256, R257; log entry 14). -/
def State.adjustFreq (s : State) : State :=
  let n := s.free
  let v : Int := if n % 2 = 0 then ((n / 2 : Nat) : Int) else -((n / 2 + 1 : Nat) : Int)
  (s.tookFree).modPtp (fun p => { p with freq := v })

/-- An offset below 1 us counts towards holding PTP time; after 8 in succession the hub holds it (09 R256, R258). -/
def State.countGood (s : State) (offset : Int) : State :=
  let good := if offset < 1000 ∧ -1000 < offset then s.ptp.good + 1 else 0
  let s := s.modPtp (fun p => { p with good := good })
  if 8 ≤ good ∧ s.ptp.state ≠ 1 then
    (s.modPtp (fun p => { p with state := 1 })).ftEvent 0 1
  else s

/-- A Sync with the offset it measures (09 R256 to R258). -/
def State.sync (s : State) (offset : Int) : State :=
  let s := s.modPtp (fun p => { p with offset := satInt32 offset })
  let mag := offset.natAbs
  if s.ptp.pathDelay = none then s
  else if s.ptp.state = 0 ∧ (s.ptp.first = true ∨ s.cfg 0x2600 1 < mag) then
    let s := s.modPtp (fun p => { p with first := false, good := 0 })
    if mag < 1000 then s.countGood offset else s.stepHub offset
  else if s.cfg 0x2600 1 < mag then (s.modPtp (fun p => { p with good := 0 })).stepHub offset
  else s.adjustFreq.countGood offset

/-- Whether a PTP message is one the hub takes: on the PTP link, in Member, in the configured domain, at the UDP port of its kind
(04 R114, R133, R134). -/
def State.ptpOk (s : State) (v : PtpVia) (port : Nat) : Bool :=
  s.isMember v.link && decide (v.link = s.upl.ptpLink) && decide (v.domain = s.cfg 0x2204 1) && decide (v.port = port)

/-- A Sync taken: hub time follows its offset, and a Delay_Req goes out on the PTP link (04 R133; 09 R256; log entry 99). -/
def State.syncSeen (s : State) (v : PtpVia) (offset : Int) : State :=
  if s.ptpOk v 319 then
    ((s.sync offset).modPtp (fun p => { p with asked := true })).emit (.ptp v.link v.domain 319)
  else s

/-- A Delay_Resp to the hub's Delay_Req: the path delay on the PTP link is measured (04 R133, 09 R256). -/
def State.delayMeasured (s : State) (v : PtpVia) (d : Nat) : State :=
  if s.ptpOk v 320 && s.ptp.asked then s.modPtp (fun p => { p with pathDelay := some d, asked := false }) else s

/-- No Sync for the sync timeout: holdover, PTP_LOST and a Note, from PTP time and from the first stage alike once a Sync has set
hub time (09 R258, R267; log entry 99). -/
def State.syncLost (s : State) : State :=
  if s.ptp.state = 1 ∨ (s.ptp.state = 0 ∧ s.ptp.first = false) then
    s.enterHoldover.modPtp (fun p => { p with good := 0 })
  else s.modPtp (fun p => { p with good := 0 })

/-- A whole second of PTP time: PPS_OUT rises while the hub holds PTP time (04 R135). -/
def State.ppsRise (s : State) : State :=
  if s.ptp.state = 1 then (s.modPtp (fun p => { p with ppsOut := true })).emit (.pin 1 0 true) else s

/-- A rising edge on PPS_IN is time-stamped while enabled, unless it comes sooner than 0.5 s after the last one, given in
ns (04 R135, 19 R481). -/
def State.ppsEdge (s : State) (since : Nat) : State :=
  if s.cfg 0x2204 4 = 1 ∧ 500000000 ≤ since then s.modPtp (fun p => { p with ppsStamp := s.clk.hubTime }) else s

/-! ### Meanings -/

/-- PTP_SYNC (09 R256, R257). -/
def execPtpSync (sync : SyncMsg) (s : State) : Host.Outcome State Fault Refusal := .next (s.syncSeen sync.via sync.offset)

/-- PTP_DELAY_RESPONSE (04 R133, 09 R256). -/
def execPtpDelayResponse (resp : DelayMsg) (s : State) : Host.Outcome State Fault Refusal :=
  .next (s.delayMeasured resp.via resp.delay)

/-- SYNC_TIMEOUT (09 R258). -/
def execSyncTimeout (s : State) : Host.Outcome State Fault Refusal := .next s.syncLost

/-- PPS_OUT_SECOND (04 R135). -/
def execPpsOutSecond (s : State) : Host.Outcome State Fault Refusal := .next s.ppsRise

/-- PPS_OUT_WIDTH_END (04 R135). -/
def execPpsOutWidthEnd (s : State) : Host.Outcome State Fault Refusal := .next s.ppsFall

/-- PPS_IN_EDGE (04 R135). -/
def execPpsInEdge (sinceLast : Nat) (s : State) : Host.Outcome State Fault Refusal := .next (s.ppsEdge sinceLast)

end Sys2Proof.Machine
end

