-- ==== Sys2Proof/Machine/Ports.lean ====
section
/-!
DEFINITION. The port state machine (06 R165 to R198): states and events, connection, reset and training, deferral and
holding, fallback, the restore's beginning and failure, suspend and resume.
-/
namespace Sys2Proof.Machine

/-! ### States, trees and items -/

/-- A port goes to a state: PORT_EVT.STATE_CHG, PORT_STATE and the timebase follow (06 R165, R182, R200; 09 R260). -/
def State.toState (s : State) (p : Nat) (st : PortState) : State :=
  let old := (s.getUsb p).state
  if old = st then s
  else
    let s := s.modUsb p (fun u => { u with
      state := st, linkpm := if st = .suspended then u.linkpm else 0,
      speed := if st = .enabled ∨ st = .suspended ∨ st = .resetting ∨ st = .disabled then u.speed else .none })
    let s := (s.usbEvent p 1).portEvent p 0x0001 0 (portStateCode st + portStateCode old * 256) []
    let s := if st = .enabled ∨ st = .suspended then s else s.dropAsks p
    if st = .resetting ∨ st = .enabled ∨ st = .suspended then s.startTimebase p else s.stopTimebase p

/-- The open items of a port's tree: the transfers on its pipes. -/
def State.treeItems (s : State) (p : Nat) : List Nat :=
  s.itemsWhere (fun _ i => decide (i.op = 0x30) && decide (s.itemPort i = p))

/-- Every open item of a port's tree gets a cause. -/
def State.endTree (s : State) (p out det : Nat) : State := s.causeItems out det (s.treeItems p)

/-- The deferred request and the action in progress end with a code (06 R183, Deferred request endings). -/
def State.endDeferred (s : State) (p out det : Nat) : State :=
  let u := s.getUsb p
  let it := match u.deferred with
    | some (.reset i) => i
    | some (.suspend i) => i
    | some (.disable i) => i
    | none => none
  let s := s.modUsb p (fun u => { u with deferred := none, actionItem := none, resumeItems := [] })
  let s := (s.finishO it out det).finishO u.actionItem out det
  u.resumeItems.foldl (fun s k => s.finish k out det) s

/-- The action in progress completes `DONE` (06 R183). -/
def State.actionDone (s : State) (p : Nat) : State :=
  let it := (s.getUsb p).actionItem
  (s.modUsb p (fun u => { u with actionItem := none })).finishO it 0 0

/-- The actions in progress end `DONE` where a later request takes their place, and resume requests where the tree is
resumed (06 R183, R193). -/
def State.supersede (s : State) (p : Nat) : State :=
  let ks := (s.getUsb p).resumeItems
  let s := (s.modUsb p (fun u => { u with resumeItems := [] })).actionDone p
  ks.foldl (fun s k => s.finish k 0 0) s

/-- A deferred request replaces the earlier one, which completes `DONE` (06 R183). -/
def State.defer (s : State) (p : Nat) (d : Deferred) : State :=
  let it := match (s.getUsb p).deferred with
    | some (.reset i) => i
    | some (.suspend i) => i
    | some (.disable i) => i
    | none => none
  (s.modUsb p (fun u => { u with deferred := some d })).finishO it 0 0

/-- One device leaves its tree: DEVICE_GONE, its pipes Closing with a cause, its address held back while items of it have
no completion (05 Event codes; 06 R177, R181; 07 R211). -/
def State.deviceGone (s : State) (p out det a : Nat) : State :=
  let pipes := s.devicePipes p a
  let s := s.portEvent p 0x0003 (handle p a) 0 []
  let s := (s.closeAll out det pipes).askGone p a
  let busy := (s.pipesWhere (fun x => decide (x.port = p) && decide (x.address = a) && decide (x.queue ≠ []))) ≠ []
  s.modUsb p (fun u => { u with
    devices := u.devices.filter (fun d => decide (d.addr ≠ a))
    enums := u.enums.filter (fun e => decide (e.addr ≠ a))
    heldAddrs := if busy then u.heldAddrs ++ [a] else u.heldAddrs })

/-- The devices of a list ordered deepest first (06 R181). -/
def deepestFirst (l : List Device) : List Nat :=
  ([7, 6, 5, 4, 3, 2, 1, 0].flatMap (fun k => l.filter (fun d => decide (d.depth = k)))).map (·.addr)

/-- Every device of a tree leaves, deepest first (06 R181). -/
def State.treeGone (s : State) (p out det : Nat) : State :=
  let s := (deepestFirst (s.getUsb p).devices).foldl (fun s a => s.deviceGone p out det a) s
  (s.dropAsks p).modUsb p (fun u => { u with enums := [], devices := [] })

/-- The addresses of the devices below a device, itself apart. -/
def belowOf (l : List Device) : Nat → List Nat → List Nat
  | 0, _ => []
  | k + 1, as =>
    let next := (l.filter (fun d => as.contains d.parent)).map (·.addr)
    if next = [] then [] else next ++ belowOf l k next

/-- The devices below a device leave, deepest first (06 R173, R181). -/
def State.belowGone (s : State) (p out det a : Nat) : State :=
  let below := belowOf (s.getUsb p).devices 6 [a]
  (deepestFirst ((s.getUsb p).devices.filter (fun d => below.contains d.addr))).foldl
    (fun s b => s.deviceGone p out det b) s

/-- What any state but Resetting, Enabled and Suspended leaves of a reset, suspend or fallback in progress. -/
def PortUsb.quiet (u : PortUsb) : PortUsb :=
  { u with resetKind := .none, resetTries := 0, timebaseFrom := false, fallback := false, suspBy := .none, suspEntry := false,
           wakeInEntry := false, suspCheck := false, resuming := false, inFlight := [] }

/-! ### Restores -/

/-- A restore that fails: held items end, DEVICE_GONE for the old handles, RESTORE_FAIL and its count (06 R189). -/
def State.restoreFail (s : State) (p : Nat) : State :=
  match (s.getUsb p).restore with
  | none => s
  | some r =>
    let (out, det) := if r.trip then (0x0A, 0) else (0x04, 0x21)
    let s := s.modUsb p (fun u => { u with
      restore := none, hold := false, restoreDevs := [], restoresFailed := satAdd u.restoresFailed 1, fallback := false })
    let s := (s.endTree p out det).treeGone p out det
    s.usbEvent p 0x100

/-- A restore is dropped where its port leaves for a state that ends its items another way: none of the failures of R189, so it is not
counted as failed (06 R182, R189). -/
def State.dropRestore (s : State) (p : Nat) : State :=
  if (s.getUsb p).restore = none then s
  else s.modUsb p (fun u => { u with restore := none, hold := false, restoreDevs := [] })

/-! ### Reset -/

/-- The highest speed code at which a port may train now: `0x4022:p` and the fallback cap (06 R169). -/
def State.topMode (s : State) (p : Nat) : Nat := min (s.cfg 0x4022 p) (s.getUsb p).cap

/-- Whether a port's cable is x2-capable: unless its VDO declares USB 2.0 only (13 R350). -/
def PortPwr.cableX2 (w : PortPwr) : Bool := match w.cable with | some c => !c.caps.usb2Only | none => true

/-- The lane pairs searched for a receiver termination: both where the cable is x2-capable, else the pair of the CC orientation; bit 0
the pair of CC1, bit 1 that of CC2 (06 R167). -/
def PortPwr.pairs (w : PortPwr) : Nat := if w.cableX2 then 3 else if w.orient then 2 else 1

/-- The search at VBUS good on the lane pairs and on D+ and D− (bus code 10); a DCP shorts D+ to D− in its place (bus code 11) (06
R167; 13 R346; log entry 3). -/
def State.search (s : State) (p : Nat) : State :=
  if s.cfg 0x4016 p = 2 then s.emit (.bus p 11 0) else s.emit (.bus p 10 (s.getPwr p).pairs)

/-- The bus operation of a reset: 3 USB 2.0 reset, 4 hot reset, 5 warm reset, 6 Polling (06 R168, R172). -/
def resetCode : ResetKind → Nat
  | .usb2 => 3
  | .hot => 4
  | .warm => 5
  | .polling => 6
  | .none => 0

/-- A reset or training is driven (06 R168, R172). -/
def State.drive_ (s : State) (p : Nat) (k : ResetKind) : State :=
  (s.modUsb p (fun u => { u with resetKind := k, timebaseFrom := false })).emit (.bus p (resetCode k) (s.getUsb p).cap)

/-- A port reset starts: items end `ABORTED_PORT_RESET`, devices below an external hub leave, the pipes of the device are
resynchronised (06 R172, R173; 07 R209). -/
def State.startReset (s : State) (p : Nat) (item : Option Nat) : State :=
  let super := isSuper (speedCode (s.getUsb p).speed)
  let roots := ((s.getUsb p).devices.filter (fun d => decide (d.parent = 0))).map (·.addr)
  let s := (s.supersede p).endTree p 0x08 0
  let s := roots.foldl (fun s a => s.belowGone p 0x08 0 a) s
  let s := (s.portPipes p).foldl (fun s n => s.resync n 0) s
  let s := s.modUsb p (fun u => { u.quiet with actionItem := item, resetTries := 0, enums := [] })
  (s.drive_ p (if super then .hot else .usb2)).toState p .resetting

/-- A disable the tenant asked for: items end `ABORTED_OWNER` DETAIL 0x36 (06 R182, R183). -/
def State.doDisable (s : State) (p : Nat) (item : Option Nat) : State :=
  let s := (s.supersede p).endTree p 0x07 0x36
  ((s.modUsb p PortUsb.quiet).toState p .disabled).finishO item 0 0

/-- A suspend entry starts: start-of-frame packets stop, or the link moves to U3 (06 R191). -/
def State.startSuspend (s : State) (p : Nat) (by_ : SuspBy) (item : Option Nat) : State :=
  let s := s.modUsb p (fun u => { u with suspBy := by_, suspEntry := true, wakeInEntry := false, actionItem := item })
  (s.toState p .suspended).emit (.bus p 7 0)

/-- Resume signalling is driven, K or the U3 exit handshake (06 R193). -/
def State.driveResume (s : State) (p : Nat) : State :=
  let u := s.getUsb p
  if u.suspEntry then s.modUsb p (fun u => { u with wakeInEntry := true })
  else if u.resuming then s
  else (s.modUsb p (fun u => { u with resuming := true, suspCheck := false })).emit (.bus p 8 0)

/-- The deferred action is applied on entry to Enabled (06 R183). -/
def State.applyDeferred (s : State) (p : Nat) : State :=
  match (s.getUsb p).deferred with
  | none => s
  | some d =>
    let s := s.modUsb p (fun u => { u with deferred := none })
    match d with
    | .reset i => s.startReset p i
    | .suspend i => s.startSuspend p .owner i
    | .disable i => s.doDisable p i

/-- The port enters Enabled after a reset; deferred actions apply at once unless a restore is to run first (06 R174, R182,
R183). -/
def State.enterEnabled (s : State) (p : Nat) (sp : Speed) : State :=
  let s := s.modUsb p (fun u => { u with resetKind := .none, resetTries := 0, speed := sp, timebaseFrom := true, linkpm := 0 })
  let s := ((s.toState p .enabled).modUsb p (fun u => { u with speed := sp })).actionDone p
  if (s.getUsb p).restore = none then s.applyDeferred p else s

/-! ### Fallback -/

/-- The next fallback step from a speed code: itself where there is none (06 Fallback steps). -/
def nextStep (code : Nat) : Nat := if code = 7 then 5 else if code = 5 ∨ code = 6 then 4 else if code = 4 then 3 else code

/-- Whether the periodic pipes of a tree fit at high speed, placed anew one after the other (06 R187, 08 R250). -/
def State.fitsHs (s : State) (p : Nat) : Bool :=
  let own := (s.pipes.filter (fun e => e.2.reserved && decide (e.2.port = p))).map (·.1)
  let bare := own.foldl (fun s n => s.setPipes n Pipe.reset) s
  (own.foldl (fun a n =>
    let x := { s.getPipes n with speed := 3, burst := 0, split := 0 }
    let (code, y) := a.1.admitPipe x
    (a.1.setPipes n y, a.2 && decide (code = 0))) (bare, true)).2

/-- Whether the next step is allowed and available (06 R186, R187). -/
def State.stepOk (s : State) (p code : Nat) : Bool :=
  let f := s.cfg 0x4023 p
  if code = 4 then decide (f = 2) && s.fitsHs p else isSuper code && decide (1 ≤ f)

/-- Degraded with no step left: the port goes Disabled, items end `XACT_FAILED` 0x21 (06 R182, R183, R187, R189). -/
def State.degradedOut (s : State) (p : Nat) : State :=
  let s := s.restoreFail p
  let s := s.endTree p 0x04 0x21
  ((s.modUsb p PortUsb.quiet).toState p .disabled).endDeferred p 0x04 0x21

/-- One fallback step: the cap falls, and the port retrains by warm reset, or leaves SuperSpeed and waits for the device's
USB 2.0 pull-up (06 R186). -/
def State.stepDown (s : State) (p code : Nat) : State :=
  let next := nextStep code
  let s := (s.dropAsks p).modUsb p (fun u => { u with cap := next, resetTries := 0, fallbacks := satAdd u.fallbacks 1 })
  let s := s.usbEvent p 0x40
  if next = 3 then
    (s.modUsb p (fun u => { u with ssDisabled := true, resetKind := .none, connKind := u.pullUp, speed := .none })).emit
      (.bus p 9 0)
  else s.drive_ p .warm

/-- Degraded: fallback and restore where a step is allowed and available, else Disabled; the resume requests of a suspended port complete
as it is *Enabled* (06 R182, R186, R187, R190). -/
def State.degraded (s : State) (p : Nat) : State :=
  let u := s.getUsb p
  let code := if u.fallback then u.cap else speedCode u.speed
  if u.state ≠ .enabled ∧ u.state ≠ .suspended then s
  else if s.stepOk p code = false then s.degradedOut p
  else
    let s :=
      if u.fallback then s.modUsb p (fun u => { u with
        restore := u.restore.map (fun r => ⟨r.trip, .connect⟩), restoreDevs := if u.restore = none then [] else u.devices })
      else if s.cfg 0x4025 p = 1 then
        s.modUsb p (fun u => { u with
          fallback := true, hold := true, restore := some ⟨false, .connect⟩, restoreDevs := u.devices, suspEntry := false,
          resuming := false, suspBy := .none })
      else
        ((s.endTree p 0x04 0x21).treeGone p 0x04 0x21).modUsb p (fun u => { u with
          fallback := true, suspEntry := false, resuming := false, suspBy := .none })
    let s := (s.stepDown p code).toState p .enabled
    if u.state = .suspended then s.supersede p else s

/-! ### VBUS, trips and containment -/

/-- The port's link is gone with its device or its VBUS: cap, SuperSpeed and pull-up start afresh (06 R170, R186). -/
def PortUsb.fresh (u : PortUsb) : PortUsb :=
  { u.quiet with cap := 7, ssDisabled := false, connKind := .none, pullUp := .none, recWindow := 0 }

/-- VBUS becomes good (06 R167, R182, R188). -/
def State.portGood (s : State) (p : Nat) : State :=
  match (s.getUsb p).state with
  | .unpowered => (s.toState p .powered).search p
  | .tripped =>
    let s := match (s.getUsb p).restore with
      | some _ =>
        if s.cfg 0x4025 p = 1 then s.modUsb p (fun u => { u with restore := some ⟨true, .connect⟩ })
        else (((s.endTree p 0x0A 0).dropRestore p).treeGone p 0x0A 0).endDeferred p 0x0A 0
      | none => s
    (s.toState p .powered).search p
  | _ => s

/-- VBUS is off: Unpowered, or Quarantined as before; items end `POWER_LOST` and the tree is gone (06 R182, R183; 07
R211). -/
def State.portOff (s : State) (p : Nat) : State :=
  let s := (s.endTree p 0x0A 0).dropRestore p
  let s := (s.treeGone p 0x0A 0).modUsb p PortUsb.fresh
  if (s.getUsb p).state = .quarantined then s else (s.toState p .unpowered).endDeferred p 0x0A 0

/-- A trip: items are held for a restore, or end `POWER_LOST`; VBUS goes off, so the cap and the SuperSpeed disable end (06 R182, R183,
R186, R188, R190). -/
def State.portTrip (s : State) (p : Nat) : State :=
  let u := s.getUsb p
  if u.state = .quarantined ∨ u.state = .tripped then s
  else
    let keep := (decide (u.state = .resetting) || decide (u.state = .enabled) || decide (u.state = .suspended)) &&
      decide (u.devices ≠ []) && decide (s.cfg 0x4025 p = 1)
    let s := s.modUsb p PortUsb.fresh
    if keep then
      (s.modUsb p (fun u => { u with
        hold := true, restore := some ⟨true, .vbus⟩, restoreDevs := u.devices, enums := [] })).toState p .tripped
    else
      let s := (s.endTree p 0x0A 0).dropRestore p
      ((s.treeGone p 0x0A 0).toState p .tripped).endDeferred p 0x0A 0

/-- The retries are used up: Quarantined, items end `POWER_LOST` (06 R182). -/
def State.portExhausted (s : State) (p : Nat) : State :=
  if (s.getUsb p).state = .tripped then
    let s := (s.endTree p 0x0A 0).dropRestore p
    ((s.treeGone p 0x0A 0).toState p .quarantined).endDeferred p 0x0A 0
  else s

/-- contain-port: Quarantined, items end `INTERNAL_FAULT`; the fault that contained the port is kept (06 R182, R183; 16
R407, R411). -/
def State.portContain (s : State) (src inst p : Nat) : State :=
  if (s.getUsb p).state = .quarantined then
    s.modUsb p (fun u => { u with containedBy := if u.containedBy = none then some (src, inst) else u.containedBy })
  else
    let s := (s.endTree p 0x0F 0).dropRestore p
    let s := s.modUsb p (fun u => { u.quiet with containedBy := some (src, inst) })
    (s.toState p .quarantined).endDeferred p 0x0F 0

/-- Release of a Quarantined port: every device is enumerated anew (06 R182, R184). -/
def State.portRelease (s : State) (p : Nat) : State :=
  if (s.getUsb p).state = .quarantined then
    let s := (s.treeGone p 0x09 0).modUsb p (fun u => { u.fresh with containedBy := none })
    if (s.getProt p).vbusGood then (s.toState p .powered).search p else s.toState p .unpowered
  else s

/-! ### Connection -/

/-- A connection is seen; a DCP carries no USB data, so its port stays *Powered* (13 R346; 06 R167, R168, R170; during a step to high speed the port stays Enabled, R186). -/
def State.portConnect (s : State) (p : Nat) (k : ConnKind) : State :=
  let u := s.getUsb p
  let usb2 := decide (k = .dPlus) || decide (k = .dMinus)
  if s.cfg 0x4016 p = 2 then s else
  let s := if usb2 then s.modUsb p (fun u => { u with pullUp := k }) else s
  if k = .none ∨ (k = .rxTerm ∧ u.ssDisabled = true) then s
  else if u.state = .powered then (s.modUsb p (fun u => { u with connKind := k })).toState p .attaching
  else if u.state = .enabled ∧ u.fallback = true ∧ u.cap = 3 ∧ usb2 = true then s.modUsb p (fun u => { u with connKind := k })
  else s

/-- A connection is confirmed: Resetting, by Polling at SuperSpeed and by a port reset at USB 2.0 (06 R168, R182, R186). -/
def State.portConfirmed (s : State) (p : Nat) : State :=
  let u := s.getUsb p
  if u.state = .attaching then
    let s := s.usbEvent p 2
    let s := s.modUsb p (fun u => { u with resetTries := 0 })
    (s.drive_ p (if u.connKind = .rxTerm then .polling else .usb2)).toState p .resetting
  else if u.state = .enabled ∧ u.fallback = true ∧ u.cap = 3 ∧ u.connKind ≠ .none then (s.usbEvent p 2).drive_ p .usb2
  else s

/-- The device leaves; SuperSpeed is allowed again (06 R170, R181, R182, R183). -/
def State.portGone (s : State) (p : Nat) : State :=
  let u := s.getUsb p
  match u.state with
  | .powered => s.modUsb p (fun u => { u with connKind := .none, pullUp := .none, ssDisabled := false, cap := 7 })
  | .attaching =>
    let s := (s.usbEvent p 4).modUsb p (fun u => { u with connKind := .none, pullUp := .none, ssDisabled := false, cap := 7 })
    (s.toState p .powered).endDeferred p 0x09 0
  | .resetting | .enabled | .suspended | .disabled =>
    let s := s.usbEvent p 4
    let s := (s.endTree p 0x09 0).dropRestore p
    let s := (s.treeGone p 0x09 0).modUsb p PortUsb.fresh
    (s.toState p .powered).endDeferred p 0x09 0
  | _ => s

/-- Polling has not reached U0: SuperSpeed is disabled until the next disconnect, and a USB 2.0 pull-up already there is
taken at once; during a fallback the next step follows (06 R170, R186). -/
def State.pollTimeout (s : State) (p : Nat) : State :=
  let u := s.getUsb p
  if u.state = .enabled ∧ u.fallback = true then s.degraded p
  else if u.state = .resetting ∧ u.resetKind = .polling then
    let s := s.modUsb p (fun u => { u with ssDisabled := true, resetKind := .none, connKind := .none })
    let s := s.toState p .powered
    if u.pullUp = .none then s else s.portConnect p u.pullUp
  else s

/-- The SuperSpeed modes in the order of 06 R169. -/
def superModes : List Speed := [.gen2x2, .gen2x1, .gen1x2, .gen1x1]

/-- The generation of a SuperSpeed mode and its lanes; 0 for USB 2.0 speeds. -/
def modeOf : Speed → Nat × Nat
  | .gen1x1 => (1, 1)
  | .gen1x2 => (1, 2)
  | .gen2x1 => (2, 1)
  | .gen2x2 => (2, 2)
  | _ => (0, 0)

/-- The mode a port runs at after a training in which the far end and the lane pairs reached `sp`: at SuperSpeed the first mode of R169
that both ends support and that `0x4022:p`, the cap and the cable allow; at USB 2.0 low speed for a pull-up on D−, else full speed
or, after the chirp and where `0x4022:p` is not 2, high speed (06 R169, R171). -/
def State.trainedMode (s : State) (p : Nat) (sp : Speed) : Speed :=
  let u := s.getUsb p
  if sp = .none then .none
  else if u.resetKind = .usb2 then
    if (if u.pullUp = .none then u.connKind else u.pullUp) = .dMinus then .ls
    else if sp = .hs ∧ s.cfg 0x4022 p ≠ 2 then .hs else .fs
  else
    ((superModes.find? (fun k => decide (speedCode k ≤ s.topMode p) && decide ((modeOf k).1 ≤ (modeOf sp).1) &&
      decide ((modeOf k).2 ≤ (modeOf sp).2) && (decide ((modeOf k).2 = 1) || (s.getPwr p).cableX2)))).getD .none

/-- A reset or training ends; one that fails in a fallback leads to the next step at once (06 R172, R174, R175, R182, R186). -/
def State.resetEnd (s : State) (p : Nat) (trained : Speed) : State :=
  let u := s.getUsb p
  let sp := s.trainedMode p trained
  if u.resetKind = .none then s
  else if sp ≠ .none then
    if u.state = .resetting then s.enterEnabled p sp
    else s.modUsb p (fun u => { u with
      resetKind := .none, resetTries := 0, speed := sp, timebaseFrom := true, linkpm := 0 })
  else if u.state = .enabled then s.degraded p
  else if u.resetTries < 2 then
    let s := s.modUsb p (fun u => { u with resetTries := u.resetTries + 1 })
    s.drive_ p (if u.resetKind = .hot then .warm else u.resetKind)
  else
    let s := (s.usbEvent p 8).restoreFail p
    let lost := match u.restore with | some r => r.trip | none => false
    ((s.modUsb p PortUsb.quiet).toState p .disabled).endDeferred p (if lost then 0x0A else 0x04) (if lost then 0 else 0x21)

/-- A SuperSpeed Recovery; a *Suspended* port is Degraded only where its U3 exit fails (06 R182, R185, R193). -/
def State.recovery (s : State) (p : Nat) (u0 : Bool) : State :=
  let u := s.getUsb p
  if (u.state ≠ .enabled ∧ u.state ≠ .suspended) ∨ isSuper (speedCode u.speed) = false then s
  else if u0 then
    let s := s.modUsb p (fun u => { u with recoveries := satAdd u.recoveries 1, recWindow := u.recWindow + 1 })
    let s := s.usbEvent p 0x20
    if u.state = .enabled ∧ s.cfg 0x402E p ≤ (s.getUsb p).recWindow then
      (s.modUsb p (fun u => { u with recWindow := 0 })).degraded p
    else s
  else if u.state = .enabled ∨ u.resuming = true then s.degraded p
  else s

/-! ### Suspend and resume -/

/-- Whether a port is suspend-bound: Default USB Power on Rp without a PD contract, or a PD contract whose offer carried
USB Suspend Supported and whose Request did not set No USB Suspend (06 R194). -/
def State.suspBound (s : State) (p : Nat) : Bool :=
  let w := s.getPwr p
  if w.explicit then w.offerSusp && !w.noSuspend else decide (w.rp = 0)

/-- Suspend entry is done (06 R191, R195, R198). -/
def State.suspendDone (s : State) (p : Nat) : State :=
  let u := s.getUsb p
  if u.state = .suspended ∧ u.suspEntry = true then
    let bound := s.suspBound p
    let s := s.modUsb p (fun x => { x with
      suspEntry := false, linkpm := 3, suspCheck := bound && !u.wakeInEntry, wakeInEntry := false })
    let s := s.actionDone p
    if u.wakeInEntry then s.driveResume p else s
  else s

/-- Resume signalling is done: Enabled, held items released (06 R182, R193). -/
def State.resumed (s : State) (p : Nat) : State :=
  let u := s.getUsb p
  if u.state = .suspended ∧ u.resuming = true then
    let s := s.modUsb p (fun u => { u with resuming := false, suspBy := .none, suspCheck := false, linkpm := 0 })
    ((s.toState p .enabled).supersede p).serve p
  else s

/-- A remote wake: REMOTE_WAKE to tenant and house, answered by resume; during a suspend entry the entry completes first
(06 R197, R198). -/
def State.remoteWaken (s : State) (p device : Nat) : State :=
  let u := s.getUsb p
  if u.state = .suspended then
    ((s.usbEvent p 0x400).portEvent p 0x0007 (handle p device) 0 []).driveResume p
  else s

/-- The idle policy suspends a tree without open items and open periodic pipes (06 R192). -/
def State.idleSuspend (s : State) (p : Nat) : State :=
  let u := s.getUsb p
  let periodic := (s.portPipes p).any (fun n => decide ((s.getPipes n).typ = 1) || decide ((s.getPipes n).typ = 3))
  if u.state = .enabled ∧ u.fallback = false ∧ s.cfg 0x4026 p ≠ 0 ∧ s.treeItems p = [] ∧ periodic = false then
    s.startSuspend p .idle none
  else s

/-- An item wakes a tree suspended by the idle policy (06 R192). -/
def State.itemWake (s : State) (p : Nat) : State :=
  if (s.getUsb p).state = .suspended ∧ (s.getUsb p).suspBy = .idle then s.driveResume p else s

end Sys2Proof.Machine
end

