-- ==== Sys2Proof/Machine/Contracts.lean ====
section
/-!
DEFINITION. Power contracts of a port: ceilings and the raise queue, Rp and BC 1.2 contracts, VCONN, offers, Requests and
negotiations (13 R345 to R365, 14 R373).
-/
namespace Sys2Proof.Machine

/-! ### Budgets, ceilings and the raise queue -/

/-- The port power budget in force, mW (13 R361). -/
def State.budget (s : State) (p : Nat) : Nat := s.cfg 0x4012 p

/-- The admission power, mW (13 R363). -/
def State.admPower (s : State) : Nat := s.cfg 0x2040 2

/-- A port's place in its gallery's raise queue, 1 first; 0 where it is not queued (13 R363, R368). -/
def State.queuePos (s : State) (p : Nat) : Nat :=
  match (s.getGals (galOf p)).raiseQ.findIdx? (· = p) with
  | some n => n + 1
  | none => 0

/-- A port joins the tail of its gallery's raise queue when its budget exceeds the admission power (13 R363). -/
def State.joinQueue (s : State) (p : Nat) : State :=
  if s.admPower < s.budget p ∧ s.queuePos p = 0 then
    s.modGals (galOf p) (fun g => { g with raiseQ := g.raiseQ ++ [p] })
  else s

/-- A port leaves the raise queue (13 R364, R365). -/
def State.leaveQueue (s : State) (p : Nat) : State :=
  s.modGals (galOf p) (fun g => { g with raiseQ := g.raiseQ.filter (· ≠ p) })

/-- The offer ceiling P: the budget, or the admission power while the port waits in the raise queue or its stage warns
of temperature, when that is lower (13 R345, R359). -/
def State.ceiling (s : State) (p : Nat) : Nat :=
  if s.queuePos p ≠ 0 ∨ (s.getPwr p).warn = true then min (s.budget p) s.admPower else s.budget p

/-- Whether a gallery's contracts are frozen, as they are until normal service (13 R360; 16 R413 0x3F; 01 R24; 17 R430, R441). -/
def State.frozen (s : State) (g : Nat) : Bool :=
  let x := s.getGals g
  x.frozenBus || x.frozenCur || x.frozenLink || !s.inService

/-- The sum of the budgets of a list of ports, each at the larger of its effective and pending values (13 R361). -/
def State.reservedOf (s : State) (ps : List Nat) : Nat :=
  ps.foldl (fun a p => a + max (s.budget p) (match s.pendOf 0x4012 p with | some v => leNat v.value | none => 0)) 0

/-! ### PMBus and PD messages -/

/-- A PMBus command to a port's stage (13 R358). -/
def State.pmbus (s : State) (p cmd arg : Nat) : State :=
  s.emit (.pmbus (galOf p) (s.cfg 0x3013 (galOf p) + (p - 1) % 8) cmd arg)

/-- The stage is commanded to a voltage in mV (13 R358). -/
def State.setVout (s : State) (p mv : Nat) : State := (s.modPwr p (fun w => { w with vout := mv })).pmbus p 0x21 mv

/-- A PD message on SOP; `msg` numbers the kinds: 1 Source_Capabilities, 2 EPR_Source_Capabilities, 3 Accept, 4 Reject,
5 Wait, 6 PS_RDY, 7 Hard Reset, 8 Discover Identity, 9 Status, 10 Revision, 11 NAK, 12 EPR_Mode Enter Succeeded, 13
EPR_Mode Enter Failed, 14 Request, 15 DR_Swap, 16 EPR_KeepAlive_Ack (log entry 3). -/
def State.pd (s : State) (p msg : Nat) (args : List Nat) : State := s.emit (.pd p 0 msg args)

/-! ### Contracts -/

/-- Contract power in mW of a voltage in 10 mV and a current in 10 mA units (13 R353). -/
def contractPower (v c : Nat) : Nat := v * c / 10

/-- A contract forms or changes: `PWR_EVT.CONTRACT` and the CONTRACT event (13 R353, R368; 05 Event codes). -/
def State.setContract (s : State) (p kind v c : Nat) : State :=
  let w := s.getPwr p
  if w.kind = kind ∧ w.voltage = v ∧ w.current = c then s
  else
    let s := s.modPwr p (fun w => { w with kind := kind, voltage := v, current := c, power := contractPower v c })
    (s.pwrEvent p 4).portEvent p 0x0005 0 (contractPower v c) []

/-- The contract ends (13 R342). -/
def State.endContract (s : State) (p : Nat) : State :=
  s.modPwr p (fun w => { w with
    kind := 0, voltage := 0, current := 0, power := 0, explicit := false, epr := false, offers := [], capCount := 0,
    goodCrc := false, transition := none, negot := false, renegOwed := false, mustReq := false, noSuspend := false,
    offerSusp := false, ilimHeld := false, ilimUntil := none, rpNext := none, bcDone := false })

/-- The power of an Rp advertisement, mW (13 Rp advertisement). -/
def rpPower (n : Nat) : Nat := if n = 2 then 15000 else if n = 1 then 7500 else 4500

/-- The current of an Rp advertisement, mA (13 R345, 14 R373). -/
def rpCurrent (n : Nat) : Nat := if n = 2 then 3000 else if n = 1 then 1500 else 900

/-- The highest Rp within the Rp ceiling whose power is within P (13 R345). -/
def State.rpPick (s : State) (p : Nat) : Nat :=
  let top := s.cfg 0x4015 p
  if 2 ≤ top ∧ 15000 ≤ s.ceiling p then 2 else if 1 ≤ top ∧ 7500 ≤ s.ceiling p then 1 else 0

/-- The current limit takes a value; a fall of Rp is followed after tRPADJ (13 R345, 14 R373). -/
def PortPwr.limit (w : PortPwr) (ma : Nat) (fell : Bool) : PortPwr :=
  if fell && decide (ma < w.ilim) then { w with rpNext := some ma } else { w with ilim := ma, rpNext := none }

/-- The contract kind and current in mA without PD: the Rp contract, or a BC 1.2 contract of 1.5 A unless the Rp contract
is of higher power (13 R345, R346). -/
def State.typeCOf (s : State) (p : Nat) : Nat × Nat :=
  let n := s.rpPick p
  let mode := s.cfg 0x4016 p
  if 7500 ≤ s.ceiling p ∧ rpPower n ≤ 7500 ∧ (mode = 2 ∨ (mode = 1 ∧ (s.getPwr p).bcDone = true)) then
    (if mode = 2 then 5 else 4, 1500)
  else (n + 1, rpCurrent n)

/-- Rp and the contract of an attached port without an explicit contract; the contract forms where VBUS is good (13 R345,
R346; 14 R373). -/
def State.typeC (s : State) (p : Nat) : State :=
  let w := s.getPwr p
  if w.cc ≠ .attached ∨ w.explicit = true then s
  else
    let n := s.rpPick p
    let good := (s.getProt p).vbusGood
    let ma := if good then (s.typeCOf p).2 else rpCurrent n
    let kind := (s.typeCOf p).1
    let s := s.modPwr p (fun w => { w.limit ma (decide (n < w.rp)) with rp := n })
    if good then s.setContract p kind 500 (ma / 10) else s

/-! ### VCONN -/

/-- Ports of a gallery that source VCONN (13 R347, R368 VCONN_PORTS). -/
def State.vconnPorts (s : State) (g : Nat) : Nat := ((portsOfGal g).filter (fun p => (s.getPwr p).vconn)).length

/-- VCONN goes off (13 R347). -/
def State.vconnOff (s : State) (p : Nat) : State :=
  if (s.getPwr p).vconn then (s.modPwr p (fun w => { w with vconn := false })).emit (.pin 2 p false) else s

/-- VCONN at VBUS good for a cable with Ra: applied, or denied (13 R347, R348; 02 R77). -/
def State.vconnApply (s : State) (p : Nat) : State :=
  let s := s.voteUse p
  let w := s.getPwr p
  if w.cc ≠ .attached ∨ w.ra = false ∨ w.vconn = true ∨ w.vconnFaulted = true then s
  else if s.cfg 0x4017 p = 1 ∧ s.vconnEnabled p = true ∧ s.cfg 0x4018 p = 1 ∧
      (s.vconnPorts (galOf p) + 1) * 1000 ≤ s.cfg 0x3012 (galOf p) then
    (s.modPwr p (fun w => { w with vconn := true, discCount := 0, disc2 := false })).emit (.pin 2 p true)
  else s.pwrEvent p 0x40

/-! ### Offers -/

/-- The cable limit Ic in 10 mA units (13 R350). -/
def PortPwr.ic (w : PortPwr) : Nat :=
  match w.cable with
  | some c => if c.caps.amps5 then 500 else 300
  | none => 300

/-- Whether the cable is EPR-capable (13 R350). -/
def PortPwr.cableEpr (w : PortPwr) : Bool :=
  match w.cable with
  | some c => c.caps.epr && c.caps.v50
  | none => false

/-- min(Ic, P / V) in 10 mA units, rounded down; V in 10 mV units (13 Source offers). -/
def offerAmps (ic P v : Nat) : Nat := min ic (P * 10 / v)

/-- Whether an object tested against Vs at `v` (10 mV) and with its highest voltage at `top` may be offered: Vs reaches it,
and MFR_VOUT_MAX where that is below Vs (13 R352, R359). -/
def State.offerFits (s : State) (p v top : Nat) : Bool :=
  let vs := s.cfg 0x3011 (galOf p)
  let mfr := (s.getPwr p).stageMax
  decide (v * 10 ≤ vs) && (decide (vs ≤ mfr) || decide (top * 10 ≤ mfr))

/-- The SPR objects before their positions are given (13 R352). -/
def State.sprRaw (s : State) (p : Nat) : List Offer :=
  let w := s.getPwr p
  let P := s.ceiling p
  let set := s.cfg 0x4013 p
  let fix := fun (b v : Nat) =>
    if bitOf set b && s.offerFits p v v && decide (50 ≤ offerAmps w.ic P v) then
      [({ pos := 0, kind := .fixed, vMin := v, vMax := v, iMax := offerAmps w.ic P v, pdp := 0 } : Offer)]
    else []
  let pps := fun (v top : Nat) =>
    let i := offerAmps w.ic P top / 5 * 5
    if bitOf set 3 && s.offerFits p v top && decide (50 ≤ i) then
      [({ pos := 0, kind := .pps, vMin := 330, vMax := top, iMax := i, pdp := 0 } : Offer)]
    else []
  [({ pos := 0, kind := .fixed, vMin := 500, vMax := 500, iMax := offerAmps w.ic P 500, pdp := 0 } : Offer)] ++
    fix 0 900 ++ fix 1 1500 ++ fix 2 2000 ++ pps 900 1100 ++ (if fix 2 2000 = [] then [] else pps 2000 2100)

/-- The EPR objects before their positions are given (13 R352). -/
def State.eprRaw (s : State) (p : Nat) : List Offer :=
  let w := s.getPwr p
  let P := s.ceiling p
  let set := s.cfg 0x4013 p
  let vs := s.cfg 0x3011 (galOf p) / 10
  let fix := fun (v : Nat) =>
    if bitOf set 4 && s.offerFits p v v && decide (50 ≤ offerAmps w.ic P v) then
      [({ pos := 0, kind := .eprFixed, vMin := v, vMax := v, iMax := offerAmps w.ic P v, pdp := 0 } : Offer)]
    else []
  let pdp := min 240 (P / 1000)
  let avs :=
    if bitOf set 5 && decide (2800 ≤ vs) && s.offerFits p 1500 vs && decide (50 ≤ offerAmps w.ic (pdp * 1000) vs) then
      [({ pos := 0, kind := .avs, vMin := 1500, vMax := vs, iMax := offerAmps w.ic (pdp * 1000) vs, pdp := pdp } : Offer)]
    else []
  if w.cableEpr then fix 2800 ++ fix 3600 ++ fix 4800 ++ avs else []

/-- Positions from `n` on. -/
def numberOffers (n : Nat) (l : List Offer) : List Offer := (l.zipIdx n).map (fun e => { e.1 with pos := e.2 })

/-- The offers of a port: the SPR list from position 1, and in EPR mode the EPR list from position 8 (13 R352). -/
def State.offersOf (s : State) (p : Nat) : List Offer :=
  numberOffers 1 (s.sprRaw p) ++ (if (s.getPwr p).epr then numberOffers 8 (s.eprRaw p) else [])

/-- Whether a Request is within an offered object (13 R353). -/
def Offer.takes (o : Offer) (ic v c : Nat) : Bool :=
  match o.kind with
  | .fixed | .eprFixed => decide (v = o.vMin) && decide (c ≤ o.iMax)
  | .pps => decide (o.vMin ≤ v) && decide (v ≤ o.vMax) && decide ((v - o.vMin) % 2 = 0) && decide (c ≤ o.iMax)
  | .avs => decide (o.vMin ≤ v) && decide (v ≤ o.vMax) && decide ((v - o.vMin) % 10 = 0) &&
      decide (c ≤ offerAmps ic (o.pdp * 1000) v)

/-- The contract kind of an object (13 R367 0x8271). -/
def Offer.code (o : Offer) : Nat :=
  match o.kind with
  | .fixed => 6
  | .pps => 7
  | .eprFixed => 8
  | .avs => 9

/-- An object as sent: position, kind, voltages and current (log entry 3). -/
def Offer.args (o : Offer) : List Nat := [o.pos, o.code, o.vMin, o.vMax, o.iMax]

/-- Whether the present contract lies within the offers (13 R357). -/
def State.contractFits (s : State) (p : Nat) : Bool :=
  let w := s.getPwr p
  w.offers.any (fun o => o.takes w.ic w.voltage w.current)

/-! ### Negotiations -/

/-- Source_Capabilities sent, with the flags of the 5 V object: USB Communications Capable, USB Suspend Supported, EPR Mode
Capable (13 R351, R352). -/
def State.sendCaps (s : State) (p : Nat) : State :=
  let os := s.offersOf p
  let flags := [1, s.cfg 0x4014 p, b2n (s.eprRaw p ≠ [])]
  (s.modPwr p (fun w => { w with offers := os, capCount := w.capCount + 1 })).pd p
    (if (s.getPwr p).epr then 2 else 1) (flags ++ os.flatMap Offer.args)

/-- C-class values of a port take effect; a queued port whose budget fell to the admission power leaves the queue (13 R357,
R365). -/
def State.takeC (s : State) (p : Nat) : State :=
  let s := s.applyC p
  if s.budget p ≤ s.admPower then s.leaveQueue p else s

/-- A negotiation the hub starts: C-class values apply, then new Source_Capabilities on a port with an explicit contract, or
an Rp update; held while the gallery is frozen or a negotiation runs (13 R357, R360). -/
def State.renegotiate (s : State) (p : Nat) : State :=
  let w := s.getPwr p
  if w.cc ≠ .attached then s
  else if s.frozen (galOf p) || w.negot then s.modPwr p (fun w => { w with renegOwed := true })
  else
    let s := s.takeC p
    if w.explicit then
      let s := (s.modPwr p (fun w => { w with negot := true, rp := 1, renegOwed := false })).sendCaps p
      s.modPwr p (fun w => { w with mustReq := !(s.contractFits p) })
    else (s.modPwr p (fun w => { w with renegOwed := false })).typeC p

/-- A negotiation ends; one that is owed starts (13 R357). -/
def State.negotDone (s : State) (p : Nat) : State :=
  let s := s.modPwr p (fun w => { w with negot := false, rp := if w.explicit then 2 else w.rp })
  if (s.getPwr p).renegOwed then s.renegotiate p else s

/-- VBUS became good on an attached port: PD starts anew, the Type-C contract forms, VCONN is applied (13 R345, R347,
R351). -/
def State.contractStart (s : State) (p : Nat) : State :=
  if (s.getPwr p).cc = .attached then
    let s := s.modPwr p (fun w => { w with
      explicit := false, epr := false, capCount := 0, goodCrc := false, negot := false, transition := none, mustReq := false,
      ilimHeld := false, ilimUntil := none, offers := [] })
    (s.typeC p).vconnApply p
  else s

/-- I_lim holds at the larger of the old and new currents from Accept (14 R373). -/
def State.accepted (s : State) (p v c : Nat) : State :=
  s.modPwr p (fun w => { w with
    transition := some (v, c), oldVoltage := w.vout / 10, ilim := max w.ilim (c * 10), ilimNext := c * 10, ilimHeld := true,
    ilimUntil := none, rpNext := none, negot := true, mustReq := false })

/-- The hold of I_lim ends tTRANS after PS_RDY, at the tick that reaches it (14 R373; log entry 25). -/
def PortPwr.ilimTick (now : Nat) (w : PortPwr) : PortPwr :=
  match w.ilimUntil with
  | some u => if u ≤ now then { w with ilim := w.ilimNext, ilimHeld := false, ilimUntil := none, oldVoltage := w.vout / 10 } else w
  | none => w

/-- `CONTRACT` fields and bits of PWR_CONTRACT (13 R368). -/
def PortPwr.contractWord (w : PortPwr) : Nat := w.voltage % 65536 + w.current % 65536 * 65536

end Sys2Proof.Machine
end

