-- ==== Sys2Proof/Machine/Switch.lean ====
section
/-!
DEFINITION. A port's switch on its sentry die: requests, power-up and power-down, samples and trips, retries and locking
(14 R369 to R386, R490), with the port events and CC changes they raise.
-/
namespace Sys2Proof.Machine

/-! ### Critical fields -/

/-- The hub writes VBUS-allowed: the sentry die's copy, and the parity register in service or the voted copies before it (02
R77, 14 R384). -/
def State.setAllowed (s : State) (p : Nat) (b : Bool) : State :=
  let s := s.modProt p (fun r => { r with vbusAllowed := b })
  if s.inService then s.modUsb p (fun u => { u with vbusAllowedReg := b }) else s.modVote p (fun x => setBits x 0 1 (b2n b))

/-- The hub writes VCONN enable from `0x4017` (02 R77, 13 R347). -/
def State.setVconnAllowed (s : State) (p : Nat) (b : Bool) : State :=
  if s.inService then s.modPwr p (fun w => { w with vconnAllowed := b }) else s.modVote p (fun x => setBits x 1 1 (b2n b))

/-- mA in sample units of a port, rounded down (14 R370). -/
def State.units (s : State) (p ma : Nat) : Nat := ma * s.cfg 0x4065 p / 5000

/-- Sample units of a port in mA (14 R370). -/
def State.toMa (s : State) (p : Nat) (x : Int) : Int := x * 5000 / (s.cfg 0x4065 p : Nat)

/-- Whether the sentry link of a port is lost, so that its sentry die keeps its settings and VBUS state (01 R24). -/
def State.linkHeld (s : State) (p : Nat) : Bool := (s.getProt p).heldCurve.isSome

/-- The hub writes the fast-trip threshold in sample units; a lost sentry link keeps it from the sentry die (02 R77, 14 R376; 01
R24). -/
def State.setFast (s : State) (p : Nat) : State :=
  let v := s.units p (s.cfg 0x4062 p)
  let s := if s.linkHeld p then s else s.modProt p (fun r => { r with sentryFast := v })
  if s.inService then s else s.modVote p (fun x => setBits x 16 16 v)

/-- The V-class values of a port take effect while its VBUS is off, and the critical fields that follow them (00 R10; 02
R77). -/
def State.takeV (s : State) (p : Nat) : State :=
  let v := s.cfg 0x4017 p
  let r := s.cfg 0x4065 p
  let s := s.applyV p
  let s := if s.cfg 0x4017 p = v then s else s.setVconnAllowed p (decide (s.cfg 0x4017 p = 1))
  if s.cfg 0x4065 p = r then s else s.setFast p

/-! ### Requests -/

/-- Items that complete together. -/
def State.finishAll (s : State) (ks : List Nat) (out det : Nat) : State := ks.foldl (fun s k => s.finish k out det) s

/-- The items of the on requests end (14 R490). -/
def State.onDone (s : State) (p out : Nat) : State :=
  let ks := (s.getProt p).onItems
  (s.modProt p (fun r => { r with onItems := [], onPend := false })).finishAll ks out 0

/-- The items of the off requests end (14 R490). -/
def State.offDone (s : State) (p out : Nat) : State :=
  let ks := (s.getProt p).offItems
  (s.modProt p (fun r => { r with offItems := [], offPend := false })).finishAll ks out 0

/-- An item joins the on requests. -/
def State.joinOn (s : State) (p : Nat) (k : Option Nat) : State :=
  match k with
  | some k => s.modProt p (fun r => { r with onItems := r.onItems ++ [k] })
  | none => s

/-- An item joins the off requests. -/
def State.joinOff (s : State) (p : Nat) (k : Option Nat) : State :=
  match k with
  | some k => s.modProt p (fun r => { r with offItems := r.offItems ++ [k] })
  | none => s

/-! ### Power-up and power-down -/

/-- A power-up starts: the stage at 5.00 V, offset measurement, VBUS-allowed 1 (14 R371, R378, R384). -/
def State.startRamp (s : State) (p : Nat) : State :=
  let s := s.setVout p 5000
  let s := s.modProt p (fun r => { r with
    sw := .ramping, rampPhase := .offset, measuring := true, rampAt := s.now, onPend := false, bleed := false,
    vbusGood := false, gate := false })
  s.setAllowed p true

/-- The gate goes off and the bleed switch closes: *Draining*, VBUS-allowed 0 (14 R384). -/
def State.startDrain (s : State) (p : Nat) : State :=
  let s := s.modProt p (fun r => { r with sw := .draining, gate := false, bleed := true, vbusGood := false, measuring := false })
  s.setAllowed p false

/-- The switch goes *Off*: bleed off, TRIPS 0, VBUS off raised, requests end (14 R384, R490). -/
def State.toOff (s : State) (p : Nat) : State :=
  let s := s.modProt p (fun r => { r with
    sw := .off, gate := false, bleed := false, vbusGood := false, trips := 0, tripSeq := false, retrying := false, offTime := 0,
    stuck := false })
  let s := ((s.setAllowed p false).takeV p).portOff p
  (s.offDone p 0).onDone p 0x0A

/-- The switch is locked off (14 R382, R383, R384). -/
def State.toLocked (s : State) (p : Nat) : State :=
  let s := s.modProt p (fun r => { r with
    sw := .locked, gate := false, bleed := false, vbusGood := false, tripSeq := false, retrying := false, measuring := false })
  s.setAllowed p false

/-- An attached port's CC state goes *Withheld*: VCONN off, the contract ends, the raise queue is left (13 R342, R343,
R364). -/
def State.withhold (s : State) (p : Nat) : State :=
  if (s.getPwr p).cc = .attached then
    ((s.modPwr p (fun w => { w with cc := .withheld, inHardReset := false })).vconnOff p).endContract p |>.leaveQueue p
  else s

/-- A request at the switch waits for the sentry link: no change of VBUS is made while it is lost (01 R24). -/
def State.holdReq (s : State) (p kind : Nat) (k : Option Nat) : State :=
  s.modProt p (fun r => { r with heldReqs := r.heldReqs ++ [(kind, k)] })

/-- An on request at the switch (14 R379, R380, R384, R490). During the hold of a Hard Reset it waits for the power-up that
ends it (13 R356; log entry 26). -/
def State.swOn (s : State) (p : Nat) (k : Option Nat) : State :=
  let r := s.getProt p
  if s.linkHeld p then s.holdReq p 1 k
  else match r.sw with
  | .on => s.finishO k 0 0
  | .locked => s.finishO k 0x0A 0
  | .off => if (s.getPwr p).inHardReset then s.joinOn p k else (s.joinOn p k).startRamp p
  | .ramping =>
    let s := if r.offPend then s.offDone p 0 else s
    s.joinOn p k
  | .draining =>
    let s := if r.offPend then s.offDone p 0 else s
    let s := s.joinOn p k
    if (s.getPwr p).inHardReset then s else s.modProt p (fun r => { r with onPend := true })
  | .cooling => s.joinOn p k

/-- An off request at the switch (14 R378, R380, R384, R490). -/
def State.swOff (s : State) (p : Nat) (k : Option Nat) : State :=
  let r := s.getProt p
  if s.linkHeld p then s.holdReq p 0 k
  else match r.sw with
  | .off | .locked => (s.onDone p 0).finishO k 0 0
  | .ramping => ((s.onDone p 0).joinOff p k).modProt p (fun r => { r with offPend := true })
  | .on => ((s.joinOff p k).startDrain p).modProt p (fun r => { r with offPend := r.tripSeq })
  | .draining =>
    ((s.onDone p 0).joinOff p k).modProt p (fun r => { r with offPend := r.offPend || r.tripSeq })
  | .cooling => ((s.onDone p 0).joinOff p k).toOff p

/-- A detach at the switch: in a trip sequence its on requests end `POWER_LOST` when the sequence ends in *Off* (14 R384,
R490). -/
def State.swDetach (s : State) (p : Nat) : State :=
  let r := s.getProt p
  if s.linkHeld p then s.holdReq p 2 none
  else if r.sw = .cooling then s.toOff p
  else if r.sw = .draining ∧ r.tripSeq = true then s.modProt p (fun r => { r with offPend := true, onPend := false })
  else s.swOff p none

/-! ### Trips -/

/-- A trip: counted, VBUS drained, the off time set, Trip raised (14 R381, R384). `bp` is the breakpoint of cause 1. -/
def State.trip (s : State) (p cause bp : Nat) : State :=
  let r := s.getProt p
  if r.sw ≠ .ramping ∧ r.sw ≠ .on then s
  else
    let set := s.cfg 0x4064 p
    let onUs := (s.now - r.rampAt) / 1000
    let off := if r.retrying then max set (ceilDiv (99 * onUs) 1000) else set
    let s := s.modProt p (fun r => { r with
      cause := cause, breakpoint := bp - 1, tripCurrent := r.iSample, trips := r.trips + 1, tripSeq := true, retrying := false,
      offTime := off, tripsTotal := satAdd r.tripsTotal 1, ovRun := 0, revRun := 0 })
    ((s.protEvent p 1).startDrain p).portTrip p

/-- A safe point of a power-up: a pending off request is taken; within a trip sequence it stays pending, so that the drain ends in
*Off* (14 R378, R384; log entry 74). -/
def State.safePoint (s : State) (p : Nat) : State :=
  let r := s.getProt p
  if r.sw = .ramping ∧ r.offPend = true then
    ((s.modProt p (fun r => { r with offPend := r.tripSeq })).startDrain p)
  else s

/-- VBUS good is raised: the port event, PD and VCONN; on requests complete (13 R345 to R351; 14 R384, R490). -/
def State.raiseGood (s : State) (p : Nat) : State :=
  ((s.portGood p).contractStart p).onDone p 0

/-- VBUS has settled at the end of a ramp (14 R384). -/
def State.settled (s : State) (p : Nat) : State :=
  let r := s.getProt p
  if r.sw ≠ .ramping then s
  else if r.offPend then s.safePoint p
  else (s.modProt p (fun r => { r with sw := .on, gate := true, vbusGood := true, measuring := false })).raiseGood p

/-- Whether the sink of a port is attached (14 R381). -/
def State.sinkHere (s : State) (p : Nat) : Bool := decide ((s.getPwr p).cc = .attached)

/-- The retries are used up (14 R382; 13 R342). -/
def State.exhausted (s : State) (p : Nat) : State :=
  let s := (s.toLocked p).modProt p (fun r => { r with exhaustions := satAdd r.exhaustions 1 })
  let s := (s.protEvent p 2).portExhausted p
  let s := ((s.withhold p).takeV p).note 0x36 p
  (s.offDone p 0).onDone p 0x0A

/-- VBUS is below vSafe0V in *Draining* (14 R384). -/
def State.drainedVbus (s : State) (p : Nat) : State :=
  let r := s.getProt p
  if r.sw ≠ .draining then s
  else
    if r.tripSeq then
      if s.cfg 0x4063 p < r.trips then s.exhausted p
      else if r.offPend = false ∧ s.sinkHere p = true then
        (s.modProt p (fun r => { r with sw := .cooling, bleed := false, onPend := false })).takeV p
      else s.toOff p
    else if r.onPend then ((s.offDone p 0).takeV p).startRamp p
    else s.toOff p

/-- VBUS has not drained: the FET is taken as shorted (14 R383; 13 R343; 16 R413 0x37). -/
def State.stuckOn (s : State) (p : Nat) : State :=
  if (s.getProt p).sw ≠ .draining then s
  else
    let s := (((s.toLocked p).modProt p (fun r => { r with stuck := true })).protEvent p 4).pmbus p 0x01 0
    let s := ((s.fault 0x37 p).portContain 0x37 p p).withhold p
    (s.offDone p 0x0F).onDone p 0x0F

/-- Whether a STATUS_WORD read shows a fault, or no answer (13 R359). -/
def stageBad (x : StageStatus) : Bool := x.noAnswer || x.vout || x.iout || x.temp

/-- The off time has elapsed: a retry, which trips at once on a stage fault that remains, or the end of the sequence, which a lost
sentry link also brings since no power-up is made then (14 R381, R384; 13 R359; 01 R24, log entry 93). -/
def State.retry (s : State) (p : Nat) (st : StageStatus) : State :=
  if (s.getProt p).sw ≠ .cooling then s
  else if s.sinkHere p = true ∧ s.linkHeld p = false then
    let s := s.pmbus p 0x03 0
    let s := if (s.getPwr p).stageFault then (s.pmbus p 0x01 1).pmbus p 0x79 0 else s
    let s := (s.startRamp p).modProt p (fun r => { r with retrying := true })
    if stageBad st then s.trip p 6 0
    else
      let s := if (s.getPwr p).stageFault then s.causeOff 0x31 p else s
      s.modPwr p (fun w => { w with stageFault := false })
  else s.toOff p

/-- A retry has kept VBUS good for tRETRYCLR (14 R382). -/
def State.retryCleared (s : State) (p : Nat) : State :=
  let r := s.getProt p
  if r.sw = .on ∧ r.tripSeq = true then
    (s.modProt p (fun r => { r with trips := 0, tripSeq := false, retrying := false })).protEvent p 8
  else s

/-- Release of a port: a *Locked* switch goes *Off*, and the port leaves *Quarantined* (06 R182, 14 R384). -/
def State.releasePort (s : State) (p : Nat) : State :=
  let s := if (s.getProt p).sw = .locked ∧ (s.getUsb p).state = .quarantined then
      ((s.modProt p (fun r => { r with sw := .off, trips := 0, stuck := false })).setAllowed p false).takeV p else s
  s.portRelease p

/-- An off request that sends an attached port to *Withheld*; over a lost sentry link it waits whole (13 R342, R343; 01 R24). -/
def State.withholdOff (s : State) (p : Nat) (k : Option Nat) : State :=
  if s.linkHeld p then s.holdReq p 4 k else (s.withhold p).swOff p k

/-- contain-port: *Quarantined*, out of the raise queue, and for an electrical fault an off request and *Withheld* (16 R407,
R408; 13 R342, R364). -/
def State.containPort (s : State) (src inst p : Nat) : State :=
  let s := (s.portContain src inst p).leaveQueue p
  if 0x30 ≤ src ∧ src ≤ 0x37 then s.withholdOff p none else s

/-! ### Offset and samples -/

/-- The mean of the offset measurements, rounded down (14 R371). -/
def PortProt.mean (r : PortProt) : Int :=
  if r.offsets = [] then 0 else r.offsets.foldl (· + ·) 0 / (r.offsets.length : Nat)

/-- An offset measurement starts: the inputs are shorted (14 R371). -/
def State.measure (s : State) (p : Nat) : State := s.modProt p (fun r => { r with measuring := true })

/-- An offset measurement ends: folded into the mean, or discarded beyond 400 sample units; at a power-up precharge follows
(14 R371, R372, R378). -/
def State.measured (s : State) (p : Nat) (off : Int) : State :=
  let s := s.modProt p (fun r => { r with measuring := false })
  let s :=
    if off < -400 ∨ 400 < off then (s.protEvent p 0x10).note 0x35 p
    else s.modProt p (fun r => { r with offsets := (off :: r.offsets).take 16 })
  let r := s.getProt p
  if r.sw = .ramping ∧ r.rampPhase = .offset then
    if r.offPend then s.safePoint p else s.modProt p (fun r => { r with rampPhase := .precharge, gate := true })
  else s

/-- Precharge is done, a safe point: the ramp starts (14 R378). -/
def State.precharged (s : State) (p : Nat) : State :=
  let r := s.getProt p
  if r.sw = .ramping ∧ r.rampPhase = .precharge then
    if r.offPend then s.safePoint p else s.modProt p (fun r => { r with rampPhase := .ramp })
  else s

/-- The level of a breakpoint in sample units, held at 8,190, and its T_k in us (14 R374). -/
def breakpoint (word ilim rs : Nat) : Nat × Nat :=
  (min 8190 (bitsOf word 0 12 * ilim * rs / 5000000),
   bitsOf word 16 14 * (if bitsOf word 30 2 = 0 then 1 else if bitsOf word 30 2 = 1 then 100 else 10000))

/-- The breakpoints of a port's trip curve in force; while the sentry link is lost, those it held when it was lost (14 R374; 01
R24). -/
def State.curve (s : State) (p : Nat) : List (Nat × Nat) :=
  let c := s.cfgB 0x4060 p
  match (s.getProt p).heldCurve with
  | some l => l
  | none => (List.range 8).map (fun k => breakpoint (leNat (slice c (4 * k) 4)) (s.getPwr p).ilim (s.cfg 0x4065 p))

/-- The sentry die keeps a port's curve and threshold as they stand: its link is lost (01 R24). -/
def State.keepSettings (s : State) (p : Nat) : State :=
  let c := s.curve p
  s.modProt p (fun r => { r with heldCurve := some c })

/-- Rd lost for tPDDB in *Attached.SRC* or *Withheld* (13 R342, R364). -/
def State.ccDetach (s : State) (p : Nat) : State :=
  if (s.getPwr p).cc = .attached ∨ (s.getPwr p).cc = .withheld then
    let s := s.pwrEvent p 2
    let s := ((s.vconnOff p).endContract p).leaveQueue p
    let s := s.modPwr p (fun w => { w with
      cc := .unattachedWait, rd := false, ra := false, cable := none, vconnFaulted := false, inHardReset := false })
    s.swDetach p
  else s

/-- The sentry link is restored: the settings written meanwhile reach the sentry die, and the requests held are made in order (01
R24). -/
def State.takeSettings (s : State) (p : Nat) : State :=
  if s.linkHeld p then
    let l := (s.getProt p).heldReqs
    let s := (s.modProt p (fun r => { r with heldCurve := none, heldReqs := [] })).setFast p
    l.foldl (fun s e => if e.1 = 0 then s.swOff p e.2 else if e.1 = 1 then s.swOn p e.2 else if e.1 = 2 then s.swDetach p
      else if e.1 = 3 then (if (s.getPwr p).rd then s else s.ccDetach p) else (s.withhold p).swOff p e.2) s
  else s

/-- An accumulator and its divider after a sample (14 R374). -/
def accStep (above : Bool) (a d : Nat) : Nat × Nat :=
  if above then (a + 1, d) else if d = 7 then (a - 1, 0) else (a, d + 1)

/-- A sample held within S14 (14 R370). -/
def clamp14 (x : Int) : Int := if x < -8192 then -8192 else if 8191 < x then 8191 else x

/-- Whether a contract change that lowers VBUS is in hand (14 R377). -/
def PortPwr.lowering (w : PortPwr) : Bool :=
  w.ilimHeld && (match w.transition with | some t => decide (t.1 < w.oldVoltage) | none => decide (w.vout / 10 < w.oldVoltage))

/-- The voltage target of OVERVOLTAGE in mV: the higher of the old and new voltages during a transition (14 R377). -/
def PortPwr.target (w : PortPwr) : Nat :=
  match w.transition with
  | some t => max (w.oldVoltage * 10) (t.1 * 10)
  | none => w.vout

/-- The accumulators, dividers and runs after a sample, and the power summed for the gallery (14 R374, R377; 13 R362). -/
def State.accumulate (s : State) (p : Nat) (i : Int) (vbus : Nat) : State :=
  let c := s.curve p
  let w := s.getPwr p
  let rev := -((s.units p 100 : Nat) : Int)
  s.modProt p (fun r =>
    let steps := (List.range 8).map (fun k => accStep (decide (((c.getD k (0, 0)).1 : Int) < i)) (r.acc.getD k 0) (r.div.getD k 0))
    { r with
      acc := steps.map (·.1), div := steps.map (·.2), iSample := i, vSample := vbus,
      peak := max r.peak i, mwSum := r.mwSum + vbus * 4 * (s.toMa p i).toNat / 1000, mwCnt := r.mwCnt + 1,
      ovRun := if 115 * w.target < 400 * vbus then min 20 (r.ovRun + 1) else 0,
      revRun := if i < rev ∧ w.lowering = false then min 100 (r.revRun + 1) else 0 })

/-- The first breakpoint whose accumulator has reached its time, 1 to 8 (14 R374). -/
def State.curveTrip (s : State) (p : Nat) : Option Nat :=
  let c := s.curve p
  let r := s.getProt p
  ((List.range 8).find? (fun k => decide ((c.getD k (0, 0)).2 ≤ r.acc.getD k 0))).map (· + 1)

/-- A microsecond sample of current (raw, in sample units) and VBUS (14 R370, R371, R374, R377). -/
def State.sample (s : State) (p : Nat) (raw : Int) (vbus : Nat) : State :=
  let r := s.getProt p
  let x := if r.measuring then r.rawLast else clamp14 raw
  let s := s.modProt p (fun r => { r with rawLast := x })
  let s := s.accumulate p (clamp14 (x - r.mean)) (vbus % 16384)
  let r := s.getProt p
  match s.curveTrip p with
  | some k => s.trip p 1 k
  | none => if 20 ≤ r.ovRun then s.trip p 4 0 else if 100 ≤ r.revRun then s.trip p 5 0 else s

end Sys2Proof.Machine
end

