-- ==== Sys2Proof/Machine/Access.lean ====
section
/-!
DEFINITION. Who may reach which object of the Catalogue, and what answers an access that may not be made (02 R40 to R45,
R54, R57).
-/
namespace Sys2Proof.Machine

/-- The tenant of a path; 0 for the operator (02 R43). -/
def State.principalOf (s : State) : Path → Nat
  | .tenant n => (s.getSess n).tenant
  | _ => 0

/-- Whether a path is enabled (02 R53 0x2011). -/
def State.pathOn (s : State) : Path → Bool
  | .can => decide (s.cfg 0x2011 1 = 1)
  | .spi => decide (s.cfg 0x2011 2 = 1)
  | .svc => decide (s.cfg 0x2011 3 = 1)
  | .house _ => decide (s.cfg 0x2011 4 = 1)
  | .tenant _ => true

/-- The right an object's row gives a principal (02 R43). -/
def Obj.right (o : Obj) (t : Nat) : Right := if t = 0 then o.op else o.ten

/-- Whether a right allows reading. -/
def Right.reads : Right → Bool
  | .r | .rw => true
  | _ => false

/-- Whether a right allows writing. -/
def Right.writes : Right → Bool
  | .w | .rw => true
  | _ => false

/-- Whether a mapping object or the error history holds a count in subindex 0 (02 R60). -/
def countSub (idx : Nat) : Bool := decide (idx = 0x1003) || (decide (0x1A00 ≤ idx) && decide (idx ≤ 0x1A03))

/-- Whether a tenant's own loan lets it address an array entry: a port of its loan, its own number, a gallery or wing of
which it holds a port (02 R44, R45). -/
def State.inScope (s : State) (t : Nat) (o : Obj) (sub : Nat) : Bool :=
  let holds := fun (p : Nat) => s.portIs t p
  if o.subLo = o.subHi then true
  else if o.subHi = 96 then holds sub
  else if o.subHi = 64 then decide (sub = t)
  else if o.subHi = 12 then (portsOfGal sub).any holds
  else if o.subHi = 4 then (galsOfWing sub).any (fun g => (portsOfGal g).any holds)
  else true

/-- What refuses an access by principal `t`: 0, or the abort code (02 R40, R41, R44, R57; any access to a lock not
assigned to a tenant, 03 R107). -/
def State.accessAbort (s : State) (t idx sub : Nat) (write : Bool) : Nat :=
  let rows := rowsOf idx objTable
  if rows = [] then 0x06020000
  else if t ≠ 0 ∧ 0x6400 ≤ idx ∧ idx ≤ 0x64FF ∧ s.cfg idx 4 ≠ 0xFF ∧ s.cfg idx 4 ≠ t then 0x06020000
  else if sub = 0 ∧ 0 < highestSub idx objTable ∧ countSub idx = false then
    if t ≠ 0 ∧ rows.all (fun o => decide (o.ten = .no)) = true then 0x06020000
    else if write then 0x06010002
    else if rows.all (fun o => decide (o.right t = .no) || decide (o.right t = .w)) = true then 0x06010001
    else 0
  else match findRow idx sub objTable with
    | none => if t ≠ 0 ∧ rows.all (fun o => decide (o.ten = .no)) = true then 0x06020000 else 0x06090011
    | some o =>
      if o.right t = .no then 0x06020000
      else if t ≠ 0 ∧ s.inScope t o sub = false then 0x06090011
      else if write ∧ (o.right t).writes = false then 0x06010002
      else if write = false ∧ (o.right t).reads = false then 0x06010001
      else 0

/-- Whether the core serves access paths: in normal service, but not in *Dormant* or *Shelf* nor before the core is up (15 R388, R391;
17 R433). -/
def State.coreServes (s : State) : Bool :=
  decide (s.boot.phase = .service) &&
    (match s.dps.state with
     | .run | .drowse => true
     | .settling => decide (s.dps.fromState ≠ .dormant)
     | .waking => decide (s.dps.fromState = .drowse) || s.dps.domainsUp.contains .core
     | .dormant | .shelf => false)

/-- Whether a record may come over a path: a session must be live and of that kind (02 R43; 05 R145). -/
def State.pathLive (s : State) : Path → Bool
  | .house n => (s.getSess n).house
  | .tenant n => (s.getSess n).live && decide ((s.getSess n).tenant ≠ 0)
  | _ => true

/-- The objects that recovery serves (17 R441). -/
def recoveryObj (idx : Nat) : Bool := (decide (0x1000 ≤ idx) && decide (idx ≤ 0x1018)) || decide (idx = 0x2701)

/-- What meets an access over a path: no answer, or 0, or the abort code (02 R43 to R46; 15 R391; 17 R441). -/
def State.reach (s : State) (path : Path) (idx sub : Nat) (write : Bool) : Option Nat :=
  let ab := if s.pathOn path then s.accessAbort (s.principalOf path) idx sub write else 0x08000021
  if s.boot.phase = .recovery then
    (match path with
     | .spi | .svc => some (if recoveryObj idx then ab else 0x08000022)
     | _ => none)
  else if s.coreServes && s.pathLive path then some ab
  else none

/-- A write to one object over a path: no answer where the path is not served, refused where the access may not be made, else done
by `f`, and answered with its abort code (02 R43 to R46, R54). -/
def State.viaWrite (s : State) (path : Path) (idx sub : Nat) (f : State → State × Nat) : State :=
  match s.reach path idx sub true with
  | none => s
  | some 0 =>
    let r := f s
    r.1.emit (.answer path idx sub r.2)
  | some ab => s.emit (.answer path idx sub ab)

end Sys2Proof.Machine
end

