-- ==== Sys2Proof/Machine/Registrar.lean ====
section
/-!
DEFINITION. The Registrar: enumeration, external hubs, tree limits, device resets and restores (06 R176 to R181, R188 to
R190; 07 R214).
-/
namespace Sys2Proof.Machine

/-! ### Requests -/

/-- A request that a step of an enumeration or restore waits for: bmRequestType, bRequest, wValue, wIndex, wLength (07 R230). -/
def State.request (s : State) (p a typ req value index len : Nat) : State :=
  (s.ask p a 1 (natLE 1 typ ++ natLE 1 req ++ natLE 2 value ++ natLE 2 index ++ natLE 2 len)).serve p

/-- A request to a hub that nothing waits for (06 R178, R180). -/
def State.tellHub (s : State) (p a typ req value index : Nat) : State :=
  (s.ask p a 0 (natLE 1 typ ++ natLE 1 req ++ natLE 2 value ++ natLE 2 index ++ zeros 2)).serve p

/-- The index of the configuration descriptor of the configuration a restore has set again (06 R188, 07 R214; log entry 22). -/
def State.configIndex (s : State) (p a : Nat) : Nat :=
  match (s.getUsb p).device? a with
  | some d => (match d.requests with | q :: _ => leNat (slice q 2 1) - 1 | [] => 0)
  | none => 0

/-- The enumeration or restore being served: the first that is no interface-map read of a tenant's device. -/
def PortUsb.enumHead (u : PortUsb) : Option Enum := u.enums.find? (fun e => decide (e.step ≠ .mapRead) || decide (u.restore ≠ none))

/-- The enumeration or restore being served changed. -/
def State.modHead (s : State) (p : Nat) (f : Enum → Enum) : State :=
  match (s.getUsb p).enumHead with
  | some h => s.modUsb p (fun u => { u with enums := u.enums.map (fun e => if e = h then f e else e) })
  | none => s

/-- The enumeration or restore being served removed, its request with it. -/
def State.dropHead (s : State) (p : Nat) : State :=
  match (s.getUsb p).enumHead with
  | some h => (s.askDone p 1).modUsb p (fun u => { u with enums := u.enums.filter (fun e => decide (e ≠ h)) })
  | none => s

/-- The lowest address free in a tree and not held back (06 R177). -/
def PortUsb.freeAddr (u : PortUsb) : Option Nat :=
  ((List.range 127).map (· + 1)).find? (fun a =>
    !(u.devices.any (fun d => decide (d.addr = a))) && !(u.heldAddrs.contains a) && !(u.enums.any (fun e => decide (e.addr = a))))

/-- The request of a step is sent: a descriptor, SET_ADDRESS, a string, SET_SEL, SET_ISOCH_DELAY, hub requests (06 R177, R178,
R180, R188; the standard requests of USB 2.0 chapters 9 and 11 and USB 3.2 chapters 9 and 10). -/
def State.sendStep (s : State) (p : Nat) (e : Enum) : State :=
  let super := isSuper (speedCode e.speed)
  match e.step with
  | .desc8 => s.request p 0 0x80 6 0x0100 0 8
  | .setAddress => s.request p 0 0x00 5 e.addr 0 0
  | .desc18 => s.request p e.addr 0x80 6 0x0100 0 18
  | .langs => s.request p e.addr 0x80 6 0x0300 0 255
  | .serial => s.request p e.addr 0x80 6 (0x0300 + leNat (slice e.desc 16 1)) (leNat e.serial) 255
  | .setSel => s.request p e.addr 0x00 0x30 0 0 6
  | .isochDelay => s.request p e.addr 0x00 0x31 0 0 0
  | .hubDesc => s.request p e.addr 0xA0 6 (if super then 0x2A00 else 0x2900) 0 12
  | .hubConfig => s.request p e.addr 0x00 9 1 0 0
  | .hubTt => s.request p e.addr 0x01 11 1 0 0
  | .config (q :: _) => (s.ask p e.addr 1 q).serve p
  | .mapRead => (s.ask p e.addr 2 ([0x80, 0x06] ++ natLE 2 (0x0200 + s.configIndex p e.addr) ++ [0x00, 0x00, 0xFF, 0xFF])).serve p
  | .portReset => s.tellHub p e.parent 0x23 3 4 e.parentPort
  | .config [] | .recovery | .waitAddress | .queued => s

/-- The head moves to a step and its request is sent. -/
def State.toStep (s : State) (p : Nat) (st : EnumStep) : State :=
  let s := s.modHead p (fun e => { e with step := st })
  match (s.getUsb p).enumHead with
  | some e => s.sendStep p e
  | none => s

/-- SET_ADDRESS with the previous address, or the lowest free one; without one the device waits at address 0 (06 R177). -/
def State.giveAddress (s : State) (p : Nat) (e : Enum) : State :=
  if e.prev ≠ 0 then (s.modHead p (fun e => { e with addr := e.prev })).toStep p .setAddress
  else match (s.getUsb p).freeAddr with
    | some a => (s.modHead p (fun e => { e with addr := a })).toStep p .setAddress
    | none => s.toStep p .waitAddress

/-! ### The order of work on a tree -/

/-- The next queued enumeration of a tree is served: at an external hub its port is reset first (06 R177, R180). -/
def State.nextEnum (s : State) (p : Nat) : State :=
  match (s.getUsb p).enumHead with
  | some e => if e.step = .queued then (if e.parent = 0 then s.toStep p .desc8 else s.toStep p .portReset) else s
  | none => s

/-- An enumeration queued behind those in hand. -/
def State.queueEnum (s : State) (p parent parentPort depth prev : Nat) (sp : Speed) : State :=
  let e : Enum := { parent := parent, parentPort := parentPort, depth := depth, speed := sp, prev := prev, addr := 0,
                    step := .queued, tries := 0, desc := [], serial := [], ports := 0, multiTt := false, think := 0 }
  let idle := (s.getUsb p).enumHead.isNone
  let s := s.modUsb p (fun u => { u with enums := u.enums ++ [e] })
  if idle && decide ((s.getUsb p).restore = none) then s.nextEnum p else s

/-- The enumeration of the root device starts, with its previous address where it has one (06 R177). -/
def State.enumRoot (s : State) (p : Nat) : State :=
  let u := s.getUsb p
  match u.enums.find? (fun e => decide (e.parent = 0) && decide (e.step ≠ .mapRead)) with
  | some _ => (s.modUsb p (fun u => { u with
      enums := u.enums.map (fun e => if e.parent = 0 ∧ e.step ≠ .mapRead then { e with step := .queued, speed := u.speed } else e) })).nextEnum p
  | none =>
    let prev := match u.devices.find? (fun d => decide (d.parent = 0)) with
      | some d => d.addr
      | none => 0
    s.queueEnum p 0 0 0 prev u.speed

/-! ### Failed steps -/

/-- An external hub port is disabled (06 R178, R179; PORT_ENABLE, USB 2.0 11.24.2). -/
def State.disableHubPort (s : State) (p hub n : Nat) : State := s.tellHub p hub 0x23 1 1 n

/-- A step failed: the device is reset and its enumeration starts again, and after three attempts its port is disabled (06
R178). -/
def State.enumFail (s : State) (p : Nat) : State :=
  match (s.getUsb p).enumHead with
  | none => s
  | some e =>
    if e.tries < 2 then
      let f : Enum := { e with tries := e.tries + 1, addr := 0, desc := [], serial := [], step := .queued }
      if e.parent = 0 then
        let s := (s.dropHead p).startReset p none
        s.modUsb p (fun u => { u with enums := f :: u.enums })
      else (s.modHead p (fun _ => f)).nextEnum p
    else
      let s := (s.dropHead p).usbEvent p 0x10
      if e.parent = 0 then
        ((s.modUsb p PortUsb.quiet).toState p .disabled).endDeferred p 0x04 0x21
      else
        let s := (s.disableHubPort p e.parent e.parentPort)
        let s := if e.prev = 0 then s else s.deviceGone p 0x09 0 e.prev
        s.nextEnum p

/-! ### The end of an enumeration -/

/-- The Registrar's interrupt pipe to an external hub: Steady, or Bulk where periodic admission refuses it (06 R180, 07 R201;
log entry 27 for its parameters). -/
def State.hubPipe (s : State) (p a : Nat) (sp : Speed) : State :=
  let code := speedCode sp
  let x : Pipe := { Pipe.reset with
    state := .opened, typ := 3, dirIn := true, cls := 1, port := p, address := a, endpoint := 1, speed := code, tenant := 127,
    budget := s.cfg 0x4030 p, maxPacket := 2, interval := if isSuper code then 7 else 11, bytesPerInterval := 2,
    split := (s.getUsb p).splitOf (speedCode (s.getUsb p).speed) a }
  let (refused, y) := s.admitPipe x
  let y := if refused = 0 then y else { x with cls := 2 }
  match s.freeCtx 96 1 with
  | n :: _ => if n < 12288 then s.setPipes n y else s
  | [] => s

/-- The device of a finished enumeration. -/
def Enum.device (e : Enum) : Device :=
  { addr := e.addr, depth := e.depth, parent := e.parent, parentPort := e.parentPort,
    isHub := decide (slice e.desc 4 1 = [9]), speed := e.speed, desc := e.desc, serial := e.serial, requests := [], map := [],
    multiTt := e.multiTt, think := e.think }

/-- An enumeration ends: the device is in the tree, a hub's pipe is opened in place of one it had, and DEVICE_ARRIVED is sent; the next
one follows (06 R177, R180; 05 Event codes). -/
def State.arrived (s : State) (p : Nat) (e : Enum) : State :=
  let s := (s.dropHead p).modUsb p (fun u => { u with
    devices := u.devices.filter (fun d => decide (d.addr ≠ e.addr)) ++ [e.device] })
  let s := (s.devicePipes p e.addr).foldl (fun s n => if (s.getPipes n).tenant = 127 then s.setPipes n Pipe.reset else s) s
  let s := if e.device.isHub then s.hubPipe p e.addr e.speed else s
  (s.portEvent p 0x0002 (handle p e.addr) (speedCode e.speed) e.desc).nextEnum p

/-- PORT_POWER to every port of a hub, from the number its descriptor gives (06 R180). -/
def State.powerPorts (s : State) (p a n : Nat) : State :=
  (List.range (min n 255)).foldl (fun s k => s.tellHub p a 0x23 3 8 (k + 1)) s

/-- The step after a string or descriptor step: SET_SEL at SuperSpeed, then a hub's configuration, then the end (06
R177). -/
def State.afterStrings (s : State) (p : Nat) (e : Enum) : State :=
  if isSuper (speedCode e.speed) then s.toStep p .setSel
  else if e.device.isHub then s.toStep p .hubDesc
  else s.arrived p e

/-! ### Restores -/

/-- A list of devices in order of depth (06 R188). -/
def byDepth (l : List Device) : List Device :=
  [0, 1, 2, 3, 4, 5, 6].flatMap (fun k => l.filter (fun d => decide (d.depth = k)))

/-- A restore succeeded: held items are released, deferred requests apply, and devices not recorded before are enumerated
(06 R183, R188, R189). -/
def State.restoreOk (s : State) (p : Nat) : State :=
  let s := s.modUsb p (fun u => { u with
    restore := none, hold := false, fallback := false, restoreDevs := [], restoresDone := satAdd u.restoresDone 1 })
  let s := (s.usbEvent p 0x80).applyDeferred p
  if (s.getUsb p).state = .enabled then (s.serve p).nextEnum p else s

/-- A restore failed: held items end; deferred requests end `POWER_LOST` after a trip and apply after a fallback where the port is
*Enabled*, and the device is enumerated as new (06 R183, R189). -/
def State.restoreLost (s : State) (p : Nat) : State :=
  if (s.getUsb p).restore = none then s
  else
    let trip := match (s.getUsb p).restore with | some r => r.trip | none => false
    let s := s.restoreFail p
    let s := if trip then s.endDeferred p 0x0A 0 else s
    if (s.getUsb p).state = .enabled then
      let s := s.applyDeferred p
      let u := s.getUsb p
      if u.state = .enabled ∧ u.speed ≠ .none ∧ u.resetKind = .none ∧ u.timebaseFrom = false then s.enumRoot p else s
    else s.endDeferred p 0x0A 0

/-- The restore goes on with the next recorded device: at the root by SET_ADDRESS, below a hub by a reset of its port (06
R188). -/
def State.restoreNext (s : State) (p : Nat) : State :=
  match (s.getUsb p).restoreDevs with
  | [] => s.restoreOk p
  | d :: _ =>
    let sp := if d.parent = 0 then (s.getUsb p).speed else d.speed
    let e : Enum := { parent := d.parent, parentPort := d.parentPort, depth := d.depth, speed := sp, prev := d.addr,
                      addr := d.addr, step := .queued, tries := 0, desc := [], serial := [], ports := 0, multiTt := d.multiTt, think := d.think }
    let s := s.modUsb p (fun u => { u with enums := e :: u.enums.filter (fun e => decide (e.step = .queued)) })
    s.toStep p (if d.parent = 0 then .setAddress else .portReset)

/-- The restore runs (06 R188). -/
def State.startRestore (s : State) (p : Nat) (trip : Bool) : State :=
  (s.modUsb p (fun u => { u with restore := some ⟨trip, .running⟩, restoreDevs := byDepth u.restoreDevs })).restoreNext p

/-- The recorded device being restored is done. -/
def State.restoredOne (s : State) (p : Nat) : State :=
  ((s.dropHead p).modUsb p (fun u => { u with restoreDevs := u.restoreDevs.drop 1 })).restoreNext p

/-- Whether the fields a restore compares are those recorded (06 R188). -/
def sameDevice (a b : Bytes) : Bool :=
  decide (slice a 8 2 = slice b 8 2) && decide (slice a 10 2 = slice b 10 2) && decide (slice a 12 2 = slice b 12 2) &&
    decide (slice a 4 3 = slice b 4 3) && decide (slice a 17 1 = slice b 17 1)

/-- The resynchronisations a replayed request requires (06 R188, 07 R212). -/
def State.replayed (s : State) (p a : Nat) (rq : Bytes) : State :=
  let all := (s.devicePipes p a).filter (fun n => decide ((s.getPipes n).endpoint ≠ 0))
  if rq.take 2 = [0x00, 0x09] then all.foldl (fun s n => s.resync n 0) s
  else
    let eps : List Nat := match (s.getUsb p).device? a with
      | some d => (d.map.filter (fun (e : EpDesc) => decide (e.iface = leNat (slice rq 4 2)))).map (fun (e : EpDesc) => e.ep)
      | none => []
    (all.filter (fun n => eps.contains ((s.getPipes n).endpoint + b2n (s.getPipes n).dirIn * 128))).foldl
      (fun s n => s.resync n 0) s

/-- The speed of a restored device and its pipes follows the link (06 R188, 07 R204). -/
def State.newSpeed (s : State) (p a : Nat) (sp : Speed) : State :=
  let s := s.modDevice p a (fun d => { d with speed := sp })
  let split := (s.getUsb p).splitOf (speedCode (s.getUsb p).speed) a
  (s.devicePipes p a).foldl (fun s n => s.modGroup n (fun x => { x with speed := speedCode sp, split := split })) s

/-- After a step to high speed each open pipe takes MAX_PACKET, BURST and MULT from the configuration descriptor; periodic
pipes are placed anew (06 R187, R188; 08 R245). -/
def State.repack (s : State) (p a : Nat) (m : List EpDesc) : State :=
  (s.devicePipes p a).foldl (fun s n =>
    let x := s.getPipes n
    let ep := x.endpoint + b2n x.dirIn * 128
    let y : Pipe := match m.find? (fun (d : EpDesc) => decide (d.ep = ep)) with
      | some d => { x with maxPacket := d.maxPacket, burst := d.burst, mult := d.mult }
      | none => if x.typ = 0 then { x with maxPacket := 64, burst := 0, mult := 0 } else { x with burst := 0 }
    if y.reserved then (s.setPipes n Pipe.reset).setPipes n ((s.setPipes n Pipe.reset).admitPipe y).2 else s.setPipes n y) s

/-- The restore goes on to the requests to replay, or to a hub's own configuration (06 R188, R180). -/
def State.restoreConfig (s : State) (p : Nat) (e : Enum) : State :=
  match (s.getUsb p).device? e.addr with
  | none => s.restoreLost p
  | some d =>
    let s := s.newSpeed p e.addr e.speed
    if d.isHub then s.toStep p .hubDesc
    else if d.requests = [] then s.restoredOne p
    else s.toStep p (.config d.requests)

/-- A hub descriptor read: the number of ports, and the think time in FS bytes, of 8 bit times each, from bits 6 and 5 of
wHubCharacteristics (06 R180; 08 R242; USB 2.0 11.23.2.1). -/
def hubSeen (data : Bytes) (e : Enum) : Enum :=
  { e with ports := leNat (slice data 2 1), think := if e.speed = .hs then bitsOf (leNat (slice data 3 2)) 5 2 + 1 else 0 }

/-- A step of a restore succeeded with its data (06 R188). -/
def State.restoreStep (s : State) (p : Nat) (e : Enum) (data : Bytes) : State :=
  let old := (s.getUsb p).device? e.addr
  let recDesc := match old with | some d => d.desc | none => []
  let recSerial := match old with | some d => d.serial | none => []
  let toHs := decide ((s.getUsb p).cap = 3) && (match (s.getUsb p).restore with | some r => !r.trip | none => false)
  let after := fun (s : State) => if isSuper (speedCode e.speed) then s.toStep p .setSel else s.restoreConfig p e
  match e.step with
  | .setAddress => s.toStep p .recovery
  | .desc18 =>
    if sameDevice data recDesc = false then s.restoreLost p
    else
      let s := s.modHead p (fun e => { e with desc := data })
      if slice data 16 1 = [0] then after s else s.toStep p .langs
  | .langs => (s.modHead p (fun e => { e with serial := slice data 2 2 })).toStep p .serial
  | .serial => if data.drop 2 = recSerial then after s else s.restoreLost p
  | .setSel => s.toStep p .isochDelay
  | .isochDelay => s.restoreConfig p e
  | .hubDesc => (s.modHead p (hubSeen data)).toStep p .hubConfig
  | .hubConfig =>
    let s := s.powerPorts p e.addr e.ports
    if e.multiTt then s.toStep p .hubTt else s.restoredOne p
  | .hubTt => s.restoredOne p
  | .config (q :: rest) =>
    let s := s.replayed p e.addr q
    if q.take 2 = [0x00, 0x09] ∧ e.speed = .hs ∧ toHs = true then
      (s.modHead p (fun e => { e with desc := [] })).toStep p .mapRead
    else if rest = [] then s.restoredOne p
    else s.toStep p (.config rest)
  | _ => s

/-- What the end of a request does to the restore (06 R188, R189; the multi-TT STALL of R178). -/
def State.restoreRes (s : State) (p : Nat) (e : Enum) : ReqRes → State
  | .ok data => s.restoreStep p e data
  | .stall => if e.step = .hubTt then (s.modDevice p e.addr (fun d => { d with multiTt := false })).restoredOne p else s.restoreLost p
  | .failed => s.restoreLost p

/-- A request of a running restore ended (06 R188, R189). -/
def State.restoreReq (s : State) (p : Nat) (res : ReqRes) : State :=
  match (s.getUsb p).restore, (s.getUsb p).enumHead with
  | some ⟨_, .running⟩, some e =>
    if (s.getUsb p).state ≠ .enabled then s
    else ((s.askDone p 1).restoreRes p e res).serve p
  | _, _ => s

/-! ### Enumeration steps -/

/-- A step of an enumeration succeeded with its data (06 R177, R178, R180). -/
def State.enumStep (s : State) (p : Nat) (e : Enum) (data : Bytes) : State :=
  match e.step with
  | .desc8 => s.giveAddress p e
  | .setAddress => s.toStep p .recovery
  | .desc18 =>
    let s := s.modHead p (fun e => { e with desc := data })
    if slice data 16 1 = [0] then s.afterStrings p { e with desc := data } else s.toStep p .langs
  | .langs => (s.modHead p (fun e => { e with serial := slice data 2 2 })).toStep p .serial
  | .serial =>
    let e := { e with serial := data.drop 2 }
    (s.modHead p (fun _ => e)).afterStrings p e
  | .setSel => s.toStep p .isochDelay
  | .isochDelay => if e.device.isHub then s.toStep p .hubDesc else s.arrived p e
  | .hubDesc => (s.modHead p (hubSeen data)).toStep p .hubConfig
  | .hubConfig =>
    let s := s.powerPorts p e.addr e.ports
    if slice e.desc 6 1 = [2] ∧ e.speed = .hs then s.toStep p .hubTt else s.arrived p e
  | .hubTt =>
    let e := { e with multiTt := true }
    (s.modHead p (fun _ => e)).arrived p e
  | _ => s

/-- What the end of a request does to the enumeration; a STALL of the multi-TT selection is no failure (06 R177, R178). -/
def State.enumRes (s : State) (p : Nat) (e : Enum) : ReqRes → State
  | .ok data => s.enumStep p e data
  | .stall => if e.step = .hubTt then s.arrived p e else s.enumFail p
  | .failed => s.enumFail p

/-- A request of an enumeration ended (06 R177, R178). -/
def State.enumReq (s : State) (p : Nat) (res : ReqRes) : State :=
  match (s.getUsb p).enumHead with
  | none => s
  | some e =>
    if (s.getUsb p).state ≠ .enabled ∨ (s.getUsb p).restore ≠ none then s
    else ((s.askDone p 1).enumRes p e res).serve p

/-- The 2 ms after SET_ADDRESS have passed (06 R177). -/
def State.addressSettled (s : State) (p : Nat) : State :=
  match (s.getUsb p).enumHead with
  | some e => if e.step = .recovery ∧ (s.getUsb p).state = .enabled then s.toStep p .desc18 else s
  | none => s

/-- Every item of an old handle has its completion formed: its address is free again (06 R177). -/
def State.addressFree (s : State) (p a : Nat) : State :=
  let busy := s.pipesWhere (fun x => decide (x.port = p) && decide (x.address = a) && decide (x.queue ≠ []))
  if busy ≠ [] ∨ (s.getUsb p).heldAddrs.contains a = false then s
  else
    let s := s.modUsb p (fun u => { u with heldAddrs := u.heldAddrs.filter (· ≠ a) })
    match (s.getUsb p).enumHead with
    | some e => if e.step = .waitAddress then s.giveAddress p e else s
    | none => s

/-- tRSTRCY has passed after a trained reset: a restore or an enumeration starts; a fallback without a restore ends (06 R174,
R183, R186, R188). -/
def State.resetRecovered (s : State) (p : Nat) : State :=
  let u := s.getUsb p
  if u.state ≠ .enabled ∨ u.timebaseFrom = false then s
  else
    let s := s.modUsb p (fun u => { u with timebaseFrom := false })
    match u.restore with
    | some r => s.startRestore p r.trip
    | none =>
      let s := if u.fallback then (s.modUsb p (fun u => { u with fallback := false })).applyDeferred p else s
      if (s.getUsb p).state = .enabled then s.enumRoot p else s

/-- The interface map of a device is read, for a tenant's SET_CONFIGURATION or within a restore (07 R214, 06 R188). -/
def State.mapDone (s : State) (p a : Nat) (m : IfMap) : State :=
  match (s.getUsb p).restore, (s.getUsb p).enumHead with
  | some ⟨_, .running⟩, some e =>
    if e.step = .mapRead ∧ e.addr = a then
      let s := s.askDone p 2
      match m with
      | none => s.restoreLost p
      | some l =>
        let rest := match (s.getUsb p).device? a with | some d => d.requests.drop 1 | none => []
        let s := (s.modDevice p a (fun d => { d with map := l })).repack p a l
        if rest = [] then s.restoredOne p else s.toStep p (.config rest)
    else s.mapRead p a m
  | _, _ => s.mapRead p a m

/-! ### External hubs and device resets -/

/-- Devices of a tree, those being enumerated with them (06 R179). -/
def PortUsb.treeCount (u : PortUsb) : Nat :=
  u.devices.length + (u.enums.filter (fun e => decide (e.step ≠ .mapRead) && decide (e.prev = 0))).length

/-- A device appeared on an external hub's port: refused beyond the tree's limits, left to a restore that has it recorded, else queued
(06 R179, R180, R188). -/
def State.hubConnect (s : State) (p : Nat) (hub : Device) (n : Nat) : State :=
  let u := s.getUsb p
  if 5 ≤ hub.depth ∨ 127 ≤ u.treeCount then
    ((s.disableHubPort p hub.addr n).usbEvent p 0x800).modUsb p (fun u => { u with devRefused := satAdd u.devRefused 1 })
  else if u.restoreDevs.any (fun d => decide (d.parent = hub.addr) && decide (d.parentPort = n)) then s
  else s.queueEnum p hub.addr n (hub.depth + 1) 0 .none

/-- An external hub's port finished its reset (06 R180). -/
def State.hubReset (s : State) (p : Nat) (hub : Device) (n : Nat) (sp : Speed) : State :=
  match (s.getUsb p).enumHead with
  | some e =>
    if e.step = .portReset ∧ e.parent = hub.addr ∧ e.parentPort = n then
      let s := s.modHead p (fun e => { e with speed := sp })
      match (s.getUsb p).restore with
      | some _ => s.toStep p .setAddress
      | none => s.toStep p .desc8
    else s
  | none => s

/-- A device left an external hub's port: it and everything below it is gone, deepest first (06 R181). -/
def State.hubGone (s : State) (p : Nat) (hub : Device) (n : Nat) : State :=
  let at_ := fun (e : Enum) => decide (e.parent = hub.addr) && decide (e.parentPort = n)
  let s := if ((s.getUsb p).enumHead.map at_) = some true ∧ (s.getUsb p).restore = none then s.askDone p 1 else s
  let s := s.modUsb p (fun u => { u with
    enums := u.enums.filter (fun e =>
      !(decide (e.parent = hub.addr) && decide (e.parentPort = n) && (decide (e.prev = 0) || decide (u.restore = none)))) })
  let s := match (s.getUsb p).devices.find? (fun d => decide (d.parent = hub.addr) && decide (d.parentPort = n)) with
    | some d => (s.belowGone p 0x09 0 d.addr).deviceGone p 0x09 0 d.addr
    | none => s
  if (s.getUsb p).restore = none then s.nextEnum p else s

/-- A port status change of an external hub, served by the Registrar (06 R180). -/
def State.hubChange (s : State) (p a n : Nat) (c : HubChange) : State :=
  match (s.getUsb p).device? a with
  | none => s
  | some hub =>
    if hub.isHub = false ∨ (s.getUsb p).state ≠ .enabled then s
    else match c with
      | .connect => (s.tellHub p a 0x23 1 16 n).hubConnect p hub n
      | .resetDone sp => (s.tellHub p a 0x23 1 20 n).hubReset p hub n sp
      | .disconnect => (s.tellHub p a 0x23 1 16 n).hubGone p hub n

/-- A port reset asked for without an item, by state (06 R182, R183). -/
def State.askReset (s : State) (p : Nat) (k : Option Nat) : State :=
  let u := s.getUsb p
  match u.state with
  | .attaching | .resetting => s.defer p (.reset k)
  | .enabled => if u.fallback then s.defer p (.reset k) else s.startReset p k
  | .disabled | .suspended => s.startReset p k
  | _ => s.finishO k 0x0C 0x0B

/-- A write to `0x4024:p`: device `a` is reset, at the root as `PORT_ACTION` 0x03, else through the hub port above it (06
R176); 0, or the abort code. -/
def State.resetDevice (s : State) (p a : Nat) : State × Nat :=
  match (s.getUsb p).device? a with
  | none => (s, 0x06090030)
  | some d =>
    if d.parent = 0 then (s.askReset p none, 0)
    else
      let below := belowOf (s.getUsb p).devices 6 [a]
      let items := s.itemsWhere (fun _ i => decide (i.op = 0x30) && decide (s.itemPort i = p) &&
        (match i.pipe with
         | some n => decide ((s.getPipes n).address = a) || below.contains (s.getPipes n).address
         | none => false))
      let s := (s.causeItems 0x08 0 items).belowGone p 0x08 0 a
      let s := (s.devicePipes p a).foldl (fun s n => s.resync n 0) s
      (s.queueEnum p d.parent d.parentPort d.depth a d.speed, 0)

end Sys2Proof.Machine
end

