-- ==== Sys2Proof/Machine/Wake.lean ====
section
/-!
DEFINITION. The wake latch of the Custodian and the way into *Waking* (15 R396 to R400).
-/
namespace Sys2Proof.Machine

/-- Whether `0x2100:03`, in the Custodian's copy, enables a wake source (15 Wake sources, R405). -/
def State.wakeEnabled (s : State) (src : Nat) : Bool :=
  let en := s.regs.custWakeEn.toNat
  if 1 ≤ src ∧ src ≤ 4 then bitOf en (src - 1) else if src = 6 then bitOf en 4 else if src = 8 then bitOf en 5 else true

/-- Whether a source wakes the package from a state (15 Wake sources). -/
def wakesFrom (src : Nat) : PwrState → Bool
  | .drowse => decide (1 ≤ src ∧ src ≤ 5) || decide (src = 7) || decide (src = 9) || decide (src = 0xB)
  | .dormant => decide (1 ≤ src ∧ src ≤ 4) || decide (6 ≤ src ∧ src ≤ 9) || decide (src = 0xB)
  | .shelf => decide (7 ≤ src ∧ src ≤ 9)
  | _ => false

/-- A wake latch entry as its word (15 R396). -/
def Wake.word (w : Wake) : Word := BitVec.ofNat 32 (w.source % 16 + w.port % 128 * 16 + w.stamp % 2097152 * 2048)

/-- The core voltage requested over AVSBus (15 R402). -/
def State.setCore (s : State) (mv : Nat) : State :=
  if s.dps.coreMv = mv then s else (s.modDps (fun d => { d with coreMv := mv })).emit (.avs mv)

/-- MAIN_EN driven (15 R394, R400; 18 R463). Pin code 3. -/
def State.setMain (s : State) (b : Bool) : State :=
  if s.dps.mainEn = b then s else (s.modDps (fun d => { d with mainEn := b })).emit (.pin 3 0 b)

/-- The package goes to *Waking*: the wake is recorded and counted, MAIN_EN rises from *Shelf* and the core voltage from
*Dormant* (15 R400, R402, R404). -/
def State.beginWake (s : State) : State :=
  let from_ := s.dps.state
  let s := s.modDps (fun d => { d with
    fromState := from_, state := .waking, target := .run, settle := [], domainsUp := [], retried := [],
    wakeFirst := match d.latch with | w :: _ => w.word | [] => 0
    wakeCount := if from_ = .shelf then 0 else satAdd d.wakeCount 1 })
  if from_ = .shelf then s.setMain true else if from_ = .dormant then s.setCore 800 else s

/-- Whether entry `a` stands after entry `b`: both of one slow-clock edge, by SOURCE and then by PORT (15 R396). -/
def Wake.after (a b : Wake) : Bool :=
  decide (a.stamp = b.stamp) && (decide (b.source < a.source) || (decide (b.source = a.source) && decide (b.port < a.port)))

/-- An entry placed in the latch: last, but ahead of the entries of its own edge that stand after it (15 R396). -/
def Wake.insert (w : Wake) (l : List Wake) : List Wake := l.filter (fun x => !(x.after w)) ++ [w] ++ l.filter (fun x => x.after w)

/-- An entry written into the latch, or counted as an overflow (15 R396). -/
def State.latchPut (s : State) (src p : Nat) : State :=
  if s.dps.latch.length < 32 then
    s.modDps (fun d =>
      let l := Wake.insert ⟨src, p, d.slowEdges % 2097152⟩ d.latch
      { d with latch := l, wakeFirst := if d.state = .waking then (match l with | w :: _ => w.word | [] => 0) else d.wakeFirst })
  else s.modDps (fun d => { d with latchOvf := true, overflows := satAdd d.overflows 1 })

/-- A wake event: in *Run* no change; disabled, neither latched nor counted; else latched, and *Waking* from a state it wakes
(15 R396, R397, R399, R403). -/
def State.wake (s : State) (src p : Nat) : State :=
  if s.dps.state = .run ∨ s.wakeEnabled src = false then s
  else if s.dps.state = .settling ∨ s.dps.state = .waking then s.latchPut src p
  else if wakesFrom src s.dps.state then (s.latchPut src p).beginWake
  else s

/-- Whether an event of source `src` waits in the latch for *Run* in place of acting now (15 R396 to R399). -/
def State.defers (s : State) (src : Nat) : Bool := decide (s.dps.state ≠ .run) && s.wakeEnabled src

end Sys2Proof.Machine
end

