-- ==== Sys2Proof/Machine/Allot.lean ====
section
/-!
DEFINITION. The configuration copies of the boot flash, the Vault space, allotments and the written map, and the NVMe commands
that carry their changes (10 R271 to R281; 17 R437, R438).
-/
namespace Sys2Proof.Machine

/-! ### The configuration area of the boot flash -/

/-- An empty configuration. -/
def FlashCfg.reset : FlashCfg := ⟨0, [], 0, 0, []⟩

/-- The valid copy with the higher sequence number; none where neither copy is valid (17 R438). -/
def Boot.config (b : Boot) : Option FlashCfg :=
  match b.cfgA, b.cfgB with
  | some x, some y => if x.seq < y.seq then some y else some x
  | some x, none => some x
  | none, y => y

/-- An update of the configuration, written to the older copy with the next sequence number (17 R438). -/
def State.flash (s : State) (f : FlashCfg → FlashCfg) : State :=
  let x := (s.boot.config).getD FlashCfg.reset
  let y := { f x with seq := x.seq + 1 }
  match s.boot.cfgA with
  | none => s.modBoot (fun b => { b with cfgA := some y })
  | some a =>
    if some a = s.boot.config then s.modBoot (fun b => { b with cfgB := some y })
    else s.modBoot (fun b => { b with cfgA := some y })

/-! ### The Vault space -/

/-- The online namespaces (10 R273). -/
def State.spaces (s : State) : List Nspace := (s.vault.ns.map (·.2)).filter (fun v => decide (v.code = 1))

/-- The namespace that holds a region of the Vault space (10 R273). -/
def State.spaceOf (s : State) (r : Nat) : Option Nspace :=
  s.spaces.find? (fun v => decide (v.first ≤ r) && decide (r < v.first + v.regions))

/-- A region of a drive as a key: drive, NSID and region in the namespace. -/
def physKey (drive nsid local_ : Nat) : Nat := (drive * 4294967296 + nsid) * 268435456 + local_

/-- The key of a region of the Vault space. -/
def State.physOf (s : State) (r : Nat) : Nat :=
  match s.spaceOf r with
  | some v => physKey v.drive v.nsid (r - v.first)
  | none => 0

/-- The region of the Vault space with a key, where it is online. -/
def State.regionOfKey (s : State) (k : Nat) : Option Nat :=
  match s.spaces.find? (fun v => decide (k / 268435456 = v.drive * 4294967296 + v.nsid)) with
  | some v => if k % 268435456 < v.regions then some (v.first + k % 268435456) else none
  | none => none

/-- The drive that holds a region. -/
def State.driveOf (s : State) (r : Nat) : Nat := match s.spaceOf r with | some v => v.drive | none => 0

/-- The LBA of a region's first block (10 R273). -/
def State.lbaOf (s : State) (r : Nat) : Nat := match s.spaceOf r with | some v => (r - v.first) * 256 | none => 0

/-- Whether a region's written bit is set (10 R277). -/
def State.isWritten (s : State) (r : Nat) : Bool := s.vault.written.contains (s.physOf r)

/-- A number placed in a rising list. -/
def insertSorted (n : Nat) : List Nat → List Nat
  | [] => [n]
  | m :: l => if n < m then n :: m :: l else if n = m then m :: l else m :: insertSorted n l

/-! ### NVMe commands -/

/-- The lowest identifier from `n` on that no outstanding command has. -/
def freeCmd (m : SMap Nvme) : Nat → Nat → Nat
  | 0, n => n
  | f + 1, n => if m.any (fun e => decide (e.1 = n)) then freeCmd m f (n + 1) else n

/-- Bytes a command moves over the Vault attachment: those of a Read, a Write or a map write (10 R271; 01 R27). -/
def Nvme.bytes (c : Nvme) : Nat := if c.op = 2 ∨ c.op = 3 then 0 else c.blocks * 4096

/-- The level of a command at the Vault attachment: 1 capture writes, 2 the shared streams of jobs, 3 Vault items, 4 catch-up and reference
reads, which share the third level (10 R286, R294). -/
def State.cmdLevel (s : State) (c : Nvme) : Nat :=
  match c.item, c.job with
  | some k, _ => if (s.getItems k).op = 0x68 then 1 else 3
  | none, some (_, tag) => if tag = 0 then 2 else 4
  | none, none => 3

/-- The principal a command is issued for; the operator where it serves no item and no job (07 R232; log entry 100). -/
def State.cmdOwner (s : State) (c : Nvme) : Nat :=
  match c.item, c.job with
  | some k, _ => (s.getItems k).principal
  | none, some (n, _) => (s.job n).principal
  | none, none => 0

/-- Whether a command that waits may be sent: its direction has room, its drive a queue entry, and its owner's loan is not Paused (01 R27;
03 R91; 10 R271). -/
def State.cmdMay (s : State) (c : Nvme) : Bool :=
  !c.issued && decide (0 < if c.op = 0 then s.vault.roomIn else s.vault.roomOut) &&
    decide ((s.vault.cmds.filter (fun e => e.2.issued && decide (e.2.drive = c.drive))).length < 8 * s.cfg 0x2300 4) &&
    decide ((s.getTenants (s.cmdOwner c)).loan ≠ .paused)

/-- The command of a list that came first. -/
def firstCmd (l : List (Nat × Nvme)) : Option (Nat × Nvme) :=
  l.foldl (fun a e => match a with
    | some b => if e.2.seq < b.2.seq then some e else some b
    | none => some e) none

/-- The first command of the job slot after the one served last, round-robin (10 R286). -/
def State.streamNext (s : State) (l : List (Nat × Nvme)) : Option (Nat × Nvme) :=
  ((List.range 16).map (fun k => (s.vault.jobTurn + 1 + k) % 16)).findSome? (fun n =>
    firstCmd (l.filter (fun e => decide (e.2.job.map (·.1) = some n))))

/-- The first command of the principal whose turn it is among Vault items (07 R232; 10 R286). -/
def State.itemNext (s : State) (l : List (Nat × Nvme)) : Option (Nat × Nvme) :=
  let heads := (List.range 65).filterMap (fun t => firstCmd (l.filter (fun e => decide (s.cmdOwner e.2 = t))))
  (drrNext s.vault.drrTurn s.vault.deficit (heads.map (fun e => (s.cmdOwner e.2, e.2.bytes)))).bind (fun t =>
    heads.find? (fun e => decide (s.cmdOwner e.2 = t)))

/-- The command sent next: capture writes, then the streams of jobs in turn, then catch-up reads while they have had less than their
share, then Vault items in turn, then catch-up reads (10 R286; 07 R232). -/
def State.cmdNext (s : State) : Option (Nat × Nvme) :=
  let may := s.vault.cmds.filter (fun e => s.cmdMay e.2)
  let at_ := fun k => may.filter (fun e => decide (s.cmdLevel e.2 = k))
  let short := decide (s.vault.catchUsed * 100 < s.cfg 0x2303 0 * (s.vault.catchUsed + s.vault.restUsed))
  (firstCmd (at_ 1)).or ((s.streamNext (at_ 2)).or
    ((if short then firstCmd (at_ 4) else none).or ((s.itemNext (at_ 3)).or (firstCmd (at_ 4)))))

/-- A command sent to its drive: its bytes use the attachment, and the turn of its level moves (10 R271, R286; 01 R27; 07 R232). -/
def State.cmdSend (s : State) (id : Nat) (c : Nvme) : State :=
  let lvl := s.cmdLevel c
  let t := s.cmdOwner c
  let waits := s.vault.cmds.any (fun e => !e.2.issued && decide (s.cmdLevel e.2 = 4))
  let had := s.drrHad s.vault.drrTurn s.vault.deficit 1048576 t c.bytes
  (s.modVault (fun v => { v with
    cmds := SMap.put Nvme.reset v.cmds id { c with issued := true }
    roomIn := if c.op = 0 then v.roomIn - c.bytes else v.roomIn
    roomOut := if c.op = 0 then v.roomOut else v.roomOut - c.bytes
    jobTurn := if lvl = 2 then (c.job.map (·.1)).getD 0 else v.jobTurn
    drrTurn := if lvl = 3 then t else v.drrTurn
    deficit := if lvl = 3 then SMap.put 0 v.deficit t (had - c.bytes) else v.deficit
    catchUsed := if waits = false then 0 else if lvl = 4 then v.catchUsed + c.bytes else v.catchUsed
    restUsed := if waits = false then 0 else if lvl = 3 then v.restUsed + c.bytes else v.restUsed })).emit
    (.nvme c.drive c.op c.lba c.blocks c.fua)

/-- Commands that wait are sent while the attachment has room, in the order of R286; none under package-safe-stop (10 R286; 01 R27; 16
R409). -/
def State.nvmePump (s : State) : Nat → State
  | 0 => s
  | f + 1 =>
    if s.flt.safeStop then s
    else match s.cmdNext with
      | some (id, c) => (s.cmdSend id c).nvmePump f
      | none => s

/-- An NVMe command arises: 0 Read, 1 Write, 2 Flush, 3 Deallocate, and 4 and 5 the FUA writes that set and clear map bits (10 R271, R274,
R277). One that moves data takes its turn at the Vault attachment, the others are sent at once; none under package-safe-stop (10 R286; 16
R409). -/
def State.nvme (s : State) (c : Nvme) (fua : Bool) : State :=
  let id := freeCmd s.vault.cmds (s.vault.cmds.length + 1) s.vault.nextCmd
  let now := decide (c.bytes = 0)
  let c := { c with fua := fua, issued := now, retried := false, seq := s.vault.nextSeq }
  if s.flt.safeStop then s
  else
    let s := s.modVault (fun v => { v with
      cmds := SMap.put Nvme.reset v.cmds id c, nextCmd := (id + 1) % 65536, nextSeq := v.nextSeq + 1 })
    if now then s.emit (.nvme c.drive c.op c.lba c.blocks fua) else s.nvmePump s.vault.cmds.length

/-- Whether written bits are still being cleared that no item waits for (10 R280, R281). -/
def State.clearing (s : State) : Bool := s.vault.cmds.any (fun e => decide (e.2.op = 5) && e.2.item.isNone)

/-- The last step of an enable, once its clearing is durable or cannot be made so (10 R281; log entry 69). -/
def State.enableDone (s : State) : State :=
  if s.vault.enabling ∧ s.clearing = false then s.modVault (fun v => { v with enabling := false, enabled := true }) else s

/-- Commands that have not been sent are dropped (16 R409). -/
def State.dropWaiting (s : State) : State :=
  (s.modVault (fun v => { v with cmds := SMap.select (fun _ c => c.issued) v.cmds })).enableDone

/-! ### Extents -/

/-- The regions of a list of extents. -/
def extSize (l : List (Nat × Nat)) : Nat := l.foldl (fun a e => a + e.2) 0

/-- Extents in order of their first region. -/
def extSort : List (Nat × Nat) → List (Nat × Nat)
  | [] => []
  | e :: l =>
    let rec put (e : Nat × Nat) : List (Nat × Nat) → List (Nat × Nat)
      | [] => [e]
      | x :: xs => if e.1 ≤ x.1 then e :: x :: xs else x :: put e xs
    put e (extSort l)

/-- The free extents below `total`, given the used ones in rising order. -/
def gapsFrom (total : Nat) : Nat → List (Nat × Nat) → List (Nat × Nat)
  | pos, [] => if pos < total then [(pos, total - pos)] else []
  | pos, (f, n) :: l => if pos < f then (pos, f - pos) :: gapsFrom total (f + n) l else gapsFrom total (max pos (f + n)) l

/-- The extents of every allotment. -/
def State.usedExts (s : State) : List (Nat × Nat) := extSort (s.tenants.flatMap (fun e => e.2.extents))

/-- The free extents of the Vault space, lowest first (10 R275). -/
def State.freeExts (s : State) : List (Nat × Nat) := gapsFrom s.vault.regions 0 s.usedExts

/-- Free regions (10 R304 0x8241). -/
def State.freeRegions (s : State) : Nat := extSize s.freeExts

/-- The first `n` regions of a list of extents; none where there are fewer. -/
def takeExts (n : Nat) : List (Nat × Nat) → Option (List (Nat × Nat))
  | [] => if n = 0 then some [] else none
  | (f, c) :: l =>
    if n = 0 then some []
    else if n ≤ c then some [(f, n)]
    else (takeExts (n - c) l).map (fun r => (f, c) :: r)

/-- The first `n` regions of an allotment, and the regions past them. -/
def cutExts (n : Nat) : List (Nat × Nat) → List (Nat × Nat) × List (Nat × Nat)
  | [] => ([], [])
  | (f, c) :: l =>
    if c ≤ n then let r := cutExts (n - c) l; ((f, c) :: r.1, r.2)
    else if n = 0 then ([], (f, c) :: l)
    else ([(f, n)], (f + n, c - n) :: l)

/-- The region of the Vault space that holds region `n` of an allotment (10 R275). -/
def regionAt (n : Nat) : List (Nat × Nat) → Option Nat
  | [] => none
  | (f, c) :: l => if n < c then some (f + n) else regionAt (n - c) l

/-- Whether a region lies in a list of extents. -/
def inExts (l : List (Nat × Nat)) (r : Nat) : Bool := l.any (fun e => decide (e.1 ≤ r) && decide (r < e.1 + e.2))

/-- The parts of an extent in each online namespace: the namespace, its first region and the count. -/
def State.splitExt (s : State) (e : Nat × Nat) : List (Nspace × Nat × Nat) :=
  s.spaces.filterMap (fun v =>
    let lo := max e.1 v.first
    let hi := min (e.1 + e.2) (v.first + v.regions)
    if lo < hi then some (v, lo, hi - lo) else none)

/-- Regions leave an allotment: their bits are cleared, the change is made durable for `item`, and Deallocate follows (10 R280,
R283). -/
def State.clearExts (s : State) (l : List (Nat × Nat)) (item : Option Nat) : State :=
  let gone := fun (k : Nat) => match s.regionOfKey k with | some r => inExts l r | none => false
  let dirty := (s.vault.written.filter gone).filterMap s.regionOfKey
  let parts := (l.flatMap s.splitExt).filter (fun x => dirty.any (fun r => decide (x.2.1 ≤ r) && decide (r < x.2.1 + x.2.2)))
  let s := s.modVault (fun v => { v with
    written := v.written.filter (fun k => !(gone k))
    data := SMap.select (fun a _ => !(gone (a / 1048576))) v.data })
  parts.foldl (fun s x =>
    s.nvme { Nvme.reset with drive := x.1.drive, op := 5, item := item, region := x.2.1, lba := (x.2.1 - x.1.first) * 256,
                             blocks := x.2.2 * 256 } true) s

/-- Whether an open Vault item, a job or a capture of principal `t` reaches block `top` of its allotment (10 R276). -/
def State.touchesAbove (s : State) (t top : Nat) : Bool :=
  s.items.any (fun e => decide (e.2.principal = t) && decide (0x60 ≤ e.2.op) && decide (e.2.op ≤ 0x63) &&
      decide (top < e.2.vault + e.2.blocks))
    || s.vault.jobs.any (fun e => e.2.active && decide (e.2.principal = t) && !e.2.upstream &&
      decide (top < e.2.tlba + e.2.blocks))
    || s.vault.captures.any (fun c => decide (c.principal = t) && decide (top < c.tlba + c.blocks))

/-- The record of the house allotment in the configuration area (10 R281). -/
def State.recordHouse (s : State) : State :=
  let e := (s.getTenants 0).extents
  (s.modVault (fun v => { v with houseRec := e })).flash (fun c => { c with house := e })

/-- An allotment of `t` set to `mib` regions: grown by free extents, lowest first, at most 64 in all, or shrunk from the top; 0,
or the abort code with nothing changed (10 R275, R276, R280). -/
def State.setAllot (s : State) (t mib : Nat) : State × Nat :=
  let ext := (s.getTenants t).extents
  let cur := extSize ext
  let put := fun (s : State) (e : List (Nat × Nat)) =>
    let s := s.modTenants t (fun x => { x with extents := e })
    if t = 0 then s.recordHouse else s
  if mib = cur then (s, 0)
  else if cur < mib then
    match takeExts (mib - cur) s.freeExts with
    | some new => if 64 < ext.length + new.length then (s, 0x06090031) else (put s (ext ++ new), 0)
    | none => (s, 0x06090031)
  else if s.touchesAbove t (mib * 256) then (s, 0x08000022)
  else
    let c := cutExts mib ext
    (put (s.clearExts c.2 none) c.1, 0)

end Sys2Proof.Machine
end

