-- ==== Sys2Proof/Machine/Sessions.lean ====
section
/-!
DEFINITION. Opening, confirming, closing and resetting sessions (05 R139 to R146).
-/
namespace Sys2Proof.Machine

/-- A secret-store slot; an unwritten slot is 32 zero bytes (17 R446, R447). -/
def State.secret (s : State) (slot : Nat) : Bytes :=
  let k := SMap.get [] s.boot.secrets slot
  if k = [] then zeros 32 else k

/-- Whether a slot counts as written (17 R447). -/
def State.hasSecret (s : State) (slot : Nat) : Bool := (s.secret slot).any (fun b => decide (b ≠ 0))

/-- An open-exchange frame is accepted: VERSION, TYPE, TENANT and length valid, a written key, a good tag, a TXC above the last
accepted (04 R122; 05 R139, R140). -/
def State.openOk (s : State) (f : OpenFrame) : Bool :=
  decide (f.version = 1) && decide (f.typ = 4) && decide (f.tenant ≤ 64) && decide (f.payload.length ≤ s.maxPayload)
    && s.hasSecret f.tenant && f.tagOk
    && (match (s.getTenants f.tenant).openTxc with | some c => decide (c < f.txc) | none => true)

/-- The session item limit of a principal (05 R158; the house's is the object's default, log entry 21). -/
def State.itemLimit (s : State) (t : Nat) : Nat := if t = 0 then 4096 else s.cfg 0x6012 t

/-- The session buffer size of a principal in KiB (04 R132; log entry 21 for the house). -/
def State.bufKib (s : State) (t : Nat) : Nat := if t = 0 then 1024 else s.cfg 0x6010 t

/-- The session limit of a principal (05 R143). -/
def State.sessLimit (s : State) (t : Nat) : Nat := if t = 0 then 4 else s.cfg 0x6011 t

/-- The lowest session number that is Closed (05 R144). -/
def State.freeSess (s : State) : Option Nat :=
  (List.range 1024).find? (fun n => decide ((s.getSess n).state = .closed))

/-- The generation an OPEN names: the loan's, or the house's (05 R142, R157). -/
def State.generation (s : State) (t : Nat) : Nat := (s.getTenants t).generation.toNat

/-- The STATUS of an OPEN: the version, the house path, then the order of the table OPEN refusals; every session of the principal that
is not Closed counts as open (05 R143, R146; log entries 80, 90 and 97). -/
def State.openStatus (s : State) (t version gen : Nat) : Nat :=
  let x := s.getTenants t
  if version ≠ 1 then 6
  else if t = 0 ∧ s.cfg 0x2011 4 = 0 then 7
  else if (t ≠ 0 ∧ x.loan ≠ .active ∧ x.loan ≠ .paused) ∨ (gen ≠ 0 ∧ gen ≠ s.generation t) then 1
  else if s.sessLimit t ≤ (s.heldSess t).length then 2
  else if s.cfg 0x2203 1 < s.mem.poolUsed + 2 * s.bufKib t ∨ s.freeSess = none then 3
  else if s.cfg 0x2205 2 * 1024 < s.mem.ledgerUsed + 32 * s.itemLimit t then 4
  else if 65536 ≤ x.nextBlock then 5
  else 0

/-- An open-exchange frame of the hub, in answer to one of a peer, under the principal's transport key with the hub's next TXC: the
boot count in bits [63:40] (05 R139, R140). -/
def State.sendExchange (s : State) (q : OpenFrame) (payload : Bytes) : State :=
  let t := q.tenant
  let f : OutFrame :=
    { typ := 4, sess := 0xFFFF, tenant := t, flags := 0, seq := 0, ack := 0, window := 0, sacks := []
      txc := s.boot.bootCount.toNat % 16777216 * 1099511627776 + (s.getTenants t).hubTxc % 1099511627776
      tsval := s.clk.usCount.toNat, tsecr := q.tsval.toNat, payload := payload, sealed := [], peer := q.via.src
      peerPort := q.via.srcPort }
  (s.modTenants t (fun x => { x with hubTxc := x.hubTxc + 1 })).queueFrame (f.seal (s.secret t))

/-- The ports on no loan, which the operator keeps, encoded as a port set (03, 05 R142; log entry 21). -/
def State.housePorts (s : State) : Nat :=
  (allPorts.filter (fun p => decide ((s.getUsb p).loanOwner = 0))).foldl (fun a p => a + 2 ^ (p - 1)) 0

/-- ACCEPT, 48 bytes; in a refusal HUB_NONCE, ACCESSION_BLOCK and PORT_SET are 0 (05 R142; log entry 97). -/
def State.acceptBytes (s : State) (t status sess nonce block : Nat) (ports : Nat) : Bytes :=
  natBE 1 2 ++ natBE 1 status ++ natBE 2 sess ++ natBE 16 nonce ++ natBE 4 (s.generation t) ++ natBE 2 block ++
    natBE 2 (s.itemLimit t) ++ natBE 4 (s.bufKib t) ++ natLE 12 ports ++ natBE 4 (s.getTenants t).ledger.length

/-- An accepted OPEN takes the lowest free session: buffers, reservation, accession block, key; ACCEPT is sent (05 R141
to R145, R157, R160). -/
def State.openAt (s : State) (n : Nat) (f : OpenFrame) : State :=
  let t := f.tenant
  let nonce := s.free % 2 ^ 128
  let s := s.tookFree
  let block := (s.getTenants t).nextBlock
  let ports := if t = 0 then s.housePorts else (s.getTenants t).ports.toNat
  let info := [0x69, 0x73, 0x61, 0x69, 0x78, 0x2D, 0x73, 0x65, 0x73, 0x73, 0x69, 0x6F, 0x6E] ++ natBE 2 n ++ natBE 1 t
  let key : SessKey := ⟨s.secret t, slice f.payload 4 16 ++ natBE 16 nonce, info⟩
  let s := s.sendExchange f (s.acceptBytes t 0 n nonce block ports)
  let s := s.modTenants t (fun x => { x with nextBlock := x.nextBlock + 1 })
  let s := s.modMem (fun m => { m with
    poolUsed := m.poolUsed + 2 * s.bufKib t
    ledgerUsed := m.ledgerUsed + 32 * s.itemLimit t })
  s.modSess n (fun x => { x with
    state := .opening, heldFrom := false, lossEnd := false, peer := f.via.src, peerPort := f.via.srcPort, pathEnd := false,
    reason := 0, ended := 0, tenant := t, key := key,
    block := block, expect := 0, gapTold := false, itemLimit := s.itemLimit t, bufKib := s.bufKib t, ledgerRes := 32 * s.itemLimit t,
    txQueue := [], perQueue := [], evLost := 0, txNext := 0, txOldest := 0, rxNext := 0, replay := [], rxBuf := [], peerSacks := [],
    window := 0, txc := 0, rxTxc := none, unacked := 0, tsRecent := 0, srtt := 0, rttvar := 0, rto := s.cfg 0x2203 3,
    rtoCount := 0, stallSpanNow := false, stallBufNow := false, stallWinNow := false, ledgerWait := [] })

/-- OPEN (05 R139 to R145): discarded and counted, refused, or accepted, with the S-class values of the principal that the open brings
into effect (00 R14); a record other than OPEN changes nothing more (05 R145). -/
def State.openReq (s : State) (f : OpenFrame) : State :=
  let t := f.tenant
  let p := f.payload
  if s.arrives f.via = false ∨ s.dbg.lock = 1 then s
  else if s.openOk f = false then s.discardFrame
  else
    let s := s.modTenants t (fun x => { x with openTxc := some f.txc })
    if p.length ≠ 32 ∨ p.take 1 ≠ [1] then s
    else
      let s' := s.applyS t
      let st := s'.openStatus t (beNat (slice p 1 1)) (beNat (slice p 20 4))
      if st = 0 then
        match s'.freeSess with
        | some n => s'.openAt n f
        | none => s
      else
        let s := if st = 3 then s.upEvent 0x40000 else s
        s.sendExchange f (s.acceptBytes t st 0xFFFF 0 0 0)

/-- CONFIRM under the session key, SEQ 0: the session is Open, its counters are cleared and ledger delivery starts (05
R145, R161; 04 R138); in Open and Draining it changes nothing (05 R145). -/
def State.confirmed (s : State) (f : Frame) : State :=
  if s.arrives f.via = false then s
  else if s.frameOk f 4 [.opening] && decide (f.seq = 0) && decide (f.payload.take 1 = [3]) then
    let s := s.modSess f.sess (fun x => { x with
      state := .opened, rxNext := 1, stallSpan := 0, stallBuf := 0, stallWin := 0, retx := 0, heldPeak := 0 })
    (s.takeHeader f).deliverLedger (s.getSess f.sess).tenant
  else if s.frameOk f 4 [.opening, .opened, .draining] then s
  else s.discardFrame

/-- An Opening session is given up: Closed, its buffers and reservation released (05 R145). -/
def State.giveUp (s : State) (n : Nat) : State := if (s.getSess n).state = .opening then s.closeSession n else s

/-- CLOSE with MODE drain (05 R145). -/
def State.closeDrained (s : State) (n : Nat) : State :=
  if (s.getSess n).state = .opened then (s.modSess n (fun x => { x with state := .draining })).drained n else s

/-- CLOSE with MODE abort (05 R145, R147). -/
def State.closeAborted (s : State) (n : Nat) : State :=
  if (s.getSess n).state = .opened ∨ (s.getSess n).state = .draining then s.endSession n 0x32 0 false false else s

/-- A RESET reaches one session (05 R145, R147). -/
def State.resetOne (s : State) (n : Nat) : State :=
  match (s.getSess n).state with
  | .opening => s.giveUp n
  | .opened | .draining => s.endSession n 0x30 0x04 false true
  | _ => s

/-- A RESET of principal `t` names a session, or 0xFFFF for every session of the principal (05 R142). -/
def State.resetAll (s : State) (t target : Nat) : State :=
  if target = 0xFFFF then (s.heldSess t).foldl (fun s n => s.resetOne n) s
  else if (s.getSess target).tenant = t then s.resetOne target else s

/-- A RESET record in an open-exchange frame under the principal's transport key (05 R139, R142, R145). -/
def State.exchangeReset (s : State) (f : OpenFrame) : State :=
  if s.arrives f.via = false then s
  else if s.openOk f then
    let s := s.modTenants f.tenant (fun x => { x with openTxc := some f.txc })
    if f.payload.length = 8 ∧ f.payload.take 1 = [5] then s.resetAll f.tenant (beNat (slice f.payload 2 2)) else s
  else s.discardFrame

/-- A session record under the session key: CLOSE of either MODE or RESET; any other causes no change (05 R142, R145). -/
def State.sessRecord (s : State) (n : Nat) (b : Bytes) : State :=
  if b.length < 8 then s
  else if b.take 2 = [4, 0] then s.closeDrained n
  else if b.take 2 = [4, 1] then s.closeAborted n
  else if b.take 1 = [5] then s.resetAll (s.getSess n).tenant (beNat (slice b 2 2))
  else s

/-- An Ending session whose items have all ended sends CLOSED once and is Closed (05 R145). -/
def State.endingDone (s : State) (n : Nat) : State :=
  let x := s.getSess n
  if x.state = .ending ∧ s.sessItems n = [] then (s.sendClosed n x.reason x.ended).closeSession n else s

end Sys2Proof.Machine
end

