-- ==== Sys2Proof/Machine/Loans.lean ====
section
/-!
DEFINITION. Loans: their checks, grant, change, recall, resume and lease (03 R81 to R95; 08 R251; 16 R412; 18 R468).
-/
namespace Sys2Proof.Machine

/-- The ports a 96-bit port set names (03 R93 0x6001). -/
def portsOfSet (b : Nat) : List Nat := allPorts.filter (fun p => bitOf b (p - 1))

/-- The proposed port set of tenant `t` (03 R93). -/
def State.proposed (s : State) (t : Nat) : List Nat := portsOfSet (s.cfg 0x6001 t)

/-- Whether a pipe of a port is held by a job, capture or channel (10 R284, 11 R314). -/
def State.portHeld (s : State) (p : Nat) : Bool :=
  s.pipes.any (fun e => decide (e.2.port = p) && decide (e.2.heldBy ≠ .none))

/-- The check of the port set: 0, or the abort code (03 R84; 11 R314; 18 R468). -/
def State.portsCheck (s : State) (t : Nat) : Nat :=
  let ps := s.proposed t
  if ps.any (fun p => decide ((s.getUsb p).loanOwner ≠ 0) && decide ((s.getUsb p).loanOwner ≠ t)) then 0x08000022
  else if ps.any (fun p => decide ((s.getUsb p).loanOwner ≠ t) && s.portHeld p) then 0x08000022
  else if ps.any (fun p => decide (s.cfg 0x4010 p = 0)) then 0x06090030
  else 0

/-- The check of the power budget (03 R82, R84). -/
def State.powerCheck (s : State) (t : Nat) : Nat :=
  if s.cfg 0x6002 t < sumOf ((s.proposed t).map s.budget) then 0x06090031 else 0

/-- The check of the periodic reservation (03 R84, 08 R251). -/
def State.periodicCheck (s : State) (t : Nat) (change : Bool) : Nat :=
  let want := s.cfg 0x6003 t
  let others := sumOf ((s.tenants.filter (fun e => decide (e.1 ≠ t) && decide (e.1 ≠ 0))).map (fun e => e.2.periodic))
  if s.cfg 0x2021 1 < others + want + s.cfg 0x2021 2 then 0x06090031
  else if change ∧ (want < s.upCharge t true ∨ want < s.upCharge t false) then 0x06090032
  else 0

/-- The first failing check of a grant or change, in the order of the table Terms of a loan (03 R83, R84; 16 R409 refuses none).
The Vault allotment is tried last but one, with its state. -/
def State.termsCheck (s : State) (t : Nat) (change : Bool) : Nat :=
  if s.coll.quorum = false then 0x08000022
  else
    let a := s.portsCheck t
    let b := s.powerCheck t
    let c := s.periodicCheck t change
    let d := (s.setAllot t (s.cfg 0x6004 t)).2
    if a ≠ 0 then a else if b ≠ 0 then b else if c ≠ 0 then c else if d ≠ 0 then d
    else if s.hasSecret t then 0 else 0x06090030

/-- A loan state reached, with its event (05 R163 LOAN_STATE). -/
def State.loanTo (s : State) (t : Nat) (st : LoanState) : State :=
  (s.modTenants t (fun x => { x with loan := st })).tenantEvent t 0x0008 (loanCode st)

/-- Port loan owners set to a tenant (03 R87). -/
def State.setOwner (s : State) (t : Nat) (ps : List Nat) : State :=
  ps.foldl (fun s p => s.modUsb p (fun u => { u with loanOwner := t })) s

/-- The open items of tenant `t` that concern port `p`. -/
def State.portItems (s : State) (t p : Nat) : List Nat :=
  s.itemsWhere (fun _ i => decide (i.principal = t) && decide (s.itemPort i = p))

/-- A port recalled from a loan: its items end `LOAN_ENDED`, its pipes close, pending values the tenant wrote are discarded (02
R50; 03 R85, R90). -/
def State.recallPort (s : State) (t p : Nat) : State :=
  let s := s.causeItems 0x0B 0 (s.portItems t p)
  let s := s.closeAll 0x0B 0 (s.pipesWhere (fun x => decide (x.port = p) && decide (x.tenant = t) && !x.streamCtx))
  s.dropPend t p

/-- A port whose recall has ended goes back to the operator (03 R85, R87). -/
def State.freeRecalled (s : State) : State :=
  allPorts.foldl (fun s p =>
    let t := (s.getUsb p).loanOwner
    if t = 0 ∨ (s.getTenants t).loan = .recalling ∨ bitOf (s.getTenants t).ports.toNat (p - 1) = true ∨ s.portItems t p ≠ [] then s
    else s.setOwner 0 [p]) s

/-- Every proposed term in force (03 R83, R87). -/
def State.applyTerms (s : State) (t : Nat) : State :=
  let s := (s.setAllot t (s.cfg 0x6004 t)).1
  let s := s.modTenants t (fun x => { x with
    ports := BitVec.ofNat 96 (s.cfg 0x6001 t), power := s.cfg 0x6002 t, periodic := s.cfg 0x6003 t, vaultMib := s.cfg 0x6004 t,
    share := s.cfg 0x6005 t })
  s.setOwner t (s.proposed t)

/-- Grant (03 R83, R90; 05 R151, R157). -/
def State.grant (s : State) (t : Nat) : State × Nat :=
  if (s.getTenants t).loan ≠ .idle then (s, 0x08000022)
  else
    let c := s.termsCheck t false
    if c ≠ 0 then (s, c)
    else
      let s := (s.applyTerms t).modTenants t (fun x => { x with
        generation := x.generation + 1, nextBlock := 0, stopped := false, stopWait := none, pausedBy := [], lastRefusal := 0 })
      (s.loanTo t .active, 0)

/-- Change (03 R83, R85, R90). -/
def State.change (s : State) (t : Nat) : State × Nat :=
  if (s.getTenants t).loan ≠ .active then (s, 0x08000022)
  else
    let c := s.termsCheck t true
    if c ≠ 0 then (s, c)
    else
      let gone := (portsOfSet (s.getTenants t).ports.toNat).filter (fun p => !((s.proposed t).contains p))
      let s := s.applyTerms t
      ((gone.foldl (fun s p => s.recallPort t p) s).freeRecalled, 0)

/-- The loan goes *Recalling*: every open item ends `LOAN_ENDED`, those in progress at their packet boundary (03 R90). -/
def State.recall (s : State) (t : Nat) : State := (s.loanTo t .recalling).causeItems 0x0B 0 (s.tenantItems t)

/-- End (03 R90). -/
def State.endLoan (s : State) (t : Nat) : State × Nat :=
  match (s.getTenants t).loan with
  | .idle => (s, 0x08000022)
  | .recalling => (s, 0)
  | _ => (s.recall t, 0)

/-- Whether the faults that paused a loan are handled: their slots freed and their causes ended (16 R412). -/
def State.faultsHandled (s : State) (t : Nat) : Bool :=
  (s.getTenants t).pausedBy.all (fun c => !(s.flt.holds c.1 c.2) && !(s.flt.causes.contains c))

/-- Resume (03 R90, 16 R412). -/
def State.resumeLoan (s : State) (t : Nat) : State × Nat :=
  match (s.getTenants t).loan with
  | .active => (s, 0)
  | .paused =>
    if s.faultsHandled t then
      let s := (s.modTenants t (fun x => { x with pausedBy := [] })).loanTo t .active
      ((portsOfSet (s.getTenants t).ports.toNat).foldl State.serve s, 0)
    else (s, 0x08000022)
  | _ => (s, 0x08000022)

/-- A loan action's result recorded in `0x6008:t` (03 R83). -/
def recordAction (t : Nat) (r : State × Nat) : State × Nat :=
  (r.1.modTenants t (fun x => { x with lastResult := BitVec.ofNat 32 r.2 }), r.2)

/-- A write to `0x6007:t` (03 R83, R90). -/
def State.loanAction (s : State) (t act : Nat) : State × Nat :=
  if act = 1 then recordAction t (s.grant t)
  else if act = 2 then recordAction t (s.change t)
  else if act = 3 then recordAction t (s.endLoan t)
  else if act = 4 then recordAction t (s.resumeLoan t)
  else (s, 0x06090030)

/-- The locks that sessions of tenant `t` hold are lost to this package: *Broken* in its copy, with LOCK_BROKEN (03 R104, R110; log
entry 92). -/
def State.locksLost (s : State) (t : Nat) : State :=
  let mine := (s.coll.locks.filter (fun e => decide (e.2.state = .held) && decide (e.2.member = s.member) &&
    ((s.heldSess t).contains e.2.sess || (decide (t = 0) && decide (e.2.sess = 1023))))).map (·.1)
  let s := mine.foldl (fun s n => s.setLock n { s.lock n with state := .broken }) s
  if mine.isEmpty then s else s.collEvent (fun c => { c with lockBroken := true })

/-- A lease reaches its end: LEASE_EXPIRED, the tenant's locks lost, and the recall; without quorum the operator's locks of this package
are lost at the same moment (03 R90, R99, R104; log entry 92). -/
def State.leaseOver (s : State) (t : Nat) : State :=
  let s := if s.coll.quorum then s else s.locksLost 0
  match (s.getTenants t).loan with
  | .active | .paused => ((s.collEvent (fun c => { c with leaseExp := true })).locksLost t).recall t
  | _ => s

/-- The exchange templates of a principal are forgotten (03 R95; 10 R287). -/
def State.dropTemplates (s : State) (t : Nat) : State :=
  s.modVault (fun v => { v with templates := SMap.select (fun k _ => decide (k / 8 ≠ t)) v.templates })

/-- The last item of a recalled loan has ended: its sessions end, its memory is zeroed, its reservations are released and its
ports go back to the operator (03 R90, R95; 05 R145, R162; 10 R280). -/
def State.loanIdle (s : State) (t : Nat) : State :=
  if (s.getTenants t).loan ≠ .recalling ∨ s.tenantItems t ≠ [] then s
  else
    let ps := portsOfSet (s.getTenants t).ports.toNat
    let s := s.loanTo t .idle
    let s := (s.openingSess t).foldl (fun s n => s.giveUp n) s
    let s := (s.liveSess t).foldl (fun s n => s.endSession n 0x32 1 false false) s
    let s := s.dropLedger t
    let s := s.closeAll 0x0B 0 (s.pipesWhere (fun x => decide (x.tenant = t) && !x.streamCtx))
    let s := ps.foldl (fun s p => s.dropPend t p) s
    let s := (s.clearExts (s.getTenants t).extents none).dropTemplates t
    let s := s.modTenants t (fun x => { x with
      ports := 0, power := 0, periodic := 0, vaultMib := 0, share := 0, extents := [], pausedBy := [], stopped := false })
    s.setOwner 0 (allPorts.filter (fun p => decide ((s.getUsb p).loanOwner = t)))

end Sys2Proof.Machine
end

