-- ==== Sys2Proof/Machine/Collection.lean ====
section
/-!
DEFINITION. The Collection: quorum, epochs, provenance digests and hardware locks (03 R96 to R110).
-/
namespace Sys2Proof.Machine

/-! ### Voters and quorum -/

/-- The number of voters (03 R98). -/
def State.voterCount (s : State) : Nat := s.cfg 0x7000 2 + s.cfg 0x7000 5

/-- Whether a number names another voter: a member of the Collection, or the witness as 0 (03 R98). -/
def State.isVoter (s : State) (m : Nat) : Bool :=
  if m = 0 then decide (s.cfg 0x7000 5 = 1) else decide (m ≤ s.cfg 0x7000 2) && decide (m ≠ s.member)

/-- The voters a package counts, itself included (03 R98). -/
def State.counted (s : State) : Nat :=
  1 + (s.coll.voters.filter (fun e => s.isVoter e.1 && e.2.heard && e.2.names)).length

/-- Whether a majority is counted (03 R98). -/
def State.majority (s : State) : Bool := decide (s.voterCount < 2 * s.counted)

/-- The quorum set: members heard within tQWIN and, in normal service, this one, the witness in bit 16, quorum in bit 31 (03 R93 0x7006). -/
def State.quorumSet (s : State) : Nat :=
  let heard := s.coll.voters.filter (fun e => e.2.heard && s.isVoter e.1)
  (if s.inService then 2 ^ (s.member - 1) else 0) + sumOf (heard.map (fun e => if e.1 = 0 then 65536 else 2 ^ (e.1 - 1))) +
    (if s.coll.quorum then 2147483648 else 0)

/-! ### Locks -/

/-- The lock server: the lowest-numbered member of the quorum set (03 Hardware locks). -/
def State.lockServer (s : State) : Nat :=
  let heard := (s.coll.voters.filter (fun e => e.2.heard && s.isVoter e.1 && decide (e.1 ≠ 0))).map (·.1)
  heard.foldl min s.member

/-- The session that a path's lock request comes from; the paths without a session use 1,023 (03 R103; log entry 28). -/
def pathSess : Path → Nat
  | .house n | .tenant n => n
  | _ => 1023

/-- What a request does to a lock: its new copy and the answer (03 R106, Lock operations). -/
def lockDo (l : Lock) (op m n t : Nat) (e : Word) : Lock × Nat :=
  let mine := decide (l.member = m) && decide (l.sess = n)
  if op = 1 then
    match l.state with
    | .free => (⟨.held, false, m, n, e⟩, 0)
    | .broken => (⟨.held, true, m, n, e⟩, 0)
    | .held => if mine then (l, 0) else (l, 0x08000022)
  else if op = 2 then
    if l.state = .held ∧ mine = true then ({ l with state := .free, afterBreak := false }, 0) else (l, 0x08000022)
  else if op = 3 then
    if t = 0 then ({ l with state := .broken }, 0) else (l, 0x06090030)
  else (l, 0x06090030)

/-- A lock's copy changed; LOCK_BROKEN where a session of this package held it and it went *Broken* (03 R104, R110). -/
def State.lockPut (s : State) (n : Nat) (l : Lock) : State :=
  let old := s.lock n
  let s := s.setLock n l
  if old.state = .held ∧ l.state = .broken ∧ old.member = s.member then
    s.collEvent (fun c => { c with lockBroken := true })
  else s

/-- A lock request as a message carries it (log entry 17). -/
def lockAsk (n op m sess t : Nat) : Bytes := natBE 1 n ++ natBE 1 op ++ natBE 1 m ++ natBE 2 sess ++ natBE 1 t

/-! ### Answers to lock requests -/

/-- An SDO response frame of 8 bytes (02 CAN FD SDO; CiA 301). -/
def State.sdoSend (s : State) (d : Bytes) : State := s.emit (.can (0x580 + s.nodeId) (padTo 8 d))

/-- The SDO answer to a download or to a refused request (02 R57; CiA 301). -/
def State.sdoDone (s : State) (idx sub ab : Nat) : State :=
  s.sdoSend (if ab = 0 then natLE 1 0x60 ++ natLE 2 idx ++ natLE 1 sub else natLE 1 0x80 ++ natLE 2 idx ++ natLE 1 sub ++ natLE 4 ab)

/-- STATUS and ABORT put into a response record that waited for them (02 R65). -/
def finishRec (ab : Nat) (r : Bytes) : Bytes := natLE 1 (b2n (decide (ab ≠ 0))) ++ slice r 1 7 ++ natLE 4 ab ++ r.drop 12

/-- Whether a response record still waits for the lock server's answer about an object: its STATUS is held at 0xFF meanwhile (03 R103). -/
def waitsFor (idx : Nat) (r : Bytes) : Bool := decide (slice r 0 1 = [0xFF]) && decide (slice r 2 2 = natLE 2 idx)

/-- The answer to a write of a lock that its path still waits for (02 R63, R66; 03 R103). -/
def State.lateRsp (s : State) (path : Path) (idx ab : Nat) : State :=
  match path with
  | .can => s.sdoDone idx 3 ab
  | .spi =>
    if waitsFor idx s.board.rsp then
      s.modBoard (fun b => { b with rsp := finishRec ab b.rsp, rspReady := true, reqBusy := false })
    else s
  | .svc => s.modBoard (fun b => { b with
      svcQueue := b.svcQueue.map (fun e => if waitsFor idx e.2 then (e.1, finishRec ab e.2) else e) })
  | _ => s

/-- A request of this package answered: removed, and its path told; one whose answer never comes waits on (03 R103; log entry 103). -/
def State.lockAnswered (s : State) (n op sess : Nat) (ab : Word) : State :=
  match s.coll.lockReqs.find? (fun q => decide (q.lock = n) && decide (q.op = op) && decide (pathSess q.path = sess)) with
  | some q =>
    let s := s.modColl (fun c => { c with lockReqs := c.lockReqs.erase q })
    match q.item with
    | some k => s.finishB k (if ab = 0 then 0 else 0x0C) (if ab = 0 then 0 else 0x09) (natBE 4 ab.toNat ++ zeros 4)
    | none => (s.lateRsp q.path (0x6400 + n) ab.toNat).emit (.answer q.path (0x6400 + n) 3 ab.toNat)
  | none => s

/-- The lock server's answer to a request of a session: to its member, or here (03 R103; log entry 17). -/
def State.lockReply (s : State) (n op m sess ab : Nat) : State :=
  if m = s.member then s.lockAnswered n op sess (BitVec.ofNat 32 ab)
  else s.nqSend m 5 (natBE 1 op ++ s.lockBody n ++ natBE 4 ab ++ natBE 2 sess)

/-- Waiting acquires of a lock end: granted once a majority of voters has recorded the owner (03 R103). -/
def State.settleGrants (s : State) (n : Nat) : State :=
  let done := s.coll.grants.filter (fun g => decide (g.lock = n) && decide (s.voterCount < 2 * g.acks.length))
  let s := s.modColl (fun c => { c with grants := c.grants.filter (fun g => !(done.contains g)) })
  done.foldl (fun s g => s.lockReply n 1 g.member g.sess 0) s

/-- A voter has recorded the owner of a lock (03 R103). -/
def State.lockRecorded (s : State) (n m : Nat) : State :=
  (s.modColl (fun c => { c with grants := c.grants.map (fun g =>
    if g.lock = n ∧ g.acks.contains m = false then { g with acks := g.acks ++ [m] } else g) })).settleGrants n

/-- The lock server takes a changed lock into its copy and sends it to the other voters (03 R103). -/
def State.lockRecord (s : State) (n : Nat) (l : Lock) : State := (s.lockPut n l).lockTell n

/-- An acquire at the lock server: recorded, and granted once a majority of voters has recorded it; one of the owner of a lock still being
recorded waits with the first (03 R103, R106). -/
def State.lockGrant (s : State) (n m sess : Nat) (l : Lock) : State :=
  let old := s.lock n
  let before := s.coll.grants.find? (fun g => decide (g.lock = n))
  if l = old ∧ before = none then s.lockReply n 1 m sess 0
  else
    let s := if l = old then s else s.lockRecord n l
    let g : LockGrant := match before with
      | some b => ⟨n, b.old, m, sess, b.acks⟩
      | none => ⟨n, old, m, sess, [s.member]⟩
    (s.modColl (fun c => { c with grants := c.grants ++ [g] })).settleGrants n

/-- Acquires that still wait when the lock is released or broken, or quorum is lost, are refused (03 R103, R106; log entry 103). -/
def State.dropGrants (s : State) (n : Nat) : State :=
  let l := s.coll.grants.filter (fun g => decide (g.lock = n))
  let s := s.modColl (fun c => { c with grants := c.grants.filter (fun g => decide (g.lock ≠ n)) })
  l.foldl (fun s g => s.lockReply n 1 g.member g.sess 0x08000022) s

/-- Quorum is lost: a lock whose recording had no majority is as it was, and its acquires are refused (03 R106; log entry 103). -/
def State.undoGrants (s : State) : State :=
  s.coll.grants.foldl (fun s g => (s.setLock g.lock g.old).dropGrants g.lock) s

/-- What the lock server does with a request, and whether it was refused (03 R103, R106). -/
def State.lockServed (s : State) (n op m sess t : Nat) (e : Word) : State :=
  let r := lockDo (s.lock n) op m sess t e
  if r.2 ≠ 0 then s.lockReply n op m sess r.2
  else if op = 1 then s.lockGrant n m sess r.1
  else ((s.lockRecord n r.1).lockReply n op m sess 0).dropGrants n

/-- A lock request of a session of this package: done here by the lock server, at once where it needs no other voter, else it waits for
the voters, or is sent to the lock server (03 R103, R106). -/
def State.lockReq (s : State) (n op : Nat) (path : Path) : State × Nat :=
  let t := s.principalOf path
  let wait := fun (s : State) => s.modColl (fun c => { c with lockReqs := c.lockReqs ++ [⟨n, op, path, none⟩] })
  if op = 3 ∧ t ≠ 0 then (s, 0x06090030)
  else if s.coll.quorum = false then (s, 0x08000022)
  else if s.lockServer = s.member then
    let r := lockDo (s.lock n) op s.member (pathSess path) t s.coll.epoch
    if r.2 ≠ 0 then (s, r.2)
    else if op = 1 ∧ 1 < s.voterCount ∧ (r.1 ≠ s.lock n ∨ s.coll.grants.any (fun g => decide (g.lock = n)) = true) then
      ((wait s).lockGrant n s.member (pathSess path) r.1, 0)
    else if r.1 = s.lock n then (s, 0)
    else ((s.lockRecord n r.1).dropGrants n, 0)
  else
    ((wait s).nqSend s.lockServer 4 (lockAsk n op s.member (pathSess path) t), 0)

/-- A lock request of a row command over its path; one sent to another server is answered by its message (03 R103, R107). -/
def State.lockVia (s : State) (n op : Nat) (path : Path) : State :=
  match s.reach path (0x6400 + n) 3 true with
  | none => s
  | some 0 =>
    let r := s.lockReq n op path
    if r.1.coll.lockReqs.length = s.coll.lockReqs.length then r.1.emit (.answer path (0x6400 + n) 3 r.2) else r.1
  | some ab => s.emit (.answer path (0x6400 + n) 3 ab)

/-- A lock request message at the lock server: answered once it is done, or refused (03 R103). -/
def State.lockServe (s : State) (from_ : Nat) (m : LockMsg) : State :=
  if s.coll.quorum && decide (s.lockServer = s.member) then s.lockServed m.lock m.op from_ m.sess m.tenant m.epoch
  else s.lockReply m.lock m.op from_ m.sess 0x08000022

/-- The lock state a message carries. -/
def lockCopy (m : LockMsg) : Lock :=
  ⟨if m.state = 1 then .held else if m.state = 2 then .broken else .free, m.afterBreak, m.member, m.sess, m.epoch⟩

/-- A lock answer message: a record, which this voter takes and acknowledges; an acknowledgement of one, which the lock server counts;
or the answer to a request, with which this member's copy follows and the request completes (03 R103; log entry 17). -/
def State.lockSeen (s : State) (from_ : Nat) (m : LockMsg) : State :=
  if m.op = 0 then (s.lockPut m.lock (lockCopy m)).nqSend from_ 5 (natBE 1 255 ++ (s.lockPut m.lock (lockCopy m)).lockBody m.lock)
  else if m.op = 255 then s.lockRecorded m.lock from_
  else (if m.status = 0 ∧ m.op ≠ 3 then s.lockPut m.lock (lockCopy m) else s).lockAnswered m.lock m.op m.sess m.status

/-- The owner's member has been unheard for the time of R104: its locks go *Broken* (03 R104). -/
def State.lockLost (s : State) (m : Nat) : State :=
  if s.coll.quorum = false then s
  else
    let ls := (s.coll.locks.filter (fun e => decide (e.2.state = .held) && decide (e.2.member = m))).map (·.1)
    ls.foldl (fun s n => s.lockPut n { s.lock n with state := .broken }) s

/-! ### Quorum and epochs -/

/-- The working copy of the Collection key taken from the secret store, where a written key waits for it (03 0x7003:00; 17 R446). -/
def State.takeKey (s : State) : State :=
  if (s.pendOf 0x7003 0).isSome then s.modColl (fun c => { c with key := some (s.secret 65) }) else s

/-- An epoch adopted: its held E-class values apply; a new one ends the proposal of it and is kept in the boot flash (03 R101,
R102). -/
def State.adopt (s : State) (e : Word) : State :=
  let s :=
    if e = s.coll.epoch then s
    else (s.modColl (fun c => { c with epoch := e, acceptedFor := none, accepts := [], proposing := false })).flash
      (fun f => { f with epoch := e })
  s.takeKey.applyE

/-- The highest epoch heard from any voter, or the package's own. -/
def State.topEpoch (s : State) : Word :=
  s.coll.voters.foldl (fun a e => if s.isVoter e.1 ∧ a.toNat < e.2.epoch.toNat then e.2.epoch else a) s.coll.epoch

/-- Quorum is lost: QUORUM_LOST, tQ stays at this moment, and lock requests not granted are refused (03 R98 to R100, R106). -/
def State.loseQuorum (s : State) : State :=
  ((s.modColl (fun c => { c with quorum := false, tQ := s.now })).undoGrants).collEvent (fun c => { c with quorumLost := true })

/-- Quorum follows the count: lost with QUORUM_LOST, regained with the highest epoch heard, whose E-class values may change the
voters (03 R98, R100, R101). -/
def State.settleQuorum (s : State) : State :=
  if s.coll.quorum then (if s.majority then s else s.loseQuorum)
  else if s.majority then
    let t := (s.modColl (fun c => { c with quorum := true })).adopt s.topEpoch
    if t.majority then t else t.loseQuorum
  else s

/-! ### Provenance digests -/

/-- The values of one package alone, left out of the digest (03 R108). -/
def ownValue (k : Nat) : Bool :=
  decide (k = objKey 0x2010 1) || decide (k = objKey 0x2100 1) || decide (k = objKey 0x2100 4) ||
    (decide (objKey 0x2201 1 ≤ k) && decide (k ≤ objKey 0x2201 8)) || decide (k = objKey 0x2202 1) ||
    decide (k = objKey 0x2300 1) || (decide (objKey 0x2301 1 ≤ k) && decide (k ≤ objKey 0x2301 64)) ||
    decide (k = objKey 0x2304 0) || decide (k = objKey 0x7000 1)

/-- The objects of the digest, in ascending order of index and subindex (03 R108). -/
def digestKeys : List Nat :=
  let rows := objTable.filter (fun o => decide (o.op = .rw) &&
    ((decide (0x2000 ≤ o.idxLo) && decide (o.idxHi ≤ 0x27FF)) || (decide (0x7000 ≤ o.idxLo) && decide (o.idxHi ≤ 0x70FF))))
  let keys := rows.flatMap (fun o => (List.range (o.subHi + 1 - o.subLo)).map (fun i => objKey o.idxLo (o.subLo + i)))
  (keys.filter (fun k => !(ownValue k))).foldl (fun l k => insertSorted k l) []

/-- One entry of the digest (03 R108). -/
def State.digestEntry (s : State) (k : Nat) : Bytes :=
  let v := s.cfgB (k / 256) (k % 256)
  natLE 2 (k / 256) ++ natLE 1 (k % 256) ++ zeros 1 ++ natLE 4 v.length ++ v

/-- The provenance digest (03 R108). -/
def State.digest (s : State) : Bytes :=
  natBE 32 (Config.sha256 (digestKeys.flatMap s.digestEntry ++ padTo 48 s.boot.hash ++ natLE 4 s.coll.epoch.toNat)).toNat

/-! ### Nerquelu messages -/

/-- A received message is accepted: from another voter (DESIGN CHOICE: others are discarded and counted, log entry 103), its tag good
under a key that debug access has not zeroed, its SEQUENCE above the last (03 R97; 17 R450, R451). -/
def State.nqOk (s : State) (h : NqHeader) : Bool :=
  s.isVoter h.sender && h.tagOk && s.coll.key.isSome && (match (s.voter h.sender).seq with | some q => decide (q < h.seq) | none => true)

/-- A member whose SEQUENCE shows a new boot count has been reset: each lock it holds goes *Broken* (03 R96, R104; log entry 92). -/
def State.rebooted (s : State) (m seq : Nat) : State :=
  match (s.voter m).seq with
  | some q =>
    if q / 1099511627776 < seq / 1099511627776 then
      ((s.coll.locks.filter (fun e => decide (e.2.state = .held) && decide (e.2.member = m))).map (·.1)).foldl
        (fun s n => s.setLock n { s.lock n with state := .broken }) s
    else s
  | none => s

/-- A message received: discarded and counted, or its SEQUENCE taken and its body acted on (03 R97, R104). -/
def State.nqTake (s : State) (h : NqHeader) (f : State → State) : State :=
  if s.nqOk h then
    let s := if h.sender = 0 then s else s.rebooted h.sender h.seq
    f (s.setVoter h.sender { s.voter h.sender with seq := some h.seq })
  else s.modColl (fun c => { c with discarded := satAdd c.discarded 1 })

/-- A message sent to every other voter. -/
def State.nqAll (s : State) (typ : Nat) (body : Bytes) : State := s.voterList.foldl (fun s m => s.nqSend m typ body) s

/-- A heartbeat to every other member and the witness (03 R97). -/
def State.beat (s : State) : State := s.nqAll 1 (s.digest ++ natBE 4 s.quorumSet)

/-- A member's digest compared at the same epoch; the third difference in succession is reported (03 R109; 16 R413 0x1A). -/
def State.digestSeen (s : State) (m : Nat) (e : Word) (d : Bytes) : State :=
  if m = 0 then s
  else if e ≠ s.coll.epoch then s.setVoter m { s.voter m with mismatches := 0 }
  else if d = s.digest then
    (s.setVoter m { s.voter m with mismatches := 0 }).modColl (fun c => { c with
      mismatch := c.mismatch &&& ~~~(BitVec.ofNat 16 (2 ^ (m - 1))) })
  else
    let n := (s.voter m).mismatches + 1
    let s := s.setVoter m { s.voter m with mismatches := min n 3 }
    if n = 3 then
      let s := s.modColl (fun c => { c with mismatch := c.mismatch ||| BitVec.ofNat 16 (2 ^ (m - 1)) })
      (s.collEvent (fun c => { c with digestMm := true })).note 0x1A m
    else s

/-- A heartbeat accepted (03 R98, R102, R109). -/
def State.beatSeen (s : State) (h : NqHeader) (d : Bytes) (q : Word) : State :=
  let s := s.setVoter h.sender { s.voter h.sender with
    heard := true, names := bitOf q.toNat (s.member - 1), epoch := h.epoch, lastHeard := s.now, quorum := bitOf q.toNat 31 }
  let s := s.digestSeen h.sender h.epoch d
  let s := if h.sender ≠ 0 ∧ bitOf q.toNat 31 = true ∧ s.coll.epoch.toNat < h.epoch.toNat then s.adopt h.epoch else s
  s.settleQuorum

/-- A voter's latest heartbeat leaves tQWIN (03 R98). -/
def State.unheard (s : State) (m : Nat) : State :=
  if (s.voter m).heard then (s.setVoter m { s.voter m with heard := false, names := false }).settleQuorum else s

/-! ### Epochs -/

/-- The epoch is adopted once accepts from a majority of voters are seen (03 R102). -/
def State.countAccepts (s : State) : State :=
  if s.voterCount < 2 * s.coll.accepts.length then (s.adopt (s.coll.epoch + 1)).settleQuorum else s

/-- This member's own accept of epoch + 1, sent to every voter (03 R102). -/
def State.acceptEpoch (s : State) : State :=
  let s := s.modColl (fun c => { c with
    acceptedFor := some (c.epoch + 1), accepts := if c.accepts.contains s.member then c.accepts else c.accepts ++ [s.member] })
  (s.nqAll 3 (natBE 4 (s.coll.epoch + 1).toNat)).countAccepts

/-- An epoch advance requested: proposed to every voter (03 R102). -/
def State.propose (s : State) : State × Nat :=
  if s.coll.quorum = false then (s, 0x08000022)
  else
    let s := s.modColl (fun c => { c with proposing := true })
    ((s.nqAll 2 (natBE 4 (s.coll.epoch + 1).toNat)).acceptEpoch, 0)

/-- A proposal of the own epoch plus 1 is accepted once, by a member that holds quorum (03 R102). -/
def State.proposed_ (s : State) (e : Word) : State :=
  if s.coll.quorum ∧ e = s.coll.epoch + 1 ∧ s.coll.acceptedFor ≠ some e then s.acceptEpoch else s

/-- An accept of the own epoch plus 1 (03 R102). -/
def State.acceptSeen (s : State) (m : Nat) (e : Word) : State :=
  if e = s.coll.epoch + 1 ∧ s.coll.accepts.contains m = false then
    (s.modColl (fun c => { c with accepts := c.accepts ++ [m] })).countAccepts
  else s

/-- No majority within tEPOCH (03 R102). -/
def State.epochLate (s : State) : State :=
  if s.coll.proposing then
    (s.modColl (fun c => { c with proposing := false })).collEvent (fun c => { c with epochFailed := true })
  else s

end Sys2Proof.Machine
end

