-- ==== Sys2Proof/Machine/Attach.lean ====
section
/-!
DEFINITION. CC attach and detach, Hard Reset, PD messages, stage events, gallery sums, raise slots and the service port (13
R341 to R366).
-/
namespace Sys2Proof.Machine

/-! ### CC states -/

/-- Whether the fast domain of a port's sentry die is on, so that the port presents Rp (13 R341). -/
def State.fastDomain (s : State) (p : Nat) : Bool := decide (s.dps.state ≠ .shelf) && (s.dps.fastA || decide (sentryDie p = 4))

/-- Rd on exactly one CC in *Unattached.SRC* (13 R342). -/
def State.ccAttach (s : State) (p : Nat) : State :=
  if (s.getPwr p).cc = .unattached ∧ (s.getPwr p).rd = true then s.modPwr p (fun w => { w with cc := .attachWait }) else s

/-- What the two CC pins show: Rd on exactly one is an attach, Rd or Ra on both an accessory, flagged once for each presence
(13 R342). An unfitted port presents no Rp, nor does one whose fast domain is off (13 R341; 18 R468). -/
def State.ccPins (s : State) (p : Nat) (a b : CcPin) : State :=
  let one := s.fastDomain p && decide (s.cfg 0x4010 p = 1) && ((decide (a = .rd) && decide (b ≠ .rd)) || (decide (b = .rd) && decide (a ≠ .rd)))
  let acc := s.fastDomain p && decide (s.cfg 0x4010 p = 1) && ((decide (a = .rd) && decide (b = .rd)) || (decide (a = .ra) && decide (b = .ra)))
  let w := s.getPwr p
  if one then
    let s := s.modPwr p (fun w => { w with
      rd := true, orient := decide (b = .rd), ra := decide (a = .ra) || decide (b = .ra), accessory := false })
    if s.defers 2 && decide (w.cc = .unattached) then s.wake 2 p else s.ccAttach p
  else if acc then
    let s := if w.accessory then s else s.pwrEvent p 0x200
    s.modPwr p (fun w => { w with rd := false, accessory := true })
  else s.modPwr p (fun w => { w with rd := false, accessory := false })

/-- Whether the hub may apply VBUS to a sink: a budget of at least 4,500 mW and the port not *Quarantined* (13 R342). -/
def State.mayAttach (s : State) (p : Nat) : Bool :=
  decide (4500 ≤ s.budget p) && decide ((s.getUsb p).state ≠ .quarantined)

/-- Entry to *Attached.SRC*: the raise queue, Rp, and an on request for `item` (13 R342, R345, R363). -/
def State.enterAttached (s : State) (p : Nat) (item : Option Nat) : State :=
  let s := s.modPwr p (fun w => { w with cc := .attached, inHardReset := false })
  ((s.joinQueue p).typeC p).swOn p item

/-- Rd stable for tCCDB (13 R342, R357). -/
def State.ccAttached (s : State) (p : Nat) : State :=
  if (s.getPwr p).cc = .attachWait then
    let s := (s.takeC p).pwrEvent p 1
    let s := s.modPwr p (fun w => { w with vconnFaulted := false, cable := none })
    if s.mayAttach p then s.enterAttached p none
    else
      let s := s.modPwr p (fun w => { w with cc := .withheld })
      if s.budget p = 0 then s.pwrEvent p 0x100 else s
  else s

/-- Rd lost in *AttachWait.SRC*, or while the port still drains (13 R342). -/
def State.rdLost (s : State) (p : Nat) : State :=
  if (s.getPwr p).cc = .attachWait then s.modPwr p (fun w => { w with cc := .unattached, rd := false })
  else if (s.getPwr p).cc = .unattachedWait then s.modPwr p (fun w => { w with rd := false })
  else s

/-- Rd lost for tPDDB: at once in *Run*, latched as a wake event in another state; while the sentry link is lost it waits for the
link, since it would change VBUS (13 R342; 15 R396, R398; 01 R24). -/
def State.ccLost (s : State) (p : Nat) : State :=
  let here := decide ((s.getPwr p).cc = .attached) || decide ((s.getPwr p).cc = .withheld)
  if s.linkHeld p && here then (s.modPwr p (fun w => { w with rd := false })).holdReq p 3 none
  else if s.defers 2 && here then (s.modPwr p (fun w => { w with rd := false })).wake 2 p else s.ccDetach p

/-- The CC event of a port delivered at *Run*, as its pins show it (15 R398). -/
def State.ccReplay (s : State) (p : Nat) : State :=
  if (s.getPwr p).rd then s.ccAttach p else s.ccDetach p

/-- VBUS at vSafe0V and VCONN discharged; a sink that came back meanwhile is seen now (13 R342). -/
def State.ccDrained (s : State) (p : Nat) : State :=
  if (s.getPwr p).cc = .unattachedWait then
    let s := s.modPwr p (fun w => { w with cc := .unattached })
    if s.defers 2 && (s.getPwr p).rd then s.wake 2 p else s.ccAttach p
  else s

/-! ### VCONN and cables -/

/-- The VCONN switch turned off on overcurrent (13 R348; 16 R413 0x30). -/
def State.vconnFault (s : State) (p : Nat) : State :=
  if (s.getPwr p).vconn then
    (((s.vconnOff p).modPwr p (fun w => { w with vconnFaulted := true })).pwrEvent p 0x80).note 0x30 p
  else s

/-- Whether PD runs on a port: attached, VBUS good, PD enabled (13 R351). -/
def State.pdOn (s : State) (p : Nat) : Bool :=
  decide ((s.getPwr p).cc = .attached) && (s.getProt p).vbusGood && decide (s.cfg 0x4018 p = 1)

/-- Whether cable discovery still runs: VCONN on, no cable read, fewer than 20 attempts, no Source_Capabilities sent (13
R349). -/
def State.discovering (s : State) (p : Nat) : Bool :=
  let w := s.getPwr p
  s.pdOn p && w.vconn && decide (w.cable = none) && decide (w.discCount < 20) && decide (w.capCount = 0)

/-- tDISC: Discover Identity on SOP′ (13 R349). -/
def State.discover (s : State) (p : Nat) : State :=
  if s.discovering p then (s.modPwr p (fun w => { w with discCount := w.discCount + 1 })).emit (.pd p 1 8 [])
  else if (s.getPwr p).disc2 ∧ (s.getPwr p).vconn = true then
    (s.modPwr p (fun w => { w with disc2 := false })).emit (.pd p 2 8 [])
  else s

/-- The cable's answer: its VDOs recorded, and SOP″ asked next where an active cable declares a controller there (13 R349,
R350). -/
def State.cableRead (s : State) (p : Nat) (id vdo : Word) (caps : CableCaps) : State :=
  if (s.getPwr p).vconn ∧ (s.getPwr p).cable = none then
    (s.modPwr p (fun w => { w with cable := some ⟨id, vdo, caps⟩, disc2 := caps.active && caps.sop2 })).pwrEvent p 8
  else s

/-- BC 1.2 primary detection completed on a CDP (13 R346). -/
def State.bcDetected (s : State) (p : Nat) : State :=
  if (s.getPwr p).cc = .attached ∧ (s.getProt p).vbusGood = true ∧ s.cfg 0x4016 p = 1 then
    (s.modPwr p (fun w => { w with bcDone := true })).typeC p
  else s

/-- tRPADJ after Rp fell, the current limit follows (13 R345, 14 R373). -/
def State.rpAdjusted (s : State) (p : Nat) : State :=
  s.modPwr p (fun w => match w.rpNext with
    | some ma => { w with ilim := ma, rpNext := none }
    | none => w)

/-! ### Hard Reset -/

/-- A Hard Reset; none is made over a lost sentry link, which carries the PD messages (13 R356, R364; 01 R24). -/
def State.hardReset (s : State) (p : Nat) (received : Bool) : State :=
  if (s.getPwr p).cc = .attached ∧ s.linkHeld p = false then
    let s := if received then s else s.pd p 7 []
    let s := s.modPwr p (fun w => { w with hardResets := satAdd w.hardResets 1, inHardReset := true })
    let s := (((s.pwrEvent p 0x20).endContract p).vconnOff p).leaveQueue p
    s.swOff p none
  else s

/-- tSRCRCV has passed: vSafe5V is restored and the port admitted again (13 R356, R364). -/
def State.hardRecovered (s : State) (p : Nat) : State :=
  if (s.getPwr p).inHardReset = true ∧ (s.getPwr p).cc = .attached then s.enterAttached p none
  else s.modPwr p (fun w => { w with inHardReset := false })

/-- A keep-alive has run out (13 R355). -/
def State.keepLost (s : State) (p : Nat) (inForce : Bool) : State :=
  if inForce && decide ((s.getPwr p).cc = .attached) then (s.pwrEvent p 0x10).hardReset p false else s

/-! ### PD messages -/

/-- tSRCCAP: Source_Capabilities, up to 50 times, after cable discovery; none while the gallery is frozen (13 R349, R351,
R360). -/
def State.capsDue (s : State) (p : Nat) (good : Bool) : State :=
  let w := s.getPwr p
  if s.pdOn p = false ∨ w.explicit = true ∨ 50 ≤ w.capCount ∨ s.discovering p = true ∨ s.frozen (galOf p) = true then s
  else ((s.takeC p).modPwr p (fun w => { w with goodCrc := w.goodCrc || good })).sendCaps p

/-- Get_Source_Cap answered with the present offers; none while the gallery is frozen (13 R351, R360). -/
def State.capsAsked (s : State) (p : Nat) : State :=
  if s.pdOn p = true ∧ s.frozen (galOf p) = false then
    let n := (s.getPwr p).capCount
    (s.sendCaps p).modPwr p (fun w => { w with capCount := n })
  else s

/-- A PD message answered by another (13 R351). -/
def State.pdAnswer (s : State) (p msg : Nat) (args : List Nat) : State := if s.pdOn p then s.pd p msg args else s

/-- A Request accepted: Accept, the contract, the stage's voltage and the PPS current limit (13 R353, R354, R358; 14 R373). -/
def State.acceptReq (s : State) (p : Nat) (r : PdReq) (code : Nat) : State :=
  let s := (s.accepted p r.voltage r.current).pd p 3 []
  let s := s.modPwr p (fun w => { w with
    explicit := true, noSuspend := r.noSuspend, offerSusp := decide (s.cfg 0x4014 p = 1) })
  let s := s.setContract p code r.voltage r.current
  let s := if code = 7 then (s.pmbus p 0x46 (r.current * 10)).pmbus p 0x47 1 else s.pmbus p 0x47 0
  s.setVout p (r.voltage * 10)

/-- A sink's Request (13 R353, R357, R360). -/
def State.pdRequest (s : State) (p : Nat) (r : PdReq) : State :=
  let w := s.getPwr p
  if s.pdOn p = false ∨ w.offers = [] then s
  else if s.frozen (galOf p) then
    if w.explicit = true ∧ w.voltage = r.voltage ∧ w.current = r.current then (s.pd p 3 []).pd p 6 [] else s.pd p 5 []
  else match w.offers.find? (fun o => decide (o.pos = r.pos)) with
    | some o =>
      if o.takes w.ic r.voltage r.current then s.acceptReq p r o.code
      else if w.mustReq then s.pd p 4 []
      else (s.pd p 4 []).negotDone p
    | none => if w.mustReq then s.pd p 4 [] else (s.pd p 4 []).negotDone p

/-- EPR_Mode Enter (13 R353). -/
def State.eprEnter (s : State) (p : Nat) : State :=
  let w := s.getPwr p
  if s.pdOn p = false then s
  else if w.cableEpr = true ∧ s.eprRaw p ≠ [] ∧ w.explicit = true then
    let s := (s.modPwr p (fun w => { w with epr := true })).pd p 12 []
    if s.frozen (galOf p) then s else (s.modPwr p (fun w => { w with negot := true })).sendCaps p
  else s.pd p 13 []

/-- The stage has reached the new voltage: PS_RDY; the current limit's hold runs on for tTRANS (13 R354, R357; 14 R373). -/
def State.psRdy (s : State) (p : Nat) : State :=
  match (s.getPwr p).transition with
  | some _ =>
    let s := s.modPwr p (fun w => { w with transition := none, ilimUntil := some (s.now + 285000000) })
    (s.pd p 6 []).negotDone p
  | none => s

/-- No Request came within tSRCCAP × 3 of new offers: a Hard Reset where the contract lies outside them (13 R357). -/
def State.noRequest (s : State) (p : Nat) : State :=
  let w := s.getPwr p
  if w.mustReq then s.hardReset p false
  else if w.negot = true ∧ w.transition = none then s.negotDone p
  else s

/-! ### Stages, galleries and the raise queue -/

/-- A stage that does not answer, or shows a fault bit: as a trip of cause 6, OPERATION off (13 R359; 16 R413 0x31). -/
def State.stageLost (s : State) (p : Nat) : State :=
  let s := (s.modPwr p (fun w => { w with stageFault := true })).pmbus p 0x01 0
  ((s.pwrEvent p 0x400).trip p 6 0).causeOn 0x31 p |>.fault 0x31 p

/-- A stage at start-up: VOUT_MODE and MFR_VOUT_MAX read, the transition rate of 30 mV/us set, OPERATION on; a maximum below the stage
voltage limit is noted, and a stage that does not answer is lost. An unfitted port's stage is not addressed (13 R358, R359; 16 R413 0x39;
18 R468). -/
def State.stageStart (s : State) (p : Nat) : State :=
  if s.cfg 0x4010 p = 0 then s
  else
    let s := (((s.pmbus p 0x20 0).pmbus p 0xA5 0).pmbus p 0x27 30).pmbus p 0x01 1
    let v := (s.getPwr p).stageMax
    if v = 0 then s.stageLost p else if v < s.cfg 0x3011 (galOf p) then s.note 0x39 p else s

/-- What the stages answer for MFR_VOUT_MAX at this start-up (13 R358). -/
def State.stageAnswers (s : State) (x : Straps) : State :=
  allPorts.foldl (fun s p => s.modPwr p (fun w => { w with
    stageMax := match x.stages.find? (fun e => decide (e.1 = p)) with | some e => e.2 | none => 65535 })) s

/-- What a read of a stage's STATUS_WORD brings about (13 R359; 14 R377; 16 R413 0x31, 0x32). -/
def State.stageEvent (s : State) (p : Nat) (x : StageStatus) : State :=
  let s :=
    if stageBad x then
      let live := decide ((s.getProt p).sw = .ramping) || decide ((s.getProt p).sw = .on)
      if live || !(s.getPwr p).stageFault then s.stageLost p else s
    else s.causeOff 0x31 p
  if x.warn && !(s.getPwr p).warn then
    ((((s.modPwr p (fun w => { w with warn := true })).pwrEvent p 0x800).note 0x32 p).renegotiate p)
  else s

/-- The temperature warning has stayed clear for 10 s: the ceiling is restored (13 R359). -/
def State.warnClear (s : State) (p : Nat) : State :=
  if (s.getPwr p).warn then (s.modPwr p (fun w => { w with warn := false })).renegotiate p else s

/-- A gallery's contracts are no longer frozen: what is owed starts (13 R357, R360). -/
def State.thaw (s : State) (g : Nat) : State :=
  if s.frozen g then s
  else (portsOfGal g).foldl (fun s p => if (s.getPwr p).renegOwed then s.renegotiate p else s) s

/-- A PMBus line held low (13 R359, R360; 16 R413 0x33). -/
def State.busHeld (s : State) (g : Nat) : State :=
  if (s.getGals g).frozenBus then s
  else ((s.modGals g (fun x => { x with frozenBus := true })).causeOn 0x33 g).fault 0x33 g

/-- The segment is idle and every stage answers (13 R360). -/
def State.busFreed (s : State) (g : Nat) : State :=
  ((s.modGals g (fun x => { x with frozenBus := false })).causeOff 0x33 g).thaw g

/-- Power of a port in mW over the samples since the last sum, its last sample where there was none; negative currents count 0 (13
R362; 14 R370). -/
def State.portMw (s : State) (p : Nat) : Nat :=
  let r := s.getProt p
  if r.mwCnt = 0 then r.vSample * 4 * (s.toMa p r.iSample).toNat / 1000 else r.mwSum / r.mwCnt

/-- A gallery's power summed, and checked for overdraw (13 R362; 16 R413 0x34). -/
def State.powerSum (s : State) (g : Nat) : State :=
  let sum := sumOf ((portsOfGal g).map s.portMw)
  let above := decide (s.cfg 0x3010 g * 105 < sum * 100)
  let n := (s.getGals g).overRun
  let s := (portsOfGal g).foldl (fun s p => s.modProt p (fun r => { r with mwSum := 0, mwCnt := 0 })) s
  let s := s.modGals g (fun x => { x with measured := sum, overRun := if above then min 10 (n + 1) else 0 })
  if above && decide (n = 9) then (s.modGals g (fun x => { x with overdraw := true })).note 0x34 g else s

/-- A raise slot: the first queued port that holds a contract is raised; none while the gallery is frozen (13 R360, R364). -/
def State.raiseSlot (s : State) (g : Nat) : State :=
  if s.frozen g then s
  else match (s.getGals g).raiseQ.find? (fun p => decide ((s.getPwr p).kind ≠ 0)) with
    | some p => (s.leaveQueue p).renegotiate p
    | none => s

/-! ### The service port -/

/-- SVC_SRC_EN driven (13 R366, 18 R463). Pin code 4. -/
def State.svcSource (s : State) (b : Bool) : State :=
  if s.svc.srcEn = b then s else (s.modSvc (fun v => { v with srcEn := b })).emit (.pin 4 0 b)

/-- The service port leaves its attach: data off, the responses of its device interface gone (13 R366, 02 R66). -/
def State.svcOff (s : State) (st : SvcState) : State :=
  let s := (s.svcSource false).modSvc (fun v => { v with state := st, data := false, drSent := false, request := 0 })
  s.modBoard (fun b => { b with svcQueue := [] })

/-- Whether the Custodian keeps the fast domain powered: its link is lost and that fault is not handled yet (01 R25; log entry 93). -/
def State.keepsFast (s : State) : Bool := (s.dieLink 7).lost && s.flt.holds 0x04 0

/-- Sentry die A's fast domain goes on or off (13 R366; 01 R25). -/
def State.svcDomain (s : State) (b : Bool) : State :=
  if b = false ∧ s.keepsFast = true then s
  else
  let s := s.modDps (fun d => { d with fastA := b })
  if b then
    if s.svc.state = .deadBattery then s.modSvc (fun v => { v with state := .unattachedSnk }) else s
  else if s.svc.state = .deadBattery then s else s.svcOff .deadBattery

/-- Rp with VBUS for tCCDB (13 R366). -/
def State.svcSink (s : State) : State :=
  if s.svc.state = .unattachedSnk then s.modSvc (fun v => { v with state := .attachedSnk, data := true }) else s

/-- Rd for tCCDB: the 5 V switch on, DR_Swap sent (13 R366). -/
def State.svcSrc (s : State) : State :=
  if s.svc.state = .unattachedSrc then
    ((s.modSvc (fun v => { v with state := .attachedSrc, drSent := true })).svcSource true).emit (.pd 0 0 15 [])
  else s

/-- tDRP elapses (13 R366). -/
def State.svcToggle (s : State) : State :=
  if s.svc.state = .unattachedSnk ∧ s.cfg 0x2042 2 = 1 then s.modSvc (fun v => { v with state := .unattachedSrc })
  else if s.svc.state = .unattachedSrc then s.modSvc (fun v => { v with state := .unattachedSnk })
  else s

/-- The partner's Source_Capabilities: the 5 V object at the lower of the offer and the limit is requested (13 R366). -/
def State.svcRequest (s : State) (ma : Nat) : State :=
  if s.svc.state = .attachedSnk then
    let i := min ma (s.cfg 0x2042 1)
    (s.modSvc (fun v => { v with request := i })).emit (.pd 0 0 14 [1, i])
  else s

/-- The partner's answer to DR_Swap (13 R366). -/
def State.svcSwapped (s : State) (ok : Bool) : State :=
  if s.svc.state = .attachedSrc ∧ s.svc.drSent = true then s.modSvc (fun v => { v with data := ok, drSent := false }) else s

end Sys2Proof.Machine
end

