-- ==== Sys2Proof/Machine/PortCmd.lean ====
section
/-!
DEFINITION. What the commands about one port do: `PORT_ACTION` and `PORT_STATUS` records, suspend checks, link power states and
the writes that act on a port (05 R153; 06 R172 to R197; 13 R344).
-/
namespace Sys2Proof.Machine

/-! ### Items that wait for *Run* -/

/-- An item that acts on a port or the Vault is held while its loan is *Paused* (03 R91; log entry 101). -/
def State.unlessPaused (s : State) (k : Nat) (f : State → State) : State :=
  let t := (s.getItems k).principal
  if (s.getTenants t).loan = .paused then s.modTenants t (fun x => { x with heldItems := x.heldItems ++ [k] }) else f s

/-- An item that needs a port die or the Vault is done in *Run*, unless its loan is *Paused*; in another state it is held, and is a wake
event. A transfer joins its pipe's queue, which a *Paused* loan does not serve (03 R91; 15 R389, R398). -/
def State.inRun (s : State) (k p : Nat) (f : State → State) : State :=
  if s.dps.state = .run then (if (s.getItems k).op = 0x30 then f s else s.unlessPaused k f)
  else (s.modDps (fun d => { d with heldAcc := d.heldAcc ++ [k] })).wake 5 p

/-! ### PORT_ACTION -/

/-- A `PORT_ACTION` on a port its principal holds, the port noted in the item; an ACTION other than the row's is outside its
listed values (05 R150, R153). -/
def State.portAction (s : State) (k : Nat) (i : Item) (action : Nat) (f : State → Nat → State) : State :=
  let p := i.f 0 1
  if i.f 1 1 ≠ action then s.finish k 0x0C 0x01
  else if s.holdsPort i.principal p = false then s.finish k 0x0C 0x05
  else f (s.modItems k (fun i => { i with port := p })) p

/-- `PORT_ACTION` 0x01 (13 R342, R344; 14 R379, R490). -/
def State.vbusOn (s : State) (k p : Nat) : State :=
  let cc := (s.getPwr p).cc
  if (cc ≠ .attached ∧ cc ≠ .withheld) ∨ (s.getUsb p).state = .quarantined ∨ s.budget p = 0 then s.finish k 0x0C 0x0B
  else if cc = .attached then s.swOn p (some k)
  else
    let s := s.takeC p
    if s.mayAttach p then s.enterAttached p (some k) else s.finish k 0x0C 0x0B

/-- `PORT_ACTION` 0x02 (13 R342, R344; 14 R378, R490). -/
def State.vbusOff (s : State) (k p : Nat) : State :=
  let cc := (s.getPwr p).cc
  if cc = .withheld then s.finish k 0 0
  else if cc = .attached then s.withholdOff p (some k)
  else s.finish k 0x0C 0x0B

/-- `PORT_ACTION` 0x04 (06 R182, R183, R191). -/
def State.askSuspend (s : State) (k p : Nat) : State :=
  let u := s.getUsb p
  match u.state with
  | .attaching | .resetting => s.defer p (.suspend (some k))
  | .enabled => if u.fallback then s.defer p (.suspend (some k)) else (s.supersede p).startSuspend p .owner (some k)
  | .suspended => s.finish k 0 0
  | _ => s.finish k 0x0C 0x0B

/-- `PORT_ACTION` 0x05 (06 R182, R193). -/
def State.askResume (s : State) (k p : Nat) : State :=
  match (s.getUsb p).state with
  | .attaching | .resetting | .enabled => s.finish k 0 0
  | .suspended => (s.modUsb p (fun u => { u with resumeItems := u.resumeItems ++ [k] })).driveResume p
  | _ => s.finish k 0x0C 0x0B

/-- `PORT_ACTION` 0x06 (06 R182, R183). -/
def State.askDisable (s : State) (k p : Nat) : State :=
  let u := s.getUsb p
  match u.state with
  | .attaching | .resetting => s.defer p (.disable (some k))
  | .enabled => if u.fallback then s.defer p (.disable (some k)) else s.doDisable p (some k)
  | .suspended => s.doDisable p (some k)
  | .disabled => s.finish k 0 0
  | _ => s.finish k 0x0C 0x0B

/-- `PORT_STATUS` (05 R153; 13 R353; 14 R370). -/
def State.portStatus (s : State) (k : Nat) (i : Item) : State :=
  let p := i.f 0 1
  if s.holdsPort i.principal p = false then s.finish k 0x0C 0x05
  else
    let u := s.getUsb p
    let r := s.getProt p
    s.finishB k 0 0 (natBE 1 (portStateCode u.state) ++ natBE 1 (speedCode u.speed) ++ natBE 1 u.devices.length ++ zeros 1 ++
      natBE 4 (s.getPwr p).power ++ natBE 2 (r.vSample * 4) ++ natBE 2 (intBits 16 (s.toMa p r.iSample)) ++ zeros 4)

/-! ### Suspend checks and link power -/

/-- The suspend current limit in mA (06 R195). -/
def State.suspLimit (s : State) (p : Nat) : Nat :=
  if s.cfg 0x4027 p = 0 then 3 * (s.getUsb p).devices.length else s.cfg 0x4027 p

/-- tSUSCHK after the entry: the average, in sample units, against the limit (06 R195; 13 R343). -/
def State.suspChecked (s : State) (p : Nat) (avg : Int) : State :=
  let u := s.getUsb p
  if u.state = .suspended ∧ u.suspCheck = true then
    let s := s.modUsb p (fun u => { u with suspCheck := false, suspCurrent := avg })
    let ma := s.toMa p avg
    if (s.suspLimit p : Int) < ma then
      let s := (s.modUsb p (fun u => { u with noncompliant := true })).usbEvent p 0x200
      let s := s.portEvent p 0x0006 (handle p 0) (intBits 32 ma) []
      if s.cfg 0x4028 p = 1 then s.withholdOff p none else s
    else s.modUsb p (fun u => { u with noncompliant := false })
  else s

/-- Whether a Prompt pipe is open in a tree (06 R196). -/
def State.promptOpen (s : State) (p : Nat) : Bool := (s.portPipes p).any (fun n => decide ((s.getPipes n).cls = 0))

/-- The link enters U1 or L1 (1), or U2 (2), as LINKPM codes them, in a port that is *Enabled* (06 R196, R200). -/
def State.enterPm (s : State) (p level : Nat) : State :=
  if (s.getUsb p).state = .enabled then s.modUsb p (fun u => { u with linkpm := level }) else s

/-- The L1 idle time has passed: the port's single device, where its BOS descriptor advertises LPM, is sent to L1 at its baseline BESL
(bus code 12) (06 R196; log entry 51). -/
def State.l1Idle (s : State) (p : Nat) (lpm : Option Nat) : State :=
  let u := s.getUsb p
  if bitOf (s.cfg 0x4029 p) 0 = true ∧ u.devices.length = 1 ∧ isSuper (speedCode u.speed) = false ∧ u.linkpm = 0 ∧
      s.treeItems p = [] ∧ s.promptOpen p = false then
    match lpm with
    | some besl => if u.state = .enabled then (s.enterPm p 1).emit (.bus p 12 besl) else s
    | none => s
  else s

/-- The programmed inactivity timeout of U1 or U2 expires (06 R196). -/
def State.uIdle (s : State) (p : Nat) (u2 : Bool) : State :=
  let u := s.getUsb p
  let t := s.cfg (if u2 then 0x402C else 0x402B) p
  if bitOf (s.cfg 0x4029 p) (if u2 then 2 else 1) = true ∧ t ≠ 0 ∧ isSuper (speedCode u.speed) = true ∧ u.linkpm < 2 ∧
      s.promptOpen p = false then s.enterPm p (if u2 then 2 else 1)
  else s

/-- A device asks for U1, U2 (levels 1, 2) or L1 (level 3): accepted by the link power policy, and rejected while a Prompt pipe
is open (06 R196). -/
def State.devicePm (s : State) (p level : Nat) : State :=
  let u := s.getUsb p
  let bit := if level = 3 then 0 else level
  if 1 ≤ level ∧ level ≤ 3 ∧ bitOf (s.cfg 0x4029 p) bit = true ∧ isSuper (speedCode u.speed) = decide (level ≠ 3) ∧
      s.promptOpen p = false then s.enterPm p (if level = 3 then 1 else level)
  else s

/-! ### Restores and wakes -/

/-- tRESTWIN has passed without a connection (06 R189). -/
def State.restWindow (s : State) (p : Nat) : State :=
  let u := s.getUsb p
  match u.restore with
  | some r =>
    if r.step = .connect ∧ ((u.state = .powered) ∨ (u.state = .enabled ∧ u.fallback = true ∧ u.cap = 3 ∧ u.connKind = .none)) then
      s.restoreLost p
    else s
  | none => s

/-- The Max of tRESTORE has passed since the connection (06 R189). -/
def State.restLate (s : State) (p : Nat) : State :=
  match (s.getUsb p).restore with
  | some r => if r.step = .vbus then s else s.restoreLost p
  | none => s

/-- A remote wake: at once in *Run*, latched in another state (06 R197; 15 R396, R398). -/
def State.wakeSeen (s : State) (p device : Nat) : State :=
  if s.dps.state = .run then s.remoteWaken p device
  else if (s.getUsb p).state = .suspended then s.wake 1 p
  else s

/-- A disconnect: at once in *Run*, from a suspended tree latched in another state (06 R181; 15 R396, R398). -/
def State.disconnected (s : State) (p : Nat) : State :=
  if s.dps.state = .run then s.portGone p
  else if (s.getUsb p).state = .suspended then s.wake 4 p
  else s

/-- A write of 1 to `0x402D:p`: refused under package-safe-stop, and while the slot of the fault that contained the port is
held or its cause persists; no change on a port that is not *Quarantined* (06 R182, R199; 16 R411). -/
def State.releaseAsked (s : State) (p : Nat) : State × Nat :=
  let held := match (s.getUsb p).containedBy with
    | some c => s.flt.causes.contains c || s.flt.holds c.1 c.2
    | none => false
  if s.flt.safeStop || held then (s, 0x08000022) else (s.releasePort p, 0)

end Sys2Proof.Machine
end

