-- ==== Sys2Proof/Machine/Vault.lean ====
section
/-!
DEFINITION. Vault items, the drives behind them, the enable and disable of the Vault, and the hub's own items on pipes it holds
for jobs, captures and channels (10 R270 to R285, R302 to R305).
-/
namespace Sys2Proof.Machine

/-! ### The hub's own items -/

/-- The hub holds pipe `n` by an item of its own on context `m` (10 R284, 11 R314): `i` says what it moves. -/
def State.holdPipe (s : State) (n m : Nat) (h : PipeHold) (i : Item) : State :=
  let k := itemKey hubPrincipal m
  let s := s.modPipes n (fun x => { x with heldBy := h })
  let s := s.setItems k { i with sess := 1024, principal := hubPrincipal, acc := m, op := 0x30, pipe := some m }
  s.modPipes m (fun x => { x with queue := x.queue ++ [k] })

/-- An item that moves nothing: it stands for the hub's use of a pipe, so that what ends the pipe's items reaches that use. -/
def idleItem : Item := { Item.reset with length := 1 }

/-- The hub's item on context `m` is taken away with nothing formed. -/
def State.unhold (s : State) (m : Nat) : State :=
  let k := itemKey hubPrincipal m
  match s.item? k with
  | some i => s.dropItem k i
  | none => s

/-- A pipe is no longer held. -/
def State.letGo (s : State) (n m : Nat) (h : PipeHold) : State :=
  if (s.getPipes n).heldBy = h then (s.unhold m).modPipes n (fun x => { x with heldBy := .none }) else s

/-! ### Ranges -/

/-- The parts of a block range of an allotment, one per region: region of the Vault space, first block in it, blocks, offset in
the range (10 R275). -/
def State.parts (s : State) (t tlba blocks : Nat) : List (Nat × Nat × Nat × Nat) :=
  let ext := (s.getTenants t).extents
  let lo := tlba / 256
  let hi := ceilDiv (tlba + blocks) 256
  ((List.range (hi - lo)).filterMap (fun j =>
    let a := max tlba ((lo + j) * 256)
    let b := min (tlba + blocks) ((lo + j + 1) * 256)
    (regionAt (lo + j) ext).map (fun r => (r, a % 256, b - a, a - tlba)))).filter (fun x => decide (0 < x.2.2.1))

/-- Whether a range lies in a principal's allotment and the Vault is enabled (10 R284). -/
def State.inAllot (s : State) (t tlba blocks : Nat) : Bool :=
  s.vault.enabled && decide (tlba + blocks ≤ 256 * extSize (s.getTenants t).extents)

/-- Whether two block ranges share a block. -/
def overlaps (a n b m : Nat) : Bool := decide (a < b + m) && decide (b < a + n) && decide (0 < n) && decide (0 < m)

/-- Whether a range is the source of a running job of the principal, or is being captured (10 R284). -/
def State.rangeBusy (s : State) (t tlba blocks : Nat) : Bool :=
  s.vault.jobs.any (fun e => e.2.active && decide (e.2.principal = t) && !e.2.upstream && overlaps tlba blocks e.2.tlba e.2.blocks)
    || s.vault.captures.any (fun c => decide (c.principal = t) && overlaps tlba blocks c.tlba c.blocks)

/-- Whether a part lies on a failed drive, or on no drive that is online (10 R274). -/
def State.badDrive (s : State) (ps : List (Nat × Nat × Nat × Nat)) : Bool :=
  ps.any (fun x => decide (s.spaceOf x.1 = none) || (s.drive (s.driveOf x.1)).failed)

/-- The regions a block range covers, as first and count. -/
def regionSpan (tlba blocks : Nat) : Nat × Nat := (tlba / 256, ceilDiv (tlba + blocks) 256 - tlba / 256)

/-- The open Vault items of a principal that a new item waits for: those whose regions it shares, two reads apart (10 R285). -/
def State.vaultAhead (s : State) (t tlba blocks : Nat) (write : Bool) : List Nat :=
  s.itemsWhere (fun _ i => decide (i.principal = t) && (decide (i.op = 0x60) || decide (i.op = 0x61) || decide (i.op = 0x63)) &&
    (write || decide (i.op ≠ 0x60)) &&
    overlaps (regionSpan tlba blocks).1 (regionSpan tlba blocks).2 (regionSpan i.vault i.blocks).1 (regionSpan i.vault i.blocks).2)

/-! ### Data -/

/-- The bytes of `n` blocks of a region from block `first` on, as the drive holds them. -/
def State.blockBytes (s : State) (r first n : Nat) : Bytes :=
  let base := s.physOf r * 1048576 + first * 4096
  (List.range (n * 4096)).map (fun i => SMap.get 0 s.vault.data (base + i))

/-- What a read of a part returns: zeros where the region's bit is clear (10 R279). -/
def State.partBytes (s : State) (x : Nat × Nat × Nat × Nat) : Bytes :=
  if s.isWritten x.1 then s.blockBytes x.1 x.2.1 x.2.2.1 else zeros (x.2.2.1 * 4096)

/-- What a read of a range returns. -/
def State.rangeBytes (s : State) (t tlba blocks : Nat) : Bytes := (s.parts t tlba blocks).flatMap s.partBytes

/-- A byte string stored from an address on. -/
def putBytes (m : SMap Byte) (base : Nat) (d : Bytes) : SMap Byte :=
  (d.zipIdx).foldl (fun m e => SMap.put 0 m (base + e.2) e.1) m

/-- Reads of the parts whose bit is set, with what `c` says of their purpose (10 R279). -/
def State.readCmds (s : State) (c : Nvme) (ps : List (Nat × Nat × Nat × Nat)) : State :=
  ps.foldl (fun s x =>
    if s.isWritten x.1 then
      s.nvme { c with drive := s.driveOf x.1, op := 0, region := x.1, lba := s.lbaOf x.1 + x.2.1, blocks := x.2.2.1 } false
    else s) s

/-- Writes of the parts: as given where the bit is set, else of the whole region (10 R278). -/
def State.writeCmds (s : State) (c : Nvme) (ps : List (Nat × Nat × Nat × Nat)) (d : Bytes) (fua : Bool) : State :=
  ps.foldl (fun s x =>
    let c := { c with drive := s.driveOf x.1, op := 1, region := x.1, chunk := x.2.1, data := slice d (x.2.2.2 * 4096) (x.2.2.1 * 4096) }
    if s.isWritten x.1 then s.nvme { c with lba := s.lbaOf x.1 + x.2.1, blocks := x.2.2.1 } fua
    else s.nvme { c with lba := s.lbaOf x.1, blocks := 256 } fua) s

/-- A write that ended stores its data; the first of a region sets its bit and makes it durable (10 R277, R278). -/
def State.stored (s : State) (c : Nvme) : State :=
  let key := s.physOf c.region
  let s' := s.modVault (fun v => { v with data := putBytes v.data (key * 1048576 + c.chunk * 4096) c.data })
  if s.isWritten c.region ∨ s.flt.safeStop = true then s'
  else
    let v := (s.spaceOf c.region).getD Nspace.reset
    (s'.modVault (fun v => { v with written := insertSorted key v.written })).nvme
      { c with op := 4, lba := v.regions * 256 + (c.region - v.first) / 32768, blocks := 1, data := [] } true

/-! ### Vault items -/

/-- Whether a drive still works for an item. -/
def State.itemCmds (s : State) (k : Nat) : Bool := s.vault.cmds.any (fun e => decide (e.2.item = some k))

/-- Data of a `VAULT_READ` as IN data records of 1,024 bytes (05 R152; log entry 29). -/
def State.sendIn (s : State) (k : Nat) (i : Item) (d : Bytes) : State :=
  let s := s.modItems k (fun i => { i with moved := d.length })
  if (s.getSess i.sess).live then
    (List.range (ceilDiv d.length 1024)).foldl
      (fun s j => s.modSess i.sess (Session.push (.inData 0 i.acc (j * 1024) (slice d (j * 1024) 1024)))) s
  else s

/-- A Vault item whose commands have all ended completes; with a cause, that cause is its outcome (10 R274, R278, R279; 05
R159). -/
def State.vaultBoundary (s : State) (k : Nat) : State :=
  match s.item? k with
  | none => s
  | some i =>
    if s.itemCmds k ∨ i.stage = 0 ∨ i.op < 0x60 ∨ 0x63 < i.op then s
    else match i.cause with
      | some c => (if c.1 = 0x0E then s.vaultEvent 0x100 else s).finish k c.1 c.2
      | none =>
        if i.op = 0x60 then (s.sendIn k i i.outData).finishB k 0 0 (natBE 4 i.isoStart ++ zeros 4)
        else if i.op = 0x61 then (s.modItems k (fun i => { i with moved := i.length })).finish k 0 0
        else s.finish k 0 0

/-- The drives that hold a principal's extents (10 R283). -/
def State.drivesOf (s : State) (t : Nat) : List Nat :=
  (((s.getTenants t).extents.flatMap s.splitExt).map (fun x => x.1.drive)).eraseDups

/-- Whether an operator channel's descriptor that the Vault serves touches the regions of a house item that comes after it, where either
writes (10 R285; 11 R309). A descriptor's fields stand at the offsets of 11 R311. -/
def State.chanAhead (s : State) (i : Item) : Bool :=
  let f := fun (d : Bytes) (o n : Nat) => leNat (slice d o n)
  let hits := fun (d : Bytes) (o : Nat) =>
    let lines := f d (o + 16) 4
    let blocks := ((lines - 1) * (if lines ≤ 1 then 0 else f d (o + 12) 4) + f d (o + 8) 4) / 4096
    overlaps (regionSpan (f d o 8 / 4096) blocks).1 (regionSpan (f d o 8 / 4096) blocks).2 (regionSpan i.vault i.blocks).1
      (regionSpan i.vault i.blocks).2
  decide (i.principal = 0) && s.mov.chans.any (fun e =>
    decide (e.2.state = .running) && decide (0 < e.2.vstage) &&
      ((decide (bitsOf (f e.2.desc 0 4) 2 2 = 1) && hits e.2.desc 0x20) ||
        (decide (bitsOf (f e.2.desc 0 4) 0 2 = 1) && decide (i.op ≠ 0x60) && hits e.2.desc 0x08)))

/-- A Vault item that can start does (10 R278, R279, R283, R285). -/
def State.vaultStart (s : State) (k : Nat) : State :=
  match s.item? k with
  | none => s
  | some i =>
    let ps := s.parts i.principal i.vault i.blocks
    let c := { Nvme.reset with item := some k }
    if i.stage ≠ 0 ∨ i.closes.any (fun j => s.hasItem j) = true ∨ s.chanAhead i = true then s
    else if i.op = 0x61 ∧ i.outData.length < i.length then s
    else
      let s' := s.modItems k (fun i => { i with stage := 1 })
      if s.badDrive ps then (s'.modItems k (fun i => { i with cause := some (0x0E, 0x52) })).vaultBoundary k
      else if i.op = 0x60 then
        let s' := s'.modItems k (fun i => { i with
          outData := ps.flatMap s.partBytes
          isoStart := sumOf (ps.map (fun x => if s.isWritten x.1 then 0 else x.2.2.1)) })
        (s'.readCmds c ps).vaultBoundary k
      else if i.op = 0x61 then (s'.writeCmds c ps i.outData (bitOf (i.f 12 1) 0)).vaultBoundary k
      else if i.op = 0x62 then
        ((s.drivesOf i.principal).foldl (fun s d => s.nvme { c with drive := d, op := 2 } false) s').vaultBoundary k
      else if i.op = 0x63 then (s'.clearExts (ps.map (fun x => (x.1, 1))) (some k)).vaultBoundary k
      else s

/-- Whether an item is held: outside *Run*, or for its loan, which is *Paused* (03 R91; 15 R389). -/
def State.isHeld (s : State) (k : Nat) (i : Item) : Bool :=
  let x := s.getTenants i.principal
  s.dps.heldAcc.contains k || x.heldItems.contains k || decide (x.loan = .paused)

/-- Every Vault item that waits and can start does. -/
def State.vaultPass (s : State) : State :=
  (s.itemsWhere (fun k i => decide (0x60 ≤ i.op) && decide (i.op ≤ 0x63) && decide (i.stage = 0) && !(s.isHeld k i))).foldl
    State.vaultStart s

/-- A Vault item accepted: its range noted, and the items it waits for (10 R285). -/
def State.vaultTake (s : State) (k tlba blocks : Nat) (write : Bool) (len : Nat) : State :=
  let t := match s.item? k with | some i => i.principal | none => 0
  let ahead := (s.vaultAhead t tlba blocks write).filter (· ≠ k)
  (s.modItems k (fun i => { i with vault := tlba, blocks := blocks, closes := ahead, length := len })).vaultStart k

/-- `VAULT_READ` (10 R279, R282, R284). -/
def State.doVaultRead (s : State) (k : Nat) (i : Item) : State :=
  let n := i.f 8 4
  if n = 0 ∨ 1024 < n then s.finish k 0x0C 0x01
  else if s.inAllot i.principal (i.f 0 8) n = false then s.finish k 0x0C 0x0F
  else (s.modItems k (fun i => { i with isIn := true })).vaultTake k (i.f 0 8) n false (n * 4096)

/-- `VAULT_WRITE` (10 R278, R282, R284). -/
def State.doVaultWrite (s : State) (k : Nat) (i : Item) : State :=
  let n := i.f 8 4
  if n = 0 ∨ 1024 < n then s.finish k 0x0C 0x01
  else if s.inAllot i.principal (i.f 0 8) n = false then s.finish k 0x0C 0x0F
  else if s.rangeBusy i.principal (i.f 0 8) n then s.finish k 0x0C 0x11
  else s.vaultTake k (i.f 0 8) n true (n * 4096)

/-- `VAULT_FLUSH` (10 R283, R284). -/
def State.doVaultFlush (s : State) (k : Nat) : State :=
  if s.vault.enabled then s.vaultTake k 0 0 false 0 else s.finish k 0x0C 0x0F

/-- `VAULT_DEALLOCATE` (10 R282 to R284). -/
def State.doVaultDealloc (s : State) (k : Nat) (i : Item) : State :=
  let n := i.f 8 4
  if i.f 0 8 % 256 ≠ 0 ∨ n % 256 ≠ 0 ∨ s.inAllot i.principal (i.f 0 8) n = false then s.finish k 0x0C 0x0F
  else if s.rangeBusy i.principal (i.f 0 8) n then s.finish k 0x0C 0x11
  else s.vaultTake k (i.f 0 8) n true 0

/-- An error on a command of a Vault item: the item ends `STORE_ERROR` once its other commands have ended (10 R274). -/
def State.vaultFail (s : State) (k det : Nat) : State :=
  (s.modItems k (fun i => { i with cause := some (bestCause i.cause (0x0E, det)) })).vaultBoundary k

/-! ### Enable and disable -/

/-- Usable regions of a namespace of `n` regions: the rest is its map (10 R277). -/
def usable (n : Nat) : Nat := n - ceilDiv n 8388608

/-- Root ports of the root complex: 1, 2, 4 or 8, each with at most one drive (10 R270, R304 0x2300:01). -/
def State.rootPorts (s : State) : Nat := 2 ^ s.cfg 0x2300 1

/-- The drives found that the root complex has a root port for (10 R270). -/
def State.drivesFound (s : State) (drives : DriveReps) : DriveReps :=
  drives.filter (fun (r : DriveRep) => decide (1 ≤ r.drive) && decide (r.drive ≤ s.rootPorts))

/-- The namespaces in ascending n, with the regions already taken (10 R272, R273). -/
def State.enrol (s : State) (drives : DriveReps) (a : SMap Nspace × Nat) (n : Nat) : SMap Nspace × Nat :=
  let e := s.cfgB 0x2301 n
  let d := leNat (e.take 1)
  let id := leNat (slice e 4 4)
  if d = 0 then (SMap.put Nspace.reset a.1 n Nspace.reset, a.2)
  else
    let rep := (drives.find? (fun (r : DriveRep) => decide (r.drive = d))).bind (fun (r : DriveRep) =>
      r.spaces.find? (fun (x : NsRep) => decide (x.nsid = id)))
    match rep with
    | none => (SMap.put Nspace.reset a.1 n ⟨2, d, id, 0, 0⟩, a.2)
    | some x =>
      if x.formatOk = false then (SMap.put Nspace.reset a.1 n ⟨2, d, id, 0, 0⟩, a.2)
      else if 268435456 < a.2 + usable x.regions then (SMap.put Nspace.reset a.1 n ⟨4, d, id, 0, 0⟩, a.2)
      else (SMap.put Nspace.reset a.1 n ⟨1, d, id, a.2, usable x.regions⟩, a.2 + usable x.regions)

/-- The admin commands that bring a drive up, by opcode: Identify with its CNS 0x01, 0x02 and 0x00, Set Features for Number of Queues, the
8 I/O queue pairs of the depth in `0x2300:04`, Volatile Write Cache on, Asynchronous Event Configuration and an Asynchronous Event
Request (10 R271; NVM Express Base; log entry 100). -/
def State.driveUp (s : State) (n : Nat) (spaces : List Nat) : State :=
  let depth := s.cfg 0x2300 4 * 65536
  let queues := (List.range 8).flatMap (fun q => [(0x05, q + 1 + depth), (0x01, q + 1 + depth)])
  let cmds := [(0x06, 1), (0x06, 2)] ++ spaces.map (fun id => (0x06, id * 256)) ++ [(0x09, 7)] ++ queues ++
    [(0x0A, 6), (0x09, 6), (0x09, 0x0B), (0x02, 2), (0x0C, 0)]
  cmds.foldl (fun s c => s.emit (.nvmeAdmin n c.1 c.2)) s

/-- The admin commands that take a drive's I/O queues down (10 R271; log entry 100). -/
def State.driveDown (s : State) (n : Nat) : State :=
  ((List.range 8).flatMap (fun q => [(0x00, q + 1), (0x04, q + 1)])).foldl (fun s c => s.emit (.nvmeAdmin n c.1 c.2)) s

/-- The Vault is enabled (10 R270 to R281). -/
def State.vaultOn (s : State) (found : DriveReps) : State :=
  if s.vault.enabled ∨ s.vault.enabling = true then s
  else
    let drives := s.drivesFound found
    let s := drives.foldl (fun s (r : DriveRep) => s.driveUp r.drive (r.spaces.map (fun (x : NsRep) => x.nsid))) s
    let nss := ((List.range 64).map (· + 1)).foldl (s.enrol drives) ([], 0)
    let s := (List.range 8).foldl (fun s j =>
      (s.setDrive (j + 1) ⟨drives.any (fun (r : DriveRep) => decide (r.drive = j + 1)), false, 0⟩).causeOff 0x28 (j + 1)) s
    let s := s.modVault (fun v => { v with ns := nss.1, regions := nss.2 })
    let rec_ := match s.boot.config with | some f => f.house | none => s.vault.houseRec
    let house := rec_.filter (fun e => decide (e.1 + e.2 ≤ nss.2))
    let s := (s.modTenants 0 (fun x => { x with extents := house })).recordHouse
    let s := (s.setEff 0x2304 0 (natLE 4 (extSize house))).setEff 0x2300 2 [1]
    ((s.clearExts s.freeExts none).modVault (fun v => { v with enabling := true })).enableDone

/-- A write of 0 to `0x2300:02` (10 R304). -/
def State.vaultOff (s : State) : State × Nat :=
  if s.items.any (fun e => decide (0x60 ≤ e.2.op) && decide (e.2.op ≤ 0x6F)) then (s, 0x08000022)
  else
    let s := (List.range 8).foldl (fun s j =>
      (if (s.drive (j + 1)).up then s.driveDown (j + 1) else s).setDrive (j + 1) { s.drive (j + 1) with up := false }) s
    ((s.modVault (fun v => { v with enabled := false, enabling := false })).setEff 0x2300 2 [0], 0)

/-! ### Templates -/

/-- One substitution entry is within its ranges (10 R287). -/
def substOk (d : Bytes) (j : Nat) : Bool :=
  let f := fun (o : Nat) => leNat (slice d (288 + j * 8 + o) 1)
  let tgt := bitsOf (f 3) 1 2
  let top := if tgt = 2 then leNat (slice d 5 1) else leNat (slice d 4 1)
  (decide (f 1 = 1) || decide (f 1 = 2) || decide (f 1 = 4) || decide (f 1 = 8)) && decide (1 ≤ f 2) && decide (f 2 ≤ 4) &&
    decide (tgt ≤ 2) && decide (f 4 ≤ 31) && decide (f 0 + f 1 ≤ top)

/-- A template keeps every stated range (10 R287). -/
def templateOk (d : Bytes) : Bool :=
  let f := fun (o n : Nat) => leNat (slice d o n)
  decide (d.length = 352) && decide (f 0 1 = 1) && decide (1 ≤ f 2 2) && decide (f 2 2 ≤ 1024) && decide (1 ≤ f 4 1) &&
    decide (f 4 1 ≤ 64) && decide (f 5 1 ≤ 64) && decide (f 6 1 ≤ 8) && decide (1 ≤ f 8 4) && decide (f 8 4 ≤ 60000) &&
    (List.range (f 6 1)).all (substOk d)

/-- A template whose bytes have arrived is stored, or refused (10 R287). -/
def State.templatePut (s : State) (k : Nat) : State :=
  match s.item? k with
  | none => s
  | some i =>
    if i.op ≠ 0x64 ∨ i.outData.length < i.length then s
    else if templateOk i.outData = false then s.finish k 0x0C 0x01
    else
      let s := s.modVault (fun v => { v with templates := SMap.put [] v.templates (i.principal * 8 + i.f 0 1) i.outData })
      (s.modItems k (fun i => { i with moved := i.length })).finish k 0 0

/-- `TEMPLATE_LOAD` (10 R287). -/
def State.doTemplate (s : State) (k : Nat) (i : Item) : State :=
  if 7 < i.f 0 1 ∨ i.f 4 4 ≠ 352 then s.finish k 0x0C 0x01
  else s.modItems k (fun i => { i with length := 352 })

/-- Every template whose bytes have arrived is stored. -/
def State.templatePass (s : State) : State := (s.itemsWhere (fun _ i => decide (i.op = 0x64))).foldl State.templatePut s

end Sys2Proof.Machine
end

