-- ==== Sys2Proof/Machine/Fanout.lean ====
section
/-!
DEFINITION. Fan-out jobs: start, the shared window, the exchanges of each target, verification and the end of a job (10 R287 to
R299).
-/
namespace Sys2Proof.Machine

/-- The reset value of a target, for reads past the list. -/
def Target.reset : Target := ⟨0, 0, 0, 0, 0, 0, 0, .ended, .ended, 0, 0, 0, 0, false, false, false, false, none, false, 0, 0⟩

/-- Target `i` of a job. -/
def Job.target (j : Job) (i : Nat) : Target := j.targets.getD i Target.reset

/-- Target `i` of a job changed. -/
def Job.setTarget (j : Job) (i : Nat) (f : Target → Target) : Job :=
  { j with targets := (List.range j.targets.length).map (fun n => if n = i then f (j.target n) else j.target n) }

/-- A target of job slot `n` changed. -/
def State.modTgt (s : State) (n i : Nat) (f : Target → Target) : State := s.setJob n ((s.job n).setTarget i f)

/-! ### The template -/

/-- A field of a template (10 R287). -/
def Job.tf (j : Job) (o n : Nat) : Nat := leNat (slice j.tmpl o n)

/-- Blocks of a chunk (10 R287). -/
def Job.chunkBlocks (j : Job) : Nat := max 1 (j.tf 2 2)

/-- Chunks of the image. -/
def Job.chunks (j : Job) : Nat := ceilDiv j.blocks j.chunkBlocks

/-- Blocks of chunk `c`; the last may be shorter (10 R288). -/
def Job.blocksOf (j : Job) (c : Nat) : Nat := min j.chunkBlocks (j.blocks - c * j.chunkBlocks)

/-- Whether the template verifies (10 R287 FLAGS). -/
def Job.verify (j : Job) : Bool := bitOf (j.tf 1 1) 0

/-- The lowest FIRST_CHUNK of a job (10 R291). -/
def Job.low (j : Job) : Nat := j.targets.foldl (fun a t => min a t.first) j.chunks

/-- The first chunk verified (10 R294). -/
def Job.verifyFrom (j : Job) : Nat := if j.upstream then j.low else 0

/-- A byte string with part of it replaced. -/
def overwrite (d : Bytes) (o : Nat) (v : Bytes) : Bytes := d.take o ++ v ++ d.drop (o + v.length)

/-- The value of a substitution source for a target (10 R288). -/
def Job.source (j : Job) (t : Target) (src : Nat) : Nat :=
  if src = 1 then t.tag
  else if src = 2 then t.base + t.chunk * j.chunkBlocks * 4096
  else if src = 3 then j.blocksOf t.chunk * 4096
  else t.chunk

/-- A part of the template with its substitutions done: 0 the write command, 1 the verify command, 2 the status pattern (10
R287, R288). -/
def Job.subst (j : Job) (t : Target) (part : Nat) : Bytes :=
  (List.range (j.tf 6 1)).foldl (fun d n =>
    let f := fun (o : Nat) => j.tf (288 + n * 8 + o) 1
    if bitsOf (f 3) 1 2 = part then
      let v := j.source t (f 2) / 2 ^ (f 4)
      overwrite d (f 0) (if bitOf (f 3) 0 then natBE (f 1) v else natLE (f 1) v)
    else d)
    (if part = 0 then slice j.tmpl 32 (j.tf 4 1) else if part = 1 then slice j.tmpl 96 (j.tf 4 1) else slice j.tmpl 224 (j.tf 5 1))

/-- Whether a status matches (10 R289). -/
def Job.statusOk (j : Job) (t : Target) (st : Bytes) : Bool :=
  let pat := j.subst t 2
  decide (st.length = j.tf 5 1) &&
    (List.range (j.tf 5 1)).all (fun o =>
      decide (((st.getD o 0) ^^^ (pat.getD o 0)) &&& (j.tmpl.getD (160 + o) 0) = 0))

/-! ### Data of the image -/

/-- The bytes of a chunk: of the Vault, or of the upstream data that waits (10 R291, R298). -/
def State.chunkBytes (s : State) (j : Job) (c : Nat) : Bytes :=
  if j.upstream then
    match s.item? j.item with
    | some i => slice i.outData (c * j.chunkBlocks * 4096 - (i.outNext - i.outData.length)) (j.blocksOf c * 4096)
    | none => []
  else s.rangeBytes j.principal (j.tlba + c * j.chunkBlocks) (j.blocksOf c)

/-- The reference value of a chunk (10 R294). -/
def Job.crcOf (j : Job) (c : Nat) (d : Bytes) : BitVec 64 := crc64 (natBE 8 (c * j.chunkBlocks * 4096) ++ d)

/-- Bytes through the register of IMAGE_CHECK, without its final step (10 R299). -/
def crcFeed (r : BitVec 64) (d : Bytes) : BitVec 64 :=
  BitVec.ofNat 64 (d.foldl (crcByte 64 0x42F0E1EBA9EA3693 true) r.toNat)

/-- IMAGE_CHECK once the stream is complete: over 8 bytes of 0, then the image (10 R299). -/
def State.imageCheck (s : State) (j : Job) : BitVec 64 :=
  if j.upstream then BitVec.ofNat 64 (Nat.xor (reflect 64 j.imageCheck.toNat) 0xFFFFFFFFFFFFFFFF)
  else crc64 (zeros 8 ++ s.rangeBytes j.principal j.tlba j.blocks)

/-- Reads of a chunk for a purpose: (slot, 0) the stream, (slot, i + 1) target i's own chunk, (slot, 1000 + i) a reference for
target i (10 R286, R291, R292, R294). -/
def State.chunkRead (s : State) (n tag c : Nat) : State :=
  let j := s.job n
  let len := j.blocksOf c
  let ps := s.parts j.principal (j.tlba + c * j.chunkBlocks) len
  let s := s.setJob n { j with vaultBytes := j.vaultBytes + BitVec.ofNat 64 (len * 4096) }
  s.readCmds { Nvme.reset with job := some (n, tag), chunk := c } ps

/-- Whether a read of a purpose is in hand. -/
def State.reading (s : State) (n tag : Nat) : Bool := s.vault.cmds.any (fun e => decide (e.2.job = some (n, tag)))

/-- Whether a chunk lies on a failed drive. -/
def State.chunkBad (s : State) (n c : Nat) : Bool :=
  let j := s.job n
  s.badDrive (s.parts j.principal (j.tlba + c * j.chunkBlocks) (j.blocksOf c))

/-! ### The pool -/

/-- Staging of a target: two chunks, in KiB (10 R292). -/
def Job.stagingKib (j : Job) : Nat := 8 * j.chunkBlocks

/-- Whether the fan-out pool has `kib` left (10 R291). -/
def State.poolHas (s : State) (kib : Nat) : Bool := decide (s.mem.fanUsed + kib ≤ s.cfg 0x2302 0)

/-- Pool memory taken or returned. -/
def State.poolUse (s : State) (f : Nat → Nat) : State := s.modMem (fun m => { m with fanUsed := f m.fanUsed })

/-- A target's staging is returned to the pool. -/
def State.dropStaging (s : State) (n i : Nat) : State :=
  if ((s.job n).target i).staging then
    (s.poolUse (· - (s.job n).stagingKib)).modTgt n i (fun t => { t with staging := false, loaded := false })
  else s

/-- A target goes *CatchingUp* with a staging; an exchange it runs goes on from that staging (10 R292). -/
def State.catchUp (s : State) (n i : Nat) : State :=
  let s := (s.poolUse (· + (s.job n).stagingKib)).modTgt n i (fun t => { t with state := .catching, staging := true, loaded := t.busy })
  s.vaultEvent 0x400

/-! ### The end of a target and of a job -/

/-- A target ends with an outcome (10 R295). -/
def State.tgtEnd (s : State) (n i out det : Nat) : State :=
  if ((s.job n).target i).state = .ended then s
  else
    let t := (s.job n).target i
    let s := ((s.dropStaging n i).npGive (t.device / 256 % 128) t.cmd).modTgt n i (fun t => { t with
      state := .ended, busy := false, outcome := out, detail := det })
    if out = 0x0E then s.vaultEvent 0x100 else s

/-- The pipes of a target. -/
def Target.pipes (t : Target) : List Nat := [t.cmd, t.out, t.inp, t.stat].filter (· ≠ 0)

/-- Target state codes (10 R295). -/
def tgtCode : TgtState → Nat
  | .queued => 0
  | .streaming => 1
  | .catching => 2
  | .held => 3
  | .verifying => 4
  | .ended => 5

/-- Whether every chunk has left the window (10 R299 STATE 1). -/
def Job.streamed (j : Job) : Bool := decide (j.chunks ≤ j.tail)

/-- The fan-out result body; `status` for a `FANOUT_STATUS` answer (10 R297). -/
def Job.body (j : Job) (status : Bool) : Bytes :=
  let done := (j.targets.filter (fun t => decide (t.state = .ended) && decide (t.outcome = 0))).length
  let failed := (j.targets.filter (fun t => decide (t.state = .ended) && decide (t.outcome ≠ 0))).length
  natBE 2 done ++ natBE 2 failed ++ zeros 4 ++ j.targets.flatMap (fun t =>
    natBE 1 (if status then tgtCode t.state else t.outcome) ++ natBE 1 t.detail ++ zeros 2 ++ natBE 4 t.written)

/-- The fan-out progress body (10 R299). -/
def State.progressBody (s : State) (j : Job) : Bytes :=
  let done := (j.targets.filter (fun t => decide (t.state = .ended) && decide (t.outcome = 0))).length
  let failed := (j.targets.filter (fun t => decide (t.state = .ended) && decide (t.outcome ≠ 0))).length
  natBE 4 j.jobId ++ natBE 1 (if j.active = false then 2 else if j.streamed then 1 else 0) ++ zeros 3 ++ natBE 2 j.targets.length ++
    natBE 2 done ++ natBE 2 failed ++ zeros 2 ++ natBE 8 j.confirmed ++
    natBE 8 (if j.streamed then (s.imageCheck j).toNat else 0)

/-- A progress body received or sent: the latest of each member, this member's compared with another's where both report the end of one
job (10 R299). -/
def State.jobView (s : State) (m : Nat) (b : Bytes) : State :=
  let key := fun (x : Bytes) => (x.take 4, slice x 4 1)
  let differs := s.coll.jobViews.any (fun e => decide (e.1 ≠ m) && (decide (m = s.member) || decide (e.1 = s.member)) && decide (key e.2 = key b) && decide (slice b 4 1 = [2]) &&
    decide (e.2.drop 24 ≠ b.drop 24) && decide (e.2.drop 24 ≠ zeros 8) && decide (b.drop 24 ≠ zeros 8))
  let s := s.modColl (fun c => { c with jobViews := SMap.put [] c.jobViews m b })
  if differs then (s.vaultEvent 0x200).note 0x29 0 else s

/-- The progress message of a Collection job (10 R299). -/
def State.progress (s : State) (j : Job) : State :=
  if j.coll then
    let b := s.progressBody j
    (s.others.foldl (fun s m => s.nqSend m 6 b) s).jobView s.member b
  else s

/-- Every running Collection job reports with a heartbeat (10 R299). -/
def State.progressAll (s : State) : State :=
  ((s.vault.jobs.map (·.2)).filter (fun j => j.active)).foldl (fun s j => s.progress j) s

/-- A job ends: its pipes and pool are released, its item completes, its slot stays until tJOBKEEP (10 R290, R297, R299). -/
def State.jobEnd (s : State) (n out det : Nat) : State :=
  let j := s.job n
  let s := (j.targets.flatMap Target.pipes).foldl (fun s p => s.letGo p p (.job n)) s
  let s := s.poolUse (· - j.winKib)
  let s := s.modVault (fun v => { v with cmds := SMap.select (fun _ c => decide ((c.job.map (·.1)) ≠ some n)) v.cmds })
  let last := { j with active := false, outcome := some (out, det) }
  let s := (s.setJob n last).progress last
  let s := s.modItems j.item (fun i => { i with moved := if j.upstream then i.outNext else 0 })
  s.finishB j.item out det (last.body false)

/-- A job ends once its last target has, or a job-wide cause has arisen, which every live target takes (10 R296, R297). -/
def State.jobSettle (s : State) (n : Nat) : State :=
  let j := s.job n
  if j.active = false then s
  else match s.item? j.item with
    | none => s
    | some i =>
      match i.cause with
      | some c =>
        let s := (List.range j.targets.length).foldl (fun s k => s.tgtEnd n k c.1 c.2) s
        s.jobEnd n c.1 c.2
      | none =>
        if j.targets.all (fun t => decide (t.state = .ended)) then
          s.jobEnd n 0 (if j.targets.all (fun t => decide (t.outcome = 0)) then 0 else 0x40)
        else s

/-! ### Exchanges -/

/-- The port of a target. -/
def Target.port (t : Target) : Nat := t.device / 256 % 128

/-- A chunk crosses the wing link of a target: a streamed one once for all the targets of the wing, into whose FIFOs the distributor
writes it; one that a target reads or repeats for itself each time (01 R26; 10 R291, R292). -/
def State.crossWing (s : State) (n i : Nat) : State :=
  let j := s.job n
  let t := j.target i
  let w := wingOf t.port
  if t.state = .streaming ∧ t.retries = 0 ∧ j.copied.contains (t.chunk, w) = true then s
  else (s.setJob n { j with copied := j.copied.filter (· ≠ (t.chunk, w)) ++ [(t.chunk, w)] }).emit
    (.wingCopy w n t.chunk (j.blocksOf t.chunk * 4096))

/-- An exchange starts: the command phase, the data phase and the status phase, under a new TAG (10 R288, R289). -/
def State.exchange (s : State) (n i : Nat) (verify : Bool) (data : Bytes) : State :=
  let s := s.modTgt n i (fun t => { t with tag := t.tag + 1, busy := true, verdict := none })
  let j := s.job n
  let t := j.target i
  let len := j.blocksOf t.chunk * 4096
  let strm := fun (b : Nat) => if bitOf (j.tf 1 1) b then t.tag % 65536 else 0
  let s := s.emit (.jobOut t.cmd 0 (j.subst t (if verify then 1 else 0)))
  let s := if verify then s.emit (.jobIn t.inp (strm 1) len) else (s.crossWing n i).emit (.jobOut t.out (strm 1) data)
  if j.tf 5 1 = 0 then s else s.emit (.jobIn t.stat (strm 2) (j.tf 5 1))

/-- A chunk staged for a target alone: read, then held (10 R292, R294). -/
def State.stageRead (s : State) (n i : Nat) (catching : Bool) : State :=
  let j := s.job n
  let t := j.target i
  let len := j.blocksOf t.chunk * 4096
  if s.chunkBad n t.chunk then s.tgtEnd n i 0x0E 0x52
  else
    let s := if catching then s.modVault (fun v => { v with catchup := satAdd v.catchup len }) else s
    let s := s.chunkRead n (i + 1) t.chunk
    if s.reading n (i + 1) then s.modTgt n i (fun t => { t with busy := true })
    else s.modTgt n i (fun t => { t with loaded := true })

/-- The reference of a chunk that the job has not streamed is read when it is first needed (10 R294). -/
def State.refRead (s : State) (n i : Nat) : State :=
  let j := s.job n
  let t := j.target i
  if s.chunkBad n t.chunk then s.tgtEnd n i 0x0E 0x52
  else
    let s := s.chunkRead n (1000 + i) t.chunk
    if s.reading n (1000 + i) then s
    else s.setJob n { s.job n with checks := SMap.put none (s.job n).checks t.chunk (some (j.crcOf t.chunk (s.chunkBytes j t.chunk))) }

/-- Whether a reference read of chunk `c` is in hand for some target. -/
def State.refBusy (s : State) (n c : Nat) : Bool :=
  s.vault.cmds.any (fun e => match e.2.job with | some (m, tag) => decide (m = n) && decide (1000 ≤ tag) && decide (e.2.chunk = c) | none => false)

/-- A target starts an exchange: on a port at FS or LS it holds a buffer of the gallery translator meanwhile, and waits for one (08 R240;
10 R289). -/
def State.startExchange (s : State) (n i : Nat) (verify : Bool) (data : Bytes) : State :=
  let t := (s.job n).target i
  if s.needsNp t.port t.cmd 7 then
    if s.npFree t.port then (s.npTake t.port t.cmd).exchange n i verify data else s.npWait t.port t.cmd
  else s.exchange n i verify data

/-- What an idle target does next (10 R291 to R295). -/
def State.tgtStep (s : State) (n i : Nat) : State :=
  let j := s.job n
  let t := j.target i
  if t.busy ∨ s.mayServe t.port = false then s
  else match t.state with
    | .streaming => if j.tail ≤ t.chunk ∧ t.chunk < j.head then s.startExchange n i false (s.chunkBytes j t.chunk) else s
    | .catching =>
      let s := if t.loaded then s else s.stageRead n i true
      if ((s.job n).target i).loaded then s.startExchange n i false (s.chunkBytes j t.chunk) else s
    | .verifying =>
      if t.repairing then
        let s := if t.loaded then s else s.stageRead n i false
        if ((s.job n).target i).loaded then s.startExchange n i false (s.chunkBytes j t.chunk) else s
      else
        let s := if SMap.get none j.checks t.chunk = none ∧ j.upstream = false ∧ s.refBusy n t.chunk = false then s.refRead n i else s
        if SMap.get none (s.job n).checks t.chunk = none ∨ ((s.job n).target i).state = .ended then s else s.startExchange n i true []
    | _ => s

/-! ### The window -/

/-- Whether a target holds the window at its chunk: it streams, or, with an upstream source, is *Held* from streaming (10 R291,
R298). -/
def Job.paces (j : Job) (t : Target) : Bool :=
  decide (t.state = .streaming) || (j.upstream && decide (t.state = .held) && decide (t.remembered = .streaming))

/-- Upstream data before the window is let go, its bytes through IMAGE_CHECK (10 R298, R299). -/
def State.trimUp (s : State) (n : Nat) : State :=
  let j := s.job n
  match s.item? j.item with
  | some i =>
    if j.upstream then
      let drop := min i.outData.length (min (j.tail * j.chunkBlocks) j.blocks * 4096 - (i.outNext - i.outData.length))
      let s := s.setJob n { j with imageCheck := crcFeed j.imageCheck (i.outData.take drop) }
      s.modItems j.item (fun i => { i with outData := i.outData.drop drop })
    else s
  | none => s

/-- The chunk at the head of the window has arrived: its reference is taken, and the head moves (10 R291, R294). -/
def State.chunkIn (s : State) (n : Nat) : State :=
  let j := s.job n
  let checks := if j.verify then SMap.put none j.checks j.head (some (j.crcOf j.head (s.chunkBytes j j.head))) else j.checks
  s.setJob n { j with head := j.head + 1, checks := checks }

/-- The oldest chunk leaves the window (10 R291). -/
def State.chunkOut (s : State) (n : Nat) : State :=
  let j := s.job n
  (s.setJob n { j with tail := j.tail + 1, copied := j.copied.filter (fun e => decide (j.tail < e.1)) }).trimUp n

/-- The stream cannot read a chunk: every streaming target ends `STORE_ERROR`, and the stream goes past the chunk (10 R274,
R295). -/
def State.chunkLost (s : State) (n det : Nat) : State :=
  let j := s.job n
  let s := (List.range j.targets.length).foldl (fun s i => if ((s.job n).target i).state = .streaming then s.tgtEnd n i 0x0E det else s) s
  s.setJob n { s.job n with head := j.head + 1 }

/-- Whether upstream data holds the chunk at the head. -/
def State.upHas (s : State) (j : Job) : Bool :=
  match s.item? j.item with
  | some i => decide (j.head * j.chunkBlocks * 4096 + j.blocksOf j.head * 4096 ≤ i.outNext)
  | none => false

/-- Whether a job still waits for earlier Vault items of its source (10 R285). -/
def State.jobWaits (s : State) (j : Job) : Bool :=
  match s.item? j.item with
  | some i => i.closes.any (fun k => s.hasItem k)
  | none => false

/-- One move of a job's window, if one is due: a queued target reached, the oldest chunk confirmed by all, the laggards sent to
catch up, or the next chunk read (10 R291, R292, R295, R298). -/
def State.windowStep (s : State) (n : Nat) : State :=
  let j := s.job n
  let s := s.setJob n { j with targets := j.targets.map (fun t =>
    if t.state = .queued ∧ t.first ≤ j.head then { t with state := .streaming, chunk := t.first } else t) }
  let j := s.job n
  let pace := j.targets.filter j.paces
  if j.tail < j.head ∧ pace.all (fun t => decide (j.tail < t.chunk)) then s.chunkOut n
  else if j.head < j.chunks ∧ j.head < j.tail + j.window then
    if j.upstream then (if s.upHas j then s.chunkIn n else s)
    else if s.reading n 0 ∨ s.jobWaits j = true then s
    else if s.chunkBad n j.head then s.chunkLost n 0x52
    else
      let s := s.chunkRead n 0 j.head
      if s.reading n 0 then s else s.chunkIn n
  else if j.upstream = false ∧ j.head < j.chunks ∧ j.targets.any (fun t => decide (t.state = .streaming) && decide (t.chunk = j.head)) then
    let late := (List.range j.targets.length).filter (fun i =>
      decide ((j.target i).state = .streaming) && decide ((j.target i).chunk ≤ j.tail))
    if s.poolHas (late.length * j.stagingKib) then (late.foldl (fun s i => s.catchUp n i) s).chunkOut n else s
  else s

/-- `f` done up to `k` times. -/
def times (f : State → State) : Nat → State → State
  | 0, s => s
  | k + 1, s => times f k (f s)

/-- A job goes on as far as it can (10 R291 to R298). -/
def State.jobPump (s : State) (n : Nat) : State :=
  let j := s.job n
  if j.active = false then s
  else
    let s := times (fun s => s.windowStep n) (j.chunks + j.window + 4) (s.trimUp n)
    (List.range j.targets.length).foldl (fun s i => s.tgtStep n i) s

/-! ### The end of an exchange -/

/-- A target is done with its last chunk (10 R295). -/
def State.tgtLast (s : State) (n i : Nat) : State :=
  let j := s.job n
  if j.verify then
    (s.dropStaging n i).modTgt n i (fun t => { t with state := .verifying, chunk := j.verifyFrom, retries := 0, repaired := false, repairing := false, loaded := false })
  else s.tgtEnd n i 0 0

/-- A chunk's write is confirmed (10 R295, R297). -/
def State.tgtWrote (s : State) (n i : Nat) : State :=
  let len := (s.job n).blocksOf ((s.job n).target i).chunk * 4096
  let s := s.setJob n { s.job n with confirmed := (s.job n).confirmed + len }
  let s := s.modTgt n i (fun t => { t with written := t.written + 1, chunk := t.chunk + 1, retries := 0, loaded := false })
  let j := s.job n
  let t := j.target i
  if j.chunks ≤ t.chunk then s.tgtLast n i
  else if t.state = .catching ∧ j.tail ≤ t.chunk ∧ t.chunk < j.head then
    (s.dropStaging n i).modTgt n i (fun t => { t with state := .streaming })
  else s

/-- A verified chunk's check is known (10 R294, R295). -/
def State.tgtChecked (s : State) (n i : Nat) (ok : Bool) : State :=
  let j := s.job n
  let t := j.target i
  if ok then
    if j.chunks ≤ t.chunk + 1 then s.tgtEnd n i 0 0
    else s.modTgt n i (fun t => { t with chunk := t.chunk + 1, retries := 0, repaired := false })
  else if t.repaired ∨ j.upstream then s.tgtEnd n i 0x0D 0x42
  else s.modTgt n i (fun t => { t with repairing := true, loaded := false, retries := 0 })

/-- An exchange ended with a matching status (10 R293 to R295). -/
def State.tgtMatched (s : State) (n i : Nat) : State :=
  let t := (s.job n).target i
  let s := (s.npGive t.port t.cmd).modTgt n i (fun t => { t with busy := false })
  if t.state = .verifying then
    if t.repairing then s.modTgt n i (fun t => { t with repairing := false, repaired := true, loaded := false, retries := 0 })
    else match t.verdict with
      | some ok => s.tgtChecked n i ok
      | none => s.tgtChecked n i false
  else s.tgtWrote n i

/-- An exchange failed by its status or the lack of one: repeated, or the target ends (10 R293, R295). -/
def State.tgtRetry (s : State) (n i out det : Nat) : State :=
  let t := (s.job n).target i
  if t.retries < s.cfg 0x2305 0 then
    (s.npGive t.port t.cmd).modTgt n i (fun t => { t with busy := false, retries := t.retries + 1 })
  else s.tgtEnd n i out det

/-- Whether a target has an exchange in hand. -/
def State.inExchange (s : State) (n i : Nat) : Bool :=
  let t := (s.job n).target i
  (s.job n).active && decide (i < (s.job n).targets.length) && t.busy && !(s.reading n (i + 1)) &&
    (decide (t.state = .streaming) || decide (t.state = .catching) || decide (t.state = .verifying))

/-- A status phase is received (10 R289, R295). -/
def State.statusSeen (s : State) (n i : Nat) (st : Bytes) : State :=
  if s.inExchange n i = false then s
  else
    let s := if (s.job n).statusOk ((s.job n).target i) st then s.tgtMatched n i else s.tgtRetry n i 0x0D 0x41
    (s.jobPump n).jobSettle n

/-- A status does not arrive within tSTATUS (10 R293). -/
def State.statusLate (s : State) (n i : Nat) : State :=
  if s.inExchange n i = false then s else ((s.tgtRetry n i 0x04 0x22).jobPump n).jobSettle n

/-- The data of a verify exchange has been read (10 R294). -/
def State.verifySeen (s : State) (n i : Nat) (d : Bytes) : State :=
  let j := s.job n
  let t := j.target i
  if s.inExchange n i = false ∨ t.state ≠ .verifying ∨ t.repairing = true then s
  else
    let ok := decide (SMap.get none j.checks t.chunk = some (j.crcOf t.chunk d))
    let s := s.modTgt n i (fun t => { t with verdict := some ok })
    if j.tf 5 1 = 0 then ((s.tgtMatched n i).jobPump n).jobSettle n else s

/-! ### What reaches a job from elsewhere -/

/-- A read for a job ended: `det` of an error (10 R274, R291, R292, R294). -/
def State.jobReadEnd (s : State) (n tag c : Nat) (det : Option Nat) : State :=
  let j := s.job n
  if j.active = false then s
  else
    let s := match det with
      | some d =>
        let s := s.modVault (fun v => { v with cmds := SMap.select (fun _ c => decide (c.job ≠ some (n, tag))) v.cmds })
        if tag = 0 then s.chunkLost n d
        else if tag < 1000 then s.tgtEnd n (tag - 1) 0x0E d
        else s.tgtEnd n (tag - 1000) 0x0E d
      | none =>
        if s.reading n tag then s
        else if tag = 0 then s.chunkIn n
        else if tag < 1000 then s.modTgt n (tag - 1) (fun (t : Target) => if t.state = TgtState.ended then t else { t with busy := false, loaded := true })
        else s.setJob n { j with checks := SMap.put none j.checks c (some (j.crcOf c (s.chunkBytes j c))) }
    (s.jobPump n).jobSettle n

/-- A target that owns a pipe, with its job slot. -/
def State.tgtOfPipe (s : State) (p : Nat) : Option (Nat × Nat) :=
  s.vault.jobs.findSome? (fun e =>
    if e.2.active then
      ((List.range e.2.targets.length).find? (fun i => (e.2.target i).pipes.contains p)).map (fun i => (e.1, i))
    else none)

/-- The hub's item on a job pipe ended: its target ends so (10 R295, R296). -/
def State.jobPipeEnd (s : State) (p out det : Nat) : State :=
  match s.tgtOfPipe p with
  | some (n, i) => ((s.tgtEnd n i out det).jobPump n).jobSettle n
  | none => s

/-- A transaction of an exchange ended on a job pipe: edge replay within the budget, then the target ends (10 R289, R293, R295; 07
R217). -/
def State.jobXact (s : State) (p : Nat) (r : XactRes) : State :=
  let x := s.getPipes p
  match r with
  | .stall => (s.halt p false).jobPipeEnd p 0x02 0
  | .babble => s.jobPipeEnd p 0x03 0
  | .error =>
    if x.budget ≤ x.replays then ((((s.clearTt p).halt p true).spent x.port).jobPipeEnd p 0x04 0x20).serve x.port
    else s.modPipes p (fun x => { x with replays := x.replays + 1 })
  | _ => s.repaired p

/-- Targets whose tree is held for a restore go *Held*, and go on when it has succeeded (10 R295; 06 R188). -/
def State.jobHold (s : State) (n i : Nat) : State :=
  let j := s.job n
  let t := j.target i
  let hold := (s.getUsb t.port).hold
  if hold ∧ (t.state = .streaming ∨ t.state = .catching ∨ t.state = .verifying) then
    (s.npGive t.port t.cmd).modTgt n i (fun t => { t with state := .held, remembered := t.state, busy := false })
  else if hold = false ∧ t.state = .held then
    if t.remembered = .streaming ∧ t.chunk < j.tail then
      if s.poolHas j.stagingKib then s.catchUp n i else s
    else s.modTgt n i (fun t => { t with state := t.remembered })
  else s

/-- Every job follows its item's cause, its trees and its data. -/
def State.jobPass (s : State) : State :=
  s.vault.jobs.foldl (fun s e =>
    if e.2.active then
      let s := (List.range e.2.targets.length).foldl (fun s i => s.jobHold e.1 i) s
      ((s.jobSettle e.1).jobPump e.1).jobSettle e.1
    else s) s

/-! ### Commands -/

/-- Target `i` of a `FANOUT_START` body (10 R290). -/
def targetOf (it : Item) (i : Nat) : Target :=
  let o := 32 + 32 * i
  { Target.reset with
    state := .queued, remembered := .queued, device := it.f o 2, cmd := it.f (o + 4) 4 % 1048576, out := it.f (o + 8) 4 % 1048576,
    inp := it.f (o + 12) 4 % 1048576, stat := it.f (o + 16) 4 % 1048576, first := it.f (o + 20) 4, base := it.f (o + 24) 8 }

/-- What refuses one pipe of a target: not held, not open, of another device, not bulk or of the wrong direction, in use (10 R284,
R290). -/
def State.pipeRefusal (s : State) (t dev p : Nat) (inward : Bool) : Option Nat :=
  let x := s.getPipes p
  if s.holdsPipe t p = false ∨ x.state ≠ .opened ∨ handle x.port x.address ≠ dev then some 0x05
  else if x.typ ≠ 2 ∨ x.dirIn ≠ inward then some 0x01
  else if x.heldBy ≠ .none then some 0x0E
  else none

/-- What refuses one target (10 R290). -/
def State.targetRefusal (s : State) (j : Job) (t : Target) : Option Nat :=
  match handleOf t.device with
  | none => some 0x05
  | some (p, a) =>
    if s.holdsPort j.principal p = false ∨ (s.getUsb p).device? a = none then some 0x05
    else if j.chunks ≤ t.first ∨ (j.verify = false ∧ t.inp ≠ 0) ∨ (j.tf 5 1 = 0 ∧ t.stat ≠ 0) then some 0x01
    else
      let need := [(t.cmd, false), (t.out, false)] ++ (if j.verify then [(t.inp, true)] else []) ++
        (if j.tf 5 1 = 0 then [] else [(t.stat, true)])
      need.findSome? (fun e => s.pipeRefusal j.principal t.device e.1 e.2)

/-- The job a `FANOUT_START` describes (10 R290). -/
def State.jobOf (s : State) (k : Nat) (i : Item) : Job :=
  let j := { Job.reset with
    active := true, taken := true, principal := i.principal, acc := i.acc, item := k
    tmpl := SMap.get [] s.vault.templates (i.principal * 8 + i.f 0 1), upstream := bitOf (i.f 1 1) 0, coll := bitOf (i.f 1 1) 1
    jobId := i.f 4 4, tlba := if bitOf (i.f 1 1) 0 then 0 else i.f 8 8, blocks := i.f 16 4
    targets := (List.range (i.f 2 2)).map (targetOf i) }
  let kib := j.chunkBlocks * 4
  { j with
    window := if i.f 20 4 = 0 then 4 else i.f 20 4 / kib, winKib := if i.f 20 4 = 0 then 4 * kib else i.f 20 4
    tail := j.low, head := j.low, imageCheck := crcFeed (BitVec.allOnes 64) (zeros 8) }

/-- The lowest free job slot (10 R290). -/
def State.freeJob (s : State) : Option Nat := (List.range 16).find? (fun n => !(s.job n).taken)

/-- `FANOUT_START` (10 R284, R290, R291). -/
def State.doFanout (s : State) (k : Nat) (i : Item) : State :=
  let j := s.jobOf k i
  let ps := j.targets.flatMap (fun t => t.pipes.eraseDups)
  if 7 < i.f 0 1 ∨ j.tmpl = [] ∨ j.targets = [] ∨ 256 < j.targets.length ∨ i.body.length < 32 + 32 * j.targets.length ∨
      j.blocks = 0 ∨ j.window < 2 ∨ (j.coll = false ∧ j.jobId ≠ 0) then s.finish k 0x0C 0x01
  else if j.upstream = false ∧ s.inAllot j.principal j.tlba j.blocks = false then s.finish k 0x0C 0x0F
  else match j.targets.findSome? (s.targetRefusal j) with
    | some det => s.finish k 0x0C det
    | none =>
      if ps.eraseDups.length ≠ ps.length then s.finish k 0x0C 0x0E
      else if j.upstream = false ∧ s.vault.captures.any (fun c => decide (c.principal = j.principal) && overlaps j.tlba j.blocks c.tlba c.blocks) then
        s.finish k 0x0C 0x11
      else match s.freeJob with
        | none => s.finish k 0x0C 0x10
        | some n =>
          if s.poolHas j.winKib = false then s.finish k 0x0C 0x10
          else
            let s := (s.setJob n j).poolUse (· + j.winKib)
            let s := ps.foldl (fun s p => s.holdPipe p p (.job n) idleItem) s
            let s := j.targets.foldl (fun s (t : Target) => s.itemWake t.port) s
            let ahead := s.vaultAhead j.principal j.tlba j.blocks false
            let s := s.modItems k (fun i => { i with
              stage := 1, closes := if j.upstream then [] else ahead, length := if j.upstream then j.blocks * 4096 else 0 })
            s.jobPump n

/-- The slot of a principal's job with an accession number (10 R282, R297). -/
def State.jobSlot (s : State) (t acc : Nat) : Option Nat :=
  (s.vault.jobs.find? (fun e => e.2.taken && decide (e.2.principal = t) && decide (e.2.acc = acc))).map (·.1)

/-- `FANOUT_STATUS` (10 R297). -/
def State.doFanStatus (s : State) (k : Nat) (i : Item) : State :=
  match s.jobSlot i.principal (i.f 0 6) with
  | some n => s.finishB k 0 0 ((s.job n).body true)
  | none => s.finish k 0x0C 0x05

/-- `FANOUT_CANCEL` (10 R296). -/
def State.doFanCancel (s : State) (k : Nat) (i : Item) : State :=
  match s.jobSlot i.principal (i.f 0 6) with
  | some n => ((if (s.job n).active then s.causeItem 0x07 0x37 (s.job n).item else s).jobSettle n).finish k 0 0
  | none => s.finish k 0x0C 0x05

/-- tJOBKEEP after a job's completion its slot is freed (10 R290). -/
def State.jobFree (s : State) (n : Nat) : State :=
  if (s.job n).active then s else s.setJob n Job.reset

end Sys2Proof.Machine
end

