-- ==== Sys2Proof/Machine/Capture.lean ====
section
/-!
DEFINITION. Captures: IN data of a pipe written to the Vault as stamped records (10 R300 to R303).
-/
namespace Sys2Proof.Machine

/-- The capture of item `k` changed. -/
def State.modCapt (s : State) (k : Nat) (f : Capt → Capt) : State :=
  s.modVault (fun v => { v with captures := v.captures.map (fun c => if c.item = k then f c else c) })

/-- The capture of item `k`. -/
def State.capt? (s : State) (k : Nat) : Option Capt := s.vault.captures.find? (fun c => decide (c.item = k))

/-- Payload bytes of a slot (10 R302). -/
def Capt.room (c : Capt) : Nat := c.recBlocks * 4096 - 64

/-- The context whose queue a capture's transfers join. -/
def State.captCtx (s : State) (c : Capt) : Nat := s.queueOf c.pipe c.stream

/-- Whether a transfer of the capture is in hand. -/
def State.captBusy (s : State) (c : Capt) : Bool := s.hasItem (itemKey hubPrincipal (s.captCtx c))

/-- Service intervals of one record: as asked, and no more than fill the slot (10 R301, R302). -/
def Capt.intervals (c : Capt) (x : Pipe) : Nat := min c.isoIntervals (c.room / (4 + x.bytesPerInterval))

/-- The next IN transfer of a capture: what the slot still takes, in whole packets (10 R302; log entry 30). -/
def State.captNext (s : State) (c : Capt) (start : Nat) : State :=
  let x := s.getPipes c.pipe
  let i :=
    if x.typ = 1 then
      { Item.reset with isIn := true, stream := c.stream, isoStart := start, isoPackets := c.intervals x,
                        length := c.intervals x * x.bytesPerInterval }
    else
      { Item.reset with isIn := true, shortOk := true, stream := c.stream,
                        length := ceilDiv (c.room - c.payload.length) (max 1 x.maxPacket) * max 1 x.maxPacket }
  (s.holdPipe c.pipe (s.captCtx c) (.capture c.item) i).serve x.port

/-- The bytes of a record: header, payload and zeros to the end of the slot (10 R301). -/
def State.record_ (s : State) (c : Capt) (short final : Bool) : Bytes :=
  let x := s.getPipes c.pipe
  let payload := c.isoWords.flatMap (fun w => natLE 4 w.toNat) ++ c.payload.take (c.room - 4 * c.isoWords.length)
  let head := natLE 1 0xC1 ++ natLE 1 1 ++ natLE 2 64 ++ natLE 4 payload.length ++ natLE 6 c.acc ++
    natLE 2 (handle x.port x.address) ++ natLE 4 c.pipe ++ natLE 4 c.startFrame.toNat ++ natLE 8 c.startTime.toNat ++
    natLE 8 c.seq.toNat ++ natLE 4 (b2n short + 2 * b2n (decide (c.missed ≠ 0)) + 4 * b2n final) ++ natLE 4 c.missed ++ zeros 8
  padTo (c.recBlocks * 4096)
    (head ++ natLE 8 (crc64 (natBE 8 (c.tlba + c.slot * c.recBlocks) ++ head ++ payload)).toNat ++ payload)

/-- A record closes: it is written to its slot, and the next slot follows; the last of a linear range ends the capture (10 R301,
R302). -/
def State.closeRecord (s : State) (k : Nat) (short final : Bool) : State :=
  match s.capt? k with
  | none => s
  | some c =>
    let at_ := c.tlba + c.slot * c.recBlocks
    let ps := s.parts c.principal at_ c.recBlocks
    let end_ := !c.ring && decide (c.blocks ≤ (c.slot + 1) * c.recBlocks)
    let d := s.record_ c short (final || end_)
    let used := min (c.payload.length) (c.room - 4 * c.isoWords.length)
    let next := if c.ring ∧ c.blocks ≤ (c.slot + 1) * c.recBlocks then 0 else c.slot + 1
    let s' := s.modCapt k (fun c => { c with
      slot := next, seq := c.seq + 1, payload := c.payload.drop used, isoWords := [], missed := 0
      startFrame := BitVec.ofNat 32 (s.portCount (s.getPipes c.pipe).port), startTime := s.clk.hubTime
      bytes := c.bytes + BitVec.ofNat 64 (used + 4 * c.isoWords.length) })
    let s' := if end_ then s'.modItems k (fun i => { i with stage := 3 }) else s'
    if s.badDrive ps then s'.modItems k (fun i => { i with cause := some (bestCause i.cause (0x0E, 0x52)) })
    else s'.writeCmds { Nvme.reset with item := some k } ps d false

/-- Records close while the payload fills a slot. -/
def State.closeFull (s : State) (k : Nat) : Nat → State
  | 0 => s
  | f + 1 =>
    match s.capt? k, s.item? k with
    | some c, some i => if c.room ≤ c.payload.length ∧ i.stage ≤ 2 then (s.closeRecord k false false).closeFull k f else s
    | _, _ => s

/-- A transfer of a capture ended: its data joins the record, records close, and the next transfer starts (10 R301 to R303). -/
def State.captEnded (s : State) (k : Nat) (out det : Nat) (it : Item) : State :=
  match s.capt? k with
  | none => s
  | some c =>
    let x := s.getPipes c.pipe
    let iso := decide (x.typ = 1)
    let words := it.isoDone.map (fun (d : Nat × Nat) => BitVec.ofNat 32 (d.1 % 256 * 65536 + d.2 % 65536))
    let miss := (it.isoDone.filter (fun (d : Nat × Nat) => decide (d.1 = 5))).length
    let s := s.modCapt k (fun c => { c with
      startFrame := if c.payload = [] then BitVec.ofNat 32 (if iso then (if x.cls = 0 then x.isoBase it.isoStart else it.isoStart) else it.blocks) else c.startFrame
      startTime := if c.payload = [] then (if it.outData = [] then s.clk.hubTime else BitVec.ofNat 64 it.arrived) else c.startTime
      payload := c.payload ++ it.outData, isoWords := c.isoWords ++ words, missed := c.missed + miss })
    let s := if miss = 0 then s else s.vaultEvent 0x800
    let s :=
      if iso then (if words = [] then s else s.closeRecord k false false)
      else
        let s := s.closeFull k (it.outData.length / 4096 + 1)
        let left := match s.capt? k with | some c => c.payload.length | none => 0
        if c.split ∧ out = 0 ∧ it.outData.length < it.length ∧ left ≠ 0 then s.closeRecord k true false else s
    let s := if outRank out < 8 ∨ (x.state ≠ .opened ∧ x.state ≠ .halted) then s.causeItem out det k else s
    match s.capt? k, s.item? k with
    | some c, some i =>
      if i.stage = 1 ∧ i.cause = none then s.captNext c (it.isoStart + it.isoDone.length * 2 ^ x.interval) else s
    | _, _ => s

/-- The completion of a capture: its records, their payload and the next block (10 R282, R300). -/
def State.captFinish (s : State) (c : Capt) (full : Bool) : State :=
  let s := s.letGo c.pipe (s.captCtx c) (.capture c.item)
  let s := s.modVault (fun v => { v with captures := v.captures.filter (fun d => decide (d.item ≠ c.item)) })
  let s := s.modItems c.item (fun i => { i with moved := c.bytes.toNat })
  let s := match s.item? c.item with
    | some i => if (i.cause.map (fun (c : Nat × Nat) => c.1)) = some 0x0E then s.vaultEvent 0x100 else s
    | none => s
  s.finishB c.item 0 (if full then 0x44 else 0)
    (natBE 8 c.seq.toNat ++ natBE 8 c.bytes.toNat ++ natBE 8 (c.tlba + c.slot * c.recBlocks))

/-- One capture goes on: a cause or a stop ends its transfer, its last record closes with FINAL, and it completes when its writes
have ended (10 R300 to R302). Stages of its item: 1 running, 2 stopping, 3 range full, 4 and 5 the same with the last record
written. -/
def State.captStep (s : State) (k : Nat) : State :=
  match s.capt? k, s.item? k with
  | some c, some i =>
    let s := if i.stage = 1 ∧ i.cause ≠ none then s.modItems k (fun i => { i with stage := 2 }) else s
    let st := (s.getItems k).stage
    let hub := itemKey hubPrincipal (s.captCtx c)
    if st = 1 then
      if s.captBusy c ∨ i.closes.any (fun j => s.hasItem j) = true then s
      else s.captNext c (s.portCount (s.getPipes c.pipe).port + 2)
    else if s.captBusy c then
      match i.cause with
      | some e => s.causeItem e.1 e.2 hub
      | none => s.causeItem 0x07 0x33 hub
    else
      let s :=
        if st = 2 then
          let s := if (i.cause.map (fun (c : Nat × Nat) => c.1)) = some 0x0E then s else s.closeRecord k false true
          s.modItems k (fun i => { i with stage := 4 })
        else if st = 3 then s.modItems k (fun i => { i with stage := 5 })
        else s
      if s.itemCmds k then s
      else match s.capt? k with
        | some c => s.captFinish c (decide ((s.getItems k).stage = 5))
        | none => s
  | _, _ => s

/-- Every capture goes on. -/
def State.captPass (s : State) : State := (s.vault.captures.map (·.item)).foldl State.captStep s

/-- `CAPTURE_START` (10 R284, R300). -/
def State.doCapture (s : State) (k : Nat) (i : Item) : State :=
  let n := i.f 0 4 % 1048576
  let x := s.getPipes n
  let rec_ := i.f 20 2
  let blocks := i.f 16 4
  if s.holdsPipe i.principal n = false ∨ x.state ≠ .opened then s.finish k 0x0C 0x05
  else if x.typ = 0 ∨ x.dirIn = false ∨ rec_ = 0 ∨ 1024 < rec_ ∨ blocks = 0 ∨ blocks % rec_ ≠ 0 ∨
      (if x.typ = 1 then i.f 22 2 = 0 ∨ 1024 < i.f 22 2 else i.f 22 2 ≠ 0) ∨
      (if x.stream = 0 then i.f 4 2 ≠ 0 else i.f 4 2 = 0 ∨ x.stream < i.f 4 2) then s.finish k 0x0C 0x01
  else if x.heldBy ≠ .none then s.finish k 0x0C 0x0E
  else if s.inAllot i.principal (i.f 8 8) blocks = false then s.finish k 0x0C 0x0F
  else if s.rangeBusy i.principal (i.f 8 8) blocks then s.finish k 0x0C 0x11
  else if 64 ≤ s.vault.captures.length then s.finish k 0x0C 0x10
  else
    let c := { Capt.reset with
      item := k, acc := i.acc, principal := i.principal, pipe := n, stream := i.f 4 2, ring := bitOf (i.f 6 1) 0
      split := bitOf (i.f 6 1) 1, tlba := i.f 8 8, blocks := blocks, recBlocks := rec_, isoIntervals := i.f 22 2 }
    let ahead := s.vaultAhead i.principal (i.f 8 8) blocks true
    let s := s.modVault (fun v => { v with captures := v.captures ++ [c] })
    let s := (s.itemWake x.port).modPipes n (fun x => { x with heldBy := .capture k })
    let s := s.modItems k (fun i => { i with stage := 1, closes := ahead.filter (· ≠ k) })
    s.captStep k

/-- `CAPTURE_STOP` (10 R300). -/
def State.doCaptStop (s : State) (k : Nat) (i : Item) : State :=
  match s.vault.captures.find? (fun c => decide (c.principal = i.principal) && decide (c.acc = i.f 0 6)) with
  | some c =>
    let s := s.modItems c.item (fun i => if i.stage = 1 then { i with stage := 2 } else i)
    (s.captStep c.item).finish k 0 0
  | none => s.finish k 0x0C 0x05

end Sys2Proof.Machine
end

