-- ==== Sys2Proof/Machine/Movers.lean ====
section
/-!
DEFINITION. Mover channels, their descriptors, the check-value units, the scan engine and the mover area (11).
-/
namespace Sys2Proof.Machine

/-! ### The mover area -/

/-- Bytes of the mover area (11 R307). -/
def State.areaSize (s : State) : Nat := s.cfg 0x2400 1 * 1024

/-- `n` bytes of the mover area; 0 beyond it (11 R308). -/
def State.areaRead (s : State) (o n : Nat) : Bytes :=
  (List.range n).map (fun i => if o + i < s.areaSize then SMap.get 0 s.mov.area (o + i) else 0)

/-- Bytes stored in the mover area, with the written flags of their 64-byte lines; beyond it they are ignored (11 R308; 12
R338). -/
def State.areaWrite (s : State) (o : Nat) (d : Bytes) : State :=
  let d := d.take (s.areaSize - o)
  if d = [] then s
  else
    let lines := (List.range ((o + d.length - 1) / 64 - o / 64 + 1)).map (· + o / 64)
    s.modMov (fun m => { m with
      area := putBytes m.area o d, areaWritten := lines.foldl (fun l n => insertSorted n l) m.areaWritten })

/-- Whether some byte of a range of the area was never written (11 R316). -/
def State.areaFresh (s : State) (o n : Nat) : Bool :=
  (List.range ((o + n + 63) / 64 - o / 64)).any (fun i => !(s.mov.areaWritten.contains (o / 64 + i)))

/-! ### The house allotment, by bytes -/

/-- Unwritten 4 KiB blocks of a range of the house allotment (10 R279). -/
def State.houseFresh (s : State) (tlba blocks : Nat) : Nat :=
  sumOf ((s.parts 0 tlba blocks).map (fun x => if s.isWritten x.1 then 0 else x.2.2.1))

/-! ### Descriptors -/

/-- A field of a descriptor (11 R311). -/
def df (d : Bytes) (o n : Nat) : Nat := leNat (slice d o n)

/-- One side of a descriptor: kind, address, line length, stride, lines (11 R311). -/
abbrev Side := Nat × Nat × Nat × Nat × Nat

/-- The source side. -/
def srcSide (d : Bytes) : Side := (bitsOf (df d 0 4) 0 2, df d 0x08 8, df d 0x10 4, df d 0x14 4, df d 0x18 4)

/-- The destination side. -/
def dstSide (d : Bytes) : Side := (bitsOf (df d 0 4) 2 2, df d 0x20 8, df d 0x28 4, df d 0x2C 4, df d 0x30 4)

/-- Total bytes of a side. -/
def sideTotal (x : Side) : Nat := x.2.2.1 * x.2.2.2.2

/-- The starts of a side's lines. -/
def sideLines (x : Side) : List Nat := (List.range x.2.2.2.2).map (fun i => x.2.1 + i * x.2.2.2.1)

/-- Control bits of a descriptor (11 R311). -/
def ctl (d : Bytes) (n : Nat) : Bool := bitOf (df d 0 4) n

/-- CHECK_MODE of a descriptor; 0 where CHECK_EN is 0 (11 R313, R324). -/
def checkMode (d : Bytes) : Nat := if ctl d 11 then bitsOf (df d 0 4) 12 2 else 0

/-- CHECK_UNIT of a descriptor. -/
def checkUnit (d : Bytes) : Nat := bitsOf (df d 0 4) 16 4

/-- Bytes of a check value (11 R324). -/
def UnitCfg.bytes (u : UnitCfg) : Nat := ceilDiv u.width 8

/-- Whether a unit's configuration is valid (11 R327). -/
def UnitCfg.ok (u : UnitCfg) : Bool := decide (8 ≤ u.width) && decide (u.width ≤ 64) && decide (u.locator ≤ 2)

/-- The value a unit computes over its locator and data (11 R322, R323). -/
def UnitCfg.value (u : UnitCfg) (tlba : Nat) (d : Bytes) : BitVec 64 :=
  let lead := if u.locator = 1 then natBE 8 tlba else if u.locator = 2 then natBE 8 u.loc.toNat else []
  let m := 2 ^ u.width
  BitVec.ofNat 64 (crcOf u.width (u.poly.toNat % m) (u.init.toNat % m) (u.xorout.toNat % m) u.refin u.refout (lead ++ d))

/-- A check value as its bytes (11 R324). -/
def UnitCfg.encode (u : UnitCfg) (v : BitVec 64) : Bytes :=
  if u.appendLe then natLE u.bytes v.toNat else natBE u.bytes v.toNat

/-- The TLBA that LOCATOR 1 takes: of the destination where it is on the Vault, else of the source (11 R323). -/
def locatorOf (d : Bytes) : Nat := (if (dstSide d).1 = 1 then (dstSide d).2.1 else (srcSide d).2.1) / 4096

/-- Whether a side's bytes lie in the mover area or the house allotment (11 R313). -/
def State.sideFits (s : State) (x : Side) : Bool :=
  let top := x.2.1 + (x.2.2.2.2 - 1) * (if x.2.2.2.2 ≤ 1 then 0 else x.2.2.2.1) + x.2.2.1
  if x.1 = 0 then decide (top ≤ s.areaSize)
  else if x.1 = 1 then decide (top ≤ extSize (s.getTenants 0).extents * 1048576)
  else true

/-- Whether a pipe side names a pipe that the channel may take (11 R312, R313). -/
def State.sidePipe (s : State) (x : Side) (inward : Bool) : Bool :=
  if x.1 = 2 then
    let n := x.2.1 % 1048576
    let p := s.getPipes n
    s.holdsPipe 0 n && decide (p.state = .opened) && (decide (p.typ = 2) || decide (p.typ = 3)) && decide (p.dirIn = inward) &&
      decide (p.heldBy = .none) && decide (x.2.2.1 ≤ 4194304)
  else true

/-- Whether a side on the Vault is a multiple of 4,096 in address, length and stride (11 R313). -/
def sideAligned (x : Side) : Bool :=
  if x.1 = 1 then decide (x.2.1 % 4096 = 0) && decide (x.2.2.1 % 4096 = 0) && decide (x.2.2.2.1 % 4096 = 0)
  else true

/-- Whether the lines of a side do not overlap (11 R313). -/
def sideStride (x : Side) : Bool := decide (1 < x.1) || decide (x.2.2.2.2 ≤ 1) || decide (x.2.2.1 ≤ x.2.2.2.1)

/-- The first condition of R313 that a descriptor fails; 0 where it fails none. -/
def State.descCheck (s : State) (off : Nat) (d : Bytes) : Nat :=
  let a := srcSide d
  let b := dstSide d
  let u := (s.unit (checkUnit d)).cfg
  let n := u.bytes
  let sa := sideTotal a
  let sb := sideTotal b
  let fits := if checkMode d = 1 then sb = sa + n else if checkMode d = 2 then sb + n = sa else sa = sb
  if off % 64 ≠ 0 ∨ s.areaSize < off + 64 then 0x20
  else if a.1 = 3 ∨ b.1 = 3 ∨ bitsOf (df d 0 4) 12 2 = 3 then 0x21
  else if sa = 0 ∨ sb = 0 ∨ 0xFFFFFFFF < sa ∨ 0xFFFFFFFF < sb ∨ ¬ fits then 0x22
  else if sideStride a = false ∨ sideStride b = false then 0x23
  else if sideAligned a = false ∨ sideAligned b = false then 0x24
  else if s.sideFits a = false ∨ s.sideFits b = false then 0x25
  else if s.sidePipe a true = false ∨ s.sidePipe b false = false then 0x26
  else if (a.1 = 1 ∨ b.1 = 1) ∧ s.vault.enabled = false then 0x27
  else if b.1 = 1 ∧ (sideLines b).any (fun x => s.rangeBusy 0 (x / 4096) (b.2.2.1 / 4096)) = true then 0x27
  else if ctl d 11 = true ∧ (checkUnit d < 8 ∨ u.ok = false ∨ (u.locator = 1 ∧ a.1 ≠ 1 ∧ b.1 ≠ 1)) then 0x28
  else 0

/-! ### Channel steps -/

/-- A channel changed. -/
def State.modChan (s : State) (c : Nat) (f : Chan → Chan) : State := s.setChan c (f (s.chan c))

/-- The pipe a side names, if it names one (11 R312). -/
def sidePipes (x : Side) : List Nat := if x.1 = 2 then [x.2.1 % 1048576] else []

/-- The pipes a channel's descriptor names. -/
def Chan.pipes (c : Chan) : List Nat := sidePipes (srcSide c.desc) ++ sidePipes (dstSide c.desc)

/-- The channel holds its pipes (11 R314). -/
def State.chanHold (s : State) (c : Nat) : State :=
  (s.chan c).pipes.foldl (fun s n => s.holdPipe n n (.channel c) idleItem) s

/-- The channel lets go its pipes, the translator buffers held for them and its check-value unit (08 R240; 11 R314, R322). -/
def State.chanFree (s : State) (c : Nat) : State :=
  let s := (s.chan c).pipes.foldl (fun s n => (s.npGive (s.getPipes n).port n).letGo n n (.channel c)) s
  let s := (List.range 16).foldl (fun s u =>
    if (s.unit u).user = some c then s.setUnit u { s.unit u with busy := false, user := none } else s) s
  s.modChan c (fun x => { x with waitUnit := false, waitPipe := false })

/-- The settings of a unit are used: the parity of its registers is checked (02 R75). -/
def State.unitUsed (s : State) (u : Nat) : State :=
  s.parityUses ((List.range 9).map (fun k => 0x320000 + u * 64 + (if k = 0 then 0 else 4 * (k + 1))))

/-- A channel whose descriptor names a unit takes it, or waits for it (11 R322). -/
def State.takeUnit (s : State) (c : Nat) : State :=
  let x := s.chan c
  let u := checkUnit x.desc
  if ctl x.desc 11 = false then s.modChan c (fun x => { x with unitCfg := none, waitUnit := false })
  else if (s.unit u).busy then s.modChan c (fun x => { x with waitUnit := true })
  else
    let s := (s.unitUsed u).setUnit u { s.unit u with busy := true, user := some c }
    s.modChan c (fun x => { x with unitCfg := some (s.unit u).cfg, waitUnit := false })

/-- A channel halts with a cause (11 R313, R315, R319, R320). -/
def State.chanHalt (s : State) (c cause : Nat) : State := (s.modChan c (fun x => { x with state := .halted, cause := cause })).chanEvent c 8

/-- The blocks from the first to the last line of a side on the Vault: first and count. -/
def sideSpan (x : Side) : Nat × Nat :=
  (x.2.1 / 4096, ((x.2.2.2.2 - 1) * (if x.2.2.2.2 ≤ 1 then 0 else x.2.2.2.1) + x.2.2.1) / 4096)

/-- The house Vault items that a descriptor waits for (10 R285; 11 R309). -/
def State.descAhead (s : State) (d : Bytes) : List Nat :=
  let ahead := fun (x : Side) (w : Bool) => if x.1 = 1 then s.vaultAhead 0 (sideSpan x).1 (sideSpan x).2 w else []
  ahead (srcSide d) false ++ ahead (dstSide d) true

/-- Whether a descriptor has a side on the Vault. -/
def onVault (d : Bytes) : Bool := decide ((srcSide d).1 = 1) || decide ((dstSide d).1 = 1)

/-- Whether a descriptor with a Vault side waits for the PCIe PLL (11 R321). -/
def State.waitsPcie (s : State) (x : Chan) : Bool := onVault x.desc && decide ((s.pll .pcie).state = .stopped)

/-- Whether a channel's commands are in hand at the Vault (11 R309). -/
def State.chanCmds (s : State) (c : Nat) : Bool := s.vault.cmds.any (fun e => decide (e.2.chan = some c))

/-- The Vault commands of a descriptor begin: the reads of a source side, once its unit, the PCIe PLL and the items before it let it
(10 R285; 11 R309, R321). -/
def State.vaultBegin (s : State) (c : Nat) : State :=
  let x := s.chan c
  if x.state ≠ .running ∨ x.waitUnit = true ∨ x.vstage ≠ 0 ∨ onVault x.desc = false ∨ s.waitsPcie x = true ∨
      x.ahead.any (fun k => s.hasItem k) = true then s
  else
    let s := s.modChan c (fun x => { x with vstage := 1 })
    let a := srcSide x.desc
    if a.1 = 1 then
      (sideLines a).foldl (fun s o => s.readCmds { Nvme.reset with chan := some c } (s.parts 0 (o / 4096) (a.2.2.1 / 4096))) s
    else s

/-- A channel fetches a descriptor (11 R311, R313, R314, R322). -/
def State.chanFetch (s : State) (c off : Nat) : State :=
  let d := s.areaRead off 64
  let e := s.descCheck off d
  let s := s.modChan c (fun x => { x with
    state := .running, cur := off % 8388608, desc := d, bytes := 0, check := 0, unwritten := false, unitCfg := none
    got := [], vstage := 0, ahead := s.descAhead d })
  if e ≠ 0 then (s.chanHalt c e).note 0x2B c else ((s.chanHold c).takeUnit c).vaultBegin c

/-- A descriptor's status is written (11 R311). -/
def State.descStatus (s : State) (c : Nat) (done short : Bool) (cause : Nat) : State :=
  let x := s.chan c
  let w := b2n done + 2 * b2n (done && decide (0x10 ≤ cause)) + 4 * b2n x.unwritten + 8 * b2n short + 256 * cause
  ((s.areaWrite (x.cur + 4) (natLE 4 w)).areaWrite (x.cur + 0x34) (natLE 4 x.bytes.toNat)).areaWrite (x.cur + 0x38)
    (natLE 8 x.check.toNat)

/-- A descriptor ends: its status is written, and the list goes on or ends (11 R317, R319). -/
def State.descEnd (s : State) (c : Nat) (short : Bool) (cause : Nat) : State :=
  let x := s.chan c
  let s := (s.descStatus c true short cause).chanFree c
  let s := s.modMov (fun m => { m with descs := satAdd m.descs 1 })
  let s := if ctl x.desc 6 then s.chanEvent c 16 else s
  if ctl x.desc 10 then (s.modChan c (fun x => { x with state := .idle })).chanEvent c 1
  else s.chanFetch c (df x.desc 0x1C 4)

/-- The bytes of a source side; those of a pipe are `data` (11 R312, R316). -/
def State.gather (s : State) (x : Side) (data : Bytes) : Bytes :=
  if x.1 = 0 then (sideLines x).flatMap (fun o => s.areaRead o x.2.2.1)
  else if x.1 = 1 then (sideLines x).flatMap (fun o => s.rangeBytes 0 (o / 4096) (x.2.2.1 / 4096))
  else padTo (sideTotal x) (data.take (sideTotal x))

/-- Whether a source side reads never-written memory (11 R316). -/
def State.gatherFresh (s : State) (x : Side) : Bool :=
  if x.1 = 0 then (sideLines x).any (fun o => s.areaFresh o x.2.2.1)
  else if x.1 = 1 then (sideLines x).any (fun o => decide (0 < s.houseFresh (o / 4096) (x.2.2.1 / 4096)))
  else false

/-- Bytes of `d` from byte `lo` on written at a destination side, line by line; those of a Vault side are stored by its commands (11 R312,
R316). -/
def State.scatter (s : State) (x : Side) (lo : Nat) (d : Bytes) : State :=
  ((sideLines x).zipIdx).foldl (fun s e =>
    let at_ := max lo (e.2 * x.2.2.1)
    let line := slice d at_ ((e.2 + 1) * x.2.2.1 - at_)
    if line = [] ∨ x.1 = 1 then s
    else if x.1 = 0 then s.areaWrite (e.1 + (at_ - e.2 * x.2.2.1)) line
    else s.emit (.jobOut (x.2.1 % 1048576) 0 line)) s

/-- A channel's data reaches its destination, with BYTES, the byte counter and the events of R317; what was written before a bus error
counts once (11 R319, R320). -/
def State.chanWrite (s : State) (c : Nat) (out : Bytes) : State :=
  let x := s.chan c
  let b := dstSide x.desc
  let total := sideTotal b
  let old := x.bytes.toNat
  let s := (s.scatter b old out).modMov (fun m => { m with moved := satAdd m.moved (out.length - old) })
  let s := s.modChan c (fun x => { x with bytes := BitVec.ofNat 32 out.length })
  let s := if ctl x.desc 4 ∧ old < ceilDiv total 2 ∧ ceilDiv total 2 ≤ out.length then s.chanEvent c 2 else s
  if ctl x.desc 5 ∧ old < total ∧ total ≤ out.length then s.chanEvent c 4 else s

/-- Whether a channel moves data: *Running*, and waiting for neither a unit nor a pipe. -/
def Chan.moving (x : Chan) : Bool := decide (x.state = .running) && !x.waitUnit && !x.waitPipe

/-- What a descriptor's source bytes give: the bytes for the destination, the value of its unit, and the check bytes that came with them
(11 R324). -/
def Chan.made (x : Chan) (src : Bytes) : Bytes × BitVec 64 × Bytes :=
  match x.unitCfg with
  | none => (src, 0, [])
  | some u =>
    let body := if checkMode x.desc = 2 then src.take (src.length - u.bytes) else src
    let v := u.value (locatorOf x.desc) body
    (if checkMode x.desc = 1 then body ++ u.encode v else body, v, src.drop body.length)

/-- Whether the check bytes of a strip differ from the value computed (11 R324). -/
def Chan.differs (x : Chan) (v : BitVec 64) (tail : Bytes) : Bool :=
  match x.unitCfg with
  | some u => decide (checkMode x.desc = 2) && decide (tail ≠ u.encode v)
  | none => false

/-- The value that came with stripped data (11 R324). -/
def Chan.rxOf (x : Chan) (tail : Bytes) : BitVec 64 :=
  match x.unitCfg with
  | some u => BitVec.ofNat 64 (if u.appendLe then leNat tail else beNat tail)
  | none => 0

/-- The part of the house allotment that holds the last block of a side (11 R318). -/
def State.lastPart (s : State) (x : Side) : List (Nat × Nat × Nat × Nat) :=
  s.parts 0 ((sideSpan x).1 + (sideSpan x).2 - 1) 1

/-- A read-back of a Vault destination begins with a Flush of the drive that holds the last block; one of a buffer is over at once (11
R318). -/
def State.readBack (s : State) (c : Nat) : State :=
  let b := dstSide (s.chan c).desc
  if ctl (s.chan c).desc 7 = true ∧ b.1 = 1 then
    (s.lastPart b).foldl (fun s x => s.nvme { Nvme.reset with chan := some c, drive := s.driveOf x.1, op := 2, region := x.1 } false)
      (s.modChan c (fun x => { x with vstage := 3 }))
  else s.descEnd c false 0

/-- A descriptor's data has reached its destination: FULL, the strip comparison, the read-back and the end (11 R317, R318, R324). -/
def State.descWritten (s : State) (c : Nat) : State :=
  let x := s.chan c
  let m := x.made x.got
  let s := (s.modChan c (fun x => { x with check := m.2.1 })).chanWrite c m.1
  if x.differs m.2.1 m.2.2 then
    let s := (s.modChan c (fun x => { x with checkRx := x.rxOf m.2.2 })).modMov (fun m => { m with mismatches := satAdd m.mismatches 1 })
    (s.chanHalt c 0x18).note 0x2B c
  else s.readBack c

/-- The writes of a Vault destination, line by line, with FUA where the descriptor asks it (10 R278; 11 R309, R311). -/
def State.vaultWrites (s : State) (c : Nat) (out : Bytes) : State :=
  let d := (s.chan c).desc
  let b := dstSide d
  let s := s.modChan c (fun x => { x with vstage := 2 })
  ((sideLines b).zipIdx).foldl (fun s e =>
    s.writeCmds { Nvme.reset with chan := some c } (s.parts 0 (e.1 / 4096) (b.2.2.1 / 4096)) (slice out (e.2 * b.2.2.1) b.2.2.1) (ctl d 8)) s

/-- Whether a descriptor with a Vault side waits: for the PCIe PLL, for items before it, or for its reads (11 R309, R321). -/
def State.vaultHeld (s : State) (c : Nat) : Bool :=
  let x := s.chan c
  onVault x.desc && (s.waitsPcie x || decide (x.vstage ≠ 1) || s.chanCmds c)

/-- A descriptor's moves complete: what is left of its source is read, and its destination written, by Vault commands where it lies there
(11 R309, R310, R316 to R318, R324). -/
def State.descMoved (s : State) (c : Nat) (data : Bytes) : State :=
  let x := s.chan c
  if x.moving = false ∨ s.vaultHeld c = true then s
  else
    let a := srcSide x.desc
    let src := x.got ++ (s.gather a data).drop x.got.length
    let s := s.modChan c (fun x => { x with got := src, unwritten := x.unwritten || s.gatherFresh a })
    if (dstSide x.desc).1 = 1 then
      let s := s.vaultWrites c (x.made src).1
      if s.chanCmds c then s else s.descWritten c
    else s.descWritten c

/-- A pipe transfer of a source side ends short (11 R315). -/
def State.shortEnd (s : State) (c : Nat) (data : Bytes) : State :=
  let x := s.chan c
  if x.moving = false ∨ (srcSide x.desc).1 ≠ 2 ∨ sideTotal (srcSide x.desc) ≤ data.length then s
  else
    let v := match x.unitCfg with | some u => u.value (locatorOf x.desc) data | none => 0
    let s := (s.modChan c (fun x => { x with check := v })).chanWrite c data
    if ctl x.desc 9 then s.chanHalt c 3 else s.descEnd c true 3

/-- The bytes of a side before an address on a line (11 R320). -/
def sideBefore (x : Side) (line addr : Nat) : Nat :=
  if x.1 = 2 then line * x.2.2.1 else line * x.2.2.1 + min x.2.2.1 (addr - (x.2.1 + line * x.2.2.2.1))

/-- A bus error: what was written before it stays, and the channel halts with the error latched (11 R320). -/
def State.busError (s : State) (c : Nat) (e : BusErr) : State :=
  let x := s.chan c
  if x.state ≠ .running then s
  else
    let a := srcSide x.desc
    let n := sideBefore (if e.dst then dstSide x.desc else a) e.line e.addr
    let s := if a.1 = 2 ∨ x.moving = false ∨ n < x.bytes.toNat then s else s.chanWrite c ((x.got ++ (s.gather a []).drop x.got.length).take n)
    let s := s.modChan c (fun x => { x with
      errAddr := BitVec.ofNat 64 e.addr, errDir := e.dst, errLine := BitVec.ofNat 32 e.line
      errInfo := if e.cause = 0x15 then e.info % 256 else x.errInfo })
    ((s.modMov (fun m => { m with busErrs := satAdd m.busErrs 1 })).chanHalt c e.cause).note 0x2A c

/-- Commands of a channel that the Vault has not been sent are dropped. -/
def State.chanDrop (s : State) (c : Nat) : State :=
  s.modVault (fun v => { v with cmds := SMap.select (fun _ e => e.issued || decide (e.chan ≠ some c)) v.cmds })

/-- The place of a region in a list of extents. -/
def placeOf (r : Nat) : List (Nat × Nat) → Nat
  | [] => 0
  | (f, n) :: l => if f ≤ r ∧ r < f + n then r - f else n + placeOf r l

/-- The byte offset in the house allotment that a command begins at (11 R312, R320). -/
def State.cmdAddr (s : State) (e : Nvme) : Nat :=
  (placeOf e.region (s.getTenants 0).extents * 256 + (if e.op = 0 then e.lba - s.lbaOf e.region else e.chunk)) * 4096

/-- The cause of a channel's bus error from how its Vault command failed (11 R320 Channel causes; 10 R274). -/
def vaultCause (det : Nat) : Nat := if det = 0x50 then 0x11 else if det = 0x51 then 0x12 else 0x13

/-- A Vault command of a channel ended: an error is a bus error; after the last write the destination holds the data, after the Flush of a
read-back the last block is read, and after that the descriptor ends (11 R309, R318, R320). -/
def State.chanCmdEnd (s : State) (c : Nat) (e : Nvme) (det : Option Nat) : State :=
  let x := s.chan c
  if x.state ≠ .running then s
  else match det with
    | some d =>
      let side := if e.op = 0 ∧ x.vstage = 1 then srcSide x.desc else dstSide x.desc
      (s.chanDrop c).busError c
        ⟨vaultCause d, s.cmdAddr e, decide (x.vstage ≠ 1), (s.cmdAddr e - side.2.1) / max 1 side.2.2.2.1, 0⟩
    | none =>
      if s.chanCmds c then s
      else if x.vstage = 2 then s.descWritten c
      else if x.vstage = 3 then
        let s := (s.modChan c (fun x => { x with vstage := 4 })).readCmds { Nvme.reset with chan := some c } (s.lastPart (dstSide x.desc))
        if s.chanCmds c then s else s.descEnd c false 0
      else if x.vstage = 4 then s.descEnd c false 0
      else s

/-- The hub's item on pipe `n` of a channel ended: a bus error with cause 0x15 (11 R315). -/
def State.chanPipeEnd (s : State) (c n out : Nat) : State :=
  let x := s.chan c
  let dst := !((sidePipes (srcSide x.desc)).contains n)
  s.busError c ⟨0x15, n, dst, x.bytes.toNat / max 1 (if dst then dstSide x.desc else srcSide x.desc).2.2.1, out⟩

/-- A transaction of a channel's transfer ended on its pipe (11 R315; 07 R217). -/
def State.chanXact (s : State) (c p : Nat) (r : XactRes) : State :=
  let x := s.getPipes p
  match r with
  | .stall => ((s.halt p false).unhold p).chanPipeEnd c p 0x02
  | .babble => (s.unhold p).chanPipeEnd c p 0x03
  | .error =>
    if x.budget ≤ x.replays then
      ((((s.clearTt p).halt p true).spent x.port).unhold p |>.chanPipeEnd c p 0x04).serve x.port
    else s.modPipes p (fun x => { x with replays := x.replays + 1 })
  | _ => s.repaired p

/-- GO, which uses the channel's settings (11 R319, R320; 02 R75). -/
def State.chanGo (s : State) (c : Nat) : State :=
  if (s.chan c).state = .idle then
    let s := (s.parityUses [0x311000 + c * 64, 0x311004 + c * 64]).modChan c (fun x => { x with cause := 0, errInfo := 0, errDir := false, errAddr := 0, errLine := 0, checkRx := 0 })
    s.chanFetch c (s.chan c).head
  else s

/-- SKIP of a halted channel (11 R319). -/
def State.chanSkip (s : State) (c : Nat) : State :=
  let x := s.chan c
  if x.state ≠ .halted then s
  else
    let s := (s.descStatus c true (decide (x.cause = 3)) x.cause).chanFree c
    let s := s.modMov (fun m => { m with descs := satAdd m.descs 1 })
    let s := if ctl x.desc 6 then s.chanEvent c 16 else s
    if ctl x.desc 10 then (s.modChan c (fun x => { x with state := .idle })).chanEvent c 1
    else s.chanFetch c (df x.desc 0x1C 4)

/-- RESUME of a halted channel: the failing burst again, the descriptor fetched again, or as SKIP (11 R319). -/
def State.chanResume (s : State) (c : Nat) : State :=
  let x := s.chan c
  if x.state ≠ .halted then s
  else if 0x20 ≤ x.cause then s.chanFetch c x.cur
  else if x.cause = 0x18 ∨ x.cause = 3 then s.chanSkip c
  else
    let s := (s.modChan c (fun x => { x with
      state := .running, vstage := 0, got := if onVault x.desc then [] else x.got })).vaultBegin c
    let lost := x.pipes.filter (fun n => !(s.hasItem (itemKey hubPrincipal n)))
    match lost.find? (fun n => !(s.holdsPipe 0 n && decide ((s.getPipes n).state = .opened))) with
    | some n => s.chanPipeEnd c n x.errInfo
    | none => lost.foldl (fun s n => s.holdPipe n n (.channel c) idleItem) s

/-- A running channel stops with a cause and sends no further command (11 R319). -/
def State.chanStopping (s : State) (c cause : Nat) : State :=
  if (s.chan c).state = .running then (s.chanDrop c).modChan c (fun x => { x with state := .stopping, stopCause := cause }) else s

/-- STOP (11 R319). -/
def State.chanStop (s : State) (c : Nat) : State :=
  let x := s.chan c
  if x.state = .halted then
    ((s.descStatus c true (decide (x.cause = 3)) x.cause).chanFree c).modChan c (fun x => { x with state := .idle })
  else s.chanStopping c 1

/-- The bursts and commands in flight of a stopping channel have ended (11 R319). -/
def State.chanStopped (s : State) (c : Nat) : State :=
  let x := s.chan c
  if x.state = .stopping then
    ((s.descStatus c false false x.stopCause).chanFree c).modChan c (fun x => { x with state := .idle, cause := x.stopCause })
  else s

/-- An event raised by board firmware on an operator channel; writes to an internal one are ignored (11 R306). -/
def State.opChan (s : State) (c : Nat) (f : State → Nat → State) : State := if c < 16 then s else f s c

/-- Package-safe-stop stops every running operator channel (11 R319). -/
def State.chansStop (s : State) : State :=
  ((List.range 16).map (· + 16)).foldl (fun s c => s.chanStopping c 2) s

/-- Whether a non-periodic buffer is held for a context (08 R240). -/
def State.hasNp (s : State) (n : Nat) : Bool :=
  let p := (s.getPipes n).port
  (s.getGals (galOf p)).npHeld.contains (p, n)

/-- A channel's pipe at a port at FS or LS takes a buffer of the gallery translator, or waits for one (08 R240; 11 R315). -/
def State.chanNp (s : State) (n : Nat) : State :=
  let x := s.getPipes n
  if x.np = false ∨ s.hasNp n = true then s
  else if s.npFree x.port then s.npTake x.port n
  else s.npWait x.port n

/-- Channels wait while the tree of their pipe is held for a restore, or for a buffer of its translator; their Vault commands begin when
they may (08 R240; 11 R309, R315). -/
def State.chanPass (s : State) : State :=
  s.mov.chans.foldl (fun s e =>
    if e.2.state ≠ .running then s
    else
      let s := e.2.pipes.foldl State.chanNp s
      let s := if e.2.pipes = [] then s else s.modChan e.1 (fun x => { x with waitPipe := e.2.pipes.any (fun n =>
        (s.getUsb (s.getPipes n).port).hold || ((s.getPipes n).np && !(s.hasNp n))) })
      s.vaultBegin e.1) s

/-! ### The mover engine (11 R309) -/

/-- Whether a channel has a burst to move between the places of the mover area; sides on the Vault and on pipes keep their own pace (11
R309). -/
def Chan.ready (x : Chan) : Bool :=
  x.moving && decide ((srcSide x.desc).1 = 0) && decide ((dstSide x.desc).1 = 0) && decide (x.got.length < sideTotal (srcSide x.desc))

/-- How far a channel stands after the one granted last. -/
def State.chanRank (s : State) (c : Nat) : Nat := (c + 31 - s.mov.turn) % 32

/-- The channel granted a burst: one passed over 1,024 times, else of the highest priority, in turn among equals (11 R309). -/
def State.grantee (s : State) : Option Nat :=
  let l := s.mov.chans.filter (fun e => e.2.ready)
  let key := fun (e : Nat × Chan) =>
    (if 1024 ≤ e.2.passed then 0 else 128) + (3 - min 3 e.2.prio) * 32 + s.chanRank e.1
  (l.foldl (fun (a : Option (Nat × Chan)) e => match a with
    | none => some e
    | some b => if key e < key b then some e else some b) none).map (·.1)

/-- A burst of up to 512 bytes of a channel: read from its source, and written where it goes on (11 R309, R316). -/
def State.burst (s : State) (c : Nat) : State :=
  let x := s.chan c
  let a := srcSide x.desc
  let got := x.got ++ slice (s.gather a []) x.got.length 512
  let s := s.modMov (fun m => { m with
    turn := c, chans := m.chans.map (fun e => if e.2.ready ∧ e.1 ≠ c then (e.1, { e.2 with passed := e.2.passed + 1 }) else e) })
  let s := s.modChan c (fun x => { x with got := got, passed := 0, unwritten := x.unwritten || s.gatherFresh a })
  let keep := if checkMode x.desc = 2 then min got.length (sideTotal (dstSide x.desc)) else got.length
  s.chanWrite c (got.take keep)

/-- The grants of a stretch of time, at most `n` (11 R309). -/
def State.grants (s : State) : Nat → State
  | 0 => s
  | n + 1 => match s.grantee with
    | some c => (s.burst c).grants n
    | none => s

/-! ### Units and scans -/

/-- The channel that waits for a unit and is served next: the highest priority, then the lowest number (11 R309, R322). -/
def State.unitNext (s : State) (u : Nat) : Option Nat :=
  let w := s.mov.chans.filter (fun e => e.2.waitUnit && decide (e.2.state = .running) && decide (checkUnit e.2.desc = u))
  (w.foldl (fun (a : Option (Nat × Nat)) e => match a with
    | none => some (e.1, e.2.prio)
    | some b => if b.2 < e.2.prio then some (e.1, e.2.prio) else a) none).map (·.1)

/-- Whether the scan waits for its unit. -/
def State.scanWaits (s : State) (u : Nat) : Bool :=
  s.mov.scanBusy && decide (s.mov.scanUnit = u) && !((s.unit u).busy && decide ((s.unit u).user = none))

/-- The blocks of a scan of the house allotment are read as a house Vault item reads them (11 R325; 10 R286). -/
def State.scanReads (s : State) : State :=
  let m := s.mov
  if m.scanKind then
    s.readCmds { Nvme.reset with chan := some 32 } (s.parts 0 (m.scanAddr.toNat / 4096) (m.scanLen.toNat / 4096))
  else s

/-- The scan takes its unit and begins (11 R322, R325). -/
def State.scanTake (s : State) (u : Nat) : State :=
  State.scanReads <| ((s.unitUsed u).setUnit u { s.unit u with busy := true, user := none }).modMov (fun m => { m with scanCfg := (s.unit u).cfg })

/-- A unit is free: a scan or channel that waits for it goes on (11 R322). -/
def State.unitFree (s : State) (u : Nat) : State :=
  if (s.unit u).busy then s
  else if s.scanWaits u then s.scanTake u
  else match s.unitNext u with
    | some c => s.takeUnit c
    | none => s

/-- GO of the scan engine with the control word written; it uses the scan's settings (11 R325; 02 R75). -/
def State.scanGo (s : State) (w : Nat) : State :=
  let s := if s.mov.scanBusy then s else s.modMov (fun m => { m with
    scanKind := bitOf w 1, scanUnit := bitsOf w 2 4, scanCompare := bitOf w 6 })
  if bitOf w 0 = false ∨ s.mov.scanBusy = true then s
  else
    let s := s.parityUses ((List.range 6).map (fun k => 0x321008 + 4 * k))
    let m := s.mov
    let u := (s.unit m.scanUnit).cfg
    let a := m.scanAddr.toNat
    let n := m.scanLen.toNat
    let bad := decide (m.scanUnit < 8) || !u.ok || (decide (u.locator = 1) && !m.scanKind) ||
      (m.scanKind && (decide (a % 4096 ≠ 0) || decide (n % 4096 ≠ 0) || !(s.inAllot 0 (a / 4096) (n / 4096))))
    if bad then s.modMov (fun m => { m with scanProg := true })
    else
      let s := s.modMov (fun m => { m with scanBusy := true, scanMatch := false, scanUnw := 0 })
      if (s.unit m.scanUnit).busy then s else s.scanTake m.scanUnit

/-- A scan finishes (11 R325). -/
def State.scanDone (s : State) : State :=
  let m := s.mov
  if m.scanBusy = false ∨ s.scanWaits m.scanUnit = true ∨ s.chanCmds 32 = true then s
  else
    let a := m.scanAddr.toNat
    let n := m.scanLen.toNat
    let d := if m.scanKind then s.rangeBytes 0 (a / 4096) (n / 4096) else s.areaRead a n
    let v := m.scanCfg.value (a / 4096) d
    let same := decide (v = m.scanExpect)
    let s := s.setUnit m.scanUnit { s.unit m.scanUnit with busy := false }
    s.modMov (fun m => { m with
      scanBusy := false, scanDone := true, scanResult := v, scanMatch := m.scanCompare && same
      scanUnw := if m.scanKind then satAdd 0 (s.houseFresh (a / 4096) (n / 4096)) else 0
      mismatches := if m.scanCompare && !same then satAdd m.mismatches 1 else m.mismatches })

end Sys2Proof.Machine
end

