-- ==== Sys2Proof/Machine/Reactions.lean ====
section
/-!
DEFINITION. Reactions to faults: their scopes, the immediate reactions and escalations of each source, acknowledgement, the
thermal sources and the Curator watchdog (16 R406 to R423).
-/
namespace Sys2Proof.Machine

/-! ### The reactions -/

/-- contain-gallery (16 R407). -/
def State.containGallery (s : State) (src inst g : Nat) : State :=
  (portsOfGal g).foldl (fun s p => s.containPort src inst p) s

/-- suspend-loan: an Active loan goes *Paused*; a Paused one is paused by this fault too (16 R407, R412; 03 R90, R91). -/
def State.suspendLoan (s : State) (src inst t : Nat) : State :=
  let add := fun (s : State) => s.modTenants t (fun x => { x with
    pausedBy := if x.pausedBy.contains (src, inst) then x.pausedBy else x.pausedBy ++ [(src, inst)] })
  match (s.getTenants t).loan with
  | .active => (add s).loanTo t .paused
  | .paused => add s
  | _ => s

/-- package-safe-stop: commands not yet sent to a drive are dropped, open items end `INTERNAL_FAULT`, those in progress at their boundary,
and operator channels stop (16 R409). -/
def State.safeStopNow (s : State) (src inst : Nat) : State :=
  let s := s.modFlt (fun f => { f with
    safeStop := true, stopBy := if f.stopBy.contains (src, inst) then f.stopBy else f.stopBy ++ [(src, inst)] })
  s.dropWaiting.chansStop.causeItems 0x0F 0 (s.itemsWhere (fun _ i => decide (i.principal ≠ hubPrincipal)))

/-- The galleries of a lost link: of a wing, or of a sentry die (16 R413 0x02, 0x03). -/
def linkGals (src inst : Nat) : List Nat :=
  if src = 0x02 then galsOfWing inst else (List.range 6).map (fun i => (inst - 1) * 6 + i + 1)

/-- Whether a port has a SuperSpeed link (01 R34). -/
def State.superLink (s : State) (p : Nat) : Bool :=
  let u := s.getUsb p
  (decide (u.state = .resetting) || decide (u.state = .enabled) || decide (u.state = .suspended)) && isSuper (speedCode u.speed)

/-- The immediate reactions that are reactions of R407; what else a source does at once stands where it is raised (16 R413). -/
def State.immediate (s : State) (src inst : Nat) : State :=
  if src = 0x02 ∨ src = 0x03 then (linkGals src inst).foldl (fun s g => s.containGallery src inst g) s
  else if src = 0x09 then
    ((portsOfGal inst).filter (fun p => !(s.superLink p))).foldl (fun s p => s.containPort src inst p) s
  else if src = 0x0C ∨ src = 0x3E then s.safeStopNow src inst
  else s

/-- The escalation of a source (16 R413, R417). -/
def State.escalate (s : State) (src inst cls : Nat) : State :=
  if cls = 3 then s.safeStopNow src inst
  else if src = 0x02 ∨ src = 0x03 ∨ src = 0x12 ∨ src = 0x3D ∨ src = 0x3F then s.safeStopNow src inst
  else if src = 0x31 then s.containPort src inst inst
  else if src = 0x33 then s.containGallery src inst inst
  else if src = 0x23 then
    (s.flt.uncLoans.filter (fun e => decide (e.1 = inst))).foldl (fun s e => s.suspendLoan src inst e.2) s
  else s

/-- A fault raised, with its immediate reaction; before normal service the reaction waits for the entry to it (16 R413, R416). -/
def State.raise (s : State) (src inst : Nat) : State :=
  let s := s.fault src inst
  if s.inService then s.immediate src inst else s

/-- The escalations owed for want of a slot are applied and delivered (16 R417). -/
def State.escOwed (s : State) : State :=
  let l := s.flt.escDue
  l.foldl (fun s r => (s.escalate r.source r.inst r.cls).deliverEsc r) (s.modFlt (fun f => { f with escDue := [] }))

/-! ### Slots -/

/-- The record of a slot: the occurrence that took it, with its time (16 R417, R420). -/
def Slot.rec_ (x : Slot) : FltRec :=
  { source := x.source, inst := x.inst, cls := x.cls, die := x.die, injected := x.injected, time := x.armedAt }

/-- The reaction time of a slot expires (16 R417). -/
def State.reactionEnd (s : State) (n : Nat) : State :=
  let x := s.slot n
  if x.state = .armed then
    ((s.setSlot n { x with state := .escalated }).escalate x.source x.inst x.cls).deliverEsc x.rec_
  else s

/-- A fault acknowledged: its slot is freed, and the last one freed sends the error reset (16 R418, R422). -/
def State.ack (s : State) (src inst : Nat) : State :=
  match (List.range 32).find? (fun n => (s.slot n).isHeld && decide ((s.slot n).source = src) && decide ((s.slot n).inst = inst)) with
  | some n =>
    let s := s.setSlot n Slot.reset
    let s := s.modFlt (fun f => { f with uncLoans := if src = 0x23 then f.uncLoans.filter (fun e => decide (e.1 ≠ inst)) else f.uncLoans })
    if s.flt.heldSlots = [] then s.emcy (zeros 8) else s
  | none => s

/-- A write of 1 to `0x2502:02` (16 R410). -/
def State.stopRelease (s : State) : State × Nat :=
  if s.flt.stopBy.any (fun c => s.flt.holds c.1 c.2 || s.flt.causes.contains c) then (s, 0x08000022)
  else if s.flt.safeStop then
    (allPorts.foldl State.serve (s.modFlt (fun f => { f with safeStop := false, stopBy := [] })), 0)
  else (s, 0)

/-! ### Junction temperatures -/

/-- The threshold of a thermal source, in units of 0.125 °C (16 R414). -/
def State.thermalAt (s : State) (src : Nat) : Int :=
  let top : Int := if s.boot.grade then 840 else 760
  if src = 0x3C then top - 40 else if src = 0x3D then top else top + 80

/-- One thermal source follows a reading: raised above its threshold, re-armed 3 °C below it (16 R414). -/
def State.thermalOne (s : State) (grp : Nat) (temp : Int) (src : Nat) : State :=
  let thr := s.thermalAt src
  if s.flt.thermal.contains (src, grp) then
    if temp ≤ thr - 24 then
      (s.modFlt (fun f => { f with thermal := f.thermal.filter (fun x => x ≠ (src, grp)) })).causeOff src grp
    else s
  else if thr < temp then
    ((s.modFlt (fun f => { f with thermal := f.thermal ++ [(src, grp)] })).causeOn src grp).raise src grp
  else s

/-- A list with place `n` set. -/
def setAt (n : Nat) (v : Int) (l : List Int) : List Int := (l.zipIdx).map (fun e => if e.2 = n then v else e.1)

/-- A junction temperature reading: group 0 the core die, 1 to 4 the wings (16 R414). -/
def State.reading_ (s : State) (grp : Nat) (temp : Int) : State :=
  let s := s.modFlt (fun f => if grp = 0 then { f with coreTemp := temp } else { f with wingTemp := setAt (grp - 1) temp f.wingTemp })
  [0x3C, 0x3D, 0x3E].foldl (fun s src => s.thermalOne grp temp src) s

/-! ### The Curator watchdog -/

/-- Every gallery is frozen while the Curator restarts (16 R413 0x3F; 13 R360). -/
def State.curatorLost (s : State) : State :=
  let s := allGals.foldl (fun s g => s.modGals g (fun x => { x with frozenCur := true })) s
  ((s.modFlt (fun f => { f with curRestart := true })).causeOn 0x3F 0).raise 0x3F 0

/-- The restarted Curator has not run within 5 ms: it is restarted again, and the cause and the freeze persist (16 R413). -/
def State.curatorAgain (s : State) : State :=
  if s.flt.curRestart then allGals.foldl (fun s g => s.modGals g (fun x => { x with frozenCur := true })) s else s

/-- The restarted Curator runs (16 R413 0x3F). -/
def State.curatorRuns (s : State) : State :=
  if s.flt.curRestart then
    let s := (s.modFlt (fun f => { f with curRestart := false })).causeOff 0x3F 0
    allGals.foldl (fun s g => (s.modGals g (fun x => { x with frozenCur := false })).thaw g) s
  else s

/-! ### EMCY and ERR_OUT_N -/

/-- The EMCY inhibit time ends: the first held EMCY is sent (16 R420). -/
def State.emcyDue (s : State) : State :=
  let s := s.modCan (fun c => { c with emcyInhibit := false })
  match s.can.emcyQueue with
  | f :: t =>
    let s := s.modCan (fun c => { c with emcyQueue := t })
    if s.can.nmt = .stopped then s else s.emcyOut f
  | [] => s

end Sys2Proof.Machine
end

