-- ==== Sys2Proof/Machine/Clocks.lean ====
section
/-!
DEFINITION. Die-to-die links (01 R21 to R25), the PLLs that start and stop on demand (01 R29 to R32), the slow clock's crystal
(01 R37) and CLK_STAT and CLK_EVT (01 R38, R39).
-/
namespace Sys2Proof.Machine

/-! ### Die-to-die links -/

/-- Die-to-die link `n` changed by `f`. -/
def State.modDie (s : State) (n : Nat) (f : DieLink → DieLink) : State := s.setDieLink n (f (s.dieLink n))

/-- A unit received in error: repeated up to 4 times, then the link retrains (01 R21, R22). -/
def DieLink.unitError (l : DieLink) : DieLink :=
  if l.retraining ∨ l.lost = true then l
  else if l.repeats < 4 then { l with repeats := l.repeats + 1 }
  else { l with repeats := 0, retraining := true }

/-- The unit in hand has crossed: a repeat that succeeded is counted (01 R21). -/
def DieLink.unitOk (l : DieLink) : DieLink := if l.repeats = 0 then l else { l with repeats := 0, repeated := l.repeated + 1 }

/-- Whether a die is powered and clocked: the core PLL runs, and a port die has not failed and is no longer switched off in a waking
(01 R21; 15 R388, R400; log entry 93). -/
def State.dieUp (s : State) (d : Nat) : Bool :=
  let dom := if d = 1 then Domain.portA else Domain.portB
  s.locked .core && (decide (d = 0 ∨ 3 ≤ d) || (!(s.dps.domainsFailed.contains dom) &&
    (decide (s.dps.state ≠ .waking) || decide (s.dps.fromState = .shelf) || s.dps.domainsUp.contains dom)))

/-- The dies a die-to-die link joins (01, Die-to-die links). -/
def linkDies (n : Nat) : Nat × Nat :=
  if n ≤ 4 then (wingDie n, 0) else if n = 5 then (3, 1) else if n = 6 then (4, 2) else (3, 0)

/-- Whether a link sends units: both its dies are powered and clocked, and it is neither lost nor retraining (01 R21, R22). -/
def State.linkLive (s : State) (n : Nat) : Bool :=
  let l := s.dieLink n
  s.dieUp (linkDies n).1 && s.dieUp (linkDies n).2 && !l.lost && !l.retraining

/-- An armed injection fires on a link: the next COUNT units fail their check (16 R425, R426). -/
def State.injectLink (s : State) (n : Nat) : State :=
  if s.flt.injArmed ∧ s.flt.injTarget = 4 ∧ s.flt.injAddr.toNat = n then
    let l := (List.range s.flt.injCount).foldl (fun l _ => DieLink.unitError l) (s.dieLink n)
    let s := s.modFlt (fun f => { f with injArmed := false, injFired := true })
    s.setDieLink n { l with injected := l.retraining }
  else s

/-- A unit error on a link that sends units (01 R21, R22; 16 R426). -/
def State.linkError (s : State) (n : Nat) : State :=
  if s.linkLive n then (s.modDie n DieLink.unitError).injectLink n else s

/-- The galleries whose ports a sentry link serves. -/
def sentryGals (n : Nat) : List Nat := (List.range 6).map (fun i => (n - 5) * 6 + i + 1)

/-- The source and instance of a link's loss (16 R413). -/
def linkLoss (n : Nat) : Nat × Nat := if n ≤ 4 then (0x02, n) else if n ≤ 6 then (0x03, n - 4) else (0x04, 0)

/-- A gallery's sentry die is out of reach: contracts are frozen, and each port keeps its settings (01 R24; 15 R401). -/
def State.freezeLink (s : State) (g : Nat) : State :=
  (portsOfGal g).foldl State.keepSettings (s.modGals g (fun x => { x with frozenLink := true }))

/-- A gallery's sentry die is reached again (01 R24; 13 R360). -/
def State.thawLink (s : State) (g : Nat) : State :=
  (portsOfGal g).foldl State.takeSettings ((s.modGals g (fun x => { x with frozenLink := false })).thaw g)

/-- A link is lost: two retrains in succession failed (01 R23 to R25). -/
def State.linkLost (s : State) (n : Nat) : State :=
  let c := linkLoss n
  let s := s.modDie n (fun l => { l with lost := true, retraining := false })
  let s := if n = 5 ∨ n = 6 then (sentryGals n).foldl State.freezeLink s else s
  (s.causeOn c.1 c.2).raise c.1 c.2

/-- A lost link is restored (01 R24). -/
def State.linkBack (s : State) (n : Nat) : State :=
  let c := linkLoss n
  let s := (s.modDie n (fun l => { l with lost := false })).causeOff c.1 c.2
  if n = 5 ∨ n = 6 then (sentryGals n).foldl State.thawLink s else s

/-- A retrain of a link ends (01 R22 to R25). -/
def State.retrained (s : State) (n : Nat) (ok : Bool) : State :=
  let l := s.dieLink n
  if l.retraining = false ∧ l.lost = false then s
  else if ok then
    let s := if l.lost then s.linkBack n else s
    let s := s.modDie n (fun l => { l with retraining := false, fails := 0, injected := false })
    s.faultRec { (s.recOf 0x01 n) with injected := l.injected }
  else if l.lost then s
  else if l.fails + 1 < 2 then s.modDie n (fun l => { l with fails := l.fails + 1 })
  else (s.modDie n (fun l => { l with fails := 0 })).linkLost n

/-! ### PLLs on demand -/

/-- Whether a port uses its signalling now: connecting, resetting, enabled, or resuming (01 R30). -/
def PortUsb.active (u : PortUsb) : Bool :=
  decide (u.state = .attaching) || decide (u.state = .resetting) || decide (u.state = .enabled) ||
    (decide (u.state = .suspended) && u.resuming)

/-- Whether a port needs USB 2.0 signalling (01 R30). -/
def PortUsb.needs2 (u : PortUsb) : Bool :=
  u.active && (decide (u.resetKind = .usb2) || decide (u.connKind = .dPlus) || decide (u.connKind = .dMinus) ||
    (decide (1 ≤ speedCode u.speed) && decide (speedCode u.speed ≤ 3)))

/-- Whether a port trains its SuperSpeed link: by Polling, a hot or a warm reset (01 R30; 06 R168, R172). -/
def PortUsb.trains (u : PortUsb) : Bool :=
  decide (u.resetKind = .polling) || decide (u.resetKind = .hot) || decide (u.resetKind = .warm)

/-- Whether a port needs the Gen 1 rate: its link runs at it, or trains, since the partner may have no other (01 R30; log entry
94). -/
def PortUsb.needsGen1 (u : PortUsb) : Bool :=
  u.trains || (u.active && (decide (u.speed = .gen1x1) || decide (u.speed = .gen1x2)))

/-- Whether a port needs the Gen 2 rate: its link runs at it, or trains where `top` allows a Gen 2 mode (01 R30; 06 R169; log entry
94). -/
def PortUsb.needsGen2 (u : PortUsb) (top : Nat) : Bool :=
  (u.trains && decide (5 ≤ top)) || (u.active && (decide (u.speed = .gen2x1) || decide (u.speed = .gen2x2)))

/-- Whether a port needs a PLL (01 R30). -/
def PortUsb.needs (u : PortUsb) (p top : Nat) : PllId → Bool
  | .gallery g => decide (galOf p = g) && u.needs2
  | .gen1 w => decide (wingOf p = w) && u.needsGen1
  | .gen2 w => decide (wingOf p = w) && u.needsGen2 top
  | _ => false

/-- Whether some port needs a PLL (01 R30). -/
def State.portsNeed (s : State) (q : PllId) : Bool := s.usb.any (fun e => e.2.needs e.1 (s.topMode e.1) q)

/-- Whether a PLL is needed: by a port, by a gallery that borrows it, by Gen 1 lanes it substitutes, by the Vault (01 R30, R33,
R35). -/
def State.pllNeeded (s : State) (q : PllId) : Bool :=
  match q with
  | .core | .upstream => true
  | .pcie => decide (s.cfg 0x2300 2 = 1)
  | .gallery g => s.portsNeed q || s.clk.lender.any (fun e => decide (e.2 = g) && s.portsNeed (.gallery e.1))
  | .gen1 _ => s.portsNeed q
  | .gen2 w => s.portsNeed q || (bitOf s.clk.subst.toNat (w - 1) && s.portsNeed (.gen1 w))

/-- A PLL starts (01 R30, R32). -/
def State.pllStart (s : State) (q : PllId) : State := s.setPll q ⟨.starting, 0, false⟩

/-- The core PLL at a state, from REFCLK_PCIE where `alt` holds (01 R32, R36, R38 CORE_ALT). -/
def State.setCorePll (s : State) (st : PllState) (alt : Bool) : State :=
  (s.setPll .core ⟨st, 0, alt⟩).modClk (fun c => { c with coreAlt := alt })

/-- A PLL stops. -/
def State.pllStop (s : State) (q : PllId) : State := s.setPll q ⟨.stopped, 0, false⟩

/-- The PLLs that start on demand, in the order of R31. -/
def demandPlls : List PllId :=
  allGals.map .gallery ++ [1, 2, 3, 4].flatMap (fun w => [.gen1 w, .gen2 w]) ++ [.pcie]

/-- The PLLs of the USB ports (01 R29). -/
def usbPlls : List PllId := allGals.map .gallery ++ [1, 2, 3, 4].flatMap (fun w => [.gen1 w, .gen2 w])

/-- Every PLL that is needed and stopped starts, in *Run* (01 R30, R31; 15 R388); the USB PLLs need REFCLK_ETH (R36). -/
def State.pllPass (s : State) : State :=
  if s.dps.state = .run then
    (demandPlls.filter (fun q => decide ((s.pll q).state = .stopped) && (s.clk.refEth || decide (q = .pcie)) && s.pllNeeded q)).foldl
      State.pllStart s
  else s

/-- The stop delay of a gallery or SerDes PLL ends (01 R30). -/
def State.pllIdle (s : State) (q : PllId) : State :=
  if usbPlls.contains q && ((s.pll q).state = .starting || (s.pll q).state = .locked) && !(s.pllNeeded q) then s.pllStop q else s

/-! ### CLK_EVT -/

/-- The CLK_EVT bit of a PLL; 32 where it has none (01 R38). -/
def evtBit : PllId → Nat
  | .core => 32
  | .upstream => 24
  | .pcie => 25
  | .gallery g => g - 1
  | .gen1 w => 15 + w
  | .gen2 w => 19 + w

/-- A CLK_EVT bit is set while its cause persists (01 R39). -/
def State.clkLost (s : State) (b : Nat) : State :=
  s.modClk (fun c => { c with evt := c.evt ||| BitVec.ofNat 32 (2 ^ b), evtCause := c.evtCause ||| BitVec.ofNat 32 (2 ^ b) })

/-- The cause of a CLK_EVT bit has ended (01 R39). -/
def State.clkBack (s : State) (b : Nat) : State := s.modClk (fun c => { c with evtCause := c.evtCause &&& ~~~(BitVec.ofNat 32 (2 ^ b)) })

/-- Whether the cause of a CLK_EVT bit persists. -/
def State.clkOut (s : State) (b : Nat) : Bool := bitOf s.clk.evtCause.toNat b

/-- Ones written to CLK_EVT clear the bits whose causes have ended (01 R39). -/
def State.clkClear (s : State) (v : Word) : State := s.modClk (fun c => { c with evt := c.evt &&& ~~~(v &&& ~~~c.evtCause) })

/-- CLK_BORROW: a gallery's bit while the PLL lent to it runs, a wing's while its Gen 2 PLL does (01 R33, R35, R38). -/
def State.clkBorrow (s : State) : Nat :=
  let g := allGals.foldl (fun a g =>
    a + b2n (bitOf s.clk.borrowed.toNat (g - 1) && s.locked (.gallery (SMap.get 0 s.clk.lender g))) * 2 ^ (g - 1)) 0
  g + [1, 2, 3, 4].foldl (fun a w => a + b2n (bitOf s.clk.subst.toNat (w - 1) && s.locked (.gen2 w)) * 2 ^ (w - 1)) 0 * 65536

/-- CLK_STAT; XO32_OK and RC32_ACTIVE are mirrors (01 R38; 00 R9). -/
def State.clkStat (s : State) : Nat :=
  let bits := fun (l : List Nat) (q : Nat → PllId) => l.foldl (fun a g => a + b2n (s.locked (q g)) * 2 ^ (g - 1)) 0
  bits allGals .gallery + bits [1, 2, 3, 4] .gen1 * 65536 + bits [1, 2, 3, 4] .gen2 * 1048576 + b2n (s.locked .upstream) * 16777216
    + b2n (s.locked .pcie) * 33554432 + b2n s.clk.coreAlt * 67108864 + b2n s.regs.mXo * 134217728 + b2n s.regs.mRc * 268435456

/-! ### The crystal -/

/-- The crystal fails: the slow clock moves to the RC oscillator (01 R37; 18 R466 for a board without one). -/
def State.crystalLost (s : State) : State :=
  if s.boot.strapNoxo ∨ s.clk.xo32Ok = false then s
  else (((s.modClk (fun c => { c with xo32Ok := false, rc32 := true })).clkLost 27).causeOn 0x0E 0).note 0x0E 0

/-- The crystal runs: the slow clock moves to it (01 R38, R39). -/
def State.crystalOn (s : State) : State :=
  if s.boot.strapNoxo then s
  else ((s.modClk (fun c => { c with xo32Ok := true, rc32 := false })).clkBack 27).causeOff 0x0E 0

end Sys2Proof.Machine
end

