-- ==== Sys2Proof/Machine/Guards.lean ====
section
/-!
DEFINITION. The guards of the lower device power states (15 R392).
-/
namespace Sys2Proof.Machine

/-- Whether a Vault item, fan-out job, capture, scan or operator mover channel is running (15 R392). -/
def State.storeBusy (s : State) : Bool :=
  s.items.any (fun e => decide (0x60 ≤ e.2.op) && decide (e.2.op ≤ 0x6F)) || s.vault.jobs.any (fun e => e.2.active) ||
    !s.vault.captures.isEmpty || s.mov.scanBusy ||
    s.mov.chans.any (fun e => decide (e.2.state = .running) || decide (e.2.state = .stopping))

/-- Whether a Catalogue transfer is held (02 R48; 15 R392). -/
def State.xferHeld (s : State) : Bool := !s.cat.held.isEmpty || s.can.sdo.isSome

/-- The guards of an entry that fail: bit n is guard n of the table Entry guards (15 R392). -/
def State.guards (s : State) (target : PwrState) (house : Bool) : Nat :=
  let busy := s.usb.any (fun e => decide (e.2.state = .attaching) || decide (e.2.state = .resetting) || decide (e.2.state = .enabled))
  let low := decide (target = .dormant) || decide (target = .shelf)
  b2n (decide (target ≠ .shelf) && busy) + b2n s.storeBusy * 2 + b2n s.xferHeld * 4
    + b2n (low && s.sess.any (fun e => decide (e.2.state ≠ .closed))) * 8
    + b2n (low && s.tenants.any (fun e => decide (e.1 ≠ 0) && decide (e.2.loan ≠ .idle))) * 16 + b2n (low && house) * 32

/-- The BLOCKED bits follow the guards of a held request; a change sets BLOCKED_CHG (15 R392, R405). -/
def State.guardPass (s : State) : State :=
  let b := match s.dps.request with
    | some v => BitVec.ofNat 6 (s.guards v s.dps.requestHouse)
    | none => 0
  if b = s.dps.blocked then s
  else
    let s' := s.modDps (fun d => { d with blocked := b })
    if s.dps.request.isSome then s'.dpsEvent 8 else s'

end Sys2Proof.Machine
end

