-- ==== Sys2Proof/Machine/Settle.lean ====
section
/-!
DEFINITION. The ends of NVMe commands, drives that fail, and the pass that brings jobs, captures, channels, waiting items and
recalled ports to where a command has left them (10 R274, R284, R296, R302; 05 R151, R210; 03 R85; 16 R417).
-/
namespace Sys2Proof.Machine

/-! ### The end of an NVMe command -/

/-- What an ended command was for: a Vault item or capture, an operator channel, or a job; `det` of an error (10 R274; 11 R320). -/
def State.cmdEnded (s : State) (c : Nvme) (det : Option Nat) : State :=
  let s := match c.item, det with
    | some k, some d => s.vaultFail k d
    | some k, none => s.vaultBoundary k
    | none, _ => s
  let s := match c.chan with
    | some n => s.chanCmdEnd n c det
    | none => s
  match c.job with
  | some (n, tag) => s.jobReadEnd n tag c.chunk det
  | none => s

/-- An NVMe command taken from those in hand. -/
def State.dropCmd (s : State) (id : Nat) : State :=
  (s.modVault (fun v => { v with cmds := SMap.put Nvme.reset v.cmds id Nvme.reset })).enableDone

/-- An NVMe command that has been sent and not yet ended. -/
def State.cmd? (s : State) (id : Nat) : Option Nvme :=
  (s.vault.cmds.find? (fun e => decide (e.1 = id) && e.2.issued)).map (·.2)

/-- What a command that succeeded does: data stored, map bits made durable, Deallocate after a clearing (10 R278, R280). -/
def State.cmdDone (s : State) (c : Nvme) : State :=
  if c.op = 1 then (s.stored c).cmdEnded c none
  else if c.op = 5 then (s.nvme { c with op := 3 } false).cmdEnded c none
  else s.cmdEnded c none

/-- An NVMe command completes: on an error its drive's Error Information log is read and it is repeated once, the second ends what it serves (10 R274). -/
def State.nvmeDone (s : State) (id : Nat) (ok : Bool) : State :=
  match s.cmd? id with
  | none => s
  | some c =>
    let s := s.setDrive c.drive { s.drive c.drive with timeouts := 0 }
    if ok then (s.dropCmd id).cmdDone c
    else
      let s := (s.modVault (fun v => { v with errors := satAdd v.errors 1 })).emit (.nvmeAdmin c.drive 0x02 1)
      if c.retried ∨ s.flt.safeStop = true then (s.dropCmd id).cmdEnded c (some (if c.op = 0 then 0x50 else 0x51))
      else
        (s.modVault (fun v => { v with cmds := SMap.put Nvme.reset v.cmds id { c with retried := true } })).emit
          (.nvme c.drive c.op c.lba c.blocks c.fua)

/-! ### A failed drive -/

/-- Whether an item touches a drive (10 R274). -/
def State.touches (s : State) (i : Item) (n : Nat) : Bool :=
  if i.op = 0x60 ∨ i.op = 0x61 ∨ i.op = 0x63 then (s.parts i.principal i.vault i.blocks).any (fun x => decide (s.driveOf x.1 = n))
  else if i.op = 0x62 then (s.drivesOf i.principal).contains n
  else if i.op = 0x68 then
    s.vault.captures.any (fun c => decide (c.principal = i.principal) && decide (c.acc = i.acc) &&
      (s.parts c.principal c.tlba c.blocks).any (fun x => decide (s.driveOf x.1 = n)))
  else false

/-- A failed drive ends an item: once what it has in hand is over, or at once (10 R274, R305). -/
def State.driveItem (s : State) (k : Nat) : State :=
  match s.item? k with
  | none => s
  | some i =>
    if s.inProgress k i then (s.causeItem 0x0E 0x52 k).vaultBoundary k
    else (if i.cause = none then s.vaultEvent 0x100 else s).finish k 0x0E 0x52

/-- A drive is failed: a Serious fault, DRIVE_LOST, and `STORE_ERROR` 0x52 for every item that touches it (10 R274). -/
def State.driveFail (s : State) (n : Nat) : State :=
  if (s.drive n).failed ∨ (s.drive n).up = false then s
  else
    let hit := s.itemsWhere (fun _ i => s.touches i n)
    let s := s.setDrive n { up := false, failed := true, timeouts := 0 }
    let s := s.modVault (fun v => { v with ns := SMap.mapv Nspace.reset (fun e => if e.drive = n ∧ e.code = 1 then { e with code := 3 } else e) v.ns })
    let s := ((s.causeOn 0x28 n).raise 0x28 n).vaultEvent (BitVec.ofNat 12 (2 ^ (n - 1)))
    let gone := s.vault.cmds.filter (fun e => decide (e.2.drive = n))
    let s := gone.foldl (fun s e => s.dropCmd e.1) s
    let s := gone.foldl (fun s e => s.cmdEnded e.2 (some 0x52)) s
    hit.foldl State.driveItem s

/-- An NVMe command exceeds tNVMTO and is aborted; the second in succession fails its drive (10 R271, R274). -/
def State.nvmeLate (s : State) (id : Nat) : State :=
  match s.cmd? id with
  | none => s
  | some c =>
    let d := s.drive c.drive
    let s := s.modVault (fun v => { v with errors := satAdd v.errors 1 })
    let s := ((s.setDrive c.drive { d with timeouts := d.timeouts + 1 }).dropCmd id).emit (.nvmeAdmin c.drive 0x08 id)
    let s := s.cmdEnded c (some 0x53)
    if 2 ≤ d.timeouts + 1 then s.driveFail c.drive else s

/-! ### Held items -/

/-- What a held item asks for is done (03 R91; 15 R389, R398). -/
def State.runItem (s : State) (k : Nat) (i : Item) : State :=
  let p := i.port
  if i.op = 0x10 then
    let a := i.f 1 1
    if a = 1 then s.vbusOn k p else if a = 2 then s.vbusOff k p
    else if a = 3 then s.askReset p (some k) else if a = 4 then s.askSuspend k p
    else if a = 5 then s.askResume k p else s.askDisable k p
  else if i.op = 0x30 then ((s.doTransfer k i).itemWake (s.getPipes (i.f 0 4 % 1048576)).port).serve (s.getPipes (i.f 0 4 % 1048576)).port
  else if i.op = 0x60 then s.doVaultRead k i
  else if i.op = 0x61 then s.doVaultWrite k i
  else if i.op = 0x62 then s.doVaultFlush k
  else if i.op = 0x63 then s.doVaultDealloc k i
  else if i.op = 0x65 then s.doFanout k i
  else if i.op = 0x68 then s.doCapture k i
  else s

/-- An item held outside *Run* is issued, unless its loan is *Paused* (03 R91; 15 R389, R398). -/
def State.heldRun (s : State) (k : Nat) : State :=
  match s.item? k with
  | some i => if i.op = 0x30 then s.runItem k i else s.unlessPaused k (State.runItem · k i)
  | none => s

/-- The items held for a loan that is no longer *Paused* are issued in order (03 R90, R91). -/
def State.resumedPass (s : State) : State :=
  (s.tenants.filter (fun e => decide (e.2.heldItems ≠ []) && decide (e.2.loan ≠ .paused))).foldl (fun s e =>
    e.2.heldItems.foldl State.heldRun (s.modTenants e.1 (fun x => { x with heldItems := [] }))) s

/-! ### The pass after a command -/

/-- The ended items of the hub reach what held their pipes (10 R295, R302; 11 R315). -/
def State.hubEnds (s : State) : State :=
  let l := s.vault.ended
  l.foldl (fun s e =>
    let x := s.getPipes e.1
    let n := if x.streamCtx then x.link else e.1
    match (s.getPipes n).heldBy with
    | .job _ => s.jobPipeEnd n e.2.1.1 e.2.1.2
    | .capture k => s.captEnded k e.2.1.1 e.2.1.2 e.2.2.2
    | .channel c => s.chanPipeEnd c n e.2.1.1
    | .none => s) (s.modVault (fun v => { v with ended := [] }))

/-- One round of the pass. -/
def State.settleOnce (s : State) : State := s.hubEnds.jobPass.captPass.vaultPass.templatePass.chanPass.settleWaits

/-- What follows from a command for jobs, captures, channels and waiting items; then owed escalations, recalled ports and PLLs that
are needed. -/
def State.settle (s : State) : State := (times State.settleOnce 3 s.resumedPass).escOwed.freeRecalled.pllPass.guardPass

/-- A transaction ended on a pipe: of a transfer in hand, or of the exchange of a job or channel that holds the pipe (07 R217; 10
R289; 11 R315). -/
def State.xactTake (s : State) (n : Nat) (r : XactRes) : State :=
  let x := s.getPipes n
  if x.inXact then s.xactDone n r
  else match x.heldBy with
    | .job _ => s.jobXact n r
    | .channel c => s.chanXact c n r
    | _ => s

/-- A transaction ended on a pipe; while the wing link of its port retrains, what it brings waits on the port die (01 R22; log entry
93). -/
def State.xactEnd (s : State) (n : Nat) (r : XactRes) : State :=
  let w := wingOf (s.getPipes n).port
  if (s.dieLink w).retraining then s.setDieLink w { s.dieLink w with held := (s.dieLink w).held ++ [(n, r)] }
  else s.xactTake n r

/-- What waited for a link crosses it once it retrains no more, and its ports are served again (01 R22). -/
def State.linkFlow (s : State) (n : Nat) : State :=
  let l := s.dieLink n
  if l.retraining ∨ 4 < n then s
  else
    let s := (s.setDieLink n { l with held := [] })
    let s := l.held.foldl (fun s e => s.xactTake e.1 e.2) s
    (allPorts.filter (fun p => decide (wingOf p = n))).foldl State.serve s

end Sys2Proof.Machine
end

