-- ==== Sys2Proof/Machine/Upstream.lean ====
section
/-!
DEFINITION. The upstream links, frames and their timers (04).
-/
namespace Sys2Proof.Machine

/-- Training done: Probation; auto-negotiation with a partner that offers no common ability leaves the link in Training (04 R112,
R114). -/
def State.trainingDone (s : State) (m : Nat) (common : Bool) : State :=
  if (s.link m).state = .training ∧ (s.negotiates = true → common = true) then
    s.setLink m { s.link m with state := .probation }
  else s

/-- Training fails: counted, and restarted (04 R114, R137). -/
def State.trainingFail (s : State) (m : Nat) : State :=
  if (s.link m).state = .training then (s.modUpl (fun u => { u with trainFails := satAdd u.trainFails 1 })).train m else s

/-- The probation of a link ends without a fault: Member (04 R114). -/
def State.probationEnd (s : State) (m : Nat) : State :=
  if (s.link m).state = .probation then s.joinSpray m else s

/-- A link fault (04 R113, R114). -/
def State.linkFault (s : State) (m : Nat) : State :=
  match (s.link m).state with
  | .probation => s.train m
  | .member =>
    let s := s.train m
    let s := s.upEvent (BitVec.ofNat 19 (2 ^ (m - 1)))
    (s.fault 0x18 m).leaveSpray m
  | _ => s

/-- tALLDN expires with no link in Member: every held session is lost (04 R117, 05 R145). -/
def State.allDownEnd (s : State) : State :=
  if s.members = [] then
    ((s.sess.filter (fun e => decide (e.2.state = .held))).map (·.1)).foldl (fun s n => s.loseSession n) s
  else s

/-! ### The order of DATA frames among sessions (07 R231) -/

/-- A session has a DATA frame to send and no condition of R126 holds it back (04 R126). -/
def State.canSend (s : State) (n : Nat) : Bool :=
  let x := s.getSess n
  (decide (x.state = .opened) || decide (x.state = .draining)) && x.wants && !x.spanFails && !(s.bufFails n) && !(s.winFails n)

/-- The next frame of a session is periodic traffic within its loan's reservation, which goes first (07 R231; log entry 96). -/
def State.urgent (s : State) (n : Nat) : Bool :=
  let x := s.getSess n
  let r := (s.getTenants x.tenant).periodic
  s.canSend n && decide (x.perQueue ≠ []) && decide (0 < r) && decide (SMap.get 0 s.upl.perUsed x.tenant ≤ 125 * r)

/-- The sessions with data waiting that nothing but their turn holds back. -/
def State.senders (s : State) : List Nat := (s.sess.map (·.1)).filter s.canSend

/-- The sessions with periodic traffic that has its turn first: of those within their reservation, where members are lost, the ones that
have used the least of it (07 R231; 08 R253; log entry 96). -/
def State.firstUrgent (s : State) : List Nat :=
  let l := s.senders.filter s.urgent
  let used := fun (n : Nat) => SMap.get 0 s.upl.perUsed (s.getSess n).tenant
  let resv := fun (n : Nat) => (s.getTenants (s.getSess n).tenant).periodic
  l.filter (fun n => l.all (fun m => decide (used n * resv m ≤ used m * resv n)))

/-- The principal whose turn it is among those with data waiting (07 R231; log entry 96). -/
def State.drrPick (s : State) : Option Nat :=
  drrNext s.upl.drrTurn s.upl.deficit (s.senders.map (fun n => ((s.getSess n).tenant, s.nextLen n)))

/-- Whether a session may send its next DATA frame now: periodic traffic within a reservation first, then bulk traffic in the turns
of a deficit round-robin among principals (07 R231). -/
def State.myTurn (s : State) (n : Nat) : Bool :=
  s.firstUrgent.contains n || (!(s.senders.any s.urgent) && decide (s.drrPick = some (s.getSess n).tenant))

/-- A frame sent is charged to its loan's periodic reservation, or to its principal's deficit, which a turn raises by the maximum
frame size for each unit of weight (07 R231; log entry 96). -/
def State.charge (s : State) (n : Nat) : State :=
  let t := (s.getSess n).tenant
  let len := s.nextLen n
  if s.urgent n then
    s.modUpl (fun u => { u with perUsed := SMap.put 0 u.perUsed t (SMap.get 0 u.perUsed t + 8000 * len) })
  else
    let had := s.drrHad s.upl.drrTurn s.upl.deficit (s.cfg 0x2200 5) t len
    s.modUpl (fun u => { u with drrTurn := t, deficit := SMap.put 0 u.deficit t (had - len) })

/-- A principal with nothing to send keeps no deficit (07 R231; log entry 96). -/
def State.dropDeficit (s : State) : State :=
  let act := s.senders.map (fun n => (s.getSess n).tenant)
  s.modUpl (fun u => { u with deficit := SMap.select (fun t _ => act.contains t) u.deficit })

/-- A session whose disabled path waits for a response ends once its queues are empty (05 R146). -/
def State.endPath (s : State) (n : Nat) : State :=
  let x := s.getSess n
  if x.pathEnd && !x.wants then s.endSession n 0x32 3 false false else s

/-- A new DATA frame of a session, where its conditions and its turn allow one (04 R115, R126, R127; 07 R231). -/
def State.frameSend (s : State) (n : Nat) : State :=
  let x := s.getSess n
  if (x.state = .opened ∨ x.state = .draining) ∧ x.wants = true then
    if x.wraps then s.wrapClose n
    else
      let s := s.restall n
      if (s.getSess n).stalled ∨ s.myTurn n = false ∨ s.sprayLink = none then s
      else ((((s.charge n).sendData n).restall n).dropDeficit).endPath n
  else s

/-- tACKDLY passes from the oldest unacknowledged arrival (04 R129). -/
def State.ackDelayEnd (s : State) (n : Nat) : State :=
  let x := s.getSess n
  if (x.state = .opened ∨ x.state = .draining) ∧ x.unacked ≠ 0 then s.sendAck n else s

/-- tREORD passes for a frame that a SACK shows overtaken (04 R130). -/
def State.reorderEnd (s : State) (n q : Nat) : State :=
  let x := s.getSess n
  if (x.state = .opened ∨ x.state = .draining) ∧ laterSacked x.peerSacks q = true ∧
      x.replay.any (fun r => decide (r.seq = q)) = true then s.resend n q else s

/-- The retransmission timeout of a session expires: the oldest unacknowledged frame is sent again, the timeout doubles
up to 100 ms, and at the retransmission limit the session is lost (04 R130). -/
def State.rtoEnd (s : State) (n : Nat) : State :=
  let x := s.getSess n
  match x.replay with
  | [] => s
  | r :: _ =>
    if x.state = .opened ∨ x.state = .draining then
      if s.cfg 0x2203 4 ≤ x.rtoCount + 1 then s.loseSession n
      else
        let s := s.modSess n (fun x => { x with
          rtoCount := x.rtoCount + 1
          rto := min 100000 (2 * max x.rto (s.cfg 0x2203 3)) })
        s.resend n r.seq
    else s

end Sys2Proof.Machine
end

