-- ==== Sys2Proof/Machine/Plls.lean ====
section
/-!
DEFINITION. Lock, loss of lock and lock failures of the PLLs, and the loss of REFCLK_ETH (01 R32 to R36).
-/
namespace Sys2Proof.Machine

/-! ### Borrowed gallery PLLs -/

/-- The lowest-numbered other locked gallery PLL of a gallery's wing (01 R33). -/
def State.lenderOf (s : State) (g : Nat) : Option Nat :=
  (galsOfWing (wingOfGal g)).find? (fun h => decide (h ≠ g) && s.locked (.gallery h))

/-- A gallery takes the PLL of another, or has none; one that borrows a locked PLL keeps it, whatever locks later (01 R33, R34; log
entry 94). -/
def State.borrow (s : State) (g : Nat) : State :=
  match s.lenderOf g with
  | some h =>
    if SMap.get 0 s.clk.lender g ≠ 0 ∧ s.locked (.gallery (SMap.get 0 s.clk.lender g)) = true then s
    else ((s.modClk (fun c => { c with
        lender := SMap.put 0 c.lender g h, borrowed := c.borrowed ||| BitVec.ofNat 12 (2 ^ (g - 1)) })).causeOn 0x08 g).note 0x08 g
  | none =>
    let s := s.modClk (fun c => { c with
      lender := SMap.put 0 c.lender g 0, borrowed := c.borrowed &&& ~~~(BitVec.ofNat 12 (2 ^ (g - 1))) })
    if s.flt.causes.contains (0x09, g) then s else (s.causeOn 0x09 g).raise 0x09 g

/-- Every gallery of a wing whose own PLL is out takes another's (01 R33, R34). -/
def State.borrowAll (s : State) (w : Nat) : State :=
  ((galsOfWing w).filter (fun g => s.clkOut (g - 1))).foldl State.borrow s

/-- A gallery's own PLL is locked again: nothing is borrowed for it (01 R33). -/
def State.ownPll (s : State) (g : Nat) : State :=
  ((s.modClk (fun c => { c with
    lender := SMap.put 0 c.lender g 0, borrowed := c.borrowed &&& ~~~(BitVec.ofNat 12 (2 ^ (g - 1))) })).causeOff 0x08 g).causeOff 0x09 g

/-! ### Failures -/

/-- The upstream PLL is lost: the links lose their clock, and R117 follows (04 R113, R117). -/
def State.upstreamOut (s : State) : State := [1, 2, 3, 4, 5, 6, 7, 8].foldl State.linkFault s

/-- Ports of a wing that run at Gen 2 are degraded (01 R35). -/
def State.gen2Out (s : State) (w : Nat) : State :=
  (allPorts.filter (fun p => decide (wingOf p = w))).foldl
    (fun s p => if (s.getUsb p).speed = .gen2x1 ∨ (s.getUsb p).speed = .gen2x2 then s.degraded p else s) s

/-- A PLL has lost its lock or used up its restarts (01 R32 to R35; 16 R413 0x08 to 0x0D). -/
def State.pllOut (s : State) (q : PllId) : State :=
  if evtBit q < 32 ∧ s.clkOut (evtBit q) = true then s
  else
    match q with
    | .core => s
    | .upstream => (s.clkLost 24).upstreamOut
    | .pcie => [1, 2, 3, 4, 5, 6, 7, 8].foldl State.driveFail (((s.clkLost 25).causeOn 0x0D 0).raise 0x0D 0)
    | .gallery g => (s.clkLost (g - 1)).borrowAll (wingOfGal g)
    | .gen1 w =>
      (((s.clkLost (15 + w)).modClk (fun c => { c with subst := c.subst ||| BitVec.ofNat 4 (2 ^ (w - 1)) })).causeOn 0x0A w).note 0x0A w
    | .gen2 w => (((s.clkLost (19 + w)).causeOn 0x0B w).note 0x0B w).gen2Out w

/-- A PLL loses its lock; it goes on trying to lock (01 R32, R33). -/
def State.pllLoss (s : State) (q : PllId) : State :=
  if (s.pll q).state = .locked then (s.setPll q ⟨.starting, 0, (s.pll q).alt⟩).pllOut q else s

/-- A PLL has not locked in 200 µs: two restarts, then its alternate reference, then it stays off (01 R32). -/
def State.pllLate (s : State) (q : PllId) : State :=
  let x := s.pll q
  if x.state ≠ .starting then s
  else if x.restarts < 2 then s.setPll q { x with restarts := x.restarts + 1 }
  else if q = .core ∧ x.alt = false then
    s.setCorePll .starting true
  else (s.setPll q { x with state := .failed }).pllOut q

/-- A PLL locks: its clock is usable and what stood in for it ends (01 R32 to R35, R39). -/
def State.pllLocked (s : State) (q : PllId) : State :=
  if (s.pll q).state ≠ .starting then s
  else
    let s := s.setPll q ⟨.locked, 0, (s.pll q).alt⟩
    let s := if evtBit q < 32 then s.clkBack (evtBit q) else s
    match q with
    | .core => s
    | .upstream => s.applyLinkEnables
    | .pcie => s.causeOff 0x0D 0
    | .gallery g => (s.ownPll g).borrowAll (wingOfGal g)
    | .gen1 w =>
      (s.modClk (fun c => { c with subst := c.subst &&& ~~~(BitVec.ofNat 4 (2 ^ (w - 1))) })).causeOff 0x0A w
    | .gen2 w => s.causeOff 0x0B w

/-- REFCLK_ETH is lost: the upstream and USB PLLs stop; a core PLL that runs from it moves to REFCLK_PCIE, with
package-safe-stop and the Grave fault (01 R36; log entry 94). -/
def State.refEthLost (s : State) : State :=
  if s.clk.refEth = false then s
  else
    let onEth := decide ((s.pll .core).state = .locked ∨ (s.pll .core).state = .starting) && !(s.pll .core).alt
    let s := s.modClk (fun c => { c with refEth := false })
    let s := usbPlls.foldl State.pllStop (s.pllStop .upstream)
    let s := (s.clkLost 24).upstreamOut
    if onEth then ((s.setCorePll .starting true).causeOn 0x0C 0).raise 0x0C 0 else s

end Sys2Proof.Machine
end

