-- ==== Sys2Proof/Machine/Conservator.lean ====
section
/-!
DEFINITION. The Conservator, memory errors and the zeroing of freed regions (12 R328 to R338; 07 R205; 08 R241).
-/
namespace Sys2Proof.Machine

/-- The format of MEM_UNC_FIRST for an address of a memory (12 R340). -/
def memWord (e : MemErr) : Nat := e.addr % 67108864 + e.memory % 4 * 67108864

/-- The line of an error is zeroed: a context is *Free* again only through its own end, a line of the mover area loses its data and
written flag (12 R334). -/
def State.zeroArea (s : State) (o : Nat) : State :=
  let lo := o / 64 * 64
  s.modMov (fun m => { m with
    area := SMap.select (fun a _ => decide (a < lo) || decide (lo + 64 ≤ a)) m.area
    areaWritten := m.areaWritten.filter (fun l => decide (l ≠ o / 64)) })

/-- The part of the packet buffer an offset lies in: 0 replay pool, 1 ledger area, 2 fan-out pool, 3 mover area, 4 transit area,
laid out in that order (log entry 31). -/
def State.pbufPart (s : State) (a : Nat) : Nat :=
  let r := s.cfg 0x2203 1 * 1024
  let l := r + s.cfg 0x2205 2 * 1024
  let f := l + s.cfg 0x2302 0 * 1024
  let m := f + s.areaSize
  if a < r then 0 else if a < l then 1 else if a < f then 2 else if a < m then 3 else 4

/-- One of a list, or none for a free line, as a free value decides: where in a memory the data of an item, session or entry lies is
not stated (log entries 14 and 31). -/
def State.victim {α : Type} (s : State) (l : List α) : Option α := l[s.free % (l.length + 1)]?

/-- The die that holds a memory: the port die of the port for a FIFO, else the core die (12 R328; 16 R491). -/
def memDie (e : MemErr) : Nat := if e.memory = 2 then portDie (e.addr / 262144 % 128) else 0

/-- An uncorrectable error raised with its class (12 R334; 16 R413 0x23). -/
def State.uncFault (s : State) (e : MemErr) (cls : Nat) : State :=
  s.faultRec { (s.recOf 0x23 e.memory) with cls := cls, die := memDie e }

/-- A damaged session buffer: the items whose data it carries end `INTERNAL_FAULT`, and the session ends as a loss (12 R334). -/
def State.uncSession (s : State) (n : Nat) : State :=
  let x := s.getSess n
  let accs := x.unsent.filterMap (fun r => match r with
    | .inData _ a _ _ => some a
    | .completion _ _ a _ _ _ _ _ _ => some a
    | _ => none)
  (s.causeItems 0x0F 0 ((accs.map (itemKey x.tenant)).filter (fun k => s.hasItem k))).loseSession n

/-- A damaged ledger entry: delivered as `INTERNAL_FAULT`, or, with both copies damaged, discarded and counted (12 R334, R335). -/
def State.uncLedger (s : State) (e : MemErr) (t acc : Nat) (both : Bool) : State :=
  if both then
    let s := s.modTenants t (fun x => { x with
      ledger := x.ledger.filter (fun l => decide (l.acc ≠ acc)), discLedger := satAdd x.discLedger 1 })
    (s.modFlt (fun f => { f with uncLoans := f.uncLoans ++ [(e.memory, t)] })).uncFault e 2
  else
    (s.modTenants t (fun x => { x with
      ledger := x.ledger.map (fun l => if l.acc = acc then { l with outcome := 0x0F, detail := 0 } else l) })).uncFault e 1

/-- An uncorrectable error in the packet buffer (12 R334). `both` holds where the other copy of a ledger entry is damaged too. A line of
the transit area may be data of an item, a job's template slot or check table, or a line of the written-map cache, whose bits are
reloaded with a Note, as at a free line (12 R329); chunk data in the fan-out pool is its job item's. -/
def State.uncPbuf (s : State) (e : MemErr) (both : Bool) : State :=
  let part := s.pbufPart e.addr
  let ended := fun (o : Option Nat) => match o with
    | some k => (s.tookFree.causeItem 0x0F 0 k).uncFault e 1
    | none => s.tookFree.uncFault e 0
  if part = 0 then
    match s.victim ((s.sess.filter (fun x => x.2.live)).map (·.1)) with
    | some n => (s.tookFree.uncSession n).uncFault e 1
    | none => s.tookFree.uncFault e 0
  else if part = 1 then
    match s.victim (s.tenants.flatMap (fun x => x.2.ledger.map (fun l => (x.1, l.acc)))) with
    | some x => s.tookFree.uncLedger e x.1 x.2 both
    | none => s.tookFree.uncFault e 0
  else if part = 2 then ended (s.victim ((s.vault.jobs.filter (fun j => j.2.active)).map (fun j => j.2.item)))
  else if part = 3 then
    let o := e.addr - (s.cfg 0x2203 1 + s.cfg 0x2205 2 + s.cfg 0x2302 0) * 1024
    let hit := s.mov.chans.filter (fun c => c.2.moving && decide ((srcSide c.2.desc).1 = 0) &&
      (sideLines (srcSide c.2.desc)).any (fun l => decide (l ≤ o) && decide (o < l + (srcSide c.2.desc).2.2.1)))
    let s := s.zeroArea o
    let s := hit.foldl (fun s c => s.busError c.1 ⟨0x10, o, false, (o - (srcSide c.2.desc).2.1) / max 1 (srcSide c.2.desc).2.2.2.1, 0⟩) s
    s.uncFault e (if hit = [] then 0 else 1)
  else
    let own := s.itemsWhere (fun _ i => decide (0x60 ≤ i.op) && decide (i.op ≤ 0x69) && decide (i.stage ≠ 0))
    let inn := (s.items.filter (fun x => x.2.isIn && decide (0 < x.2.moved) && decide (x.2.op = 0x30))).map (·.1)
    ended (s.victim (own ++ inn ++ (s.vault.jobs.filter (fun j => j.2.active)).map (fun j => j.2.item)))

/-- The items of the splits that hold the non-periodic translator buffers of a gallery (08 R240, R241). -/
def State.splitItems (s : State) (g : Nat) : List Nat := (s.getGals g).npHeld.filterMap (fun e => (s.getPipes e.2).queue.head?)

/-- An uncorrectable error in a port FIFO, a buffered copy or a translator buffer: the top 2 KiB of the OUT half hold two of the gallery's
translator buffers; which split holds which of them is not stated (12 R328, R334; 08 R241; log entry 31). -/
def State.uncFifo (s : State) (e : MemErr) : State :=
  let p := e.addr / 262144 % 128
  let s := s.modFifo p (fun f => { f with uncorrectable := satAdd f.uncorrectable 1 })
  match s.victim (if 260096 ≤ e.addr % 262144 then s.splitItems (galOf p) else s.treeItems p) with
  | some k => (s.tookFree.causeItem 0x0F 0 k).uncFault e 1
  | none => s.tookFree.uncFault e 0

/-- An uncorrectable error in a pipe context takes the pipe to *Closing* (07 R205). -/
def State.uncPipe (s : State) (e : MemErr) : State :=
  let n := e.addr / 64
  let x := s.getPipes n
  if x.state = .free then s.uncFault e 0
  else (s.closing 0x0F 0 (if x.streamCtx then x.link else n)).uncFault e 1

/-- The latch and counts of an uncorrectable error (12 R334, R340). -/
def State.uncLatch (s : State) (e : MemErr) : State :=
  let s := s.modMem (fun m =>
    let m := { m with uncTotal := satAdd m.uncTotal 1 }
    if m.uncValid then { m with uncOvf := true }
    else { m with uncValid := true, uncAddr := BitVec.ofNat 26 e.addr, uncMem := e.memory })
  s.memEvent 1

/-- An uncorrectable error found (12 R334). -/
def State.uncFound (s : State) (e : MemErr) (both : Bool) : State :=
  let s := s.uncLatch e
  if e.memory = 0 then s.uncPipe e else if e.memory = 1 then s.uncPbuf e both else s.uncFifo e

/-- The corrected errors of the present pass have come to exceed the limit: CORR_RATE and a Minor fault (12 R333; 16 R413 0x21). -/
def State.corrRate (s : State) (e : MemErr) : State :=
  if s.mem.passCount = s.cfg 0x2030 2 + 1 then (s.memEvent 4).record { (s.recOf 0x21 e.memory) with die := memDie e } else s

/-- A corrected error found: counted against the pass, and a word corrected in two successive passes is stuck (12 R333). -/
def State.corrFound (s : State) (e : MemErr) : State :=
  let w := memWord e
  let s := s.modMem (fun m => { m with
    pipeCorr := if e.memory = 0 then satAdd m.pipeCorr 1 else m.pipeCorr
    pbufCorr := if e.memory = 1 then satAdd m.pbufCorr 1 else m.pbufCorr
    corrTotal := satAdd m.corrTotal 1
    passCount := m.passCount + 1
    passCorr := if m.passCorr.contains w then m.passCorr else m.passCorr ++ [w] })
  let s := if e.memory = 2 then
      s.modFifo (e.addr / 262144 % 128) (fun f => { f with corrected := satAdd f.corrected 1, correctedTotal := satAdd f.correctedTotal 1 })
    else s
  let s := s.corrRate e
  if s.mem.prevCorr.contains w then
    let s := (s.modMem (fun m => { m with stuck := BitVec.ofNat 32 w })).memEvent 2
    s.record { (s.recOf 0x22 e.memory) with die := memDie e }
  else s

/-- The errors of a list, each word once; the two copies of a ledger entry lie in one 32-byte entry (12 R333 to R335). -/
def State.errsFound (s : State) : List MemErr → State
  | [] => s
  | e :: l =>
    let both := l.any (fun d => d.uncorrectable && decide (d.memory = e.memory) && decide (d.addr / 32 = e.addr / 32) && decide (d.addr ≠ e.addr))
    State.errsFound (if e.uncorrectable then s.uncFound e both else s.corrFound e) l

/-- An injection into a memory fires at a read of its address (16 R425, R426). -/
def State.injectMem (s : State) (mem : Nat) : State :=
  if s.flt.injArmed ∧ s.flt.injTarget = mem then
    let e : MemErr := ⟨mem, s.flt.injAddr.toNat, decide (s.flt.injBits = 2)⟩
    let s := s.modFlt (fun f => { f with injArmed := false, injFired := true, injNow := true })
    (s.errsFound [e]).modFlt (fun f => { f with injNow := false })
  else s

/-- A Conservator pass ends with what it met, and the next begins (12 R333, R336). -/
def State.scrubPass (s : State) (found : MemErrs) : State :=
  let s := ([0, 1, 2].foldl State.injectMem s).errsFound found
  s.modMem (fun m => { m with
    passes := satAdd m.passes 1, passFrom := s.clk.usCount, running := true, prevCorr := m.passCorr, passCorr := [], passCount := 0 })

/-- The zeroing of a freed region ends and its pool has it again (12 R337; 03 R95). -/
def State.zeroed (s : State) (r : Region) : State :=
  if s.mem.zeroing.contains r then
    s.modMem (fun m => { m with zeroing := m.zeroing.erase r, poolUsed := if r.part = 1 then m.poolUsed - r.kib else m.poolUsed })
  else s

end Sys2Proof.Machine
end

