-- ==== Sys2Proof/Machine/Transfers.lean ====
section
/-!
DEFINITION. The meanings of the pipe, transfer and virtual host records, deadlines, and the bus events of pipes (05 R150 to R159;
07).
-/
namespace Sys2Proof.Machine

/-- The bytes an item's record says it carries are known from its arrival, also while it is held (05 R154; 15 R389). -/
def State.expects (s : State) (k n : Nat) (isIn : Bool) : State := s.modItems k (fun i => { i with length := n, isIn := isIn })

/-- `TRANSFER`: the item, its pipe's part in a tree that sleeps, and the schedule (05 R153; 06 R191 to R193; 07 R215). -/
def State.transfer (s : State) (k : Nat) (i : Item) : State :=
  let p := (s.getPipes (i.f 0 4 % 1048576)).port
  (s.expects k (i.f 8 4) (bitOf (i.f 6 1) 0)).inRun k p (fun s => ((s.doTransfer k i).itemWake p).serve p)

/-- `OUT_DATA`, and the schedule of its item's port (05 R154). -/
def State.outMore (s : State) (r : Rec) : State :=
  let t := s.doOutData r
  match t.item? (itemKey (s.getSess r.sess).tenant r.acc) with
  | some i => t.serve (t.itemPort i)
  | none => t

/-- `VHOST_STOP` (05 R151). -/
def State.vhostStop (s : State) (k : Nat) (i : Item) : State :=
  let t := i.principal
  let ks := (s.tenantItems t).filter (fun j => decide (j ≠ k))
  let s := s.modTenants t (fun x => { x with stopped := true, stopWait := some k })
  (s.modItems k (fun i => { i with closes := ks })).causeItems 0x07 0x34 ks

/-- `VHOST_START` (05 R151). -/
def State.vhostStart (s : State) (k : Nat) (i : Item) : State :=
  (s.modTenants i.principal (fun x => { x with stopped := false })).finish k 0 0

/-- The DEADLINE of an open item passes (05 R159; 07 R221). -/
def State.deadline (s : State) (principal acc : Nat) : State :=
  let k := itemKey principal acc
  match s.item? k with
  | some i => if i.deadline = 0 then s else s.causeItem 0x06 0 k
  | none => s

/-- A read of a pipe context: an injection into it fires (16 R426). -/
def State.ctxUse (s : State) (n : Nat) : State :=
  let a := s.flt.injAddr.toNat
  if n * 64 ≤ a ∧ a < n * 64 + 64 then s.injectMem 0 else s

/-- A write of PIPE_VIEW_SEL: the snapshot is taken and complete; it is a read of the context (07 R235, 16 R426). -/
def State.viewPipe (s : State) (n : Nat) : State :=
  let s := s.ctxUse n
  s.modRegs (fun r => { r with viewSel := BitVec.ofNat 20 n, viewReady := true, view := s.ctxWords n })

/-- The record PIPE_OPEN (05 R153; 07 R206, R212 to R214; 08 R251 to R258) reaches the virtual host. -/
def State.recPipeOpen (s : State) (r : Rec) : State :=
  s.takeRec 0x20 r false false false 16 State.doPipeOpen

/-- PIPE_OPEN (05 R153; 07 R206, R212 to R214; 08 R251 to R258). -/
def execPipeOpen (r : Rec) (s : State) : Host.Outcome State Fault Refusal := .next (s.recPipeOpen r).settle

/-- The record PIPE_CLOSE (05 R151, R153; 07 R209, R210) reaches the virtual host. -/
def State.recPipeClose (s : State) (r : Rec) : State :=
  s.takeRec 0x21 r true false false 8 State.doPipeClose

/-- PIPE_CLOSE (05 R151, R153; 07 R209, R210). -/
def execPipeClose (r : Rec) (s : State) : Host.Outcome State Fault Refusal := .next (s.recPipeClose r).settle

/-- The record PIPE_RESYNC (05 R153; 07 R222, R223) reaches the virtual host. -/
def State.recPipeResync (s : State) (r : Rec) : State :=
  s.takeRec 0x22 r false false false 8 State.doPipeResync

/-- PIPE_RESYNC (05 R153; 07 R222, R223). -/
def execPipeResync (r : Rec) (s : State) : Host.Outcome State Fault Refusal := .next (s.recPipeResync r).settle

/-- The record PIPE_ABORT (05 R153; 07 R210) reaches the virtual host. -/
def State.recPipeAbort (s : State) (r : Rec) : State :=
  s.takeRec 0x23 r false false false 8 State.doPipeAbort

/-- PIPE_ABORT (05 R153; 07 R210). -/
def execPipeAbort (r : Rec) (s : State) : Host.Outcome State Fault Refusal := .next (s.recPipeAbort r).settle

/-- The record TRANSFER (05 R153, R154; 07 R215) reaches the virtual host. -/
def State.recTransfer (s : State) (r : Rec) : State :=
  s.takeRec 0x30 r false false false 28 State.transfer

/-- TRANSFER (05 R153, R154; 07 R215). -/
def execTransfer (r : Rec) (s : State) : Host.Outcome State Fault Refusal := .next (s.recTransfer r).settle

/-- OUT_DATA (05 R154). -/
def execOutData (r : Rec) (s : State) : Host.Outcome State Fault Refusal := .next (s.outMore r).settle

/-- The record VHOST_STOP (05 R151) reaches the virtual host. -/
def State.recVhostStop (s : State) (r : Rec) : State :=
  s.takeRec 0x50 r false false false 0 State.vhostStop

/-- VHOST_STOP (05 R151). -/
def execVhostStop (r : Rec) (s : State) : Host.Outcome State Fault Refusal := .next (s.recVhostStop r).settle

/-- The record VHOST_START (05 R151) reaches the virtual host. -/
def State.recVhostStart (s : State) (r : Rec) : State :=
  s.takeRec 0x51 r false true false 0 State.vhostStart

/-- VHOST_START (05 R151). -/
def execVhostStart (r : Rec) (s : State) : Host.Outcome State Fault Refusal := .next (s.recVhostStart r).settle

/-- The record UNKNOWN_COMMAND_RECORD (05 R153): no command has this opcode reaches the virtual host. -/
def State.recUnknownCommandRecord (s : State) (op : Nat) (r : Rec) : State :=
  s.takeRec (256 + op) r false false true 0 (fun s _ _ => s)

/-- UNKNOWN_COMMAND_RECORD (05 R153): no command has this opcode. -/
def execUnknownCommandRecord (op : Nat) (r : Rec) (s : State) : Host.Outcome State Fault Refusal := .next (s.recUnknownCommandRecord op r).settle

/-- DEADLINE_EXPIRY (05 R159; 07 R221). -/
def execDeadlineExpiry (principal acc : Nat) (s : State) : Host.Outcome State Fault Refusal :=
  .next (s.deadline principal acc).settle

/-- MICROFRAME_BOUNDARY (09 R259 to R264; 07 R231). -/
def execMicroframeBoundary (p : Nat) (s : State) : Host.Outcome State Fault Refusal :=
  onUnit (portOk p) "port" p (s.microframe p).settle

/-- TRANSACTION_COMPLETE: the hub reads the pipe's context, and the transaction ends (07 R217; 16 R426). -/
def execTransactionComplete (pipe : Nat) (res : XactRes) (s : State) : Host.Outcome State Fault Refusal :=
  onUnit (decide (pipe < 1048576)) "pipe" pipe ((s.ctxUse pipe).xactEnd pipe res).settle

/-- ERDY (07 R227, R228). -/
def execErdy (pipe stream : Nat) (s : State) : Host.Outcome State Fault Refusal :=
  onUnit (decide (pipe < 1048576)) "pipe" pipe (s.erdy pipe stream).settle

/-- PIPE_FREE (07 R209). -/
def execPipeFree (pipe : Nat) (s : State) : Host.Outcome State Fault Refusal :=
  onUnit (decide (pipe < 1048576)) "pipe" pipe (s.freePipe pipe).settle

/-- PIPE_VIEW_SELECT (07 R235). -/
def execPipeViewSelect (pipe : Nat) (s : State) : Host.Outcome State Fault Refusal :=
  onUnit (decide (pipe < 1048576)) "pipe" pipe (s.viewPipe pipe)

end Sys2Proof.Machine
end

