-- ==== Sys2Proof/Machine/Power.lean ====
section
/-!
DEFINITION. Device power states: requests, settling, waking and their ends (15 R387 to R403).
-/
namespace Sys2Proof.Machine

/-! ### Requests and settling -/

/-- The settling steps of a move (15 R394, R403). -/
def settleSteps (from_ target : PwrState) : List SettleStep :=
  let drz : List SettleStep := [.flush, .stopPcie, .retainPorts, .stopPlls, .lowerCore]
  let dor : List SettleStep := [.linksOff, .retainMem, .saveCore, .stopCore, .retentionVoltage, .startCount]
  let shelf : List SettleStep := [.clearDebug, .mainEnLow, .toVbat]
  match target with
  | .drowse => drz
  | .dormant => if from_ = .run then drz ++ dor else dor
  | .shelf => if from_ = .dormant then .portsOff :: shelf else .portsOff :: (dor ++ shelf)
  | _ => []

/-- Flush to each online drive (15 R394). -/
def State.flushDrives (s : State) : State :=
  ([1, 2, 3, 4, 5, 6, 7, 8].filter (fun n => (s.drive n).up)).foldl
    (fun s n => s.nvme { Nvme.reset with drive := n, op := 2 } false) s

/-- *Settling* begins: the steps are noted, and those that wait for others start (15 R394). -/
def State.beginSettle (s : State) (target : PwrState) : State :=
  let from_ := s.dps.state
  let steps := settleSteps from_ target
  let s := s.modDps (fun d => { d with
    fromState := from_, state := .settling, target := target, settle := steps, request := none, blocked := 0 })
  let s := if steps.contains .flush then s.flushDrives else s
  if steps.contains .portsOff then allPorts.foldl (fun s p => s.withholdOff p none) s else s

/-- A request for a state, as `0x2100:01` takes it (15 R392, R397, R403). -/
def State.requestState (s : State) (v : PwrState) (house : Bool) : State :=
  let hold := (s.modDps (fun d => { d with request := some v, requestHouse := house })).guardPass
  let cancel := (s.modDps (fun d => { d with request := none, requestHouse := false })).guardPass
  match s.dps.state with
  | .run => if v = .run then cancel else if s.guards v house = 0 then cancel.beginSettle v else hold
  | .drowse =>
    if v = .drowse then cancel
    else if v = .run then cancel.wake 0xB 0
    else if s.guards v house = 0 then cancel.beginSettle v else hold
  | .dormant =>
    if v = .shelf then (if s.guards v house = 0 then cancel.beginSettle v else hold)
    else if v = .dormant then cancel else cancel.wake 0xB 0
  | .settling => if v = s.dps.target then cancel else s.modDps (fun d => { d with request := some v, requestHouse := house })
  | .waking | .shelf => s

/-- The last failing guard of a held request clears (15 R392). -/
def State.guardsClear (s : State) : State :=
  match s.dps.request, s.dps.state with
  | some v, .run | some v, .drowse => if s.guards v s.dps.requestHouse = 0 then s.beginSettle v else s.guardPass
  | _, _ => s

/-- The guards of *Drowse* have held for the drowse idle time (15 R393). -/
def State.drowseIdle (s : State) : State :=
  if s.dps.state = .run ∧ s.cfg 0x2100 2 ≠ 0 ∧ s.cfg 0x2100 1 = 0 ∧ s.dps.request = none ∧ s.guards .drowse false = 0 then
    s.beginSettle .drowse
  else s

/-- Whether the steps that wait for others have ended: Flush, and the switches of *Shelf* (15 R394). -/
def State.settleReady (s : State) : Bool :=
  !(s.vault.cmds.any (fun e => decide (e.2.op = 2) && e.2.item.isNone)) &&
    (decide (s.dps.target ≠ .shelf) || allPorts.all (fun p => decide ((s.getProt p).sw = .off) || decide ((s.getProt p).sw = .locked)))

/-- The setting of the core SRAM in mV, from its own regulators: 0.60 V in retention above 85 °C junction (15 R402; 18 VDD_SRAM). -/
def State.coreSram (s : State) : Nat :=
  match s.dps.state with
  | .drowse => 750
  | .dormant => if 85 * 8 < s.flt.coreTemp then 600 else 550
  | .shelf => 0
  | .run | .waking | .settling => 800

/-- The setting of the port-die SRAM in mV (15 R402). -/
def State.portSram (s : State) : Nat :=
  match s.dps.state with
  | .drowse => 550
  | .dormant => s.coreSram
  | .shelf => 0
  | .run | .waking | .settling => 800

/-- What a settling step does to the state the model holds (15 R394, R402; 17 R452). -/
def State.settleStep (s : State) (x : SettleStep) : State :=
  match x with
  | .stopPcie => s.pllStop .pcie
  | .stopPlls => usbPlls.foldl State.pllStop s
  | .lowerCore => ((s.modDps (fun d => { d with assist := true, writeAssist := true })).tookFree).setCore (650 + s.free % 11 * 5)
  | .linksOff => [1, 2, 3, 4, 5, 6, 7, 8].foldl (fun s m => s.setLink m Link.reset) s
  | .stopCore => (s.setCorePll .stopped false).pllStop .upstream
  | .retentionVoltage => (s.modDps (fun d => { d with assist := false, writeAssist := false })).setCore 550
  | .startCount => s.modDps (fun d => { d with savedTime := s.clk.hubTime, edgesAt := d.slowEdges })
  | .clearDebug => (s.modDbg (fun d => { d with opened := false, opens := 0 }))
  | .mainEnLow => (s.setMain false).modDps (fun d => { d with pgMain := false })
  | .toVbat => s.modDps (fun d => { d with onVbat := !d.stby })
  | .flush | .retainPorts | .retainMem | .saveCore | .portsOff => s

/-! ### Shelf -/

/-- The regions whose first write has ended but whose bit is not durable yet: a loss of power leaves them unwritten (10 R278). -/
def State.mapPending (s : State) : List Nat :=
  (s.vault.cmds.filter (fun e => decide (e.2.op = 4))).map (fun e => s.physOf e.2.region)

/-- What outlives the loss of the main supplies: the Custodian and its slow clock, the boot flash, the fuses, the Vault's drives,
the pins' levels, what was sent, the model's own counter and the queue; the service port is *DeadBattery* (13 R366; 15 R388, R395; 17
R429, R431). -/
def State.outlives (s : State) : State :=
  { State.reset with
    boot := { State.reset.boot with
      cfgA := s.boot.cfgA, cfgB := s.boot.cfgB, imgA := s.boot.imgA, imgB := s.boot.imgB, floor := s.boot.floor,
      keyHashes := s.boot.keyHashes, revoked := s.boot.revoked, debugFuse := s.boot.debugFuse, grade := s.boot.grade,
      serial := s.boot.serial, mac := s.boot.mac, cert := s.boot.cert, bootCust := s.boot.bootCust,
      bootCount := s.boot.bootCount, strapNoxo := s.boot.strapNoxo, resetLow := s.boot.resetLow, custLost := s.boot.custLost,
      secrets := s.boot.secrets }
    dps := { s.dps with
      state := .shelf, target := .run, request := none, requestHouse := false, blocked := 0, settle := [], evt := 0, irqEn := 0,
      coreMv := 0, domainsUp := [], domainsFailed := [], retried := [], pgMain := false, fastA := false, assist := false, writeAssist := false,
      heldAcc := [] }
    clk := { Clk.reset with xo32Ok := s.clk.xo32Ok, rc32 := s.clk.rc32, refEth := s.clk.refEth }
    regs := { Regs.reset with custWakeEn := s.regs.custWakeEn, custAlarm := s.regs.custAlarm, alarmEdges := s.regs.alarmEdges }
    dbg := { Dbg.reset with opened := s.dbg.opened, opens := s.dbg.opens }
    cat := { CatState.reset with flashFail := s.cat.flashFail }
    coll := { Coll.reset with locks := SMap.mapv Lock.reset (fun l =>
      if l.state = .held ∧ l.member = s.member then { l with state := .broken } else l) s.coll.locks }
    vault := { Vault.reset with
      data := SMap.select (fun a _ => !(s.mapPending.contains (a / 1048576))) s.vault.data,
      written := s.vault.written.filter (fun k => !(s.mapPending.contains k)), houseRec := s.vault.houseRec }
    sent := s.sent, freeCtr := s.freeCtr, pending := s.pending }

/-- The main supplies are gone: what outlives them, with SVC_SRC_EN low (18 R463). -/
def State.unpowered (s : State) : State := (s.svcSource false).outlives

/-- PG_MAIN falls: *Shelf* at once, with cause 0x0A in the wake record (15 R395). -/
def State.pgLost (s : State) : State :=
  if s.dps.state = .shelf then s
  else ((s.setMain false).modDps (fun d => { d with wakeFirst := (Wake.mk 0xA 0 d.slowEdges).word })).unpowered

/-! ### Waking -/

/-- The domains of a waking, in order (15 R400). -/
def wakeDomains (from_ : PwrState) : List Domain :=
  match from_ with
  | .drowse => [.portA, .portB]
  | .dormant => [.core, .portA, .portB, .upstream]
  | _ => [.pgMain]

/-- A latch entry delivered to the mechanism that owns it (15 R398). -/
def State.replayWake (s : State) (w : Wake) : State :=
  if w.source = 1 then s.remoteWaken w.port 0
  else if w.source = 2 then s.ccReplay w.port
  else if w.source = 4 then s.portGone w.port
  else s

/-- Hub time on leaving *Dormant*, in ns: the record and the slow-clock edges counted since (15 R390). -/
def State.wokenTime (s : State) : Nat :=
  let n := s.dps.slowEdges - s.dps.edgesAt
  s.dps.savedTime.toNat + (if s.clk.rc32 then n * 31250 else n * 30517578 / 1000)

/-- A Conservator pass begins with the exit from *Dormant*; what the pass that the entry broke off had met counts for none (12 R336; log
entry 31). -/
def State.freshPass (s : State) : State :=
  s.modMem (fun m => { m with passFrom := s.clk.usCount, passCorr := [], passCount := 0 })

/-- *Run* after *Waking*: the requested state reads 0, the latch is replayed, what was held is issued (15 R390, R398, R402, R403). -/
def State.enterRun (s : State) : State :=
  let dormant := decide (s.dps.fromState = .dormant)
  let s := if dormant then ((s.modClk (fun c => { c with hubTime := BitVec.ofNat 64 s.wokenTime })).syncLost).restartTimebases.freshPass else s
  let latch := s.dps.latch
  let held := s.dps.heldAcc
  let s := s.modDps (fun d => { d with
    state := .run, target := .run, request := none, blocked := 0, latch := [], latchOvf := false, heldAcc := []
    assist := decide (d.coreMv < 750), writeAssist := decide (d.coreMv < 720) })
  let s := (s.setEff 0x2100 1 [0]).dpsEvent 2
  let s := held.foldl State.heldRun (latch.foldl State.replayWake s)
  if s.locked .upstream then s.applyLinkEnables else s

/-- Whether every domain of the waking is up or failed. -/
def State.domainsDone (s : State) : Bool :=
  (wakeDomains s.dps.fromState).all (fun d => s.dps.domainsUp.contains d || s.dps.domainsFailed.contains d)

/-- *Run* where every domain that did not fail is up and the core is (15 R400, R403). -/
def State.wakeEnd (s : State) : State :=
  if s.dps.state = .waking ∧ s.dps.fromState ≠ .shelf ∧ s.domainsDone = true ∧ s.dps.domainsFailed.contains .core = false then s.enterRun else s

/-- The die code a failed domain is reported under (15 R401; 16 R413 0x38). -/
def domainDie : Domain → Nat
  | .portA => 1
  | .portB => 2
  | _ => 0

/-- A domain fails (15 R401). -/
def State.domainFail (s : State) (d : Domain) : State :=
  let s := s.modDps (fun x => { x with domainsFailed := x.domainsFailed ++ [d] })
  match d with
  | .pgMain => ((s.setMain false).modDps (fun x => { x with wakeFail := BitVec.ofNat 32 (1 + Config.freeNat s.freeCtr % 4294967295) })).tookFree.unpowered
  | _ =>
    let s := (s.modDps (fun x => { x with wakeFail := BitVec.ofNat 32 (1 + Config.freeNat s.freeCtr % 4294967295) })).tookFree.dpsEvent 4
    let i := domainDie d
    let s := (s.causeOn 0x38 i).raise 0x38 i
    match d with
    | .portA | .portB => ((List.range 6).map (fun n => (i - 1) * 6 + n + 1)).foldl (fun s g => s.containGallery 0x38 i g) s
    | .upstream => (s.setPll .upstream ⟨.failed, 0, false⟩).upstreamOut
    | _ =>
      let s := allGals.foldl State.freezeLink s
      s.modFlt (fun f => { f with pinHold := true })

/-- A domain is up (15 R400). -/
def State.domainUp (s : State) (d : Domain) : State :=
  if s.dps.domainsUp.contains d ∨ s.dps.domainsFailed.contains d = true then s
  else s.modDps (fun x => { x with domainsUp := x.domainsUp ++ [d] })

/-- Whether a domain is awaited now: in the order core die, then port die A and port die B together, then the upstream (15 R400). -/
def State.awaits (s : State) (d : Domain) : Bool :=
  decide (s.dps.state = .waking) && (wakeDomains s.dps.fromState).contains d && !s.dps.domainsUp.contains d &&
    !s.dps.domainsFailed.contains d &&
    (decide (d = .core) || !((wakeDomains s.dps.fromState).contains .core) || s.dps.domainsUp.contains .core) &&
    (decide (d ≠ .upstream) || [Domain.portA, .portB].all (fun e => s.dps.domainsUp.contains e || s.dps.domainsFailed.contains e))

/-- A waking domain reports power good: its PLLs start; the core is up once its PLL locks (15 R400). -/
def State.powerGood (s : State) (d : Domain) : State :=
  if s.awaits d = false then s.wakeEnd
  else
    match d with
    | .pgMain => (s.modDps (fun x => { x with pgMain := true })).domainUp .pgMain
    | .core => s.setCorePll .starting (!s.clk.refEth)
    | .upstream => ((s.pllStart .upstream).domainUp .upstream).wakeEnd
    | _ => (s.domainUp d).wakeEnd

/-- A domain does not report power good within 5 ms: one retry, then it fails (15 R400, R401). -/
def State.powerLate (s : State) (d : Domain) : State :=
  if s.awaits d = false then s.wakeEnd
  else if s.dps.retried.contains d then (s.domainFail d).wakeEnd
  else s.modDps (fun x => { x with retried := x.retried ++ [d] })

/-- PG_MAIN does not rise after MAIN_EN: MAIN_EN goes low and the package stays in *Shelf* (18 R462; 15 R401). -/
def State.mainLate (s : State) : State := if s.dps.state = .waking ∧ s.dps.fromState = .shelf ∧ s.dps.pgMain = false then s.domainFail .pgMain else s

/-- The core PLL locks or fails in a waking (15 R400, R401; 01 R32). -/
def State.coreWoken (s : State) : State :=
  if s.awaits .core = false then s
  else if s.locked .core then s.domainUp .core
  else if (s.pll .core).state = .failed then s.domainFail .core
  else s

/-- The last settling step ends: the target, or *Waking* where the latch holds an entry; a request held meanwhile is acted on (15
R394, R397, R403). -/
def State.settlingDone (s : State) : State :=
  if s.dps.state ≠ .settling ∨ s.settleReady = false then s
  else
    let target := s.dps.target
    let s := s.dps.settle.foldl State.settleStep s
    let s := if target = .shelf then s.unpowered else s
    let s := (s.modDps (fun d => { d with state := target, target := .run, settle := [] })).dpsEvent 1
    if s.dps.latch ≠ [] then s.beginWake
    else match s.dps.request with
      | some v => s.requestState v s.dps.requestHouse
      | none => s

/-- The Curator sets the core voltage, in steps of 5 mV within 0.65 to 0.85 V (15 R402). -/
def State.coreUpdate (s : State) (mv : Nat) : State :=
  let v := max 650 (min 850 (mv / 5 * 5))
  if s.dps.state = .run then (s.modDps (fun d => { d with assist := decide (v < 750), writeAssist := decide (v < 720) })).setCore v else s

/-- The alarm countdown ends (15 R396, R398, R405). -/
def State.alarm (s : State) : State :=
  if s.regs.custAlarm = 0 then s else (s.modRegs (fun r => { r with custAlarm := 0, alarmEdges := 0 })).wake 9 0

/-- A slow-clock edge of the alarm countdown: 32,768 of them to the second on the crystal, 32,000 on the RC oscillator (15 R405; 01
R37). -/
def State.alarmEdge (s : State) : State :=
  let r := s.regs
  if r.custAlarm = 0 then s
  else if r.alarmEdges + 1 < (if s.clk.rc32 then 32000 else 32768) then s.modRegs (fun r => { r with alarmEdges := r.alarmEdges + 1 })
  else if r.custAlarm = 1 then s.alarm
  else s.modRegs (fun r => { r with custAlarm := r.custAlarm - 1, alarmEdges := 0 })

/-- The mirrors the Custodian refreshes at every slow-clock edge (00 R9; 02 R70). -/
def State.refreshMirrors (s : State) : State :=
  s.modRegs (fun r => { r with
    mXo := s.clk.xo32Ok, mRc := s.clk.rc32, mLatch := s.dps.latch, mOpened := s.dbg.opened, mNoxo := s.boot.strapNoxo,
    mWakeEn := r.custWakeEn, mAlarm := r.custAlarm })

end Sys2Proof.Machine
end

