-- ==== Sys2Proof/Machine/Boot.lean ====
section
/-!
DEFINITION. Resets, start-up, firmware images, the voted store, attestation, the secret store and debug access (17; 02 R77, R78;
16 R416).
-/
namespace Sys2Proof.Machine

/-! ### Firmware images -/

/-- A byte of an image slot; slot B where `b` (17 R437). -/
def State.imgByte (s : State) (b : Bool) (o : Nat) : Byte := SMap.get 0xFF (if b then s.boot.imgB else s.boot.imgA) o

/-- Bytes of an image slot. -/
def State.imgBytes (s : State) (b : Bool) (o n : Nat) : Bytes := (List.range n).map (fun i => s.imgByte b (o + i))

/-- A little-endian field of an image header (17 R439). -/
def State.imgField (s : State) (b : Bool) (o n : Nat) : Nat := leNat (s.imgBytes b o n)

/-- The silicon revision as MIN_REV states it (00 R1; 02 R80). -/
def siliconRev : Nat := 0xB1

/-- The check of an image slot: 0 valid, else the code of the first failure (17 R440). -/
def State.imageCode (s : State) (b : Bool) : Nat :=
  let key := s.imgBytes b 0x70 96
  let idx := s.imgField b 6 1
  let len := s.imgField b 0x10 4
  if s.imgField b 0 4 ≠ 0x4647564F ∨ s.imgField b 4 2 ≠ 1 then 1
  else if s.imgField b 0x14 2 ≠ 0x9600 ∨ siliconRev < s.imgField b 0x16 1 then 2
  else if 4 ≤ idx ∨ s.boot.keyHashes.getD idx [] ≠ natBE 48 (Config.sha384 key).toNat ∨ bitOf s.boot.revoked.toNat idx = true then 3
  else if s.imgField b 0xC 4 < s.boot.floor then 4
  else if Config.ecdsaVerify key (s.imgBytes b 0 0x1A0) (s.imgBytes b 0x1A0 96) = false then 5
  else if len = 0 ∨ 8388096 < len ∨ s.imgBytes b 0x40 48 ≠ natBE 48 (Config.sha384 (s.imgBytes b 0x200 len)).toNat then 6
  else 0

/-- The order in which the slots are tried (17 R440). -/
def State.slotOrder (s : State) : List Bool :=
  let pref := s.cfg 0x2700 5
  if pref = 1 then [false, true] else if pref = 2 then [true, false]
  else if s.imgField false 8 4 < s.imgField true 8 4 then [true, false] else [false, true]

/-- The check code of a slot noted in FAIL_A or FAIL_B (17 R440). -/
def State.noteCode (s : State) (b : Bool) (c : Nat) : State :=
  if b then s.modBoot (fun x => { x with failB := c }) else s.modBoot (fun x => { x with failA := c })

/-- A slot is tried. -/
def State.tried (s : State) (b : Bool) : State := s.noteCode b (s.imageCode b)

/-- The image of a slot runs; OTHER_SLOT where it is not the first of the order (17 R439, R440). -/
def State.runImage (s : State) (b other : Bool) : State :=
  s.modBoot (fun x => { x with
    slot := b, otherSlot := other, imageVersion := s.imgField b 8 4, imageRollback := s.imgField b 0xC 4,
    hash := natBE 48 (Config.sha384 (s.imgBytes b 0 0x1A0)).toNat })

/-- The slot selected: an image that runs, or recovery (17 R440, R441; 18 R466). -/
def State.selectSlot (s : State) : State × Bool :=
  match s.slotOrder with
  | [a, b] =>
    let s := s.tried a
    if s.imageCode a = 0 ∧ s.boot.strapRec = false then (s.runImage a false, true)
    else
      let s := s.tried b
      if s.imageCode b = 0 ∧ s.boot.strapRec = false then (s.runImage b true, true) else (s, false)
  | _ => (s, false)

/-! ### The voted store -/

/-- A port's critical fields as its sentry die's copy holds them (02 R76, R77; 17 R434). -/
def State.sentryWord (s : State) (p : Nat) : Nat :=
  let r := s.getProt p
  b2n r.vbusAllowed + b2n (s.getPwr p).vconnAllowed * 2 + r.sentryFast % 65536 * 65536

/-- A port's critical fields as its parity-protected registers hold them (02 R77, R78). -/
def State.registerWord (s : State) (p : Nat) : Nat :=
  let u := s.getUsb p
  b2n u.vbusAllowedReg + b2n (s.getPwr p).vconnAllowed * 2 + u.loanOwner % 128 * 256 + (s.getProt p).sentryFast % 65536 * 65536

/-- The voted store loaded for a start-up: safe values, or the sentry dies' copies after a warm reset (17 R434). -/
def State.loadVotes (s : State) (warm : Bool) : State :=
  let s := s.modVote 0 (fun _ => if s.boot.debugFuse then 3 else 0)
  allPorts.foldl (fun s p =>
    s.modVote p (fun _ => BitVec.ofNat 32 (if warm then s.sentryWord p else 8000 * 65536))) s

/-- Entry to recovery: the three copies are loaded from the parity-protected registers where their parity is good, else from the sentry
die's copy, and IN_SERVICE is clear; registers that a reset cleared and nothing has written since hold no good parity (02 R78; log entry
45). -/
def State.enterRecovery (s : State) : State :=
  let s := allPorts.foldl (fun s p =>
    let good := s.inService && !(s.regs.parBad.contains (0x100F00 + (p - 1) * 0x1000))
    s.modVote p (fun _ => BitVec.ofNat 32 (if good then s.registerWord p else s.sentryWord p))) s
  (s.modRegs (fun r => { r with inService := false })).modBoot (fun b => { b with phase := .recovery })

/-- The objects of step 8 that set critical fields: VCONN enable and, at a cold start, the fast-trip threshold (17 R433, R435;
00 R10). -/
def State.defaultFields (s : State) (warm : Bool) : State :=
  allPorts.foldl (fun s p =>
    let s := if warm = false ∨ (s.getProt p).sw = .off then s.setVconnAllowed p (decide (s.cfg 0x4017 p = 1)) else s
    if warm then s else s.setFast p) s

/-- The voted values copied into the parity-protected registers, and the copies rewritten (02 R78). -/
def State.copyVotes (s : State) : State :=
  let s := (0 :: allPorts).foldl State.vote s
  let s := s.modDbg (fun d => { d with lock := (s.voted 0).toNat % 4 })
  allPorts.foldl (fun s p =>
    let w := (s.voted p).toNat
    let s := s.modUsb p (fun u => { u with vbusAllowedReg := bitOf w 0, loanOwner := bitsOf w 8 7 })
    let s := s.modPwr p (fun x => { x with vconnAllowed := bitOf w 1 })
    s.modProt p (fun x => { x with sentryFast := bitsOf w 16 16 })) s

/-! ### Entry to normal service -/

/-- The FIRST records the aggregators of a die hold, its wing aggregators' before its own; an occurrence held at both counts once
(16 R416; log entry 18). -/
def Flt.dieRecs (f : Flt) (d : Nat) (wings : List Nat) : List FltRec :=
  let w := wings.flatMap (fun w => (SMap.get Aggr.reset f.wingAgg w).latched.toList)
  w ++ (SMap.get Aggr.reset f.dieAgg d).latched.toList.filter (fun r => !(w.contains r))

/-- The FIRST records the aggregators hold, in ascending die code, each wing aggregator just before its die (16 R416). -/
def Flt.heldRecs (f : Flt) : List FltRec :=
  f.dieRecs 0 [] ++ f.dieRecs 1 [1, 2] ++ f.dieRecs 2 [3, 4] ++ f.dieRecs 3 [] ++ f.dieRecs 4 []

/-- The collector takes the aggregators' records, with the reactions that did not act locally; causes that persist and were not
latched are raised anew (16 R416). -/
def State.takeRecs (s : State) : State :=
  let recs := s.flt.heldRecs
  let more := s.flt.causes.filter (fun c => !(recs.any (fun r => decide (r.source = c.1) && decide (r.inst = c.2))))
  let s := s.modFlt (fun f => { f with pinHold := false })
  let s := recs.foldl (fun s r => (s.collect r).immediate r.source r.inst) s
  more.foldl (fun s c => s.raise c.1 c.2) s

/-- Normal service begins, once start-up has done its steps (02 R78; 16 R416; 12 R336; 04 R114; 06 R184; 15 R400, R403; 03
R98). -/
def State.enterService (s : State) : State :=
  if s.inService = true ∨ s.boot.started = false then s
  else
    let note := s.regs.voterNote
    let s := s.copyVotes
    let note := note || s.regs.voterNote
    let s := (s.modRegs (fun r => { r with inService := true, voterNote := false })).modBoot (fun b => { b with phase := .service, inReset := false, started := false })
    let s := allGals.foldl State.thaw s.takeRecs
    let s := if note then s.note 0x13 0 else s
    let s := s.modMem (fun m => { m with running := true, passFrom := s.clk.usCount })
    let s := allPorts.foldl (fun s p => if (s.getProt p).sw = .on then s.portGood p else s) s
    let s := if s.clk.refEth then s.pllStart .upstream else s
    s.settleQuorum.enterRun

/-! ### Start-up -/

/-- The configuration read and the boot count advanced in both places (17 R431, R437, R438). -/
def State.readConfig (s : State) : State :=
  let f := s.boot.config
  let x := f.getD FlashCfg.reset
  let n := max x.boots s.boot.bootCust + 1
  let s := s.modBoot (fun b => { b with configLost := f.isNone, bootCust := n, bootCount := BitVec.ofNat 32 n })
  let s := if s.cat.flashFail then s else s.flash (fun c => { c with boots := n })
  let s := s.modColl (fun c => { c with epoch := x.epoch, key := some (s.secret 65) })
  let s := s.modVault (fun v => { v with houseRec := x.house })
  x.values.foldl (fun s e => match e.2 with | some b => s.setEff (e.1 / 256) (e.1 % 256) b | none => s) s

/-- Start-up from step 8 to its end: the defaults, the stages, and the built-in test where it is on (17 R433, R436; 13 R358). -/
def State.lastSteps (s : State) (warm bistBad : Bool) : State :=
  let s := allPorts.foldl State.stageStart (s.defaultFields warm)
  if s.cfg 0x2700 6 = 1 ∧ bistBad = true then
    (s.modBoot (fun b => { b with phase := .bist, bistFail := true })).modFlt (fun f => { f with pinHold := true })
  else s.modBoot (fun b => { b with started := true })

/-- Start-up from step 4 to its end: ready for normal service, the built-in test's failure, or recovery (17 R433, R436, R441; 18
R466). -/
def State.startUp (s : State) (warm bistBad : Bool) : State :=
  let s := s.setCorePll .locked (!s.clk.refEth)
  let s := (s.setCore 800).readConfig
  let s := s.modUpl (fun u => { u with mode := decide (s.cfg 0x2200 1 = 1) })
  let s := s.modBoot (fun b => { b with identity := true, secretsLost := b.custLost, custLost := false })
  let sel := s.selectSlot
  let s := sel.1
  if sel.2 = false then s.enterRecovery else s.lastSteps warm bistBad

/-- The sentry dies have started and the voted store is loaded: the state at step 3 of a cold start (17 R429, R433, R434; 12 R337). -/
def State.coldBase (s : State) : State :=
  let t := s.unpowered
  let t := t.modDps (fun d => { d with
    state := .waking, target := .run, fromState := .shelf, mainEn := true, pgMain := true, settle := [] })
  (t.svcDomain true).loadVotes false

/-- A cold start (17 R433; 18 R466). -/
def State.coldStart (s : State) (x : Straps) : State :=
  let s := (s.coldBase.stageAnswers x).modBoot (fun b => { b with strapRec := x.recovery, strapTest := x.test })
  if x.test then s
  else if s.boot.resetLow then s.modBoot (fun b => { b with inReset := true })
  else s.startUp false x.bistBad

/-- The objects whose values the sentry dies keep over a warm reset (17 R435). -/
def keptObj (k : Nat) : Bool := decide (0x4060 ≤ k / 256) && decide (k / 256 ≤ 0x4065)

/-- The faults whose causes lie on the sentry dies and persist over a warm reset. -/
def sentryCause (c : Nat × Nat) : Bool := decide (0x30 ≤ c.1) && decide (c.1 ≤ 0x39) && decide (c.1 ≠ 0x33) && decide (c.1 ≠ 0x38)

/-- The ports' switches and contracts and the service port as `s` holds them, their events and enables cleared and SVC_SRC_EN low (17
R429, R435; 18 R463). -/
def State.keepPorts (t s : State) : State :=
  { t with
    prot := SMap.mapv PortProt.reset (fun r => { r with evt := 0, irqEn := 0 }) s.prot,
    pwr := SMap.mapv PortPwr.reset (fun w => { w with evt := 0, irqEn := 0 }) s.pwr,
    svc := { s.svc with srcEn := false, drSent := false, data := s.svc.data && decide (s.svc.state = .attachedSnk) } }

/-- The state at step 3 of a warm reset: switches, curves, thresholds, retries and contracts kept (17 R429, R434, R435). -/
def State.warmBase (s : State) : State :=
  let t := s.unpowered.keepPorts s
  let t := t.modDps (fun d => { d with
    state := .waking, target := .run, fromState := .shelf, mainEn := s.dps.mainEn, pgMain := s.dps.pgMain, fastA := s.dps.fastA,
    settle := [] })
  let t := t.modCat (fun c => { c with eff := SMap.select (fun k _ => keptObj k) s.cat.eff })
  let t := t.modFlt (fun f => { f with causes := s.flt.causes.filter sentryCause })
  let t := t.modBoot (fun b => { b with strapRec := s.boot.strapRec, strapTest := s.boot.strapTest })
  t.loadVotes true

/-- Whether the package has main power, so that a warm reset can begin. -/
def State.powered (s : State) : Bool := s.dps.pgMain

/-- A warm reset begins; start-up follows unless RESET_N holds it. The stages answer as at the start before (17 R429, R433; 19 R482; log
entry 5). -/
def State.warmReset (s : State) (rec_ bistBad : Bool) : State :=
  if s.powered = false ∨ s.boot.strapTest = true then s
  else
    let s := s.warmBase.modBoot (fun b => { b with strapRec := rec_ })
    if s.boot.resetLow then s.modBoot (fun b => { b with inReset := true }) else s.startUp true bistBad

/-- The warm reset of the guarded request: the strap reads as the board ties it, and the result of a built-in test is open (17 R432,
R436; 18 R466). -/
def State.requestReset (s : State) : State := (s.tookFree).warmReset s.boot.strapRec (decide (s.free % 2 = 1))

/-- RESET_N is low for tRSTW (19 R482). -/
def State.resetFall (s : State) (x : Straps) : State :=
  let s := s.modBoot (fun b => { b with resetLow := true })
  s.warmReset x.recovery x.bistBad

/-- RESET_N rises: a held start-up goes on (19 R482). -/
def State.resetRise (s : State) : State :=
  let hold := s.boot.inReset
  let s := s.modBoot (fun b => { b with resetLow := false, inReset := false })
  if hold then (s.tookFree).startUp true (decide (s.free % 2 = 1)) else s

/-- What the Custodian's memory and the state beside it are after both standby supplies were absent (17 R429; 18 R466). -/
def State.custodianLost (t : State) : State :=
  { t with
    regs := Regs.reset, dbg := Dbg.reset, svc := Svc.reset, dps := { Dps.reset with stby := true, vbat := true, fromState := .shelf } }

/-- Both standby supplies return after both were absent: the Custodian's memory is lost and MAIN_EN goes high (17 R429, R447; 18
R462, R466). -/
def State.custodianReset (s : State) (noxo : Bool) : State :=
  let t := s.unpowered
  let t := t.modBoot (fun b => { b with secrets := [], custLost := true, bootCust := 0, strapNoxo := noxo })
  let t := t.custodianLost
  let t := t.modClk (fun c => { c with rc32 := true, xo32Ok := false })
  (t.setMain true)

/-! ### Images written and committed -/

/-- Bytes written into a slot. -/
def putImage (m : SMap Byte) (o : Nat) (d : Bytes) : SMap Byte :=
  (List.range d.length).foldl (fun m i => SMap.put 0xFF m (o + i) (SMap.get 0xFF m (o + i) &&& d.getD i 0)) m

/-- Image bytes written to the slot that does not run; offset 0 erases it first (17 R442). -/
def State.imageWrite (s : State) (o : Nat) (d : Bytes) : State × Nat :=
  if s.cat.flashFail then (s, 0x06060000)
  else if 8388608 < o + d.length then (s, 0x06070010)
  else if s.boot.slot then (s.modBoot (fun b => { b with imgA := putImage (if o = 0 then [] else b.imgA) o d }), 0)
  else (s.modBoot (fun b => { b with imgB := putImage (if o = 0 then [] else b.imgB) o d }), 0)

/-- The other slot is checked (17 R442). -/
def State.imageVerify (s : State) : State × Nat := (s.modBoot (fun b => { b with imageCheck := s.imageCode (!s.boot.slot) }), 0)

/-- The fuse floor rises to the running image's ROLLBACK (17 R443). -/
def State.rollback (s : State) : State × Nat :=
  if s.boot.floor ≤ s.boot.imageRollback ∧ s.boot.imageRollback ≤ 63 then
    (s.modBoot (fun b => { b with floor := b.imageRollback }), 0)
  else (s, 0)

/-! ### Attestation -/

/-- The first 0xA0 bytes of a principal's report (17 R445). -/
def State.reportBody (s : State) (t : Nat) (nonce : Bytes) : Bytes :=
  natLE 4 1 ++ natLE 8 s.boot.serial.toNat ++ natLE 1 siliconRev ++ natLE 1 (b2n s.boot.grade) ++ natLE 1 s.dbg.lock ++
    natLE 1 (b2n s.dbg.opened + b2n s.boot.secretsLost * 2 + b2n s.boot.otherSlot * 4 + b2n s.boot.configLost * 8) ++
    natLE 4 s.boot.bootCount.toNat ++ natLE 4 s.coll.epoch.toNat ++ natLE 4 s.boot.imageVersion ++ natLE 4 s.boot.floor ++
    padTo 48 s.boot.hash ++ s.digest ++ padTo 32 nonce ++ natLE 8 (if s.ptp.state = 0 then 0 else s.now) ++ natLE 4 t ++
    natLE 4 s.dbg.opens.toNat

/-- A nonce written: the principal's report is computed and signed (17 R445). -/
def State.attest (s : State) (t : Nat) (nonce : Bytes) : State × Nat :=
  if s.boot.identity = false then (s, 0x08000022)
  else
    let b := s.reportBody t nonce
    (s.modTenants t (fun x => { x with nonce := nonce, report := b ++ natBE 96 (Config.identitySign b).toNat }), 0)

/-! ### Keys and debug access -/

/-- A key written to its slot of the secret store, or refused while debug is open (17 R446, R451). -/
def State.keyWrite (s : State) (slot : Nat) (key : Bytes) : State × Nat :=
  if s.dbg.lock = 2 then (s, 0x08000022)
  else (s.modBoot (fun b => { b with secrets := SMap.put [] b.secrets slot (if key = zeros 32 then [] else key) }), 0)

/-- A debug request refused (17 R449). -/
def State.debugRefused (s : State) : State := s.modDbg (fun d => { d with refused := true })

/-- The accepted value is the guarded value in effect (02 R73). -/
def State.setDebugReq (s : State) (v : Word) : State := s.modRegs (fun r => { r with gDebug := v })

/-- ERASING begins: the secret store is zeroed, loans are recalled and house sessions end (17 R450). -/
def State.beginErase (s : State) (v : Word) : State :=
  let s := (s.modDbg (fun d => { d with lock := 1, asked := v.toNat })).modBoot (fun b => { b with secrets := [] })
  let s := s.setDebugReq v
  let s := ((List.range 65).drop 1).foldl (fun s t =>
    if (s.getTenants t).loan = .active ∨ (s.getTenants t).loan = .paused then s.recall t else s) s
  ((s.openingSess 0) ++ (s.liveSess 0)).foldl (fun s n =>
    if (s.getSess n).state = .opening then s.giveUp n else s.endSession n 0x32 0 false false) s

/-- A debug request that reached its guarded address (17 R449; 02 R76). -/
def State.debugReq (s : State) (v : Word) : State :=
  if s.inService = false ∨ 4 ≤ v.toNat then s.debugRefused
  else if s.dbg.lock = 0 ∧ v ≠ 0 then s.beginErase v
  else if s.dbg.lock = 2 ∧ v = 0 then (s.modDbg (fun d => { d with lock := 0, jtag := false, svc := false })).setDebugReq v
  else s.debugRefused

/-- Every ledger emptied (17 R450). -/
def State.wipeLedgers (s : State) : State :=
  { s with tenants := SMap.mapv Tenant.reset (fun x => { x with ledger := [], ledgerResv := [] }) s.tenants }

/-- ERASING ends once every loan is *Idle* and every session *Closed*: keys and buffer areas are zeroed and the access opens; with the
ledgers wiped, used-up house blocks begin anew (17 R450, R451; 05 R157). -/
def State.eraseDone (s : State) : State :=
  if s.dbg.lock ≠ 1 ∨ s.tenants.any (fun e => decide (e.2.loan ≠ .idle)) = true ∨ s.sess.any (fun e => decide (e.2.state ≠ .closed)) = true then s
  else
    let a := s.dbg.asked
    let s := s.modBoot (fun b => { b with identity := false })
    let s := (s.modSessWhere (fun _ _ => true) (fun x => { x with key := SessKey.zero, replay := [] }))
    let s := (s.wipeLedgers.modColl (fun c => { c with key := none })).renewHouse 0
    let s := s.modMem (fun m => { m with poolUsed := 0, ledgerUsed := 0, fanUsed := 0, zeroing := [] })
    s.modDbg (fun d => { d with lock := 2, opened := true, opens := satAdd d.opens 1, jtag := bitOf a 0, svc := bitOf a 1 })

/-- TAP instructions: IDCODE, BYPASS and SAMPLE/PRELOAD always, the others while JTAG debug is open (17 R448; 18 R466; 02 R77). -/
def State.tap (s : State) (i : JtagIns) : State :=
  let s := s.voteUse 0
  match i with
  | .idcode => (s.modDbg (fun d => { d with tapIr := 1 })).emit (.jtag 0x19600DA7)
  | .bypass => s.modDbg (fun d => { d with tapIr := 0 })
  | .samplePreload => s.modDbg (fun d => { d with tapIr := 2 })
  | .extest => if s.dbg.jtag ∧ s.lockNow = 2 then s.modDbg (fun d => { d with tapIr := 3 }) else s
  | .debug c => if s.dbg.jtag ∧ s.lockNow = 2 then s.modDbg (fun d => { d with tapIr := 16 + c }) else s

end Sys2Proof.Machine
end

