-- ==== Sys2Proof/Machine/Readings.lean ====
section
/-!
DEFINITION. What a read of a Catalogue object returns: a pending or effective value, or telemetry (00 R11; 02 R41, R52; the object
tables of every chapter).
-/
namespace Sys2Proof.Machine

/-- Objects that hold a pending value, with the value (02 R52). -/
def State.pendList (s : State) : List (Nat × PendVal) :=
  s.cat.pend.flatMap (fun e => match e.2 with | some v => [(e.1, v)] | none => [])

/-- The pending list as bytes: for a tenant, the objects it may read (02 R52). -/
def State.pendBytes (s : State) (t : Nat) : Bytes :=
  (s.pendList.filter (fun e => decide (t = 0) || decide (s.accessAbort t (e.1 / 256) (e.1 % 256) false = 0))).flatMap (fun e =>
    natLE 2 (e.1 / 256) ++ natLE 1 (e.1 % 256) ++ (match clsOf (e.1 / 256) (e.1 % 256) with | some cl => [cl.letter] | none => zeros 1))

/-- ms until a lease expires; 0 in *Idle* and *Recalling* (03 R93 0x6009, R99). -/
def State.leaseLeft (s : State) (t : Nat) : Nat :=
  match (s.getTenants t).loan with
  | .active | .paused =>
    (if s.coll.quorum then s.cfg 0x7000 4 * 1000 else (s.coll.tQ + s.cfg 0x7000 4 * 1000000000 - s.now) / 1000000)
  | _ => 0

/-- The state word of a lock (03 R103 0x64nn:01). -/
def Lock.word (l : Lock) : Nat :=
  lockCode l.state + b2n l.afterBreak * 4 + (l.member - 1) % 16 * 256 + l.sess % 1024 * 4096

/-- KiB of the transit area (12 R329). -/
def State.transitKib (s : State) : Nat := 65536 - s.cfg 0x2203 1 - s.cfg 0x2205 2 - s.cfg 0x2302 0 - s.cfg 0x2400 1

/-- Regions of a tenant's allotment whose bit is set (10 R278 0x8244). -/
def State.regionsWritten (s : State) (t : Nat) : Nat :=
  sumOf ((s.getTenants t).extents.map (fun e => ((List.range e.2).filter (fun k => s.isWritten (e.1 + k))).length))

/-- Per-port telemetry: 0x4001 and the 0x82 arrays of ports. -/
def State.portReading (s : State) (idx p : Nat) : Option Nat :=
  let u := s.getUsb p
  let w := s.getPwr p
  let r := s.getProt p
  let f := s.getFt p
  match idx with
  | 0x4001 => some u.loanOwner
  | 0x8200 => some (portStateCode u.state)
  | 0x8201 => some (speedCode u.speed)
  | 0x8202 => some u.devices.length
  | 0x8203 => some u.recoveries.toNat
  | 0x8204 => some u.fallbacks.toNat
  | 0x8205 => some u.restoresDone.toNat
  | 0x8206 => some u.restoresFailed.toNat
  | 0x8207 => some u.devRefused.toNat
  | 0x8208 => some (intBits 16 u.suspCurrent)
  | 0x8210 => some u.replaysTotal.toNat
  | 0x8211 => some u.exhaustedTotal.toNat
  | 0x8220 => some (s.busReserved p)
  | 0x8221 => some (s.slotsReserved p)
  | 0x8232 => some (intBits 32 f.trim)
  | 0x8233 => some (intBits 32 f.phase)
  | 0x8234 => some f.bias.toNat
  | 0x8264 => some (s.getFifo p).correctedTotal.toNat
  | 0x8270 => some w.power
  | 0x8271 => some w.kind
  | 0x8272 => some w.contractWord
  | 0x8274 => some w.hardResets.toNat
  | 0x8280 => some r.tripsTotal.toNat
  | 0x8281 => some (r.cause + (if r.cause = 1 then (r.breakpoint - 1) * 16 else 0))
  | 0x8282 => some r.vSample
  | 0x8283 => some (intBits 16 r.iSample)
  | 0x8284 => some (intBits 16 r.mean)
  | 0x8285 => some r.exhaustions.toNat
  | _ => none

/-- Per-tenant telemetry: the 0x60 and 0x81 arrays, 0x8214 to 0x8226 and 0x8244. -/
def State.tenantReading (s : State) (idx t : Nat) : Option Nat :=
  let x := s.getTenants t
  match idx with
  | 0x6000 => some (loanCode x.loan)
  | 0x6008 => some x.lastResult.toNat
  | 0x6009 => some (s.leaseLeft t)
  | 0x600A => some x.generation.toNat
  | 0x6013 => some (b2n x.stopped)
  | 0x8101 => some x.power
  | 0x8102 => some x.periodic
  | 0x8103 => some x.vaultMib
  | 0x8104 => some x.share
  | 0x8120 => some x.stalls.toNat
  | 0x8121 => some x.retx.toNat
  | 0x8130 => some x.discLedger.toNat
  | 0x8131 => some x.discRecords.toNat
  | 0x8132 => some (s.tenantItems t).length
  | 0x8214 => some (s.ctxHeld t)
  | 0x8215 => some x.quotaRefused.toNat
  | 0x8222 => some (s.upCharge t true)
  | 0x8223 => some (s.upCharge t false)
  | 0x8226 => some x.lastRefusal
  | 0x8244 => some (s.regionsWritten t)
  | _ => none

/-- Identity, errors, security, locks and the Collection. -/
def State.systemReading (s : State) (idx sub : Nat) : Option Nat :=
  if 0x6400 ≤ idx ∧ idx ≤ 0x64FF then
    (if sub = 1 then some (s.lock (idx - 0x6400)).word
     else if sub = 2 then some (s.lock (idx - 0x6400)).epoch.toNat else none)
  else match idx, sub with
  | 0x1001, _ => some s.flt.errReg
  | 0x1003, 0 => some s.can.history.length
  | 0x1003, n => some (s.can.history.getD (n - 1) 0).toNat
  | 0x1018, 4 => some (s.boot.serial.toNat % 4294967296)
  | 0x2700, 1 => some (b2n s.boot.slot)
  | 0x2700, 2 => some s.boot.imageVersion
  | 0x2700, 3 => some s.boot.floor
  | 0x2701, 2 => some s.boot.imageCheck
  | 0x2703, 4 => some s.boot.serial.toNat
  | 0x7004, _ => some s.coll.epoch.toNat
  | 0x7006, _ => some s.quorumSet
  | 0x7008, _ => some s.coll.mismatch.toNat
  | _, _ => none

/-- Package-wide, gallery and wing telemetry of 0x8000 to 0x82FF. -/
def State.hubReading (s : State) (idx sub : Nat) : Option Nat :=
  match idx with
  | 0x8001 => some s.pendList.length
  | 0x8110 => some s.coll.discarded.toNat
  | 0x8122 => some s.upl.discarded.toNat
  | 0x8123 => some (s.cfg 0x2203 1 - s.mem.poolUsed)
  | 0x8133 => some (s.getTenants 0).generation.toNat
  | 0x8212 => some s.ctxFree
  | 0x8213 => some s.regs.storeRefused.toNat
  | 0x8224 => some (ceilDiv (s.wingCharge sub true) 32768000)
  | 0x8225 => some (ceilDiv (s.wingCharge sub false) 32768000)
  | 0x8230 => some s.ptp.state
  | 0x8231 => some (intBits 32 (satInt32 s.ptp.offset))
  | 0x8240 => some s.vault.regions
  | 0x8241 => some s.freeRegions
  | 0x8242 => some (SMap.get Nspace.reset s.vault.ns sub).code
  | 0x8243 => some s.vault.catchup.toNat
  | 0x8245 => some s.vault.errors.toNat
  | 0x8250 => some s.mov.descs.toNat
  | 0x8251 => some s.mov.moved.toNat
  | 0x8252 => some s.mov.busErrs.toNat
  | 0x8253 => some s.mov.mismatches.toNat
  | 0x8260 => some s.mem.corrTotal.toNat
  | 0x8261 => some s.mem.uncTotal.toNat
  | 0x8262 => some s.mem.passes.toNat
  | 0x8263 => some s.transitKib
  | 0x8265 => some s.mem.stuck.toNat
  | 0x8275 => some (s.reservedOf (portsOfGal sub))
  | 0x8276 => some (s.getGals sub).measured
  | 0x8277 => some (s.reservedOf allPorts)
  | 0x8290 => some (pwrCode s.dps.state)
  | 0x8292 => some s.dps.wakeCount.toNat
  | 0x8293 => some s.dps.overflows.toNat
  | 0x8294 => some s.dps.coreMv
  | 0x82A0 => some (s.flt.total.getD (sub - 1) 0)
  | 0x82A1 => some (intBits 16 (s.flt.wingTemp.getD (sub - 1) 0))
  | 0x82A2 => some (b2n s.flt.safeStop)
  | 0x82A3 => some (intBits 16 s.flt.coreTemp)
  | 0x82B0 => some s.boot.bootCount.toNat
  | 0x82B1 => some s.dbg.opens.toNat
  | _ => none

/-- Objects read as byte strings (03 R93, R108, 10 R299, 13 R349, 15 R406, 17 R439 to R445; 02 R52). -/
def State.bytesReading (s : State) (t idx sub : Nat) : Option Bytes :=
  match idx, sub with
  | 0x2702, _ => some s.boot.hash
  | 0x2703, 2 => some (padTo 256 (s.getTenants t).report)
  | 0x2703, 3 => some s.boot.cert
  | 0x7007, _ => some s.digest
  | 0x7010, m => some (padTo 32 (SMap.get [] s.coll.jobViews m))
  | 0x8002, _ => some (s.pendBytes t)
  | 0x8100, n => some (natLE 12 (s.getTenants n).ports.toNat)
  | 0x8273, p =>
    some (match (s.getPwr p).cable with
      | some c => natLE 4 c.idHeader.toNat ++ natLE 4 c.vdo.toNat
      | none => zeros 8)
  | 0x8291, _ => some (natLE 4 s.dps.wakeFirst.toNat ++ natLE 4 s.dps.wakeFail.toNat)
  | _, _ => none

/-- The number an object's own state gives it. -/
def State.numReading (s : State) (idx sub : Nat) : Option Nat :=
  ((s.portReading idx sub).or (s.tenantReading idx sub)).or ((s.systemReading idx sub).or (s.hubReading idx sub))

/-- What principal `t` reads from an object (00 R11; 02 R41, R42). -/
def State.readObj (s : State) (t idx sub : Nat) : Bytes :=
  if sub = 0 ∧ 0 < highestSub idx objTable ∧ countSub idx = false then natLE 1 (highestSub idx objTable)
  else
    let size := ((findRow idx sub objTable).bind (fun o => o.ty.size)).getD 0
    match s.bytesReading t idx sub with
    | some b => b
    | none => match s.numReading idx sub with
      | some v => natLE size v
      | none => match s.pendOf idx sub with
        | some v => v.value
        | none => s.cfgB idx sub

end Sys2Proof.Machine
end

