-- ==== Sys2Proof/Machine/Catalogue.lean ====
section
/-!
DEFINITION. Reads and writes of Catalogue objects: the checks of each object, its apply class and what a write does (00 R10 to R14;
02 R46 to R60, R488, R489; the object tables of every chapter).
-/
namespace Sys2Proof.Machine

/-! ### The checks of a value -/

/-- The value an object holds or will take: pending, else effective. -/
def State.heldVal (s : State) (idx sub : Nat) : Nat :=
  match s.pendOf idx sub with
  | some v => leNat v.value
  | none => s.cfg idx sub

/-- T_k of a trip curve breakpoint in us (14 R374). -/
def curveTime (w : Nat) : Nat := bitsOf w 16 14 * (if bitsOf w 30 2 = 0 then 1 else if bitsOf w 30 2 = 1 then 100 else 10000)

/-- Whether LEVEL does not fall and T_k does not rise along the breakpoints (14 R375). -/
def curveOrder : List Nat → Bool
  | a :: b :: l => decide (bitsOf a 0 12 ≤ bitsOf b 0 12) && decide (curveTime b ≤ curveTime a) && curveOrder (b :: l)
  | _ => true

/-- Whether a trip curve is accepted (14 R375). -/
def curveOk (d : Bytes) : Bool :=
  let ws := (List.range 8).map (fun k => leNat (slice d (4 * k) 4))
  ws.all (fun w => decide (1000 ≤ bitsOf w 0 12) && decide (bitsOf w 0 12 ≤ 4000) && decide (bitsOf w 12 4 = 0) &&
    decide (1 ≤ bitsOf w 16 14) && decide (bitsOf w 30 2 ≠ 3) && decide (10 ≤ curveTime w)) && curveOrder ws

/-- Whether the settings of the packet buffer's parts fit: the first three in 56 MiB, all four in 62 MiB (10 R291, 11 R307). -/
def State.partsFit (s : State) (idx sub v : Nat) : Bool :=
  let at_ := fun (i j : Nat) => if idx = i ∧ sub = j then v else s.heldVal i j
  let three := at_ 0x2203 1 + at_ 0x2205 2 + at_ 0x2302 0
  decide (three ≤ 57344) && decide (three + at_ 0x2400 1 ≤ 63488)

/-- Whether a TPDO mapping entry may be made; the subindex 0 of an array or record is a U8 (02 R41, R60). -/
def mapOk (v : Nat) : Bool :=
  let idx := v / 65536
  if v / 256 % 256 = 0 ∧ 0 < highestSub idx objTable then decide (0x8000 ≤ idx) && decide (idx ≤ 0x8FFF) && decide (v % 256 = 8)
  else match findRow idx (v / 256 % 256) objTable with
  | some o =>
    decide (0x8000 ≤ idx) && decide (idx ≤ 0x8FFF) && o.ty.numeric && decide (o.ty ≠ .u64) && decide (o.ty.size.getD 0 * 8 = v % 256)
  | none => false

/-- The bits that the first `n` entries of a TPDO's mapping map (02 R60). -/
def State.mapBits (s : State) (idx n : Nat) : Nat := sumOf ((List.range n).map (fun k => s.cfg idx (k + 1) % 256))

/-- Whether a TPDO is valid: bit 31 of its COB-ID is 0 (02 R60). -/
def State.tpdoValid (s : State) (k : Nat) : Bool := !(bitOf (s.cfg (0x1800 + k) 1) 31)

/-- The checks of a COB-ID, a mapping count and a mapping entry and a transmission type (02 R59, R60, R488). -/
def State.pdoCheck (s : State) (idx sub v : Nat) : Nat :=
  if idx < 0x1A00 then
    (if sub = 2 then (if v = 254 ∨ v = 255 then 0 else 0x06090030)
     else if sub ≠ 1 then 0
     else if 0x800007FF < v then 0x06090031
     else if v / 2048 % 1048576 ≠ 0 then 0x06090030
     else if s.tpdoValid (idx - 0x1800) ∧ v % 2147483648 ≠ s.cfg idx 1 % 2147483648 then 0x08000022 else 0)
  else if sub = 0 ∧ 512 < s.mapBits idx v then 0x06040042
  else if sub ≠ 0 ∧ mapOk v = false then 0x06040041
  else if s.tpdoValid (idx - 0x1A00) then 0x08000022 else 0

/-- The check of a port's power budget (13 R361; 18 R468). -/
def State.budgetCheck (s : State) (p v : Nat) : Nat :=
  let mine := max (s.budget p) v
  let sum := fun (ps : List Nat) => s.reservedOf (ps.filter (fun q => decide (q ≠ p))) + mine
  if s.cfg 0x4010 p = 0 ∧ 0 < v then 0x08000022
  else if s.cfg 0x3010 (galOf p) < sum (portsOfGal (galOf p)) ∨ s.cfg 0x2040 1 < sum allPorts then 0x06090031
  else 0

/-- The check of a translator slot share (08 R239, R255). -/
def State.shareCheck (s : State) (p v : Nat) : Nat :=
  if 48 < v + sumOf (((portsOfGal (galOf p)).filter (fun q => decide (q ≠ p))).map (s.cfg 0x4040)) then 0x06090031
  else if v < s.slotsReserved p then 0x06090032 else 0

/-- The check of a speed fallback write: the Gen 1x1 charges stay within every limit (08 R246). -/
def State.fallbackCheck (s : State) (p v : Nat) : Nat :=
  if v = 0 then 0
  else
    let cs := (s.reservedPipes (fun x => decide (x.port = p))).flatMap (fun x => (s.getUsb p).charges x v (s.cfg 0x4040 p))
    if chargesFit 1 [] cs ∧ chargesFit 2 [] cs = true then 0 else 0x06090031

/-- Whether a write would leave no operator path enabled (02 R54). -/
def State.lastPath (s : State) (sub v : Nat) : Bool :=
  decide (v = 0) && [1, 2, 3, 4].all (fun j => decide (j = sub) || decide (s.cfg 0x2011 j = 0))

/-- The checks that the owning rules add to an object's set of values, for a numeric object. -/
def State.numCheck (s : State) (t idx sub v : Nat) : Nat :=
  if (0x1800 ≤ idx ∧ idx ≤ 0x1803) ∨ (0x1A00 ≤ idx ∧ idx ≤ 0x1A03) then s.pdoCheck idx sub v
  else if 0x6400 ≤ idx ∧ idx ≤ 0x64FF then
    (if sub = 3 then (if v = 0 then 0x06090032 else if 3 < v then 0x06090031 else if v = 3 ∧ t ≠ 0 then 0x06090030 else 0)
     else if 64 < v ∧ v < 255 then 0x06090030 else 0)
  else match idx, sub with
  | 0x2011, j => if s.lastPath j v then 0x08000021 else 0
  | 0x2021, 2 => if v < max (s.upCharge 0 true) (s.upCharge 0 false) then 0x06090032 else 0
  | 0x2040, 1 => if v < s.reservedOf allPorts then 0x06090032 else 0
  | 0x2203, 1 => if s.partsFit 0x2203 1 v then 0 else 0x06090031
  | 0x2205, 2 => if s.partsFit 0x2205 2 v then 0 else 0x06090031
  | 0x2302, _ => if s.partsFit 0x2302 0 v then 0 else 0x06090031
  | 0x2400, 1 => if s.partsFit 0x2400 1 v then 0 else 0x06090031
  | 0x3010, g => if v < s.reservedOf (portsOfGal g) then 0x06090032 else 0
  | 0x3012, g => if v < s.vconnPorts g * 1000 then 0x06090032 else 0
  | 0x4012, p => s.budgetCheck p v
  | 0x4023, p => s.fallbackCheck p v
  | 0x4040, p => s.shareCheck p v
  | 0x4062, p => if 65535 < s.units p v then 0x06090031 else 0
  | 0x4065, p => if 65535 < s.cfg 0x4062 p * v / 5000 then 0x06090031 else 0
  | _, _ => 0

/-- The checks of a byte string (04 R136 0x2202; 10 R272; 14 R375). -/
def bytesCheck (idx sub : Nat) (d : Bytes) : Nat :=
  if idx = 0x2202 ∧ sub = 1 then (if (d.getD 5 0).toNat % 8 = 0 then 0 else 0x06090030)
  else if idx = 0x2301 then (if (d.getD 0 0).toNat ≤ 8 then 0 else 0x06090030)
  else if idx = 0x4060 then (if curveOk d then 0 else 0x06090030)
  else 0

/-! ### What a write does -/

/-- The secret store slot of a key object (17 R446). -/
def keySlot (idx sub : Nat) : Option Nat :=
  if idx = 0x2205 ∧ sub = 1 then some 0 else if idx = 0x6006 then some sub else if idx = 0x7003 then some 65 else none

/-- A value held pending, as its principal wrote it (00 R11, R12). -/
def State.hold (s : State) (t idx sub : Nat) (d : Bytes) : State := s.setPend idx sub (some ⟨d, t⟩)

/-- A B-class value: kept in the boot flash before it is held (02 R51). -/
def State.writeB (s : State) (t idx sub : Nat) (d : Bytes) : State × Nat :=
  if s.cat.flashFail then (s, 0x06060000)
  else ((s.flash (fun f => { f with values := SMap.put none f.values (objKey idx sub) (some d) })).hold t idx sub d, 0)

/-- What an immediate write does beside taking effect. -/
def State.afterI (s : State) (idx sub : Nat) : State :=
  match idx, sub with
  | 0x1003, _ => s.modCan (fun c => { c with history := [] })
  | 0x2100, 3 => s.modRegs (fun r => { r with custWakeEn := BitVec.ofNat 32 (s.cfg 0x2100 3) })
  | 0x2100, 4 => s.modRegs (fun r => { r with custAlarm := BitVec.ofNat 32 (s.cfg 0x2100 4), alarmEdges := 0 })
  | 0x2200, 4 => s.applyLinkEnables
  | 0x2204, 2 => s.movePtp
  | 0x3000, g => (portsOfGal g).foldl State.serve s
  | 0x4062, p => s.setFast p
  | _, _ => s

/-- Writes that are requests to act: what they do and their abort code; none for other objects. -/
def State.actWrite (s : State) (path : Path) (idx sub v : Nat) (d : Bytes) : Option (State × Nat) :=
  if 0x6400 ≤ idx ∧ idx ≤ 0x64FF ∧ sub = 3 then some (s.lockReq (idx - 0x6400) v path)
  else match idx, sub with
  | 0x2300, 2 => some (if v = 0 then s.vaultOff else (s.setEff 0x2300 2 [1], 0))
  | 0x2304, _ => some (let r := s.setAllot 0 v; if r.2 = 0 then (r.1.setEff 0x2304 0 d, 0) else r)
  | 0x2502, 1 => some (s.ack (v % 256) (v / 256), 0)
  | 0x2502, 2 => some s.stopRelease
  | 0x2700, 4 => some s.rollback
  | 0x2701, 3 => some s.imageVerify
  | 0x2703, 1 => some (s.attest (s.principalOf path) d)
  | 0x4024, p => some (s.resetDevice p v)
  | 0x402D, p => some (s.releaseAsked p)
  | 0x6007, t => some (s.loanAction t v)
  | 0x7005, _ => some s.propose
  | _, _ => none

/-- Whether VBUS of a port is off: its switch is *Off*, *Cooling*, or *Locked* after a drain (00 R10 class V; 14 R383, R384). -/
def State.vbusIsOff (s : State) (p : Nat) : Bool :=
  let r := s.getProt p
  decide (r.sw = .off) || decide (r.sw = .cooling) || (decide (r.sw = .locked) && !r.stuck)

/-- A value that passed its checks is stored as its apply class says (00 R10 to R13; 13 R357). -/
def State.store (s : State) (path : Path) (idx sub : Nat) (d : Bytes) : State × Nat :=
  let t := s.principalOf path
  match s.actWrite path idx sub (leNat d) d with
  | some r => r
  | none =>
    match keySlot idx sub with
    | some k => let r := s.keyWrite k d; if r.2 = 0 then (r.1.hold t idx sub (zeros 32), 0) else r
    | none =>
      match clsOf idx sub with
      | some .m =>
        let s := s.hold t idx sub d
        (if (s.getFt sub).running then s else s.applyPort sub, 0)
      | some .c =>
        let s := s.hold t idx sub d
        (if (s.getPwr sub).cc = .attached then s.renegotiate sub else if (s.getPwr sub).cc = .withheld then s else s.takeC sub, 0)
      | some .v => let s := s.hold t idx sub d; (if s.vbusIsOff sub then s.takeV sub else s, 0)
      | some .s | some .e => (s.hold t idx sub d, 0)
      | some .b => s.writeB t idx sub d
      | _ =>
        let s := (s.setEff idx sub d).afterI idx sub
        (if idx = 0x2100 ∧ sub = 1 then
          s.requestState (pwrOf (leNat d)) (match path with | .house _ => true | _ => false)
         else s, 0)

/-- Whether an object is of a type that transfers hold (02 R48). -/
def holdable (idx sub : Nat) : Bool := match findRow idx sub objTable with | some o => !o.ty.numeric | none => false

/-- Whether another path's transfer holds an OCTETS, VISIBLE_STRING or DOMAIN object; DESIGN CHOICE: each house session is a path of
its own (02 R48; log entry 102). -/
def State.heldElsewhere (s : State) (path : Path) (idx sub : Nat) : Bool :=
  s.cat.held.any (fun h => decide (h.path ≠ path) && decide (h.index = idx) && decide (h.sub = sub)) ||
    (decide (path ≠ .can) && holdable idx sub && (match s.can.sdo with | some x => !x.upload && decide (x.index = idx) && decide (x.sub = sub) | none => false))

/-- A whole value written: checked and stored (02 R46, R488). -/
def State.writeWhole (s : State) (path : Path) (o : Obj) (idx sub : Nat) (d : Bytes) : State × Nat :=
  if o.ty.numeric then
    let v := leNat d
    let a := o.vset.check v
    let b := if a ≠ 0 then a else s.numCheck (s.principalOf path) idx sub v
    if b ≠ 0 then (s, b)
    else s.store path idx sub (match o.mask with | some m => natLE d.length (v &&& m) | none => d)
  else
    let b := bytesCheck idx sub d
    if b ≠ 0 then (s, b) else s.store path idx sub d

/-- The transfer of a path to an object is dropped. -/
def State.dropHeld (s : State) (path : Path) (idx sub : Nat) : State :=
  s.modCat (fun c => { c with
    held := c.held.filter (fun h => decide (h.path ≠ path) || decide (h.index ≠ idx) || decide (h.sub ≠ sub)) })

/-- A write of part of an OCTETS value: a held transfer of its path begins, goes on, ends or aborts (02 R48, R489). -/
def State.writePart (s : State) (path : Path) (o : Obj) (idx sub n off : Nat) (d : Bytes) : State × Nat :=
  match s.cat.held.find? (fun h => decide (h.path = path) && decide (h.index = idx) && decide (h.sub = sub)) with
  | some h =>
    if off ≠ h.data.length ∨ n < off + d.length then (s.dropHeld path idx sub, 0x06070010)
    else if off + d.length = n then (s.dropHeld path idx sub).writeWhole path o idx sub (h.data ++ d)
    else
      ((s.dropHeld path idx sub).modCat (fun c => { c with held := c.held ++ [⟨path, idx, sub, h.data ++ d⟩] }), 0)
  | none =>
    if off ≠ 0 ∨ n < d.length then (s, 0x06070010)
    else if d.length = n then s.writeWhole path o idx sub d
    else (s.modCat (fun c => { c with held := c.held ++ [⟨path, idx, sub, d⟩] }), 0)

/-- A write at an offset, once the access may be made (02 R48, R489; 17 R442). -/
def State.writeAt (s : State) (path : Path) (idx sub off : Nat) (d : Bytes) : State × Nat :=
  match findRow idx sub objTable with
  | none => (s, 0x06090011)
  | some o =>
    if s.heldElsewhere path idx sub then (s, 0x08000021)
    else if o.ty.numeric then
      (if off ≠ 0 ∨ d.length ≠ o.ty.size.getD 0 then (s, 0x06070010) else s.writeWhole path o idx sub d)
    else match o.ty with
      | .octets n => s.writePart path o idx sub n off d
      | .dom => s.imageWrite off d
      | _ => if off ≠ 0 then (s, 0x06070010) else s.writeWhole path o idx sub d

/-- A read at an offset, once the access may be made: abort code, data, and whether more bytes follow (02 R489). -/
def State.readAt (s : State) (path : Path) (idx sub off len : Nat) : Nat × Bytes × Bool :=
  let b := s.readObj (s.principalOf path) idx sub
  let whole := match findRow idx sub objTable with
    | some o => o.ty.numeric
    | none => true
  let fixed := match findRow idx sub objTable with
    | some o => (match o.ty with | .octets _ => true | _ => false)
    | none => false
  if whole then (if off ≠ 0 ∨ len < b.length then (0x06070010, [], false) else (0, b, false))
  else if fixed ∧ b.length ≤ off then (0x06070010, [], false)
  else (0, slice b off len, decide (off + len < b.length))

/-- A disabled house path ends every live house session; the one that carried the write ends once its response has gone out (02 R54; 05
R146). -/
def State.housePathOff (s : State) (path : Path) : State :=
  if s.cfg 0x2011 4 = 0 then
    (s.liveSess 0).foldl (fun s n =>
      if (path = .house n ∨ (s.getSess n).pathEnd = true) ∧ (s.getSess n).wants = true then
        s.modSess n (fun x => { x with pathEnd := true })
      else s.endSession n 0x32 3 false false) s
  else s

/-! ### Records -/

/-- The form of a response record (02 R65). -/
def respRec (status tag idx sub flags abort_ : Nat) (d : Bytes) : Bytes :=
  natLE 1 status ++ natLE 1 tag ++ natLE 2 idx ++ natLE 1 sub ++ natLE 1 flags ++ natLE 2 d.length ++ natLE 4 abort_ ++ d

/-- A request record performed: the response record (02 R64, R65); none where the path is not served. -/
def State.doRecord (s : State) (path : Path) (r : Bytes) : Option (State × Bytes) :=
  let f := fun (o n : Nat) => if o < r.length then leNat (slice r o n) else 0
  let op := f 0 1
  let tag := f 1 1
  let idx := f 2 2
  let sub := f 4 1
  let len := f 6 2
  let off := f 8 4
  let write := decide (op = 2)
  let form :=
    if r.length < 12 then 0x05040001
    else if 1024 < len ∨ (write = true ∧ r.length ≠ 12 + len) ∨ (op = 1 ∧ r.length ≠ 12) then 0x06070010
    else if op ≠ 1 ∧ write = false then 0x05040001 else 0
  match s.reach path idx sub write with
  | none => none
  | some ab =>
    let bad := fun (s : State) (c : Nat) =>
      (s, respRec 1 tag idx sub (b2n (s.pendOf idx sub).isSome) c [])
    if form ≠ 0 then some (bad s form)
    else if ab ≠ 0 then some (bad s ab)
    else if write then
      let x := s.writeAt path idx sub off (r.drop 12)
      if x.2 ≠ 0 then some (bad x.1 x.2)
      else some (x.1, respRec 0 tag idx sub (b2n (x.1.pendOf idx sub).isSome) 0 [])
    else
      let x := s.readAt path idx sub off len
      if x.1 ≠ 0 then some (bad s x.1)
      else some (s, respRec 0 tag idx sub (b2n (s.pendOf idx sub).isSome + b2n x.2.2 * 2) 0 x.2.1)

/-- Whether a write waits for the answer of another member's lock server (03 R103). -/
def State.lockWaits (s t : State) : Bool := decide (s.coll.lockReqs.length < t.coll.lockReqs.length)

/-- The access of a `CAT_READ` or `CAT_WRITE` item: its completion body is the abort code, the length, the flags and the data read
(05 R153; 02 R65). -/
def State.catItem (s : State) (k : Nat) (i : Item) (write : Bool) : State :=
  let path := if i.principal = 0 then Path.house i.sess else Path.tenant i.sess
  let idx := i.f 0 2
  let sub := i.f 2 1
  let off := i.f 4 4
  let len := i.f 8 2
  let done := fun (s : State) (ab more : Nat) (d : Bytes) =>
    s.finishB k (if ab = 0 then 0 else 0x0C) (if ab = 0 then 0 else 0x09)
      (natBE 4 ab ++ natBE 2 d.length ++ natBE 1 (b2n (s.pendOf idx sub).isSome + more * 2) ++ zeros 1 ++ d)
  match s.reach path idx sub write with
  | none => done s 0x08000021 0 []
  | some ab =>
    if ab ≠ 0 then done s ab 0 []
    else if 1024 < len ∨ (write = true ∧ i.body.length ≠ 16 + len) then s.finish k 0x0C 0x01
    else if write then
      let x := s.writeAt path idx sub off (i.body.drop 16)
      if s.lockWaits x.1 then
        x.1.modColl (fun c => { c with
          lockReqs := c.lockReqs.dropLast ++ (c.lockReqs.getLast?.map (fun (q : LockReq) => { q with item := some k })).toList })
      else (done x.1 x.2 0 []).housePathOff path
    else
      let x := s.readAt path idx sub off len
      done s x.1 (b2n x.2.2) x.2.1

/-- The record CAT_READ (05 R153; 02 R489) reaches the virtual host. -/
def State.recCatRead (s : State) (r : Rec) : State :=
  s.takeRec 0x40 r true false false 16 (fun s k i => s.catItem k i false)

/-- CAT_READ (05 R153; 02 R489). -/
def execCatRead (r : Rec) (s : State) : Host.Outcome State Fault Refusal := .next (s.recCatRead r).settle

/-- The record CAT_WRITE (05 R153; 02 R489) reaches the virtual host. -/
def State.recCatWrite (s : State) (r : Rec) : State :=
  s.takeRec 0x41 r true false false 16 (fun s k i => s.catItem k i true)

/-- CAT_WRITE (05 R153; 02 R489). -/
def execCatWrite (r : Rec) (s : State) : Host.Outcome State Fault Refusal := .next (s.recCatWrite r).settle

end Sys2Proof.Machine
end

