-- ==== Sys2Proof/Machine/Paths.lean ====
section
/-!
DEFINITION. The access paths of the board: the SDO server, NMT, heartbeat and TPDOs on CAN FD, the Catalogue mailbox of the SPI target,
and the service port's records (02 R53 to R66, R489; 15 R391).
-/
namespace Sys2Proof.Machine

/-- A CAN frame, a fall of SPI_CS_N or a request on the service port while nothing serves it: in *Dormant* a wake event, the access
discarded; else nothing (15 R391). -/
def State.unserved (s : State) : State := if s.dps.state = .dormant then s.wake 6 0 else s

/-! ### The SDO server (02 R55 to R57; the frames are those of CiA 301) -/

/-- The open SDO transfer ended. -/
def State.sdoClose (s : State) : State := s.modCan (fun c => { c with sdo := none })

/-- The open SDO transfer changed. -/
def State.sdoKeep (s : State) (x : SdoXfer) : State := s.modCan (fun c => { c with sdo := some x })

/-- The open transfer, if any, aborted with `ab` (02 R55, R56). -/
def State.sdoAbort (s : State) (ab : Nat) : State :=
  match s.can.sdo with
  | some x => s.sdoClose.sdoDone x.index x.sub ab
  | none => s

/-- A message that fits no open transfer: its command specifier is not valid (02 R57). -/
def State.sdoBad (s : State) : State :=
  match s.can.sdo with
  | some x => s.sdoClose.sdoDone x.index x.sub 0x05040001
  | none => s.sdoDone 0 0 0x05040001

/-- Served in Pre-operational and Operational while the core serves CAN; else not answered (02 R55; 15 R391). -/
def State.sdoServed (s : State) (f : State → State) : State :=
  if s.coreServes = false then s.unserved else if s.can.nmt = .stopped then s else f s

/-- The length a value of an object must have; none where it may vary. -/
def fixedLen (idx sub : Nat) : Option Nat := (findRow idx sub objTable).bind (fun o => o.ty.size)

/-- A whole value written over SDO (02 R57, R488; 17 R442). -/
def State.sdoWrite (s : State) (idx sub : Nat) (d : Bytes) : State × Nat :=
  match fixedLen idx sub with
  | some n => if d.length ≠ n then (s, 0x06070010) else s.writeAt .can idx sub 0 d
  | none => s.writeAt .can idx sub 0 d

/-- A write completed over SDO and what answers it: the frame of `ok`, an abort, or nothing yet where a lock server has to answer. -/
def State.sdoStore (s : State) (idx sub : Nat) (d ok : Bytes) : State :=
  let r := s.sdoWrite idx sub d
  (if s.lockWaits r.1 then r.1 else if r.2 = 0 then r.1.sdoSend ok else r.1.sdoDone idx sub r.2).housePathOff .can

/-- An initiate request: an open transfer is aborted, then the access is checked (02 R55, R57). -/
def State.sdoInitiate (s : State) (idx sub : Nat) (write : Bool) (f : State → State) : State :=
  let s := s.sdoAbort 0x05040001
  match s.reach .can idx sub write with
  | none => s
  | some 0 => f s
  | some ab => s.sdoDone idx sub ab

/-- A segment or block message while the path is disabled: refused, and the open transfer ends with it (02 R53). -/
def State.sdoGoes (s : State) (f : State → State) : State :=
  if s.pathOn .can then f s
  else match s.can.sdo with
    | some _ => s.sdoAbort 0x08000021
    | none => s.sdoDone 0 0 0x08000021

/-- The initiate-download request (02 R55). -/
def State.sdoDownload (s : State) (r : SdoInit) : State :=
  s.sdoInitiate r.index r.sub true (fun s =>
    let head := natLE 2 r.index ++ natLE 1 r.sub
    if r.expedited then s.sdoStore r.index r.sub r.data (natLE 1 0x60 ++ head)
    else if s.heldElsewhere .can r.index r.sub then s.sdoDone r.index r.sub 0x08000021
    else if (match r.size, fixedLen r.index r.sub with | some a, some b => decide (a ≠ b) | _, _ => false) then
      s.sdoDone r.index r.sub 0x06070010
    else
      (s.sdoKeep ⟨r.index, r.sub, false, r.block, [], false, 0, false, r.size⟩).sdoSend
        (if r.block then natLE 1 0xA4 ++ head ++ natLE 4 127 else natLE 1 0x60 ++ head))

/-- The initiate-upload request; of up to 4 bytes expedited, or by blocks of `block` segments (02 R55; 1 to 127 segments). -/
def State.sdoUpload (s : State) (idx sub : Nat) (block : Option Nat) : State :=
  s.sdoInitiate idx sub false (fun s =>
    let d := s.readObj 0 idx sub
    let n := d.length
    let head := natLE 2 idx ++ natLE 1 sub
    match block with
    | some b =>
      if b = 0 ∨ 127 < b then s.sdoDone idx sub 0x05040001
      else (s.sdoKeep ⟨idx, sub, true, true, d, false, b, false, some 0⟩).sdoSend (natLE 1 0xC6 ++ head ++ natLE 4 n)
    | none =>
      if 1 ≤ n ∧ n ≤ 4 then s.sdoSend (natLE 1 (0x43 + (4 - n) * 4) ++ head ++ d)
      else (s.sdoKeep ⟨idx, sub, true, false, d, false, 0, false, none⟩).sdoSend (natLE 1 0x41 ++ head ++ natLE 4 n))

/-- A segment of a segmented transfer (02 R56). -/
def State.sdoSegment (s : State) (seg : SdoSeg) : State :=
  match s.can.sdo, seg with
  | some x, .down t last d =>
    let all := x.data ++ d
    if x.upload = true ∨ x.block = true ∨ t ≠ x.toggle ∨ d.length = 0 ∨ 7 < d.length then s.sdoBad
    else if (match x.size with | some n => decide (n < all.length) || (last && decide (n ≠ all.length)) | none => false) then
      s.sdoAbort 0x06070010
    else if last then s.sdoClose.sdoStore x.index x.sub all (natLE 1 (0x20 + b2n t * 16))
    else (s.sdoKeep { x with data := all, toggle := !t }).sdoSend (natLE 1 (0x20 + b2n t * 16))
  | some x, .up t =>
    if x.upload = false ∨ x.block = true ∨ t ≠ x.toggle then s.sdoBad
    else
      let d := x.data.take 7
      let last := decide (x.data.length ≤ 7)
      (if last then s.sdoClose else s.sdoKeep { x with data := x.data.drop 7, toggle := !t }).sdoSend
        (natLE 1 (b2n t * 16 + (7 - d.length) * 2 + b2n last) ++ d)
  | none, _ => s.sdoBad

/-- The segments of the next block of an upload, from what is not yet acknowledged. -/
def State.sdoSendBlock (s : State) (d : Bytes) (n : Nat) : State :=
  let segs := min n (max 1 (ceilDiv d.length 7))
  (List.range segs).foldl
    (fun s k => s.sdoSend (natLE 1 (k + 1 + b2n (decide (d.length ≤ (k + 1) * 7)) * 128) ++ slice d (k * 7) 7)) s

/-- CRC-16 of a block transfer (CiA 301). -/
def sdoCrc (d : Bytes) : Nat := crcOf 16 0x1021 0 0 false false d

/-- A message of a block transfer, checked for its sequence number (02 R57). -/
def State.sdoBlock (s : State) (seg : SdoBlock) : State :=
  match s.can.sdo with
  | none => s.sdoBad
  | some x =>
    let seen := x.size.getD 0
    match seg with
    | .down q last d =>
      if x.upload = true ∨ x.block = false then s.sdoBad
      else if x.lastSeen = true ∨ q ≠ x.seqno + 1 ∨ 127 < q then s.sdoAbort 0x05040003
      else
        let x' := { x with data := x.data ++ padTo 7 (d.take 7), seqno := if last ∨ q = 127 then 0 else q, lastSeen := last }
        (if last ∨ q = 127 then (s.sdoKeep x').sdoSend (natLE 1 0xA2 ++ natLE 1 q ++ natLE 1 127) else s.sdoKeep x')
    | .downEnd unused =>
      if x.upload = true ∨ x.block = false ∨ x.lastSeen = false ∨ 7 < unused then s.sdoBad
      else
        let d := x.data.take (x.data.length - unused)
        if (match x.size with | some n => decide (n ≠ d.length) | none => false) then s.sdoAbort 0x06070010
        else s.sdoClose.sdoStore x.index x.sub d (natLE 1 0xA1)
    | .upStart => if x.upload = false ∨ x.block = false then s.sdoBad else s.sdoSendBlock (x.data.drop seen) x.seqno
    | .upAck q n =>
      let left := x.data.length - seen
      if x.upload = false ∨ x.block = false ∨ x.lastSeen = true ∨ n = 0 ∨ 127 < n then s.sdoBad
      else if min x.seqno (max 1 (ceilDiv left 7)) < q then s.sdoAbort 0x05040003
      else if left ≤ q * 7 then
        (s.sdoKeep { x with lastSeen := true }).sdoSend
          (natLE 1 (0xC1 + (if left = 0 then 7 else ceilDiv left 7 * 7 - left) * 4) ++ natLE 2 (sdoCrc x.data))
      else (s.sdoKeep { x with size := some (seen + q * 7), seqno := n }).sdoSendBlock (x.data.drop (seen + q * 7)) n
    | .upEnd => if x.upload = false ∨ x.block = false ∨ x.lastSeen = false then s.sdoBad else s.sdoClose

/-- No segment has arrived for tSDOTO: a partly received write is discarded (02 R56). -/
def State.sdoLate (s : State) : State := if s.can.nmt = .stopped then s.sdoClose else s.sdoAbort 0x05040000

/-! ### NMT, heartbeat and TPDOs -/

/-- An NMT command to this node or to all: start, stop, enter Pre-operational; a reset of the node or of its communication enters
Pre-operational (02 R55; CiA 301). -/
def State.nmt (s : State) (cmd node : Nat) : State :=
  if s.coreServes = false then s.unserved
  else if node ≠ 0 ∧ node ≠ s.nodeId then s
  else
    let to_ := fun (x : Nmt) => s.modCan (fun c => { c with nmt := x })
    if cmd = 1 then to_ .operational else if cmd = 2 then to_ .stopped else if cmd = 128 ∨ cmd = 129 ∨ cmd = 130 then to_ .preop else s

/-- The NMT state as a heartbeat carries it (CiA 301). -/
def nmtCode : Nmt → Nat
  | .preop => 127
  | .operational => 5
  | .stopped => 4

/-- The CAN heartbeat, which an interval of 0 and *Dormant* stop (02 R53; 15 R391). -/
def State.heartbeat (s : State) : State :=
  if s.coreServes = true ∧ s.cfg 0x1017 0 ≠ 0 then s.emit (.can (0x700 + s.nodeId) (natLE 1 (nmtCode s.can.nmt))) else s

/-- The mapped values of a TPDO (02 R58). -/
def State.tpdoData (s : State) (n : Nat) : Bytes :=
  (List.range (s.cfg (0x19FF + n) 0)).flatMap (fun k =>
    let e := s.cfg (0x19FF + n) (k + 1)
    s.readObj 0 (e / 65536) (e / 256 % 256))

/-- The next CAN FD data length (02 R58). -/
def canLen (n : Nat) : Nat := ([0, 1, 2, 3, 4, 5, 6, 7, 8, 12, 16, 20, 24, 32, 48].find? (fun l => decide (n ≤ l))).getD 64

/-- Whether TPDO `n` is produced now: Operational, and valid (02 R58, R59). -/
def State.tpdoOn (s : State) (n : Nat) : Bool :=
  s.coreServes && decide (s.can.nmt = .operational) && s.tpdoValid (n - 1)

/-- TPDO `n` sent, and its inhibit time begun (02 R58, R59). -/
def State.tpdoOut (s : State) (n : Nat) : State :=
  let d := s.tpdoData n
  (s.setTpdo n { s.tpdoOf n with held := false, inhibit := decide (s.cfg (0x17FF + n) 3 ≠ 0) }).emit
    (.can (s.cfg (0x17FF + n) 1 % 2048) (padTo (canLen d.length) d))

/-- A sending of TPDO `n` falls due: made, or held by the inhibit time (02 R59). -/
def State.tpdoDue (s : State) (n : Nat) : State :=
  if s.tpdoOn n = false then s
  else if (s.tpdoOf n).inhibit then s.setTpdo n { s.tpdoOf n with held := true }
  else s.tpdoOut n

/-- The event timer of TPDO `n` expires (02 R59). -/
def State.tpdoTimer (s : State) (n : Nat) : State := if s.cfg (0x17FF + n) 5 = 0 then s else s.tpdoDue n

/-- The 1 ms comparison of TPDO `n` (02 R59). -/
def State.tpdoCompare (s : State) (n : Nat) : State :=
  let d := s.tpdoData n
  let old := (s.tpdoOf n).last
  let s := s.setTpdo n { s.tpdoOf n with last := d }
  if old ≠ d ∧ old ≠ [] ∧ s.cfg (0x17FF + n) 2 = 0xFE then s.tpdoDue n else s

/-- The inhibit time of TPDO `n` ends: a held sending is made with the values of that moment (02 R59). -/
def State.tpdoFree (s : State) (n : Nat) : State :=
  let held := (s.tpdoOf n).held
  let s := s.setTpdo n { s.tpdoOf n with inhibit := false, held := false }
  if held ∧ s.tpdoOn n = true then s.tpdoOut n else s

/-! ### The SPI target and the service port -/

/-- A held OCTETS transfer of a path that received no write for tSDOTO: the one longest without a write aborts (02 R489). -/
def State.heldLate (s : State) (path : Path) : State :=
  match s.cat.held.find? (fun h => decide (h.path = path)) with
  | some h => (s.dropHeld path h.index h.sub).emit (.answer path h.index h.sub 0x05040000)
  | none => s

/-- A request record performed over a record path: its response, with STATUS 0xFF while a lock server has to answer (02 R64, R65; 03
R103). -/
def State.recordOf (s : State) (path : Path) (r : Bytes) (put : State → Bool → Bytes → State) : State :=
  match s.doRecord path r with
  | none => s.unserved
  | some x => (put x.1 (s.lockWaits x.1) (if s.lockWaits x.1 then 0xFF :: x.2.drop 1 else x.2)).housePathOff path

/-- Whether the SPI target is served: in service, in recovery, or at the end of start-up (02 R79; 15 R391; 17 R433, R441). -/
def State.spiServes (s : State) : Bool := s.coreServes || decide (s.boot.phase = .recovery) || s.boot.started

/-- A Catalogue request on the SPI target (02 R63). -/
def State.spiRequest (s : State) (r : Bytes) : State :=
  if s.spiServes = false then s.unserved
  else if s.board.rspReady || s.board.reqBusy then s.modBoard (fun b => { b with overrun := true })
  else s.recordOf .spi r (fun s waits d => s.modBoard (fun b => { b with rsp := d, rspReady := !waits, reqBusy := waits }))

/-- A Catalogue response transaction of `n` bytes (02 R63). -/
def State.spiResponse (s : State) (n : Nat) : State :=
  if s.spiServes = false then s.unserved
  else if s.board.rspReady then
    let s := s.emit (.spi ((padTo n s.board.rsp).take n))
    if s.board.rsp.length ≤ n then s.modBoard (fun b => { b with rspReady := false }) else s
  else s.emit (.spi ((padTo n [2]).take n))

/-- SPI_STAT as a number (02 R80). -/
def Board.stat (b : Board) : Nat :=
  b2n b.rspReady + b2n b.overrun * 2 + b2n b.badOp * 4 + b2n b.reqBusy * 8 + b2n b.rspIrqEn * 128

/-- A status transaction of `n` bytes (02 R61). -/
def State.spiStatus (s : State) (n : Nat) : State :=
  if s.spiServes then s.emit (.spi (List.replicate n (BitVec.ofNat 8 s.board.stat))) else s.unserved

/-- A transaction with an unknown opcode (02 R61). -/
def State.spiUnknown (s : State) : State :=
  if s.spiServes then s.modBoard (fun b => { b with badOp := true }) else s.unserved

/-- A request on the service port: the ninth outstanding is refused and not counted (02 R66). -/
def State.svcAsk (s : State) (r : Bytes) : State :=
  let put := fun (s : State) (counts : Bool) (d : Bytes) => s.modBoard (fun b => { b with svcQueue := b.svcQueue ++ [(counts, d)] })
  if s.svc.data = false then s
  else if 8 ≤ (s.board.svcQueue.filter (·.1)).length then
    (if s.spiServes then
      (let idx := leNat (slice r 2 2)
       let sub := leNat (slice r 4 1)
       put s false (respRec 1 (leNat (slice r 1 1)) idx sub (b2n (s.pendOf idx sub).isSome) 0x08000021 []))
     else s.unserved)
  else s.recordOf .svc r (fun s _ d => put s true d)

/-- The host reads the oldest response of the service port, if it is ready (02 R66). -/
def State.svcRead (s : State) : State :=
  match s.board.svcQueue with
  | e :: l => if slice e.2 0 1 = [0xFF] then s else (s.emit (.svc e.2)).modBoard (fun b => { b with svcQueue := l })
  | [] => s

/-- SDO_INITIATE_DOWNLOAD (02 R55). -/
def execSdoInitiateDownload (req : SdoInit) (s : State) : Host.Outcome State Fault Refusal :=
  .next ((s.sdoServed (fun s => s.sdoDownload req)).settle)

/-- SDO_INITIATE_UPLOAD (02 R55). -/
def execSdoInitiateUpload (index : Nat) (sub : Nat) (block : Option Nat) (s : State) : Host.Outcome State Fault Refusal :=
  .next ((s.sdoServed (fun s => s.sdoUpload index sub block)).settle)

/-- SDO_SEGMENT (02 R56). -/
def execSdoSegment (seg : SdoSeg) (s : State) : Host.Outcome State Fault Refusal :=
  .next ((s.sdoServed (fun s => s.sdoGoes (fun s => s.sdoSegment seg))).settle)

/-- SDO_BLOCK_SEGMENT (02 R57). -/
def execSdoBlockSegment (seg : SdoBlock) (s : State) : Host.Outcome State Fault Refusal :=
  .next ((s.sdoServed (fun s => s.sdoGoes (fun s => s.sdoBlock seg))).settle)

/-- SDO_PROTOCOL_TIMED_OUT (02 R56). -/
def execSdoProtocolTimedOut (s : State) : Host.Outcome State Fault Refusal := .next s.sdoLate

/-- NMT_COMMAND (02 R55). -/
def execNmtCommand (cmd : Nat) (node : Nat) (s : State) : Host.Outcome State Fault Refusal := .next (s.nmt cmd node)

/-- CAN_HEARTBEAT (02 R53). -/
def execCanHeartbeat (s : State) : Host.Outcome State Fault Refusal := .next s.heartbeat

/-- TPDO_EVENT_TIMER_EXPIRY (02 R59). -/
def execTpdoEventTimerExpiry (n : Nat) (s : State) : Host.Outcome State Fault Refusal :=
  onUnit ((decide (1 ≤ n) && decide (n ≤ 4))) "TPDO" n (s.tpdoTimer n)

/-- TPDO_CHANGE_COMPARE (02 R59). -/
def execTpdoChangeCompare (n : Nat) (s : State) : Host.Outcome State Fault Refusal :=
  onUnit ((decide (1 ≤ n) && decide (n ≤ 4))) "TPDO" n (s.tpdoCompare n)

/-- TPDO_INHIBIT_TIME_END (02 R59). -/
def execTpdoInhibitTimeEnd (n : Nat) (s : State) : Host.Outcome State Fault Refusal :=
  onUnit ((decide (1 ≤ n) && decide (n ≤ 4))) "TPDO" n (s.tpdoFree n)

/-- HELD_TRANSFER_TIMEOUT (02 R489). -/
def execHeldTransferTimeout (path : Path) (s : State) : Host.Outcome State Fault Refusal := .next (s.heldLate path)

/-- SPI_CATALOGUE_REQUEST (02 R63). -/
def execSpiCatalogueRequest (record : Bytes) (s : State) : Host.Outcome State Fault Refusal :=
  .next ((s.spiRequest record).settle)

/-- SPI_CATALOGUE_RESPONSE (02 R63). -/
def execSpiCatalogueResponse (nbytes : Nat) (s : State) : Host.Outcome State Fault Refusal :=
  .next (s.spiResponse nbytes)

/-- SPI_STATUS (02 R61). -/
def execSpiStatus (n : Nat) (s : State) : Host.Outcome State Fault Refusal := .next (s.spiStatus n)

/-- SPI_UNKNOWN_OPCODE (02 R61). -/
def execSpiUnknownOpcode (_op : Nat) (s : State) : Host.Outcome State Fault Refusal := .next s.spiUnknown

/-- SERVICE_PORT_REQUEST (02 R66). -/
def execServicePortRequest (record : Bytes) (s : State) : Host.Outcome State Fault Refusal :=
  .next ((s.svcAsk record).settle)

/-- SERVICE_PORT_RESPONSE_READ (02 R66). -/
def execServicePortResponseRead (s : State) : Host.Outcome State Fault Refusal := .next s.svcRead

/-- SDO_ABORT_TRANSFER_REQUEST (02 R55). -/
def execSdoAbortTransferRequest (s : State) : Host.Outcome State Fault Refusal := .next (s.sdoServed State.sdoClose)

end Sys2Proof.Machine
end

