-- ==== Sys2Proof/Machine/Registers.lean ====
section
/-!
DEFINITION. The register space: what each register reads, what a read clears, what a write does, and the machinery of Custodian,
guarded, voted and parity-protected registers (00 R9; 02 R61 to R80; the register tables of every chapter).
-/
namespace Sys2Proof.Machine

/-! ### The window -/

/-- Where the mover area begins in the packet buffer (12 R328; log entry 31). -/
def State.areaBase (s : State) : Nat := (s.cfg 0x2203 1 + s.cfg 0x2205 2 + s.cfg 0x2302 0) * 1024

/-- An injection into the packet buffer fires at a read of the word at offset `o` of the mover area (16 R426). -/
def State.injectArea (s : State) (o : Nat) : State :=
  if s.flt.injAddr.toNat / 4 * 4 = s.areaBase + o ∧ o < s.areaSize then s.injectMem 1 else s

/-- The area offset a window address shows (11 R308). -/
def State.windowAt (s : State) (addr : Nat) : Nat := s.mov.page * 262144 + (addr - 0x380000)

/-- An access in the mover-area window; one not aligned to a word reads 0 and writes nothing (02 R67; 11 R308). -/
def State.windowAccess (s : State) (addr : Nat) (write : Option Word) : State :=
  if addr < 0x380000 ∨ 0x3BFFFF < addr then s
  else
    match write with
    | some w => if addr % 4 = 0 then s.areaWrite (s.windowAt addr) (natLE 4 w.toNat) else s
    | none =>
      if addr % 4 = 0 then
        (s.emit (.reg addr (BitVec.ofNat 32 (leNat (s.areaRead (s.windowAt addr) 4))))).injectArea (s.windowAt addr)
      else s.emit (.reg addr 0)

/-! ### Where registers lie (02 R67) -/

/-- The offsets of the registers of a port block (06 R200; 07 R235; 08 R255; 12 R340; 13 R368; 14 R386; 02 R77). -/
def portRegs : List Nat :=
  [0, 4, 8, 0x40, 0x80, 0x100, 0x104, 0x108, 0x200, 0x204, 0x208, 0x20C, 0x300, 0x304, 0x308, 0x30C, 0x310, 0x314, 0xF00]

/-- The registers that stand alone. -/
def loneRegs : List Nat :=
  [0, 0x10, 0x14, 0x18, 0x1C, 0x20, 0x30, 0x100, 0x108, 0x180, 0x184, 0x200, 0x204, 0x208, 0x300, 0x400, 0x404, 0x408, 0x500, 0x520,
   0x600, 0x604, 0x608, 0x60C, 0x610, 0x614, 0x700, 0x800, 0x804, 0x808, 0x10000, 0x10004, 0x20100, 0x20200, 0x20400,
   0x200000, 0x200004, 0x200008, 0x300000, 0x300004, 0x300008, 0x310000, 0x310004, 0x310010,
   0x400000, 0x400004, 0x400008, 0x40000C, 0x400010, 0x400014, 0x400018, 0x401000, 0x401004, 0x401008,
   0x500000, 0x500004, 0x500008, 0x500010, 0x500014]

/-- Whether an address names a register (02 R67; 16 R426). -/
def isReg (a : Nat) : Bool :=
  let bank := fun (base size n : Nat) (offs : List Nat) =>
    match bankAt base size n a with | some x => offs.contains x.2 | none => false
  let upTo := fun (n : Nat) => (List.range n).map (· * 4)
  loneRegs.contains a || bank 0x100000 0x1000 96 portRegs || bank 0x180000 0x1000 12 [0, 0x100, 0x104] || bank 0x540 64 1 (upTo 16) ||
    bank 0x10100 128 1 (upTo 32) || bank 0x210000 64 1024 (upTo 12) || bank 0x301000 32 16 (upTo 5) || bank 0x311000 64 32 (upTo 12) ||
    bank 0x320000 64 16 (0 :: (upTo 8).map (· + 8)) || bank 0x321000 64 1 (0 :: (upTo 9).map (· + 8)) || bank 0x400040 128 1 (upTo 32) ||
    bank 0x400100 16 5 [0, 4] || bank 0x400200 16 4 [0, 4] || bank 0x501000 16 96 (upTo 4)

/-! ### What registers read -/

/-- A word of flags, the first at bit 0. -/
def flagBits : List Bool → Nat
  | [] => 0
  | b :: l => b2n b + 2 * flagBits l

/-- Bit `k - 1` for each unit `k` of a list that satisfies `f`. -/
def unitBits (l : List Nat) (f : Nat → Bool) : Nat := sumOf ((l.filter f).map (fun k => 2 ^ (k - 1)))

/-- A record as FLT_FIRST lays it out (16 R428). -/
def Aggr.word (a : Aggr) : Nat :=
  match a.latched with
  | some r =>
    r.source % 256 + r.inst % 256 * 256 + r.cls % 4 * 65536 + r.die % 8 * 262144 + b2n r.injected * 2097152 + b2n a.overflow * 1073741824 + 2147483648
  | none => 0

/-- The state of a port's data side as PORT_STAT lays it out (06 R200). -/
def State.portStat (s : State) (p : Nat) : Nat :=
  let u := s.getUsb p
  portStateCode u.state + speedCode u.speed * 16 + b2n (s.getPwr p).orient * 128 + u.devices.length % 128 * 256 + b2n u.restore.isSome * 32768
    + u.linkpm * 65536 + b2n (decide (u.state = .suspended) && s.suspBound p) * 262144 + b2n u.noncompliant * 524288 + u.cap * 16777216

/-- PWR_STAT (13 R368). -/
def State.pwrStat (s : State) (p : Nat) : Nat :=
  let w := s.getPwr p
  let pos := s.queuePos p
  ccCode w.cc + w.kind * 8 + b2n w.vconn * 128 + w.rp * 256 + b2n w.epr * 1024 + b2n (decide (pos ≠ 0)) * 2048
    + b2n (s.frozen (galOf p)) * 4096 + (match w.cable with | none => 0 | some c => if c.caps.amps5 then 2 else 1) * 8192
    + b2n w.cableEpr * 32768 + pos * 65536

/-- PROT_STAT (14 R386). -/
def State.protStat (s : State) (p : Nat) : Nat :=
  let r := s.getProt p
  swCode r.sw + b2n r.offPend * 8 + b2n r.onPend * 16 + r.trips % 16 * 256 + r.cause % 16 * 4096 + b2n r.gate * 65536 + b2n r.bleed * 131072
    + b2n r.vbusGood * 262144 + b2n (s.getPwr p).ilimHeld * 524288

/-- The registers of a port block (06 R200; 07 R235; 08 R255; 12 R340; 13 R368; 14 R386). -/
def State.portReg (s : State) (p off : Nat) : Nat :=
  let u := s.getUsb p
  let w := s.getPwr p
  let r := s.getProt p
  let m := s.getFifo p
  match off with
  | 0x000 => s.portStat p
  | 0x004 => u.evt.toNat
  | 0x008 => u.irqEn.toNat
  | 0x040 => u.replays.toNat + u.exhausted.toNat * 65536
  | 0x080 =>
    s.busReserved p % 1048576 + b2n (decide (u.speed = .fs) || decide (u.speed = .ls)) * 1048576 + s.slotsReserved p % 64 * 2097152
  | 0x100 => s.fifoOut p + s.fifoIn p * 65536
  | 0x104 => m.outPeak + m.inPeak * 65536
  | 0x108 => m.corrected.toNat + m.uncorrectable.toNat * 65536
  | 0x200 => s.pwrStat p
  | 0x204 => w.contractWord
  | 0x208 => w.evt.toNat
  | 0x20C => w.irqEn.toNat
  | 0x300 => s.protStat p
  | 0x304 => r.evt.toNat
  | 0x308 => r.irqEn.toNat
  | 0x30C => r.vSample % 16384 + intBits 16 r.iSample * 65536
  | 0x310 => intBits 16 r.peak + intBits 16 r.mean * 65536
  | 0x314 => intBits 16 r.tripCurrent + (if r.cause = 1 then r.breakpoint - 1 else 0) * 65536
  | _ => 0

/-- The registers of a gallery block (08 R255; 13 R368). -/
def State.galReg (s : State) (g off : Nat) : Nat :=
  let x := s.getGals g
  match off with
  | 0x000 => s.galSlots g % 64 + x.npHeld.length * 256 + x.npPeak * 65536 + x.npWaits * 16777216
  | 0x100 => min 65535 (s.reservedOf (portsOfGal g) / 100) + min 65535 (x.measured / 100) * 65536
  | 0x104 => b2n (s.frozen g) + b2n x.overdraw * 2 + b2n x.irqEn * 4 + s.vconnPorts g * 256
  | _ => 0

/-- SESS_STAT.STATE (05 R145). -/
def Session.code (x : Session) : Nat :=
  match x.state with
  | .closed | .opening => 0
  | .opened | .draining => 1
  | .held => 2
  | .ending => if x.lossEnd then 3 else 1

/-- The registers of a session block (04 R137, R138). -/
def State.sessReg (s : State) (n off : Nat) : Nat :=
  let x := s.getSess n
  match off with
  | 0x00 => x.code + flagBits [x.stalled, x.stallSpanNow, x.stallBufNow, x.stallWinNow] * 4 + x.tenant * 256
  | 0x04 => x.txNext
  | 0x08 => x.txOldest
  | 0x0C => x.rxNext
  | 0x10 => x.held % 16777216
  | 0x14 => x.heldPeak % 16777216
  | 0x18 => x.stallSpan.toNat
  | 0x1C => x.stallBuf.toNat
  | 0x20 => x.stallWin.toNat
  | 0x24 => x.retx.toNat
  | 0x28 => x.txc % 4294967296
  | 0x2C => x.txc / 4294967296 % 4294967296
  | _ => 0

/-- The registers of a job slot (10 R305). -/
def State.jobReg (s : State) (j off : Nat) : Nat :=
  let x := s.job j
  match off with
  | 0x00 => b2n x.active + x.principal * 256 + (x.targets.filter (fun t => decide (t.state ≠ .ended))).length % 512 * 65536
  | 0x04 => x.head % 4294967296
  | 0x08 => (x.targets.filter (fun t => decide (t.state = .catching))).length % 512
  | 0x0C => x.vaultBytes.toNat % 4294967296
  | 0x10 => x.vaultBytes.toNat / 4294967296
  | _ => 0

/-- The state code of a channel (11 R327). -/
def chanCode : ChanState → Nat
  | .idle => 0
  | .running => 1
  | .halted => 2
  | .stopping => 3

/-- The registers of a mover channel (11 R309, R327). -/
def State.chanReg (s : State) (c off : Nat) : Nat :=
  let x := s.chan c
  match off with
  | 0x00 => (if c < 16 then 3 else x.prio) * 256
  | 0x04 => x.head
  | 0x08 => chanCode x.state + b2n x.waitUnit * 4 + b2n x.waitPipe * 8 + x.cause * 256 + x.errInfo * 65536 + b2n x.errDir * 16777216
  | 0x0C => x.cur
  | 0x10 => x.errAddr.toNat % 4294967296
  | 0x14 => x.errAddr.toNat / 4294967296
  | 0x18 => x.errLine.toNat
  | 0x1C => x.bytes.toNat
  | 0x20 => x.evt.toNat
  | 0x24 => x.irqEn.toNat
  | 0x28 => x.checkRx.toNat % 4294967296
  | 0x2C => x.checkRx.toNat / 4294967296
  | _ => 0

/-- The low or high word of a 64-bit value. -/
def wordOf (high : Bool) (v : BitVec 64) : Nat := if high then v.toNat / 4294967296 else v.toNat % 4294967296

/-- The registers of a check-value unit (11 R327). -/
def State.unitReg (s : State) (n off : Nat) : Nat :=
  let u := (s.unit n).cfg
  let high := decide (off % 8 = 4)
  match off / 8 with
  | 0 => if off = 0 then u.width + b2n u.refin * 128 + b2n u.refout * 256 + u.locator * 512 + b2n u.appendLe * 2048 + b2n (s.unit n).busy * 4096 else 0
  | 1 => wordOf high u.poly
  | 2 => wordOf high u.init
  | 3 => wordOf high u.xorout
  | 4 => wordOf high u.loc
  | _ => 0

/-- The registers of the scan engine (11 R327). -/
def State.scanReg (s : State) (off : Nat) : Nat :=
  let m := s.mov
  let high := decide (off % 8 = 4)
  match off / 8 with
  | 0 => if off = 0 then b2n m.scanKind * 2 + m.scanUnit * 4 + b2n m.scanCompare * 64 else 0
  | 1 => wordOf high m.scanAddr
  | 2 => wordOf high m.scanLen
  | 3 => wordOf high m.scanExpect
  | 4 => wordOf high m.scanResult
  | 5 => if off = 0x28 then flagBits [m.scanBusy, m.scanDone, m.scanMatch, m.scanProg, m.scanIrqEn] + m.scanUnw.toNat * 65536 else 0
  | _ => 0

/-- The registers of identity, the Custodian's status, guards, parity, votes, the Catalogue, SPI, start-up and straps (02 R80; 17
R454; 18 R467). -/
def State.sysReg (s : State) (a : Nat) : Nat :=
  let r := s.regs
  let b := s.boot
  match a with
  | 0x000 => 0x9600 + siliconRev * 65536 + b2n b.grade * 16777216
  | 0x010 => b2n r.custBusy + b2n r.writeLost * 2 + r.lostAddr.toNat * 65536
  | 0x014 => flagBits [r.gMismatch, r.gValue, r.gTime, r.gInter, r.gWait.isSome] + r.gLast.toNat * 65536
  | 0x018 => r.parFirst.toNat + r.parCount.toNat * 16777216
  | 0x01C => b2n r.inService + b2n r.rvInService * 2 + r.corrected.toNat * 65536
  | 0x020 => s.pendList.length % 65536 + b2n s.cat.arbBusy * 65536
  | 0x030 => s.board.stat
  | 0x100 =>
    (match b.phase with | .startup => 0 | .bist => 1 | .recovery => 2 | .service => 3)
      + flagBits [b.slot, b.otherSlot, b.secretsLost, b.configLost, b.bistFail] * 4 + b.failA * 256 + b.failB * 65536
  | 0x108 => flagBits [b.strapRec, s.regs.mNoxo, b.strapTest]
  | 0x184 => s.lockNow + flagBits [s.regs.mOpened, s.dbg.jtag, s.dbg.svc, s.dbg.refused] * 4
  | _ => 0

/-- The registers of clocks, the Collection, port event sums, the pipe store, memories, package power and power states (01 R38; 03
R110; 06 R200; 07 R235; 12 R340; 13 R368; 15 R405). -/
def State.hubReg (s : State) (a : Nat) : Nat :=
  let c := s.coll
  let m := s.mem
  let d := s.dps
  match a with
  | 0x200 => s.clkStat
  | 0x204 => s.clkBorrow
  | 0x208 => s.clk.evt.toNat
  | 0x300 =>
    flagBits [c.quorum, (s.voter 0).heard && s.isVoter 0, c.quorumLost, c.digestMm, c.leaseExp, c.lockBroken, c.irqEn, c.epochFailed]
      + (s.lockServer - 1) % 16 * 256 + s.quorumSet % 65536 * 65536
  | 0x400 | 0x404 | 0x408 => unitBits ((List.range 32).map (· + 1)) (fun k => s.portIrq ((a - 0x400) * 8 + k))
  | 0x500 => s.ctxFree % 2097152 + flagBits [s.regs.psExhausted, s.regs.psMapFail, s.regs.psIrqEn] * 2097152
  | 0x520 => s.regs.viewSel.toNat + b2n s.regs.viewReady * 2147483648
  | 0x600 => m.pipeCorr.toNat + m.pbufCorr.toNat * 65536
  | 0x604 => m.uncAddr.toNat + m.uncMem * 67108864 + b2n m.uncOvf * 1073741824 + b2n m.uncValid * 2147483648
  | 0x608 => s.transitUsed % 65536 + m.peak % 65536 * 65536
  | 0x60C => min 65535 m.passes.toNat + s.passPercent * 65536 + b2n m.running * 8388608
  | 0x610 => m.evt.toNat
  | 0x614 => m.irqEn.toNat
  | 0x700 => min 65535 (s.reservedOf allPorts / 1000) + min 65535 (sumOf (allGals.map (fun g => (s.getGals g).measured)) / 1000) * 65536
  | 0x800 =>
    pwrCode d.state + (if d.state = .settling then pwrCode d.target else match d.request with | some v => pwrCode v | none => 0) * 8
      + d.blocked.toNat * 256 + b2n d.latchOvf * 16384 + d.latch.length % 64 * 65536
  | 0x804 => d.evt.toNat
  | 0x808 => d.irqEn.toNat
  | _ => if 0x540 ≤ a ∧ a < 0x580 then (s.regs.view.getD ((a - 0x540) / 4) 0).toNat else s.sysReg a

/-- The Custodian's registers, read from their mirrors, and the guarded values (00 R9; 02 R70; 15 R405; 02 R73; 17 R454; 16 R425). -/
def State.custReg (s : State) (a : Nat) : Nat :=
  let g := fun (x : Nat) => if x = 0x20100 then s.regs.gDebug.toNat else if x = 0x20400 then b2n s.flt.injArmed else 0
  if a = 0x10000 then s.regs.mWakeEn.toNat
  else if a = 0x10004 then s.regs.mAlarm.toNat
  else if 0x10100 ≤ a ∧ a < 0x10180 then (match s.regs.mLatch[(a - 0x10100) / 4]? with | some w => w.word.toNat | none => 0)
  else if a < 0x20000 then 0
  else if a < 0x28000 then g a
  else if a = 0x28100 ∨ a = 0x28200 ∨ a = 0x28400 then 4294967295 - g (a - 0x8000)
  else 0

/-- The registers of the upstream, the Vault and the movers that stand alone (04 R137; 10 R305; 11 R327). -/
def State.moreReg (s : State) (a : Nat) : Nat :=
  let links := [1, 2, 3, 4, 5, 6, 7, 8]
  let drives := [1, 2, 3, 4, 5, 6, 7, 8]
  match a with
  | 0x200000 =>
    unitBits links s.isMember + unitBits links (fun m => decide ((s.link m).state = .training) || decide ((s.link m).state = .probation)) * 256
      + b2n s.upl.mode * 65536 + (s.upl.ptpLink - 1) % 8 * 131072 + s.upl.trainFails.toNat * 16777216
  | 0x200004 => s.upl.evt.toNat
  | 0x200008 => s.upl.irqEn.toNat
  | 0x300000 => unitBits drives (fun n => (s.drive n).up) + unitBits drives (fun n => (s.drive n).failed) * 256 + b2n s.vault.enabled * 65536
  | 0x300004 => s.vault.evt.toNat
  | 0x300008 => s.vault.irqEn.toNat
  | 0x310000 => unitBits ((List.range 32).map (· + 1)) (fun k => decide ((s.chan (k - 1)).state ≠ .idle))
  | 0x310004 => unitBits ((List.range 32).map (· + 1)) (fun k => (s.chan (k - 1)).irq)
  | 0x310010 => s.mov.page
  | _ => 0

/-- FLT_SLOT (16 R428). -/
def State.slotWord (s : State) (n : Nat) : Nat :=
  let x := s.slot n
  x.source + x.inst * 256 + (match x.state with | .free => 0 | .armed => 1 | .escalated => 2) * 65536
    + (if x.state = .armed then ceilDiv (x.armedAt + x.span * 1000 - s.now) 100000 % 16384 else 0) * 262144

/-- The registers of faults and injection (16 R428). -/
def State.fltReg (s : State) (a : Nat) : Nat :=
  let f := s.flt
  match a with
  | 0x400000 => b2n f.safeStop + b2n f.slotsFull * 2 + f.heldSlots.length * 4 + f.pending.toNat * 256 + f.irqEn.toNat * 4096
  | 0x400004 => f.first.word
  | 0x400008 => wordOf false f.firstTime
  | 0x40000C => wordOf true f.firstTime
  | 0x400010 => b2n f.force + b2n s.errOut * 2
  | 0x400018 => sumOf (((List.range 4)).map (fun k => f.cnt.getD k 0 % 256 * 256 ^ k))
  | 0x401000 => f.injTarget + f.injBits * 8 + f.injCopy * 32 + f.injCount * 128 + f.injBit * 1024
  | 0x401004 => f.injAddr.toNat
  | 0x401008 => flagBits [f.injArmed, f.injFired, f.injRefused]
  | _ =>
    match bankAt 0x400040 4 32 a, bankAt 0x400100 16 5 a, bankAt 0x400200 16 4 a with
    | some x, _, _ => s.slotWord x.1
    | _, some x, _ =>
      let g := SMap.get Aggr.reset f.dieAgg x.1
      if x.2 = 0 then g.word else if x.2 = 4 then g.count.toNat else 0
    | _, _, some x =>
      let g := SMap.get Aggr.reset f.wingAgg (x.1 + 1)
      if x.2 = 0 then g.word else if x.2 = 4 then g.count.toNat else 0
    | _, _, _ => 0

/-- The registers of frame timing (09 R269). -/
def State.ftReg (s : State) (a : Nat) : Nat :=
  match a with
  | 0x500000 => s.ptp.state
  | 0x500004 => s.ptp.evt.toNat
  | 0x500008 => s.ptp.irqEn.toNat
  | 0x500010 => wordOf false s.clk.hubTime
  | 0x500014 => wordOf true s.clk.hubTime
  | _ =>
    match bankAt 0x501000 16 96 a with
    | some x =>
      let f := s.getFt (x.1 + 1)
      if x.2 = 0 then intBits 32 f.trim else if x.2 = 4 then intBits 32 f.phase
      else if x.2 = 8 then (if f.running then f.count.toNat else 0) else if x.2 = 12 then f.bias.toNat else 0
    | none => 0

/-- What the word at an address reads, without the effects of reading it; unmapped addresses read 0 (02 R62, R67, R79). -/
def State.regVal (s : State) (a : Nat) : Nat :=
  if a % 4 ≠ 0 then 0
  else if a < 0x10000 then s.hubReg a
  else if a < 0x30000 then s.custReg a
  else if a < 0x200000 then
    match portAt a, galAt a with
    | some x, _ => s.portReg x.1 x.2
    | _, some x => s.galReg x.1 x.2
    | _, _ => 0
  else if a < 0x400000 then
    match bankAt 0x210000 64 1024 a, bankAt 0x301000 32 16 a, bankAt 0x311000 64 32 a with
    | some x, _, _ => s.sessReg x.1 x.2
    | _, some x, _ => s.jobReg x.1 x.2
    | _, _, some x => s.chanReg x.1 x.2
    | _, _, _ =>
      match bankAt 0x320000 64 16 a with
      | some x => s.unitReg x.1 x.2
      | none =>
        if 0x321000 ≤ a ∧ a < 0x321030 then s.scanReg (a - 0x321000)
        else if 0x380000 ≤ a ∧ a < 0x3C0000 then leNat (s.areaRead (s.windowAt a) 4)
        else s.moreReg a
  else if a < 0x500000 then s.fltReg a
  else if a < 0x600000 then s.ftReg a
  else 0

/-! ### What a read clears (00 R9; 12 R332) -/

/-- RC fields of the blocks of ports, galleries and sessions. -/
def State.clearUnit (s : State) (a : Nat) : State :=
  match portAt a, galAt a, bankAt 0x210000 64 1024 a with
  | some (p, 0x040), _, _ => s.modUsb p (fun u => { u with replays := 0, exhausted := 0 })
  | some (p, 0x104), _, _ => s.modFifo p (fun m => { m with outPeak := s.fifoOut p, inPeak := s.fifoIn p })
  | some (p, 0x108), _, _ => s.modFifo p (fun m => { m with corrected := 0, uncorrectable := 0 })
  | some (p, 0x310), _, _ => s.modProt p (fun r => { r with peak := r.iSample })
  | _, some (g, 0x000), _ => s.modGals g (fun x => { x with npPeak := x.npHeld.length, npWaits := 0 })
  | _, _, some (n, 0x14) => s.modSess n (fun x => { x with heldPeak := x.held })
  | _, _, _ => s

/-- RC fields of a word cleared by its read; sticky peaks restart at the present level. -/
def State.clearWord (s : State) (a : Nat) : State :=
  match a with
  | 0x018 => s.modRegs (fun r => { r with parCount := 0, parLatched := false })
  | 0x01C => s.modRegs (fun r => { r with corrected := 0 })
  | 0x600 => s.modMem (fun m => { m with pipeCorr := 0, pbufCorr := 0 })
  | 0x608 => s.modMem (fun m => { m with peak := s.transitUsed })
  | 0x200000 => s.modUpl (fun u => { u with trainFails := 0 })
  | 0x400018 => s.modFlt (fun f => { f with cnt := [0, 0, 0, 0] })
  | _ =>
    match bankAt 0x400100 16 5 a, bankAt 0x400200 16 4 a with
    | some (d, 4), _ => s.modFlt (fun f => { f with
        dieAgg := SMap.put Aggr.reset f.dieAgg d { SMap.get Aggr.reset f.dieAgg d with count := 0 } })
    | _, some (w, 4) => s.modFlt (fun f => { f with
        wingAgg := SMap.put Aggr.reset f.wingAgg (w + 1) { SMap.get Aggr.reset f.wingAgg (w + 1) with count := 0 } })
    | _, _ => s.clearUnit a

/-- One RC bit of a global word cleared by a read of its alias (02 R74). -/
def State.clearBit (s : State) (a b : Nat) : State :=
  match a with
  | 0x018 => if 24 ≤ b then s.modRegs (fun r => { r with parCount := r.parCount &&& ~~~(BitVec.ofNat 8 (2 ^ (b - 24))) }) else s
  | 0x01C => if 16 ≤ b then s.modRegs (fun r => { r with corrected := r.corrected &&& ~~~(BitVec.ofNat 16 (2 ^ (b - 16))) }) else s
  | 0x600 => s.modMem (fun m => if b < 16 then { m with pipeCorr := m.pipeCorr &&& ~~~(BitVec.ofNat 16 (2 ^ b)) }
      else { m with pbufCorr := m.pbufCorr &&& ~~~(BitVec.ofNat 16 (2 ^ (b - 16))) })
  | 0x608 => if 16 ≤ b then s.modMem (fun m => { m with peak := s.transitUsed }) else s
  | _ => s

/-! ### Parity and the voted views -/

/-- What a mismatch in a register of critical fields leads to (02 R76). -/
def State.parityCritical (s : State) (a : Nat) : State :=
  match viewAt a with
  | some 0 => s.modDbg (fun d => if d.lock = 3 then d else { d with lock := 0, jtag := false, svc := false })
  | some p => (s.modUsb p (fun u => { u with vbusAllowedReg := (s.getProt p).vbusAllowed })).containPort 0x12 (portDie p) p
  | none => s

/-- The check of a register's parity at a read of it or a use by the hub, with what a mismatch in a critical field leads to (02 R75,
R76). -/
def State.parityCheck (s : State) (a : Nat) : State :=
  if s.parityFails a then (s.parityUse a).parityCritical a else s

/-- An injection into a voted copy fires: the chosen bit reads inverted once (16 R425, R426). -/
def State.injectVote (s : State) (k : Nat) : State :=
  let f := s.flt
  if f.injArmed ∧ f.injTarget = 5 ∧ viewAt f.injAddr.toNat = some k then
    let x := BitVec.ofNat 32 (2 ^ f.injBit)
    let flip := fun (m : SMap Word) => SMap.put 0 m k (SMap.get 0 m k ^^^ x)
    (s.modFlt (fun f => { f with injArmed := false, injFired := true })).modRegs (fun r =>
      if f.injCopy = 0 then { r with vote0 := flip r.vote0 } else if f.injCopy = 1 then { r with vote1 := flip r.vote1 }
      else { r with vote2 := flip r.vote2 })
  else s

/-- A read of a voted view: the voted value, or in normal service 0 and RV_IN_SERVICE (02 R77, R79). -/
def State.rvRead (s : State) (k : Nat) : State × Nat :=
  if s.inService then (s.modRegs (fun r => { r with rvInService := true }), 0)
  else
    let s := (s.injectVote k).vote k
    (s, (s.voted k).toNat)

/-- A write of a voted view: all three copies, or in normal service nothing but RV_IN_SERVICE (02 R77, R79). -/
def State.rvWrite (s : State) (k : Nat) (v : Word) : State :=
  if s.inService then s.modRegs (fun r => { r with rvInService := true }) else s.modVote k (fun _ => v &&& viewMask k)

/-! ### Reads -/

/-- The word and the bit an alias address stands for (02 R74). -/
def aliasAt (a : Nat) : Option (Nat × Nat) :=
  if 0xE00000 ≤ a ∧ a < 0x1000000 ∧ a % 4 = 0 then some ((a - 0xE00000) / 128 * 4, (a - 0xE00000) / 4 % 32) else none

/-- A read of the word at an address, with its effects: the parity check, a voted view, RC fields, injections (02 R62, R74 to R79). -/
def State.regRead (s : State) (a : Nat) : State × Word :=
  if a % 4 ≠ 0 then (s, 0)
  else match aliasAt a with
  | some (x, b) =>
    let s := s.parityCheck x
    (match viewAt x with
     | some k => let r := s.rvRead k; (r.1, BitVec.ofNat 32 (b2n (bitOf r.2 b)))
     | none => (s.clearBit x b, BitVec.ofNat 32 (b2n (bitOf (s.regVal x) b))))
  | none =>
    let s := s.parityCheck a
    let s := if a = 0x184 then s.voteUse 0 else s
    match viewAt a with
    | some k => let r := s.rvRead k; (r.1, BitVec.ofNat 32 r.2)
    | none =>
      let v := BitVec.ofNat 32 (s.regVal a)
      if 0x380000 ≤ a ∧ a < 0x3C0000 then (s.injectArea (s.windowAt a), v) else (s.clearWord a, v)

/-! ### Custodian and guarded writes -/

/-- A posted write to a Custodian register, dropped while BUSY (02 R70, R71). -/
def State.rwp (s : State) (a : Nat) (v : Word) : State :=
  if a ≠ 0x10000 ∧ a ≠ 0x10004 then s
  else if s.regs.custBusy then
    (s.modRegs (fun r => { r with
      writeLost := true, lostAddr := if r.writeLost then r.lostAddr else BitVec.ofNat 16 a })).note 0x10 0
  else s.modRegs (fun r => { r with custBusy := true, custWrite := some (a, v) })

/-- The slow domain has absorbed a posted write, at an edge that refreshes the mirrors (02 R70; 15 R405). -/
def State.absorbed (s : State) : State :=
  match s.regs.custWrite with
  | some (a, v) =>
    let s := s.modRegs (fun r => { r with custBusy := false, custWrite := none })
    State.refreshMirrors <| if a = 0x10000 then (s.modRegs (fun r => { r with custWakeEn := v &&& 0x3F })).setEff 0x2100 3 (natLE 1 (v.toNat % 64))
    else (s.modRegs (fun r => { r with custAlarm := v, alarmEdges := 0 })).setEff 0x2100 4 (natLE 4 v.toNat)
  | none => s

/-- The value address of either half of a guarded pair (02 R72). -/
def guardX (a : Nat) : Nat := if 0x28000 ≤ a then a - 0x8000 else a

/-- A pair discarded: MISMATCH, its cause and LAST_ADDR, and a Minor fault (02 R72). -/
def State.guardDrop (s : State) (x cause : Nat) : State :=
  (s.modRegs (fun r => { r with
    gWait := none, gMismatch := true, gLast := BitVec.ofNat 16 x, gValue := r.gValue || decide (cause = 1)
    gTime := r.gTime || decide (cause = 2), gInter := r.gInter || decide (cause = 3) })).note 0x11 0

/-- Whether an injection may be armed (16 R426). -/
def State.injectOk (s : State) : Bool :=
  let f := s.flt
  let a := f.injAddr.toNat
  let bits := decide (f.injBits = 1) || (decide (f.injBits = 2) && decide (f.injTarget < 3))
  bits && match f.injTarget with
    | 0 | 1 => decide (a < 67108864)
    | 2 => portOk (a / 262144)
    | 3 => isReg a
    | 4 => decide (1 ≤ a) && decide (a ≤ 7) && decide (f.injCount ≠ 0)
    | 5 => !s.inService && decide (f.injCopy ≠ 3) &&
        (match viewAt a with | some k => (viewMask k).getLsbD f.injBit | none => false)
    | _ => false

/-- The guarded value that arms an injection (16 R425, R426). -/
def State.injectArm (s : State) : State :=
  s.modFlt (fun f => if s.injectOk then { f with injArmed := true } else { f with injRefused := true })

/-- A value at its guarded address takes effect; none where the address does not accept it (02 R72; 16 R425; 17 R432, R449). -/
def State.guardTake (s : State) (x : Nat) (v : Word) : Option State :=
  if x = 0x20100 then some (s.debugReq v)
  else if x = 0x20200 ∧ v = 1 then some s.requestReset
  else if x = 0x20400 ∧ v = 1 then some s.injectArm
  else none

/-- A pair complete: taken, or discarded with CAUSE_VALUE (02 R72). -/
def State.guardDone (s : State) (x : Nat) (v : Word) : State :=
  let s' := s.modRegs (fun r => { r with gWait := none })
  match s'.guardTake x v with
  | some t => t
  | none => s.guardDrop x 1

/-- A write to the guarded block: a half waits, the pair completes, or it breaks (02 R72). -/
def State.guarded (s : State) (a : Nat) (v : Word) : State :=
  if a % 4 ≠ 0 ∨ a < 0x20000 ∨ 0x30000 ≤ a then s
  else match s.regs.gWait with
  | none => s.modRegs (fun r => { r with gWait := some (a, v) })
  | some (b, w) =>
    if guardX a ≠ guardX b ∨ a = b then s.guardDrop (guardX b) 3
    else if v ≠ ~~~w then s.guardDrop (guardX b) 1
    else s.guardDone (guardX b) (if b < 0x28000 then w else v)

/-- The partner has not come within 100 us (02 R72). -/
def State.guardLate (s : State) : State :=
  match s.regs.gWait with
  | some (b, _) => s.guardDrop (guardX b) 2
  | none => s

/-! ### Plain writes -/

/-- A 64-bit value written low word first: the low word latched, or the whole value that takes effect (02 R69). -/
def State.write64 (s : State) (low : Nat) (high : Bool) (v : Word) (put : State → BitVec 64 → State) : State :=
  if high then
    let l := ((SMap.get none s.regs.lowLatch low).getD 0).toNat
    put (s.modRegs (fun r => { r with lowLatch := SMap.put none r.lowLatch low none })) (BitVec.ofNat 64 (v.toNat * 4294967296 + l))
  else s.modRegs (fun r => { r with lowLatch := SMap.put none r.lowLatch low (some v) })

/-- Writes in a port block (06 R200; 13 R368; 14 R386). -/
def State.portPut (s : State) (p off v : Nat) : State :=
  match off with
  | 0x004 => s.modUsb p (fun u => { u with evt := w1c u.evt v })
  | 0x008 => s.modUsb p (fun u => { u with irqEn := BitVec.ofNat 12 v })
  | 0x208 => s.modPwr p (fun w => { w with evt := w1c w.evt v })
  | 0x20C => s.modPwr p (fun w => { w with irqEn := BitVec.ofNat 12 v })
  | 0x304 => s.modProt p (fun r => { r with evt := w1c r.evt v })
  | 0x308 => s.modProt p (fun r => { r with irqEn := BitVec.ofNat 5 v })
  | _ => s

/-- The event a write of CH_CTRL raises: more than one of its four bits is STOP (11 R319). -/
def State.chanCtrl (s : State) (c ev : Nat) : State :=
  if ev = 0 then s
  else if ev = 1 then s.chanGo c
  else if ev = 2 then s.chanResume c
  else if ev = 4 then s.chanSkip c
  else s.chanStop c

/-- Writes of a channel: PRIO and the events of CH_CTRL, CH_HEAD, CH_EVT and CH_IRQ_EN; those of internal channels are ignored (11
R306, R319, R327). -/
def State.chanPut (s : State) (c off v : Nat) : State :=
  if c < 16 then s
  else match off with
  | 0x00 => (s.modChan c (fun x => { x with prio := bitsOf v 8 2 })).chanCtrl c (v % 16)
  | 0x04 => s.modChan c (fun x => { x with head := v % 8388608 })
  | 0x20 => s.modChan c (fun x => { x with evt := w1c x.evt v })
  | 0x24 => s.modChan c (fun x => { x with irqEn := BitVec.ofNat 5 v })
  | _ => s

/-- Writes of a check-value unit; those of units 0 to 7 are ignored (11 R327; 02 R69). -/
def State.unitPut (s : State) (n off : Nat) (v : Word) : State :=
  let w := v.toNat
  let cfg := fun (s : State) (f : UnitCfg → UnitCfg) => s.setUnit n { s.unit n with cfg := f (s.unit n).cfg }
  let wide := fun (f : BitVec 64 → UnitCfg → UnitCfg) =>
    s.write64 (0x320000 + n * 64 + off / 8 * 8) (decide (off % 8 = 4)) v (fun s x => cfg s (f x))
  if n < 8 then s
  else match off / 8 with
  | 0 =>
    if off = 0 then cfg s (fun u => { u with
      width := w % 128, refin := bitOf w 7, refout := bitOf w 8, locator := bitsOf w 9 2, appendLe := bitOf w 11 })
    else s
  | 1 => wide (fun x u => { u with poly := x })
  | 2 => wide (fun x u => { u with init := x })
  | 3 => wide (fun x u => { u with xorout := x })
  | 4 => wide (fun x u => { u with loc := x })
  | _ => s

/-- Writes of the scan engine (11 R325, R327; 02 R69). -/
def State.scanPut (s : State) (off : Nat) (v : Word) : State :=
  let w := v.toNat
  let wide := fun (f : BitVec 64 → Mov → Mov) =>
    s.write64 (0x321000 + off / 8 * 8) (decide (off % 8 = 4)) v (fun s x => s.modMov (f x))
  match off / 8 with
  | 0 => if off = 0 then s.scanGo w else s
  | 1 => wide (fun x m => { m with scanAddr := x })
  | 2 => wide (fun x m => { m with scanLen := x })
  | 3 => wide (fun x m => { m with scanExpect := x })
  | 5 =>
    if off = 0x28 then s.modMov (fun m => { m with
      scanDone := w1cFlag m.scanDone w 1, scanProg := w1cFlag m.scanProg w 3, scanIrqEn := bitOf w 4 })
    else s
  | _ => s

/-- Writes of the global words (02 R80; 01 R39; 03 R110; 07 R235; 12 R340; 15 R405; 17 R454). -/
def State.hubPut (s : State) (a : Nat) (v : Word) : State :=
  let w := v.toNat
  match a with
  | 0x010 => s.modRegs (fun r => { r with writeLost := w1cFlag r.writeLost w 1 })
  | 0x014 => s.modRegs (fun r => { r with
      gMismatch := w1cFlag r.gMismatch w 0, gValue := w1cFlag r.gValue w 1, gTime := w1cFlag r.gTime w 2, gInter := w1cFlag r.gInter w 3 })
  | 0x01C => s.modRegs (fun r => { r with rvInService := w1cFlag r.rvInService w 1 })
  | 0x030 => s.modBoard (fun b => { b with
      overrun := w1cFlag b.overrun w 1, badOp := w1cFlag b.badOp w 2, rspIrqEn := bitOf w 7 })
  | 0x100 => s.modBoot (fun b => { b with
      otherSlot := w1cFlag b.otherSlot w 3, secretsLost := w1cFlag b.secretsLost w 4, configLost := w1cFlag b.configLost w 5 })
  | 0x184 => s.modDbg (fun d => { d with refused := w1cFlag d.refused w 5 })
  | 0x208 => s.clkClear v
  | 0x300 => s.modColl (fun c => { c with
      quorumLost := w1cFlag c.quorumLost w 2, digestMm := w1cFlag c.digestMm w 3, leaseExp := w1cFlag c.leaseExp w 4
      lockBroken := w1cFlag c.lockBroken w 5, irqEn := bitOf w 6, epochFailed := w1cFlag c.epochFailed w 7 })
  | 0x500 => s.modRegs (fun r => { r with
      psExhausted := w1cFlag r.psExhausted w 21, psMapFail := w1cFlag r.psMapFail w 22, psIrqEn := bitOf w 23 })
  | 0x520 => s.viewPipe (w % 1048576)
  | 0x604 => if bitOf w 31 then s.modMem (fun m => { m with uncValid := false, uncOvf := false }) else s
  | 0x610 => s.modMem (fun m => { m with evt := w1c m.evt w })
  | 0x614 => s.modMem (fun m => { m with irqEn := BitVec.ofNat 4 w })
  | 0x804 => s.modDps (fun d => { d with evt := w1c d.evt w })
  | 0x808 => s.modDps (fun d => { d with irqEn := BitVec.ofNat 4 w })
  | _ => s

/-- A FIRST register freed by writing 1 to VALID (16 R415). -/
def Aggr.free (v : Nat) (a : Aggr) : Aggr := if bitOf v 31 then { a with latched := none, overflow := false } else a

/-- Writes of the fault registers (16 R415, R418, R419, R428). -/
def State.fltPut (s : State) (a w : Nat) : State :=
  match a with
  | 0x400000 => s.modFlt (fun f => { f with
      slotsFull := w1cFlag f.slotsFull w 1, pending := w1c f.pending (w / 256), irqEn := BitVec.ofNat 4 (w / 4096) })
  | 0x400004 => s.modFlt (fun f => { f with first := f.first.free w })
  | 0x400010 => s.modFlt (fun f => { f with force := bitOf w 0 })
  | 0x400014 => s.ack (w % 256) (w / 256 % 256)
  | 0x401000 => s.modFlt (fun f => { f with
      injTarget := w % 8, injBits := bitsOf w 3 2, injCopy := bitsOf w 5 2, injCount := bitsOf w 7 3, injBit := bitsOf w 10 5 })
  | 0x401004 => s.modFlt (fun f => { f with injAddr := BitVec.ofNat 32 w })
  | 0x401008 => s.modFlt (fun f => { f with injFired := w1cFlag f.injFired w 1, injRefused := w1cFlag f.injRefused w 2 })
  | _ =>
    match bankAt 0x400100 16 5 a, bankAt 0x400200 16 4 a with
    | some (d, 0), _ => s.modFlt (fun f => { f with
        dieAgg := SMap.put Aggr.reset f.dieAgg d ((SMap.get Aggr.reset f.dieAgg d).free w) })
    | _, some (g, 0) => s.modFlt (fun f => { f with
        wingAgg := SMap.put Aggr.reset f.wingAgg (g + 1) ((SMap.get Aggr.reset f.wingAgg (g + 1)).free w) })
    | _, _ => s

/-- Writes of the registers of the upstream, the Vault, the movers and frame timing that stand alone (04 R137; 10 R305; 11 R327; 09
R269). -/
def State.morePut (s : State) (a w : Nat) : State :=
  match a with
  | 0x200004 => s.modUpl (fun u => { u with evt := w1c u.evt w })
  | 0x200008 => s.modUpl (fun u => { u with irqEn := BitVec.ofNat 19 w })
  | 0x300004 => s.modVault (fun x => { x with evt := w1c x.evt w })
  | 0x300008 => s.modVault (fun x => { x with irqEn := BitVec.ofNat 12 w })
  | 0x310010 => s.modMov (fun m => { m with page := w % 32 })
  | 0x500004 => s.modPtp (fun p => { p with evt := w1c p.evt w })
  | 0x500008 => s.modPtp (fun p => { p with irqEn := BitVec.ofNat 4 w })
  | _ => s

/-- A write of a word that has RO, RW and W1C fields (00 R9). -/
def State.plainPut (s : State) (a : Nat) (v : Word) : State :=
  let w := v.toNat
  if a < 0x10000 then s.hubPut a v
  else match portAt a, galAt a, bankAt 0x311000 64 32 a with
  | some x, _, _ => s.portPut x.1 x.2 w
  | _, some (g, 0x104), _ => s.modGals g (fun x => { x with overdraw := w1cFlag x.overdraw w 1, irqEn := bitOf w 2 })
  | _, _, some x => s.chanPut x.1 x.2 w
  | _, _, _ =>
    match bankAt 0x320000 64 16 a with
    | some x => s.unitPut x.1 x.2 v
    | none =>
      if 0x321000 ≤ a ∧ a < 0x321030 then s.scanPut (a - 0x321000) v
      else if 0x400000 ≤ a ∧ a < 0x500000 then s.fltPut a w
      else s.morePut a w

/-- The RW bits of the global words (02 R80; 03 R110; 07 R235; 12 R340; 15 R405). -/
def rwBits (a : Nat) : Nat :=
  match a with
  | 0x030 => 0x80
  | 0x300 => 0x40
  | 0x500 => 0x800000
  | 0x520 => 0xFFFFF
  | 0x614 | 0x808 => 15
  | _ => 0

/-- A write of a bit alias: that bit alone, as its access code allows (02 R74). -/
def State.aliasPut (s : State) (a b : Nat) (v : Word) : State :=
  let s := s.parityFresh a
  let keep := s.regVal a &&& rwBits a
  let one := b2n (v.getLsbD 0)
  match viewAt a with
  | some _ => if s.inService then s.modRegs (fun r => { r with rvInService := true }) else s
  | none =>
    if bitOf (rwBits a) b then s.hubPut a (BitVec.ofNat 32 (keep - b2n (bitOf keep b) * 2 ^ b + one * 2 ^ b))
    else if a = 0x520 then s
    else s.hubPut a (BitVec.ofNat 32 (keep + one * 2 ^ b))

/-- A write of a word over the register space (02 R67, R70, R72, R74, R75, R79). -/
def State.regWrite (s : State) (a : Nat) (v : Word) : State :=
  if a % 4 ≠ 0 then s
  else match aliasAt a, viewAt a with
  | some (x, b), _ => s.aliasPut x b v
  | _, some k => s.rvWrite k v
  | _, _ =>
    if 0x10000 ≤ a ∧ a < 0x20000 then (s.parityFresh a).rwp a v
    else if 0x20000 ≤ a ∧ a < 0x30000 then s.guarded a v
    else if 0x380000 ≤ a ∧ a < 0x3C0000 then s.windowAccess a (some v)
    else (s.parityFresh a).plainPut a v

/-! ### Register accesses over the SPI target -/

/-- Whether the SPI target serves an access to a register now (15 R391; 17 R433, R436, R441). -/
def State.regServes (s : State) (a : Nat) (write : Bool) : Bool :=
  match s.boot.phase with
  | .service => s.coreServes
  | .recovery => true
  | .startup => s.boot.started
  | .bist => if write then decide (guardX a = 0x20200) else decide (a = 0x100)

/-- A read that is served, and what it answers; else 0, and in *Dormant* a wake event (15 R391). -/
def State.boardRead (s : State) (a : Nat) : State × Word := if s.regServes a false then s.regRead a else (s.unserved, 0)

/-- A write that is served; else in *Dormant* a wake event (15 R391). -/
def State.boardWrite (s : State) (a : Nat) (v : Word) : State := if s.regServes a true then s.regWrite a v else s.unserved

/-- What only board firmware does over the register space, where it is served. -/
def State.boardDoes (s : State) (f : State → State) : State := if s.regServes 0 true then f s else s.unserved

/-- A burst of reads: the words sent, then the words read ahead and not sent (02 R62). -/
def State.spiRead (s : State) (a words ahead : Nat) : State :=
  let r := (List.range words).foldl (fun (x : State × Bytes) k =>
    let y := x.1.boardRead (a + 4 * k)
    (y.1, x.2 ++ natLE 4 y.2.toNat)) (s, [])
  let s := (List.range ahead).foldl (fun s k => (s.boardRead (a + 4 * (words + k))).1) r.1
  s.emit (.spi r.2)

/-- A burst of writes of complete words; a word cut short is discarded (02 R62). -/
def State.spiWrite (s : State) (a : Nat) (ws : List Word) : State :=
  (ws.zipIdx).foldl (fun s e => s.boardWrite (a + 4 * e.2) e.1) s

/-- One word read, and answered. -/
def State.wordRead (s : State) (a : Nat) : State :=
  let r := s.boardRead a
  r.1.emit (.reg a r.2)

/-- The configuration registers that the hub uses all the time: those of critical fields, the interrupt enables, and the Custodian's wake
enables and alarm; the others are used when what they set begins (02 R75; log entry 44). -/
def alwaysUsed (a : Nat) : Bool :=
  (viewAt a).isSome || [0x030, 0x300, 0x500, 0x614, 0x808, 0x10000, 0x10004, 0x200008, 0x300008, 0x321028, 0x400000, 0x500008].contains a ||
    (match portAt a with | some (_, o) => decide (o = 0x008) || decide (o = 0x20C) || decide (o = 0x308) | none => false) ||
    (match galAt a with | some (_, o) => decide (o = 0x104) | none => false) ||
    (match bankAt 0x311000 64 32 a with | some (_, o) => decide (o = 0x24) | none => false)

/-- A use by the hub of a register it uses all the time: an injection that waits on it fires (02 R75; 16 R426). -/
def State.criticalUse (s : State) : State :=
  let a := s.flt.injAddr.toNat
  if s.injectsAt a && alwaysUsed a then s.parityCheck a else s

end Sys2Proof.Machine
end

