-- ==== Sys2Proof/Machine/Boards.lean ====
section
/-!
DEFINITION. The commands of the register space, of resets, debug and the supplies, and of clocks and die-to-die links (01, 02, 15 to
19).
-/
namespace Sys2Proof.Machine

/-- A whole value written to an object over a path (02 R46). -/
def State.write (s : State) (path : Path) (idx sub : Nat) (d : Bytes) : State :=
  s.viaWrite path idx sub (fun s => s.writeAt path idx sub 0 d)

/-- The event of a Custodian access outside *Dormant* is the access itself (15 R391). -/
def State.dormantAccess (s : State) : State := if s.dps.state = .dormant then s.wake 6 0 else s

/-- The Custodian goes to VBAT or back (18 R460). -/
def State.standby (s : State) (present : Bool) : State :=
  if s.dps.vbat then s.modDps (fun d => { d with stby := present, onVbat := !present }) else s

/-- The key object of a secret store slot (17 R446). -/
def keyObject (slot : Nat) : Nat × Nat := if slot = 0 then (0x2205, 1) else if slot = 65 then (0x7003, 0) else (0x6006, slot)

/-- An access to a voted view (02 R77, R79). -/
def State.viewAccess (s : State) (a : Nat) (write : Option Word) : State :=
  if (viewAt a).isNone then s else match write with | none => s.wordRead a | some v => s.boardWrite a v

/-- SPI_REGISTER_READ (02 R62). -/
def execSpiRegisterRead (addr : Nat) (words : Nat) (ahead : Nat) (s : State) : Host.Outcome State Fault Refusal :=
  .next ((s.spiRead addr words ahead).settle)

/-- SPI_REGISTER_WRITE (02 R61, R62). -/
def execSpiRegisterWrite (addr : Nat) (words : List Word) (_cutBits : Nat) (s : State) : Host.Outcome State Fault Refusal :=
  .next ((s.spiWrite addr words).settle)

/-- REGISTER_WRITE (02 R67, R69). -/
def execRegisterWrite (addr : Nat) (val : Word) (s : State) : Host.Outcome State Fault Refusal :=
  .next ((s.boardWrite addr val).settle)

/-- REGISTER_READ_CLEAR (00 R9; 12 R332). -/
def execRegisterReadClear (addr : Nat) (s : State) : Host.Outcome State Fault Refusal :=
  .next ((s.wordRead addr).settle)

/-- BIT_ALIAS_WRITE (02 R74). -/
def execBitAliasWrite (addr : Nat) (val : Word) (s : State) : Host.Outcome State Fault Refusal :=
  .next ((if (aliasAt addr).isSome then s.boardWrite addr val else s).settle)

/-- RWP_WRITE (02 R70, R71). -/
def execRwpWrite (addr : Nat) (val : Word) (s : State) : Host.Outcome State Fault Refusal :=
  .next (s.boardDoes (fun s => s.rwp addr val))

/-- RWP_WRITE_ABSORBED (02 R70). -/
def execRwpWriteAbsorbed (s : State) : Host.Outcome State Fault Refusal := .next s.absorbed

/-- GUARDED_WRITE (02 R72). -/
def execGuardedWrite (addr : Nat) (val : Word) (s : State) : Host.Outcome State Fault Refusal :=
  .next ((if s.regServes addr true then s.guarded addr val else s.unserved).settle)

/-- GUARDED_PAIR_TIMEOUT (02 R72). -/
def execGuardedPairTimeout (s : State) : Host.Outcome State Fault Refusal := .next s.guardLate

/-- RV_ACCESS (02 R77, R79). -/
def execRvAccess (addr : Nat) (write : Option Word) (s : State) : Host.Outcome State Fault Refusal :=
  .next (s.viewAccess addr write)

/-- NORMAL_SERVICE_ENTRY (02 R78; 17 R433). -/
def execNormalServiceEntry (s : State) : Host.Outcome State Fault Refusal := .next s.enterService.settle

/-- CLK_EVT_CLEAR (01 R39). -/
def execClkEvtClear (val : Word) (s : State) : Host.Outcome State Fault Refusal :=
  .next (s.boardDoes (fun s => s.clkClear val))

/-- LINK_UNIT_ERROR (01 R21). -/
def execLinkUnitError (link : Nat) (s : State) : Host.Outcome State Fault Refusal :=
  onUnit (decide (1 ≤ link) && decide (link ≤ 7)) "die link" link (s.linkError link).settle

/-- LINK_RETRAIN_DONE (01 R22). -/
def execLinkRetrainDone (link : Nat) (ok : Bool) (s : State) : Host.Outcome State Fault Refusal :=
  onUnit (decide (1 ≤ link) && decide (link ≤ 7)) "die link" link ((s.retrained link ok).linkFlow link).settle

/-- PLL_LOCK (01 R32). -/
def execPllLock (pll : PllId) (s : State) : Host.Outcome State Fault Refusal :=
  .next (((s.pllLocked pll).coreWoken).settle)

/-- PLL_LOCK_TIMEOUT (01 R32; 15 R401). -/
def execPllLockTimeout (pll : PllId) (s : State) : Host.Outcome State Fault Refusal :=
  .next (((s.pllLate pll).coreWoken).settle)

/-- PLL_LOSS_OF_LOCK (01 R33). -/
def execPllLossOfLock (pll : PllId) (s : State) : Host.Outcome State Fault Refusal := .next ((s.pllLoss pll).settle)

/-- PLL_STOP_DELAY_EXPIRY (01 R30). -/
def execPllStopDelayExpiry (pll : PllId) (s : State) : Host.Outcome State Fault Refusal := .next (s.pllIdle pll)

/-- REFCLK_ETH_LOSS (01 R36). -/
def execRefclkEthLoss (s : State) : Host.Outcome State Fault Refusal := .next s.refEthLost.settle

/-- CRYSTAL_FAILURE (01 R37). -/
def execCrystalFailure (s : State) : Host.Outcome State Fault Refusal := .next s.crystalLost

/-- CRYSTAL_RUNNING (01 R38). -/
def execCrystalRunning (s : State) : Host.Outcome State Fault Refusal := .next s.crystalOn

/-- INJECTION_ARM (16 R425, R426). -/
def execInjectionArm (val : Word) (s : State) : Host.Outcome State Fault Refusal :=
  .next (s.boardDoes (fun s => s.guardDone 0x20400 val))

/-- COLD_START (17 R433). -/
def execColdStart (straps : Straps) (s : State) : Host.Outcome State Fault Refusal := .next (s.coldStart straps)

/-- MAIN_EN_POWER_GOOD_TIMEOUT (18 R462). -/
def execMainEnPowerGoodTimeout (s : State) : Host.Outcome State Fault Refusal := .next s.mainLate.settle

/-- WARM_RESET (17 R429). -/
def execWarmReset (straps : Straps) (s : State) : Host.Outcome State Fault Refusal :=
  .next (s.warmReset straps.recovery straps.bistBad)

/-- RESET_N_LOW (19 R482). -/
def execResetNLow (straps : Straps) (s : State) : Host.Outcome State Fault Refusal := .next (s.resetFall straps)

/-- RESET_N_RISE (19 R482). -/
def execResetNRise (s : State) : Host.Outcome State Fault Refusal := .next s.resetRise

/-- RESET_REQUEST (17 R432). -/
def execResetRequest (s : State) : Host.Outcome State Fault Refusal := .next s.requestReset

/-- CUSTODIAN_RESET (18 R462). -/
def execCustodianReset (noxo : Bool) (s : State) : Host.Outcome State Fault Refusal := .next (s.custodianReset noxo)

/-- IMAGE_WRITE (17 R442). -/
def execImageWrite (offset : Nat) (data : Bytes) (path : Path) (s : State) : Host.Outcome State Fault Refusal :=
  .next (s.viaWrite path 0x2701 1 (fun s => s.writeAt path 0x2701 1 offset data))

/-- IMAGE_VERIFY (17 R442). -/
def execImageVerify (path : Path) (s : State) : Host.Outcome State Fault Refusal := .next (s.write path 0x2701 3 [1])

/-- ROLLBACK_COMMIT (17 R443). -/
def execRollbackCommit (path : Path) (s : State) : Host.Outcome State Fault Refusal :=
  .next (s.write path 0x2700 4 [1])

/-- ATTESTATION_NONCE (17 R445). -/
def execAttestationNonce (nonce : Bytes) (path : Path) (s : State) : Host.Outcome State Fault Refusal :=
  .next (s.write path 0x2703 1 nonce)

/-- TRANSPORT_KEY_WRITE (17 R446). -/
def execTransportKeyWrite (slot : Nat) (key : Bytes) (path : Path) (s : State) : Host.Outcome State Fault Refusal :=
  .next (s.write path (keyObject slot).1 (keyObject slot).2 key)

/-- DEBUG_REQUEST (17 R449). -/
def execDebugRequest (val : Word) (s : State) : Host.Outcome State Fault Refusal :=
  .next ((s.boardDoes (fun s => s.debugReq val)).settle)

/-- ERASING_COMPLETE (17 R450). -/
def execErasingComplete (s : State) : Host.Outcome State Fault Refusal := .next s.eraseDone.settle

/-- JTAG_INSTRUCTION (18 R466; 17 R448). -/
def execJtagInstruction (ins : JtagIns) (s : State) : Host.Outcome State Fault Refusal := .next (s.tap ins)

/-- VDD_STBY_LOSS (18 R460). -/
def execVddStbyLoss (s : State) : Host.Outcome State Fault Refusal := .next (s.standby false)

/-- VDD_STBY_RETURN (18 R460). -/
def execVddStbyReturn (s : State) : Host.Outcome State Fault Refusal := .next (s.standby true)

/-- REQUESTED_STATE_WRITE (15 R392). -/
def execRequestedStateWrite (val : Nat) (path : Path) (s : State) : Host.Outcome State Fault Refusal :=
  .next ((s.write path 0x2100 1 (natLE 1 val)).settle)

/-- ENTRY_GUARD_CLEAR (15 R392). -/
def execEntryGuardClear (s : State) : Host.Outcome State Fault Refusal := .next s.guardsClear.settle

/-- DROWSE_IDLE_EXPIRY (15 R393). -/
def execDrowseIdleExpiry (s : State) : Host.Outcome State Fault Refusal := .next s.drowseIdle.settle

/-- SETTLING_DONE (15 R394). -/
def execSettlingDone (s : State) : Host.Outcome State Fault Refusal := .next s.settlingDone.settle

/-- PG_MAIN_LOST (15 R395). -/
def execPgMainLost (s : State) : Host.Outcome State Fault Refusal := .next s.pgLost

/-- WAKE_N_FALL (15 R398). -/
def execWakeNFall (s : State) : Host.Outcome State Fault Refusal := .next (s.wake 7 0)

/-- ALARM_EXPIRY (15 R398). -/
def execAlarmExpiry (s : State) : Host.Outcome State Fault Refusal := .next s.alarm

/-- SERVICE_PORT_VBUS_WAKE (15 R398). -/
def execServicePortVbusWake (s : State) : Host.Outcome State Fault Refusal := .next (s.wake 8 0)

/-- DORMANT_ACCESS_WAKE (15 R391). -/
def execDormantAccessWake (s : State) : Host.Outcome State Fault Refusal := .next s.dormantAccess

/-- DOMAIN_POWER_GOOD (15 R400). -/
def execDomainPowerGood (d : Domain) (s : State) : Host.Outcome State Fault Refusal := .next ((s.powerGood d).settle)

/-- POWER_GOOD_TIMEOUT (15 R400, R401). -/
def execPowerGoodTimeout (d : Domain) (s : State) : Host.Outcome State Fault Refusal := .next ((s.powerLate d).settle)

/-- CORE_VOLTAGE_UPDATE (15 R402). -/
def execCoreVoltageUpdate (mv : Nat) (s : State) : Host.Outcome State Fault Refusal := .next (s.coreUpdate mv)

/-- REACTION_TIME_EXPIRY (16 R417). -/
def execReactionTimeExpiry (slot : Nat) (s : State) : Host.Outcome State Fault Refusal :=
  onUnit (decide (slot < 32)) "slot" slot (s.reactionEnd slot).settle

/-- FAULT_ACKNOWLEDGE (16 R418). -/
def execFaultAcknowledge (source : Nat) (inst : Nat) (s : State) : Host.Outcome State Fault Refusal :=
  .next ((s.ack source inst).settle)

/-- SAFE_STOP_RELEASE (16 R410). -/
def execSafeStopRelease (path : Path) (s : State) : Host.Outcome State Fault Refusal :=
  .next ((s.write path 0x2502 2 [1]).settle)

/-- JUNCTION_TEMPERATURE_READING (16 R414). -/
def execJunctionTemperatureReading (group : Nat) (temp : Int) (s : State) : Host.Outcome State Fault Refusal :=
  onUnit (decide (group ≤ 4)) "sensor group" group (s.reading_ group temp).settle

/-- CURATOR_WATCHDOG_EXPIRY (16 R413). -/
def execCuratorWatchdogExpiry (s : State) : Host.Outcome State Fault Refusal := .next s.curatorLost.settle

/-- CURATOR_RESTART_TIMEOUT (16 R413). -/
def execCuratorRestartTimeout (s : State) : Host.Outcome State Fault Refusal := .next s.curatorAgain

/-- RESTARTED_CURATOR_RUNS (16 R413). -/
def execRestartedCuratorRuns (s : State) : Host.Outcome State Fault Refusal := .next s.curatorRuns.settle

/-- ERR_OUT_N_MINIMUM_EXPIRY (16 R419). -/
def execErrOutNMinimumExpiry (s : State) : Host.Outcome State Fault Refusal :=
  .next (s.modFlt (fun f => { f with minRun := false }))

/-- EMCY_INHIBIT_EXPIRY (16 R420). -/
def execEmcyInhibitExpiry (s : State) : Host.Outcome State Fault Refusal := .next s.emcyDue

/-- ERROR_HISTORY_CLEAR (16 R422). -/
def execErrorHistoryClear (path : Path) (s : State) : Host.Outcome State Fault Refusal :=
  .next (s.write path 0x1003 0 [0])

end Sys2Proof.Machine
end

