-- ==== Sys2Proof/Machine/PowerEvents.lean ====
section
/-!
DEFINITION. The meanings of the power-contract, power-switching and service-port events (13, 14).
-/
namespace Sys2Proof.Machine

/-- A trip, or a lock after the last retry or a drain that fails, that a transition brought about is a wake event outside *Run*
(14 R384; 15 R396). -/
def State.tripWake (s : State) (p : Nat) (t : State) : State :=
  let was := (s.getProt p).sw
  let now := (t.getProt p).sw
  if (now = .draining ∧ (t.getProt p).tripSeq = true ∧ was ≠ .draining) ∨ (now = .locked ∧ was ≠ .locked) then t.wake 3 p else t

/-- The sense voltage crosses the fast-trip threshold while the gate is on (14 R376, R377). -/
def State.fastTrip (s : State) (p : Nat) : State := if (s.getProt p).gate then s.trip p 2 0 else s

/-- VBUS is not good within tRAMPTO of the ramp's start (14 R377). -/
def State.rampLate (s : State) (p : Nat) : State :=
  if (s.getProt p).sw = .ramping ∧ (s.getProt p).rampPhase = .ramp then s.trip p 3 0 else s

/-- RD_ON_ONE_CC (13 R342). -/
def execRdOnOneCc (p : Nat) (cc1 : CcPin) (cc2 : CcPin) (s : State) : Host.Outcome State Fault Refusal :=
  onUnit (portOk p) "port" p (s.ccPins p cc1 cc2)

/-- CC_ATTACH_DEBOUNCE_EXPIRY (13 R342). -/
def execCcAttachDebounceExpiry (p : Nat) (s : State) : Host.Outcome State Fault Refusal :=
  onUnit (portOk p) "port" p (s.ccAttached p)

/-- RD_LOST (13 R342). -/
def execRdLost (p : Nat) (s : State) : Host.Outcome State Fault Refusal := onUnit (portOk p) "port" p (s.rdLost p)

/-- CC_DETACH_DEBOUNCE_EXPIRY (13 R342, 15 R396). -/
def execCcDetachDebounceExpiry (p : Nat) (s : State) : Host.Outcome State Fault Refusal :=
  onUnit (portOk p) "port" p ((s.ccLost p).settle)

/-- UNATTACHED_DRAIN_DONE (13 R342). -/
def execUnattachedDrainDone (p : Nat) (s : State) : Host.Outcome State Fault Refusal :=
  onUnit (portOk p) "port" p (s.ccDrained p)

/-- VCONN_FAULT (13 R348). -/
def execVconnFault (p : Nat) (s : State) : Host.Outcome State Fault Refusal :=
  onUnit (portOk p) "port" p (s.vconnFault p)

/-- DISCOVER_IDENTITY_INTERVAL (13 R349). -/
def execDiscoverIdentityInterval (p : Nat) (s : State) : Host.Outcome State Fault Refusal :=
  onUnit (portOk p) "port" p (s.discover p)

/-- CABLE_IDENTITY_RECEIVED (13 R349). -/
def execCableIdentityReceived (p : Nat) (idHeader : Word) (vdo : Word) (caps : CableCaps) (s : State) : Host.Outcome State Fault Refusal :=
  onUnit (portOk p) "port" p (s.cableRead p idHeader vdo caps)

/-- BC12_PRIMARY_DETECTION (13 R346). -/
def execBc12PrimaryDetection (p : Nat) (s : State) : Host.Outcome State Fault Refusal :=
  onUnit (portOk p) "port" p (s.bcDetected p)

/-- RP_CURRENT_ADJUST_EXPIRY (13 R345). -/
def execRpCurrentAdjustExpiry (p : Nat) (s : State) : Host.Outcome State Fault Refusal :=
  onUnit (portOk p) "port" p (s.rpAdjusted p)

/-- SOURCE_CAPABILITIES_INTERVAL (13 R351). -/
def execSourceCapabilitiesInterval (p : Nat) (goodCrc : Bool) (s : State) : Host.Outcome State Fault Refusal :=
  onUnit (portOk p) "port" p (s.capsDue p goodCrc)

/-- PD_REQUEST (13 R353). -/
def execPdRequest (p : Nat) (req : PdReq) (s : State) : Host.Outcome State Fault Refusal :=
  onUnit (portOk p) "port" p (s.pdRequest p req)

/-- EPR_MODE_ENTER (13 R353). -/
def execEprModeEnter (p : Nat) (s : State) : Host.Outcome State Fault Refusal :=
  onUnit (portOk p) "port" p (s.eprEnter p)

/-- EPR_KEEPALIVE (13 R355). -/
def execEprKeepalive (p : Nat) (s : State) : Host.Outcome State Fault Refusal :=
  onUnit (portOk p) "port" p (if (s.getPwr p).epr then s.pdAnswer p 16 [] else s)

/-- GET_SOURCE_CAP (13 R351). -/
def execGetSourceCap (p : Nat) (s : State) : Host.Outcome State Fault Refusal :=
  onUnit (portOk p) "port" p (s.capsAsked p)

/-- GET_STATUS (13 R351). -/
def execGetStatus (p : Nat) (s : State) : Host.Outcome State Fault Refusal :=
  onUnit (portOk p) "port" p (s.pdAnswer p 9 [])

/-- GET_REVISION (13 R351). -/
def execGetRevision (p : Nat) (s : State) : Host.Outcome State Fault Refusal :=
  onUnit (portOk p) "port" p (s.pdAnswer p 10 [3, 1])

/-- PR_SWAP (13 R351). -/
def execPrSwap (p : Nat) (s : State) : Host.Outcome State Fault Refusal :=
  onUnit (portOk p) "port" p (s.pdAnswer p 4 [1])

/-- DR_SWAP (13 R351). -/
def execDrSwap (p : Nat) (s : State) : Host.Outcome State Fault Refusal :=
  onUnit (portOk p) "port" p (s.pdAnswer p 4 [2])

/-- VCONN_SWAP (13 R351). -/
def execVconnSwap (p : Nat) (s : State) : Host.Outcome State Fault Refusal :=
  onUnit (portOk p) "port" p (s.pdAnswer p 4 [3])

/-- FR_SWAP (13 R351). -/
def execFrSwap (p : Nat) (s : State) : Host.Outcome State Fault Refusal :=
  onUnit (portOk p) "port" p (s.pdAnswer p 4 [4])

/-- STRUCTURED_VDM (13 R351). -/
def execStructuredVdm (p : Nat) (s : State) : Host.Outcome State Fault Refusal :=
  onUnit (portOk p) "port" p (s.pdAnswer p 11 [])

/-- PS_RDY (13 R354). -/
def execPsRdy (p : Nat) (s : State) : Host.Outcome State Fault Refusal := onUnit (portOk p) "port" p (s.psRdy p)

/-- PPS_KEEPALIVE_TIMEOUT (13 R355). -/
def execPpsKeepaliveTimeout (p : Nat) (s : State) : Host.Outcome State Fault Refusal :=
  onUnit (portOk p) "port" p ((s.keepLost p (decide ((s.getPwr p).kind = 7))).settle)

/-- EPR_KEEPALIVE_TIMEOUT (13 R355). -/
def execEprKeepaliveTimeout (p : Nat) (s : State) : Host.Outcome State Fault Refusal :=
  onUnit (portOk p) "port" p ((s.keepLost p (s.getPwr p).epr).settle)

/-- HARD_RESET (13 R356). -/
def execHardReset (p : Nat) (received : Bool) (s : State) : Host.Outcome State Fault Refusal :=
  onUnit (portOk p) "port" p ((s.hardReset p received).settle)

/-- HARD_RESET_RECOVERY_EXPIRY (13 R356). -/
def execHardResetRecoveryExpiry (p : Nat) (s : State) : Host.Outcome State Fault Refusal :=
  onUnit (portOk p) "port" p (s.hardRecovered p)

/-- RENEGOTIATION_NO_REQUEST_EXPIRY (13 R357). -/
def execRenegotiationNoRequestExpiry (p : Nat) (s : State) : Host.Outcome State Fault Refusal :=
  onUnit (portOk p) "port" p ((s.noRequest p).settle)

/-- STATUS_WORD_POLL (13 R358, R359). -/
def execStatusWordPoll (p : Nat) (status : StageStatus) (s : State) : Host.Outcome State Fault Refusal :=
  onUnit (portOk p) "port" p ((s.tripWake p ((s.pmbus p 0x79 0).stageEvent p status)).settle)

/-- SMBALERT (13 R358, R359). -/
def execSmbalert (p : Nat) (status : StageStatus) (s : State) : Host.Outcome State Fault Refusal :=
  onUnit (portOk p) "port" p ((s.tripWake p ((s.pmbus p 0x79 1).stageEvent p status)).settle)

/-- STAGE_WARNING_CLEAR_EXPIRY (13 R359). -/
def execStageWarningClearExpiry (p : Nat) (s : State) : Host.Outcome State Fault Refusal :=
  onUnit (portOk p) "port" p (s.warnClear p)

/-- PMBUS_BUS_HELD_LOW (13 R359, R360). -/
def execPmbusBusHeldLow (g : Nat) (s : State) : Host.Outcome State Fault Refusal :=
  onUnit (galOk g) "gallery" g (s.busHeld g).settle

/-- PMBUS_SEGMENT_RECOVERED (13 R360). -/
def execPmbusSegmentRecovered (g : Nat) (s : State) : Host.Outcome State Fault Refusal :=
  onUnit (galOk g) "gallery" g (s.busFreed g)

/-- GALLERY_POWER_SUM (13 R362). -/
def execGalleryPowerSum (g : Nat) (s : State) : Host.Outcome State Fault Refusal :=
  onUnit (galOk g) "gallery" g (s.powerSum g)

/-- RAISE_SLOT (13 R364). -/
def execRaiseSlot (g : Nat) (s : State) : Host.Outcome State Fault Refusal :=
  onUnit (galOk g) "gallery" g (s.raiseSlot g)

/-- SERVICE_PORT_FAST_DOMAIN_ON (13 R366). -/
def execServicePortFastDomainOn (s : State) : Host.Outcome State Fault Refusal := .next (s.svcDomain true)

/-- SERVICE_PORT_FAST_DOMAIN_OFF (13 R366). -/
def execServicePortFastDomainOff (s : State) : Host.Outcome State Fault Refusal := .next (s.svcDomain false)

/-- SERVICE_PORT_RP_SEEN (13 R366). -/
def execServicePortRpSeen (s : State) : Host.Outcome State Fault Refusal := .next s.svcSink

/-- SERVICE_PORT_RD_SEEN (13 R366). -/
def execServicePortRdSeen (s : State) : Host.Outcome State Fault Refusal := .next s.svcSrc

/-- SERVICE_PORT_ROLE_TOGGLE (13 R366). -/
def execServicePortRoleToggle (s : State) : Host.Outcome State Fault Refusal := .next s.svcToggle

/-- SERVICE_PORT_VBUS_LOSS (13 R366). -/
def execServicePortVbusLoss (s : State) : Host.Outcome State Fault Refusal :=
  .next ((if s.svc.state = .attachedSnk then s.svcOff .unattachedSnk else s))

/-- SERVICE_PORT_RD_LOST (13 R366). -/
def execServicePortRdLost (s : State) : Host.Outcome State Fault Refusal :=
  .next ((if s.svc.state = .attachedSrc then s.svcOff .unattachedSnk else s))

/-- SERVICE_PORT_SOURCE_CAPABILITIES (13 R366). -/
def execServicePortSourceCapabilities (offeredMa : Nat) (s : State) : Host.Outcome State Fault Refusal :=
  .next (s.svcRequest offeredMa)

/-- SERVICE_PORT_DR_SWAP_ANSWER (13 R366). -/
def execServicePortDrSwapAnswer (accept : Bool) (s : State) : Host.Outcome State Fault Refusal :=
  .next (s.svcSwapped accept)

/-- FAST_TRIP (14 R376, R384; 15 R396). -/
def execFastTrip (p : Nat) (s : State) : Host.Outcome State Fault Refusal :=
  onUnit (portOk p) "port" p ((s.tripWake p (s.fastTrip p)).settle)

/-- OFFSET_MEASUREMENT (14 R371). -/
def execOffsetMeasurement (p : Nat) (s : State) : Host.Outcome State Fault Refusal :=
  onUnit (portOk p) "port" p (s.measure p)

/-- OFFSET_MEASUREMENT_END (14 R371, R372). -/
def execOffsetMeasurementEnd (p : Nat) (offset : Int) (s : State) : Host.Outcome State Fault Refusal :=
  onUnit (portOk p) "port" p (s.measured p offset)

/-- PRECHARGE_DONE (14 R378). -/
def execPrechargeDone (p : Nat) (s : State) : Host.Outcome State Fault Refusal :=
  onUnit (portOk p) "port" p (s.precharged p)

/-- RAMP_SAFE_POINT (14 R378). -/
def execRampSafePoint (p : Nat) (s : State) : Host.Outcome State Fault Refusal :=
  onUnit (portOk p) "port" p (s.safePoint p)

/-- VBUS_SETTLE_EXPIRY (14 R384). -/
def execVbusSettleExpiry (p : Nat) (s : State) : Host.Outcome State Fault Refusal :=
  onUnit (portOk p) "port" p (s.settled p).settle

/-- RAMP_TIMEOUT (14 R377, R381). -/
def execRampTimeout (p : Nat) (s : State) : Host.Outcome State Fault Refusal :=
  onUnit (portOk p) "port" p ((s.tripWake p (s.rampLate p)).settle)

/-- VBUS_DRAINED (14 R384). -/
def execVbusDrained (p : Nat) (s : State) : Host.Outcome State Fault Refusal :=
  onUnit (portOk p) "port" p ((s.tripWake p (s.drainedVbus p)).settle)

/-- DRAIN_TIMEOUT (14 R383). -/
def execDrainTimeout (p : Nat) (s : State) : Host.Outcome State Fault Refusal :=
  onUnit (portOk p) "port" p ((s.tripWake p (s.stuckOn p)).settle)

/-- RETRY_OFF_TIME_EXPIRY (14 R381). -/
def execRetryOffTimeExpiry (p : Nat) (status : StageStatus) (s : State) : Host.Outcome State Fault Refusal :=
  onUnit (portOk p) "port" p ((s.tripWake p (s.retry p status)).settle)

/-- RETRY_CLEAR_EXPIRY (14 R382). -/
def execRetryClearExpiry (p : Nat) (s : State) : Host.Outcome State Fault Refusal :=
  onUnit (portOk p) "port" p (s.retryCleared p)

end Sys2Proof.Machine
end

