-- ==== Sys2Proof/Machine/Events.lean ====
section
/-!
DEFINITION. The commands of loans and the Collection, of the Vault, fan-out and captures, of movers and check units, and of the
memories (03, 10, 11, 12).
-/
namespace Sys2Proof.Machine

/-- An event of board firmware at an operator channel (11 R306, R319). -/
def State.chanCommand (s : State) (c : Nat) (f : State → Nat → State) : State := s.boardDoes (fun s => s.opChan c f)

/-- The Vault enabled in normal service; its PLL starts if it is stopped (10 R281; 01 R30). -/
def State.vaultEnabled (s : State) (drives : DriveReps) : State :=
  if s.inService = false ∨ s.dps.state ≠ .run then s
  else (if (s.pll .pcie).state = .stopped then s.pllStart .pcie else s).vaultOn drives

/-- The lines of a descriptor's buffer side that the mover reads: an injection into them fires (16 R426). -/
def State.sideUse (s : State) (d : Bytes) : State :=
  let o := s.flt.injAddr.toNat - s.areaBase
  if (srcSide d).1 = 0 ∧ s.areaBase ≤ s.flt.injAddr.toNat ∧
      (sideLines (srcSide d)).any (fun l => decide (l ≤ o) && decide (o < l + (srcSide d).2.2.1)) = true then s.injectMem 1
  else s

/-- A descriptor's moves end; while the PCIe PLL is stopped one with a Vault side waits (11 R317, R321). -/
def State.descriptorEnd (s : State) (c : Nat) (data : Bytes) : State :=
  let d := (s.chan c).desc
  if (s.pll .pcie).state = .stopped ∧ ((srcSide d).1 = 1 ∨ (dstSide d).1 = 1) then s else (s.sideUse d).descMoved c data

/-- LOAN_GRANT (03 R83). -/
def execLoanGrant (t : Nat) (path : Path) (s : State) : Host.Outcome State Fault Refusal :=
  onUnit (tenantOk t) "tenant" t ((s.write path 0x6007 t [1]).settle)

/-- LOAN_CHANGE (03 R83). -/
def execLoanChange (t : Nat) (path : Path) (s : State) : Host.Outcome State Fault Refusal :=
  onUnit (tenantOk t) "tenant" t ((s.write path 0x6007 t [2]).settle)

/-- LOAN_END (03 R90). -/
def execLoanEnd (t : Nat) (path : Path) (s : State) : Host.Outcome State Fault Refusal :=
  onUnit (tenantOk t) "tenant" t ((s.write path 0x6007 t [3]).settle)

/-- LOAN_RESUME (16 R412; 03 R92). -/
def execLoanResume (t : Nat) (path : Path) (s : State) : Host.Outcome State Fault Refusal :=
  onUnit (tenantOk t) "tenant" t ((s.write path 0x6007 t [4]).settle)

/-- LAST_ITEM_ENDED (03 R90). -/
def execLastItemEnded (t : Nat) (s : State) : Host.Outcome State Fault Refusal :=
  onUnit (tenantOk t) "tenant" t ((s.loanIdle t).settle)

/-- LEASE_EXPIRY (03 R99). -/
def execLeaseExpiry (t : Nat) (s : State) : Host.Outcome State Fault Refusal :=
  onUnit (tenantOk t) "tenant" t ((s.leaseOver t).settle)

/-- NERQUELU_HEARTBEAT_SEND (03 R97; 10 R299). -/
def execNerqueluHeartbeatSend (s : State) : Host.Outcome State Fault Refusal := .next s.beat.progressAll

/-- HEARTBEAT_RECEIVED (03 R97, R98). -/
def execHeartbeatReceived (hdr : NqHeader) (digest : Bytes) (quorumSet : Word) (s : State) : Host.Outcome State Fault Refusal :=
  .next (s.nqTake hdr (fun s => s.beatSeen hdr digest quorumSet))

/-- QUORUM_WINDOW_EXPIRY (03 R98). -/
def execQuorumWindowExpiry (voter : Nat) (s : State) : Host.Outcome State Fault Refusal := .next (s.unheard voter)

/-- EPOCH_ADVANCE_REQUEST (03 R102). -/
def execEpochAdvanceRequest (path : Path) (s : State) : Host.Outcome State Fault Refusal :=
  .next ((s.write path 0x7005 0 [1]))

/-- EPOCH_PROPOSE (03 R102). -/
def execEpochPropose (hdr : NqHeader) (proposed : Word) (s : State) : Host.Outcome State Fault Refusal :=
  .next (s.nqTake hdr (fun s => s.proposed_ proposed))

/-- EPOCH_ACCEPT (03 R102). -/
def execEpochAccept (hdr : NqHeader) (accepted : Word) (s : State) : Host.Outcome State Fault Refusal :=
  .next (s.nqTake hdr (fun s => s.acceptSeen hdr.sender accepted))

/-- EPOCH_ADVANCE_TIMEOUT (03 R102). -/
def execEpochAdvanceTimeout (s : State) : Host.Outcome State Fault Refusal := .next s.epochLate

/-- LOCK_ACQUIRE (03 R103). -/
def execLockAcquire (lock : Nat) (path : Path) (s : State) : Host.Outcome State Fault Refusal :=
  onUnit (decide (lock < 256)) "lock" lock (s.lockVia lock 1 path)

/-- LOCK_RELEASE (03 R106). -/
def execLockRelease (lock : Nat) (path : Path) (s : State) : Host.Outcome State Fault Refusal :=
  onUnit (decide (lock < 256)) "lock" lock (s.lockVia lock 2 path)

/-- LOCK_BREAK (03 R106). -/
def execLockBreak (lock : Nat) (path : Path) (s : State) : Host.Outcome State Fault Refusal :=
  onUnit (decide (lock < 256)) "lock" lock (s.lockVia lock 3 path)

/-- LOCK_REQUEST_MESSAGE (03 R103). -/
def execLockRequestMessage (hdr : NqHeader) (msg : LockMsg) (s : State) : Host.Outcome State Fault Refusal :=
  .next (s.nqTake hdr (fun s => s.lockServe hdr.sender msg))

/-- LOCK_ANSWER_MESSAGE (03 R103). -/
def execLockAnswerMessage (hdr : NqHeader) (msg : LockMsg) (s : State) : Host.Outcome State Fault Refusal :=
  .next (s.nqTake hdr (fun s => s.lockSeen hdr.sender msg))

/-- LOCK_OWNER_LOST_EXPIRY (03 R104). -/
def execLockOwnerLostExpiry (member : Nat) (s : State) : Host.Outcome State Fault Refusal := .next (s.lockLost member)

/-- UPSTREAM_LINKS_ENABLED_WRITE (04 R114). -/
def execUpstreamLinksEnabledWrite (val : Nat) (path : Path) (s : State) : Host.Outcome State Fault Refusal :=
  .next ((s.write path 0x2200 4 (natLE 1 val)).settle)

/-- VAULT_ENABLE (10 R281). -/
def execVaultEnable (drives : DriveReps) (s : State) : Host.Outcome State Fault Refusal :=
  .next ((s.vaultEnabled drives).settle)

/-- VAULT_DISABLE (10 R304). -/
def execVaultDisable (path : Path) (s : State) : Host.Outcome State Fault Refusal :=
  .next ((s.write path 0x2300 2 [0]).settle)

/-- The record VAULT_READ (10 R279; 05 R153) reaches the virtual host. -/
def State.recVaultRead (s : State) (r : Rec) : State :=
  s.takeRec 0x60 r false false false 16 (fun s k i => (s.expects k 0 true).inRun k 0 (fun s => s.doVaultRead k i))

/-- VAULT_READ (10 R279; 05 R153). -/
def execVaultRead (r : Rec) (s : State) : Host.Outcome State Fault Refusal := .next (s.recVaultRead r).settle

/-- The record VAULT_WRITE (10 R278; 05 R153) reaches the virtual host. -/
def State.recVaultWrite (s : State) (r : Rec) : State :=
  s.takeRec 0x61 r false false false 16 (fun s k i => (s.expects k (i.f 8 4 * 4096) false).inRun k 0 (fun s => s.doVaultWrite k i))

/-- VAULT_WRITE (10 R278; 05 R153). -/
def execVaultWrite (r : Rec) (s : State) : Host.Outcome State Fault Refusal := .next (s.recVaultWrite r).settle

/-- The record VAULT_FLUSH (10 R283; 05 R153) reaches the virtual host. -/
def State.recVaultFlush (s : State) (r : Rec) : State :=
  s.takeRec 0x62 r false false false 0 (fun s k _ => s.inRun k 0 (fun s => s.doVaultFlush k))

/-- VAULT_FLUSH (10 R283; 05 R153). -/
def execVaultFlush (r : Rec) (s : State) : Host.Outcome State Fault Refusal := .next (s.recVaultFlush r).settle

/-- The record VAULT_DEALLOCATE (10 R283; 05 R153) reaches the virtual host. -/
def State.recVaultDeallocate (s : State) (r : Rec) : State :=
  s.takeRec 0x63 r false false false 12 (fun s k i => s.inRun k 0 (fun s => s.doVaultDealloc k i))

/-- VAULT_DEALLOCATE (10 R283; 05 R153). -/
def execVaultDeallocate (r : Rec) (s : State) : Host.Outcome State Fault Refusal := .next (s.recVaultDeallocate r).settle

/-- NVME_COMMAND_COMPLETE (10 R274). -/
def execNvmeCommandComplete (cmd : Nat) (ok : Bool) (s : State) : Host.Outcome State Fault Refusal :=
  .next ((s.nvmeDone cmd ok).settle)

/-- NVME_COMMAND_TIMEOUT (10 R274). -/
def execNvmeCommandTimeout (cmd : Nat) (s : State) : Host.Outcome State Fault Refusal :=
  .next ((s.nvmeLate cmd).settle)

/-- CONTROLLER_FATAL_STATUS (10 R274). -/
def execControllerFatalStatus (drive : Nat) (s : State) : Host.Outcome State Fault Refusal :=
  onUnit ((decide (1 ≤ drive) && decide (drive ≤ 8))) "drive" drive ((s.driveFail drive).settle)

/-- DRIVE_LINK_DOWN (10 R274). -/
def execDriveLinkDown (drive : Nat) (s : State) : Host.Outcome State Fault Refusal :=
  onUnit ((decide (1 ≤ drive) && decide (drive ≤ 8))) "drive" drive ((s.driveFail drive).settle)

/-- The record TEMPLATE_LOAD (10 R287) reaches the virtual host. -/
def State.recTemplateLoad (s : State) (r : Rec) : State :=
  s.takeRec 0x64 r false false false 8 State.doTemplate

/-- TEMPLATE_LOAD (10 R287). -/
def execTemplateLoad (r : Rec) (s : State) : Host.Outcome State Fault Refusal := .next (s.recTemplateLoad r).settle

/-- The record FANOUT_START (10 R290) reaches the virtual host. -/
def State.recFanoutStart (s : State) (r : Rec) : State :=
  s.takeRec 0x65 r false false false 32 (fun s k i =>
    (s.expects k (if bitOf (i.f 1 1) 0 then i.f 16 4 * 4096 else 0) false).inRun k 0 (fun s => s.doFanout k i))

/-- FANOUT_START (10 R290). -/
def execFanoutStart (r : Rec) (s : State) : Host.Outcome State Fault Refusal := .next (s.recFanoutStart r).settle

/-- The record FANOUT_STATUS (10 R297) reaches the virtual host. -/
def State.recFanoutStatus (s : State) (r : Rec) : State :=
  s.takeRec 0x66 r false false false 8 State.doFanStatus

/-- FANOUT_STATUS (10 R297). -/
def execFanoutStatus (r : Rec) (s : State) : Host.Outcome State Fault Refusal := .next (s.recFanoutStatus r).settle

/-- The record FANOUT_CANCEL (10 R296) reaches the virtual host. -/
def State.recFanoutCancel (s : State) (r : Rec) : State :=
  s.takeRec 0x67 r false false false 8 State.doFanCancel

/-- FANOUT_CANCEL (10 R296). -/
def execFanoutCancel (r : Rec) (s : State) : Host.Outcome State Fault Refusal := .next (s.recFanoutCancel r).settle

/-- EXCHANGE_STATUS (10 R295). -/
def execExchangeStatus (job : Nat) (target : Nat) (status : Bytes) (s : State) : Host.Outcome State Fault Refusal :=
  onUnit (decide (job < 16)) "job" job ((s.statusSeen job target status).settle)

/-- STATUS_PHASE_TIMEOUT (10 R293). -/
def execStatusPhaseTimeout (job : Nat) (target : Nat) (s : State) : Host.Outcome State Fault Refusal :=
  onUnit (decide (job < 16)) "job" job ((s.statusLate job target).settle)

/-- VERIFY_READ_COMPLETE (10 R294). -/
def execVerifyReadComplete (job : Nat) (target : Nat) (data : Bytes) (s : State) : Host.Outcome State Fault Refusal :=
  onUnit (decide (job < 16)) "job" job ((s.verifySeen job target data).settle)

/-- JOB_RESULT_RETENTION_EXPIRY (10 R290). -/
def execJobResultRetentionExpiry (job : Nat) (s : State) : Host.Outcome State Fault Refusal :=
  onUnit (decide (job < 16)) "job" job ((s.jobFree job).settle)

/-- FANOUT_PROGRESS (10 R299). -/
def execFanoutProgress (hdr : NqHeader) (body : Bytes) (s : State) : Host.Outcome State Fault Refusal :=
  .next (s.nqTake hdr (fun s => s.jobView hdr.sender body))

/-- The record CAPTURE_START (10 R300) reaches the virtual host. -/
def State.recCaptureStart (s : State) (r : Rec) : State :=
  s.takeRec 0x68 r false false false 24 (fun s k i => s.inRun k 0 (fun s => s.doCapture k i))

/-- CAPTURE_START (10 R300). -/
def execCaptureStart (r : Rec) (s : State) : Host.Outcome State Fault Refusal := .next (s.recCaptureStart r).settle

/-- The record CAPTURE_STOP (10 R300) reaches the virtual host. -/
def State.recCaptureStop (s : State) (r : Rec) : State :=
  s.takeRec 0x69 r false false false 8 State.doCaptStop

/-- CAPTURE_STOP (10 R300). -/
def execCaptureStop (r : Rec) (s : State) : Host.Outcome State Fault Refusal := .next (s.recCaptureStop r).settle

/-- GO (11 R319). -/
def execGo (chan : Nat) (s : State) : Host.Outcome State Fault Refusal :=
  onUnit (decide (chan < 32)) "channel" chan ((s.chanCommand chan State.chanGo).settle)

/-- RESUME (11 R319). -/
def execResume (chan : Nat) (s : State) : Host.Outcome State Fault Refusal :=
  onUnit (decide (chan < 32)) "channel" chan ((s.chanCommand chan State.chanResume).settle)

/-- SKIP (11 R319). -/
def execSkip (chan : Nat) (s : State) : Host.Outcome State Fault Refusal :=
  onUnit (decide (chan < 32)) "channel" chan ((s.chanCommand chan State.chanSkip).settle)

/-- STOP (11 R319). -/
def execStop (chan : Nat) (s : State) : Host.Outcome State Fault Refusal :=
  onUnit (decide (chan < 32)) "channel" chan ((s.chanCommand chan State.chanStop).settle)

/-- DESCRIPTOR_END (11 R317, R321). -/
def execDescriptorEnd (chan : Nat) (data : Bytes) (s : State) : Host.Outcome State Fault Refusal :=
  onUnit (decide (chan < 32)) "channel" chan ((s.descriptorEnd chan data).settle)

/-- MOVER_BUS_ERROR (11 R320). -/
def execMoverBusError (chan : Nat) (err : BusErr) (s : State) : Host.Outcome State Fault Refusal :=
  onUnit (decide (chan < 32)) "channel" chan ((s.busError chan err).settle)

/-- PIPE_SHORT_END (11 R315). -/
def execPipeShortEnd (chan : Nat) (data : Bytes) (s : State) : Host.Outcome State Fault Refusal :=
  onUnit (decide (chan < 32)) "channel" chan ((s.shortEnd chan data).settle)

/-- STOPPING_COMPLETE (11 R319). -/
def execStoppingComplete (chan : Nat) (s : State) : Host.Outcome State Fault Refusal :=
  onUnit (decide (chan < 32)) "channel" chan ((s.chanStopped chan).settle)

/-- CHECK_UNIT_FREE (11 R322). -/
def execCheckUnitFree (unit : Nat) (s : State) : Host.Outcome State Fault Refusal :=
  onUnit (decide (unit < 16)) "unit" unit ((s.unitFree unit).settle)

/-- MOVER_WINDOW_ACCESS (11 R308). -/
def execMoverWindowAccess (addr : Nat) (write : Option Word) (s : State) : Host.Outcome State Fault Refusal :=
  .next (s.boardDoes (fun s => s.windowAccess addr write))

/-- SCAN_GO (11 R325). -/
def execScanGo (ctrl : Word) (s : State) : Host.Outcome State Fault Refusal :=
  .next ((s.boardDoes (fun s => s.scanGo ctrl.toNat)).settle)

/-- SCAN_COMPLETE (11 R325). -/
def execScanComplete (s : State) : Host.Outcome State Fault Refusal := .next s.scanDone.settle

/-- SCRUB_PASS (12 R333, R336). -/
def execScrubPass (found : MemErrs) (s : State) : Host.Outcome State Fault Refusal :=
  .next ((s.scrubPass found).settle)

/-- REGION_ZEROING_DONE (12 R337). -/
def execRegionZeroingDone (r : Region) (s : State) : Host.Outcome State Fault Refusal := .next ((s.zeroed r).settle)

/-- CURRENT_SAMPLE (14 R374). -/
def execCurrentSample (p : Nat) (current : Int) (vbus : Nat) (s : State) : Host.Outcome State Fault Refusal :=
  onUnit (portOk p) "port" p ((s.tripWake p (s.sample p current vbus)).settle)

end Sys2Proof.Machine
end

