-- ==== Sys2Proof/Machine/PortEvents.lean ====
section
/-!
DEFINITION. The meanings of the port commands and events (06; 05 R153).
-/
namespace Sys2Proof.Machine

/-- The record VBUS_ON (05 R153, 13 R344) reaches the virtual host. -/
def State.recVbusOn (s : State) (r : Rec) : State :=
  s.takeRec 0x10 r false false false 8 (fun s k i => s.portAction k i 1 (fun s p => s.unlessPaused k (State.vbusOn · k p)))

/-- VBUS_ON (05 R153, 13 R344). -/
def execVbusOn (r : Rec) (s : State) : Host.Outcome State Fault Refusal := .next (s.recVbusOn r).settle

/-- The record VBUS_OFF (05 R153, 13 R344) reaches the virtual host. -/
def State.recVbusOff (s : State) (r : Rec) : State :=
  s.takeRec 0x10 r false false false 8 (fun s k i => s.portAction k i 2 (fun s p => s.unlessPaused k (State.vbusOff · k p)))

/-- VBUS_OFF (05 R153, 13 R344). -/
def execVbusOff (r : Rec) (s : State) : Host.Outcome State Fault Refusal := .next (s.recVbusOff r).settle

/-- The record PORT_RESET (05 R153, 06 R172, R182) reaches the virtual host. -/
def State.recPortReset (s : State) (r : Rec) : State :=
  s.takeRec 0x10 r false false false 8 (fun s k i => s.portAction k i 3 (fun s p => s.inRun k p (State.askReset · p (some k))))

/-- PORT_RESET (05 R153, 06 R172, R182). -/
def execPortReset (r : Rec) (s : State) : Host.Outcome State Fault Refusal := .next (s.recPortReset r).settle

/-- The record SUSPEND_TREE (05 R153, 06 R182, R191) reaches the virtual host. -/
def State.recSuspendTree (s : State) (r : Rec) : State :=
  s.takeRec 0x10 r false false false 8 (fun s k i => s.portAction k i 4 (fun s p => s.inRun k p (State.askSuspend · k p)))

/-- SUSPEND_TREE (05 R153, 06 R182, R191). -/
def execSuspendTree (r : Rec) (s : State) : Host.Outcome State Fault Refusal := .next (s.recSuspendTree r).settle

/-- The record RESUME_TREE (05 R153, 06 R182, R193) reaches the virtual host. -/
def State.recResumeTree (s : State) (r : Rec) : State :=
  s.takeRec 0x10 r false false false 8 (fun s k i => s.portAction k i 5 (fun s p => s.inRun k p (State.askResume · k p)))

/-- RESUME_TREE (05 R153, 06 R182, R193). -/
def execResumeTree (r : Rec) (s : State) : Host.Outcome State Fault Refusal := .next (s.recResumeTree r).settle

/-- The record DISABLE (05 R153, 06 R182) reaches the virtual host. -/
def State.recDisable (s : State) (r : Rec) : State :=
  s.takeRec 0x10 r false false false 8 (fun s k i => s.portAction k i 6 (fun s p => s.inRun k p (State.askDisable · k p)))

/-- DISABLE (05 R153, 06 R182). -/
def execDisable (r : Rec) (s : State) : Host.Outcome State Fault Refusal := .next (s.recDisable r).settle

/-- The record PORT_STATUS (05 R153) reaches the virtual host. -/
def State.recPortStatus (s : State) (r : Rec) : State :=
  s.takeRec 0x11 r true false false 8 (fun s k i => s.portStatus k i)

/-- PORT_STATUS (05 R153). -/
def execPortStatus (r : Rec) (s : State) : Host.Outcome State Fault Refusal := .next (s.recPortStatus r)

/-- VBUS_GOOD (06 R167, R182; 13 R347). -/
def execVbusGood (p : Nat) (s : State) : Host.Outcome State Fault Refusal :=
  onUnit (portOk p) "port" p (((s.portGood p).vconnApply p).settle)

/-- PORT_VBUS_OFF (06 R182). -/
def execPortVbusOff (p : Nat) (s : State) : Host.Outcome State Fault Refusal :=
  onUnit (portOk p) "port" p ((s.portOff p).settle)

/-- CONNECT (06 R168). -/
def execConnect (p : Nat) (kind : ConnKind) (s : State) : Host.Outcome State Fault Refusal :=
  onUnit (portOk p) "port" p ((s.portConnect p kind).settle)

/-- CONNECTION_CONFIRMED (06 R168, R182). -/
def execConnectionConfirmed (p : Nat) (s : State) : Host.Outcome State Fault Refusal :=
  onUnit (portOk p) "port" p ((s.portConfirmed p).settle)

/-- PORT_DISCONNECT (06 R181, 15 R396). -/
def execPortDisconnect (p : Nat) (s : State) : Host.Outcome State Fault Refusal :=
  onUnit (portOk p) "port" p ((s.disconnected p).settle)

/-- POLLING_TIMEOUT (06 R170). -/
def execPollingTimeout (p : Nat) (s : State) : Host.Outcome State Fault Refusal :=
  onUnit (portOk p) "port" p ((s.pollTimeout p).settle)

/-- PORT_RESET_END (06 R172, R174, R175). -/
def execPortResetEnd (p : Nat) (trained : Speed) (s : State) : Host.Outcome State Fault Refusal :=
  onUnit (portOk p) "port" p ((s.resetEnd p trained).settle)

/-- RESET_RECOVERY_EXPIRY (06 R174). -/
def execResetRecoveryExpiry (p : Nat) (s : State) : Host.Outcome State Fault Refusal :=
  onUnit (portOk p) "port" p ((s.resetRecovered p).settle)

/-- DEVICE_RESET_REQUEST (06 R176). -/
def execDeviceResetRequest (p : Nat) (addr : Nat) (path : Path) (s : State) : Host.Outcome State Fault Refusal :=
  onUnit (portOk p) "port" p ((s.viaWrite path 0x4024 p (State.resetDevice · p addr)).settle)

/-- ENUMERATION_REQUEST_COMPLETE (06 R177, R178). -/
def execEnumerationRequestComplete (p : Nat) (res : ReqRes) (s : State) : Host.Outcome State Fault Refusal :=
  onUnit (portOk p) "port" p ((s.enumReq p res).settle)

/-- SET_ADDRESS_RECOVERY_EXPIRY (06 R177). -/
def execSetAddressRecoveryExpiry (p : Nat) (s : State) : Host.Outcome State Fault Refusal :=
  onUnit (portOk p) "port" p (s.addressSettled p)

/-- ADDRESS_RELEASE (06 R177). -/
def execAddressRelease (p : Nat) (addr : Nat) (s : State) : Host.Outcome State Fault Refusal :=
  onUnit (portOk p) "port" p (s.addressFree p addr)

/-- EXTERNAL_HUB_STATUS_CHANGE (06 R180, R181). -/
def execExternalHubStatusChange (p : Nat) (hub : Nat) (hubPort : Nat) (change : HubChange) (s : State) : Host.Outcome State Fault Refusal :=
  onUnit (portOk p) "port" p ((s.hubChange p hub hubPort change).settle)

/-- SUPERSPEED_RECOVERY (06 R185). -/
def execSuperspeedRecovery (p : Nat) (reachedU0 : Bool) (s : State) : Host.Outcome State Fault Refusal :=
  onUnit (portOk p) "port" p ((s.recovery p reachedU0).settle)

/-- RECOVERY_WINDOW_EXPIRY (06 R185). -/
def execRecoveryWindowExpiry (p : Nat) (s : State) : Host.Outcome State Fault Refusal :=
  onUnit (portOk p) "port" p (s.modUsb p (fun u => { u with recWindow := u.recWindow - 1 }))

/-- RESTORE_REQUEST_COMPLETE (06 R188, R189). -/
def execRestoreRequestComplete (p : Nat) (res : ReqRes) (s : State) : Host.Outcome State Fault Refusal :=
  onUnit (portOk p) "port" p ((s.restoreReq p res).settle)

/-- RESTORE_WINDOW_EXPIRY (06 R189). -/
def execRestoreWindowExpiry (p : Nat) (s : State) : Host.Outcome State Fault Refusal :=
  onUnit (portOk p) "port" p ((s.restWindow p).settle)

/-- RESTORE_TIMEOUT (06 R189). -/
def execRestoreTimeout (p : Nat) (s : State) : Host.Outcome State Fault Refusal :=
  onUnit (portOk p) "port" p ((s.restLate p).settle)

/-- SUSPEND_ENTRY_DONE (06 R191). -/
def execSuspendEntryDone (p : Nat) (s : State) : Host.Outcome State Fault Refusal :=
  onUnit (portOk p) "port" p (s.suspendDone p)

/-- IDLE_SUSPEND_EXPIRY (06 R192). -/
def execIdleSuspendExpiry (p : Nat) (s : State) : Host.Outcome State Fault Refusal :=
  onUnit (portOk p) "port" p (s.idleSuspend p)

/-- SUSPEND_CURRENT_CHECK (06 R195). -/
def execSuspendCurrentCheck (p : Nat) (avg : Int) (s : State) : Host.Outcome State Fault Refusal :=
  onUnit (portOk p) "port" p ((s.suspChecked p avg).settle)

/-- RESUME_SIGNALLING_DONE (06 R193). -/
def execResumeSignallingDone (p : Nat) (s : State) : Host.Outcome State Fault Refusal :=
  onUnit (portOk p) "port" p ((s.resumed p).settle)

/-- U3_EXIT_TIMEOUT (06 R193). -/
def execU3ExitTimeout (p : Nat) (s : State) : Host.Outcome State Fault Refusal :=
  onUnit (portOk p) "port" p (if (s.getUsb p).resuming ∧ isSuper (speedCode (s.getUsb p).speed) = true then (s.degraded p).settle else s)

/-- REMOTE_WAKE (06 R197, 15 R396). -/
def execRemoteWake (p : Nat) (device : Nat) (s : State) : Host.Outcome State Fault Refusal :=
  onUnit (portOk p) "port" p ((s.wakeSeen p device).settle)

/-- L1_IDLE_EXPIRY (06 R196). -/
def execL1IdleExpiry (idle : L1Idle) (s : State) : Host.Outcome State Fault Refusal :=
  onUnit (portOk idle.port) "port" idle.port (s.l1Idle idle.port idle.besl)

/-- U1_U2_INACTIVITY_TIMEOUT (06 R196). -/
def execU1U2InactivityTimeout (p : Nat) (u2 : Bool) (s : State) : Host.Outcome State Fault Refusal :=
  onUnit (portOk p) "port" p (s.uIdle p u2)

/-- DEVICE_INITIATED_LINK_ENTRY (06 R196). -/
def execDeviceInitiatedLinkEntry (p : Nat) (level : Nat) (s : State) : Host.Outcome State Fault Refusal :=
  onUnit (portOk p) "port" p (s.devicePm p level)

/-- QUARANTINE_RELEASE (06 R182, 16 R411). -/
def execQuarantineRelease (p : Nat) (path : Path) (s : State) : Host.Outcome State Fault Refusal :=
  onUnit (portOk p) "port" p ((s.viaWrite path 0x402D p (State.releaseAsked · p)).settle)

/-- INTERFACE_MAP_READ_COMPLETE (07 R214, 06 R188). -/
def execInterfaceMapReadComplete (p : Nat) (addr : Nat) (map : IfMap) (s : State) : Host.Outcome State Fault Refusal :=
  onUnit (portOk p) "port" p ((s.mapDone p addr map).settle)

end Sys2Proof.Machine
end

