-- ==== Sys2Proof/Machine/Receive.lean ====
section
/-!
DEFINITION. The receiving side of a session: frames in sequence, the records they carry and the commands those records are (04 R119,
R122, R129, R131; 05 R152 to R154).
-/
namespace Sys2Proof.Machine

/-- A command record handed to its command by OPCODE, a `PORT_ACTION` by its ACTION as well (05 R153). -/
def State.serveRec (s : State) (op : Nat) (r : Rec) : State :=
  match op with
  | 0x10 =>
    match beNat (slice r.body 1 1) with
    | 2 => s.recVbusOff r
    | 3 => s.recPortReset r
    | 4 => s.recSuspendTree r
    | 5 => s.recResumeTree r
    | 6 => s.recDisable r
    | _ => s.recVbusOn r
  | 0x11 => s.recPortStatus r
  | 0x20 => s.recPipeOpen r
  | 0x21 => s.recPipeClose r
  | 0x22 => s.recPipeResync r
  | 0x23 => s.recPipeAbort r
  | 0x30 => s.recTransfer r
  | 0x31 => s.outMore r
  | 0x40 => s.recCatRead r
  | 0x41 => s.recCatWrite r
  | 0x50 => s.recVhostStop r
  | 0x51 => s.recVhostStart r
  | 0x60 => s.recVaultRead r
  | 0x61 => s.recVaultWrite r
  | 0x62 => s.recVaultFlush r
  | 0x63 => s.recVaultDeallocate r
  | 0x64 => s.recTemplateLoad r
  | 0x65 => s.recFanoutStart r
  | 0x66 => s.recFanoutStatus r
  | 0x67 => s.recFanoutCancel r
  | 0x68 => s.recCaptureStart r
  | 0x69 => s.recCaptureStop r
  | n => s.recUnknownCommandRecord n r

/-- The command records of a payload: OPCODE, ACCESSION, DEADLINE and body of each, on 8-byte boundaries; a record does not span
frames, so what is left over is none (05 R152; log entry 95). -/
def splitRecs : Nat → Bytes → List (Nat × Nat × Nat × Bytes)
  | 0, _ => []
  | k + 1, b =>
    if b.length < 16 then []
    else
      let len := beNat (slice b 2 2)
      (beNat (slice b 0 1), beNat (slice b 4 6), beNat (slice b 12 4), slice b 16 len) ::
        splitRecs k (b.drop (ceilDiv (16 + len) 8 * 8))

/-- The records of a DATA frame's payload, in their order (04 R131; 05 R152). -/
def State.serveAll (s : State) (n : Nat) (b : Bytes) : State :=
  (splitRecs (b.length / 16) b).foldl (fun s e => (s.serveRec e.1 ⟨n, e.2.1, e.2.2.1, e.2.2.2⟩).settle) s

/-- A session takes frames in sequence (05 R145). -/
def Session.takes (x : Session) : Bool := decide (x.state = .opened) || decide (x.state = .draining)

/-- The next frame in sequence reaches the virtual host: records, or a session record (04 R131; 05 R142, R152). -/
def State.inOrder (s : State) (n typ : Nat) (b : Bytes) : State :=
  let s := s.modSess n (fun x => { x with rxNext := (x.rxNext + 1) % 16777216, unacked := x.unacked + 1 })
  if typ = 1 then s.serveAll n b else s.sessRecord n b

/-- Frames held out of order that now follow the next expected one (04 R131). -/
def State.drainRx (n : Nat) : Nat → State → State
  | 0, s => s
  | k + 1, s =>
    let x := s.getSess n
    match x.takes, x.rxBuf.find? (fun f => decide (f.1 = x.rxNext)) with
    | true, some f =>
      State.drainRx n k
        ((s.modSess n (fun x => { x with rxBuf := x.rxBuf.filter (fun g => decide (g.1 ≠ f.1)) })).inOrder n f.2.1 f.2.2)
    | _, _ => s

/-- An ACK where the session still takes frames (04 R129). -/
def State.ackNow (s : State) (n : Nat) : State := if (s.getSess n).takes then (s.restall n).sendAck n else s

/-- A frame of the sequence in the receive window: a duplicate is acknowledged, one beyond the receive space discarded and counted, the
next one delivered with those that follow it, a later one held (04 R129, R131; log entry 98). -/
def State.takeSeq (s : State) (f : Frame) : State :=
  let n := f.sess
  let x := s.getSess n
  if 8388608 ≤ seqDiff f.seq x.rxNext ∨ x.rxBuf.any (fun b => decide (b.1 = f.seq)) = true then s.ackNow n
  else if x.space * 1024 < f.payload.length then s.discardFrame
  else if f.seq = x.rxNext then
    let s := State.drainRx n x.rxBuf.length (s.inOrder n f.typ f.payload)
    if 2 ≤ (s.getSess n).unacked then s.ackNow n else s
  else (s.modSess n (fun x => { x with rxBuf := (f.seq, f.typ, f.payload) :: x.rxBuf })).ackNow n

/-- A frame of the sequence, once its header has been taken (04 R121, R131). -/
def State.takeFrame (s : State) (f : Frame) : State :=
  let s := s.takeHeader f
  if (s.getSess f.sess).takes then s.takeSeq f else s

/-- A DATA frame arrives (04 R119, R122, R131). -/
def State.dataFrame (s : State) (f : Frame) : State :=
  if s.arrives f.via = false then s
  else if s.frameOk f 1 [.opened, .draining] then s.takeFrame f
  else s.discardFrame

/-- An ACK frame arrives: LENGTH 0, any other is discarded and counted (04 R121, R128; log entry 98). -/
def State.ackFrame (s : State) (f : Frame) : State :=
  if s.arrives f.via = false then s
  else if s.frameOk f 2 [.opened, .draining] && decide (f.payload = []) then s.takeHeader f
  else s.discardFrame

/-- A PROBE frame arrives, LENGTH 0, and is answered by an ACK at once (04 R121, R129; log entry 98). -/
def State.probeFrame (s : State) (f : Frame) : State :=
  if s.arrives f.via = false then s
  else if s.frameOk f 3 [.opened, .draining] && decide (f.payload = []) then (s.takeHeader f).ackNow f.sess
  else s.discardFrame

/-- A SESSION frame under a session key arrives: in sequence in Open and Draining; in Opening a RESET gives the session up (04 R121,
R122; 05 R142, R145). -/
def State.sessionFrame (s : State) (f : Frame) : State :=
  if s.arrives f.via = false then s
  else if s.frameOk f 4 [.opened, .draining] then s.takeFrame f
  else if s.frameOk f 4 [.opening] then
    if f.payload.take 1 = [5] ∧ f.payload.length = 8 then s.sessRecord f.sess f.payload else s
  else s.discardFrame

/-- The fields of a frame that the open exchange reads (05 R139). -/
def openPart (f : Frame) : OpenFrame :=
  { via := f.via, typ := f.typ, version := f.version, tsval := f.tsval, tenant := f.tenant, txc := f.txc, tagOk := f.tagOk,
    payload := f.payload }

/-- RESET in a SESSION frame or an open-exchange frame (05 R139, R142, R145). -/
def State.sessReset (s : State) (key : ResetKey) (f : Frame) : State :=
  match key with
  | .session => if f.payload.take 1 = [5] then s.sessionFrame f else s
  | .transport => s.exchangeReset (openPart f)

end Sys2Proof.Machine
end

