-- ==== Sys2Proof/Machine/LinkEvents.lean ====
section
/-!
DEFINITION. The meanings of the upstream links', frames' and sessions' commands (04; 05 R139 to R149).
-/
namespace Sys2Proof.Machine

/-- UPSTREAM_TRAINING_DONE (04 R114). -/
def execUpstreamTrainingDone (rep : TrainReport) (s : State) : Host.Outcome State Fault Refusal :=
  onUnit (linkOk rep.link) "link" rep.link (s.trainingDone rep.link rep.common)

/-- UPSTREAM_TRAINING_FAIL (04 R114). -/
def execUpstreamTrainingFail (link : Nat) (s : State) : Host.Outcome State Fault Refusal :=
  onUnit (linkOk link) "link" link (s.trainingFail link)

/-- PROBATION_EXPIRY (04 R114). -/
def execProbationExpiry (link : Nat) (s : State) : Host.Outcome State Fault Refusal :=
  onUnit (linkOk link) "link" link (s.probationEnd link)

/-- UPSTREAM_LINK_FAULT (04 R113, R114, R116, R117). -/
def execUpstreamLinkFault (link : Nat) (s : State) : Host.Outcome State Fault Refusal :=
  onUnit (linkOk link) "link" link (s.linkFault link).settle

/-- ALL_DOWN_HOLD_EXPIRY (04 R117). -/
def execAllDownHoldExpiry (s : State) : Host.Outcome State Fault Refusal := .next s.allDownEnd.settle

/-- ISAIX_FRAME_SEND (04 R115, R126). -/
def execIsaixFrameSend (sess : Nat) (s : State) : Host.Outcome State Fault Refusal :=
  onUnit (decide (sess < 1024)) "session" sess (s.frameSend sess).settle

/-- ISAIX_DATA_FRAME (04 R131). -/
def execIsaixDataFrame (f : Frame) (s : State) : Host.Outcome State Fault Refusal := .next (s.dataFrame f).settle

/-- ISAIX_ACK_FRAME (04 R128). -/
def execIsaixAckFrame (f : Frame) (s : State) : Host.Outcome State Fault Refusal := .next (s.ackFrame f).settle

/-- ISAIX_PROBE_FRAME (04 R129). -/
def execIsaixProbeFrame (f : Frame) (s : State) : Host.Outcome State Fault Refusal := .next (s.probeFrame f).settle

/-- ACK_DELAY_EXPIRY (04 R129). -/
def execAckDelayExpiry (sess : Nat) (s : State) : Host.Outcome State Fault Refusal :=
  onUnit (decide (sess < 1024)) "session" sess (s.ackDelayEnd sess).settle

/-- REORDER_ALLOWANCE_EXPIRY (04 R130). -/
def execReorderAllowanceExpiry (sess seq : Nat) (s : State) : Host.Outcome State Fault Refusal :=
  onUnit (decide (sess < 1024)) "session" sess (s.reorderEnd sess seq).settle

/-- RETRANSMISSION_TIMEOUT (04 R130). -/
def execRetransmissionTimeout (sess : Nat) (s : State) : Host.Outcome State Fault Refusal :=
  onUnit (decide (sess < 1024)) "session" sess (s.rtoEnd sess).settle

/-- OPEN (05 R143). -/
def execOpenSession (f : OpenFrame) (s : State) : Host.Outcome State Fault Refusal := .next (s.openReq f).settle

/-- CONFIRM (05 R145). -/
def execConfirm (f : Frame) (s : State) : Host.Outcome State Fault Refusal := .next (s.confirmed f).settle

/-- OPEN_TIMEOUT (05 R145). -/
def execOpenTimeout (sess : Nat) (s : State) : Host.Outcome State Fault Refusal :=
  onUnit (decide (sess < 1024)) "session" sess (s.giveUp sess)

/-- CLOSE_DRAIN (05 R145). -/
def execCloseDrain (f : Frame) (s : State) : Host.Outcome State Fault Refusal :=
  .next (if f.payload.take 2 = [4, 0] then s.sessionFrame f else s).settle

/-- CLOSE_ABORT (05 R145). -/
def execCloseAbort (f : Frame) (s : State) : Host.Outcome State Fault Refusal :=
  .next (if f.payload.take 2 = [4, 1] then s.sessionFrame f else s).settle

/-- SESSION_RESET (05 R145). -/
def execSessionReset (key : ResetKey) (f : Frame) (s : State) : Host.Outcome State Fault Refusal :=
  .next (s.sessReset key f).settle

/-- SESSION_ENDING_COMPLETE (05 R145). -/
def execSessionEndingComplete (sess : Nat) (s : State) : Host.Outcome State Fault Refusal :=
  onUnit (decide (sess < 1024)) "session" sess (s.endingDone sess).settle

end Sys2Proof.Machine
end

