-- ==== Sys2Proof/Machine/Dispatch.lean ====
section
/-! DEFINITION. The dispatch: one arm per command, each one call of its meaning. -/
namespace Sys2Proof.Machine

/-- The effect of a command on everything but the queue. -/
def exec (i : Instr) (s : State) : Host.Outcome State Fault Refusal :=
  match i with
  | .sdoInitiateDownload req => Sys2Proof.Machine.execSdoInitiateDownload req s
  | .sdoInitiateUpload index sub block => Sys2Proof.Machine.execSdoInitiateUpload index sub block s
  | .sdoSegment seg => Sys2Proof.Machine.execSdoSegment seg s
  | .sdoBlockSegment seg => Sys2Proof.Machine.execSdoBlockSegment seg s
  | .sdoProtocolTimedOut => Sys2Proof.Machine.execSdoProtocolTimedOut s
  | .nmtCommand cmd node => Sys2Proof.Machine.execNmtCommand cmd node s
  | .canHeartbeat => Sys2Proof.Machine.execCanHeartbeat s
  | .tpdoEventTimerExpiry n => Sys2Proof.Machine.execTpdoEventTimerExpiry n s
  | .tpdoChangeCompare n => Sys2Proof.Machine.execTpdoChangeCompare n s
  | .tpdoInhibitTimeEnd n => Sys2Proof.Machine.execTpdoInhibitTimeEnd n s
  | .heldTransferTimeout path => Sys2Proof.Machine.execHeldTransferTimeout path s
  | .spiRegisterRead addr words ahead => Sys2Proof.Machine.execSpiRegisterRead addr words ahead s
  | .spiRegisterWrite addr words cutBits => Sys2Proof.Machine.execSpiRegisterWrite addr words cutBits s
  | .spiCatalogueRequest record => Sys2Proof.Machine.execSpiCatalogueRequest record s
  | .spiCatalogueResponse nbytes => Sys2Proof.Machine.execSpiCatalogueResponse nbytes s
  | .spiStatus n => Sys2Proof.Machine.execSpiStatus n s
  | .spiUnknownOpcode op => Sys2Proof.Machine.execSpiUnknownOpcode op s
  | .servicePortRequest record => Sys2Proof.Machine.execServicePortRequest record s
  | .servicePortResponseRead => Sys2Proof.Machine.execServicePortResponseRead s
  | .registerWrite addr val => Sys2Proof.Machine.execRegisterWrite addr val s
  | .registerReadClear addr => Sys2Proof.Machine.execRegisterReadClear addr s
  | .bitAliasWrite addr val => Sys2Proof.Machine.execBitAliasWrite addr val s
  | .rwpWrite addr val => Sys2Proof.Machine.execRwpWrite addr val s
  | .rwpWriteAbsorbed => Sys2Proof.Machine.execRwpWriteAbsorbed s
  | .guardedWrite addr val => Sys2Proof.Machine.execGuardedWrite addr val s
  | .guardedPairTimeout => Sys2Proof.Machine.execGuardedPairTimeout s
  | .rvAccess addr write => Sys2Proof.Machine.execRvAccess addr write s
  | .normalServiceEntry => Sys2Proof.Machine.execNormalServiceEntry s
  | .clkEvtClear val => Sys2Proof.Machine.execClkEvtClear val s
  | .linkUnitError link => Sys2Proof.Machine.execLinkUnitError link s
  | .linkRetrainDone link ok => Sys2Proof.Machine.execLinkRetrainDone link ok s
  | .pllLock pll => Sys2Proof.Machine.execPllLock pll s
  | .pllLockTimeout pll => Sys2Proof.Machine.execPllLockTimeout pll s
  | .pllLossOfLock pll => Sys2Proof.Machine.execPllLossOfLock pll s
  | .pllStopDelayExpiry pll => Sys2Proof.Machine.execPllStopDelayExpiry pll s
  | .refclkEthLoss => Sys2Proof.Machine.execRefclkEthLoss s
  | .crystalFailure => Sys2Proof.Machine.execCrystalFailure s
  | .loanGrant t path => Sys2Proof.Machine.execLoanGrant t path s
  | .loanChange t path => Sys2Proof.Machine.execLoanChange t path s
  | .loanEnd t path => Sys2Proof.Machine.execLoanEnd t path s
  | .loanResume t path => Sys2Proof.Machine.execLoanResume t path s
  | .lastItemEnded t => Sys2Proof.Machine.execLastItemEnded t s
  | .leaseExpiry t => Sys2Proof.Machine.execLeaseExpiry t s
  | .nerqueluHeartbeatSend => Sys2Proof.Machine.execNerqueluHeartbeatSend s
  | .heartbeatReceived hdr digest quorumSet => Sys2Proof.Machine.execHeartbeatReceived hdr digest quorumSet s
  | .quorumWindowExpiry voter => Sys2Proof.Machine.execQuorumWindowExpiry voter s
  | .epochAdvanceRequest path => Sys2Proof.Machine.execEpochAdvanceRequest path s
  | .epochPropose hdr proposed => Sys2Proof.Machine.execEpochPropose hdr proposed s
  | .epochAccept hdr accepted => Sys2Proof.Machine.execEpochAccept hdr accepted s
  | .epochAdvanceTimeout => Sys2Proof.Machine.execEpochAdvanceTimeout s
  | .lockAcquire lock path => Sys2Proof.Machine.execLockAcquire lock path s
  | .lockRelease lock path => Sys2Proof.Machine.execLockRelease lock path s
  | .lockBreak lock path => Sys2Proof.Machine.execLockBreak lock path s
  | .lockRequestMessage hdr msg => Sys2Proof.Machine.execLockRequestMessage hdr msg s
  | .lockAnswerMessage hdr msg => Sys2Proof.Machine.execLockAnswerMessage hdr msg s
  | .lockOwnerLostExpiry member => Sys2Proof.Machine.execLockOwnerLostExpiry member s
  | .upstreamLinksEnabledWrite val path => Sys2Proof.Machine.execUpstreamLinksEnabledWrite val path s
  | .upstreamTrainingDone rep => Sys2Proof.Machine.execUpstreamTrainingDone rep s
  | .upstreamTrainingFail link => Sys2Proof.Machine.execUpstreamTrainingFail link s
  | .probationExpiry link => Sys2Proof.Machine.execProbationExpiry link s
  | .upstreamLinkFault link => Sys2Proof.Machine.execUpstreamLinkFault link s
  | .allDownHoldExpiry => Sys2Proof.Machine.execAllDownHoldExpiry s
  | .isaixFrameSend sess => Sys2Proof.Machine.execIsaixFrameSend sess s
  | .isaixDataFrame f => Sys2Proof.Machine.execIsaixDataFrame f s
  | .isaixAckFrame f => Sys2Proof.Machine.execIsaixAckFrame f s
  | .isaixProbeFrame f => Sys2Proof.Machine.execIsaixProbeFrame f s
  | .ackDelayExpiry sess => Sys2Proof.Machine.execAckDelayExpiry sess s
  | .reorderAllowanceExpiry sess seq => Sys2Proof.Machine.execReorderAllowanceExpiry sess seq s
  | .retransmissionTimeout sess => Sys2Proof.Machine.execRetransmissionTimeout sess s
  | .ptpSync sync => Sys2Proof.Machine.execPtpSync sync s
  | .ptpDelayResponse resp => Sys2Proof.Machine.execPtpDelayResponse resp s
  | .syncTimeout => Sys2Proof.Machine.execSyncTimeout s
  | .ppsOutSecond => Sys2Proof.Machine.execPpsOutSecond s
  | .ppsOutWidthEnd => Sys2Proof.Machine.execPpsOutWidthEnd s
  | .ppsInEdge sinceLast => Sys2Proof.Machine.execPpsInEdge sinceLast s
  | .openSession f => Sys2Proof.Machine.execOpenSession f s
  | .confirm f => Sys2Proof.Machine.execConfirm f s
  | .openTimeout sess => Sys2Proof.Machine.execOpenTimeout sess s
  | .closeDrain f => Sys2Proof.Machine.execCloseDrain f s
  | .closeAbort f => Sys2Proof.Machine.execCloseAbort f s
  | .sessionReset key f => Sys2Proof.Machine.execSessionReset key f s
  | .sessionEndingComplete sess => Sys2Proof.Machine.execSessionEndingComplete sess s
  | .vbusOn r => Sys2Proof.Machine.execVbusOn r s
  | .vbusOff r => Sys2Proof.Machine.execVbusOff r s
  | .portReset r => Sys2Proof.Machine.execPortReset r s
  | .suspendTree r => Sys2Proof.Machine.execSuspendTree r s
  | .resumeTree r => Sys2Proof.Machine.execResumeTree r s
  | .disable r => Sys2Proof.Machine.execDisable r s
  | .portStatus r => Sys2Proof.Machine.execPortStatus r s
  | .pipeOpen r => Sys2Proof.Machine.execPipeOpen r s
  | .pipeClose r => Sys2Proof.Machine.execPipeClose r s
  | .pipeResync r => Sys2Proof.Machine.execPipeResync r s
  | .pipeAbort r => Sys2Proof.Machine.execPipeAbort r s
  | .transfer r => Sys2Proof.Machine.execTransfer r s
  | .outData r => Sys2Proof.Machine.execOutData r s
  | .catRead r => Sys2Proof.Machine.execCatRead r s
  | .catWrite r => Sys2Proof.Machine.execCatWrite r s
  | .vhostStop r => Sys2Proof.Machine.execVhostStop r s
  | .vhostStart r => Sys2Proof.Machine.execVhostStart r s
  | .unknownCommandRecord op r => Sys2Proof.Machine.execUnknownCommandRecord op r s
  | .deadlineExpiry principal acc => Sys2Proof.Machine.execDeadlineExpiry principal acc s
  | .vbusGood p => Sys2Proof.Machine.execVbusGood p s
  | .portVbusOff p => Sys2Proof.Machine.execPortVbusOff p s
  | .connect p kind => Sys2Proof.Machine.execConnect p kind s
  | .connectionConfirmed p => Sys2Proof.Machine.execConnectionConfirmed p s
  | .portDisconnect p => Sys2Proof.Machine.execPortDisconnect p s
  | .pollingTimeout p => Sys2Proof.Machine.execPollingTimeout p s
  | .portResetEnd p trained => Sys2Proof.Machine.execPortResetEnd p trained s
  | .resetRecoveryExpiry p => Sys2Proof.Machine.execResetRecoveryExpiry p s
  | .deviceResetRequest p addr path => Sys2Proof.Machine.execDeviceResetRequest p addr path s
  | .enumerationRequestComplete p res => Sys2Proof.Machine.execEnumerationRequestComplete p res s
  | .setAddressRecoveryExpiry p => Sys2Proof.Machine.execSetAddressRecoveryExpiry p s
  | .addressRelease p addr => Sys2Proof.Machine.execAddressRelease p addr s
  | .externalHubStatusChange p hub hubPort change => Sys2Proof.Machine.execExternalHubStatusChange p hub hubPort change s
  | .superspeedRecovery p reachedU0 => Sys2Proof.Machine.execSuperspeedRecovery p reachedU0 s
  | .recoveryWindowExpiry p => Sys2Proof.Machine.execRecoveryWindowExpiry p s
  | .restoreRequestComplete p res => Sys2Proof.Machine.execRestoreRequestComplete p res s
  | .restoreWindowExpiry p => Sys2Proof.Machine.execRestoreWindowExpiry p s
  | .restoreTimeout p => Sys2Proof.Machine.execRestoreTimeout p s
  | .suspendEntryDone p => Sys2Proof.Machine.execSuspendEntryDone p s
  | .idleSuspendExpiry p => Sys2Proof.Machine.execIdleSuspendExpiry p s
  | .suspendCurrentCheck p avg => Sys2Proof.Machine.execSuspendCurrentCheck p avg s
  | .resumeSignallingDone p => Sys2Proof.Machine.execResumeSignallingDone p s
  | .u3ExitTimeout p => Sys2Proof.Machine.execU3ExitTimeout p s
  | .remoteWake p device => Sys2Proof.Machine.execRemoteWake p device s
  | .l1IdleExpiry idle => Sys2Proof.Machine.execL1IdleExpiry idle s
  | .quarantineRelease p path => Sys2Proof.Machine.execQuarantineRelease p path s
  | .microframeBoundary p => Sys2Proof.Machine.execMicroframeBoundary p s
  | .transactionComplete pipe res => Sys2Proof.Machine.execTransactionComplete pipe res s
  | .interfaceMapReadComplete p addr map => Sys2Proof.Machine.execInterfaceMapReadComplete p addr map s
  | .erdy pipe stream => Sys2Proof.Machine.execErdy pipe stream s
  | .pipeFree pipe => Sys2Proof.Machine.execPipeFree pipe s
  | .pipeViewSelect pipe => Sys2Proof.Machine.execPipeViewSelect pipe s
  | .vaultEnable drives => Sys2Proof.Machine.execVaultEnable drives s
  | .vaultDisable path => Sys2Proof.Machine.execVaultDisable path s
  | .vaultRead r => Sys2Proof.Machine.execVaultRead r s
  | .vaultWrite r => Sys2Proof.Machine.execVaultWrite r s
  | .vaultFlush r => Sys2Proof.Machine.execVaultFlush r s
  | .vaultDeallocate r => Sys2Proof.Machine.execVaultDeallocate r s
  | .nvmeCommandComplete cmd ok => Sys2Proof.Machine.execNvmeCommandComplete cmd ok s
  | .nvmeCommandTimeout cmd => Sys2Proof.Machine.execNvmeCommandTimeout cmd s
  | .templateLoad r => Sys2Proof.Machine.execTemplateLoad r s
  | .fanoutStart r => Sys2Proof.Machine.execFanoutStart r s
  | .fanoutStatus r => Sys2Proof.Machine.execFanoutStatus r s
  | .fanoutCancel r => Sys2Proof.Machine.execFanoutCancel r s
  | .exchangeStatus job target status => Sys2Proof.Machine.execExchangeStatus job target status s
  | .statusPhaseTimeout job target => Sys2Proof.Machine.execStatusPhaseTimeout job target s
  | .verifyReadComplete job target data => Sys2Proof.Machine.execVerifyReadComplete job target data s
  | .jobResultRetentionExpiry job => Sys2Proof.Machine.execJobResultRetentionExpiry job s
  | .fanoutProgress hdr body => Sys2Proof.Machine.execFanoutProgress hdr body s
  | .captureStart r => Sys2Proof.Machine.execCaptureStart r s
  | .captureStop r => Sys2Proof.Machine.execCaptureStop r s
  | .go chan => Sys2Proof.Machine.execGo chan s
  | .resume chan => Sys2Proof.Machine.execResume chan s
  | .skip chan => Sys2Proof.Machine.execSkip chan s
  | .stop chan => Sys2Proof.Machine.execStop chan s
  | .descriptorEnd chan data => Sys2Proof.Machine.execDescriptorEnd chan data s
  | .moverBusError chan err => Sys2Proof.Machine.execMoverBusError chan err s
  | .pipeShortEnd chan data => Sys2Proof.Machine.execPipeShortEnd chan data s
  | .stoppingComplete chan => Sys2Proof.Machine.execStoppingComplete chan s
  | .checkUnitFree unit => Sys2Proof.Machine.execCheckUnitFree unit s
  | .moverWindowAccess addr write => Sys2Proof.Machine.execMoverWindowAccess addr write s
  | .scanGo ctrl => Sys2Proof.Machine.execScanGo ctrl s
  | .scanComplete => Sys2Proof.Machine.execScanComplete s
  | .scrubPass found => Sys2Proof.Machine.execScrubPass found s
  | .regionZeroingDone r => Sys2Proof.Machine.execRegionZeroingDone r s
  | .rdOnOneCc p cc1 cc2 => Sys2Proof.Machine.execRdOnOneCc p cc1 cc2 s
  | .ccAttachDebounceExpiry p => Sys2Proof.Machine.execCcAttachDebounceExpiry p s
  | .rdLost p => Sys2Proof.Machine.execRdLost p s
  | .ccDetachDebounceExpiry p => Sys2Proof.Machine.execCcDetachDebounceExpiry p s
  | .unattachedDrainDone p => Sys2Proof.Machine.execUnattachedDrainDone p s
  | .vconnFault p => Sys2Proof.Machine.execVconnFault p s
  | .discoverIdentityInterval p => Sys2Proof.Machine.execDiscoverIdentityInterval p s
  | .cableIdentityReceived p idHeader vdo caps => Sys2Proof.Machine.execCableIdentityReceived p idHeader vdo caps s
  | .bc12PrimaryDetection p => Sys2Proof.Machine.execBc12PrimaryDetection p s
  | .rpCurrentAdjustExpiry p => Sys2Proof.Machine.execRpCurrentAdjustExpiry p s
  | .sourceCapabilitiesInterval p goodCrc => Sys2Proof.Machine.execSourceCapabilitiesInterval p goodCrc s
  | .pdRequest p req => Sys2Proof.Machine.execPdRequest p req s
  | .eprModeEnter p => Sys2Proof.Machine.execEprModeEnter p s
  | .eprKeepalive p => Sys2Proof.Machine.execEprKeepalive p s
  | .getSourceCap p => Sys2Proof.Machine.execGetSourceCap p s
  | .getStatus p => Sys2Proof.Machine.execGetStatus p s
  | .getRevision p => Sys2Proof.Machine.execGetRevision p s
  | .prSwap p => Sys2Proof.Machine.execPrSwap p s
  | .drSwap p => Sys2Proof.Machine.execDrSwap p s
  | .vconnSwap p => Sys2Proof.Machine.execVconnSwap p s
  | .frSwap p => Sys2Proof.Machine.execFrSwap p s
  | .structuredVdm p => Sys2Proof.Machine.execStructuredVdm p s
  | .psRdy p => Sys2Proof.Machine.execPsRdy p s
  | .ppsKeepaliveTimeout p => Sys2Proof.Machine.execPpsKeepaliveTimeout p s
  | .eprKeepaliveTimeout p => Sys2Proof.Machine.execEprKeepaliveTimeout p s
  | .hardReset p received => Sys2Proof.Machine.execHardReset p received s
  | .hardResetRecoveryExpiry p => Sys2Proof.Machine.execHardResetRecoveryExpiry p s
  | .renegotiationNoRequestExpiry p => Sys2Proof.Machine.execRenegotiationNoRequestExpiry p s
  | .statusWordPoll p status => Sys2Proof.Machine.execStatusWordPoll p status s
  | .smbalert p status => Sys2Proof.Machine.execSmbalert p status s
  | .stageWarningClearExpiry p => Sys2Proof.Machine.execStageWarningClearExpiry p s
  | .pmbusBusHeldLow g => Sys2Proof.Machine.execPmbusBusHeldLow g s
  | .pmbusSegmentRecovered g => Sys2Proof.Machine.execPmbusSegmentRecovered g s
  | .galleryPowerSum g => Sys2Proof.Machine.execGalleryPowerSum g s
  | .raiseSlot g => Sys2Proof.Machine.execRaiseSlot g s
  | .servicePortFastDomainOn => Sys2Proof.Machine.execServicePortFastDomainOn s
  | .servicePortFastDomainOff => Sys2Proof.Machine.execServicePortFastDomainOff s
  | .servicePortRpSeen => Sys2Proof.Machine.execServicePortRpSeen s
  | .servicePortRdSeen => Sys2Proof.Machine.execServicePortRdSeen s
  | .servicePortRoleToggle => Sys2Proof.Machine.execServicePortRoleToggle s
  | .servicePortVbusLoss => Sys2Proof.Machine.execServicePortVbusLoss s
  | .servicePortRdLost => Sys2Proof.Machine.execServicePortRdLost s
  | .currentSample p current vbus => Sys2Proof.Machine.execCurrentSample p current vbus s
  | .fastTrip p => Sys2Proof.Machine.execFastTrip p s
  | .offsetMeasurement p => Sys2Proof.Machine.execOffsetMeasurement p s
  | .offsetMeasurementEnd p offset => Sys2Proof.Machine.execOffsetMeasurementEnd p offset s
  | .prechargeDone p => Sys2Proof.Machine.execPrechargeDone p s
  | .rampSafePoint p => Sys2Proof.Machine.execRampSafePoint p s
  | .vbusSettleExpiry p => Sys2Proof.Machine.execVbusSettleExpiry p s
  | .rampTimeout p => Sys2Proof.Machine.execRampTimeout p s
  | .vbusDrained p => Sys2Proof.Machine.execVbusDrained p s
  | .drainTimeout p => Sys2Proof.Machine.execDrainTimeout p s
  | .retryOffTimeExpiry p status => Sys2Proof.Machine.execRetryOffTimeExpiry p status s
  | .retryClearExpiry p => Sys2Proof.Machine.execRetryClearExpiry p s
  | .requestedStateWrite val path => Sys2Proof.Machine.execRequestedStateWrite val path s
  | .entryGuardClear => Sys2Proof.Machine.execEntryGuardClear s
  | .drowseIdleExpiry => Sys2Proof.Machine.execDrowseIdleExpiry s
  | .settlingDone => Sys2Proof.Machine.execSettlingDone s
  | .pgMainLost => Sys2Proof.Machine.execPgMainLost s
  | .wakeNFall => Sys2Proof.Machine.execWakeNFall s
  | .alarmExpiry => Sys2Proof.Machine.execAlarmExpiry s
  | .servicePortVbusWake => Sys2Proof.Machine.execServicePortVbusWake s
  | .dormantAccessWake => Sys2Proof.Machine.execDormantAccessWake s
  | .domainPowerGood d => Sys2Proof.Machine.execDomainPowerGood d s
  | .powerGoodTimeout d => Sys2Proof.Machine.execPowerGoodTimeout d s
  | .coreVoltageUpdate mv => Sys2Proof.Machine.execCoreVoltageUpdate mv s
  | .reactionTimeExpiry slot => Sys2Proof.Machine.execReactionTimeExpiry slot s
  | .faultAcknowledge source inst => Sys2Proof.Machine.execFaultAcknowledge source inst s
  | .safeStopRelease path => Sys2Proof.Machine.execSafeStopRelease path s
  | .junctionTemperatureReading group temp => Sys2Proof.Machine.execJunctionTemperatureReading group temp s
  | .curatorWatchdogExpiry => Sys2Proof.Machine.execCuratorWatchdogExpiry s
  | .errOutNMinimumExpiry => Sys2Proof.Machine.execErrOutNMinimumExpiry s
  | .emcyInhibitExpiry => Sys2Proof.Machine.execEmcyInhibitExpiry s
  | .errorHistoryClear path => Sys2Proof.Machine.execErrorHistoryClear path s
  | .injectionArm val => Sys2Proof.Machine.execInjectionArm val s
  | .coldStart straps => Sys2Proof.Machine.execColdStart straps s
  | .mainEnPowerGoodTimeout => Sys2Proof.Machine.execMainEnPowerGoodTimeout s
  | .warmReset straps => Sys2Proof.Machine.execWarmReset straps s
  | .resetNLow straps => Sys2Proof.Machine.execResetNLow straps s
  | .resetNRise => Sys2Proof.Machine.execResetNRise s
  | .resetRequest => Sys2Proof.Machine.execResetRequest s
  | .custodianReset noxo => Sys2Proof.Machine.execCustodianReset noxo s
  | .imageWrite offset data path => Sys2Proof.Machine.execImageWrite offset data path s
  | .imageVerify path => Sys2Proof.Machine.execImageVerify path s
  | .rollbackCommit path => Sys2Proof.Machine.execRollbackCommit path s
  | .attestationNonce nonce path => Sys2Proof.Machine.execAttestationNonce nonce path s
  | .transportKeyWrite slot key path => Sys2Proof.Machine.execTransportKeyWrite slot key path s
  | .debugRequest val => Sys2Proof.Machine.execDebugRequest val s
  | .erasingComplete => Sys2Proof.Machine.execErasingComplete s
  | .crystalRunning => Sys2Proof.Machine.execCrystalRunning s
  | .controllerFatalStatus drive => Sys2Proof.Machine.execControllerFatalStatus drive s
  | .driveLinkDown drive => Sys2Proof.Machine.execDriveLinkDown drive s
  | .curatorRestartTimeout => Sys2Proof.Machine.execCuratorRestartTimeout s
  | .restartedCuratorRuns => Sys2Proof.Machine.execRestartedCuratorRuns s
  | .u1U2InactivityTimeout p u2 => Sys2Proof.Machine.execU1U2InactivityTimeout p u2 s
  | .deviceInitiatedLinkEntry p level => Sys2Proof.Machine.execDeviceInitiatedLinkEntry p level s
  | .servicePortSourceCapabilities offeredMa => Sys2Proof.Machine.execServicePortSourceCapabilities offeredMa s
  | .servicePortDrSwapAnswer accept => Sys2Proof.Machine.execServicePortDrSwapAnswer accept s
  | .sdoAbortTransferRequest => Sys2Proof.Machine.execSdoAbortTransferRequest s
  | .jtagInstruction ins => Sys2Proof.Machine.execJtagInstruction ins s
  | .vddStbyLoss => Sys2Proof.Machine.execVddStbyLoss s
  | .vddStbyReturn => Sys2Proof.Machine.execVddStbyReturn s

end Sys2Proof.Machine
end

