-- ==== Sys2Proof/Machine/Tick.lean ====
section
/-!
DEFINITION. What a microsecond does whatever is commanded: the step on an empty queue (log entry 1).
-/
namespace Sys2Proof.Machine

/-- Hub time and the free-running microsecond count, while the core PLL is locked; the frequency correction of PTP gathers in millionths
of a ns (01 R29; 04 R121; 09 R257). -/
def State.tickTime (s : State) : State :=
  if s.locked .core then
    let f := s.ptp.frac + s.ptp.freq
    (s.modClk (fun c => { c with hubTime := c.hubTime + 1000 + BitVec.ofInt 64 (f / 1000000), usCount := c.usCount + 1 })).modPtp
      (fun p => { p with frac := f % 1000000 })
  else s

/-- The slow clock: 32,768 edges a second from the crystal, 32,000 from the RC oscillator; each edge counts the alarm down and
refreshes the mirrors (01 R29, R37; 00 R9; 15 R405). -/
def State.tickSlow (s : State) : State :=
  let f := s.dps.slowFrac + (if s.clk.rc32 then 32000 else 32768)
  let s := s.modDps (fun d => { d with slowFrac := f % 1000000, slowEdges := d.slowEdges + f / 1000000 })
  if f < 1000000 then s else s.alarmEdge.refreshMirrors

/-- Frames leave the links' transmit queues at 100 Gbit/s a link, 800 Gbit/s on a single link, and those that waited for a link
follow; each loan's periodic reservation covers a microsecond's worth of what it sent ahead (04 R115; 07 R231). -/
def State.tickLinks (s : State) : State :=
  let rate := if s.upl.mode then 100000 else 12500
  let s := s.members.foldl (fun s m => State.drainLink m ((s.link m).queue.length + 1) rate s) s
  let s := State.flushBacklog s.upl.backlog.length s
  s.modUpl (fun u => { u with
    perUsed := u.perUsed.foldl (fun m e => SMap.put 0 m e.1 (e.2 - (s.getTenants e.1).periodic)) u.perUsed })

/-- The Vault attachment carries 504 Gbit/s in each direction, 63,000 bytes in a microsecond, and commands that waited follow (01 R27; 10
R286). -/
def State.tickVault (s : State) : State :=
  let more := fun (r : Int) => if r + 63000 < 63000 then r + 63000 else 63000
  let s := s.modVault (fun v => { v with roomIn := more v.roomIn, roomOut := more v.roomOut })
  s.nvmePump s.vault.cmds.length

/-- The mover engine moves 64 bytes in each cycle of 1.25 GHz, at most 156 bursts in a microsecond (11 R309). -/
def State.tickMovers (s : State) : State := s.grants 156

/-- The current limits whose hold ends (14 R373). -/
def State.tickPorts (s : State) : State := s.pwr.foldl (fun s e => s.modPwr e.1 (PortPwr.ilimTick s.now)) s

/-- A unit crosses each die-to-die link that sends units: a repeat has succeeded, and an injection on the link fires (01 R21; 16
R426). -/
def State.tickDies (s : State) : State :=
  [1, 2, 3, 4, 5, 6, 7].foldl (fun s n => if s.linkLive n then (s.modDie n DieLink.unitOk).injectLink n else s) s

/-- One microsecond with nothing commanded (log entry 1). -/
def State.tick (s : State) : State := s.tickTime.tickSlow.tickLinks.tickVault.tickMovers.tickPorts.tickDies.criticalUse

end Sys2Proof.Machine
end

