-- ==== Sys2Proof/Safety.lean ====
section
/-!
DEFINITION. What counts as a safe run: the sparse memories and the per-unit maps keep their canonical form, so that equal
contents are equal data; the fuses keep what they hold and the anti-rollback floor never falls (17 R438, R443).
-/
namespace Sys2Proof
open Machine

/-- The memories that hold bytes by address are in canonical form: the mover area, the Vault's data and the two image
slots of the boot flash, whose erased bytes read 0xFF. -/
abbrev MemoriesOk (s : State) : Prop :=
  SMap.wf 0 s.mov.area = true ∧ SMap.wf 0 s.vault.data = true ∧ SMap.wf 0xFF s.boot.imgA = true ∧
    SMap.wf 0xFF s.boot.imgB = true

/-- The maps of the ports, galleries, pipes, items, sessions and principals are in canonical form. -/
abbrev UnitsOk (s : State) : Prop :=
  SMap.wf PortUsb.reset s.usb = true ∧ SMap.wf PortPwr.reset s.pwr = true ∧ SMap.wf PortProt.reset s.prot = true ∧
    SMap.wf PortFt.reset s.ft = true ∧ SMap.wf PortMem.reset s.fifo = true ∧ SMap.wf Gallery.reset s.gals = true ∧
    SMap.wf Pipe.reset s.pipes = true ∧ SMap.wf Item.reset s.items = true ∧ SMap.wf Session.reset s.sess = true ∧
    SMap.wf Tenant.reset s.tenants = true

/-- The fuses of `t` hold what those of `s` hold, and the anti-rollback floor has not fallen (17 R438, R443). -/
structure FusesKept (s t : State) : Prop where
  keyHashes : t.boot.keyHashes = s.boot.keyHashes
  revoked : t.boot.revoked = s.boot.revoked
  debugFuse : t.boot.debugFuse = s.boot.debugFuse
  grade : t.boot.grade = s.boot.grade
  serial : t.boot.serial = s.boot.serial
  mac : t.boot.mac = s.boot.mac
  cert : t.boot.cert = s.boot.cert
  floor : s.boot.floor ≤ t.boot.floor

end Sys2Proof
end

