-- ==== Sys2Proof/Safety/Frames.lean ====
section
/-!
DEFINITION. What each command may itself change: the groups of the state, and for every command the groups that its own effect
reaches. The pass that follows a command (State.settle) is not part of it.
-/
namespace Sys2Proof
open Machine

/-- A group of the state; `time`, `data`, `area` and `imgs` are parts of clk, vault, mov and boot. -/
inductive Group where
  /-- the ports' USB side -/
  | usb
  /-- the ports' power contracts -/
  | pwr
  /-- the ports' protection and switches -/
  | prot
  /-- the ports' frame timing -/
  | ft
  /-- the ports' buffers -/
  | fifo
  /-- the galleries -/
  | gals
  /-- the pipe contexts -/
  | pipes
  /-- the open items -/
  | items
  /-- the sessions -/
  | sess
  /-- the principals, with their loans, allotments and ledgers -/
  | tenants
  /-- the Catalogue's objects and transfers -/
  | cat
  /-- CAN FD -/
  | can
  /-- the SPI target's mailbox and the service port's queues -/
  | board
  /-- the register space's own registers, views and guarded pairs -/
  | regs
  /-- clocks, PLLs and die links -/
  | clk
  /-- the upstream links -/
  | upl
  /-- PTP and PPS -/
  | ptp
  /-- the Collection and the locks -/
  | coll
  /-- the device power state -/
  | dps
  /-- the service port -/
  | svc
  /-- fault records -/
  | flt
  /-- boot, images, keys and fuses -/
  | boot
  /-- debug access -/
  | dbg
  /-- the memories' scrub and pools -/
  | mem
  /-- the Vault, jobs and captures -/
  | vault
  /-- movers and check units -/
  | mov
  /-- hub time alone, of the clocks -/
  | time
  /-- the bytes stored in the Vault alone -/
  | data
  /-- the bytes of the mover area alone -/
  | area
  /-- the bytes of the two image slots alone -/
  | imgs
  deriving DecidableEq, Repr

/-- A group is the same in two states. -/
def Group.Same (s t : State) : Group → Prop
  | .usb => t.usb = s.usb
  | .pwr => t.pwr = s.pwr
  | .prot => t.prot = s.prot
  | .ft => t.ft = s.ft
  | .fifo => t.fifo = s.fifo
  | .gals => t.gals = s.gals
  | .pipes => t.pipes = s.pipes
  | .items => t.items = s.items
  | .sess => t.sess = s.sess
  | .tenants => t.tenants = s.tenants
  | .cat => t.cat = s.cat
  | .can => t.can = s.can
  | .board => t.board = s.board
  | .regs => t.regs = s.regs
  | .clk => t.clk = s.clk
  | .upl => t.upl = s.upl
  | .ptp => t.ptp = s.ptp
  | .coll => t.coll = s.coll
  | .dps => t.dps = s.dps
  | .svc => t.svc = s.svc
  | .flt => t.flt = s.flt
  | .boot => t.boot = s.boot
  | .dbg => t.dbg = s.dbg
  | .mem => t.mem = s.mem
  | .vault => t.vault = s.vault
  | .mov => t.mov = s.mov
  | .time => t.clk.hubTime = s.clk.hubTime ∧ t.clk.usCount = s.clk.usCount
  | .data => t.vault.data = s.vault.data
  | .area => t.mov.area = s.mov.area
  | .imgs => t.boot.imgA = s.boot.imgA ∧ t.boot.imgB = s.boot.imgB

/-- The groups that a command may itself change. -/
def mayChange : Instr → List Group
  | .canHeartbeat | .eprKeepalive _ | .getStatus _ | .getRevision _ | .prSwap _ | .drSwap _ | .vconnSwap _
  | .frSwap _ | .structuredVdm _ =>
    []
  | .servicePortResponseRead =>
    [.board]
  | .sdoProtocolTimedOut | .tpdoEventTimerExpiry _ | .tpdoChangeCompare _ | .tpdoInhibitTimeEnd _
  | .emcyInhibitExpiry =>
    [.can]
  | .heldTransferTimeout _ =>
    [.cat]
  | .pllStopDelayExpiry _ =>
    [.clk]
  | .spiStatus _ | .wakeNFall | .servicePortVbusWake | .dormantAccessWake | .coreVoltageUpdate _ | .vddStbyLoss
  | .vddStbyReturn =>
    [.dps]
  | .linkUnitError _ | .errOutNMinimumExpiry =>
    [.flt]
  | .curatorRestartTimeout =>
    [.gals]
  | .regionZeroingDone _ =>
    [.mem]
  | .scanComplete =>
    [.mov]
  | .pipeFree _ =>
    [.pipes]
  | .offsetMeasurement _ =>
    [.prot]
  | .ptpDelayResponse _ | .ppsOutSecond | .ppsOutWidthEnd | .ppsInEdge _ =>
    [.ptp]
  | .rdLost _ | .discoverIdentityInterval _ | .rpCurrentAdjustExpiry _ | .eprModeEnter _ | .getSourceCap _ =>
    [.pwr]
  | .servicePortRpSeen | .servicePortRdSeen | .servicePortRoleToggle | .servicePortSourceCapabilities _
  | .servicePortDrSwapAnswer _ =>
    [.svc]
  | .upstreamTrainingDone _ | .upstreamTrainingFail _ =>
    [.upl]
  | .recoveryWindowExpiry _ | .l1IdleExpiry _ | .u1U2InactivityTimeout _ _ | .deviceInitiatedLinkEntry _ _ =>
    [.usb]
  | .jobResultRetentionExpiry _ =>
    [.vault]
  | .spiCatalogueResponse _ | .spiUnknownOpcode _ =>
    [.board, .dps]
  | .servicePortVbusLoss | .servicePortRdLost =>
    [.board, .svc]
  | .sdoInitiateUpload _ _ _ | .nmtCommand _ _ | .sdoAbortTransferRequest =>
    [.can, .dps]
  | .faultAcknowledge _ _ =>
    [.can, .flt]
  | .rwpWriteAbsorbed =>
    [.cat, .regs]
  | .clkEvtClear _ =>
    [.clk, .dps]
  | .crystalRunning =>
    [.clk, .flt]
  | .retryClearExpiry _ =>
    [.prot, .sess]
  | .unattachedDrainDone _ =>
    [.pwr, .dps]
  | .cableIdentityReceived _ _ _ _ | .bc12PrimaryDetection _ =>
    [.pwr, .sess]
  | .jtagInstruction _ =>
    [.regs, .dbg]
  | .alarmExpiry =>
    [.regs, .dps]
  | .epochAdvanceTimeout | .lockOwnerLostExpiry _ =>
    [.sess, .coll]
  | .servicePortFastDomainOn | .servicePortFastDomainOff =>
    [.board, .dps, .svc]
  | .sourceCapabilitiesInterval _ _ =>
    [.pwr, .gals, .cat]
  | .rdOnOneCc _ _ _ =>
    [.pwr, .sess, .dps]
  | .openTimeout _ =>
    [.sess, .tenants, .mem]
  | .prechargeDone _ | .rampSafePoint _ =>
    [.usb, .prot, .regs]
  | .remoteWake _ _ =>
    [.usb, .sess, .dps]
  | .pmbusBusHeldLow _ =>
    [.gals, .sess, .can, .flt]
  | .pdRequest _ _ | .psRdy _ | .stageWarningClearExpiry _ | .raiseSlot _ =>
    [.pwr, .gals, .sess, .cat]
  | .vconnFault _ =>
    [.pwr, .sess, .can, .flt]
  | .crystalFailure =>
    [.sess, .can, .clk, .flt]
  | .syncTimeout =>
    [.sess, .can, .ptp, .flt]
  | .guardedPairTimeout =>
    [.sess, .can, .regs, .flt]
  | .sessionEndingComplete _ =>
    [.sess, .tenants, .upl, .mem]
  | .ptpSync _ =>
    [.ft, .sess, .clk, .ptp, .time]
  | .galleryPowerSum _ =>
    [.prot, .gals, .sess, .can, .flt]
  | .pmbusSegmentRecovered _ | .restartedCuratorRuns =>
    [.pwr, .gals, .sess, .cat, .flt]
  | .nerqueluHeartbeatSend | .fanoutProgress _ _ =>
    [.sess, .can, .coll, .flt, .vault]
  | .moverBusError _ _ =>
    [.sess, .can, .flt, .mov, .area]
  | .rwpWrite _ _ =>
    [.sess, .can, .regs, .dps, .flt]
  | .openSession _ =>
    [.sess, .tenants, .cat, .upl, .mem]
  | .connect _ _ | .connectionConfirmed _ | .idleSuspendExpiry _ =>
    [.usb, .ft, .gals, .pipes, .sess]
  | .checkUnitFree _ =>
    [.sess, .can, .regs, .flt, .vault, .mov]
  | .probationExpiry _ =>
    [.sess, .tenants, .can, .upl, .ptp, .flt]
  | .erasingComplete =>
    [.sess, .tenants, .coll, .boot, .dbg, .mem]
  | .offsetMeasurementEnd _ _ =>
    [.usb, .prot, .sess, .can, .regs, .flt]
  | .scanGo _ =>
    [.sess, .can, .regs, .dps, .flt, .vault, .mov]
  | .vaultEnable _ =>
    [.tenants, .cat, .clk, .flt, .boot, .vault, .data]
  | .stoppingComplete _ =>
    [.usb, .prot, .gals, .pipes, .items, .mov, .area]
  | .portStatus _ | .pipeClose _ | .pipeResync _ | .pipeAbort _ | .vhostStop _ | .vhostStart _
  | .unknownCommandRecord _ _ | .deadlineExpiry _ _ | .suspendEntryDone _ | .templateLoad _ | .fanoutStatus _ =>
    [.usb, .prot, .pipes, .items, .sess, .tenants, .vault]
  | .leaseExpiry _ =>
    [.usb, .prot, .pipes, .items, .sess, .tenants, .coll, .vault]
  | .resumeTree _ =>
    [.usb, .prot, .pipes, .items, .sess, .tenants, .dps, .vault]
  | .go _ =>
    [.pipes, .items, .sess, .can, .regs, .dps, .flt, .vault, .mov]
  | .portVbusOff _ | .pollingTimeout _ | .portResetEnd _ _ | .superspeedRecovery _ _ | .u3ExitTimeout _ =>
    [.usb, .prot, .ft, .gals, .pipes, .items, .sess, .tenants, .vault]
  | .stop _ =>
    [.usb, .prot, .gals, .pipes, .items, .dps, .vault, .mov, .area]
  | .lockAcquire _ _ | .lockRelease _ _ | .lockBreak _ _ | .lockRequestMessage _ _ | .lockAnswerMessage _ _ =>
    [.usb, .prot, .pipes, .items, .sess, .tenants, .board, .coll, .vault]
  | .vaultRead _ | .vaultWrite _ | .vaultFlush _ | .vaultDeallocate _ =>
    [.usb, .prot, .pipes, .items, .sess, .tenants, .dps, .vault, .data]
  | .allDownHoldExpiry | .isaixFrameSend _ | .ackDelayExpiry _ | .reorderAllowanceExpiry _ _
  | .retransmissionTimeout _ =>
    [.usb, .prot, .pipes, .items, .sess, .tenants, .upl, .coll, .vault]
  | .portReset _ | .suspendTree _ | .disable _ | .portDisconnect _ =>
    [.usb, .prot, .ft, .gals, .pipes, .items, .sess, .tenants, .dps, .vault]
  | .fanoutStart _ =>
    [.usb, .prot, .gals, .pipes, .items, .sess, .tenants, .dps, .mem, .vault]
  | .pipeOpen _ =>
    [.usb, .prot, .pipes, .items, .sess, .tenants, .can, .regs, .flt, .vault]
  | .hardResetRecoveryExpiry _ =>
    [.usb, .pwr, .prot, .gals, .pipes, .items, .sess, .tenants, .regs, .vault]
  | .currentSample _ _ _ | .fastTrip _ | .rampTimeout _ =>
    [.usb, .prot, .ft, .gals, .pipes, .items, .sess, .tenants, .regs, .dps, .vault]
  | .quorumWindowExpiry _ | .epochPropose _ _ | .epochAccept _ _ =>
    [.usb, .prot, .pipes, .items, .sess, .tenants, .cat, .board, .coll, .boot, .vault]
  | .outData _ | .setAddressRecoveryExpiry _ | .addressRelease _ _ | .externalHubStatusChange _ _ _ _ | .erdy _ _
  | .captureStop _ =>
    [.usb, .pwr, .prot, .fifo, .gals, .pipes, .items, .sess, .tenants, .mem, .vault]
  | .vbusGood _ | .vbusSettleExpiry _ =>
    [.usb, .pwr, .prot, .ft, .gals, .pipes, .items, .sess, .tenants, .regs, .vault]
  | .vbusOn _ | .ccAttachDebounceExpiry _ =>
    [.usb, .pwr, .prot, .gals, .pipes, .items, .sess, .tenants, .cat, .regs, .vault]
  | .pipeShortEnd _ _ =>
    [.usb, .prot, .gals, .pipes, .items, .sess, .can, .regs, .flt, .vault, .mov, .area]
  | .fanoutCancel _ | .exchangeStatus _ _ _ | .statusPhaseTimeout _ _ | .verifyReadComplete _ _ _ =>
    [.usb, .prot, .gals, .pipes, .items, .sess, .tenants, .can, .coll, .flt, .mem, .vault]
  | .upstreamLinkFault _ =>
    [.usb, .prot, .pipes, .items, .sess, .tenants, .can, .upl, .ptp, .coll, .flt, .vault]
  | .lastItemEnded _ =>
    [.usb, .prot, .pipes, .items, .sess, .tenants, .cat, .upl, .coll, .mem, .vault, .data]
  | .transfer _ | .captureStart _ =>
    [.usb, .pwr, .prot, .fifo, .gals, .pipes, .items, .sess, .tenants, .dps, .mem, .vault]
  | .resetRecoveryExpiry _ | .deviceResetRequest _ _ _ | .enumerationRequestComplete _ _
  | .restoreRequestComplete _ _ | .restoreWindowExpiry _ | .restoreTimeout _ | .resumeSignallingDone _ =>
    [.usb, .pwr, .prot, .ft, .fifo, .gals, .pipes, .items, .sess, .tenants, .mem, .vault]
  | .vbusOff _ | .suspendCurrentCheck _ _ | .quarantineRelease _ _ | .ppsKeepaliveTimeout _ | .eprKeepaliveTimeout _
  | .hardReset _ _ | .renegotiationNoRequestExpiry _ =>
    [.usb, .pwr, .prot, .ft, .gals, .pipes, .items, .sess, .tenants, .cat, .regs, .vault]
  | .isaixAckFrame _ | .isaixProbeFrame _ | .confirm _ =>
    [.usb, .prot, .ft, .gals, .pipes, .items, .sess, .tenants, .regs, .upl, .coll, .mem, .vault]
  | .resume _ | .skip _ =>
    [.usb, .prot, .gals, .pipes, .items, .sess, .can, .regs, .dps, .flt, .vault, .mov, .area]
  | .heartbeatReceived _ _ _ =>
    [.usb, .prot, .pipes, .items, .sess, .tenants, .cat, .can, .board, .coll, .flt, .boot, .vault]
  | .interfaceMapReadComplete _ _ _ =>
    [.usb, .pwr, .prot, .ft, .fifo, .gals, .pipes, .items, .sess, .tenants, .regs, .mem, .vault]
  | .ccDetachDebounceExpiry _ | .entryGuardClear | .drowseIdleExpiry =>
    [.usb, .pwr, .prot, .ft, .gals, .pipes, .items, .sess, .tenants, .cat, .regs, .dps, .vault]
  | .debugRequest _ =>
    [.usb, .prot, .pipes, .items, .sess, .tenants, .regs, .upl, .coll, .dps, .boot, .dbg, .mem, .vault]
  | .drainTimeout _ =>
    [.usb, .pwr, .prot, .ft, .gals, .pipes, .items, .sess, .tenants, .can, .regs, .dps, .flt, .vault]
  | .retryOffTimeExpiry _ _ =>
    [.usb, .pwr, .prot, .ft, .gals, .pipes, .items, .sess, .tenants, .cat, .regs, .dps, .flt, .vault]
  | .scrubPass _ =>
    [.usb, .prot, .fifo, .pipes, .items, .sess, .tenants, .can, .upl, .coll, .flt, .mem, .vault, .mov, .area]
  | .statusWordPoll _ _ | .smbalert _ _ | .vbusDrained _ =>
    [.usb, .pwr, .prot, .ft, .gals, .pipes, .items, .sess, .tenants, .cat, .can, .regs, .dps, .flt, .vault]
  | .reactionTimeExpiry _ | .junctionTemperatureReading _ _ | .curatorWatchdogExpiry =>
    [.usb, .pwr, .prot, .ft, .gals, .pipes, .items, .sess, .tenants, .cat, .can, .regs, .flt, .vault, .mov]
  | .pipeViewSelect _ =>
    [.usb, .prot, .fifo, .pipes, .items, .sess, .tenants, .can, .regs, .upl, .coll, .flt, .mem, .vault, .mov, .area]
  | .moverWindowAccess _ _ =>
    [.usb, .prot, .fifo, .pipes, .items, .sess, .tenants, .can, .upl, .coll, .dps, .flt, .mem, .vault, .mov, .area]
  | .nvmeCommandComplete _ _ =>
    [.usb, .prot, .gals, .pipes, .items, .sess, .tenants, .can, .regs, .coll, .flt, .mem, .vault, .mov, .data, .area]
  | .microframeBoundary _ =>
    [.usb, .pwr, .prot, .ft, .fifo, .gals, .pipes, .items, .sess, .tenants, .cat, .can, .ptp, .flt, .mem, .vault]
  | .descriptorEnd _ _ =>
    [.usb, .prot, .fifo, .gals, .pipes, .items, .sess, .tenants, .can, .regs, .upl, .coll, .flt, .mem, .vault, .mov,
    .area]
  | .transactionComplete _ _ =>
    [.usb, .pwr, .prot, .fifo, .gals, .pipes, .items, .sess, .tenants, .can, .upl, .coll, .flt, .mem, .vault, .mov,
    .area]
  | .nvmeCommandTimeout _ | .controllerFatalStatus _ | .driveLinkDown _ =>
    [.usb, .pwr, .prot, .ft, .gals, .pipes, .items, .sess, .tenants, .cat, .can, .regs, .coll, .flt, .mem, .vault,
    .mov, .area]
  | .linkRetrainDone _ _ =>
    [.usb, .pwr, .prot, .ft, .fifo, .gals, .pipes, .items, .sess, .tenants, .cat, .can, .regs, .coll, .flt, .mem,
    .vault, .mov, .area]
  | .resetNRise =>
    [.usb, .pwr, .prot, .ft, .gals, .pipes, .items, .sess, .tenants, .cat, .can, .regs, .clk, .upl, .coll, .dps, .flt,
    .boot, .vault]
  | .refclkEthLoss =>
    [.usb, .pwr, .prot, .ft, .gals, .pipes, .items, .sess, .tenants, .cat, .can, .regs, .clk, .upl, .ptp, .coll, .flt,
    .vault, .mov]
  | .pllLossOfLock _ =>
    [.usb, .pwr, .prot, .ft, .gals, .pipes, .items, .sess, .tenants, .cat, .can, .regs, .clk, .upl, .ptp, .coll, .flt,
    .mem, .vault, .mov, .area]
  | .spiRegisterRead _ _ _ | .registerReadClear _ =>
    [.usb, .pwr, .prot, .ft, .fifo, .gals, .pipes, .items, .sess, .tenants, .cat, .can, .regs, .upl, .coll, .dps, .flt,
    .dbg, .mem, .vault, .mov, .area]
  | .domainPowerGood _ =>
    [.usb, .pwr, .prot, .ft, .fifo, .gals, .pipes, .items, .sess, .tenants, .cat, .can, .regs, .clk, .upl, .ptp, .coll,
    .dps, .flt, .mem, .vault, .time, .data]
  | .sdoInitiateDownload _ | .sdoSegment _ | .sdoBlockSegment _ | .spiCatalogueRequest _ | .servicePortRequest _
  | .loanGrant _ _ | .loanChange _ _ | .loanEnd _ _ | .loanResume _ _ | .epochAdvanceRequest _
  | .upstreamLinksEnabledWrite _ _ | .catRead _ | .catWrite _ | .vaultDisable _ | .requestedStateWrite _ _
  | .safeStopRelease _ | .errorHistoryClear _ | .imageWrite _ _ _ | .imageVerify _ | .rollbackCommit _
  | .attestationNonce _ _ | .transportKeyWrite _ _ _ =>
    [.usb, .pwr, .prot, .ft, .fifo, .gals, .pipes, .items, .sess, .tenants, .cat, .can, .board, .regs, .upl, .ptp,
    .coll, .dps, .flt, .boot, .mem, .vault, .data, .imgs]
  | .normalServiceEntry =>
    [.usb, .pwr, .prot, .ft, .fifo, .gals, .pipes, .items, .sess, .tenants, .cat, .can, .board, .regs, .clk, .upl,
    .ptp, .coll, .dps, .flt, .boot, .dbg, .mem, .vault, .mov, .time, .data]
  | .isaixDataFrame _ | .closeDrain _ | .closeAbort _ | .sessionReset _ _ =>
    [.usb, .pwr, .prot, .ft, .fifo, .gals, .pipes, .items, .sess, .tenants, .cat, .can, .board, .regs, .clk, .upl,
    .ptp, .coll, .dps, .flt, .boot, .mem, .vault, .mov, .data, .area, .imgs]
  | .spiRegisterWrite _ _ _ | .registerWrite _ _ | .bitAliasWrite _ _ | .guardedWrite _ _ | .rvAccess _ _
  | .pllLock _ | .pllLockTimeout _ | .settlingDone | .pgMainLost | .powerGoodTimeout _ | .injectionArm _
  | .coldStart _ | .mainEnPowerGoodTimeout | .warmReset _ | .resetNLow _ | .resetRequest | .custodianReset _ =>
    [.usb, .pwr, .prot, .ft, .fifo, .gals, .pipes, .items, .sess, .tenants, .cat, .can, .board, .regs, .clk, .upl,
    .ptp, .coll, .dps, .svc, .flt, .boot, .dbg, .mem, .vault, .mov, .time, .data, .area, .imgs]

end Sys2Proof
end

