-- ==== Sys2Proof/Safety/Premises.lean ====
section
/-!
DEFINITION. The conditions under which statements speak of what a command does: nothing else waits in the block, and a command
record passes the checks that every record passes first.
-/
namespace Sys2Proof
open Machine

/-- Nothing waits for the pass that follows a command: no job, capture or mover channel is in hand, no transfer of the hub has
ended, no escalation is owed, no open item waits for others or for a
transaction to end, lies with the Vault or is the hub's own, no virtual host is stopping, no item is held for a *Paused* loan, every
port on loan is a port of its tenant's grant, and no lower power state is requested (05 R151; 07 R210; 10 R284, R286; 11 R306; 16 R417; 03
R85, R91; 15 R392). -/
structure Quiet (s : State) : Prop where
  ended : s.vault.ended = []
  jobs : s.vault.jobs = []
  captures : s.vault.captures = []
  chans : s.mov.chans = []
  owed : s.flt.escDue = []
  items : s.items.all (fun e => decide (e.2.closes = []) && decide (e.2.op < 0x60) && decide (e.2.principal ≠ hubPrincipal) &&
    decide (e.2.cause = none)) = true
  stops : s.tenants.all (fun e => decide (e.2.stopWait = none)) = true
  paused : s.tenants.all (fun e => decide (e.2.heldItems = [])) = true
  recalls : allPorts.all (fun p => decide ((s.getUsb p).loanOwner = 0) ||
    bitOf (s.getTenants (s.getUsb p).loanOwner).ports.toNat (p - 1)) = true
  request : s.dps.request = none
  blocked : s.dps.blocked = 0

/-- No result of a split waits at its translator for a complete-split (08 R238, R242). -/
abbrev NoResult (s : State) : Prop := s.pipes.all (fun e => decide (e.2.wireRes = none)) = true

/-- The principal of a record's session. -/
def owner (s : State) (r : Rec) : Nat := (s.getSess r.sess).tenant

/-- A command record becomes an item that its command is done for (05 R145, R153, R156, R158; 03 R90): its session is *Open*, its
accession number is the one expected and names no open item, the session has room for one more item, its body is long enough, and its
principal's loan is not being recalled. -/
structure Accepted (s : State) (r : Rec) (minLen : Nat) : Prop where
  opened : (s.getSess r.sess).state = .opened
  block : r.acc / 4294967296 = (s.getSess r.sess).block
  expect : r.acc % 4294967296 = (s.getSess r.sess).expect
  fresh : s.hasItem (itemKey (owner s r) r.acc) = false
  room : (s.sessItems r.sess).length < (s.getSess r.sess).itemLimit
  body : minLen ≤ r.body.length
  loan : (s.getTenants (owner s r)).loan ≠ .recalling
  tenant : owner s r ≤ 64

/-- An accepted record whose principal's virtual host is not Stopped, with package-safe-stop not in force (05 R151; 16 R409): the
condition for the commands that these two stop. -/
structure Taken (s : State) (r : Rec) (minLen : Nat) : Prop extends Accepted s r minLen where
  running : (s.getTenants (owner s r)).stopped = false
  safe : s.flt.safeStop = false

/-- The key of a record's item. -/
def keyOf (s : State) (r : Rec) : Nat := itemKey (owner s r) r.acc

/-- The item a record becomes, by its opcode. -/
def itemOf (s : State) (r : Rec) (op : Nat) : Item := recItem (owner s r) r op s.now

/-- The records of a session that wait to be sent: its periodic traffic, or the rest (07 R231). -/
def Machine.Session.waiting (x : Session) (periodic : Bool) : List HubRec := if periodic then x.perQueue else x.txQueue

/-- The completion of item `acc` is the last record queued in session `n`, among its periodic traffic or the rest (05 R155): outcome,
detail and body. -/
def Completed (s t : State) (periodic : Bool) (n acc out det : Nat) (body : Bytes) : Prop :=
  ∃ q isIn moved ps fr, (s.getSess n).waiting periodic <+: q ∧
    (t.getSess n).waiting periodic = q ++ [HubRec.completion false isIn acc out det moved ps fr body]

/-- The state in which a record's item is open, as its command finds it. -/
def Machine.State.arrive (s : State) (r : Rec) (op : Nat) : State :=
  (s.modSess r.sess (fun x => { x with expect := x.expect + 1, gapTold := false })).setItems (keyOf s r) (itemOf s r op)

/-- A record's item is completed. -/
abbrev Answered (s t : State) (r : Rec) (out det : Nat) (body : Bytes) : Prop := Completed s t false r.sess r.acc out det body

/-- A whole value may be written to an object over a path: the path is served, its principal may write the object, and no other
path's transfer holds it (02 R43 to R48). -/
structure MayWrite (s : State) (path : Path) (idx sub : Nat) : Prop where
  reach : s.reach path idx sub true = some 0
  free : s.heldElsewhere path idx sub = false

/-- A value of a numeric object passes its checks, and the object's apply class alone says what the write of it does: the object is no
request to act, no key, not the requested state, no path switch and no buffer cap (00 R10; 02 R46, R488; 08 R240). -/
structure Plain (s : State) (path : Path) (idx sub : Nat) (d : Bytes) (o : Obj) : Prop where
  row : findRow idx sub objTable = some o
  numeric : o.ty.numeric = true
  size : o.ty.size = some d.length
  unmasked : o.mask = none
  value : o.vset.check (leNat d) = 0
  checks : s.numCheck (s.principalOf path) idx sub (leNat d) = 0
  act : s.actWrite path idx sub (leNat d) d = none
  key : keySlot idx sub = none
  own : idx ≠ 0x2100 ∧ idx ≠ 0x2011 ∧ idx ≠ 0x3000

/-- The path of an item of `CAT_READ` or `CAT_WRITE` (02 R43). -/
def catPath (s : State) (r : Rec) : Path := if owner s r = 0 then .house r.sess else .tenant r.sess

/-- A Nerquelu message of a type with a body has been sent to a member, or to the witness as 0 (03 R96). -/
def toldTo (t : State) (m typ : Nat) (body : Bytes) : Bool :=
  t.sent.any (fun x => match x with
    | .nerquelu a b _ _ _ d _ => decide (a = m) && decide (b = typ) && decide (d = body)
    | _ => false)

/-- The command answers a next state of which `P` holds. -/
def Gives (c : Instr) (s : State) (P : State → Prop) : Prop := ∃ t, exec c s = .next t ∧ P t

/-- Where the command answers a next state, `P` holds of what its own effect leaves, before the pass that follows it. -/
def OwnEffect (c : Instr) (s : State) (P : State → Prop) : Prop :=
  ∀ t, exec c s = .next t → ∃ u, (t = u ∨ t = u.settle) ∧ P u

/-- A port is as it was: its USB side, its contract, its protection, its timebase and its buffer. -/
def SamePort (s t : State) (q : Nat) : Prop :=
  t.getUsb q = s.getUsb q ∧ t.getPwr q = s.getPwr q ∧ t.getProt q = s.getProt q ∧ t.getFt q = s.getFt q ∧ t.getFifo q = s.getFifo q

/-- PIPE_RESYNCED events of a pipe in the queue of a session (05 R163; 07 R209). -/
def resyncedEvents (s : State) (sess n : Nat) : Nat :=
  (s.getSess sess).txQueue.countP (fun x => match x with
    | .event c _ _ m _ _ => decide (c = 4) && decide (m = n)
    | _ => false)

end Sys2Proof
end

