-- ==== Sys2Proof/Certificates/Slice0/Obligations.lean ====
section
/-!
DEFINITION. The statements for the provers: what the commands do, what they leave as it was, and what every step keeps.
-/
open Sys2Proof Sys2Proof.Machine

/-- PIPE_CLOSE and PIPE_ABORT on a pipe without queued items, and PIPE_RESYNC, complete DONE. On a pipe that the record's
principal holds and that has no queued item: PIPE_CLOSE takes the pipe to Closing and completes DONE; PIPE_ABORT leaves its
state as it was and completes DONE; PIPE_RESYNC, with items queued or without, leaves it Open and completes DONE; with no
transaction of the pipe or its streams in progress or to be re-issued, its toggle (USB 2.0) or sequence number (SuperSpeed) is
then the value in the record. Each answers a next state. Cites R153 (05), R209 (07), R210 (07), R213 (07), R215 (07). -/
def Obligations.PipeRecordsComplete : Prop :=
  (∀ (s : State) (r : Rec) (n : Nat), Quiet s → Accepted s r 8 → beNat (slice r.body 0 4) % 1048576 = n → s.holdsPipe (owner s r) n = true →
    s.groupItems n = [] →
    Gives (.pipeClose r) s (fun t => (t.getPipes n).state = .closing ∧ Answered s t r 0 0 [])) ∧
  (∀ (s : State) (r : Rec) (n : Nat), Quiet s → Taken s r 8 → beNat (slice r.body 0 4) % 1048576 = n → s.holdsPipe (owner s r) n = true →
    s.groupItems n = [] →
    Gives (.pipeAbort r) s (fun t => (t.getPipes n).state = (s.getPipes n).state ∧ Answered s t r 0 0 [])) ∧
  (∀ (s : State) (r : Rec) (n : Nat), Quiet s → Taken s r 8 → beNat (slice r.body 0 4) % 1048576 = n → s.holdsPipe (owner s r) n = true →
    Gives (.pipeResync r) s (fun t => (t.getPipes n).state = .opened ∧ Answered s t r 0 0 [] ∧
      (s.groupPending n = false → (s.getPipes n).super = true →
        (t.getPipes n).seq = BitVec.ofNat 5 (beNat (slice r.body 4 1))) ∧
      (s.groupPending n = false → (s.getPipes n).super = false →
        (t.getPipes n).toggle = decide (beNat (slice r.body 4 1) % 2 = 1))))

/-- PIPE_OPEN within the limits opens the lowest free contexts and answers the pipe's number. A PIPE_OPEN of a port its
principal holds, of a known device that is no hub, with parameters inside the limits for its type and speed, for an endpoint
without a pipe, with contexts free and inside the quota, and admitted where it reserves bus time, opens the lowest free
contexts for the pipe and its streams and completes DONE with the pipe's number in the body. Cites R153 (05), R202 (07), R206
(07), R208 (07), R209 (07). -/
def Obligations.PipeOpenCompletes : Prop :=
  ∀ (s : State) (r : Rec) (p a : Nat) (d : Device) (x : Pipe), Quiet s → Taken s r 16 → handleOf (beNat (slice r.body 0 2)) = some (p, a) →
    s.holdsPort (owner s r) p = true → (s.getUsb p).device? a = some d → a ≠ 0 → d.isHub = false →
    x = s.pipeOf (itemOf s r 0x20) p a d →
    beNat (slice r.body 3 1) ≤ 3 → bitsOf (beNat (slice r.body 2 1)) 4 3 = 0 → pipeRules x (beNat (slice r.body 10 2)) = true →
    s.hasPipe x = false → 1 + beNat (slice r.body 10 2) ≤ s.ctxFree →
    (owner s r = 0 ∨ s.ctxHeld (owner s r) + 1 + beNat (slice r.body 10 2) ≤ s.cfg 0x6014 (owner s r)) →
    (x.reserved = true → (s.admitPipe x).1 = 0) →
    Gives (.pipeOpen r) s (fun t =>
      (∀ n ∈ s.freeCtx 12288 (1 + beNat (slice r.body 10 2)), (t.getPipes n).state = .opened) ∧
      Answered s t r 0 0 (natBE 4 ((s.freeCtx 12288 (1 + beNat (slice r.body 10 2))).headD 0) ++ zeros 4))

/-- TRANSFER joins its pipe's queue and OUT_DATA appends to its item. With no result of a split waiting at a translator: in
Run, a TRANSFER on a control, bulk or interrupt pipe its principal holds, with nothing that refuses it, becomes an open item
of the queue of its pipe, or of its stream's context. An OUT_DATA record of an open OUT TRANSFER of its session, whose offset
is the next one expected and whose bytes fit the item's length, is appended to the item's data. Cites R153 (05), R154 (05),
R209 (07), R215 (07). -/
def Obligations.TransfersQueue : Prop :=
  (∀ (s : State) (r : Rec) (n : Nat), Quiet s → Taken s r 28 → NoResult s → s.dps.state = .run → beNat (slice r.body 0 4) % 1048576 = n →
    s.holdsPipe (owner s r) n = true → s.xferRefusal (s.xferItem (itemOf s r 0x30) n) n = none → (s.getPipes n).typ ≠ 1 →
    Gives (.transfer r) s (fun t => keyOf s r ∈ (t.getPipes (s.queueOf n (beNat (slice r.body 4 2)))).queue ∧
      (t.item? (keyOf s r)).map (·.pipe) = some (some (s.queueOf n (beNat (slice r.body 4 2)))))) ∧
  (∀ (s : State) (r : Rec) (i : Item), Quiet s → NoResult s → ((s.getSess r.sess).state = .opened ∨ (s.getSess r.sess).state = .draining) →
    s.item? (keyOf s r) = some i → i.sess = r.sess → i.op = 0x30 → i.isIn = false → 8 ≤ r.body.length →
    beNat (slice r.body 0 4) = i.outNext → i.outNext + (r.body.drop 8).length ≤ i.length →
    Gives (.outData r) s (fun t => t.item? (keyOf s r) =
      some { i with outNext := i.outNext + (r.body.drop 8).length, outData := i.outData ++ r.body.drop 8 }))

/-- VHOST_STOP, VHOST_START and a record of unknown opcode are answered as R151 and R153 say. VHOST_STOP of a principal with
no other open item stops its virtual host and completes DONE; VHOST_START, which a Stopped virtual host still serves, ends
Stopped and completes DONE; a record whose opcode no command has ends BAD_COMMAND with DETAIL 0x02. Cites R151 (05), R153
(05), R155 (05). -/
def Obligations.VirtualHostRecords : Prop :=
  (∀ (s : State) (r : Rec), Quiet s → Taken s r 0 → s.tenantItems (owner s r) = [] →
    Gives (.vhostStop r) s (fun t => (t.getTenants (owner s r)).stopped = true ∧ Answered s t r 0 0 [])) ∧
  (∀ (s : State) (r : Rec), Quiet s → Accepted s r 0 → s.flt.safeStop = false →
    Gives (.vhostStart r) s (fun t => (t.getTenants (owner s r)).stopped = false ∧ Answered s t r 0 0 [])) ∧
  (∀ (s : State) (op : Nat) (r : Rec), Quiet s → Accepted s r 0 → s.flt.safeStop = false →
    Gives (.unknownCommandRecord op r) s (fun t => Answered s t r 0x0C 0x02 []))

/-- PIPE_FREE, PIPE_VIEW_SELECT, ERDY, DEADLINE_EXPIRY and TRANSACTION_COMPLETE have their effects. PIPE_FREE of a Closing
pipe with no queued item and no transaction zeroes and frees its context. PIPE_VIEW_SELECT leaves the view holding the context
words of the pipe, ready, while no injection is armed. An ERDY that names a stream without an item is answered NoStream on the
bus. The deadline of an open item that has one, with no transaction in progress and no earlier cause, ends it DEADLINE in its
live session. With no result of a split waiting at a translator and no injection armed, a transaction that ends NAK leaves its
item open as it was, and the queue and the replay count of its pipe. Cites R209 (07), R217 (07), R221 (07), R227 (07), R228
(07), R231 (07), R235 (07), R155 (05), R159 (05). -/
def Obligations.PipeEventsComplete : Prop :=
  (∀ (s : State) (n : Nat), n < 1048576 → Quiet s → (s.getPipes n).state = .closing → (s.getPipes n).streamCtx = false → s.groupItems n = [] →
    s.groupBusy n = false → Gives (.pipeFree n) s (fun t => t.getPipes n = Pipe.reset)) ∧
  (∀ (s : State) (n : Nat), n < 1048576 → s.flt.injArmed = false →
    Gives (.pipeViewSelect n) s (fun t => t.regs.viewSel = BitVec.ofNat 20 n ∧ t.regs.viewReady = true ∧ t.regs.view = s.ctxWords n)) ∧
  (∀ (s : State) (n st : Nat), n < 1048576 → st ≠ 0 → (s.getPipes (s.queueOf (s.parent n) st)).queue = [] →
    Gives (.erdy n st) s (fun t => Sent.xact (s.parent n) 3 st ∈ t.sent)) ∧
  (∀ (s : State) (p acc : Nat) (i : Item), Quiet s → s.item? (itemKey p acc) = some i → i.deadline ≠ 0 → i.cause = none → i.principal ≠ hubPrincipal →
    s.inProgress (itemKey p acc) i = false → (s.getSess i.sess).live = true →
    Gives (.deadlineExpiry p acc) s (fun t => Completed s t (s.periodicItem i) i.sess i.acc 0x06 0 [])) ∧
  (∀ (s : State) (n k : Nat) (i : Item), n < 1048576 → Quiet s → NoResult s → s.flt.injArmed = false → (s.getPipes n).inXact = true →
    (s.getPipes n).queue.head? = some k → s.item? k = some i → i.cause = none →
    Gives (.transactionComplete n .nak) s (fun t => t.item? k = some i ∧ (t.getPipes n).queue = (s.getPipes n).queue ∧
      (t.getPipes n).replays = (s.getPipes n).replays))

/-- A microframe boundary counts one, measures the phase error, and takes an owed step in whole microframes. At a microframe
boundary of a running timebase the count rises by one and the timebase keeps running. Where no step is owed the phase error is
hub time minus the boundary's target under R259, saturated to 32 bits, and less than four microframes after the last change of
the trim the trim stays, its whole steps and the accumulated fraction giving the length of the microframe. Where a step is
owed the bias falls by the nearest whole number of microframes in it, half rounding down. Cites R259 (09), R261 (09), R262
(09), R263 (09), R264 (09), R265 (09). -/
def Obligations.MicroframeBoundaryCounts : Prop :=
  (∀ (s : State) (p : Nat), portOk p = true → Quiet s → (s.getFt p).running = true →
    Gives (.microframeBoundary p) s (fun t => (t.getFt p).count = (s.getFt p).count + 1 ∧ (t.getFt p).running = true)) ∧
  (∀ (s : State) (p : Nat), portOk p = true → Quiet s → (s.getFt p).running = true → (s.getFt p).stepOwed = 0 →
    Gives (.microframeBoundary p) s (fun t =>
      (t.getFt p).phase = satInt32 (phaseOf s.now (s.cfg 0x4050 p) (s.getFt p).bias ((s.getFt p).count + 1)) ∧
      ((s.getFt p).sinceTrim < 3 → (t.getFt p).trim = (s.getFt p).trim ∧
        (t.getFt p).frac = ((((s.getFt p).frac : Int) + (s.getFt p).trim) % 256).toNat ∧
        (t.getFt p).steps = (960000 + (((s.getFt p).frac : Int) + (s.getFt p).trim) / 256).toNat))) ∧
  (∀ (s : State) (p : Nat), portOk p = true → Quiet s → (s.getFt p).running = true → (s.getFt p).stepOwed ≠ 0 →
    Gives (.microframeBoundary p) s (fun t =>
      (t.getFt p).bias = (s.getFt p).bias - BitVec.ofInt 32 (((s.getFt p).stepOwed - 62500 + 124999) / 125000)))

/-- VBUS_ON and VBUS_OFF complete at once or start the power-up and the drain. With the sentry link of the port up and the
loan of its holder not Paused: on an attached port that its principal holds, not Quarantined and with a budget, VBUS_ON with
the switch On completes DONE, and with the switch Off and no Hard Reset in hand starts a power-up. VBUS_OFF on a Withheld port
completes DONE; on an attached port with the switch On it takes the port to Withheld and the switch to Draining. Cites R153
(05), R342 (13), R344 (13), R378 (14), R384 (14), R490 (14), R24 (01), R91 (03). -/
def Obligations.PortPowerRecords : Prop :=
  (∀ (s : State) (r : Rec) (p : Nat), Quiet s → Taken s r 8 → (s.getTenants (owner s r)).loan ≠ .paused → beNat (slice r.body 0 1) = p →
    beNat (slice r.body 1 1) = 1 → s.holdsPort (owner s r) p = true → s.linkHeld p = false →
    (s.getPwr p).cc = .attached → (s.getUsb p).state ≠ .quarantined → s.budget p ≠ 0 → (s.getProt p).sw = .on →
    Gives (.vbusOn r) s (fun t => Answered s t r 0 0 [])) ∧
  (∀ (s : State) (r : Rec) (p : Nat), Quiet s → Taken s r 8 → (s.getTenants (owner s r)).loan ≠ .paused → beNat (slice r.body 0 1) = p →
    beNat (slice r.body 1 1) = 1 → s.holdsPort (owner s r) p = true → s.linkHeld p = false →
    (s.getPwr p).cc = .attached → (s.getUsb p).state ≠ .quarantined → s.budget p ≠ 0 → (s.getProt p).sw = .off →
    (s.getPwr p).inHardReset = false →
    Gives (.vbusOn r) s (fun t => (t.getProt p).sw = .ramping ∧ (t.getProt p).rampPhase = .offset)) ∧
  (∀ (s : State) (r : Rec) (p : Nat), Quiet s → Taken s r 8 → (s.getTenants (owner s r)).loan ≠ .paused → beNat (slice r.body 0 1) = p →
    beNat (slice r.body 1 1) = 2 → s.holdsPort (owner s r) p = true → (s.getPwr p).cc = .withheld →
    Gives (.vbusOff r) s (fun t => Answered s t r 0 0 [])) ∧
  (∀ (s : State) (r : Rec) (p : Nat), Quiet s → Taken s r 8 → (s.getTenants (owner s r)).loan ≠ .paused → beNat (slice r.body 0 1) = p →
    beNat (slice r.body 1 1) = 2 → s.holdsPort (owner s r) p = true → s.linkHeld p = false →
    (s.getPwr p).cc = .attached → (s.getProt p).sw = .on →
    Gives (.vbusOff r) s (fun t => (t.getPwr p).cc = .withheld ∧ (t.getProt p).sw = .draining))

/-- PORT_RESET, SUSPEND_TREE, RESUME_TREE, DISABLE and PORT_STATUS act on a port as R182 and R153 say. In Run, with the loan
not Paused, on an Enabled port without a fallback that the principal holds: PORT_RESET takes it to Resetting; SUSPEND_TREE
takes it to Suspended and stops start-of-frame packets; RESUME_TREE completes DONE; DISABLE, with no other action in progress,
takes it to Disabled and completes DONE. RESUME_TREE on a Suspended port drives resume signalling. PORT_STATUS, in any state
of the port and with the loan Paused or not, completes DONE with the port's state, speed, number of devices, contract power,
voltage and current. Cites R153 (05), R172 (06), R182 (06), R183 (06), R191 (06), R193 (06), R91 (03). -/
def Obligations.PortActionRecords : Prop :=
  (∀ (s : State) (r : Rec) (p : Nat), Quiet s → Taken s r 8 → s.dps.state = .run → (s.getTenants (owner s r)).loan ≠ .paused →
    beNat (slice r.body 0 1) = p → beNat (slice r.body 1 1) = 3 →
    s.holdsPort (owner s r) p = true → (s.getUsb p).state = .enabled → (s.getUsb p).fallback = false →
    Gives (.portReset r) s (fun t => (t.getUsb p).state = .resetting)) ∧
  (∀ (s : State) (r : Rec) (p : Nat), Quiet s → Taken s r 8 → s.dps.state = .run → (s.getTenants (owner s r)).loan ≠ .paused →
    beNat (slice r.body 0 1) = p → beNat (slice r.body 1 1) = 4 →
    s.holdsPort (owner s r) p = true → (s.getUsb p).state = .enabled → (s.getUsb p).fallback = false →
    Gives (.suspendTree r) s (fun t => (t.getUsb p).state = .suspended ∧ (t.getUsb p).suspBy = .owner ∧ Sent.bus p 7 0 ∈ t.sent)) ∧
  (∀ (s : State) (r : Rec) (p : Nat), Quiet s → Taken s r 8 → s.dps.state = .run → (s.getTenants (owner s r)).loan ≠ .paused →
    beNat (slice r.body 0 1) = p → beNat (slice r.body 1 1) = 5 →
    s.holdsPort (owner s r) p = true → (s.getUsb p).state = .enabled →
    Gives (.resumeTree r) s (fun t => Answered s t r 0 0 [])) ∧
  (∀ (s : State) (r : Rec) (p : Nat), Quiet s → Taken s r 8 → s.dps.state = .run → (s.getTenants (owner s r)).loan ≠ .paused →
    beNat (slice r.body 0 1) = p → beNat (slice r.body 1 1) = 5 →
    s.holdsPort (owner s r) p = true → (s.getUsb p).state = .suspended → (s.getUsb p).suspEntry = false →
    (s.getUsb p).resuming = false → Gives (.resumeTree r) s (fun t => Sent.bus p 8 0 ∈ t.sent)) ∧
  (∀ (s : State) (r : Rec) (p : Nat), Quiet s → Taken s r 8 → s.dps.state = .run → (s.getTenants (owner s r)).loan ≠ .paused →
    beNat (slice r.body 0 1) = p → beNat (slice r.body 1 1) = 6 →
    s.holdsPort (owner s r) p = true → (s.getUsb p).state = .enabled → (s.getUsb p).fallback = false →
    (s.getUsb p).actionItem = none → (s.getUsb p).resumeItems = [] →
    Gives (.disable r) s (fun t => (t.getUsb p).state = .disabled ∧ Answered s t r 0 0 [])) ∧
  (∀ (s : State) (r : Rec) (p : Nat), Accepted s r 8 → beNat (slice r.body 0 1) = p → s.holdsPort (owner s r) p = true →
    Gives (.portStatus r) s (fun t => Answered s t r 0 0
      (natBE 1 (portStateCode (s.getUsb p).state) ++ natBE 1 (speedCode (s.getUsb p).speed) ++
        natBE 1 (s.getUsb p).devices.length ++ [0] ++ natBE 4 (s.getPwr p).power ++ natBE 2 ((s.getProt p).vSample * 4) ++
        natBE 2 (intBits 16 (s.toMa p (s.getProt p).iSample)) ++ [0, 0, 0, 0])))

/-- VBUS, connection, reset and disconnection take a port through the states of R182. VBUS good takes an Unpowered port to
Powered and starts the searches for a connection, on the lane pairs that the cable gives; a DCP shorts its data lines in their
place. VBUS off takes a port that is not Quarantined to Unpowered with no devices. A connection takes a Powered port that is
no DCP to Attaching; its confirmation takes the port to Resetting with the reset of its bus driven. A disconnection in Run
takes a port with VBUS to Powered. Polling that does not reach U0, with no USB 2.0 pull-up seen, disables SuperSpeed. A reset
that ends with a mode of the port trained, no request being deferred, takes the port to Enabled at that mode; one of the first
two that ends without one is tried again. Cites R167 (06), R168 (06), R169 (06), R170 (06), R171 (06), R172 (06), R175 (06),
R181 (06), R182 (06), R346 (13), R350 (13). -/
def Obligations.PortConnectionEvents : Prop :=
  (∀ (s : State) (p : Nat), portOk p = true → Quiet s → (s.getUsb p).state = .unpowered →
    Gives (.vbusGood p) s (fun t => (t.getUsb p).state = .powered ∧
      (if s.cfg 0x4016 p = 2 then Sent.bus p 11 0 else Sent.bus p 10 (s.getPwr p).pairs) ∈ t.sent)) ∧
  (∀ (s : State) (p : Nat), portOk p = true → Quiet s → (s.getUsb p).state ≠ .quarantined →
    Gives (.portVbusOff p) s (fun t => (t.getUsb p).state = .unpowered ∧ (t.getUsb p).devices = [])) ∧
  (∀ (s : State) (p : Nat) (k : ConnKind), portOk p = true → Quiet s → (s.getUsb p).state = .powered → s.cfg 0x4016 p ≠ 2 → k ≠ .none →
    (s.getUsb p).ssDisabled = false →
    Gives (.connect p k) s (fun t => (t.getUsb p).state = .attaching ∧ (t.getUsb p).connKind = k)) ∧
  (∀ (s : State) (p : Nat), portOk p = true → Quiet s → (s.getUsb p).state = .attaching →
    Gives (.connectionConfirmed p) s (fun t => (t.getUsb p).state = .resetting ∧
      Sent.bus p (if (s.getUsb p).connKind = .rxTerm then 6 else 3) (s.getUsb p).cap ∈ t.sent)) ∧
  (∀ (s : State) (p : Nat), portOk p = true → Quiet s → s.dps.state = .run → (s.getUsb p).state ≠ .unpowered → (s.getUsb p).state ≠ .tripped →
    (s.getUsb p).state ≠ .quarantined →
    Gives (.portDisconnect p) s (fun t => (t.getUsb p).state = .powered ∧ (t.getUsb p).connKind = .none)) ∧
  (∀ (s : State) (p : Nat), portOk p = true → Quiet s → (s.getUsb p).state = .resetting → (s.getUsb p).resetKind = .polling →
    (s.getUsb p).pullUp = .none →
    Gives (.pollingTimeout p) s (fun t => (t.getUsb p).state = .powered ∧ (t.getUsb p).ssDisabled = true)) ∧
  (∀ (s : State) (p : Nat) (sp : Speed), portOk p = true → Quiet s → (s.getUsb p).state = .resetting → (s.getUsb p).resetKind ≠ .none →
    s.trainedMode p sp ≠ .none → (s.getUsb p).deferred = none →
    Gives (.portResetEnd p sp) s (fun t => (t.getUsb p).state = .enabled ∧ (t.getUsb p).speed = s.trainedMode p sp)) ∧
  (∀ (s : State) (p : Nat) (sp : Speed), portOk p = true → Quiet s → (s.getUsb p).state = .resetting → (s.getUsb p).resetKind ≠ .none →
    s.trainedMode p sp = .none → (s.getUsb p).resetTries < 2 →
    Gives (.portResetEnd p sp) s (fun t => (t.getUsb p).state = .resetting ∧
      (t.getUsb p).resetTries = (s.getUsb p).resetTries + 1))

/-- The Registrar asks for the requests of an enumeration in the order of R177. With no result of a split waiting: after reset
recovery an Enabled port without a restore or a fallback and with nothing being enumerated asks address 0 for the first 8
bytes of the device descriptor, and on an idle high-speed bus the request goes out at once. When that read completes a new
device is given the lowest free address by SET_ADDRESS. 2 ms after SET_ADDRESS the full device descriptor is read. An address
held back without open items is released. A status change of an external hub's port is acknowledged to that hub. The end of an
interface-map read ends its wait, with the map read or MAP_FAIL. A device reset over a path that reaches the object resets a
root device's port and is answered 0. Cites R174 (06), R176 (06), R177 (06), R178 (06), R180 (06), R201 (07), R214 (07), R222
(07). -/
def Obligations.EnumerationEvents : Prop :=
  (∀ (s : State) (p : Nat), portOk p = true → Quiet s → NoResult s → (s.getUsb p).state = .enabled → (s.getUsb p).timebaseFrom = true →
    (s.getUsb p).restore = none → (s.getUsb p).fallback = false → (s.getUsb p).enums = [] →
    Gives (.resetRecoveryExpiry p) s (fun t => (0, [0x80, 0x06, 0x00, 0x01, 0x00, 0x00, 0x08, 0x00], 1) ∈ (t.getUsb p).requests)) ∧
  (∀ (s : State) (p : Nat), portOk p = true → Quiet s → (s.getUsb p).state = .enabled → (s.getUsb p).timebaseFrom = true →
    (s.getUsb p).restore = none → (s.getUsb p).fallback = false → (s.getUsb p).enums = [] → (s.getUsb p).speed = .hs →
    (s.getUsb p).resetKind = .none → s.flt.safeStop = false → (s.dieLink (wingOf p)).retraining = false →
    (s.getUsb p).requests = [] → (s.getUsb p).inFlight = [] → (s.getPipes (p - 1)).inXact = false →
    s.pipes.all (fun e => decide (e.2.port ≠ p)) = true →
    Gives (.resetRecoveryExpiry p) s (fun t => Sent.usb p 0 [0x80, 0x06, 0x00, 0x01, 0x00, 0x00, 0x08, 0x00] ∈ t.sent)) ∧
  (∀ (s : State) (p : Nat) (e : Enum) (a : Nat) (data : Bytes), portOk p = true → Quiet s → NoResult s → (s.getUsb p).state = .enabled →
    (s.getUsb p).restore = none → (s.getUsb p).enumHead = some e → e.step = .desc8 → e.prev = 0 → (s.getUsb p).freeAddr = some a →
    Gives (.enumerationRequestComplete p (.ok data)) s (fun t =>
      (0, [0x00, 0x05] ++ natLE 2 a ++ [0, 0, 0, 0], 1) ∈ (t.getUsb p).requests)) ∧
  (∀ (s : State) (p : Nat) (e : Enum), portOk p = true → NoResult s → (s.getUsb p).state = .enabled → (s.getUsb p).enumHead = some e →
    e.step = .recovery →
    Gives (.setAddressRecoveryExpiry p) s (fun t =>
      (e.addr, [0x80, 0x06, 0x00, 0x01, 0x00, 0x00, 0x12, 0x00], 1) ∈ (t.getUsb p).requests)) ∧
  (∀ (s : State) (p a : Nat), portOk p = true → NoResult s → (s.getUsb p).heldAddrs.contains a = true →
    s.pipesWhere (fun x => decide (x.port = p) && decide (x.address = a) && decide (x.queue ≠ [])) = [] →
    Gives (.addressRelease p a) s (fun t => (t.getUsb p).heldAddrs.contains a = false)) ∧
  (∀ (s : State) (p a n : Nat) (d : Device) (c : HubChange), portOk p = true → Quiet s → NoResult s → (s.getUsb p).state = .enabled →
    (s.getUsb p).device? a = some d → d.isHub = true →
    (s.getUsb p).devices.all (fun x => decide (x.parent ≠ a) ||
      (decide (x.addr ≠ a) && !((belowOf (s.getUsb p).devices 6 [x.addr]).contains a))) = true →
    Gives (.externalHubStatusChange p a n c) s (fun t =>
      (a, [0x23, 0x01, (if c = .connect ∨ c = .disconnect then 16 else 20), 0] ++ natLE 2 n ++ [0, 0], 0) ∈ (t.getUsb p).requests ∨
      Sent.usb p a ([0x23, 0x01, (if c = .connect ∨ c = .disconnect then 16 else 20), 0] ++ natLE 2 n ++ [0, 0]) ∈ t.sent)) ∧
  (∀ (s : State) (p a : Nat) (m : IfMap), portOk p = true → Quiet s → NoResult s → (s.getUsb p).mapPending a = true → (s.getUsb p).restore = none →
    Gives (.interfaceMapReadComplete p a m) s (fun t => (t.getUsb p).mapPending a = false ∧
      (m.isNone = true → t.regs.psMapFail = true) ∧
      (t.getUsb p).devices = (s.getUsb p).devices.map (fun d => if d.addr = a then { d with map := m.getD [] } else d))) ∧
  (∀ (s : State) (p a : Nat) (path : Path) (d : Device), portOk p = true → Quiet s → s.reach path 0x4024 p true = some 0 → (s.getUsb p).device? a = some d →
    d.parent = 0 → (s.getUsb p).state = .enabled → (s.getUsb p).fallback = false →
    Gives (.deviceResetRequest p a path) s (fun t => (t.getUsb p).state = .resetting ∧ Sent.answer path 0x4024 p 0 ∈ t.sent))

/-- Recoveries, restores and their windows have the effects of R185 to R189. A SuperSpeed Recovery of an Enabled port that
reaches U0 below the threshold is counted, and a recovery that leaves the window is taken off it. With no result of a split
waiting, a restore goes on from SET_SEL to SET_ISOCH_DELAY. A restore whose window passes without a connection, or whose Max
passes with no request deferred, is over and counted as failed. A U3 exit that times out where no fallback is allowed disables
the port. A release over a path that reaches the object, without package-safe-stop, takes a Quarantined port, whose fault's
slot and cause are gone, out of Quarantined and is answered 0. Cites R182 (06), R185 (06), R188 (06), R189 (06), R193 (06),
R411 (16). -/
def Obligations.RestoreEvents : Prop :=
  (∀ (s : State) (p : Nat), portOk p = true → Quiet s → (s.getUsb p).state = .enabled → isSuper (speedCode (s.getUsb p).speed) = true →
    (s.getUsb p).recWindow + 1 < s.cfg 0x402E p →
    Gives (.superspeedRecovery p true) s (fun t => (t.getUsb p).recWindow = (s.getUsb p).recWindow + 1 ∧
      (t.getUsb p).recoveries = satAdd (s.getUsb p).recoveries 1)) ∧
  (∀ (s : State) (p : Nat), portOk p = true →
    Gives (.recoveryWindowExpiry p) s (fun t => (t.getUsb p).recWindow = (s.getUsb p).recWindow - 1)) ∧
  (∀ (s : State) (p : Nat) (b : Bool) (e : Enum) (data : Bytes), portOk p = true → Quiet s → NoResult s → (s.getUsb p).state = .enabled →
    (s.getUsb p).restore = some ⟨b, .running⟩ → (s.getUsb p).enumHead = some e → e.step = .setSel →
    Gives (.restoreRequestComplete p (.ok data)) s (fun t => (e.addr, [0x00, 0x31, 0, 0, 0, 0, 0, 0], 1) ∈ (t.getUsb p).requests)) ∧
  (∀ (s : State) (p : Nat) (b : Bool), portOk p = true → Quiet s → (s.getUsb p).state = .powered → (s.getUsb p).restore = some ⟨b, .connect⟩ →
    Gives (.restoreWindowExpiry p) s (fun t => (t.getUsb p).restore = none ∧
      (t.getUsb p).restoresFailed = satAdd (s.getUsb p).restoresFailed 1)) ∧
  (∀ (s : State) (p : Nat) (b : Bool), portOk p = true → Quiet s → NoResult s → (s.getUsb p).restore = some ⟨b, .running⟩ →
    (s.getUsb p).deferred = none →
    Gives (.restoreTimeout p) s (fun t => (t.getUsb p).restore = none ∧
      (t.getUsb p).restoresFailed = satAdd (s.getUsb p).restoresFailed 1)) ∧
  (∀ (s : State) (p : Nat), portOk p = true → Quiet s → (s.getUsb p).state = .suspended → (s.getUsb p).resuming = true →
    isSuper (speedCode (s.getUsb p).speed) = true → s.cfg 0x4023 p = 0 → (s.getUsb p).fallback = false →
    Gives (.u3ExitTimeout p) s (fun t => (t.getUsb p).state = .disabled)) ∧
  (∀ (s : State) (p : Nat) (path : Path), portOk p = true → Quiet s → s.reach path 0x402D p true = some 0 → s.flt.safeStop = false →
    (s.getUsb p).state = .quarantined →
    (s.getUsb p).containedBy.all (fun c => !(s.flt.causes.contains c) && !(s.flt.holds c.1 c.2)) = true →
    Gives (.quarantineRelease p path) s (fun t => (t.getUsb p).state ≠ .quarantined ∧ Sent.answer path 0x402D p 0 ∈ t.sent))

/-- Suspend, resume and link power events have the effects of R191 to R197. A suspend entry that is done leaves the link in U3
or L2. The idle policy, where set, suspends an Enabled tree without a fallback, open items and periodic pipes. Where it does
not also take VBUS off, the suspend current check marks a tree above its limit noncompliant and clears the mark below it.
Resume signalling that is done, with no result of a split waiting, leaves the port Enabled. A remote wake in Run is answered
by resume signalling. The L1 idle time of a single device that advertises LPM, the U1 and U2 timeouts and a device's request
enter the link state that the policy allows, without a Prompt pipe open, L1 read as 1. Cites R191 (06), R192 (06), R193 (06),
R195 (06), R196 (06), R197 (06). -/
def Obligations.SuspendEvents : Prop :=
  (∀ (s : State) (p : Nat), portOk p = true → (s.getUsb p).state = .suspended → (s.getUsb p).suspEntry = true →
    Gives (.suspendEntryDone p) s (fun t => (t.getUsb p).suspEntry = false ∧ (t.getUsb p).linkpm = 3)) ∧
  (∀ (s : State) (p : Nat), portOk p = true → (s.getUsb p).state = .enabled → (s.getUsb p).fallback = false → s.cfg 0x4026 p ≠ 0 →
    s.treeItems p = [] → (s.portPipes p).all (fun n => decide ((s.getPipes n).typ ≠ 1) && decide ((s.getPipes n).typ ≠ 3)) = true →
    Gives (.idleSuspendExpiry p) s (fun t => (t.getUsb p).state = .suspended ∧ (t.getUsb p).suspBy = .idle ∧
      Sent.bus p 7 0 ∈ t.sent)) ∧
  (∀ (s : State) (p : Nat) (avg : Int), portOk p = true → Quiet s → (s.getUsb p).state = .suspended → (s.getUsb p).suspCheck = true →
    s.cfg 0x4028 p ≠ 1 →
    Gives (.suspendCurrentCheck p avg) s (fun t =>
      (t.getUsb p).noncompliant = decide ((s.suspLimit p : Int) < s.toMa p avg) ∧ (t.getUsb p).suspCheck = false)) ∧
  (∀ (s : State) (p : Nat), portOk p = true → Quiet s → NoResult s → (s.getUsb p).state = .suspended → (s.getUsb p).resuming = true →
    Gives (.resumeSignallingDone p) s (fun t => (t.getUsb p).state = .enabled ∧ (t.getUsb p).resuming = false)) ∧
  (∀ (s : State) (p a : Nat), portOk p = true → Quiet s → s.dps.state = .run → (s.getUsb p).state = .suspended → (s.getUsb p).suspEntry = false →
    (s.getUsb p).resuming = false → Gives (.remoteWake p a) s (fun t => Sent.bus p 8 0 ∈ t.sent)) ∧
  (∀ (s : State) (p besl : Nat), portOk p = true → (s.getUsb p).state = .enabled → bitOf (s.cfg 0x4029 p) 0 = true → (s.getUsb p).devices.length = 1 →
    isSuper (speedCode (s.getUsb p).speed) = false → (s.getUsb p).linkpm = 0 → s.treeItems p = [] → s.promptOpen p = false →
    Gives (.l1IdleExpiry ⟨p, some besl⟩) s (fun t => (t.getUsb p).linkpm = 1 ∧ Sent.bus p 12 besl ∈ t.sent)) ∧
  (∀ (s : State) (p : Nat) (u2 : Bool), portOk p = true → (s.getUsb p).state = .enabled → bitOf (s.cfg 0x4029 p) (if u2 then 2 else 1) = true →
    s.cfg (if u2 then 0x402C else 0x402B) p ≠ 0 → isSuper (speedCode (s.getUsb p).speed) = true → (s.getUsb p).linkpm < 2 →
    s.promptOpen p = false →
    Gives (.u1U2InactivityTimeout p u2) s (fun t => (t.getUsb p).linkpm = if u2 then 2 else 1)) ∧
  (∀ (s : State) (p level : Nat), portOk p = true → (s.getUsb p).state = .enabled → 1 ≤ level → level ≤ 3 →
    bitOf (s.cfg 0x4029 p) (if level = 3 then 0 else level) = true →
    isSuper (speedCode (s.getUsb p).speed) = decide (level ≠ 3) → s.promptOpen p = false →
    Gives (.deviceInitiatedLinkEntry p level) s (fun t => (t.getUsb p).linkpm = if level = 3 then 1 else level))

/-- CC events take a port through attach, detach and discharge as R342 says. In Run with the fast domain of its sentry die on,
Rd on exactly one CC pin of a fitted, Unattached port is an AttachWait with its orientation; the debounce attaches the port or
withholds VBUS by budget and quarantine; Rd lost before that detaches it. With the sentry link up the detach debounce ends
contract and attach; at vSafe0V the port is Unattached. A VCONN overcurrent turns VCONN off. Discover Identity goes out while
discovery runs, and the first answer of a cable with VCONN is recorded. Cites R341 (13), R342 (13), R343 (13), R348 (13), R349
(13), R24 (01), R468 (18). -/
def Obligations.CcEvents : Prop :=
  (∀ (s : State) (p : Nat) (a b : CcPin), portOk p = true → s.dps.state = .run → s.fastDomain p = true → s.cfg 0x4010 p = 1 → (s.getPwr p).cc = .unattached →
    ((a = .rd ∧ b ≠ .rd) ∨ (b = .rd ∧ a ≠ .rd)) →
    Gives (.rdOnOneCc p a b) s (fun t => (t.getPwr p).cc = .attachWait ∧ (t.getPwr p).orient = decide (b = .rd) ∧
      (t.getPwr p).ra = (decide (a = .ra) || decide (b = .ra)))) ∧
  (∀ (s : State) (p : Nat), portOk p = true → (s.getPwr p).cc = .attachWait →
    Gives (.ccAttachDebounceExpiry p) s (fun t =>
      (t.getPwr p).cc = if (s.takeC p).mayAttach p = true then .attached else .withheld)) ∧
  (∀ (s : State) (p : Nat), portOk p = true → (s.getPwr p).cc = .attachWait →
    Gives (.rdLost p) s (fun t => (t.getPwr p).cc = .unattached ∧ (t.getPwr p).rd = false)) ∧
  (∀ (s : State) (p : Nat), portOk p = true → Quiet s → s.dps.state = .run → s.linkHeld p = false → ((s.getPwr p).cc = .attached ∨ (s.getPwr p).cc = .withheld) →
    Gives (.ccDetachDebounceExpiry p) s (fun t => (t.getPwr p).cc = .unattachedWait ∧ (t.getPwr p).kind = 0 ∧ (t.getPwr p).power = 0)) ∧
  (∀ (s : State) (p : Nat), portOk p = true → (s.getPwr p).cc = .unattachedWait → (s.getPwr p).rd = false →
    Gives (.unattachedDrainDone p) s (fun t => (t.getPwr p).cc = .unattached)) ∧
  (∀ (s : State) (p : Nat), portOk p = true → (s.getPwr p).vconn = true →
    Gives (.vconnFault p) s (fun t => (t.getPwr p).vconn = false ∧ (t.getPwr p).vconnFaulted = true ∧ Sent.pin 2 p false ∈ t.sent)) ∧
  (∀ (s : State) (p : Nat), portOk p = true → s.discovering p = true →
    Gives (.discoverIdentityInterval p) s (fun t => (t.getPwr p).discCount = (s.getPwr p).discCount + 1 ∧ Sent.pd p 1 8 [] ∈ t.sent)) ∧
  (∀ (s : State) (p : Nat) (id vdo : Word) (caps : CableCaps), portOk p = true → (s.getPwr p).vconn = true → (s.getPwr p).cable = none →
    Gives (.cableIdentityReceived p id vdo caps) s (fun t => (t.getPwr p).cable = some ⟨id, vdo, caps⟩))

/-- Source_Capabilities, Requests, EPR entry and PS_RDY form a contract as R351 to R354 say. With PD running, and for the
first three of these the gallery not frozen: Source_Capabilities are counted until a contract is explicit; a Request within an
offered object is accepted and gives the contract its voltage and current; one outside is rejected; EPR mode is entered with
an EPR cable, offers and an explicit contract, else refused. When the stage reaches the voltage PS_RDY is sent and the current
limit's hold runs on for tTRANS. BC 1.2 primary detection on a CDP with VBUS good is recorded. tRPADJ after a fall of Rp the
current limit follows. Cites R346 (13), R351 (13), R352 (13), R353 (13), R354 (13), R373 (14). -/
def Obligations.PdContracts : Prop :=
  (∀ (s : State) (p : Nat) (good : Bool), portOk p = true → s.pdOn p = true → (s.getPwr p).explicit = false → (s.getPwr p).capCount < 50 →
    s.discovering p = false → s.frozen (galOf p) = false →
    Gives (.sourceCapabilitiesInterval p good) s (fun t => (t.getPwr p).capCount = (s.getPwr p).capCount + 1 ∧
      (t.getPwr p).goodCrc = ((s.getPwr p).goodCrc || good))) ∧
  (∀ (s : State) (p : Nat) (q : PdReq) (o : Offer), portOk p = true → s.pdOn p = true → s.frozen (galOf p) = false →
    (s.getPwr p).offers.find? (fun o => decide (o.pos = q.pos)) = some o → o.takes (s.getPwr p).ic q.voltage q.current = true →
    Gives (.pdRequest p q) s (fun t => (t.getPwr p).explicit = true ∧ (t.getPwr p).voltage = q.voltage ∧
      (t.getPwr p).current = q.current ∧ Sent.pd p 0 3 [] ∈ t.sent)) ∧
  (∀ (s : State) (p : Nat) (q : PdReq) (o : Offer), portOk p = true → s.pdOn p = true → s.frozen (galOf p) = false →
    (s.getPwr p).offers.find? (fun o => decide (o.pos = q.pos)) = some o → o.takes (s.getPwr p).ic q.voltage q.current = false →
    Gives (.pdRequest p q) s (fun t => Sent.pd p 0 4 [] ∈ t.sent)) ∧
  (∀ (s : State) (p : Nat), portOk p = true → s.pdOn p = true → (s.getPwr p).cableEpr = true → s.eprRaw p ≠ [] → (s.getPwr p).explicit = true →
    Gives (.eprModeEnter p) s (fun t => (t.getPwr p).epr = true ∧ Sent.pd p 0 12 [] ∈ t.sent)) ∧
  (∀ (s : State) (p : Nat), portOk p = true → s.pdOn p = true → (s.getPwr p).cableEpr = false →
    Gives (.eprModeEnter p) s (fun t => Sent.pd p 0 13 [] ∈ t.sent)) ∧
  (∀ (s : State) (p : Nat) (v : Nat × Nat), portOk p = true → (s.getPwr p).transition = some v →
    Gives (.psRdy p) s (fun t => (t.getPwr p).transition = none ∧ Sent.pd p 0 6 [] ∈ t.sent ∧
      (t.getPwr p).ilimUntil = some (s.now + 285000000))) ∧
  (∀ (s : State) (p : Nat), portOk p = true → (s.getPwr p).cc = .attached → (s.getProt p).vbusGood = true → s.cfg 0x4016 p = 1 →
    Gives (.bc12PrimaryDetection p) s (fun t => (t.getPwr p).bcDone = true)) ∧
  (∀ (s : State) (p ma : Nat), portOk p = true → (s.getPwr p).rpNext = some ma →
    Gives (.rpCurrentAdjustExpiry p) s (fun t => (t.getPwr p).ilim = ma ∧ (t.getPwr p).rpNext = none))

/-- While PD runs every message of a sink that asks for an answer gets it. While PD runs on a port: Get_Source_Cap is answered
with the present offers where the gallery is not frozen, Get_Status with Status, Get_Revision with revision 3.1, a swap of
power role, data role, VCONN or fast role with Reject, a structured VDM with NAK, and an EPR keep-alive in EPR mode with its
acknowledgement. Cites R351 (13), R355 (13). -/
def Obligations.PdAnswers : Prop :=
  (∀ (s : State) (p : Nat), portOk p = true → s.pdOn p = true → s.frozen (galOf p) = false →
    Gives (.getSourceCap p) s (fun t => (t.getPwr p).capCount = (s.getPwr p).capCount ∧
      Sent.pd p 0 (if (s.getPwr p).epr then 2 else 1)
        ([1, s.cfg 0x4014 p, b2n (s.eprRaw p ≠ [])] ++ (s.offersOf p).flatMap Offer.args) ∈ t.sent)) ∧
  (∀ (s : State) (p : Nat), portOk p = true → s.pdOn p = true → Gives (.getStatus p) s (fun t => Sent.pd p 0 9 [] ∈ t.sent)) ∧
  (∀ (s : State) (p : Nat), portOk p = true → s.pdOn p = true → Gives (.getRevision p) s (fun t => Sent.pd p 0 10 [3, 1] ∈ t.sent)) ∧
  (∀ (s : State) (p : Nat), portOk p = true → s.pdOn p = true → Gives (.prSwap p) s (fun t => Sent.pd p 0 4 [1] ∈ t.sent)) ∧
  (∀ (s : State) (p : Nat), portOk p = true → s.pdOn p = true → Gives (.drSwap p) s (fun t => Sent.pd p 0 4 [2] ∈ t.sent)) ∧
  (∀ (s : State) (p : Nat), portOk p = true → s.pdOn p = true → Gives (.vconnSwap p) s (fun t => Sent.pd p 0 4 [3] ∈ t.sent)) ∧
  (∀ (s : State) (p : Nat), portOk p = true → s.pdOn p = true → Gives (.frSwap p) s (fun t => Sent.pd p 0 4 [4] ∈ t.sent)) ∧
  (∀ (s : State) (p : Nat), portOk p = true → s.pdOn p = true → Gives (.structuredVdm p) s (fun t => Sent.pd p 0 11 [] ∈ t.sent)) ∧
  (∀ (s : State) (p : Nat), portOk p = true → s.pdOn p = true → (s.getPwr p).epr = true →
    Gives (.eprKeepalive p) s (fun t => Sent.pd p 0 16 [] ∈ t.sent))

/-- A Hard Reset ends the contract and holds the port until its recovery attaches it again. On an attached port whose sentry
link is up a Hard Reset, received or sent, is counted, ends the contract and holds the port. The same follows where the
keep-alive of a PPS contract or of EPR mode runs out, and where no Request answers new offers that the contract lies outside
of. The recovery attaches a held port again. Cites R355 (13), R356 (13), R357 (13), R24 (01). -/
def Obligations.HardResets : Prop :=
  (∀ (s : State) (p : Nat) (b : Bool), portOk p = true → Quiet s → (s.getPwr p).cc = .attached → s.linkHeld p = false →
    Gives (.hardReset p b) s (fun t => (t.getPwr p).inHardReset = true ∧ (t.getPwr p).kind = 0 ∧
      (t.getPwr p).hardResets = satAdd (s.getPwr p).hardResets 1)) ∧
  (∀ (s : State) (p : Nat), portOk p = true → Quiet s → (s.getPwr p).cc = .attached → s.linkHeld p = false → (s.getPwr p).kind = 7 →
    Gives (.ppsKeepaliveTimeout p) s (fun t => (t.getPwr p).inHardReset = true ∧ (t.getPwr p).kind = 0 ∧
      Sent.pd p 0 7 [] ∈ t.sent)) ∧
  (∀ (s : State) (p : Nat), portOk p = true → Quiet s → (s.getPwr p).cc = .attached → s.linkHeld p = false → (s.getPwr p).epr = true →
    Gives (.eprKeepaliveTimeout p) s (fun t => (t.getPwr p).inHardReset = true ∧ (t.getPwr p).epr = false ∧
      Sent.pd p 0 7 [] ∈ t.sent)) ∧
  (∀ (s : State) (p : Nat), portOk p = true → Quiet s → (s.getPwr p).cc = .attached → s.linkHeld p = false → (s.getPwr p).mustReq = true →
    Gives (.renegotiationNoRequestExpiry p) s (fun t => (t.getPwr p).inHardReset = true ∧ (t.getPwr p).kind = 0 ∧
      Sent.pd p 0 7 [] ∈ t.sent)) ∧
  (∀ (s : State) (p : Nat), portOk p = true → (s.getPwr p).cc = .attached → (s.getPwr p).inHardReset = true →
    Gives (.hardResetRecoveryExpiry p) s (fun t => (t.getPwr p).inHardReset = false ∧ (t.getPwr p).cc = .attached))

/-- Stage polls, a held PMBus line, power sums and raise slots have the effects of R359 to R364. A poll reads STATUS_WORD of
the port's stage, and a bad status turns the operation of a live stage off; an SMBALERT does the same. A warning clear for 10
s is over. A PMBus line held low, with a reaction slot free, freezes the gallery until the segment answers. A gallery's power
is the sum of its ports. A raise slot takes the first queued port with a contract out of the raise queue. Cites R359 (13),
R360 (13), R362 (13), R364 (13), R413 (16). -/
def Obligations.StagesAndGalleries : Prop :=
  (∀ (s : State) (p : Nat) (x : StageStatus), portOk p = true → (s.getProt p).sw = .on → stageBad x = true →
    Gives (.statusWordPoll p x) s (fun t =>
      Sent.pmbus (galOf p) (s.cfg 0x3013 (galOf p) + (p - 1) % 8) 0x79 0 ∈ t.sent ∧
      Sent.pmbus (galOf p) (s.cfg 0x3013 (galOf p) + (p - 1) % 8) 0x01 0 ∈ t.sent)) ∧
  (∀ (s : State) (p : Nat) (x : StageStatus), portOk p = true → (s.getProt p).sw = .ramping → stageBad x = true →
    Gives (.smbalert p x) s (fun t =>
      Sent.pmbus (galOf p) (s.cfg 0x3013 (galOf p) + (p - 1) % 8) 0x79 1 ∈ t.sent ∧
      Sent.pmbus (galOf p) (s.cfg 0x3013 (galOf p) + (p - 1) % 8) 0x01 0 ∈ t.sent)) ∧
  (∀ (s : State) (p : Nat), portOk p = true → Gives (.stageWarningClearExpiry p) s (fun t => (t.getPwr p).warn = false)) ∧
  (∀ (s : State) (g : Nat), galOk g = true → Quiet s → s.flt.freeSlot.isSome = true →
    Gives (.pmbusBusHeldLow g) s (fun t => (t.getGals g).frozenBus = true)) ∧
  (∀ (s : State) (g : Nat), galOk g = true → Gives (.pmbusSegmentRecovered g) s (fun t => (t.getGals g).frozenBus = false)) ∧
  (∀ (s : State) (g : Nat), galOk g = true →
    Gives (.galleryPowerSum g) s (fun t => (t.getGals g).measured = sumOf ((portsOfGal g).map s.portMw))) ∧
  (∀ (s : State) (g p : Nat), galOk g = true → s.frozen g = false → galOf p = g →
    (s.getGals g).raiseQ.find? (fun p => decide ((s.getPwr p).kind ≠ 0)) = some p →
    Gives (.raiseSlot g) s (fun t => (t.getGals g).raiseQ.contains p = false))

/-- The service port attaches as a sink or a source and asks for current as R366 says. The fast domain of sentry die A takes
the service port out of dead battery and back, but the Custodian keeps it on while its link is lost and that fault is held. Rp
attaches it as a sink with data; Rd attaches it as a source, drives SVC_SRC_EN and sends DR_Swap. tDRP toggles the role sought
where enabled. Loss of VBUS or of Rd detaches it. The partner's 5 V offer is requested at the lower of the offer and the
limit. An answer to DR_Swap decides whether data is on. Cites R366 (13), R463 (18), R25 (01). -/
def Obligations.ServicePortStates : Prop :=
  (∀ (s : State), s.svc.state = .deadBattery → Gives .servicePortFastDomainOn s (fun t => t.svc.state = .unattachedSnk ∧ t.dps.fastA = true)) ∧
  (∀ (s : State), s.svc.state ≠ .deadBattery → s.keepsFast = false →
    Gives .servicePortFastDomainOff s (fun t => t.svc.state = .deadBattery ∧ t.svc.data = false ∧ t.dps.fastA = false)) ∧
  (∀ (s : State), (s.dieLink 7).lost = true → s.flt.holds 0x04 0 = true →
    Gives .servicePortFastDomainOff s (fun t => t.dps.fastA = s.dps.fastA)) ∧
  (∀ (s : State), s.svc.state = .unattachedSnk → Gives .servicePortRpSeen s (fun t => t.svc.state = .attachedSnk ∧ t.svc.data = true)) ∧
  (∀ (s : State), s.svc.state = .unattachedSrc → s.svc.srcEn = false →
    Gives .servicePortRdSeen s (fun t => t.svc.state = .attachedSrc ∧ t.svc.srcEn = true ∧ Sent.pin 4 0 true ∈ t.sent ∧
      Sent.pd 0 0 15 [] ∈ t.sent)) ∧
  (∀ (s : State), s.svc.state = .unattachedSnk → s.cfg 0x2042 2 = 1 →
    Gives .servicePortRoleToggle s (fun t => t.svc.state = .unattachedSrc)) ∧
  (∀ (s : State), s.svc.state = .unattachedSrc → Gives .servicePortRoleToggle s (fun t => t.svc.state = .unattachedSnk)) ∧
  (∀ (s : State), s.svc.state = .attachedSnk →
    Gives .servicePortVbusLoss s (fun t => t.svc.state = .unattachedSnk ∧ t.svc.data = false)) ∧
  (∀ (s : State), s.svc.state = .attachedSrc →
    Gives .servicePortRdLost s (fun t => t.svc.state = .unattachedSnk ∧ t.svc.srcEn = false ∧ t.svc.data = false)) ∧
  (∀ (s : State) (ma : Nat), s.svc.state = .attachedSnk →
    Gives (.servicePortSourceCapabilities ma) s (fun t => t.svc.request = min ma (s.cfg 0x2042 1) ∧
      Sent.pd 0 0 14 [1, min ma (s.cfg 0x2042 1)] ∈ t.sent)) ∧
  (∀ (s : State) (b : Bool), s.svc.state = .attachedSrc → s.svc.drSent = true →
    Gives (.servicePortDrSwapAnswer b) s (fun t => t.svc.data = b ∧ t.svc.drSent = false))

/-- A power-up goes from offset through precharge and ramp to On as R378 and R384 say. An offset measurement shorts the
inputs; its end folds an offset within 400 units into the mean and ends the short. Precharge without an off request leads to
the ramp; a safe point with one drains. VBUS settled without an off request is switch On with VBUS good. Cites R371 (14), R378
(14), R384 (14), R490 (14). -/
def Obligations.SwitchPowerUp : Prop :=
  (∀ (s : State) (p : Nat), portOk p = true → Gives (.offsetMeasurement p) s (fun t => (t.getProt p).measuring = true)) ∧
  (∀ (s : State) (p : Nat) (off : Int), portOk p = true → -400 ≤ off → off ≤ 400 →
    Gives (.offsetMeasurementEnd p off) s (fun t => (t.getProt p).offsets = (off :: (s.getProt p).offsets).take 16 ∧
      (t.getProt p).measuring = false)) ∧
  (∀ (s : State) (p : Nat), portOk p = true → (s.getProt p).sw = .ramping → (s.getProt p).rampPhase = .precharge → (s.getProt p).offPend = false →
    Gives (.prechargeDone p) s (fun t => (t.getProt p).rampPhase = .ramp ∧ (t.getProt p).sw = .ramping)) ∧
  (∀ (s : State) (p : Nat), portOk p = true → (s.getProt p).sw = .ramping → (s.getProt p).offPend = true →
    Gives (.rampSafePoint p) s (fun t => (t.getProt p).sw = .draining ∧ (t.getProt p).vbusAllowed = false)) ∧
  (∀ (s : State) (p : Nat), portOk p = true → Quiet s → (s.getProt p).sw = .ramping → (s.getProt p).offPend = false →
    Gives (.vbusSettleExpiry p) s (fun t => (t.getProt p).sw = .on ∧ (t.getProt p).vbusGood = true ∧ (t.getProt p).gate = true))

/-- Samples, trips, drains and retries act on a port's switch as R370 to R384 say. A sample gives the port its voltage. A fast
trip with the gate on, and a ramp that is late, drain the port with their causes and count a trip. A drain that ends outside a
trip sequence without an on request is Off; one that does not end locks the switch off, a reaction slot being free. The off
time ends in a retry while the sink is there, the sentry link is up and the stage is good. A retry that lasts clears the
count. Cites R370 (14), R376 (14), R377 (14), R381 (14), R382 (14), R383 (14), R384 (14). -/
def Obligations.SwitchTrips : Prop :=
  (∀ (s : State) (p : Nat) (i : Int) (v : Nat), portOk p = true → Quiet s → Gives (.currentSample p i v) s (fun t => (t.getProt p).vSample = v % 16384)) ∧
  (∀ (s : State) (p : Nat), portOk p = true → Quiet s → (s.getProt p).sw = .on → (s.getProt p).gate = true →
    Gives (.fastTrip p) s (fun t => (t.getProt p).sw = .draining ∧ (t.getProt p).cause = 2 ∧
      (t.getProt p).trips = (s.getProt p).trips + 1 ∧ (t.getProt p).gate = false)) ∧
  (∀ (s : State) (p : Nat), portOk p = true → Quiet s → (s.getProt p).sw = .ramping → (s.getProt p).rampPhase = .ramp →
    Gives (.rampTimeout p) s (fun t => (t.getProt p).sw = .draining ∧ (t.getProt p).cause = 3 ∧
      (t.getProt p).trips = (s.getProt p).trips + 1)) ∧
  (∀ (s : State) (p : Nat), portOk p = true → Quiet s → (s.getProt p).sw = .draining → (s.getProt p).tripSeq = false → (s.getProt p).onPend = false →
    Gives (.vbusDrained p) s (fun t => (t.getProt p).sw = .off ∧ (t.getProt p).trips = 0)) ∧
  (∀ (s : State) (p : Nat), portOk p = true → Quiet s → (s.getProt p).sw = .draining → s.flt.freeSlot.isSome = true →
    Gives (.drainTimeout p) s (fun t => (t.getProt p).sw = .locked ∧ (t.getProt p).vbusAllowed = false)) ∧
  (∀ (s : State) (p : Nat) (x : StageStatus), portOk p = true → Quiet s → (s.getProt p).sw = .cooling → s.sinkHere p = true → s.linkHeld p = false → stageBad x = false →
    Gives (.retryOffTimeExpiry p x) s (fun t => (t.getProt p).sw = .ramping ∧ (t.getProt p).retrying = true)) ∧
  (∀ (s : State) (p : Nat), portOk p = true → (s.getProt p).sw = .on → (s.getProt p).tripSeq = true →
    Gives (.retryClearExpiry p) s (fun t => (t.getProt p).trips = 0 ∧ (t.getProt p).tripSeq = false ∧ (t.getProt p).sw = .on))

/-- Training, probation, faults and the enabled links take an upstream link through the states of R114. Training that is done
takes a link to Probation, unless the two ends negotiated no common ability, which leaves it in Training. Training that fails
is counted, a probation without a fault makes the link a Member, and a fault in Probation or Member takes it back to Training.
When the hold time passes with no link in Member, every Held session enters Ending. A write of 0x2200:04 over a path that may
make it is answered, the object reads the value, and every link left out of it is Off. Cites R112 (04), R114 (04), R117 (04),
R136 (04), R137 (04). -/
def Obligations.UpstreamLinkStates : Prop :=
  (∀ (s : State) (m : Nat) (b : Bool), linkOk m = true → (s.link m).state = .training → s.negotiates = false ∨ b = true →
    Gives (.upstreamTrainingDone ⟨m, b⟩) s (fun t => (t.link m).state = .probation)) ∧
  (∀ (s : State) (m : Nat), linkOk m = true → (s.link m).state = .training → s.negotiates = true →
    Gives (.upstreamTrainingDone ⟨m, false⟩) s (fun t => (t.link m).state = .training)) ∧
  (∀ (s : State) (m : Nat), linkOk m = true → (s.link m).state = .training →
    Gives (.upstreamTrainingFail m) s (fun t => (t.link m).state = .training ∧ t.upl.trainFails = satAdd s.upl.trainFails 1)) ∧
  (∀ (s : State) (m : Nat), linkOk m = true → (s.link m).state = .probation →
    Gives (.probationExpiry m) s (fun t => (t.link m).state = .member)) ∧
  (∀ (s : State) (m : Nat), linkOk m = true → ((s.link m).state = .probation ∨ (s.link m).state = .member) →
    Gives (.upstreamLinkFault m) s (fun t => (t.link m).state = .training)) ∧
  (∀ (s : State) (n : Nat), Quiet s → s.members = [] → (s.getSess n).state = .held →
    Gives .allDownHoldExpiry s (fun t => (t.getSess n).state = .ending)) ∧
  (∀ (s : State) (v : Nat) (path : Path), Quiet s → MayWrite s path 0x2200 4 → 1 ≤ v → v ≤ 255 →
    Gives (.upstreamLinksEnabledWrite v path) s (fun t => Sent.answer path 0x2200 4 0 ∈ t.sent ∧ t.cfg 0x2200 4 = v ∧
      (∀ m ∈ [1, 2, 3, 4, 5, 6, 7, 8], bitOf v (m - 1) = false → (t.link m).state = .off)))

/-- Frames sent and received move the counters of a session as R122 to R131 say. A DATA frame of an Open session with records
queued, not stalled, at its turn and with a link to send it, takes the next SEQ and the next TXC. An accepted DATA frame in
order, without records and SACK blocks, advances the SEQ expected; one with one record takes the accession index of the
record. An accepted ACK frame moves the TXC accepted last; a PROBE without an acknowledgement is answered by an ACK, and so is
data left unacknowledged for tACKDLY. A frame shown overtaken is sent again, and at the retransmission timeout below its limit
the count of timeouts rises and the timeout doubles. Cites R119 (04), R122 (04), R124 (04), R126 (04), R127 (04), R129 (04),
R130 (04), R131 (04), R231 (07), R152 (05), R156 (05). -/
def Obligations.FramesOfSessions : Prop :=
  (∀ (s : State) (n : Nat) (u : State), n < 1024 → Quiet s → (s.getSess n).state = .opened → (s.getSess n).wants = true → (s.getSess n).wraps = false →
    u = s.restall n → (u.getSess n).stalled = false → u.myTurn n = true → u.sprayLink ≠ none →
    Gives (.isaixFrameSend n) s (fun t => (t.getSess n).txNext = ((s.getSess n).txNext + 1) % 16777216 ∧
      (t.getSess n).txc = (s.getSess n).txc + 1)) ∧
  (∀ (s : State) (f : Frame), Quiet s → s.arrives f.via = true → s.frameOk f 1 [.opened] = true → f.seq = (s.getSess f.sess).rxNext →
    (s.getSess f.sess).rxBuf = [] → f.sacks = [] → f.payload = [] →
    Gives (.isaixDataFrame f) s (fun t => (t.getSess f.sess).rxNext = ((s.getSess f.sess).rxNext + 1) % 16777216 ∧
      (t.getSess f.sess).rxTxc = some f.txc)) ∧
  (∀ (s : State) (f : Frame), Quiet s → s.arrives f.via = true → s.frameOk f 1 [.opened] = true → f.seq = (s.getSess f.sess).rxNext →
    (s.getSess f.sess).rxBuf = [] → f.sacks = [] → 1 ≤ (s.getSess f.sess).bufKib → f.payload.length = 16 →
    beNat (slice f.payload 0 1) = 0x7F → beNat (slice f.payload 2 2) = 0 →
    beNat (slice f.payload 4 6) / 4294967296 = (s.getSess f.sess).block →
    beNat (slice f.payload 4 6) % 4294967296 = (s.getSess f.sess).expect →
    Gives (.isaixDataFrame f) s (fun t => (t.getSess f.sess).expect = (s.getSess f.sess).expect + 1)) ∧
  (∀ (s : State) (f : Frame), Quiet s → s.arrives f.via = true → s.frameOk f 2 [.opened] = true → f.payload = [] →
    Gives (.isaixAckFrame f) s (fun t => (t.getSess f.sess).rxTxc = some f.txc)) ∧
  (∀ (s : State) (f : Frame), Quiet s → s.arrives f.via = true → s.frameOk f 3 [.opened] = true → f.payload = [] → f.ackValid = false →
    (s.getSess f.sess).wraps = false →
    Gives (.isaixProbeFrame f) s (fun t => (t.getSess f.sess).rxTxc = some f.txc ∧ (t.getSess f.sess).unacked = 0 ∧
      (t.getSess f.sess).txc = (s.getSess f.sess).txc + 1)) ∧
  (∀ (s : State) (n : Nat), n < 1024 → Quiet s → (s.getSess n).state = .opened → (s.getSess n).unacked ≠ 0 → (s.getSess n).wraps = false →
    Gives (.ackDelayExpiry n) s (fun t => (t.getSess n).unacked = 0 ∧ (t.getSess n).txc = (s.getSess n).txc + 1)) ∧
  (∀ (s : State) (n q : Nat), n < 1024 → Quiet s → (s.getSess n).state = .opened → laterSacked (s.getSess n).peerSacks q = true →
    (s.getSess n).replay.any (fun e => decide (e.seq = q)) = true → (s.getSess n).wraps = false →
    Gives (.reorderAllowanceExpiry n q) s (fun t => (t.getSess n).retx = satAdd (s.getSess n).retx 1)) ∧
  (∀ (s : State) (n : Nat), n < 1024 → Quiet s → (s.getSess n).state = .opened → (s.getSess n).replay ≠ [] →
    (s.getSess n).rtoCount + 1 < s.cfg 0x2203 4 →
    Gives (.retransmissionTimeout n) s (fun t => (t.getSess n).rtoCount = (s.getSess n).rtoCount + 1 ∧
      (t.getSess n).rto = min 100000 (2 * max (s.getSess n).rto (s.cfg 0x2203 3))))

/-- A session opens, closes and ends as R143 to R147 say. An OPEN that passes its checks, judged by the settings it brings
into effect, takes the lowest free session number for its principal and its next block; the CONFIRM opens it; the open timeout
closes it. In order, with nothing acknowledged: CLOSE with drain leaves a session with open items Draining; CLOSE with abort
and a RESET that names the session make it Ending. A RESET under the transport key closes a session in Opening that it names.
An Ending session without items is Closed. Cites R139 (05), R142 (05), R143 (05), R144 (05), R145 (05), R147 (05), R14 (00),
R119 (04), R122 (04). -/
def Obligations.SessionLife : Prop :=
  (∀ (s : State) (f : OpenFrame) (n : Nat) (u : State), Quiet s → s.arrives f.via = true → s.dbg.lock ≠ 1 → s.openOk f = true →
    f.payload.length = 32 → f.payload.take 1 = [1] →
    u = (s.modTenants f.tenant (fun x => { x with openTxc := some f.txc })).applyS f.tenant →
    u.openStatus f.tenant (beNat (slice f.payload 1 1)) (beNat (slice f.payload 20 4)) = 0 → u.freeSess = some n →
    Gives (.openSession f) s (fun t => (t.getSess n).state = .opening ∧ (t.getSess n).tenant = f.tenant ∧
      (t.getSess n).block = (s.getTenants f.tenant).nextBlock)) ∧
  (∀ (s : State) (f : Frame), Quiet s → s.arrives f.via = true → s.frameOk f 4 [.opening] = true → f.seq = 0 → f.payload.take 1 = [3] →
    (s.getSess f.sess).replay = [] →
    Gives (.confirm f) s (fun t => (t.getSess f.sess).state = .opened ∧ (t.getSess f.sess).rxNext = 1)) ∧
  (∀ (s : State) (n : Nat), n < 1024 → (s.getSess n).state = .opening →
    Gives (.openTimeout n) s (fun t => (t.getSess n).state = .closed)) ∧
  (∀ (s : State) (f : Frame), Quiet s → s.arrives f.via = true → s.frameOk f 4 [.opened] = true → f.seq = (s.getSess f.sess).rxNext →
    (s.getSess f.sess).rxBuf = [] → f.ackValid = false → f.payload.take 2 = [4, 0] → f.payload.length = 8 →
    1 ≤ (s.getSess f.sess).bufKib → (s.getSess f.sess).wraps = false → s.sessItems f.sess ≠ [] →
    Gives (.closeDrain f) s (fun t => (t.getSess f.sess).state = .draining)) ∧
  (∀ (s : State) (f : Frame), Quiet s → s.arrives f.via = true → s.frameOk f 4 [.opened, .draining] = true →
    f.seq = (s.getSess f.sess).rxNext → (s.getSess f.sess).rxBuf = [] → f.ackValid = false → f.payload.take 2 = [4, 1] →
    f.payload.length = 8 → 1 ≤ (s.getSess f.sess).bufKib →
    Gives (.closeAbort f) s (fun t => (t.getSess f.sess).state = .ending ∧ (t.getSess f.sess).txQueue = [])) ∧
  (∀ (s : State) (f : Frame), Quiet s → s.arrives f.via = true → s.frameOk f 4 [.opened, .draining] = true →
    f.seq = (s.getSess f.sess).rxNext → (s.getSess f.sess).rxBuf = [] → f.ackValid = false → f.payload.take 1 = [5] →
    f.payload.length = 8 → beNat (slice f.payload 2 2) = f.sess → 1 ≤ (s.getSess f.sess).bufKib →
    Gives (.sessionReset .session f) s (fun t => (t.getSess f.sess).state = .ending)) ∧
  (∀ (s : State) (f : Frame) (n : Nat), Quiet s → s.arrives f.via = true → s.openOk (openPart f) = true → f.payload.length = 8 →
    f.payload.take 1 = [5] → beNat (slice f.payload 2 2) = n → n ≠ 0xFFFF → (s.getSess n).tenant = f.tenant → (s.getSess n).state = .opening →
    Gives (.sessionReset .transport f) s (fun t => (t.getSess n).state = .closed)) ∧
  (∀ (s : State) (n : Nat), n < 1024 → Quiet s → (s.getSess n).state = .ending → s.sessItems n = [] →
    Gives (.sessionEndingComplete n) s (fun t => (t.getSess n).state = .closed))

/-- PTP time, the path delay and PPS follow R133, R135 and R256 to R258. A Sync on the PTP link and in the domain leaves its
offset, saturated, in the offset register, and is answered by a Delay_Req. A response to a Delay_Req that has been sent gives
the path delay. The sync timeout while PTP time is held, or while a first Sync has set hub time, takes the hub to holdover
with PPS_OUT low. While PTP time is held PPS_OUT rises at the second, and it falls after its width. An enabled edge on PPS_IN,
at least 0.5 s after the last one, is stamped with hub time. Cites R133 (04), R134 (04), R135 (04), R256 (09), R258 (09), R481
(19). -/
def Obligations.PtpAndPps : Prop :=
  (∀ (s : State) (v : PtpVia) (off : Int), s.ptpOk v 319 = true →
    Gives (.ptpSync ⟨v, off⟩) s (fun t => t.ptp.offset = satInt32 off ∧ Sent.ptp v.link v.domain 319 ∈ t.sent)) ∧
  (∀ (s : State) (v : PtpVia) (d : Nat), s.ptpOk v 320 = true → s.ptp.asked = true →
    Gives (.ptpDelayResponse ⟨v, d⟩) s (fun t => t.ptp.pathDelay = some d)) ∧
  (∀ (s : State), s.ptp.state = 1 ∨ (s.ptp.state = 0 ∧ s.ptp.first = false) →
    Gives .syncTimeout s (fun t => t.ptp.state = 2 ∧ t.ptp.ppsOut = false)) ∧
  (∀ (s : State), s.ptp.state = 1 → Gives .ppsOutSecond s (fun t => t.ptp.ppsOut = true ∧ Sent.pin 1 0 true ∈ t.sent)) ∧
  (∀ (s : State), s.ptp.ppsOut = true → Gives .ppsOutWidthEnd s (fun t => t.ptp.ppsOut = false ∧ Sent.pin 1 0 false ∈ t.sent)) ∧
  (∀ (s : State) (since : Nat), s.cfg 0x2204 4 = 1 → 500000000 ≤ since →
    Gives (.ppsInEdge since) s (fun t => t.ptp.ppsStamp = s.clk.hubTime))

/-- The loan actions, a lease's end and the last item's end take a loan through the states of R90. With the path allowed to
write 0x6007:t and nothing waiting: a grant of an idle loan whose terms pass every check makes the proposed ports, power,
periodic reservation, Vault allotment and bulk share effective, advances the generation, gives the loan its ports and makes it
Active; a change of an Active loan makes the same five terms effective and leaves it Active with its ports; an end makes an
Active or Paused loan Recalling; with no result of a split waiting, a resume makes a Paused loan whose faults are handled
Active. Each is recorded as 0 and answered 0. A lease's end recalls an Active or Paused loan and sets LEASE_EXPIRED. With no
item left, a Recalling loan is Idle without ports and terms, and no port is on loan to the tenant. Cites R83 (03), R85 (03),
R87 (03), R90 (03), R95 (03), R99 (03), R412 (16). -/
def Obligations.LoanActions : Prop :=
  (∀ (s : State) (n : Nat) (path : Path), tenantOk n = true → Quiet s → MayWrite s path 0x6007 n → (s.getTenants n).loan = .idle → s.termsCheck n false = 0 →
    Gives (.loanGrant n path) s (fun t => (t.getTenants n).loan = .active ∧
      (t.getTenants n).ports = BitVec.ofNat 96 (s.cfg 0x6001 n) ∧ (t.getTenants n).power = s.cfg 0x6002 n ∧
      (t.getTenants n).periodic = s.cfg 0x6003 n ∧ (t.getTenants n).vaultMib = s.cfg 0x6004 n ∧
      (t.getTenants n).share = s.cfg 0x6005 n ∧
      (t.getTenants n).generation = (s.getTenants n).generation + 1 ∧ (t.getTenants n).lastResult = 0 ∧
      (∀ p ∈ s.proposed n, (t.getUsb p).loanOwner = n) ∧ Sent.answer path 0x6007 n 0 ∈ t.sent)) ∧
  (∀ (s : State) (n : Nat) (path : Path), tenantOk n = true → Quiet s → MayWrite s path 0x6007 n → (s.getTenants n).loan = .active → s.termsCheck n true = 0 →
    Gives (.loanChange n path) s (fun t => (t.getTenants n).loan = .active ∧
      (t.getTenants n).ports = BitVec.ofNat 96 (s.cfg 0x6001 n) ∧ (t.getTenants n).power = s.cfg 0x6002 n ∧
      (t.getTenants n).periodic = s.cfg 0x6003 n ∧ (t.getTenants n).vaultMib = s.cfg 0x6004 n ∧
      (t.getTenants n).share = s.cfg 0x6005 n ∧ (t.getTenants n).lastResult = 0 ∧
      (∀ p ∈ s.proposed n, (t.getUsb p).loanOwner = n) ∧ Sent.answer path 0x6007 n 0 ∈ t.sent)) ∧
  (∀ (s : State) (n : Nat) (path : Path), tenantOk n = true → Quiet s → MayWrite s path 0x6007 n →
    ((s.getTenants n).loan = .active ∨ (s.getTenants n).loan = .paused) →
    Gives (.loanEnd n path) s (fun t => (t.getTenants n).loan = .recalling ∧ (t.getTenants n).lastResult = 0 ∧
      Sent.answer path 0x6007 n 0 ∈ t.sent)) ∧
  (∀ (s : State) (n : Nat) (path : Path), tenantOk n = true → Quiet s → NoResult s → MayWrite s path 0x6007 n → (s.getTenants n).loan = .paused →
    s.faultsHandled n = true →
    Gives (.loanResume n path) s (fun t => (t.getTenants n).loan = .active ∧ (t.getTenants n).pausedBy = [] ∧
      (t.getTenants n).lastResult = 0 ∧ Sent.answer path 0x6007 n 0 ∈ t.sent)) ∧
  (∀ (s : State) (n : Nat), tenantOk n = true → Quiet s → ((s.getTenants n).loan = .active ∨ (s.getTenants n).loan = .paused) →
    Gives (.leaseExpiry n) s (fun t => (t.getTenants n).loan = .recalling ∧ t.coll.leaseExp = true)) ∧
  (∀ (s : State) (n : Nat), tenantOk n = true → Quiet s → (s.getTenants n).loan = .recalling → s.tenantItems n = [] →
    Gives (.lastItemEnded n) s (fun t => (t.getTenants n).loan = .idle ∧ (t.getTenants n).ports = 0 ∧ (t.getTenants n).power = 0 ∧
      (t.getTenants n).periodic = 0 ∧ (t.getTenants n).vaultMib = 0 ∧ (t.getTenants n).share = 0 ∧
      (∀ p ∈ allPorts, (t.getUsb p).loanOwner ≠ n)))

/-- Heartbeats, proposals and accepts move quorum and the epoch as R97 to R102 say. A heartbeat goes to every other voter. One
received from another voter with a good tag under the Collection key and a higher SEQUENCE is heard, with its SEQUENCE, epoch
and whether it names this member; any other heartbeat is discarded and counted. A voter that leaves the window is no longer
counted, and with the majority quorum is lost. With quorum, an advance request proposes the next epoch to every other voter,
and a proposal of it not accepted before is answered by an accept to every other voter; an accept of a further voter advances
the epoch where it completes a majority, and not else; no majority in time sets EPOCH_FAILED. A progress message is kept as
its sender's job view. Cites R97 (03), R98 (03), R100 (03), R102 (03), R299 (10). -/
def Obligations.CollectionMessages : Prop :=
  (∀ (s : State), Gives .nerqueluHeartbeatSend s (fun t => ∀ m ∈ s.voterList, toldTo t m 1 (s.digest ++ natBE 4 s.quorumSet) = true)) ∧
  (∀ (s : State) (hdr : NqHeader) (d : Bytes) (q : Word), s.nqOk hdr = true →
    Gives (.heartbeatReceived hdr d q) s (fun t => (t.voter hdr.sender).heard = true ∧ (t.voter hdr.sender).seq = some hdr.seq ∧
      (t.voter hdr.sender).epoch = hdr.epoch ∧ (t.voter hdr.sender).names = bitOf q.toNat (s.member - 1))) ∧
  (∀ (s : State) (hdr : NqHeader) (d : Bytes) (q : Word), s.nqOk hdr = false →
    Gives (.heartbeatReceived hdr d q) s (fun t => t.coll = { s.coll with discarded := satAdd s.coll.discarded 1 })) ∧
  (∀ (s : State) (m : Nat), (s.voter m).heard = true →
    Gives (.quorumWindowExpiry m) s (fun t => (t.voter m).heard = false ∧ (t.voter m).names = false)) ∧
  (∀ (s : State) (m : Nat), (s.voter m).heard = true → s.coll.quorum = true →
    (s.setVoter m { s.voter m with heard := false, names := false }).majority = false →
    Gives (.quorumWindowExpiry m) s (fun t => t.coll.quorum = false ∧ t.coll.quorumLost = true ∧ t.coll.tQ = s.now)) ∧
  (∀ (s : State) (path : Path), MayWrite s path 0x7005 0 → s.coll.quorum = true →
    Gives (.epochAdvanceRequest path) s (fun t => Sent.answer path 0x7005 0 0 ∈ t.sent ∧
      (∀ m ∈ s.voterList, toldTo t m 2 (natBE 4 (s.coll.epoch + 1).toNat) = true))) ∧
  (∀ (s : State) (hdr : NqHeader), s.nqOk hdr = true → s.coll.quorum = true → s.coll.acceptedFor ≠ some (s.coll.epoch + 1) →
    Gives (.epochPropose hdr (s.coll.epoch + 1)) s (fun t =>
      ∀ m ∈ s.voterList, toldTo t m 3 (natBE 4 (s.coll.epoch + 1).toNat) = true)) ∧
  (∀ (s : State) (hdr : NqHeader), s.nqOk hdr = true → s.coll.quorum = true → s.coll.accepts.contains hdr.sender = false →
    Gives (.epochAccept hdr (s.coll.epoch + 1)) s (fun t =>
      t.coll.epoch = if s.voterCount < 2 * (s.coll.accepts.length + 1) then s.coll.epoch + 1 else s.coll.epoch)) ∧
  (∀ (s : State), s.coll.proposing = true →
    Gives .epochAdvanceTimeout s (fun t => t.coll.proposing = false ∧ t.coll.epochFailed = true)) ∧
  (∀ (s : State) (hdr : NqHeader) (b : Bytes), s.nqOk hdr = true → s.coll.jobViews = [] →
    Gives (.fanoutProgress hdr b) s (fun t => SMap.get [] t.coll.jobViews hdr.sender = b))

/-- The lock server grants, releases and breaks locks as R103 to R106 say. At the lock server, with quorum and no acquire of
the lock still being recorded: an acquire of a lock that is not Held makes the session its owner at the present epoch, with
AFTER_BREAK set where the lock was Broken; where no other voter is needed it is answered 0 at once, else the record goes to
every other voter and the request waits. Its owner's release frees it and an operator's break breaks it, each answered with 0.
An acquire of another member is recorded and told likewise, and a release of its owner is answered to that member. A record
gives this voter its copy of the lock and is acknowledged; an acknowledgement that completes the majority answers the acquire
of a path that waited, and an answer of the server the request that waited. An owner lost for the time of R104 leaves its
locks Broken. Cites R103 (03), R104 (03), R106 (03), R107 (03), R97 (03). -/
def Obligations.Locks : Prop :=
  (∀ (s : State) (n : Nat) (path : Path), n < 256 → s.reach path (0x6400 + n) 3 true = some 0 → s.coll.quorum = true → s.lockServer = s.member →
    (s.lock n).state ≠ .held → s.voterCount ≤ 1 → s.coll.grants.all (fun g => decide (g.lock ≠ n)) = true →
    Gives (.lockAcquire n path) s (fun t =>
      t.lock n = ⟨.held, decide ((s.lock n).state = .broken), s.member, pathSess path, s.coll.epoch⟩ ∧
      Sent.answer path (0x6400 + n) 3 0 ∈ t.sent)) ∧
  (∀ (s : State) (n : Nat) (path : Path), n < 256 → s.reach path (0x6400 + n) 3 true = some 0 → s.coll.quorum = true → s.lockServer = s.member →
    (s.lock n).state ≠ .held → 1 < s.voterCount → s.coll.grants.all (fun g => decide (g.lock ≠ n)) = true →
    Gives (.lockAcquire n path) s (fun t =>
      t.lock n = ⟨.held, decide ((s.lock n).state = .broken), s.member, pathSess path, s.coll.epoch⟩ ∧
      (∀ v ∈ s.voterList, toldTo t v 5 (natBE 1 0 ++ t.lockBody n) = true) ∧ ⟨n, 1, path, none⟩ ∈ t.coll.lockReqs)) ∧
  (∀ (s : State) (n : Nat) (path : Path), n < 256 → s.reach path (0x6400 + n) 3 true = some 0 → s.coll.quorum = true → s.lockServer = s.member →
    (s.lock n).state = .held → (s.lock n).member = s.member → (s.lock n).sess = pathSess path →
    s.coll.grants.all (fun g => decide (g.lock ≠ n)) = true →
    Gives (.lockRelease n path) s (fun t => (t.lock n).state = .free ∧ (t.lock n).afterBreak = false ∧
      Sent.answer path (0x6400 + n) 3 0 ∈ t.sent)) ∧
  (∀ (s : State) (n : Nat) (path : Path), n < 256 → s.reach path (0x6400 + n) 3 true = some 0 → s.coll.quorum = true → s.lockServer = s.member →
    s.principalOf path = 0 → s.coll.grants.all (fun g => decide (g.lock ≠ n)) = true →
    Gives (.lockBreak n path) s (fun t => (t.lock n).state = .broken ∧ Sent.answer path (0x6400 + n) 3 0 ∈ t.sent)) ∧
  (∀ (s : State) (hdr : NqHeader) (m : LockMsg), s.nqOk hdr = true → s.coll.quorum = true → s.lockServer = s.member → m.op = 1 →
    (s.lock m.lock).state ≠ .held → s.coll.grants.all (fun g => decide (g.lock ≠ m.lock)) = true →
    Gives (.lockRequestMessage hdr m) s (fun t =>
      t.lock m.lock = ⟨.held, decide ((s.lock m.lock).state = .broken), hdr.sender, m.sess, m.epoch⟩ ∧
      (∀ v ∈ s.voterList, toldTo t v 5 (natBE 1 0 ++ t.lockBody m.lock) = true))) ∧
  (∀ (s : State) (hdr : NqHeader) (m : LockMsg), s.nqOk hdr = true → s.coll.quorum = true → s.lockServer = s.member → m.op = 2 →
    hdr.sender ≠ s.member → (s.voter hdr.sender).seq.all (fun q => decide (hdr.seq / 1099511627776 ≤ q / 1099511627776)) = true →
    (s.lock m.lock).state = .held → (s.lock m.lock).member = hdr.sender → (s.lock m.lock).sess = m.sess →
    s.coll.grants.all (fun g => decide (g.lock ≠ m.lock)) = true →
    Gives (.lockRequestMessage hdr m) s (fun t => (t.lock m.lock).state = .free ∧
      toldTo t hdr.sender 5 (natBE 1 2 ++ t.lockBody m.lock ++ natBE 4 0 ++ natBE 2 m.sess) = true)) ∧
  (∀ (s : State) (hdr : NqHeader) (m : LockMsg), s.nqOk hdr = true → m.op = 0 →
    Gives (.lockAnswerMessage hdr m) s (fun t => t.lock m.lock = lockCopy m ∧
      toldTo t hdr.sender 5 (natBE 1 255 ++ t.lockBody m.lock) = true)) ∧
  (∀ (s : State) (hdr : NqHeader) (m : LockMsg) (g : LockGrant) (path : Path), s.nqOk hdr = true → m.op = 255 → s.coll.grants = [g] → g.lock = m.lock →
    g.member = s.member → g.acks.contains hdr.sender = false → s.voterCount < 2 * (g.acks.length + 1) →
    s.coll.lockReqs.find? (fun q => decide (q.lock = m.lock) && decide (q.op = 1) && decide (pathSess q.path = g.sess)) =
      some ⟨m.lock, 1, path, none⟩ →
    Gives (.lockAnswerMessage hdr m) s (fun t => t.coll.grants = [] ∧ Sent.answer path (0x6400 + m.lock) 3 0 ∈ t.sent)) ∧
  (∀ (s : State) (hdr : NqHeader) (m : LockMsg) (path : Path), s.nqOk hdr = true → m.op ≠ 0 → m.op ≠ 255 →
    s.coll.lockReqs.find? (fun q => decide (q.lock = m.lock) && decide (q.op = m.op) && decide (pathSess q.path = m.sess)) =
      some ⟨m.lock, m.op, path, none⟩ →
    Gives (.lockAnswerMessage hdr m) s (fun t => Sent.answer path (0x6400 + m.lock) 3 m.status.toNat ∈ t.sent)) ∧
  (∀ (s : State) (m n : Nat), s.coll.quorum = true → (s.lock n).state = .held → (s.lock n).member = m →
    Gives (.lockOwnerLostExpiry m) s (fun t => (t.lock n).state = .broken))

/-- The SDO server answers, keeps and ends its one transfer as R55 to R57 say. While CAN is served, NMT not Stopped, no
transfer open and nothing waiting: an expedited download of a value of an immediate object that may be written and passes its
checks makes it effective and is confirmed; one that may not be written is answered with its abort code; a download not
expedited, of no other size than the object's, opens a transfer. An upload of 1 to 4 bytes is answered with them. While the
path is enabled, a segment of 1 to 7 bytes with the toggle expected, not the last, is added to the open download of unstated
size and confirmed; one of a block below number 127, not the last, is added with its 7 bytes; and a request segment sends the
next 7 bytes of an upload with more left. On a disabled path a segment is refused with 0x08000021. The timeout discards the
open transfer and sends 0x05040000; an abort request discards it. Cites R46 (02), R55 (02), R56 (02), R57 (02), R488 (02). -/
def Obligations.SdoTransfers : Prop :=
  (∀ (s : State) (q : SdoInit) (o : Obj), Quiet s → s.coreServes = true → s.can.nmt ≠ .stopped → s.can.sdo = none → q.expedited = true →
    s.cfg 0x2011 4 ≠ 0 →
    MayWrite s .can q.index q.sub → Plain s .can q.index q.sub q.data o → o.cls = some .i →
    Gives (.sdoInitiateDownload q) s (fun t => t.cfgB q.index q.sub = q.data ∧
      Sent.can (0x580 + s.nodeId) (padTo 8 (natLE 1 0x60 ++ natLE 2 q.index ++ natLE 1 q.sub)) ∈ t.sent)) ∧
  (∀ (s : State) (q : SdoInit) (ab : Nat), s.coreServes = true → s.can.nmt ≠ .stopped → s.can.sdo = none → ab ≠ 0 →
    s.reach .can q.index q.sub true = some ab →
    Gives (.sdoInitiateDownload q) s (fun t =>
      Sent.can (0x580 + s.nodeId) (padTo 8 (natLE 1 0x80 ++ natLE 2 q.index ++ natLE 1 q.sub ++ natLE 4 ab)) ∈ t.sent)) ∧
  (∀ (s : State) (q : SdoInit), Quiet s → s.coreServes = true → s.can.nmt ≠ .stopped → s.can.sdo = none → q.expedited = false →
    MayWrite s .can q.index q.sub → (q.size = none ∨ q.size = fixedLen q.index q.sub) →
    Gives (.sdoInitiateDownload q) s (fun t => t.can.sdo = some ⟨q.index, q.sub, false, q.block, [], false, 0, false, q.size⟩)) ∧
  (∀ (s : State) (idx sub : Nat), s.coreServes = true → s.can.nmt ≠ .stopped → s.can.sdo = none → s.reach .can idx sub false = some 0 →
    1 ≤ (s.readObj 0 idx sub).length → (s.readObj 0 idx sub).length ≤ 4 →
    Gives (.sdoInitiateUpload idx sub none) s (fun t => Sent.can (0x580 + s.nodeId)
      (padTo 8 (natLE 1 (0x43 + (4 - (s.readObj 0 idx sub).length) * 4) ++ natLE 2 idx ++ natLE 1 sub ++ s.readObj 0 idx sub)) ∈ t.sent)) ∧
  (∀ (s : State) (x : SdoXfer) (d : Bytes), Quiet s → s.coreServes = true → s.pathOn .can = true → s.can.nmt ≠ .stopped → s.can.sdo = some x → x.upload = false →
    x.block = false → x.size = none → 1 ≤ d.length → d.length ≤ 7 →
    Gives (.sdoSegment (.down x.toggle false d)) s (fun t => t.can.sdo = some { x with data := x.data ++ d, toggle := !x.toggle } ∧
      Sent.can (0x580 + s.nodeId) (padTo 8 (natLE 1 (0x20 + b2n x.toggle * 16))) ∈ t.sent)) ∧
  (∀ (s : State) (x : SdoXfer), Quiet s → s.coreServes = true → s.pathOn .can = true → s.can.nmt ≠ .stopped → s.can.sdo = some x → x.upload = true → x.block = false →
    7 < x.data.length →
    Gives (.sdoSegment (.up x.toggle)) s (fun t => t.can.sdo = some { x with data := x.data.drop 7, toggle := !x.toggle } ∧
      Sent.can (0x580 + s.nodeId) (padTo 8 (natLE 1 (b2n x.toggle * 16) ++ x.data.take 7)) ∈ t.sent)) ∧
  (∀ (s : State) (x : SdoXfer) (d : Bytes), Quiet s → s.coreServes = true → s.pathOn .can = true → s.can.nmt ≠ .stopped → s.can.sdo = some x → x.upload = false →
    x.block = true → x.lastSeen = false → x.seqno < 126 →
    Gives (.sdoBlockSegment (.down (x.seqno + 1) false d)) s (fun t =>
      t.can.sdo = some { x with data := x.data ++ padTo 7 (d.take 7), seqno := x.seqno + 1 })) ∧
  (∀ (s : State) (x : SdoXfer), s.can.sdo = some x → s.can.nmt ≠ .stopped →
    Gives .sdoProtocolTimedOut s (fun t => t.can.sdo = none ∧ t.cat = s.cat ∧
      Sent.can (0x580 + s.nodeId) (padTo 8 (natLE 1 0x80 ++ natLE 2 x.index ++ natLE 1 x.sub ++ natLE 4 0x05040000)) ∈ t.sent)) ∧
  (∀ (s : State) (x : SdoXfer), s.coreServes = true → s.pathOn .can = false → s.can.nmt ≠ .stopped → s.can.sdo = some x →
    Gives (.sdoSegment (.up x.toggle)) s (fun t =>
      Sent.can (0x580 + s.nodeId) (padTo 8 (natLE 1 0x80 ++ natLE 2 x.index ++ natLE 1 x.sub ++ natLE 4 0x08000021)) ∈ t.sent)) ∧
  (∀ (s : State), s.coreServes = true → s.can.nmt ≠ .stopped → Gives .sdoAbortTransferRequest s (fun t => t.can.sdo = none))

/-- NMT commands, the heartbeat and the TPDOs are as R53 to R59 say. While CAN is served: an NMT command to this node or to
all starts, stops or enters Pre-operational, and the heartbeat carries the state. While Operational, a valid TPDO is sent,
with its mapped values padded to a CAN FD length, when its event timer expires, when with type 0xFE the 1 ms comparison finds
a change, and when its inhibit time ends with a sending held; while the inhibit time runs, what the event timer makes due is
held. A held transfer of a path that gets no write for tSDOTO is dropped with 0x05040000. Cites R53 (02), R55 (02), R58 (02),
R59 (02), R489 (02). -/
def Obligations.CanServices : Prop :=
  (∀ (s : State) (c n : Nat), s.coreServes = true → (n = 0 ∨ n = s.nodeId) → (c = 1 ∨ c = 2 ∨ c = 128) →
    Gives (.nmtCommand c n) s (fun t => t.can.nmt = if c = 1 then .operational else if c = 2 then .stopped else .preop)) ∧
  (∀ (s : State), s.coreServes = true → s.cfg 0x1017 0 ≠ 0 →
    Gives .canHeartbeat s (fun t => Sent.can (0x700 + s.nodeId) (natLE 1 (nmtCode s.can.nmt)) ∈ t.sent)) ∧
  (∀ (s : State) (n : Nat), 1 ≤ n → n ≤ 4 → s.tpdoOn n = true → s.cfg (0x17FF + n) 5 ≠ 0 → (s.tpdoOf n).inhibit = false →
    Gives (.tpdoEventTimerExpiry n) s (fun t =>
      Sent.can (s.cfg (0x17FF + n) 1 % 2048) (padTo (canLen (s.tpdoData n).length) (s.tpdoData n)) ∈ t.sent ∧
      (t.tpdoOf n).inhibit = decide (s.cfg (0x17FF + n) 3 ≠ 0))) ∧
  (∀ (s : State) (n : Nat), 1 ≤ n → n ≤ 4 → s.tpdoOn n = true → s.cfg (0x17FF + n) 5 ≠ 0 → (s.tpdoOf n).inhibit = true →
    Gives (.tpdoEventTimerExpiry n) s (fun t => (t.tpdoOf n).held = true ∧ t.sent = s.sent)) ∧
  (∀ (s : State) (n : Nat), 1 ≤ n → n ≤ 4 → s.tpdoOn n = true → s.cfg (0x17FF + n) 2 = 0xFE → (s.tpdoOf n).inhibit = false →
    (s.tpdoOf n).last ≠ [] → (s.tpdoOf n).last ≠ s.tpdoData n →
    Gives (.tpdoChangeCompare n) s (fun t => (t.tpdoOf n).last = s.tpdoData n ∧
      Sent.can (s.cfg (0x17FF + n) 1 % 2048) (padTo (canLen (s.tpdoData n).length) (s.tpdoData n)) ∈ t.sent)) ∧
  (∀ (s : State) (n : Nat), 1 ≤ n → n ≤ 4 → s.tpdoOn n = true → (s.tpdoOf n).held = true →
    Gives (.tpdoInhibitTimeEnd n) s (fun t => (t.tpdoOf n).held = false ∧
      Sent.can (s.cfg (0x17FF + n) 1 % 2048) (padTo (canLen (s.tpdoData n).length) (s.tpdoData n)) ∈ t.sent)) ∧
  (∀ (s : State) (path : Path) (h : HeldXfer), s.cat.held.find? (fun h => decide (h.path = path)) = some h →
    Gives (.heldTransferTimeout path) s (fun t => h ∉ t.cat.held ∧ t.cat.eff = s.cat.eff ∧ t.cat.pend = s.cat.pend ∧
      Sent.answer path h.index h.sub 0x05040000 ∈ t.sent))

/-- The SPI mailbox and the service port take requests and give responses as R61 to R66 say. Where the record is performed and
no lock server has to answer: a request on the served SPI target, with no other in hand, has its response ready at once, and
one on the service port, with fewer than 8 outstanding, has it queued. A further SPI request meanwhile is dropped and sets
OVERRUN. A response transaction that reads the whole record clears RSP_READY. A status transaction gives SPI_STAT, an unknown
opcode sets BAD_OP. The ninth request outstanding on the service port is refused with 0x08000021. The host reads the oldest
response that is ready. Cites R61 (02), R63 (02), R64 (02), R65 (02), R66 (02). -/
def Obligations.RecordPaths : Prop :=
  (∀ (s : State) (d : Bytes) (u : State) (x : Bytes), s.spiServes = true → s.board.rspReady = false → s.board.reqBusy = false →
    s.doRecord .spi d = some (u, x) → s.lockWaits u = false →
    Gives (.spiCatalogueRequest d) s (fun t => t.board.rsp = x ∧ t.board.rspReady = true ∧ t.board.reqBusy = false)) ∧
  (∀ (s : State) (d : Bytes), Quiet s → s.spiServes = true → s.board.rspReady = true →
    Gives (.spiCatalogueRequest d) s (fun t => t.board = { s.board with overrun := true } ∧ t.cat = s.cat)) ∧
  (∀ (s : State) (n : Nat), s.spiServes = true → s.board.rspReady = true → s.board.rsp.length ≤ n →
    Gives (.spiCatalogueResponse n) s (fun t => Sent.spi ((padTo n s.board.rsp).take n) ∈ t.sent ∧ t.board.rspReady = false)) ∧
  (∀ (s : State) (n : Nat), s.spiServes = true →
    Gives (.spiStatus n) s (fun t => Sent.spi (List.replicate n (BitVec.ofNat 8 s.board.stat)) ∈ t.sent)) ∧
  (∀ (s : State) (n : Nat), s.spiServes = true → Gives (.spiUnknownOpcode n) s (fun t => t.board = { s.board with badOp := true })) ∧
  (∀ (s : State) (d : Bytes) (u : State) (x : Bytes), s.svc.data = true → (s.board.svcQueue.filter (·.1)).length < 8 →
    s.doRecord .svc d = some (u, x) → s.lockWaits u = false →
    Gives (.servicePortRequest d) s (fun t => t.board.svcQueue = u.board.svcQueue ++ [(true, x)])) ∧
  (∀ (s : State) (d : Bytes), s.svc.data = true → s.spiServes = true → 8 ≤ (s.board.svcQueue.filter (·.1)).length →
    Gives (.servicePortRequest d) s (fun t => t.board.svcQueue = s.board.svcQueue ++ [(false,
      respRec 1 (leNat (slice d 1 1)) (leNat (slice d 2 2)) (leNat (slice d 4 1))
        (b2n (s.pendOf (leNat (slice d 2 2)) (leNat (slice d 4 1))).isSome) 0x08000021 [])])) ∧
  (∀ (s : State) (e : Bool × Bytes) (l : List (Bool × Bytes)), s.board.svcQueue = e :: l → slice e.2 0 1 ≠ [0xFF] →
    Gives .servicePortResponseRead s (fun t => t.board.svcQueue = l ∧ Sent.svc e.2 ∈ t.sent))

/-- CAT_READ and CAT_WRITE read and write objects over a session as R46 and R489 say. With nothing waiting: a CAT_READ whose
object may be read is answered with the bytes read, and one that may not be read with its abort code. With the house path
enabled, a CAT_WRITE of a whole value that passes its checks makes it effective for an immediate object; for an object of
class S or E it is held pending under its principal and the effective value stays; either is answered with abort code 0. Cites
R10 (00), R11 (00), R43 (02), R46 (02), R65 (02), R153 (05), R488 (02), R489 (02). -/
def Obligations.CatalogueItems : Prop :=
  (∀ (s : State) (r : Rec) (d : Bytes) (more : Bool), Accepted s r 16 → Quiet s → (itemOf s r 0x40).f 8 2 ≤ 1024 →
    (s.arrive r 0x40).reach (catPath s r) ((itemOf s r 0x40).f 0 2) ((itemOf s r 0x40).f 2 1) false = some 0 →
    (s.arrive r 0x40).readAt (catPath s r) ((itemOf s r 0x40).f 0 2) ((itemOf s r 0x40).f 2 1) ((itemOf s r 0x40).f 4 4)
      ((itemOf s r 0x40).f 8 2) = (0, d, more) →
    Gives (.catRead r) s (fun t => Answered s t r 0 0 (natBE 4 0 ++ natBE 2 d.length ++
      natBE 1 (b2n (s.pendOf ((itemOf s r 0x40).f 0 2) ((itemOf s r 0x40).f 2 1)).isSome + b2n more * 2) ++ zeros 1 ++ d))) ∧
  (∀ (s : State) (r : Rec) (ab : Nat), Accepted s r 16 → Quiet s → ab ≠ 0 →
    s.reach (catPath s r) ((itemOf s r 0x40).f 0 2) ((itemOf s r 0x40).f 2 1) false = some ab →
    Gives (.catRead r) s (fun t => Answered s t r 0x0C 0x09 (natBE 4 ab ++ natBE 2 0 ++
      natBE 1 (b2n (s.pendOf ((itemOf s r 0x40).f 0 2) ((itemOf s r 0x40).f 2 1)).isSome) ++ zeros 1))) ∧
  (∀ (s : State) (r : Rec) (idx sub : Nat) (d : Bytes) (o : Obj), Accepted s r 16 → Quiet s → s.cfg 0x2011 4 ≠ 0 → MayWrite s (catPath s r) idx sub →
    Plain (s.arrive r 0x41) (catPath s r) idx sub d o → o.cls = some .i → r.body.length = 16 + d.length →
    r.body.drop 16 = d → (itemOf s r 0x41).f 0 2 = idx → (itemOf s r 0x41).f 2 1 = sub → (itemOf s r 0x41).f 4 4 = 0 →
    (itemOf s r 0x41).f 8 2 = d.length →
    Gives (.catWrite r) s (fun t => t.cfgB idx sub = d ∧ Answered s t r 0 0 (natBE 4 0 ++ natBE 2 0 ++
      natBE 1 (b2n (t.pendOf idx sub).isSome) ++ zeros 1))) ∧
  (∀ (s : State) (r : Rec) (idx sub : Nat) (d : Bytes) (o : Obj), Accepted s r 16 → Quiet s → s.cfg 0x2011 4 ≠ 0 → MayWrite s (catPath s r) idx sub →
    Plain (s.arrive r 0x41) (catPath s r) idx sub d o → (o.cls = some .s ∨ o.cls = some .e) → r.body.length = 16 + d.length →
    r.body.drop 16 = d → (itemOf s r 0x41).f 0 2 = idx → (itemOf s r 0x41).f 2 1 = sub → (itemOf s r 0x41).f 4 4 = 0 →
    (itemOf s r 0x41).f 8 2 = d.length →
    Gives (.catWrite r) s (fun t => t.pendOf idx sub = some ⟨d, owner s r⟩ ∧ t.cfgB idx sub = s.cfgB idx sub ∧
      Answered s t r 0 0 (natBE 4 0 ++ natBE 2 0 ++ natBE 1 1 ++ zeros 1)))

/-- Reads and writes of the register space have the effects of their words, bits and access codes. A register read, of one
word over SPI or alone, is answered with what a read of that word gives. Where the registers are served and nothing waits:
reading a port's replay counts, no parity mismatch or injection waiting, answers them and clears them. A write of a port's
events clears the bits written as 1; a burst that goes on to the next word sets the interrupt enables from it. A write of the
alias of the Collection's IRQ_EN sets that bit alone, and of 1 to the alias of QUORUM_LOST clears that bit alone. Cites R9
(00), R62 (02), R67 (02), R74 (02), R200 (06), R110 (03). -/
def Obligations.RegisterAccess : Prop :=
  (∀ (s : State) (a n : Nat), Gives (.spiRegisterRead a 1 n) s (fun t => Sent.spi (natLE 4 (s.boardRead a).2.toNat) ∈ t.sent)) ∧
  (∀ (s : State) (a : Nat), Gives (.registerReadClear a) s (fun t => Sent.reg a (s.boardRead a).2 ∈ t.sent)) ∧
  (∀ (s : State) (p : Nat), portOk p = true → Quiet s → s.coreServes = true → s.boot.phase = .service → s.flt.injArmed = false →
    s.regs.parBad.contains (0xFF040 + p * 4096) = false →
    Gives (.registerReadClear (0xFF040 + p * 4096)) s (fun t =>
      Sent.reg (0xFF040 + p * 4096) (BitVec.ofNat 32 ((s.getUsb p).replays.toNat + (s.getUsb p).exhausted.toNat * 65536)) ∈ t.sent ∧
      (t.getUsb p).replays = 0 ∧ (t.getUsb p).exhausted = 0)) ∧
  (∀ (s : State) (p : Nat) (v : Word), portOk p = true → Quiet s → s.coreServes = true → s.boot.phase = .service →
    Gives (.registerWrite (0xFF004 + p * 4096) v) s (fun t => (t.getUsb p).evt = w1c (s.getUsb p).evt v.toNat)) ∧
  (∀ (s : State) (p : Nat) (v w : Word) (c : Nat), portOk p = true → Quiet s → s.coreServes = true → s.boot.phase = .service →
    Gives (.spiRegisterWrite (0xFF004 + p * 4096) [v, w] c) s (fun t => (t.getUsb p).evt = w1c (s.getUsb p).evt v.toNat ∧
      (t.getUsb p).irqEn = BitVec.ofNat 12 w.toNat)) ∧
  (∀ (s : State) (v : Word), Quiet s → s.coreServes = true → s.boot.phase = .service →
    Gives (.bitAliasWrite 0xE06018 v) s (fun t => t.coll = { s.coll with irqEn := v.getLsbD 0 })) ∧
  (∀ (s : State) (v : Word), Quiet s → s.coreServes = true → s.boot.phase = .service → v.getLsbD 0 = true →
    Gives (.bitAliasWrite 0xE06008 v) s (fun t => t.coll = { s.coll with quorumLost := false }))

/-- A posted Custodian write waits while BUSY, and one made meanwhile is dropped and named. Where the registers are served:
with BUSY at 0 a write of the wake enables or the alarm is taken and BUSY reads 1. When the slow domain has absorbed it, BUSY
reads 0, and the register has the value and reads it. A write made while BUSY reads 1 is dropped: it sets WRITE_LOST, and
LOST_ADDR keeps the first address dropped. Cites R70 (02), R71 (02), R405 (15). -/
def Obligations.CustodianWrites : Prop :=
  (∀ (s : State) (a : Nat) (v : Word), s.coreServes = true → s.boot.phase = .service → (a = 0x10000 ∨ a = 0x10004) → s.regs.custBusy = false →
    Gives (.rwpWrite a v) s (fun t => t.regs = { s.regs with custBusy := true, custWrite := some (a, v) })) ∧
  (∀ (s : State) (a : Nat) (v : Word), s.coreServes = true → s.boot.phase = .service → (a = 0x10000 ∨ a = 0x10004) → s.regs.custBusy = true →
    Gives (.rwpWrite a v) s (fun t => t.regs = { s.regs with
      writeLost := true, lostAddr := if s.regs.writeLost then s.regs.lostAddr else BitVec.ofNat 16 a })) ∧
  (∀ (s : State) (v : Word), s.regs.custWrite = some (0x10004, v) →
    Gives .rwpWriteAbsorbed s (fun t => t.regs.custBusy = false ∧ t.regs.custWrite = none ∧
      t.regs.custAlarm = v ∧ t.regVal 0x10004 = v.toNat)) ∧
  (∀ (s : State) (v : Word), s.regs.custWrite = some (0x10000, v) →
    Gives .rwpWriteAbsorbed s (fun t => t.regs.custBusy = false ∧ t.regs.custWrite = none ∧
      t.regs.custWakeEn = v &&& 0x3F ∧ t.regVal 0x10000 = (v &&& 0x3F).toNat))

/-- A guarded value takes effect only as a pair of complements in time, or its pair is discarded. Where the registers are
served and nothing waits, the first half of a pair waits. The value 1 at 0x02_0400 followed by its complement at 0x02_8400
arms the injection that the registers select, if it may be armed. A partner written with no complement, a write of any other
address of the guarded block or of the same one again, and a partner that does not come in time each discard the pair with
MISMATCH, LAST_ADDR and their own cause bit. The pair of 1 as one command arms the injection, or sets REFUSED where it may not
be armed. Cites R72 (02), R425 (16), R426 (16). -/
def Obligations.GuardedPairs : Prop :=
  (∀ (s : State) (a : Nat) (v : Word), Quiet s → s.coreServes = true → s.boot.phase = .service → s.regs.gWait = none → a % 4 = 0 → 0x20000 ≤ a →
    a < 0x30000 → Gives (.guardedWrite a v) s (fun t => t.regs = { s.regs with gWait := some (a, v) })) ∧
  (∀ (s : State), Quiet s → s.coreServes = true → s.boot.phase = .service → s.regs.gWait = some (0x20400, 1) → s.injectOk = true →
    Gives (.guardedWrite 0x28400 0xFFFFFFFE) s (fun t => t.regs.gWait = none ∧ t.flt.injArmed = true)) ∧
  (∀ (s : State) (a b : Nat) (v w : Word), Quiet s → s.coreServes = true → s.boot.phase = .service → s.regs.gWait = some (b, w) → guardX a = guardX b →
    a ≠ b → v ≠ ~~~w → a % 4 = 0 → 0x20000 ≤ a → a < 0x30000 →
    Gives (.guardedWrite a v) s (fun t => t.regs = { s.regs with
      gWait := none, gMismatch := true, gLast := BitVec.ofNat 16 (guardX b), gValue := true })) ∧
  (∀ (s : State) (a b : Nat) (v w : Word), Quiet s → s.coreServes = true → s.boot.phase = .service → s.regs.gWait = some (b, w) →
    (guardX a ≠ guardX b ∨ a = b) → a % 4 = 0 → 0x20000 ≤ a → a < 0x30000 →
    Gives (.guardedWrite a v) s (fun t => t.regs = { s.regs with
      gWait := none, gMismatch := true, gLast := BitVec.ofNat 16 (guardX b), gInter := true })) ∧
  (∀ (s : State) (b : Nat) (w : Word), s.regs.gWait = some (b, w) →
    Gives .guardedPairTimeout s (fun t => t.regs = { s.regs with
      gWait := none, gMismatch := true, gLast := BitVec.ofNat 16 (guardX b), gTime := true })) ∧
  (∀ (s : State), s.coreServes = true → s.boot.phase = .service → s.injectOk = true →
    Gives (.injectionArm 1) s (fun t => t.regs.gWait = none ∧ t.flt = { s.flt with injArmed := true })) ∧
  (∀ (s : State), s.coreServes = true → s.boot.phase = .service → s.injectOk = false →
    Gives (.injectionArm 1) s (fun t => t.regs.gWait = none ∧ t.flt = { s.flt with injRefused := true }))

/-- Voted views answer and store outside normal service and read 0 in it; the entry to it takes the debug lock. In normal
service a read of the voted view of a port, no parity mismatch or injection waiting there, answers 0 and a write changes
nothing; either sets RV_IN_SERVICE. In recovery a write stores the value in all three copies, and a read of copies that agree,
no injection waiting, answers their value. The entry to normal service, once start-up is done, sets IN_SERVICE, takes the
debug-lock state from its voted value and begins Run. Cites R77 (02), R78 (02), R79 (02), R433 (17). -/
def Obligations.VotedViews : Prop :=
  (∀ (s : State) (p : Nat), portOk p = true → s.inService = true → s.coreServes = true → s.boot.phase = .service → s.flt.injArmed = false →
    s.regs.parBad.contains (0xFFF00 + p * 4096) = false →
    Gives (.rvAccess (0xFFF00 + p * 4096) none) s (fun t => Sent.reg (0xFFF00 + p * 4096) 0 ∈ t.sent ∧ t.regs.rvInService = true)) ∧
  (∀ (s : State) (p : Nat) (v : Word), portOk p = true → s.inService = true → s.coreServes = true → s.boot.phase = .service →
    Gives (.rvAccess (0xFFF00 + p * 4096) (some v)) s (fun t => t.regs = { s.regs with rvInService := true })) ∧
  (∀ (s : State) (p : Nat) (v : Word), portOk p = true → s.inService = false → s.boot.phase = .recovery →
    Gives (.rvAccess (0xFFF00 + p * 4096) (some v)) s (fun t => SMap.get 0 t.regs.vote0 p = (v &&& viewMask p) ∧
      SMap.get 0 t.regs.vote1 p = (v &&& viewMask p) ∧ SMap.get 0 t.regs.vote2 p = (v &&& viewMask p))) ∧
  (∀ (s : State) (p : Nat) (v : Word), portOk p = true → s.inService = false → s.boot.phase = .recovery → s.flt.injArmed = false →
    SMap.get 0 s.regs.vote0 p = v → SMap.get 0 s.regs.vote1 p = v → SMap.get 0 s.regs.vote2 p = v →
    Gives (.rvAccess (0xFFF00 + p * 4096) none) s (fun t => Sent.reg (0xFFF00 + p * 4096) v ∈ t.sent ∧ t.regs.vote0 = s.regs.vote0)) ∧
  (∀ (s : State), s.inService = false → s.boot.started = true →
    Gives .normalServiceEntry s (fun t => t.regs.inService = true ∧ t.boot.phase = .service ∧ t.dps.state = .run ∧
      t.boot.started = false ∧ t.dbg.lock = (s.voted 0).toNat % 4))

/-- PLLs, die links, the reference clock and the crystal change state as R21 to R39 say. With the core domain not awaited by a
waking (or the PLL being the core's): a starting PLL locks, and late it is restarted twice. One that loses its lock starts
again, and its event is set unless its cause already persisted. A USB PLL not needed stops. A loss of REFCLK_ETH stops the
upstream and USB PLLs; a core PLL that runs from it moves to its alternate, and in service puts package-safe-stop in force;
one on its alternate stays. The crystal's failure moves the slow clock to the RC oscillator until it runs. A CLK_EVT bit
clears only once its cause has ended. With nothing waiting, a unit in error on a live die link with no injection waiting is
repeated, the fifth error retrains the link; a retrain that succeeds ends, a first that fails goes on, a second in succession,
no result waiting at the link, loses it. Cites R21 (01), R22 (01), R30 (01), R32 (01), R33 (01), R36 (01), R37 (01), R38 (01),
R39 (01), R409 (16). -/
def Obligations.ClockEvents : Prop :=
  (∀ (s : State) (q : PllId), (s.pll q).state = .starting → (q = .core ∨ s.awaits .core = false) →
    Gives (.pllLock q) s (fun t => t.pll q = ⟨.locked, 0, (s.pll q).alt⟩)) ∧
  (∀ (s : State) (q : PllId), (s.pll q).state = .starting → (s.pll q).restarts < 2 → (q = .core ∨ s.awaits .core = false) →
    Gives (.pllLockTimeout q) s (fun t => t.pll q = { s.pll q with restarts := (s.pll q).restarts + 1 })) ∧
  (∀ (s : State) (q : PllId), (s.pll q).state = .locked →
    Gives (.pllLossOfLock q) s (fun t => (t.pll q).state = .starting ∧ (evtBit q < 32 → bitOf t.clk.evt.toNat (evtBit q) = true ∨
      s.clkOut (evtBit q) = true))) ∧
  (∀ (s : State) (q : PllId), q ∈ usbPlls → ((s.pll q).state = .starting ∨ (s.pll q).state = .locked) → s.pllNeeded q = false →
    Gives (.pllStopDelayExpiry q) s (fun t => (t.pll q).state = .stopped)) ∧
  (∀ (s : State), s.clk.refEth = true → (s.pll .core).alt = false → ((s.pll .core).state = .locked ∨ (s.pll .core).state = .starting) →
    Gives .refclkEthLoss s (fun t => t.clk.refEth = false ∧ t.pll .core = ⟨.starting, 0, true⟩ ∧ t.clk.coreAlt = true ∧
      (t.pll .upstream).state = .stopped ∧ (∀ q ∈ usbPlls, (t.pll q).state = .stopped))) ∧
  (∀ (s : State), s.clk.refEth = true → (s.pll .core).alt = true →
    Gives .refclkEthLoss s (fun t => t.clk.refEth = false ∧ t.pll .core = s.pll .core ∧ (t.pll .upstream).state = .stopped ∧
      (∀ q ∈ usbPlls, (t.pll q).state = .stopped))) ∧
  (∀ (s : State), s.inService = true → s.clk.refEth = true → (s.pll .core).alt = false → (s.pll .core).state = .locked →
    OwnEffect .refclkEthLoss s (fun u => u.flt.safeStop = true)) ∧
  (∀ (s : State), s.boot.strapNoxo = false → s.clk.xo32Ok = true →
    Gives .crystalFailure s (fun t => t.clk.rc32 = true ∧ t.clk.xo32Ok = false ∧ bitOf t.clk.evt.toNat 27 = true)) ∧
  (∀ (s : State), s.boot.strapNoxo = false → Gives .crystalRunning s (fun t => t.clk.rc32 = false ∧ t.clk.xo32Ok = true)) ∧
  (∀ (s : State) (v : Word), s.coreServes = true → s.boot.phase = .service →
    Gives (.clkEvtClear v) s (fun t => t.clk.evt = s.clk.evt &&& ~~~(v &&& ~~~s.clk.evtCause))) ∧
  (∀ (s : State) (n : Nat), 1 ≤ n → n ≤ 7 → Quiet s → s.linkLive n = true → s.flt.injArmed = false →
    Gives (.linkUnitError n) s (fun t => if (s.dieLink n).repeats < 4 then (t.dieLink n).repeats = (s.dieLink n).repeats + 1
      else (t.dieLink n).retraining = true ∧ (t.dieLink n).repeats = 0)) ∧
  (∀ (s : State) (n : Nat), 5 ≤ n → n ≤ 7 → Quiet s → (s.dieLink n).retraining = true → (s.dieLink n).lost = false →
    Gives (.linkRetrainDone n true) s (fun t => (t.dieLink n).retraining = false ∧ (t.dieLink n).fails = 0)) ∧
  (∀ (s : State) (n : Nat), 1 ≤ n → n ≤ 4 → (s.dieLink n).retraining = true → (s.dieLink n).lost = false →
    Gives (.linkRetrainDone n true) s (fun t => t.boot = s.boot ∧ t.upl = s.upl ∧ t.board = s.board)) ∧
  (∀ (s : State) (n : Nat), 1 ≤ n → n ≤ 4 → (s.dieLink n).retraining = true → (s.dieLink n).lost = false → (s.dieLink n).held = [] →
    OwnEffect (.linkRetrainDone n true) s (fun u => (u.dieLink n).retraining = false ∧ (u.dieLink n).fails = 0)) ∧
  (∀ (s : State) (n : Nat), 1 ≤ n → n ≤ 7 → Quiet s → (s.dieLink n).retraining = true → (s.dieLink n).lost = false → (s.dieLink n).fails = 0 →
    Gives (.linkRetrainDone n false) s (fun t => (t.dieLink n).retraining = true ∧ (t.dieLink n).fails = 1)) ∧
  (∀ (s : State) (n : Nat), 1 ≤ n → n ≤ 7 → (s.dieLink n).retraining = true → (s.dieLink n).lost = false → (s.dieLink n).fails = 1 →
    (s.dieLink n).held = [] → OwnEffect (.linkRetrainDone n false) s (fun u => (u.dieLink n).lost = true ∧ (u.dieLink n).retraining = false))

/-- Cold starts, warm resets and RESET_N end everything and lead to start-up as R429 to R441 say. With the test strap low,
RESET_N high and every stage answering: a cold start ends every item and session, turns every switch Off and advances the boot
count; it ends ready for service, in recovery, or in a failed built-in test. With main power good, a warm reset and its
guarded request do the same but keep the switches, and a warm reset the kinds of contract; no port stays on loan. While
RESET_N is low start-up is held, and its rise lets it go on. A Custodian reset empties the secret store and drives MAIN_EN;
without power good in a waking from Shelf MAIN_EN falls and the package is in Shelf. Cites R429 (17), R431 (17), R432 (17),
R433 (17), R434 (17), R435 (17), R436 (17), R441 (17), R462 (18), R482 (19). -/
def Obligations.ResetsAndStartUp : Prop :=
  (∀ (s : State) (x : Straps), x.test = false → x.stages.all (fun e => decide (e.2 ≠ 0)) = true → s.boot.resetLow = false →
    Gives (.coldStart x) s (fun t => t.items = [] ∧ t.sess = [] ∧ (∀ p ∈ allPorts, (t.getProt p).sw = .off ∧ (t.getProt p).vbusAllowed = false) ∧
      t.boot.bootCount = BitVec.ofNat 32 (max (s.boot.config.getD FlashCfg.reset).boots s.boot.bootCust + 1) ∧
      (t.boot.started = true ∨ t.boot.phase = .recovery ∨ (t.boot.phase = .bist ∧ t.boot.bistFail = true)))) ∧
  (∀ (s : State) (x : Straps), UnitsOk s → (∀ p ∈ allPorts, (s.getPwr p).stageMax ≠ 0) → s.dps.pgMain = true → s.boot.strapTest = false →
    s.boot.resetLow = false →
    Gives (.warmReset x) s (fun t => t.items = [] ∧ t.sess = [] ∧ (∀ p ∈ allPorts, (t.getProt p).sw = (s.getProt p).sw ∧
        (t.getPwr p).kind = (s.getPwr p).kind ∧ (t.getUsb p).loanOwner = 0) ∧
      t.boot.bootCount = BitVec.ofNat 32 (max (s.boot.config.getD FlashCfg.reset).boots s.boot.bootCust + 1))) ∧
  (∀ (s : State), UnitsOk s → (∀ p ∈ allPorts, (s.getPwr p).stageMax ≠ 0) → s.dps.pgMain = true → s.boot.strapTest = false →
    s.boot.resetLow = false →
    Gives .resetRequest s (fun t => t.items = [] ∧ t.sess = [] ∧ (∀ p ∈ allPorts, (t.getProt p).sw = (s.getProt p).sw) ∧
      t.boot.strapRec = s.boot.strapRec ∧
      t.boot.bootCount = BitVec.ofNat 32 (max (s.boot.config.getD FlashCfg.reset).boots s.boot.bootCust + 1))) ∧
  (∀ (s : State) (x : Straps), s.dps.pgMain = true → s.boot.strapTest = false →
    Gives (.resetNLow x) s (fun t => t.boot.resetLow = true ∧ t.boot.inReset = true ∧ t.boot.phase = .startup ∧ t.boot.started = false ∧
      t.items = [] ∧ t.sess = [])) ∧
  (∀ (s : State), s.boot.inReset = true →
    Gives .resetNRise s (fun t => t.boot.resetLow = false ∧ t.boot.inReset = false ∧
      t.boot.bootCount = BitVec.ofNat 32 (max (s.boot.config.getD FlashCfg.reset).boots s.boot.bootCust + 1))) ∧
  (∀ (s : State) (b : Bool), Gives (.custodianReset b) s (fun t => t.boot.secrets = [] ∧ t.boot.custLost = true ∧ t.clk.rc32 = true ∧
      t.dps.mainEn = true ∧ Sent.pin 3 0 true ∈ t.sent)) ∧
  (∀ (s : State), s.dps.state = .waking → s.dps.fromState = .shelf → s.dps.pgMain = false →
    Gives .mainEnPowerGoodTimeout s (fun t => t.dps.state = .shelf ∧ t.dps.mainEn = false))

/-- Images, keys and nonces are written over a path as R442 to R446 say. With a path that may write and, for values written in
parts, none held: image bytes at offset 0 replace the slot that does not run and leave the running one; a check leaves the
code of that slot; a commit raises the floor to the running image's ROLLBACK where that is no lower and at most 63, and else
leaves it; with the identity key in place a nonce gives its principal a signed report; a key is stored in its slot. Each is
answered with 0. While debug is open a key write is refused. Cites R442 (17), R443 (17), R445 (17), R446 (17), R447 (17), R451
(17). -/
def Obligations.ImagesAndKeys : Prop :=
  (∀ (s : State) (path : Path) (d : Bytes), MayWrite s path 0x2701 1 → s.cat.flashFail = false → d.length ≤ 8388608 →
    Gives (.imageWrite 0 d path) s (fun t => (∀ k ∈ List.range d.length, t.imgByte (!s.boot.slot) k = d.getD k 0) ∧
      (if s.boot.slot then t.boot.imgB = s.boot.imgB else t.boot.imgA = s.boot.imgA) ∧ Sent.answer path 0x2701 1 0 ∈ t.sent)) ∧
  (∀ (s : State) (path : Path), MayWrite s path 0x2701 3 →
    Gives (.imageVerify path) s (fun t => t.boot = { s.boot with imageCheck := s.imageCode (!s.boot.slot) } ∧
      Sent.answer path 0x2701 3 0 ∈ t.sent)) ∧
  (∀ (s : State) (path : Path), MayWrite s path 0x2700 4 →
    Gives (.rollbackCommit path) s (fun t => Sent.answer path 0x2700 4 0 ∈ t.sent ∧
      t.boot.floor = if s.boot.floor ≤ s.boot.imageRollback ∧ s.boot.imageRollback ≤ 63 then s.boot.imageRollback else s.boot.floor)) ∧
  (∀ (s : State) (path : Path) (d : Bytes), MayWrite s path 0x2703 1 → s.cat.held = [] → s.boot.identity = true → d.length = 32 →
    Gives (.attestationNonce d path) s (fun t => Sent.answer path 0x2703 1 0 ∈ t.sent ∧
      (t.getTenants (s.principalOf path)).report = s.reportBody (s.principalOf path) d ++
        natBE 96 (Config.identitySign (s.reportBody (s.principalOf path) d)).toNat)) ∧
  (∀ (s : State) (n : Nat) (path : Path) (d : Bytes), n ≤ 65 → MayWrite s path (keyObject n).1 (keyObject n).2 → s.cat.held = [] → s.dbg.lock ≠ 2 → d.length = 32 →
    Gives (.transportKeyWrite n d path) s (fun t => t.secret n = d ∧
      Sent.answer path (keyObject n).1 (keyObject n).2 0 ∈ t.sent)) ∧
  (∀ (s : State) (n : Nat) (path : Path) (d : Bytes), n ≤ 65 → MayWrite s path (keyObject n).1 (keyObject n).2 → s.cat.held = [] → s.dbg.lock = 2 → d.length = 32 →
    Gives (.transportKeyWrite n d path) s (fun t => t.boot = s.boot ∧ Sent.answer path (keyObject n).1 (keyObject n).2 0x08000022 ∈ t.sent))

/-- Debug access opens and closes, and the TAP and the standby supplies act, as R448 to R460 say. Where the registers are
served: in service a request of 1 to 3 in LOCKED begins ERASING, is the guarded value in effect and zeroes the secret store; a
request of 0 in OPEN locks; any other, and any outside service, is refused. ERASING with every loan Idle and every session
Closed ends in OPEN with the access asked for and the identity key zeroed. IDCODE is answered, and EXTEST is obeyed only while
JTAG debug is open. With VBAT the loss and return of VDD_STBY move the Custodian to VBAT and back. Cites R448 (17), R449 (17),
R450 (17), R451 (17), R460 (18), R466 (18). -/
def Obligations.DebugAccess : Prop :=
  (∀ (s : State) (v : Word), s.coreServes = true → s.boot.phase = .service → s.inService = true → s.dbg.lock = 0 → v ≠ 0 → v.toNat < 4 →
    Gives (.debugRequest v) s (fun t => t.dbg.lock = 1 ∧ t.dbg.asked = v.toNat ∧ t.boot.secrets = [])) ∧
  (∀ (s : State) (v : Word), s.coreServes = true → s.boot.phase = .service → s.inService = true → s.dbg.lock = 0 → v ≠ 0 → v.toNat < 4 →
    OwnEffect (.debugRequest v) s (fun u => u.regs.gDebug = v)) ∧
  (∀ (s : State), s.coreServes = true → s.boot.phase = .service → s.inService = true → s.dbg.lock = 2 →
    Gives (.debugRequest 0) s (fun t => t.dbg = { s.dbg with lock := 0, jtag := false, svc := false })) ∧
  (∀ (s : State) (v : Word), s.coreServes = true → s.boot.phase = .service →
    (4 ≤ v.toNat ∨ s.inService = false ∨ s.dbg.lock = 1 ∨ s.dbg.lock = 3 ∨ (s.dbg.lock = 2 ∧ v ≠ 0) ∨ (s.dbg.lock = 0 ∧ v = 0)) →
    Gives (.debugRequest v) s (fun t => t.dbg = { s.dbg with refused := true })) ∧
  (∀ (s : State), s.dbg.lock = 1 → s.tenants.all (fun e => decide (e.2.loan = .idle)) = true → s.sess.all (fun e => decide (e.2.state = .closed)) = true →
    Gives .erasingComplete s (fun t => t.dbg.lock = 2 ∧ t.dbg.opened = true ∧ t.dbg.jtag = bitOf s.dbg.asked 0 ∧
      t.dbg.svc = bitOf s.dbg.asked 1 ∧ t.dbg.opens = satAdd s.dbg.opens 1 ∧ t.boot.identity = false)) ∧
  (∀ (s : State), Gives (.jtagInstruction .idcode) s (fun t => Sent.jtag 0x19600DA7 ∈ t.sent)) ∧
  (∀ (s : State), Gives (.jtagInstruction .extest) s (fun t => t.dbg =
    if s.dbg.jtag = true ∧ s.lockNow = 2 then { s.dbg with tapIr := 3 } else s.dbg)) ∧
  (∀ (s : State), s.dps.vbat = true → Gives .vddStbyLoss s (fun t => t.dps = { s.dps with stby := false, onVbat := true })) ∧
  (∀ (s : State), s.dps.vbat = true → Gives .vddStbyReturn s (fun t => t.dps = { s.dps with stby := true, onVbat := false }))

/-- Reaction times, acknowledgements, releases and temperatures act on faults as R409 to R422 say. An armed slot whose time
ends is escalated, with ERR_OUT_N asserted, and a Grave one puts package-safe-stop in force; the state after the command is
stated for the sources without an escalation of their own. An acknowledgement frees the slot, and the last one freed sends the
error reset. With no result of a split waiting, a release with no fault left ends package-safe-stop. A temperature is kept;
above its threshold the cause of 0x3C persists, 3 degrees below it it does not, and one of the core die above the threshold of
0x3E puts package-safe-stop in force. With a slot for it, the Curator's loss freezes every gallery until it runs; it stays so
when the restart is late. The minimum time of ERR_OUT_N ends, a held EMCY is sent, and the history is cleared. Cites R409
(16), R410 (16), R413 (16), R414 (16), R417 (16), R418 (16), R419 (16), R420 (16), R421 (16), R422 (16). -/
def Obligations.FaultSlots : Prop :=
  (∀ (s : State) (n : Nat), n < 32 → Quiet s → (s.slot n).state = .armed → (s.slot n).cls ≠ 3 →
    [0x02, 0x03, 0x12, 0x23, 0x31, 0x33, 0x3D, 0x3F].contains (s.slot n).source = false →
    Gives (.reactionTimeExpiry n) s (fun t => (t.slot n).state = .escalated ∧ t.flt.force = true)) ∧
  (∀ (s : State) (n : Nat), n < 32 → (s.slot n).state = .armed →
    OwnEffect (.reactionTimeExpiry n) s (fun u => (u.slot n).state = .escalated ∧ u.flt.force = true ∧
      ((s.slot n).cls = 3 → u.flt.safeStop = true))) ∧
  (∀ (s : State) (a b n : Nat), Quiet s → (List.range 32).find? (fun n => (s.slot n).isHeld && decide ((s.slot n).source = a) &&
      decide ((s.slot n).inst = b)) = some n →
    Gives (.faultAcknowledge a b) s (fun t => t.slot n = Slot.reset)) ∧
  (∀ (s : State) (n : Nat), Quiet s → n < 32 → (s.slot n).isHeld = true → s.flt.heldSlots = [s.slot n] → s.can.nmt ≠ .stopped →
    bitOf (s.cfg 0x1014 0) 31 = false → s.can.emcyInhibit = false →
    Gives (.faultAcknowledge (s.slot n).source (s.slot n).inst) s (fun t => t.flt.heldSlots = [] ∧
      Sent.can (s.cfg 0x1014 0 % 2048) (zeros 8) ∈ t.sent)) ∧
  (∀ (s : State) (path : Path), Quiet s → NoResult s → MayWrite s path 0x2502 2 → s.flt.safeStop = true →
    s.flt.stopBy.any (fun c => s.flt.holds c.1 c.2 || s.flt.causes.contains c) = false →
    Gives (.safeStopRelease path) s (fun t => t.flt.safeStop = false ∧ t.flt.stopBy = [] ∧ Sent.answer path 0x2502 2 0 ∈ t.sent)) ∧
  (∀ (s : State) (v : Int), Quiet s → v ≤ s.thermalAt 0x3D →
    Gives (.junctionTemperatureReading 0 v) s (fun t => t.flt.coreTemp = v ∧ (s.thermalAt 0x3C < v → (0x3C, 0) ∈ t.flt.thermal))) ∧
  (∀ (s : State) (g : Nat) (v : Int), 1 ≤ g → g ≤ 4 → Quiet s → v ≤ s.thermalAt 0x3D →
    Gives (.junctionTemperatureReading g v) s (fun t => t.flt.wingTemp = setAt (g - 1) v s.flt.wingTemp ∧
      (s.thermalAt 0x3C < v → (0x3C, g) ∈ t.flt.thermal) ∧ (v ≤ s.thermalAt 0x3C - 24 → (0x3C, g) ∉ t.flt.thermal))) ∧
  (∀ (s : State) (v : Int), s.inService = true → s.thermalAt 0x3E < v → s.flt.thermal.contains (0x3E, 0) = false →
    OwnEffect (.junctionTemperatureReading 0 v) s (fun u => (0x3E, 0) ∈ u.flt.thermal ∧ u.flt.safeStop = true)) ∧
  (∀ (s : State), Quiet s → s.noSlot (s.recOf 0x3F 0) = false →
    Gives .curatorWatchdogExpiry s (fun t => t.flt.curRestart = true ∧ (∀ g ∈ allGals, (t.getGals g).frozenCur = true))) ∧
  (∀ (s : State), s.flt.curRestart = true → Gives .curatorRestartTimeout s (fun t => ∀ g ∈ allGals, (t.getGals g).frozenCur = true)) ∧
  (∀ (s : State), Quiet s → s.flt.curRestart = true →
    Gives .restartedCuratorRuns s (fun t => t.flt.curRestart = false ∧ (∀ g ∈ allGals, (t.getGals g).frozenCur = false))) ∧
  (∀ (s : State), Gives .errOutNMinimumExpiry s (fun t => t.flt = { s.flt with minRun := false })) ∧
  (∀ (s : State) (d : Bytes) (l : List Bytes), s.can.emcyQueue = d :: l → s.can.nmt ≠ .stopped → d.length = 6 →
    Gives .emcyInhibitExpiry s (fun t => t.can.emcyQueue = l ∧
      Sent.can (s.cfg 0x1014 0 % 2048) (d ++ natLE 2 s.can.emcySeq.toNat) ∈ t.sent)) ∧
  (∀ (s : State) (path : Path), MayWrite s path 0x1003 0 →
    Gives (.errorHistoryClear path) s (fun t => t.can.history = [] ∧ Sent.answer path 0x1003 0 0 ∈ t.sent))

/-- A lower state is entered only with every guard clear, and settling ends in its target. In Run, a request for a lower state
over a path that may write it, with every guard of that state clear, begins Settling towards it; with a guard failing and
nothing else waiting it is held and BLOCKED names the guards. When the last guard of a held request clears, or the guards of
Drowse have held for the idle time, Settling begins. Its end, with Flush and the switches done, reaches the target with no
wake event latched and no request held, and with one latched goes to Waking; either sets ENTERED. Cites R392 (15), R393 (15),
R394 (15), R397 (15), R403 (15), R405 (15). -/
def Obligations.StateRequests : Prop :=
  (∀ (s : State) (n : Nat) (path : Path), MayWrite s path 0x2100 1 → s.dps.state = .run → 1 ≤ n → n ≤ 3 →
    s.guards (pwrOf n) (match path with | .house _ => true | _ => false) = 0 →
    Gives (.requestedStateWrite n path) s (fun t => t.dps.state = .settling ∧ t.dps.target = pwrOf n ∧ t.dps.request = none ∧
      Sent.answer path 0x2100 1 0 ∈ t.sent)) ∧
  (∀ (s : State) (n : Nat) (path : Path), Quiet s → MayWrite s path 0x2100 1 → s.dps.state = .run → 1 ≤ n → n ≤ 3 →
    s.guards (pwrOf n) (match path with | .house _ => true | _ => false) ≠ 0 →
    Gives (.requestedStateWrite n path) s (fun t => t.dps.state = .run ∧ t.dps.request = some (pwrOf n) ∧
      t.dps.blocked = BitVec.ofNat 6 (s.guards (pwrOf n) (match path with | .house _ => true | _ => false)) ∧
      Sent.answer path 0x2100 1 0 ∈ t.sent)) ∧
  (∀ (s : State) (v : PwrState), s.dps.request = some v → (s.dps.state = .run ∨ s.dps.state = .drowse) → s.guards v s.dps.requestHouse = 0 →
    Gives .entryGuardClear s (fun t => t.dps.state = .settling ∧ t.dps.target = v ∧ t.dps.fromState = s.dps.state)) ∧
  (∀ (s : State), s.dps.state = .run → s.cfg 0x2100 2 ≠ 0 → s.cfg 0x2100 1 = 0 → s.dps.request = none → s.guards .drowse false = 0 →
    Gives .drowseIdleExpiry s (fun t => t.dps.state = .settling ∧ t.dps.target = .drowse)) ∧
  (∀ (s : State), s.dps.state = .settling → s.settleReady = true → s.dps.latch = [] → s.dps.request = none →
    Gives .settlingDone s (fun t => t.dps.state = s.dps.target ∧ t.dps.evt.getLsbD 0 = true)) ∧
  (∀ (s : State), s.dps.state = .settling → s.settleReady = true → s.dps.latch ≠ [] →
    Gives .settlingDone s (fun t => t.dps.state = .waking ∧ t.dps.fromState = s.dps.target ∧ t.dps.evt.getLsbD 0 = true))

/-- Wake events wake the package, domains come up in turn, and losses lead to Shelf. WAKE_N wakes Drowse, Dormant and Shelf,
the alarm does once and is spent, and where enabled VBUS of the service port wakes Dormant and Shelf and an access wakes
Dormant. With room in the latch WAKE_N is latched at its place, in Settling and Waking too. The core PLL starts when the core
is powered; the last awaited domain leads to Run with the latch empty, where the core has not failed. A domain late twice
fails; a PG_MAIN late twice, or that falls, is Shelf at once, its fall with items, sessions and loans gone. In Run the core
voltage follows the Curator in 5 mV steps from 650 to 850 mV. Cites R391 (15), R395 (15), R396 (15), R397 (15), R398 (15),
R400 (15), R401 (15), R402 (15), R403 (15). -/
def Obligations.WakesAndDomains : Prop :=
  (∀ (s : State), (s.dps.state = .drowse ∨ s.dps.state = .dormant ∨ s.dps.state = .shelf) → s.dps.latch.length < 32 →
    Gives .wakeNFall s (fun t => t.dps.state = .waking ∧ t.dps.fromState = s.dps.state ∧
      t.dps.latch = Wake.insert ⟨7, 0, s.dps.slowEdges % 2097152⟩ s.dps.latch)) ∧
  (∀ (s : State), (s.dps.state = .settling ∨ s.dps.state = .waking) → s.dps.latch.length < 32 →
    Gives .wakeNFall s (fun t => t.dps.latch = Wake.insert ⟨7, 0, s.dps.slowEdges % 2097152⟩ s.dps.latch ∧
      t.dps.state = s.dps.state ∧ t.dps.overflows = s.dps.overflows)) ∧
  (∀ (s : State), s.regs.custAlarm ≠ 0 → (s.dps.state = .drowse ∨ s.dps.state = .dormant ∨ s.dps.state = .shelf) →
    Gives .alarmExpiry s (fun t => t.dps.state = .waking ∧ t.regs.custAlarm = 0)) ∧
  (∀ (s : State), (s.dps.state = .dormant ∨ s.dps.state = .shelf) → bitOf s.regs.custWakeEn.toNat 5 = true →
    Gives .servicePortVbusWake s (fun t => t.dps.state = .waking)) ∧
  (∀ (s : State), s.dps.state = .dormant → bitOf s.regs.custWakeEn.toNat 4 = true →
    Gives .dormantAccessWake s (fun t => t.dps.state = .waking)) ∧
  (∀ (s : State), s.awaits .core = true →
    Gives (.domainPowerGood .core) s (fun t => t.pll .core = ⟨.starting, 0, !s.clk.refEth⟩)) ∧
  (∀ (s : State) (d : Domain), s.awaits d = true → d ≠ .core → d ≠ .pgMain → s.dps.fromState ≠ .shelf → (s.domainUp d).domainsDone = true →
    s.dps.domainsFailed.contains .core = false →
    Gives (.domainPowerGood d) s (fun t => t.dps.state = .run ∧ t.dps.domainsUp.contains d = true ∧ t.dps.latch = [])) ∧
  (∀ (s : State) (d : Domain), s.awaits d = true → s.dps.retried.contains d = false →
    Gives (.powerGoodTimeout d) s (fun t => t.dps.retried = s.dps.retried ++ [d] ∧ t.dps.state = .waking)) ∧
  (∀ (s : State) (d : Domain), s.awaits d = true → s.dps.retried.contains d = true → d ≠ .pgMain →
    Gives (.powerGoodTimeout d) s (fun t => t.dps.domainsFailed.contains d = true ∧ t.dps.evt.getLsbD 2 = true)) ∧
  (∀ (s : State), s.awaits .pgMain = true → s.dps.retried.contains .pgMain = true →
    Gives (.powerGoodTimeout .pgMain) s (fun t => t.dps.state = .shelf ∧ t.dps.mainEn = false)) ∧
  (∀ (s : State), s.dps.state ≠ .shelf →
    Gives .pgMainLost s (fun t => t.dps.state = .shelf ∧ t.dps.mainEn = false ∧ t.items = [] ∧ t.sess = [] ∧ t.tenants = [] ∧
      t.dps.wakeFirst = (Wake.mk 0xA 0 s.dps.slowEdges).word)) ∧
  (∀ (s : State) (n : Nat), s.dps.state = .run →
    Gives (.coreVoltageUpdate n) s (fun t => t.dps.coreMv = max 650 (min 850 (n / 5 * 5)) ∧
      (s.dps.coreMv ≠ max 650 (min 850 (n / 5 * 5)) → Sent.avs (max 650 (min 850 (n / 5 * 5))) ∈ t.sent)))

/-- Vault items and templates are accepted, issued to the drives and completed as R278 to R287 say. In Run, with the loan not
Paused, nothing waiting, and the range in the allotment of its principal and its drives working: a VAULT_READ has a Read of
each written part in hand, sent or waiting for the Vault attachment, and where none is written completes with the count of
unwritten blocks; a VAULT_WRITE is an open item that awaits its bytes; a VAULT_FLUSH sends Flush to every drive of the
allotment, and with none completes; a VAULT_DEALLOCATE of whole regions clears the written bit of every one, and with none
written at all completes. A TEMPLATE_LOAD for slots 0 to 7 awaits 352 bytes. Cites R278 (10), R279 (10), R280 (10), R282 (10),
R283 (10), R284 (10), R287 (10), R153 (05). -/
def Obligations.VaultItems : Prop :=
  (∀ (s : State) (r : Rec) (a n : Nat), Taken s r 16 → Quiet s → s.dps.state = .run → (s.getTenants (owner s r)).loan ≠ .paused →
    (itemOf s r 0x60).f 0 8 = a → (itemOf s r 0x60).f 8 4 = n → 1 ≤ n → n ≤ 1024 →
    s.inAllot (owner s r) a n = true → s.badDrive (s.parts (owner s r) a n) = false → s.vault.cmds.length < 60000 →
    Gives (.vaultRead r) s (fun t =>
      (∀ x ∈ s.parts (owner s r) a n, s.isWritten x.1 = true → t.vault.cmds.any (fun e => decide (e.2.item = some (keyOf s r)) &&
        decide (e.2.drive = s.driveOf x.1) && decide (e.2.op = 0) && decide (e.2.lba = s.lbaOf x.1 + x.2.1) &&
        decide (e.2.blocks = x.2.2.1)) = true) ∧
      ((s.parts (owner s r) a n).all (fun x => !s.isWritten x.1) = true →
        Answered s t r 0 0 (natBE 4 (sumOf ((s.parts (owner s r) a n).map (fun x => x.2.2.1))) ++ zeros 4)))) ∧
  (∀ (s : State) (r : Rec) (a n : Nat), Taken s r 16 → Quiet s → s.dps.state = .run → (s.getTenants (owner s r)).loan ≠ .paused →
    (itemOf s r 0x61).f 0 8 = a → (itemOf s r 0x61).f 8 4 = n → 1 ≤ n → n ≤ 1024 →
    s.inAllot (owner s r) a n = true →
    Gives (.vaultWrite r) s (fun t => t.hasItem (keyOf s r) = true ∧ (t.getItems (keyOf s r)).vault = a ∧
      (t.getItems (keyOf s r)).blocks = n ∧ (t.getItems (keyOf s r)).length = n * 4096)) ∧
  (∀ (s : State) (r : Rec), Taken s r 0 → Quiet s → s.dps.state = .run → (s.getTenants (owner s r)).loan ≠ .paused → s.vault.enabled = true →
    Gives (.vaultFlush r) s (fun t => (∀ d ∈ s.drivesOf (owner s r), Sent.nvme d 2 0 0 false ∈ t.sent) ∧
      (s.drivesOf (owner s r) = [] → Answered s t r 0 0 []))) ∧
  (∀ (s : State) (r : Rec) (a n : Nat), Taken s r 12 → Quiet s → s.dps.state = .run → (s.getTenants (owner s r)).loan ≠ .paused → 
    (itemOf s r 0x63).f 0 8 = a → (itemOf s r 0x63).f 8 4 = n → a % 256 = 0 →
    n % 256 = 0 → s.inAllot (owner s r) a n = true → s.badDrive (s.parts (owner s r) a n) = false →
    (∀ x ∈ s.parts (owner s r) a n, s.regionOfKey (s.physOf x.1) = some x.1) →
    Gives (.vaultDeallocate r) s (fun t => (∀ x ∈ s.parts (owner s r) a n, t.isWritten x.1 = false) ∧
      (s.vault.written = [] → Answered s t r 0 0 []))) ∧
  (∀ (s : State) (r : Rec), Taken s r 8 → Quiet s → (itemOf s r 0x64).f 0 1 ≤ 7 → (itemOf s r 0x64).f 4 4 = 352 →
    Gives (.templateLoad r) s (fun t => t.hasItem (keyOf s r) = true ∧ (t.getItems (keyOf s r)).length = 352))

/-- The Vault goes on and off, and its commands and drives succeed and fail, as R270 to R281 say. With nothing waiting: in
service and Run a write takes the drives that report and have a root port up, and the Vault is enabled, or waits for a
clearing command in hand: at once with no bit written and no clearing in hand, and otherwise when the one clearing command in
hand completes; with no Vault item open a write of 0 disables it. A write command that completes stores its data; a first
error is counted and the command sent once more as it was. A timeout of a command that serves no item is counted against its
drive; with no command in hand that serves an item and a slot for the fault, the second in succession, a fatal status and a
lost link each fail a drive that is up. Cites R273 (10), R274 (10), R277 (10), R278 (10), R281 (10), R304 (10), R305 (10). -/
def Obligations.DriveCommands : Prop :=
  (∀ (s : State) (d : DriveReps), Quiet s → s.inService = true → s.dps.state = .run → s.vault.enabled = false → s.vault.enabling = false →
    Gives (.vaultEnable d) s (fun t => (t.vault.enabled = true ∨ (t.vault.enabling = true ∧ t.clearing = true)) ∧
      (∀ n ∈ [1, 2, 3, 4, 5, 6, 7, 8], (t.drive n).up = (s.drivesFound d).any (fun (x : DriveRep) => decide (x.drive = n))))) ∧
  (∀ (s : State) (d : DriveReps), Quiet s → s.inService = true → s.dps.state = .run → s.vault.enabled = false → s.vault.enabling = false →
    s.vault.written = [] → s.clearing = false → Gives (.vaultEnable d) s (fun t => t.vault.enabled = true)) ∧
  (∀ (s : State) (n : Nat) (c : Nvme), Quiet s → s.vault.cmds = [(n, c)] → c.issued = true → c.op = 5 → c.item = none → c.chan = none →
    c.job = none → s.vault.enabling = true → Gives (.nvmeCommandComplete n true) s (fun t => t.vault.enabled = true)) ∧
  (∀ (s : State) (path : Path), Quiet s → MayWrite s path 0x2300 2 →
    Gives (.vaultDisable path) s (fun t => t.vault.enabled = false ∧ (∀ n ∈ [1, 2, 3, 4, 5, 6, 7, 8], (t.drive n).up = false) ∧
      Sent.answer path 0x2300 2 0 ∈ t.sent)) ∧
  (∀ (s : State) (n : Nat) (c : Nvme), Quiet s → s.cmd? n = some c → c.op = 1 →
    Gives (.nvmeCommandComplete n true) s (fun t => ∀ k ∈ List.range c.data.length,
      SMap.get 0 t.vault.data (s.physOf c.region * 1048576 + c.chunk * 4096 + k) = c.data.getD k 0)) ∧
  (∀ (s : State) (n : Nat) (c : Nvme), Quiet s → s.cmd? n = some c → c.retried = false → s.flt.safeStop = false →
    Gives (.nvmeCommandComplete n false) s (fun t => t.vault.errors = satAdd s.vault.errors 1 ∧
      Sent.nvme c.drive c.op c.lba c.blocks c.fua ∈ t.sent)) ∧
  (∀ (s : State) (n : Nat) (c : Nvme), Quiet s → s.cmd? n = some c → c.item = none → (s.drive c.drive).timeouts = 0 →
    Gives (.nvmeCommandTimeout n) s (fun t => t.vault.errors = satAdd s.vault.errors 1 ∧ (t.drive c.drive).timeouts = 1)) ∧
  (∀ (s : State) (n : Nat) (c : Nvme), Quiet s → s.cmd? n = some c → s.vault.cmds.all (fun e => decide (e.2.item = none)) = true →
    s.noSlot (s.recOf 0x28 c.drive) = false → 1 ≤ (s.drive c.drive).timeouts → (s.drive c.drive).up = true →
    (s.drive c.drive).failed = false →
    Gives (.nvmeCommandTimeout n) s (fun t => (t.drive c.drive).failed = true ∧ (t.drive c.drive).up = false)) ∧
  (∀ (s : State) (n : Nat), 1 ≤ n → n ≤ 8 → Quiet s → s.vault.cmds.all (fun e => decide (e.2.item = none)) = true →
    s.noSlot (s.recOf 0x28 n) = false → (s.drive n).up = true → (s.drive n).failed = false →
    Gives (.controllerFatalStatus n) s (fun t => (t.drive n).failed = true ∧ (t.drive n).up = false)) ∧
  (∀ (s : State) (n : Nat), 1 ≤ n → n ≤ 8 → Quiet s → s.vault.cmds.all (fun e => decide (e.2.item = none)) = true →
    s.noSlot (s.recOf 0x28 n) = false → (s.drive n).up = true → (s.drive n).failed = false →
    Gives (.driveLinkDown n) s (fun t => (t.drive n).failed = true ∧ (t.drive n).up = false))

/-- Fan-out jobs start, answer, are cancelled and move their targets as R290 to R297 say. In Run, with the loan not Paused and
nothing waiting, a FANOUT_START that passes every check takes the lowest job slot under its accession number. FANOUT_STATUS,
with no job running, of a job that has ended is answered with its result, and FANOUT_CANCEL ends a running job with CANCELLED
0x37. A matching status confirms the chunk of a target that does not verify; a status that is late is retried within the
limit, else ends the target. With a status phase to come, verified data gives a verdict by the chunk's reference. When its
time has passed an ended job's slot is freed. Cites R287 (10), R288 (10), R290 (10), R291 (10), R293 (10), R294 (10), R295
(10), R296 (10), R297 (10). -/
def Obligations.FanoutJobs : Prop :=
  (∀ (s : State) (r : Rec), Taken s r 32 → Quiet s → s.dps.state = .run → (s.getTenants (owner s r)).loan ≠ .paused → 
    (itemOf s r 0x65).f 0 1 ≤ 7 →
    (s.jobOf (keyOf s r) (itemOf s r 0x65)).tmpl ≠ [] → (s.jobOf (keyOf s r) (itemOf s r 0x65)).targets ≠ [] →
    (s.jobOf (keyOf s r) (itemOf s r 0x65)).targets.length ≤ 256 →
    32 + 32 * (s.jobOf (keyOf s r) (itemOf s r 0x65)).targets.length ≤ r.body.length →
    (s.jobOf (keyOf s r) (itemOf s r 0x65)).blocks ≠ 0 → 2 ≤ (s.jobOf (keyOf s r) (itemOf s r 0x65)).window →
    ((s.jobOf (keyOf s r) (itemOf s r 0x65)).coll = true ∨ (s.jobOf (keyOf s r) (itemOf s r 0x65)).jobId = 0) →
    ((s.jobOf (keyOf s r) (itemOf s r 0x65)).upstream = true ∨ s.inAllot (owner s r) (s.jobOf (keyOf s r) (itemOf s r 0x65)).tlba
      (s.jobOf (keyOf s r) (itemOf s r 0x65)).blocks = true) →
    (s.jobOf (keyOf s r) (itemOf s r 0x65)).targets.findSome? (s.targetRefusal (s.jobOf (keyOf s r) (itemOf s r 0x65))) = none →
    ((s.jobOf (keyOf s r) (itemOf s r 0x65)).targets.flatMap (fun t => t.pipes.eraseDups)).eraseDups.length =
      ((s.jobOf (keyOf s r) (itemOf s r 0x65)).targets.flatMap (fun t => t.pipes.eraseDups)).length →
    s.poolHas (s.jobOf (keyOf s r) (itemOf s r 0x65)).winKib = true →
    Gives (.fanoutStart r) s (fun t => (t.job 0).taken = true ∧ (t.job 0).acc = r.acc ∧ (t.job 0).principal = owner s r)) ∧
  (∀ (s : State) (r : Rec) (n : Nat), Taken s r 8 → Quiet (s.modVault (fun v => { v with jobs := [] })) → s.vault.jobs.all (fun e => !e.2.active) = true →
    s.jobSlot (owner s r) ((itemOf s r 0x66).f 0 6) = some n →
    Gives (.fanoutStatus r) s (fun t => Answered s t r 0 0 ((s.job n).body true))) ∧
  (∀ (s : State) (r : Rec) (n : Nat) (i : Item), Taken s r 8 → s.jobSlot (owner s r) ((itemOf s r 0x67).f 0 6) = some n → (s.job n).active = true →
    s.item? (s.job n).item = some i → s.inProgress (s.job n).item i = true → i.cause = none →
    Gives (.fanoutCancel r) s (fun t => (t.job n).active = false ∧ (t.job n).outcome = some (0x07, 0x37) ∧
      t.hasItem (keyOf s r) = false)) ∧
  (∀ (s : State) (j n : Nat) (d : Bytes), j < 16 → s.inExchange j n = true → (s.job j).statusOk ((s.job j).target n) d = true →
    ((s.job j).target n).state ≠ .verifying →
    Gives (.exchangeStatus j n d) s (fun t => ((t.job j).target n).written = ((s.job j).target n).written + 1)) ∧
  (∀ (s : State) (j n : Nat), j < 16 → s.inExchange j n = true → ((s.job j).target n).retries < s.cfg 0x2305 0 →
    Gives (.statusPhaseTimeout j n) s (fun t => ((t.job j).target n).retries = ((s.job j).target n).retries + 1)) ∧
  (∀ (s : State) (j n : Nat), j < 16 → s.inExchange j n = true → s.cfg 0x2305 0 ≤ ((s.job j).target n).retries →
    Gives (.statusPhaseTimeout j n) s (fun t => ((t.job j).target n).state = .ended ∧ ((t.job j).target n).outcome = 0x04 ∧
      ((t.job j).target n).detail = 0x22)) ∧
  (∀ (s : State) (j n : Nat) (d : Bytes), j < 16 → s.inExchange j n = true → ((s.job j).target n).state = .verifying →
    ((s.job j).target n).repairing = false → (s.job j).tf 5 1 ≠ 0 →
    Gives (.verifyReadComplete j n d) s (fun t => ((t.job j).target n).verdict =
      some (decide (SMap.get none (s.job j).checks ((s.job j).target n).chunk = some ((s.job j).crcOf ((s.job j).target n).chunk d))))) ∧
  (∀ (s : State) (j : Nat), j < 16 → (s.job j).active = false → Gives (.jobResultRetentionExpiry j) s (fun t => t.job j = Job.reset))

/-- A capture starts on a pipe that may be captured, and a stop takes it out of its running stage. In Run, with the loan not
Paused, nothing waiting and no result of a split in hand, a CAPTURE_START on an open IN pipe of its principal that nothing
holds, with records that divide a range of the allotment, is a capture that holds the pipe. A CAPTURE_STOP of a running
capture takes it out of its running stage. Cites R282 (10), R284 (10), R300 (10). -/
def Obligations.Captures : Prop :=
  (∀ (s : State) (r : Rec) (n : Nat), Taken s r 24 → Quiet s → NoResult s → s.dps.state = .run → (s.getTenants (owner s r)).loan ≠ .paused → 
    (itemOf s r 0x68).f 0 4 % 1048576 = n → s.holdsPipe (owner s r) n = true →
    (s.getPipes n).state = .opened → (s.getPipes n).typ ≠ 0 → (s.getPipes n).dirIn = true → (s.getPipes n).heldBy = .none →
    (itemOf s r 0x68).f 20 2 ≠ 0 → (itemOf s r 0x68).f 20 2 ≤ 1024 → (itemOf s r 0x68).f 16 4 ≠ 0 →
    (itemOf s r 0x68).f 16 4 % (itemOf s r 0x68).f 20 2 = 0 →
    (if (s.getPipes n).typ = 1 then 1 ≤ (itemOf s r 0x68).f 22 2 ∧ (itemOf s r 0x68).f 22 2 ≤ 1024 else (itemOf s r 0x68).f 22 2 = 0) →
    (if (s.getPipes n).stream = 0 then (itemOf s r 0x68).f 4 2 = 0
      else 1 ≤ (itemOf s r 0x68).f 4 2 ∧ (itemOf s r 0x68).f 4 2 ≤ (s.getPipes n).stream) →
    s.inAllot (owner s r) ((itemOf s r 0x68).f 8 8) ((itemOf s r 0x68).f 16 4) = true →
    Gives (.captureStart r) s (fun t => (t.getPipes n).heldBy = .capture (keyOf s r) ∧
      t.vault.captures.any (fun c => decide (c.item = keyOf s r) && decide (c.acc = r.acc) && decide (c.pipe = n) &&
        decide (c.blocks = (itemOf s r 0x68).f 16 4)) = true)) ∧
  (∀ (s : State) (r : Rec) (c : Capt), Taken s r 8 → s.vault.captures = [c] → c.principal = owner s r → c.acc = (itemOf s r 0x69).f 0 6 →
    (s.getItems c.item).op = 0x68 → (s.getItems c.item).stage = 1 →
    Gives (.captureStop r) s (fun t => (t.getItems c.item).stage ≠ 1))

/-- Mover channels run, halt, resume, skip and stop as R313 to R320 say. With nothing else waiting and no parity mismatch or
injection in hand: GO of an idle operator channel fetches the descriptor at CH_HEAD and runs, or halts where it fails a check;
RESUME of one halted by a check fetches again; SKIP of the last descriptor leaves it Idle; STOP of a running channel is
Stopping with cause 1, and its end is Idle with that cause. A move of one line within the area, none of it moved yet, puts the
source bytes at the destination and counts them, and the last descriptor ends Idle. A bus error halts with its cause and
address; a short pipe transfer halts where the descriptor asks. Cites R306 (11), R311 (11), R313 (11), R315 (11), R316 (11),
R317 (11), R319 (11), R320 (11). -/
def Obligations.MoverChannels : Prop :=
  (∀ (s : State) (c : Nat), Quiet (s.modMov (fun m => { m with chans := [] })) → s.coreServes = true → s.boot.phase = .service → 16 ≤ c → c < 32 →
    (s.chan c).state = .idle → s.regs.parBad = [] → s.flt.injArmed = false →
    Gives (.go c) s (fun t => (t.chan c).state =
        (if s.descCheck (s.chan c).head (s.areaRead (s.chan c).head 64) = 0 then .running else .halted) ∧
      (t.chan c).cur = (s.chan c).head % 8388608)) ∧
  (∀ (s : State) (c : Nat), Quiet (s.modMov (fun m => { m with chans := [] })) → s.coreServes = true → s.boot.phase = .service → 16 ≤ c → c < 32 →
    (s.chan c).state = .halted → 0x20 ≤ (s.chan c).cause →
    Gives (.resume c) s (fun t => (t.chan c).state =
      if s.descCheck (s.chan c).cur (s.areaRead (s.chan c).cur 64) = 0 then .running else .halted)) ∧
  (∀ (s : State) (c : Nat), Quiet (s.modMov (fun m => { m with chans := [] })) → s.coreServes = true → s.boot.phase = .service → 16 ≤ c → c < 32 →
    (s.chan c).state = .halted → ctl (s.chan c).desc 10 = true →
    Gives (.skip c) s (fun t => (t.chan c).state = .idle ∧ (t.chan c).evt.getLsbD 0 = true ∧ t.mov.descs = satAdd s.mov.descs 1)) ∧
  (∀ (s : State) (c : Nat), Quiet (s.modMov (fun m => { m with chans := [] })) → s.coreServes = true → s.boot.phase = .service → 16 ≤ c → c < 32 →
    (s.chan c).state = .running →
    Gives (.stop c) s (fun t => (t.chan c).state = .stopping ∧ (t.chan c).stopCause = 1)) ∧
  (∀ (s : State) (c : Nat), Quiet (s.modMov (fun m => { m with chans := [] })) → c < 32 → (s.chan c).state = .stopping →
    Gives (.stoppingComplete c) s (fun t => (t.chan c).state = .idle ∧ (t.chan c).cause = (s.chan c).stopCause)) ∧
  (∀ (s : State) (c a b n x y : Nat) (d : Bytes), Quiet (s.modMov (fun m => { m with chans := [] })) → c < 32 → (s.chan c).moving = true → (s.chan c).unitCfg = none →
    (s.chan c).got = [] → (s.chan c).bytes = 0 → s.flt.injArmed = false →
    srcSide (s.chan c).desc = (0, a, n, x, 1) → dstSide (s.chan c).desc = (0, b, n, y, 1) → a + n ≤ s.areaSize → b + n ≤ s.areaSize →
    (b + n ≤ (s.chan c).cur ∨ (s.chan c).cur + 64 ≤ b) → ctl (s.chan c).desc 10 = true →
    Gives (.descriptorEnd c d) s (fun t => t.areaRead b n = s.areaRead a n ∧ (t.chan c).state = .idle ∧
      t.mov.descs = satAdd s.mov.descs 1 ∧ t.mov.moved = satAdd s.mov.moved n)) ∧
  (∀ (s : State) (c : Nat) (e : BusErr), Quiet (s.modMov (fun m => { m with chans := [] })) → c < 32 → (s.chan c).state = .running →
    Gives (.moverBusError c e) s (fun t => (t.chan c).state = .halted ∧ (t.chan c).cause = e.cause ∧
      (t.chan c).errAddr = BitVec.ofNat 64 e.addr ∧ t.mov.busErrs = satAdd s.mov.busErrs 1)) ∧
  (∀ (s : State) (c : Nat) (d : Bytes), Quiet (s.modMov (fun m => { m with chans := [] })) → c < 32 → (s.chan c).moving = true → (srcSide (s.chan c).desc).1 = 2 →
    d.length < sideTotal (srcSide (s.chan c).desc) → ctl (s.chan c).desc 9 = true →
    Gives (.pipeShortEnd c d) s (fun t => (t.chan c).state = .halted ∧ (t.chan c).cause = 3))

/-- Check units, the window, scans, scrub passes and zeroing act as R308 and R322 to R337 say. With nothing else waiting and
no parity mismatch or injection in hand: a free unit goes to the channel that waits for it. GO of the scan engine over the
mover area with a valid setting is busy, and with one of units 0 to 7 sets PROG_ERR. A scan of the mover area that ends holds
the value of its unit over the bytes. A Conservator pass that found one corrected word is counted, with the word kept for the
next pass; one that found one uncorrectable word of a free context is counted and latches it. An aligned word written through
the window is in the area, and a read gives the word there. A region zeroed is no longer being zeroed. Cites R308 (11), R322
(11), R325 (11), R327 (11), R333 (12), R334 (12), R336 (12), R337 (12), R340 (12). -/
def Obligations.UnitsScansAndMemories : Prop :=
  (∀ (s : State) (n c : Nat), Quiet (s.modMov (fun m => { m with chans := [] })) → n < 16 → (s.unit n).busy = false → s.scanWaits n = false →
    s.unitNext n = some c → checkUnit (s.chan c).desc = n → ctl (s.chan c).desc 11 = true → s.regs.parBad = [] → s.flt.injArmed = false →
    Gives (.checkUnitFree n) s (fun t => (t.unit n).busy = true ∧ (t.unit n).user = some c ∧ (t.chan c).waitUnit = false ∧
      (t.chan c).unitCfg = some (s.unit n).cfg)) ∧
  (∀ (s : State) (a : Nat) (w : Word), s.coreServes = true → s.boot.phase = .service → 0x380000 ≤ a → a ≤ 0x3BFFFF → a % 4 = 0 →
    s.windowAt a + 4 ≤ s.areaSize →
    Gives (.moverWindowAccess a (some w)) s (fun t => t.areaRead (s.windowAt a) 4 = natLE 4 w.toNat)) ∧
  (∀ (s : State) (a : Nat), s.coreServes = true → s.boot.phase = .service → 0x380000 ≤ a → a ≤ 0x3BFFFF → a % 4 = 0 →
    Gives (.moverWindowAccess a none) s (fun t => Sent.reg a (BitVec.ofNat 32 (leNat (s.areaRead (s.windowAt a) 4))) ∈ t.sent)) ∧
  (∀ (s : State) (w : Word), Quiet s → s.coreServes = true → s.boot.phase = .service → s.mov.scanBusy = false → s.regs.parBad = [] →
    s.flt.injArmed = false → bitOf w.toNat 0 = true →
    8 ≤ bitsOf w.toNat 2 4 → (s.unit (bitsOf w.toNat 2 4)).cfg.ok = true → (s.unit (bitsOf w.toNat 2 4)).cfg.locator ≠ 1 → bitOf w.toNat 1 = false →
    Gives (.scanGo w) s (fun t => t.mov.scanBusy = true ∧ t.mov.scanMatch = false ∧ t.mov.scanCompare = bitOf w.toNat 6 ∧
      (t.unit (bitsOf w.toNat 2 4)).busy = true)) ∧
  (∀ (s : State) (w : Word), Quiet s → s.coreServes = true → s.boot.phase = .service → s.mov.scanBusy = false → s.regs.parBad = [] →
    s.flt.injArmed = false → bitOf w.toNat 0 = true →
    bitsOf w.toNat 2 4 < 8 → Gives (.scanGo w) s (fun t => t.mov.scanBusy = false ∧ t.mov.scanProg = true)) ∧
  (∀ (s : State), Quiet s → s.mov.scanBusy = true → s.scanWaits s.mov.scanUnit = false → s.mov.scanKind = false → s.chanCmds 32 = false →
    Gives .scanComplete s (fun t => t.mov.scanBusy = false ∧ t.mov.scanDone = true ∧
      t.mov.scanResult = s.mov.scanCfg.value (s.mov.scanAddr.toNat / 4096) (s.areaRead s.mov.scanAddr.toNat s.mov.scanLen.toNat) ∧
      (t.unit s.mov.scanUnit).busy = false)) ∧
  (∀ (s : State) (a : Nat), Quiet s → s.flt.injArmed = false →
    Gives (.scrubPass [⟨0, a, false⟩]) s (fun t => t.mem.passes = satAdd s.mem.passes 1 ∧ t.mem.pipeCorr = satAdd s.mem.pipeCorr 1 ∧
      t.mem.corrTotal = satAdd s.mem.corrTotal 1 ∧ t.mem.passCorr = [] ∧
      t.mem.prevCorr = if s.mem.passCorr.contains (memWord ⟨0, a, false⟩) then s.mem.passCorr else s.mem.passCorr ++ [memWord ⟨0, a, false⟩])) ∧
  (∀ (s : State) (a : Nat), Quiet s → s.flt.injArmed = false → s.mem.uncValid = false → (s.getPipes (a / 64)).state = .free →
    Gives (.scrubPass [⟨0, a, true⟩]) s (fun t => t.mem.passes = satAdd s.mem.passes 1 ∧ t.mem.uncValid = true ∧
      t.mem.uncAddr = BitVec.ofNat 26 a ∧ t.mem.uncMem = 0 ∧ t.mem.uncTotal = satAdd s.mem.uncTotal 1)) ∧
  (∀ (s : State) (r : Region), s.mem.zeroing.contains r = true →
    Gives (.regionZeroingDone r) s (fun t => t.mem.zeroing = s.mem.zeroing.erase r))

/-- A step takes the command at the front of the queue; on an empty queue a microsecond passes. For every command c and state
s, a step of s with c at the front of its queue is exec of c on s with the queue's rest. On an empty queue the step is the
tick (the model's choice, log entry 1). Cites 01_organisation.md, 09_frame_timing.md. -/
def Obligations.StepTakesFront : Prop :=
  (∀ (s : State) (c : Instr) (l : List Instr), s.pending = c :: l → step s = exec c { s with pending := l }) ∧
  (∀ (s : State), s.pending = [] → step s = .next s.tick)

/-- Every command answers a next state that leaves the queue as it is, or names a unit that does not exist. In every state, a
command answers a next state with the same queue of waiting commands, or a fault that names a unit outside its range. No
command is refused. Cites 00_scope.md, 01_organisation.md, R5 (00), R15 (01). -/
def Obligations.CommandsAnswer : Prop :=
  ∀ (s : State) (c : Instr), (∃ t, exec c s = .next t ∧ t.pending = s.pending) ∨ (∃ (k : String) (n : Nat), exec c s = .fault (.noSuchUnit k n))

/-- Every step keeps the canonical form of the memories and of the maps of units. From every state whose mover area, Vault
data, image slots and maps of ports, galleries, pipes, items, sessions and principals are in canonical form, a step answers a
state of which the same holds, whatever the command, and on the tick. Cites R278 (10), R328 (12), R338 (12), R439 (17). -/
def Obligations.StepKeepsForm : Prop :=
  ∀ (s t : State), MemoriesOk s → UnitsOk s → step s = .next t → MemoriesOk t ∧ UnitsOk t

/-- The reset state has the canonical form and no command waits in it. At reset the memories and the maps of units are in
canonical form, no command waits and no output has been sent. Cites R429 (17), R328 (12). -/
def Obligations.ResetForm : Prop :=
  MemoriesOk State.reset ∧ UnitsOk State.reset ∧ State.reset.pending = [] ∧ State.reset.sent = []

/-- No step changes a fuse, lowers the anti-rollback floor or takes back an output. Whatever the command, and on the tick, a
step keeps the key hashes, revocations, debug fuse, grade, serial number, addresses and certificate, never lowers the
anti-rollback floor, keeps every output sent so far in its order, and only takes free values that were not taken before. Cites
R438 (17), R443 (17), R447 (17), R448 (17). -/
def Obligations.StepKeepsFuses : Prop :=
  ∀ (s t : State), step s = .next t → FusesKept s t ∧ s.sent <+: t.sent ∧ s.freeCtr ≤ t.freeCtr

/-- Each command's own effect reaches only the groups of the state listed for it. For every command and state: what the
command itself does, before the pass that follows every command, leaves every group of the state that is not listed for it in
mayChange as it was. The groups are the ports' USB, power, protection, timing and buffer state, the galleries, pipes, items,
sessions, principals, the Catalogue, CAN, the board's queues, the register space, clocks and hub time, upstream, PTP,
Collection, power state, service port, faults, boot with its images, debug, memories, the Vault with its bytes, and the movers
with the area's bytes. Cites R43 (02), R67 (02), R88 (03), R94 (03), R252 (08), R328 (12), R438 (17), R448 (17). -/
def Obligations.CommandsKeepTheRest : Prop :=
  ∀ (s : State) (c : Instr), OwnEffect c s (fun u => ∀ (g : Group), g ∉ mayChange c → g.Same s u)

/-- The pass after a command leaves whole groups alone, and with nothing waiting only PLLs start. The pass that follows a
command changes no board queue, no upstream link, no PTP, service port, boot, image or debug state, no hub time, and takes no
command. Where nothing waits it changes only the clocks: it starts PLLs that are needed. Cites R151 (05), R210 (07), R284
(10), R30 (01). -/
def Obligations.PassKeepsTheRest : Prop :=
  (∀ (s : State), ∀ g ∈ [Group.board, .upl, .ptp, .svc, .boot, .dbg, .time, .imgs], g.Same s s.settle) ∧
  (∀ (s : State), s.settle.pending = s.pending) ∧
  (∀ (s : State), Quiet s → { s.settle with clk := s.clk, sent := s.sent, freeCtr := s.freeCtr } = s ∧
    s.settle.clk.hubTime = s.clk.hubTime ∧ s.settle.clk.evt = s.clk.evt)

/-- Events and timers of one port leave every other port as it was. In every state, and whatever the port does with them, the
listed link, CC, cable, contract and protection events of one port leave the USB state, the contract, the protection, the
timebase and the buffer of every other port as they were. So do the end of a SET_ADDRESS recovery and the release of an
address, after which the port's bus may be served, where no result of a split waits and no split of the gallery waits for a
translator buffer. Cites R94 (03), R182 (06), R196 (06), R252 (08), R342 (13), R371 (14). -/
def Obligations.OtherPortsKept : Prop :=
  (∀ (s t : State) (p q l : Nat) (off : Int) (x y : CcPin) (h v : Word) (k : CableCaps) (m : Option Nat) (b : Bool) (c : Instr), q ≠ p →
    c ∈ [.recoveryWindowExpiry p, .idleSuspendExpiry p, .l1IdleExpiry ⟨p, m⟩, .rdOnOneCc p x y,
      .rdLost p, .unattachedDrainDone p, .vconnFault p, .discoverIdentityInterval p, .cableIdentityReceived p h v k,
      .bc12PrimaryDetection p, .rpCurrentAdjustExpiry p, .eprModeEnter p, .getSourceCap p, .offsetMeasurement p,
      .offsetMeasurementEnd p off, .prechargeDone p, .rampSafePoint p, .retryClearExpiry p, .u1U2InactivityTimeout p b, .deviceInitiatedLinkEntry p l] →
    exec c s = .next t → SamePort s t q) ∧
  (∀ (s t : State) (p q a : Nat) (c : Instr), q ≠ p → NoResult s → (s.getGals (galOf p)).npWaiting = [] →
    c ∈ [.setAddressRecoveryExpiry p, .addressRelease p a] → exec c s = .next t → SamePort s t q)

/-- A store changes only the bytes it is a store to. A word written in the mover window changes no byte of the area outside
its four, and a word read there none with no injection armed. A descriptor's end changes no byte of the Vault, and with no
injection armed no byte of the area outside its destination lines and the descriptor itself. A write command that completes
changes no byte of the Vault outside its data. Image bytes written above offset 0 change no other byte of the slot that does
not run, and never the slot that runs. Cites R278 (10), R308 (11), R311 (11), R312 (11), R316 (11), R442 (17). -/
def Obligations.StoresTouchTheirBytes : Prop :=
  (∀ (s : State) (a k : Nat) (w : Word), OwnEffect (.moverWindowAccess a (some w)) s (fun u => (k < s.windowAt a ∨ s.windowAt a + 4 ≤ k) →
    SMap.get 0 u.mov.area k = SMap.get 0 s.mov.area k)) ∧
  (∀ (s : State) (a k : Nat), s.flt.injArmed = false → OwnEffect (.moverWindowAccess a none) s (fun u =>
    SMap.get 0 u.mov.area k = SMap.get 0 s.mov.area k)) ∧
  (∀ (s : State) (c k : Nat) (d : Bytes), s.flt.injArmed = false → OwnEffect (.descriptorEnd c d) s (fun u =>
    (k < (s.chan c).cur ∨ (s.chan c).cur + 64 ≤ k) →
    ((dstSide (s.chan c).desc).1 = 0 → ∀ o ∈ sideLines (dstSide (s.chan c).desc), k < o ∨ o + (dstSide (s.chan c).desc).2.2.1 ≤ k) →
    SMap.get 0 u.mov.area k = SMap.get 0 s.mov.area k)) ∧
  (∀ (s : State) (c : Nat) (d : Bytes), OwnEffect (.descriptorEnd c d) s (fun u => u.vault.data = s.vault.data)) ∧
  (∀ (s : State) (n k : Nat) (c : Nvme) (ok : Bool), s.cmd? n = some c → OwnEffect (.nvmeCommandComplete n ok) s (fun u =>
    (c.op ≠ 1 ∨ ok = false ∨ k < s.physOf c.region * 1048576 + c.chunk * 4096 ∨
      s.physOf c.region * 1048576 + c.chunk * 4096 + c.data.length ≤ k) →
    SMap.get 0 u.vault.data k = SMap.get 0 s.vault.data k)) ∧
  (∀ (s : State) (o k : Nat) (d : Bytes) (path : Path), MayWrite s path 0x2701 1 → o ≠ 0 → OwnEffect (.imageWrite o d path) s (fun u =>
    (if s.boot.slot then u.boot.imgB = s.boot.imgB else u.boot.imgA = s.boot.imgA) ∧
    ((k < o ∨ o + d.length ≤ k) → u.imgByte (!s.boot.slot) k = s.imgByte (!s.boot.slot) k)))

/-- In normal service an RV read returns 0, an RV write is ignored, and either sets RV_IN_SERVICE. In normal service, at the
address of any voted view, a read answers 0 and sets VOTE_STAT.RV_IN_SERVICE, whatever parity or injection waits there; a
write changes nothing of the state but that bit. Cites R79 (02). -/
def Obligations.VotedViewsInService : Prop :=
  (∀ (s : State) (a : Nat), (viewAt a).isSome = true → s.inService = true → s.coreServes = true → s.boot.phase = .service →
    Gives (.rvAccess a none) s (fun t => Sent.reg a 0 ∈ t.sent ∧ t.regs.rvInService = true)) ∧
  (∀ (s : State) (a : Nat) (v : Word), (viewAt a).isSome = true → s.inService = true → s.coreServes = true → s.boot.phase = .service →
    Gives (.rvAccess a (some v)) s (fun t => t = { s with regs := { s.regs with rvInService := true } }))

/-- A Custodian write made while BUSY reads 1 is dropped, named by its address and raised as a Note fault. In normal service
with CUST_STAT.BUSY at 1, a write of either posted register leaves the write in hand as it is, sets WRITE_LOST, keeps the
address in LOST_ADDR unless one is kept already, and counts a fault of class Note. Cites R71 (02). -/
def Obligations.CustodianWriteDropped : Prop :=
  ∀ (s : State) (a : Nat) (v : Word), s.inService = true → s.coreServes = true → s.boot.phase = .service → (a = 0x10000 ∨ a = 0x10004) → s.regs.custBusy = true →
    Gives (.rwpWrite a v) s (fun t => t.regs = { s.regs with
        writeLost := true, lostAddr := if s.regs.writeLost then s.regs.lostAddr else BitVec.ofNat 16 a } ∧
      t.flt.total = bumpAt 0 0xFFFFFFFF s.flt.total ∧ t.flt.pending.getLsbD 0 = true)

/-- An offset measurement beyond 400 sample units is discarded, sets OFS_RANGE and raises a Minor fault. In normal service,
the end of an offset measurement above 400 or below -400 sample units leaves the measurements of the mean as they were, sets
PROT_EVT.OFS_RANGE and counts a fault of class Minor, whatever the port's switch does. Cites R372 (14). -/
def Obligations.OffsetOutOfRange : Prop :=
  ∀ (s : State) (p : Nat) (off : Int), portOk p = true → s.inService = true → (off < -400 ∨ 400 < off) →
    Gives (.offsetMeasurementEnd p off) s (fun t => (t.getProt p).offsets = (s.getProt p).offsets ∧ (t.getProt p).evt.getLsbD 4 = true ∧
      t.flt.total = bumpAt 1 0xFFFFFFFF s.flt.total ∧ t.flt.pending.getLsbD 1 = true)
end

