-- ==== Sys2Proof/Laws/State.lean ====
section
/-!
SUPPORT. One lemma per update function of the state and field: what the update leaves of the field. All are true by
definition and tagged for simp, so that no proof unfolds a record update.
-/
namespace Sys2Proof.Machine

/-! ### usb -/

theorem State.setUsb_usb (s k v) : (State.setUsb s k v).usb = SMap.put PortUsb.reset s.usb k v := rfl
@[simp] theorem State.setUsb_pwr (s k v) : (State.setUsb s k v).pwr = s.pwr := rfl
@[simp] theorem State.modUsb_pwr (s k f) : (State.modUsb s k f).pwr = s.pwr := rfl
@[simp] theorem State.setUsb_prot (s k v) : (State.setUsb s k v).prot = s.prot := rfl
@[simp] theorem State.modUsb_prot (s k f) : (State.modUsb s k f).prot = s.prot := rfl
@[simp] theorem State.setUsb_ft (s k v) : (State.setUsb s k v).ft = s.ft := rfl
@[simp] theorem State.modUsb_ft (s k f) : (State.modUsb s k f).ft = s.ft := rfl
@[simp] theorem State.setUsb_fifo (s k v) : (State.setUsb s k v).fifo = s.fifo := rfl
@[simp] theorem State.modUsb_fifo (s k f) : (State.modUsb s k f).fifo = s.fifo := rfl
@[simp] theorem State.setUsb_gals (s k v) : (State.setUsb s k v).gals = s.gals := rfl
@[simp] theorem State.modUsb_gals (s k f) : (State.modUsb s k f).gals = s.gals := rfl
@[simp] theorem State.setUsb_pipes (s k v) : (State.setUsb s k v).pipes = s.pipes := rfl
@[simp] theorem State.modUsb_pipes (s k f) : (State.modUsb s k f).pipes = s.pipes := rfl
@[simp] theorem State.setUsb_items (s k v) : (State.setUsb s k v).items = s.items := rfl
@[simp] theorem State.modUsb_items (s k f) : (State.modUsb s k f).items = s.items := rfl
@[simp] theorem State.setUsb_sess (s k v) : (State.setUsb s k v).sess = s.sess := rfl
@[simp] theorem State.modUsb_sess (s k f) : (State.modUsb s k f).sess = s.sess := rfl
@[simp] theorem State.setUsb_tenants (s k v) : (State.setUsb s k v).tenants = s.tenants := rfl
@[simp] theorem State.modUsb_tenants (s k f) : (State.modUsb s k f).tenants = s.tenants := rfl
@[simp] theorem State.setUsb_cat (s k v) : (State.setUsb s k v).cat = s.cat := rfl
@[simp] theorem State.modUsb_cat (s k f) : (State.modUsb s k f).cat = s.cat := rfl
@[simp] theorem State.setUsb_can (s k v) : (State.setUsb s k v).can = s.can := rfl
@[simp] theorem State.modUsb_can (s k f) : (State.modUsb s k f).can = s.can := rfl
@[simp] theorem State.setUsb_board (s k v) : (State.setUsb s k v).board = s.board := rfl
@[simp] theorem State.modUsb_board (s k f) : (State.modUsb s k f).board = s.board := rfl
@[simp] theorem State.setUsb_regs (s k v) : (State.setUsb s k v).regs = s.regs := rfl
@[simp] theorem State.modUsb_regs (s k f) : (State.modUsb s k f).regs = s.regs := rfl
@[simp] theorem State.setUsb_clk (s k v) : (State.setUsb s k v).clk = s.clk := rfl
@[simp] theorem State.modUsb_clk (s k f) : (State.modUsb s k f).clk = s.clk := rfl
@[simp] theorem State.setUsb_upl (s k v) : (State.setUsb s k v).upl = s.upl := rfl
@[simp] theorem State.modUsb_upl (s k f) : (State.modUsb s k f).upl = s.upl := rfl
@[simp] theorem State.setUsb_ptp (s k v) : (State.setUsb s k v).ptp = s.ptp := rfl
@[simp] theorem State.modUsb_ptp (s k f) : (State.modUsb s k f).ptp = s.ptp := rfl
@[simp] theorem State.setUsb_coll (s k v) : (State.setUsb s k v).coll = s.coll := rfl
@[simp] theorem State.modUsb_coll (s k f) : (State.modUsb s k f).coll = s.coll := rfl
@[simp] theorem State.setUsb_dps (s k v) : (State.setUsb s k v).dps = s.dps := rfl
@[simp] theorem State.modUsb_dps (s k f) : (State.modUsb s k f).dps = s.dps := rfl
@[simp] theorem State.setUsb_svc (s k v) : (State.setUsb s k v).svc = s.svc := rfl
@[simp] theorem State.modUsb_svc (s k f) : (State.modUsb s k f).svc = s.svc := rfl
@[simp] theorem State.setUsb_flt (s k v) : (State.setUsb s k v).flt = s.flt := rfl
@[simp] theorem State.modUsb_flt (s k f) : (State.modUsb s k f).flt = s.flt := rfl
@[simp] theorem State.setUsb_boot (s k v) : (State.setUsb s k v).boot = s.boot := rfl
@[simp] theorem State.modUsb_boot (s k f) : (State.modUsb s k f).boot = s.boot := rfl
@[simp] theorem State.setUsb_dbg (s k v) : (State.setUsb s k v).dbg = s.dbg := rfl
@[simp] theorem State.modUsb_dbg (s k f) : (State.modUsb s k f).dbg = s.dbg := rfl
@[simp] theorem State.setUsb_mem (s k v) : (State.setUsb s k v).mem = s.mem := rfl
@[simp] theorem State.modUsb_mem (s k f) : (State.modUsb s k f).mem = s.mem := rfl
@[simp] theorem State.setUsb_vault (s k v) : (State.setUsb s k v).vault = s.vault := rfl
@[simp] theorem State.modUsb_vault (s k f) : (State.modUsb s k f).vault = s.vault := rfl
@[simp] theorem State.setUsb_mov (s k v) : (State.setUsb s k v).mov = s.mov := rfl
@[simp] theorem State.modUsb_mov (s k f) : (State.modUsb s k f).mov = s.mov := rfl
@[simp] theorem State.setUsb_sent (s k v) : (State.setUsb s k v).sent = s.sent := rfl
@[simp] theorem State.modUsb_sent (s k f) : (State.modUsb s k f).sent = s.sent := rfl
@[simp] theorem State.setUsb_freeCtr (s k v) : (State.setUsb s k v).freeCtr = s.freeCtr := rfl
@[simp] theorem State.modUsb_freeCtr (s k f) : (State.modUsb s k f).freeCtr = s.freeCtr := rfl
@[simp] theorem State.setUsb_pending (s k v) : (State.setUsb s k v).pending = s.pending := rfl
@[simp] theorem State.modUsb_pending (s k f) : (State.modUsb s k f).pending = s.pending := rfl
/-! ### pwr -/

@[simp] theorem State.setPwr_usb (s k v) : (State.setPwr s k v).usb = s.usb := rfl
@[simp] theorem State.modPwr_usb (s k f) : (State.modPwr s k f).usb = s.usb := rfl
theorem State.setPwr_pwr (s k v) : (State.setPwr s k v).pwr = SMap.put PortPwr.reset s.pwr k v := rfl
@[simp] theorem State.setPwr_prot (s k v) : (State.setPwr s k v).prot = s.prot := rfl
@[simp] theorem State.modPwr_prot (s k f) : (State.modPwr s k f).prot = s.prot := rfl
@[simp] theorem State.setPwr_ft (s k v) : (State.setPwr s k v).ft = s.ft := rfl
@[simp] theorem State.modPwr_ft (s k f) : (State.modPwr s k f).ft = s.ft := rfl
@[simp] theorem State.setPwr_fifo (s k v) : (State.setPwr s k v).fifo = s.fifo := rfl
@[simp] theorem State.modPwr_fifo (s k f) : (State.modPwr s k f).fifo = s.fifo := rfl
@[simp] theorem State.setPwr_gals (s k v) : (State.setPwr s k v).gals = s.gals := rfl
@[simp] theorem State.modPwr_gals (s k f) : (State.modPwr s k f).gals = s.gals := rfl
@[simp] theorem State.setPwr_pipes (s k v) : (State.setPwr s k v).pipes = s.pipes := rfl
@[simp] theorem State.modPwr_pipes (s k f) : (State.modPwr s k f).pipes = s.pipes := rfl
@[simp] theorem State.setPwr_items (s k v) : (State.setPwr s k v).items = s.items := rfl
@[simp] theorem State.modPwr_items (s k f) : (State.modPwr s k f).items = s.items := rfl
@[simp] theorem State.setPwr_sess (s k v) : (State.setPwr s k v).sess = s.sess := rfl
@[simp] theorem State.modPwr_sess (s k f) : (State.modPwr s k f).sess = s.sess := rfl
@[simp] theorem State.setPwr_tenants (s k v) : (State.setPwr s k v).tenants = s.tenants := rfl
@[simp] theorem State.modPwr_tenants (s k f) : (State.modPwr s k f).tenants = s.tenants := rfl
@[simp] theorem State.setPwr_cat (s k v) : (State.setPwr s k v).cat = s.cat := rfl
@[simp] theorem State.modPwr_cat (s k f) : (State.modPwr s k f).cat = s.cat := rfl
@[simp] theorem State.setPwr_can (s k v) : (State.setPwr s k v).can = s.can := rfl
@[simp] theorem State.modPwr_can (s k f) : (State.modPwr s k f).can = s.can := rfl
@[simp] theorem State.setPwr_board (s k v) : (State.setPwr s k v).board = s.board := rfl
@[simp] theorem State.modPwr_board (s k f) : (State.modPwr s k f).board = s.board := rfl
@[simp] theorem State.setPwr_regs (s k v) : (State.setPwr s k v).regs = s.regs := rfl
@[simp] theorem State.modPwr_regs (s k f) : (State.modPwr s k f).regs = s.regs := rfl
@[simp] theorem State.setPwr_clk (s k v) : (State.setPwr s k v).clk = s.clk := rfl
@[simp] theorem State.modPwr_clk (s k f) : (State.modPwr s k f).clk = s.clk := rfl
@[simp] theorem State.setPwr_upl (s k v) : (State.setPwr s k v).upl = s.upl := rfl
@[simp] theorem State.modPwr_upl (s k f) : (State.modPwr s k f).upl = s.upl := rfl
@[simp] theorem State.setPwr_ptp (s k v) : (State.setPwr s k v).ptp = s.ptp := rfl
@[simp] theorem State.modPwr_ptp (s k f) : (State.modPwr s k f).ptp = s.ptp := rfl
@[simp] theorem State.setPwr_coll (s k v) : (State.setPwr s k v).coll = s.coll := rfl
@[simp] theorem State.modPwr_coll (s k f) : (State.modPwr s k f).coll = s.coll := rfl
@[simp] theorem State.setPwr_dps (s k v) : (State.setPwr s k v).dps = s.dps := rfl
@[simp] theorem State.modPwr_dps (s k f) : (State.modPwr s k f).dps = s.dps := rfl
@[simp] theorem State.setPwr_svc (s k v) : (State.setPwr s k v).svc = s.svc := rfl
@[simp] theorem State.modPwr_svc (s k f) : (State.modPwr s k f).svc = s.svc := rfl
@[simp] theorem State.setPwr_flt (s k v) : (State.setPwr s k v).flt = s.flt := rfl
@[simp] theorem State.modPwr_flt (s k f) : (State.modPwr s k f).flt = s.flt := rfl
@[simp] theorem State.setPwr_boot (s k v) : (State.setPwr s k v).boot = s.boot := rfl
@[simp] theorem State.modPwr_boot (s k f) : (State.modPwr s k f).boot = s.boot := rfl
@[simp] theorem State.setPwr_dbg (s k v) : (State.setPwr s k v).dbg = s.dbg := rfl
@[simp] theorem State.modPwr_dbg (s k f) : (State.modPwr s k f).dbg = s.dbg := rfl
@[simp] theorem State.setPwr_mem (s k v) : (State.setPwr s k v).mem = s.mem := rfl
@[simp] theorem State.modPwr_mem (s k f) : (State.modPwr s k f).mem = s.mem := rfl
@[simp] theorem State.setPwr_vault (s k v) : (State.setPwr s k v).vault = s.vault := rfl
@[simp] theorem State.modPwr_vault (s k f) : (State.modPwr s k f).vault = s.vault := rfl
@[simp] theorem State.setPwr_mov (s k v) : (State.setPwr s k v).mov = s.mov := rfl
@[simp] theorem State.modPwr_mov (s k f) : (State.modPwr s k f).mov = s.mov := rfl
@[simp] theorem State.setPwr_sent (s k v) : (State.setPwr s k v).sent = s.sent := rfl
@[simp] theorem State.modPwr_sent (s k f) : (State.modPwr s k f).sent = s.sent := rfl
@[simp] theorem State.setPwr_freeCtr (s k v) : (State.setPwr s k v).freeCtr = s.freeCtr := rfl
@[simp] theorem State.modPwr_freeCtr (s k f) : (State.modPwr s k f).freeCtr = s.freeCtr := rfl
@[simp] theorem State.setPwr_pending (s k v) : (State.setPwr s k v).pending = s.pending := rfl
@[simp] theorem State.modPwr_pending (s k f) : (State.modPwr s k f).pending = s.pending := rfl
/-! ### prot -/

@[simp] theorem State.setProt_usb (s k v) : (State.setProt s k v).usb = s.usb := rfl
@[simp] theorem State.modProt_usb (s k f) : (State.modProt s k f).usb = s.usb := rfl
@[simp] theorem State.setProt_pwr (s k v) : (State.setProt s k v).pwr = s.pwr := rfl
@[simp] theorem State.modProt_pwr (s k f) : (State.modProt s k f).pwr = s.pwr := rfl
theorem State.setProt_prot (s k v) : (State.setProt s k v).prot = SMap.put PortProt.reset s.prot k v := rfl
@[simp] theorem State.setProt_ft (s k v) : (State.setProt s k v).ft = s.ft := rfl
@[simp] theorem State.modProt_ft (s k f) : (State.modProt s k f).ft = s.ft := rfl
@[simp] theorem State.setProt_fifo (s k v) : (State.setProt s k v).fifo = s.fifo := rfl
@[simp] theorem State.modProt_fifo (s k f) : (State.modProt s k f).fifo = s.fifo := rfl
@[simp] theorem State.setProt_gals (s k v) : (State.setProt s k v).gals = s.gals := rfl
@[simp] theorem State.modProt_gals (s k f) : (State.modProt s k f).gals = s.gals := rfl
@[simp] theorem State.setProt_pipes (s k v) : (State.setProt s k v).pipes = s.pipes := rfl
@[simp] theorem State.modProt_pipes (s k f) : (State.modProt s k f).pipes = s.pipes := rfl
@[simp] theorem State.setProt_items (s k v) : (State.setProt s k v).items = s.items := rfl
@[simp] theorem State.modProt_items (s k f) : (State.modProt s k f).items = s.items := rfl
@[simp] theorem State.setProt_sess (s k v) : (State.setProt s k v).sess = s.sess := rfl
@[simp] theorem State.modProt_sess (s k f) : (State.modProt s k f).sess = s.sess := rfl
@[simp] theorem State.setProt_tenants (s k v) : (State.setProt s k v).tenants = s.tenants := rfl
@[simp] theorem State.modProt_tenants (s k f) : (State.modProt s k f).tenants = s.tenants := rfl
@[simp] theorem State.setProt_cat (s k v) : (State.setProt s k v).cat = s.cat := rfl
@[simp] theorem State.modProt_cat (s k f) : (State.modProt s k f).cat = s.cat := rfl
@[simp] theorem State.setProt_can (s k v) : (State.setProt s k v).can = s.can := rfl
@[simp] theorem State.modProt_can (s k f) : (State.modProt s k f).can = s.can := rfl
@[simp] theorem State.setProt_board (s k v) : (State.setProt s k v).board = s.board := rfl
@[simp] theorem State.modProt_board (s k f) : (State.modProt s k f).board = s.board := rfl
@[simp] theorem State.setProt_regs (s k v) : (State.setProt s k v).regs = s.regs := rfl
@[simp] theorem State.modProt_regs (s k f) : (State.modProt s k f).regs = s.regs := rfl
@[simp] theorem State.setProt_clk (s k v) : (State.setProt s k v).clk = s.clk := rfl
@[simp] theorem State.modProt_clk (s k f) : (State.modProt s k f).clk = s.clk := rfl
@[simp] theorem State.setProt_upl (s k v) : (State.setProt s k v).upl = s.upl := rfl
@[simp] theorem State.modProt_upl (s k f) : (State.modProt s k f).upl = s.upl := rfl
@[simp] theorem State.setProt_ptp (s k v) : (State.setProt s k v).ptp = s.ptp := rfl
@[simp] theorem State.modProt_ptp (s k f) : (State.modProt s k f).ptp = s.ptp := rfl
@[simp] theorem State.setProt_coll (s k v) : (State.setProt s k v).coll = s.coll := rfl
@[simp] theorem State.modProt_coll (s k f) : (State.modProt s k f).coll = s.coll := rfl
@[simp] theorem State.setProt_dps (s k v) : (State.setProt s k v).dps = s.dps := rfl
@[simp] theorem State.modProt_dps (s k f) : (State.modProt s k f).dps = s.dps := rfl
@[simp] theorem State.setProt_svc (s k v) : (State.setProt s k v).svc = s.svc := rfl
@[simp] theorem State.modProt_svc (s k f) : (State.modProt s k f).svc = s.svc := rfl
@[simp] theorem State.setProt_flt (s k v) : (State.setProt s k v).flt = s.flt := rfl
@[simp] theorem State.modProt_flt (s k f) : (State.modProt s k f).flt = s.flt := rfl
@[simp] theorem State.setProt_boot (s k v) : (State.setProt s k v).boot = s.boot := rfl
@[simp] theorem State.modProt_boot (s k f) : (State.modProt s k f).boot = s.boot := rfl
@[simp] theorem State.setProt_dbg (s k v) : (State.setProt s k v).dbg = s.dbg := rfl
@[simp] theorem State.modProt_dbg (s k f) : (State.modProt s k f).dbg = s.dbg := rfl
@[simp] theorem State.setProt_mem (s k v) : (State.setProt s k v).mem = s.mem := rfl
@[simp] theorem State.modProt_mem (s k f) : (State.modProt s k f).mem = s.mem := rfl
@[simp] theorem State.setProt_vault (s k v) : (State.setProt s k v).vault = s.vault := rfl
@[simp] theorem State.modProt_vault (s k f) : (State.modProt s k f).vault = s.vault := rfl
@[simp] theorem State.setProt_mov (s k v) : (State.setProt s k v).mov = s.mov := rfl
@[simp] theorem State.modProt_mov (s k f) : (State.modProt s k f).mov = s.mov := rfl
@[simp] theorem State.setProt_sent (s k v) : (State.setProt s k v).sent = s.sent := rfl
@[simp] theorem State.modProt_sent (s k f) : (State.modProt s k f).sent = s.sent := rfl
@[simp] theorem State.setProt_freeCtr (s k v) : (State.setProt s k v).freeCtr = s.freeCtr := rfl
@[simp] theorem State.modProt_freeCtr (s k f) : (State.modProt s k f).freeCtr = s.freeCtr := rfl
@[simp] theorem State.setProt_pending (s k v) : (State.setProt s k v).pending = s.pending := rfl
@[simp] theorem State.modProt_pending (s k f) : (State.modProt s k f).pending = s.pending := rfl
/-! ### ft -/

@[simp] theorem State.setFt_usb (s k v) : (State.setFt s k v).usb = s.usb := rfl
@[simp] theorem State.modFt_usb (s k f) : (State.modFt s k f).usb = s.usb := rfl
@[simp] theorem State.setFt_pwr (s k v) : (State.setFt s k v).pwr = s.pwr := rfl
@[simp] theorem State.modFt_pwr (s k f) : (State.modFt s k f).pwr = s.pwr := rfl
@[simp] theorem State.setFt_prot (s k v) : (State.setFt s k v).prot = s.prot := rfl
@[simp] theorem State.modFt_prot (s k f) : (State.modFt s k f).prot = s.prot := rfl
theorem State.setFt_ft (s k v) : (State.setFt s k v).ft = SMap.put PortFt.reset s.ft k v := rfl
@[simp] theorem State.setFt_fifo (s k v) : (State.setFt s k v).fifo = s.fifo := rfl
@[simp] theorem State.modFt_fifo (s k f) : (State.modFt s k f).fifo = s.fifo := rfl
@[simp] theorem State.setFt_gals (s k v) : (State.setFt s k v).gals = s.gals := rfl
@[simp] theorem State.modFt_gals (s k f) : (State.modFt s k f).gals = s.gals := rfl
@[simp] theorem State.setFt_pipes (s k v) : (State.setFt s k v).pipes = s.pipes := rfl
@[simp] theorem State.modFt_pipes (s k f) : (State.modFt s k f).pipes = s.pipes := rfl
@[simp] theorem State.setFt_items (s k v) : (State.setFt s k v).items = s.items := rfl
@[simp] theorem State.modFt_items (s k f) : (State.modFt s k f).items = s.items := rfl
@[simp] theorem State.setFt_sess (s k v) : (State.setFt s k v).sess = s.sess := rfl
@[simp] theorem State.modFt_sess (s k f) : (State.modFt s k f).sess = s.sess := rfl
@[simp] theorem State.setFt_tenants (s k v) : (State.setFt s k v).tenants = s.tenants := rfl
@[simp] theorem State.modFt_tenants (s k f) : (State.modFt s k f).tenants = s.tenants := rfl
@[simp] theorem State.setFt_cat (s k v) : (State.setFt s k v).cat = s.cat := rfl
@[simp] theorem State.modFt_cat (s k f) : (State.modFt s k f).cat = s.cat := rfl
@[simp] theorem State.setFt_can (s k v) : (State.setFt s k v).can = s.can := rfl
@[simp] theorem State.modFt_can (s k f) : (State.modFt s k f).can = s.can := rfl
@[simp] theorem State.setFt_board (s k v) : (State.setFt s k v).board = s.board := rfl
@[simp] theorem State.modFt_board (s k f) : (State.modFt s k f).board = s.board := rfl
@[simp] theorem State.setFt_regs (s k v) : (State.setFt s k v).regs = s.regs := rfl
@[simp] theorem State.modFt_regs (s k f) : (State.modFt s k f).regs = s.regs := rfl
@[simp] theorem State.setFt_clk (s k v) : (State.setFt s k v).clk = s.clk := rfl
@[simp] theorem State.modFt_clk (s k f) : (State.modFt s k f).clk = s.clk := rfl
@[simp] theorem State.setFt_upl (s k v) : (State.setFt s k v).upl = s.upl := rfl
@[simp] theorem State.modFt_upl (s k f) : (State.modFt s k f).upl = s.upl := rfl
@[simp] theorem State.setFt_ptp (s k v) : (State.setFt s k v).ptp = s.ptp := rfl
@[simp] theorem State.modFt_ptp (s k f) : (State.modFt s k f).ptp = s.ptp := rfl
@[simp] theorem State.setFt_coll (s k v) : (State.setFt s k v).coll = s.coll := rfl
@[simp] theorem State.modFt_coll (s k f) : (State.modFt s k f).coll = s.coll := rfl
@[simp] theorem State.setFt_dps (s k v) : (State.setFt s k v).dps = s.dps := rfl
@[simp] theorem State.modFt_dps (s k f) : (State.modFt s k f).dps = s.dps := rfl
@[simp] theorem State.setFt_svc (s k v) : (State.setFt s k v).svc = s.svc := rfl
@[simp] theorem State.modFt_svc (s k f) : (State.modFt s k f).svc = s.svc := rfl
@[simp] theorem State.setFt_flt (s k v) : (State.setFt s k v).flt = s.flt := rfl
@[simp] theorem State.modFt_flt (s k f) : (State.modFt s k f).flt = s.flt := rfl
@[simp] theorem State.setFt_boot (s k v) : (State.setFt s k v).boot = s.boot := rfl
@[simp] theorem State.modFt_boot (s k f) : (State.modFt s k f).boot = s.boot := rfl
@[simp] theorem State.setFt_dbg (s k v) : (State.setFt s k v).dbg = s.dbg := rfl
@[simp] theorem State.modFt_dbg (s k f) : (State.modFt s k f).dbg = s.dbg := rfl
@[simp] theorem State.setFt_mem (s k v) : (State.setFt s k v).mem = s.mem := rfl
@[simp] theorem State.modFt_mem (s k f) : (State.modFt s k f).mem = s.mem := rfl
@[simp] theorem State.setFt_vault (s k v) : (State.setFt s k v).vault = s.vault := rfl
@[simp] theorem State.modFt_vault (s k f) : (State.modFt s k f).vault = s.vault := rfl
@[simp] theorem State.setFt_mov (s k v) : (State.setFt s k v).mov = s.mov := rfl
@[simp] theorem State.modFt_mov (s k f) : (State.modFt s k f).mov = s.mov := rfl
@[simp] theorem State.setFt_sent (s k v) : (State.setFt s k v).sent = s.sent := rfl
@[simp] theorem State.modFt_sent (s k f) : (State.modFt s k f).sent = s.sent := rfl
@[simp] theorem State.setFt_freeCtr (s k v) : (State.setFt s k v).freeCtr = s.freeCtr := rfl
@[simp] theorem State.modFt_freeCtr (s k f) : (State.modFt s k f).freeCtr = s.freeCtr := rfl
@[simp] theorem State.setFt_pending (s k v) : (State.setFt s k v).pending = s.pending := rfl
@[simp] theorem State.modFt_pending (s k f) : (State.modFt s k f).pending = s.pending := rfl
/-! ### fifo -/

@[simp] theorem State.setFifo_usb (s k v) : (State.setFifo s k v).usb = s.usb := rfl
@[simp] theorem State.modFifo_usb (s k f) : (State.modFifo s k f).usb = s.usb := rfl
@[simp] theorem State.setFifo_pwr (s k v) : (State.setFifo s k v).pwr = s.pwr := rfl
@[simp] theorem State.modFifo_pwr (s k f) : (State.modFifo s k f).pwr = s.pwr := rfl
@[simp] theorem State.setFifo_prot (s k v) : (State.setFifo s k v).prot = s.prot := rfl
@[simp] theorem State.modFifo_prot (s k f) : (State.modFifo s k f).prot = s.prot := rfl
@[simp] theorem State.setFifo_ft (s k v) : (State.setFifo s k v).ft = s.ft := rfl
@[simp] theorem State.modFifo_ft (s k f) : (State.modFifo s k f).ft = s.ft := rfl
theorem State.setFifo_fifo (s k v) : (State.setFifo s k v).fifo = SMap.put PortMem.reset s.fifo k v := rfl
@[simp] theorem State.setFifo_gals (s k v) : (State.setFifo s k v).gals = s.gals := rfl
@[simp] theorem State.modFifo_gals (s k f) : (State.modFifo s k f).gals = s.gals := rfl
@[simp] theorem State.setFifo_pipes (s k v) : (State.setFifo s k v).pipes = s.pipes := rfl
@[simp] theorem State.modFifo_pipes (s k f) : (State.modFifo s k f).pipes = s.pipes := rfl
@[simp] theorem State.setFifo_items (s k v) : (State.setFifo s k v).items = s.items := rfl
@[simp] theorem State.modFifo_items (s k f) : (State.modFifo s k f).items = s.items := rfl
@[simp] theorem State.setFifo_sess (s k v) : (State.setFifo s k v).sess = s.sess := rfl
@[simp] theorem State.modFifo_sess (s k f) : (State.modFifo s k f).sess = s.sess := rfl
@[simp] theorem State.setFifo_tenants (s k v) : (State.setFifo s k v).tenants = s.tenants := rfl
@[simp] theorem State.modFifo_tenants (s k f) : (State.modFifo s k f).tenants = s.tenants := rfl
@[simp] theorem State.setFifo_cat (s k v) : (State.setFifo s k v).cat = s.cat := rfl
@[simp] theorem State.modFifo_cat (s k f) : (State.modFifo s k f).cat = s.cat := rfl
@[simp] theorem State.setFifo_can (s k v) : (State.setFifo s k v).can = s.can := rfl
@[simp] theorem State.modFifo_can (s k f) : (State.modFifo s k f).can = s.can := rfl
@[simp] theorem State.setFifo_board (s k v) : (State.setFifo s k v).board = s.board := rfl
@[simp] theorem State.modFifo_board (s k f) : (State.modFifo s k f).board = s.board := rfl
@[simp] theorem State.setFifo_regs (s k v) : (State.setFifo s k v).regs = s.regs := rfl
@[simp] theorem State.modFifo_regs (s k f) : (State.modFifo s k f).regs = s.regs := rfl
@[simp] theorem State.setFifo_clk (s k v) : (State.setFifo s k v).clk = s.clk := rfl
@[simp] theorem State.modFifo_clk (s k f) : (State.modFifo s k f).clk = s.clk := rfl
@[simp] theorem State.setFifo_upl (s k v) : (State.setFifo s k v).upl = s.upl := rfl
@[simp] theorem State.modFifo_upl (s k f) : (State.modFifo s k f).upl = s.upl := rfl
@[simp] theorem State.setFifo_ptp (s k v) : (State.setFifo s k v).ptp = s.ptp := rfl
@[simp] theorem State.modFifo_ptp (s k f) : (State.modFifo s k f).ptp = s.ptp := rfl
@[simp] theorem State.setFifo_coll (s k v) : (State.setFifo s k v).coll = s.coll := rfl
@[simp] theorem State.modFifo_coll (s k f) : (State.modFifo s k f).coll = s.coll := rfl
@[simp] theorem State.setFifo_dps (s k v) : (State.setFifo s k v).dps = s.dps := rfl
@[simp] theorem State.modFifo_dps (s k f) : (State.modFifo s k f).dps = s.dps := rfl
@[simp] theorem State.setFifo_svc (s k v) : (State.setFifo s k v).svc = s.svc := rfl
@[simp] theorem State.modFifo_svc (s k f) : (State.modFifo s k f).svc = s.svc := rfl
@[simp] theorem State.setFifo_flt (s k v) : (State.setFifo s k v).flt = s.flt := rfl
@[simp] theorem State.modFifo_flt (s k f) : (State.modFifo s k f).flt = s.flt := rfl
@[simp] theorem State.setFifo_boot (s k v) : (State.setFifo s k v).boot = s.boot := rfl
@[simp] theorem State.modFifo_boot (s k f) : (State.modFifo s k f).boot = s.boot := rfl
@[simp] theorem State.setFifo_dbg (s k v) : (State.setFifo s k v).dbg = s.dbg := rfl
@[simp] theorem State.modFifo_dbg (s k f) : (State.modFifo s k f).dbg = s.dbg := rfl
@[simp] theorem State.setFifo_mem (s k v) : (State.setFifo s k v).mem = s.mem := rfl
@[simp] theorem State.modFifo_mem (s k f) : (State.modFifo s k f).mem = s.mem := rfl
@[simp] theorem State.setFifo_vault (s k v) : (State.setFifo s k v).vault = s.vault := rfl
@[simp] theorem State.modFifo_vault (s k f) : (State.modFifo s k f).vault = s.vault := rfl
@[simp] theorem State.setFifo_mov (s k v) : (State.setFifo s k v).mov = s.mov := rfl
@[simp] theorem State.modFifo_mov (s k f) : (State.modFifo s k f).mov = s.mov := rfl
@[simp] theorem State.setFifo_sent (s k v) : (State.setFifo s k v).sent = s.sent := rfl
@[simp] theorem State.modFifo_sent (s k f) : (State.modFifo s k f).sent = s.sent := rfl
@[simp] theorem State.setFifo_freeCtr (s k v) : (State.setFifo s k v).freeCtr = s.freeCtr := rfl
@[simp] theorem State.modFifo_freeCtr (s k f) : (State.modFifo s k f).freeCtr = s.freeCtr := rfl
@[simp] theorem State.setFifo_pending (s k v) : (State.setFifo s k v).pending = s.pending := rfl
@[simp] theorem State.modFifo_pending (s k f) : (State.modFifo s k f).pending = s.pending := rfl
/-! ### gals -/

@[simp] theorem State.setGals_usb (s k v) : (State.setGals s k v).usb = s.usb := rfl
@[simp] theorem State.modGals_usb (s k f) : (State.modGals s k f).usb = s.usb := rfl
@[simp] theorem State.setGals_pwr (s k v) : (State.setGals s k v).pwr = s.pwr := rfl
@[simp] theorem State.modGals_pwr (s k f) : (State.modGals s k f).pwr = s.pwr := rfl
@[simp] theorem State.setGals_prot (s k v) : (State.setGals s k v).prot = s.prot := rfl
@[simp] theorem State.modGals_prot (s k f) : (State.modGals s k f).prot = s.prot := rfl
@[simp] theorem State.setGals_ft (s k v) : (State.setGals s k v).ft = s.ft := rfl
@[simp] theorem State.modGals_ft (s k f) : (State.modGals s k f).ft = s.ft := rfl
@[simp] theorem State.setGals_fifo (s k v) : (State.setGals s k v).fifo = s.fifo := rfl
@[simp] theorem State.modGals_fifo (s k f) : (State.modGals s k f).fifo = s.fifo := rfl
theorem State.setGals_gals (s k v) : (State.setGals s k v).gals = SMap.put Gallery.reset s.gals k v := rfl
@[simp] theorem State.setGals_pipes (s k v) : (State.setGals s k v).pipes = s.pipes := rfl
@[simp] theorem State.modGals_pipes (s k f) : (State.modGals s k f).pipes = s.pipes := rfl
@[simp] theorem State.setGals_items (s k v) : (State.setGals s k v).items = s.items := rfl
@[simp] theorem State.modGals_items (s k f) : (State.modGals s k f).items = s.items := rfl
@[simp] theorem State.setGals_sess (s k v) : (State.setGals s k v).sess = s.sess := rfl
@[simp] theorem State.modGals_sess (s k f) : (State.modGals s k f).sess = s.sess := rfl
@[simp] theorem State.setGals_tenants (s k v) : (State.setGals s k v).tenants = s.tenants := rfl
@[simp] theorem State.modGals_tenants (s k f) : (State.modGals s k f).tenants = s.tenants := rfl
@[simp] theorem State.setGals_cat (s k v) : (State.setGals s k v).cat = s.cat := rfl
@[simp] theorem State.modGals_cat (s k f) : (State.modGals s k f).cat = s.cat := rfl
@[simp] theorem State.setGals_can (s k v) : (State.setGals s k v).can = s.can := rfl
@[simp] theorem State.modGals_can (s k f) : (State.modGals s k f).can = s.can := rfl
@[simp] theorem State.setGals_board (s k v) : (State.setGals s k v).board = s.board := rfl
@[simp] theorem State.modGals_board (s k f) : (State.modGals s k f).board = s.board := rfl
@[simp] theorem State.setGals_regs (s k v) : (State.setGals s k v).regs = s.regs := rfl
@[simp] theorem State.modGals_regs (s k f) : (State.modGals s k f).regs = s.regs := rfl
@[simp] theorem State.setGals_clk (s k v) : (State.setGals s k v).clk = s.clk := rfl
@[simp] theorem State.modGals_clk (s k f) : (State.modGals s k f).clk = s.clk := rfl
@[simp] theorem State.setGals_upl (s k v) : (State.setGals s k v).upl = s.upl := rfl
@[simp] theorem State.modGals_upl (s k f) : (State.modGals s k f).upl = s.upl := rfl
@[simp] theorem State.setGals_ptp (s k v) : (State.setGals s k v).ptp = s.ptp := rfl
@[simp] theorem State.modGals_ptp (s k f) : (State.modGals s k f).ptp = s.ptp := rfl
@[simp] theorem State.setGals_coll (s k v) : (State.setGals s k v).coll = s.coll := rfl
@[simp] theorem State.modGals_coll (s k f) : (State.modGals s k f).coll = s.coll := rfl
@[simp] theorem State.setGals_dps (s k v) : (State.setGals s k v).dps = s.dps := rfl
@[simp] theorem State.modGals_dps (s k f) : (State.modGals s k f).dps = s.dps := rfl
@[simp] theorem State.setGals_svc (s k v) : (State.setGals s k v).svc = s.svc := rfl
@[simp] theorem State.modGals_svc (s k f) : (State.modGals s k f).svc = s.svc := rfl
@[simp] theorem State.setGals_flt (s k v) : (State.setGals s k v).flt = s.flt := rfl
@[simp] theorem State.modGals_flt (s k f) : (State.modGals s k f).flt = s.flt := rfl
@[simp] theorem State.setGals_boot (s k v) : (State.setGals s k v).boot = s.boot := rfl
@[simp] theorem State.modGals_boot (s k f) : (State.modGals s k f).boot = s.boot := rfl
@[simp] theorem State.setGals_dbg (s k v) : (State.setGals s k v).dbg = s.dbg := rfl
@[simp] theorem State.modGals_dbg (s k f) : (State.modGals s k f).dbg = s.dbg := rfl
@[simp] theorem State.setGals_mem (s k v) : (State.setGals s k v).mem = s.mem := rfl
@[simp] theorem State.modGals_mem (s k f) : (State.modGals s k f).mem = s.mem := rfl
@[simp] theorem State.setGals_vault (s k v) : (State.setGals s k v).vault = s.vault := rfl
@[simp] theorem State.modGals_vault (s k f) : (State.modGals s k f).vault = s.vault := rfl
@[simp] theorem State.setGals_mov (s k v) : (State.setGals s k v).mov = s.mov := rfl
@[simp] theorem State.modGals_mov (s k f) : (State.modGals s k f).mov = s.mov := rfl
@[simp] theorem State.setGals_sent (s k v) : (State.setGals s k v).sent = s.sent := rfl
@[simp] theorem State.modGals_sent (s k f) : (State.modGals s k f).sent = s.sent := rfl
@[simp] theorem State.setGals_freeCtr (s k v) : (State.setGals s k v).freeCtr = s.freeCtr := rfl
@[simp] theorem State.modGals_freeCtr (s k f) : (State.modGals s k f).freeCtr = s.freeCtr := rfl
@[simp] theorem State.setGals_pending (s k v) : (State.setGals s k v).pending = s.pending := rfl
@[simp] theorem State.modGals_pending (s k f) : (State.modGals s k f).pending = s.pending := rfl
/-! ### pipes -/

@[simp] theorem State.setPipes_usb (s k v) : (State.setPipes s k v).usb = s.usb := rfl
@[simp] theorem State.modPipes_usb (s k f) : (State.modPipes s k f).usb = s.usb := rfl
@[simp] theorem State.setPipes_pwr (s k v) : (State.setPipes s k v).pwr = s.pwr := rfl
@[simp] theorem State.modPipes_pwr (s k f) : (State.modPipes s k f).pwr = s.pwr := rfl
@[simp] theorem State.setPipes_prot (s k v) : (State.setPipes s k v).prot = s.prot := rfl
@[simp] theorem State.modPipes_prot (s k f) : (State.modPipes s k f).prot = s.prot := rfl
@[simp] theorem State.setPipes_ft (s k v) : (State.setPipes s k v).ft = s.ft := rfl
@[simp] theorem State.modPipes_ft (s k f) : (State.modPipes s k f).ft = s.ft := rfl
@[simp] theorem State.setPipes_fifo (s k v) : (State.setPipes s k v).fifo = s.fifo := rfl
@[simp] theorem State.modPipes_fifo (s k f) : (State.modPipes s k f).fifo = s.fifo := rfl
@[simp] theorem State.setPipes_gals (s k v) : (State.setPipes s k v).gals = s.gals := rfl
@[simp] theorem State.modPipes_gals (s k f) : (State.modPipes s k f).gals = s.gals := rfl
theorem State.setPipes_pipes (s k v) : (State.setPipes s k v).pipes = SMap.put Pipe.reset s.pipes k v := rfl
@[simp] theorem State.setPipes_items (s k v) : (State.setPipes s k v).items = s.items := rfl
@[simp] theorem State.modPipes_items (s k f) : (State.modPipes s k f).items = s.items := rfl
@[simp] theorem State.setPipes_sess (s k v) : (State.setPipes s k v).sess = s.sess := rfl
@[simp] theorem State.modPipes_sess (s k f) : (State.modPipes s k f).sess = s.sess := rfl
@[simp] theorem State.setPipes_tenants (s k v) : (State.setPipes s k v).tenants = s.tenants := rfl
@[simp] theorem State.modPipes_tenants (s k f) : (State.modPipes s k f).tenants = s.tenants := rfl
@[simp] theorem State.setPipes_cat (s k v) : (State.setPipes s k v).cat = s.cat := rfl
@[simp] theorem State.modPipes_cat (s k f) : (State.modPipes s k f).cat = s.cat := rfl
@[simp] theorem State.setPipes_can (s k v) : (State.setPipes s k v).can = s.can := rfl
@[simp] theorem State.modPipes_can (s k f) : (State.modPipes s k f).can = s.can := rfl
@[simp] theorem State.setPipes_board (s k v) : (State.setPipes s k v).board = s.board := rfl
@[simp] theorem State.modPipes_board (s k f) : (State.modPipes s k f).board = s.board := rfl
@[simp] theorem State.setPipes_regs (s k v) : (State.setPipes s k v).regs = s.regs := rfl
@[simp] theorem State.modPipes_regs (s k f) : (State.modPipes s k f).regs = s.regs := rfl
@[simp] theorem State.setPipes_clk (s k v) : (State.setPipes s k v).clk = s.clk := rfl
@[simp] theorem State.modPipes_clk (s k f) : (State.modPipes s k f).clk = s.clk := rfl
@[simp] theorem State.setPipes_upl (s k v) : (State.setPipes s k v).upl = s.upl := rfl
@[simp] theorem State.modPipes_upl (s k f) : (State.modPipes s k f).upl = s.upl := rfl
@[simp] theorem State.setPipes_ptp (s k v) : (State.setPipes s k v).ptp = s.ptp := rfl
@[simp] theorem State.modPipes_ptp (s k f) : (State.modPipes s k f).ptp = s.ptp := rfl
@[simp] theorem State.setPipes_coll (s k v) : (State.setPipes s k v).coll = s.coll := rfl
@[simp] theorem State.modPipes_coll (s k f) : (State.modPipes s k f).coll = s.coll := rfl
@[simp] theorem State.setPipes_dps (s k v) : (State.setPipes s k v).dps = s.dps := rfl
@[simp] theorem State.modPipes_dps (s k f) : (State.modPipes s k f).dps = s.dps := rfl
@[simp] theorem State.setPipes_svc (s k v) : (State.setPipes s k v).svc = s.svc := rfl
@[simp] theorem State.modPipes_svc (s k f) : (State.modPipes s k f).svc = s.svc := rfl
@[simp] theorem State.setPipes_flt (s k v) : (State.setPipes s k v).flt = s.flt := rfl
@[simp] theorem State.modPipes_flt (s k f) : (State.modPipes s k f).flt = s.flt := rfl
@[simp] theorem State.setPipes_boot (s k v) : (State.setPipes s k v).boot = s.boot := rfl
@[simp] theorem State.modPipes_boot (s k f) : (State.modPipes s k f).boot = s.boot := rfl
@[simp] theorem State.setPipes_dbg (s k v) : (State.setPipes s k v).dbg = s.dbg := rfl
@[simp] theorem State.modPipes_dbg (s k f) : (State.modPipes s k f).dbg = s.dbg := rfl
@[simp] theorem State.setPipes_mem (s k v) : (State.setPipes s k v).mem = s.mem := rfl
@[simp] theorem State.modPipes_mem (s k f) : (State.modPipes s k f).mem = s.mem := rfl
@[simp] theorem State.setPipes_vault (s k v) : (State.setPipes s k v).vault = s.vault := rfl
@[simp] theorem State.modPipes_vault (s k f) : (State.modPipes s k f).vault = s.vault := rfl
@[simp] theorem State.setPipes_mov (s k v) : (State.setPipes s k v).mov = s.mov := rfl
@[simp] theorem State.modPipes_mov (s k f) : (State.modPipes s k f).mov = s.mov := rfl
@[simp] theorem State.setPipes_sent (s k v) : (State.setPipes s k v).sent = s.sent := rfl
@[simp] theorem State.modPipes_sent (s k f) : (State.modPipes s k f).sent = s.sent := rfl
@[simp] theorem State.setPipes_freeCtr (s k v) : (State.setPipes s k v).freeCtr = s.freeCtr := rfl
@[simp] theorem State.modPipes_freeCtr (s k f) : (State.modPipes s k f).freeCtr = s.freeCtr := rfl
@[simp] theorem State.setPipes_pending (s k v) : (State.setPipes s k v).pending = s.pending := rfl
@[simp] theorem State.modPipes_pending (s k f) : (State.modPipes s k f).pending = s.pending := rfl
/-! ### items -/

@[simp] theorem State.setItems_usb (s k v) : (State.setItems s k v).usb = s.usb := rfl
@[simp] theorem State.modItems_usb (s k f) : (State.modItems s k f).usb = s.usb := rfl
@[simp] theorem State.setItems_pwr (s k v) : (State.setItems s k v).pwr = s.pwr := rfl
@[simp] theorem State.modItems_pwr (s k f) : (State.modItems s k f).pwr = s.pwr := rfl
@[simp] theorem State.setItems_prot (s k v) : (State.setItems s k v).prot = s.prot := rfl
@[simp] theorem State.modItems_prot (s k f) : (State.modItems s k f).prot = s.prot := rfl
@[simp] theorem State.setItems_ft (s k v) : (State.setItems s k v).ft = s.ft := rfl
@[simp] theorem State.modItems_ft (s k f) : (State.modItems s k f).ft = s.ft := rfl
@[simp] theorem State.setItems_fifo (s k v) : (State.setItems s k v).fifo = s.fifo := rfl
@[simp] theorem State.modItems_fifo (s k f) : (State.modItems s k f).fifo = s.fifo := rfl
@[simp] theorem State.setItems_gals (s k v) : (State.setItems s k v).gals = s.gals := rfl
@[simp] theorem State.modItems_gals (s k f) : (State.modItems s k f).gals = s.gals := rfl
@[simp] theorem State.setItems_pipes (s k v) : (State.setItems s k v).pipes = s.pipes := rfl
@[simp] theorem State.modItems_pipes (s k f) : (State.modItems s k f).pipes = s.pipes := rfl
theorem State.setItems_items (s k v) : (State.setItems s k v).items = SMap.put Item.reset s.items k v := rfl
@[simp] theorem State.setItems_sess (s k v) : (State.setItems s k v).sess = s.sess := rfl
@[simp] theorem State.modItems_sess (s k f) : (State.modItems s k f).sess = s.sess := rfl
@[simp] theorem State.setItems_tenants (s k v) : (State.setItems s k v).tenants = s.tenants := rfl
@[simp] theorem State.modItems_tenants (s k f) : (State.modItems s k f).tenants = s.tenants := rfl
@[simp] theorem State.setItems_cat (s k v) : (State.setItems s k v).cat = s.cat := rfl
@[simp] theorem State.modItems_cat (s k f) : (State.modItems s k f).cat = s.cat := rfl
@[simp] theorem State.setItems_can (s k v) : (State.setItems s k v).can = s.can := rfl
@[simp] theorem State.modItems_can (s k f) : (State.modItems s k f).can = s.can := rfl
@[simp] theorem State.setItems_board (s k v) : (State.setItems s k v).board = s.board := rfl
@[simp] theorem State.modItems_board (s k f) : (State.modItems s k f).board = s.board := rfl
@[simp] theorem State.setItems_regs (s k v) : (State.setItems s k v).regs = s.regs := rfl
@[simp] theorem State.modItems_regs (s k f) : (State.modItems s k f).regs = s.regs := rfl
@[simp] theorem State.setItems_clk (s k v) : (State.setItems s k v).clk = s.clk := rfl
@[simp] theorem State.modItems_clk (s k f) : (State.modItems s k f).clk = s.clk := rfl
@[simp] theorem State.setItems_upl (s k v) : (State.setItems s k v).upl = s.upl := rfl
@[simp] theorem State.modItems_upl (s k f) : (State.modItems s k f).upl = s.upl := rfl
@[simp] theorem State.setItems_ptp (s k v) : (State.setItems s k v).ptp = s.ptp := rfl
@[simp] theorem State.modItems_ptp (s k f) : (State.modItems s k f).ptp = s.ptp := rfl
@[simp] theorem State.setItems_coll (s k v) : (State.setItems s k v).coll = s.coll := rfl
@[simp] theorem State.modItems_coll (s k f) : (State.modItems s k f).coll = s.coll := rfl
@[simp] theorem State.setItems_dps (s k v) : (State.setItems s k v).dps = s.dps := rfl
@[simp] theorem State.modItems_dps (s k f) : (State.modItems s k f).dps = s.dps := rfl
@[simp] theorem State.setItems_svc (s k v) : (State.setItems s k v).svc = s.svc := rfl
@[simp] theorem State.modItems_svc (s k f) : (State.modItems s k f).svc = s.svc := rfl
@[simp] theorem State.setItems_flt (s k v) : (State.setItems s k v).flt = s.flt := rfl
@[simp] theorem State.modItems_flt (s k f) : (State.modItems s k f).flt = s.flt := rfl
@[simp] theorem State.setItems_boot (s k v) : (State.setItems s k v).boot = s.boot := rfl
@[simp] theorem State.modItems_boot (s k f) : (State.modItems s k f).boot = s.boot := rfl
@[simp] theorem State.setItems_dbg (s k v) : (State.setItems s k v).dbg = s.dbg := rfl
@[simp] theorem State.modItems_dbg (s k f) : (State.modItems s k f).dbg = s.dbg := rfl
@[simp] theorem State.setItems_mem (s k v) : (State.setItems s k v).mem = s.mem := rfl
@[simp] theorem State.modItems_mem (s k f) : (State.modItems s k f).mem = s.mem := rfl
@[simp] theorem State.setItems_vault (s k v) : (State.setItems s k v).vault = s.vault := rfl
@[simp] theorem State.modItems_vault (s k f) : (State.modItems s k f).vault = s.vault := rfl
@[simp] theorem State.setItems_mov (s k v) : (State.setItems s k v).mov = s.mov := rfl
@[simp] theorem State.modItems_mov (s k f) : (State.modItems s k f).mov = s.mov := rfl
@[simp] theorem State.setItems_sent (s k v) : (State.setItems s k v).sent = s.sent := rfl
@[simp] theorem State.modItems_sent (s k f) : (State.modItems s k f).sent = s.sent := rfl
@[simp] theorem State.setItems_freeCtr (s k v) : (State.setItems s k v).freeCtr = s.freeCtr := rfl
@[simp] theorem State.modItems_freeCtr (s k f) : (State.modItems s k f).freeCtr = s.freeCtr := rfl
@[simp] theorem State.setItems_pending (s k v) : (State.setItems s k v).pending = s.pending := rfl
@[simp] theorem State.modItems_pending (s k f) : (State.modItems s k f).pending = s.pending := rfl
/-! ### sess -/

@[simp] theorem State.setSess_usb (s k v) : (State.setSess s k v).usb = s.usb := rfl
@[simp] theorem State.modSess_usb (s k f) : (State.modSess s k f).usb = s.usb := rfl
@[simp] theorem State.setSess_pwr (s k v) : (State.setSess s k v).pwr = s.pwr := rfl
@[simp] theorem State.modSess_pwr (s k f) : (State.modSess s k f).pwr = s.pwr := rfl
@[simp] theorem State.setSess_prot (s k v) : (State.setSess s k v).prot = s.prot := rfl
@[simp] theorem State.modSess_prot (s k f) : (State.modSess s k f).prot = s.prot := rfl
@[simp] theorem State.setSess_ft (s k v) : (State.setSess s k v).ft = s.ft := rfl
@[simp] theorem State.modSess_ft (s k f) : (State.modSess s k f).ft = s.ft := rfl
@[simp] theorem State.setSess_fifo (s k v) : (State.setSess s k v).fifo = s.fifo := rfl
@[simp] theorem State.modSess_fifo (s k f) : (State.modSess s k f).fifo = s.fifo := rfl
@[simp] theorem State.setSess_gals (s k v) : (State.setSess s k v).gals = s.gals := rfl
@[simp] theorem State.modSess_gals (s k f) : (State.modSess s k f).gals = s.gals := rfl
@[simp] theorem State.setSess_pipes (s k v) : (State.setSess s k v).pipes = s.pipes := rfl
@[simp] theorem State.modSess_pipes (s k f) : (State.modSess s k f).pipes = s.pipes := rfl
@[simp] theorem State.setSess_items (s k v) : (State.setSess s k v).items = s.items := rfl
@[simp] theorem State.modSess_items (s k f) : (State.modSess s k f).items = s.items := rfl
theorem State.setSess_sess (s k v) : (State.setSess s k v).sess = SMap.put Session.reset s.sess k v := rfl
@[simp] theorem State.setSess_tenants (s k v) : (State.setSess s k v).tenants = s.tenants := rfl
@[simp] theorem State.modSess_tenants (s k f) : (State.modSess s k f).tenants = s.tenants := rfl
@[simp] theorem State.setSess_cat (s k v) : (State.setSess s k v).cat = s.cat := rfl
@[simp] theorem State.modSess_cat (s k f) : (State.modSess s k f).cat = s.cat := rfl
@[simp] theorem State.setSess_can (s k v) : (State.setSess s k v).can = s.can := rfl
@[simp] theorem State.modSess_can (s k f) : (State.modSess s k f).can = s.can := rfl
@[simp] theorem State.setSess_board (s k v) : (State.setSess s k v).board = s.board := rfl
@[simp] theorem State.modSess_board (s k f) : (State.modSess s k f).board = s.board := rfl
@[simp] theorem State.setSess_regs (s k v) : (State.setSess s k v).regs = s.regs := rfl
@[simp] theorem State.modSess_regs (s k f) : (State.modSess s k f).regs = s.regs := rfl
@[simp] theorem State.setSess_clk (s k v) : (State.setSess s k v).clk = s.clk := rfl
@[simp] theorem State.modSess_clk (s k f) : (State.modSess s k f).clk = s.clk := rfl
@[simp] theorem State.setSess_upl (s k v) : (State.setSess s k v).upl = s.upl := rfl
@[simp] theorem State.modSess_upl (s k f) : (State.modSess s k f).upl = s.upl := rfl
@[simp] theorem State.setSess_ptp (s k v) : (State.setSess s k v).ptp = s.ptp := rfl
@[simp] theorem State.modSess_ptp (s k f) : (State.modSess s k f).ptp = s.ptp := rfl
@[simp] theorem State.setSess_coll (s k v) : (State.setSess s k v).coll = s.coll := rfl
@[simp] theorem State.modSess_coll (s k f) : (State.modSess s k f).coll = s.coll := rfl
@[simp] theorem State.setSess_dps (s k v) : (State.setSess s k v).dps = s.dps := rfl
@[simp] theorem State.modSess_dps (s k f) : (State.modSess s k f).dps = s.dps := rfl
@[simp] theorem State.setSess_svc (s k v) : (State.setSess s k v).svc = s.svc := rfl
@[simp] theorem State.modSess_svc (s k f) : (State.modSess s k f).svc = s.svc := rfl
@[simp] theorem State.setSess_flt (s k v) : (State.setSess s k v).flt = s.flt := rfl
@[simp] theorem State.modSess_flt (s k f) : (State.modSess s k f).flt = s.flt := rfl
@[simp] theorem State.setSess_boot (s k v) : (State.setSess s k v).boot = s.boot := rfl
@[simp] theorem State.modSess_boot (s k f) : (State.modSess s k f).boot = s.boot := rfl
@[simp] theorem State.setSess_dbg (s k v) : (State.setSess s k v).dbg = s.dbg := rfl
@[simp] theorem State.modSess_dbg (s k f) : (State.modSess s k f).dbg = s.dbg := rfl
@[simp] theorem State.setSess_mem (s k v) : (State.setSess s k v).mem = s.mem := rfl
@[simp] theorem State.modSess_mem (s k f) : (State.modSess s k f).mem = s.mem := rfl
@[simp] theorem State.setSess_vault (s k v) : (State.setSess s k v).vault = s.vault := rfl
@[simp] theorem State.modSess_vault (s k f) : (State.modSess s k f).vault = s.vault := rfl
@[simp] theorem State.setSess_mov (s k v) : (State.setSess s k v).mov = s.mov := rfl
@[simp] theorem State.modSess_mov (s k f) : (State.modSess s k f).mov = s.mov := rfl
@[simp] theorem State.setSess_sent (s k v) : (State.setSess s k v).sent = s.sent := rfl
@[simp] theorem State.modSess_sent (s k f) : (State.modSess s k f).sent = s.sent := rfl
@[simp] theorem State.setSess_freeCtr (s k v) : (State.setSess s k v).freeCtr = s.freeCtr := rfl
@[simp] theorem State.modSess_freeCtr (s k f) : (State.modSess s k f).freeCtr = s.freeCtr := rfl
@[simp] theorem State.setSess_pending (s k v) : (State.setSess s k v).pending = s.pending := rfl
@[simp] theorem State.modSess_pending (s k f) : (State.modSess s k f).pending = s.pending := rfl
/-! ### tenants -/

@[simp] theorem State.setTenants_usb (s k v) : (State.setTenants s k v).usb = s.usb := rfl
@[simp] theorem State.modTenants_usb (s k f) : (State.modTenants s k f).usb = s.usb := rfl
@[simp] theorem State.setTenants_pwr (s k v) : (State.setTenants s k v).pwr = s.pwr := rfl
@[simp] theorem State.modTenants_pwr (s k f) : (State.modTenants s k f).pwr = s.pwr := rfl
@[simp] theorem State.setTenants_prot (s k v) : (State.setTenants s k v).prot = s.prot := rfl
@[simp] theorem State.modTenants_prot (s k f) : (State.modTenants s k f).prot = s.prot := rfl
@[simp] theorem State.setTenants_ft (s k v) : (State.setTenants s k v).ft = s.ft := rfl
@[simp] theorem State.modTenants_ft (s k f) : (State.modTenants s k f).ft = s.ft := rfl
@[simp] theorem State.setTenants_fifo (s k v) : (State.setTenants s k v).fifo = s.fifo := rfl
@[simp] theorem State.modTenants_fifo (s k f) : (State.modTenants s k f).fifo = s.fifo := rfl
@[simp] theorem State.setTenants_gals (s k v) : (State.setTenants s k v).gals = s.gals := rfl
@[simp] theorem State.modTenants_gals (s k f) : (State.modTenants s k f).gals = s.gals := rfl
@[simp] theorem State.setTenants_pipes (s k v) : (State.setTenants s k v).pipes = s.pipes := rfl
@[simp] theorem State.modTenants_pipes (s k f) : (State.modTenants s k f).pipes = s.pipes := rfl
@[simp] theorem State.setTenants_items (s k v) : (State.setTenants s k v).items = s.items := rfl
@[simp] theorem State.modTenants_items (s k f) : (State.modTenants s k f).items = s.items := rfl
@[simp] theorem State.setTenants_sess (s k v) : (State.setTenants s k v).sess = s.sess := rfl
@[simp] theorem State.modTenants_sess (s k f) : (State.modTenants s k f).sess = s.sess := rfl
theorem State.setTenants_tenants (s k v) : (State.setTenants s k v).tenants = SMap.put Tenant.reset s.tenants k v := rfl
@[simp] theorem State.setTenants_cat (s k v) : (State.setTenants s k v).cat = s.cat := rfl
@[simp] theorem State.modTenants_cat (s k f) : (State.modTenants s k f).cat = s.cat := rfl
@[simp] theorem State.setTenants_can (s k v) : (State.setTenants s k v).can = s.can := rfl
@[simp] theorem State.modTenants_can (s k f) : (State.modTenants s k f).can = s.can := rfl
@[simp] theorem State.setTenants_board (s k v) : (State.setTenants s k v).board = s.board := rfl
@[simp] theorem State.modTenants_board (s k f) : (State.modTenants s k f).board = s.board := rfl
@[simp] theorem State.setTenants_regs (s k v) : (State.setTenants s k v).regs = s.regs := rfl
@[simp] theorem State.modTenants_regs (s k f) : (State.modTenants s k f).regs = s.regs := rfl
@[simp] theorem State.setTenants_clk (s k v) : (State.setTenants s k v).clk = s.clk := rfl
@[simp] theorem State.modTenants_clk (s k f) : (State.modTenants s k f).clk = s.clk := rfl
@[simp] theorem State.setTenants_upl (s k v) : (State.setTenants s k v).upl = s.upl := rfl
@[simp] theorem State.modTenants_upl (s k f) : (State.modTenants s k f).upl = s.upl := rfl
@[simp] theorem State.setTenants_ptp (s k v) : (State.setTenants s k v).ptp = s.ptp := rfl
@[simp] theorem State.modTenants_ptp (s k f) : (State.modTenants s k f).ptp = s.ptp := rfl
@[simp] theorem State.setTenants_coll (s k v) : (State.setTenants s k v).coll = s.coll := rfl
@[simp] theorem State.modTenants_coll (s k f) : (State.modTenants s k f).coll = s.coll := rfl
@[simp] theorem State.setTenants_dps (s k v) : (State.setTenants s k v).dps = s.dps := rfl
@[simp] theorem State.modTenants_dps (s k f) : (State.modTenants s k f).dps = s.dps := rfl
@[simp] theorem State.setTenants_svc (s k v) : (State.setTenants s k v).svc = s.svc := rfl
@[simp] theorem State.modTenants_svc (s k f) : (State.modTenants s k f).svc = s.svc := rfl
@[simp] theorem State.setTenants_flt (s k v) : (State.setTenants s k v).flt = s.flt := rfl
@[simp] theorem State.modTenants_flt (s k f) : (State.modTenants s k f).flt = s.flt := rfl
@[simp] theorem State.setTenants_boot (s k v) : (State.setTenants s k v).boot = s.boot := rfl
@[simp] theorem State.modTenants_boot (s k f) : (State.modTenants s k f).boot = s.boot := rfl
@[simp] theorem State.setTenants_dbg (s k v) : (State.setTenants s k v).dbg = s.dbg := rfl
@[simp] theorem State.modTenants_dbg (s k f) : (State.modTenants s k f).dbg = s.dbg := rfl
@[simp] theorem State.setTenants_mem (s k v) : (State.setTenants s k v).mem = s.mem := rfl
@[simp] theorem State.modTenants_mem (s k f) : (State.modTenants s k f).mem = s.mem := rfl
@[simp] theorem State.setTenants_vault (s k v) : (State.setTenants s k v).vault = s.vault := rfl
@[simp] theorem State.modTenants_vault (s k f) : (State.modTenants s k f).vault = s.vault := rfl
@[simp] theorem State.setTenants_mov (s k v) : (State.setTenants s k v).mov = s.mov := rfl
@[simp] theorem State.modTenants_mov (s k f) : (State.modTenants s k f).mov = s.mov := rfl
@[simp] theorem State.setTenants_sent (s k v) : (State.setTenants s k v).sent = s.sent := rfl
@[simp] theorem State.modTenants_sent (s k f) : (State.modTenants s k f).sent = s.sent := rfl
@[simp] theorem State.setTenants_freeCtr (s k v) : (State.setTenants s k v).freeCtr = s.freeCtr := rfl
@[simp] theorem State.modTenants_freeCtr (s k f) : (State.modTenants s k f).freeCtr = s.freeCtr := rfl
@[simp] theorem State.setTenants_pending (s k v) : (State.setTenants s k v).pending = s.pending := rfl
@[simp] theorem State.modTenants_pending (s k f) : (State.modTenants s k f).pending = s.pending := rfl

/-! ### cat -/

@[simp] theorem State.modCat_usb (s f) : (State.modCat s f).usb = s.usb := rfl
@[simp] theorem State.modCat_pwr (s f) : (State.modCat s f).pwr = s.pwr := rfl
@[simp] theorem State.modCat_prot (s f) : (State.modCat s f).prot = s.prot := rfl
@[simp] theorem State.modCat_ft (s f) : (State.modCat s f).ft = s.ft := rfl
@[simp] theorem State.modCat_fifo (s f) : (State.modCat s f).fifo = s.fifo := rfl
@[simp] theorem State.modCat_gals (s f) : (State.modCat s f).gals = s.gals := rfl
@[simp] theorem State.modCat_pipes (s f) : (State.modCat s f).pipes = s.pipes := rfl
@[simp] theorem State.modCat_items (s f) : (State.modCat s f).items = s.items := rfl
@[simp] theorem State.modCat_sess (s f) : (State.modCat s f).sess = s.sess := rfl
@[simp] theorem State.modCat_tenants (s f) : (State.modCat s f).tenants = s.tenants := rfl
@[simp] theorem State.modCat_cat (s f) : (State.modCat s f).cat = f s.cat := rfl
@[simp] theorem State.modCat_can (s f) : (State.modCat s f).can = s.can := rfl
@[simp] theorem State.modCat_board (s f) : (State.modCat s f).board = s.board := rfl
@[simp] theorem State.modCat_regs (s f) : (State.modCat s f).regs = s.regs := rfl
@[simp] theorem State.modCat_clk (s f) : (State.modCat s f).clk = s.clk := rfl
@[simp] theorem State.modCat_upl (s f) : (State.modCat s f).upl = s.upl := rfl
@[simp] theorem State.modCat_ptp (s f) : (State.modCat s f).ptp = s.ptp := rfl
@[simp] theorem State.modCat_coll (s f) : (State.modCat s f).coll = s.coll := rfl
@[simp] theorem State.modCat_dps (s f) : (State.modCat s f).dps = s.dps := rfl
@[simp] theorem State.modCat_svc (s f) : (State.modCat s f).svc = s.svc := rfl
@[simp] theorem State.modCat_flt (s f) : (State.modCat s f).flt = s.flt := rfl
@[simp] theorem State.modCat_boot (s f) : (State.modCat s f).boot = s.boot := rfl
@[simp] theorem State.modCat_dbg (s f) : (State.modCat s f).dbg = s.dbg := rfl
@[simp] theorem State.modCat_mem (s f) : (State.modCat s f).mem = s.mem := rfl
@[simp] theorem State.modCat_vault (s f) : (State.modCat s f).vault = s.vault := rfl
@[simp] theorem State.modCat_mov (s f) : (State.modCat s f).mov = s.mov := rfl
@[simp] theorem State.modCat_sent (s f) : (State.modCat s f).sent = s.sent := rfl
@[simp] theorem State.modCat_freeCtr (s f) : (State.modCat s f).freeCtr = s.freeCtr := rfl
@[simp] theorem State.modCat_pending (s f) : (State.modCat s f).pending = s.pending := rfl

/-! ### can -/

@[simp] theorem State.modCan_usb (s f) : (State.modCan s f).usb = s.usb := rfl
@[simp] theorem State.modCan_pwr (s f) : (State.modCan s f).pwr = s.pwr := rfl
@[simp] theorem State.modCan_prot (s f) : (State.modCan s f).prot = s.prot := rfl
@[simp] theorem State.modCan_ft (s f) : (State.modCan s f).ft = s.ft := rfl
@[simp] theorem State.modCan_fifo (s f) : (State.modCan s f).fifo = s.fifo := rfl
@[simp] theorem State.modCan_gals (s f) : (State.modCan s f).gals = s.gals := rfl
@[simp] theorem State.modCan_pipes (s f) : (State.modCan s f).pipes = s.pipes := rfl
@[simp] theorem State.modCan_items (s f) : (State.modCan s f).items = s.items := rfl
@[simp] theorem State.modCan_sess (s f) : (State.modCan s f).sess = s.sess := rfl
@[simp] theorem State.modCan_tenants (s f) : (State.modCan s f).tenants = s.tenants := rfl
@[simp] theorem State.modCan_cat (s f) : (State.modCan s f).cat = s.cat := rfl
@[simp] theorem State.modCan_can (s f) : (State.modCan s f).can = f s.can := rfl
@[simp] theorem State.modCan_board (s f) : (State.modCan s f).board = s.board := rfl
@[simp] theorem State.modCan_regs (s f) : (State.modCan s f).regs = s.regs := rfl
@[simp] theorem State.modCan_clk (s f) : (State.modCan s f).clk = s.clk := rfl
@[simp] theorem State.modCan_upl (s f) : (State.modCan s f).upl = s.upl := rfl
@[simp] theorem State.modCan_ptp (s f) : (State.modCan s f).ptp = s.ptp := rfl
@[simp] theorem State.modCan_coll (s f) : (State.modCan s f).coll = s.coll := rfl
@[simp] theorem State.modCan_dps (s f) : (State.modCan s f).dps = s.dps := rfl
@[simp] theorem State.modCan_svc (s f) : (State.modCan s f).svc = s.svc := rfl
@[simp] theorem State.modCan_flt (s f) : (State.modCan s f).flt = s.flt := rfl
@[simp] theorem State.modCan_boot (s f) : (State.modCan s f).boot = s.boot := rfl
@[simp] theorem State.modCan_dbg (s f) : (State.modCan s f).dbg = s.dbg := rfl
@[simp] theorem State.modCan_mem (s f) : (State.modCan s f).mem = s.mem := rfl
@[simp] theorem State.modCan_vault (s f) : (State.modCan s f).vault = s.vault := rfl
@[simp] theorem State.modCan_mov (s f) : (State.modCan s f).mov = s.mov := rfl
@[simp] theorem State.modCan_sent (s f) : (State.modCan s f).sent = s.sent := rfl
@[simp] theorem State.modCan_freeCtr (s f) : (State.modCan s f).freeCtr = s.freeCtr := rfl
@[simp] theorem State.modCan_pending (s f) : (State.modCan s f).pending = s.pending := rfl

/-! ### board -/

@[simp] theorem State.modBoard_usb (s f) : (State.modBoard s f).usb = s.usb := rfl
@[simp] theorem State.modBoard_pwr (s f) : (State.modBoard s f).pwr = s.pwr := rfl
@[simp] theorem State.modBoard_prot (s f) : (State.modBoard s f).prot = s.prot := rfl
@[simp] theorem State.modBoard_ft (s f) : (State.modBoard s f).ft = s.ft := rfl
@[simp] theorem State.modBoard_fifo (s f) : (State.modBoard s f).fifo = s.fifo := rfl
@[simp] theorem State.modBoard_gals (s f) : (State.modBoard s f).gals = s.gals := rfl
@[simp] theorem State.modBoard_pipes (s f) : (State.modBoard s f).pipes = s.pipes := rfl
@[simp] theorem State.modBoard_items (s f) : (State.modBoard s f).items = s.items := rfl
@[simp] theorem State.modBoard_sess (s f) : (State.modBoard s f).sess = s.sess := rfl
@[simp] theorem State.modBoard_tenants (s f) : (State.modBoard s f).tenants = s.tenants := rfl
@[simp] theorem State.modBoard_cat (s f) : (State.modBoard s f).cat = s.cat := rfl
@[simp] theorem State.modBoard_can (s f) : (State.modBoard s f).can = s.can := rfl
@[simp] theorem State.modBoard_board (s f) : (State.modBoard s f).board = f s.board := rfl
@[simp] theorem State.modBoard_regs (s f) : (State.modBoard s f).regs = s.regs := rfl
@[simp] theorem State.modBoard_clk (s f) : (State.modBoard s f).clk = s.clk := rfl
@[simp] theorem State.modBoard_upl (s f) : (State.modBoard s f).upl = s.upl := rfl
@[simp] theorem State.modBoard_ptp (s f) : (State.modBoard s f).ptp = s.ptp := rfl
@[simp] theorem State.modBoard_coll (s f) : (State.modBoard s f).coll = s.coll := rfl
@[simp] theorem State.modBoard_dps (s f) : (State.modBoard s f).dps = s.dps := rfl
@[simp] theorem State.modBoard_svc (s f) : (State.modBoard s f).svc = s.svc := rfl
@[simp] theorem State.modBoard_flt (s f) : (State.modBoard s f).flt = s.flt := rfl
@[simp] theorem State.modBoard_boot (s f) : (State.modBoard s f).boot = s.boot := rfl
@[simp] theorem State.modBoard_dbg (s f) : (State.modBoard s f).dbg = s.dbg := rfl
@[simp] theorem State.modBoard_mem (s f) : (State.modBoard s f).mem = s.mem := rfl
@[simp] theorem State.modBoard_vault (s f) : (State.modBoard s f).vault = s.vault := rfl
@[simp] theorem State.modBoard_mov (s f) : (State.modBoard s f).mov = s.mov := rfl
@[simp] theorem State.modBoard_sent (s f) : (State.modBoard s f).sent = s.sent := rfl
@[simp] theorem State.modBoard_freeCtr (s f) : (State.modBoard s f).freeCtr = s.freeCtr := rfl
@[simp] theorem State.modBoard_pending (s f) : (State.modBoard s f).pending = s.pending := rfl

/-! ### regs -/

@[simp] theorem State.modRegs_usb (s f) : (State.modRegs s f).usb = s.usb := rfl
@[simp] theorem State.modRegs_pwr (s f) : (State.modRegs s f).pwr = s.pwr := rfl
@[simp] theorem State.modRegs_prot (s f) : (State.modRegs s f).prot = s.prot := rfl
@[simp] theorem State.modRegs_ft (s f) : (State.modRegs s f).ft = s.ft := rfl
@[simp] theorem State.modRegs_fifo (s f) : (State.modRegs s f).fifo = s.fifo := rfl
@[simp] theorem State.modRegs_gals (s f) : (State.modRegs s f).gals = s.gals := rfl
@[simp] theorem State.modRegs_pipes (s f) : (State.modRegs s f).pipes = s.pipes := rfl
@[simp] theorem State.modRegs_items (s f) : (State.modRegs s f).items = s.items := rfl
@[simp] theorem State.modRegs_sess (s f) : (State.modRegs s f).sess = s.sess := rfl
@[simp] theorem State.modRegs_tenants (s f) : (State.modRegs s f).tenants = s.tenants := rfl
@[simp] theorem State.modRegs_cat (s f) : (State.modRegs s f).cat = s.cat := rfl
@[simp] theorem State.modRegs_can (s f) : (State.modRegs s f).can = s.can := rfl
@[simp] theorem State.modRegs_board (s f) : (State.modRegs s f).board = s.board := rfl
@[simp] theorem State.modRegs_regs (s f) : (State.modRegs s f).regs = f s.regs := rfl
@[simp] theorem State.modRegs_clk (s f) : (State.modRegs s f).clk = s.clk := rfl
@[simp] theorem State.modRegs_upl (s f) : (State.modRegs s f).upl = s.upl := rfl
@[simp] theorem State.modRegs_ptp (s f) : (State.modRegs s f).ptp = s.ptp := rfl
@[simp] theorem State.modRegs_coll (s f) : (State.modRegs s f).coll = s.coll := rfl
@[simp] theorem State.modRegs_dps (s f) : (State.modRegs s f).dps = s.dps := rfl
@[simp] theorem State.modRegs_svc (s f) : (State.modRegs s f).svc = s.svc := rfl
@[simp] theorem State.modRegs_flt (s f) : (State.modRegs s f).flt = s.flt := rfl
@[simp] theorem State.modRegs_boot (s f) : (State.modRegs s f).boot = s.boot := rfl
@[simp] theorem State.modRegs_dbg (s f) : (State.modRegs s f).dbg = s.dbg := rfl
@[simp] theorem State.modRegs_mem (s f) : (State.modRegs s f).mem = s.mem := rfl
@[simp] theorem State.modRegs_vault (s f) : (State.modRegs s f).vault = s.vault := rfl
@[simp] theorem State.modRegs_mov (s f) : (State.modRegs s f).mov = s.mov := rfl
@[simp] theorem State.modRegs_sent (s f) : (State.modRegs s f).sent = s.sent := rfl
@[simp] theorem State.modRegs_freeCtr (s f) : (State.modRegs s f).freeCtr = s.freeCtr := rfl
@[simp] theorem State.modRegs_pending (s f) : (State.modRegs s f).pending = s.pending := rfl

/-! ### clk -/

@[simp] theorem State.modClk_usb (s f) : (State.modClk s f).usb = s.usb := rfl
@[simp] theorem State.modClk_pwr (s f) : (State.modClk s f).pwr = s.pwr := rfl
@[simp] theorem State.modClk_prot (s f) : (State.modClk s f).prot = s.prot := rfl
@[simp] theorem State.modClk_ft (s f) : (State.modClk s f).ft = s.ft := rfl
@[simp] theorem State.modClk_fifo (s f) : (State.modClk s f).fifo = s.fifo := rfl
@[simp] theorem State.modClk_gals (s f) : (State.modClk s f).gals = s.gals := rfl
@[simp] theorem State.modClk_pipes (s f) : (State.modClk s f).pipes = s.pipes := rfl
@[simp] theorem State.modClk_items (s f) : (State.modClk s f).items = s.items := rfl
@[simp] theorem State.modClk_sess (s f) : (State.modClk s f).sess = s.sess := rfl
@[simp] theorem State.modClk_tenants (s f) : (State.modClk s f).tenants = s.tenants := rfl
@[simp] theorem State.modClk_cat (s f) : (State.modClk s f).cat = s.cat := rfl
@[simp] theorem State.modClk_can (s f) : (State.modClk s f).can = s.can := rfl
@[simp] theorem State.modClk_board (s f) : (State.modClk s f).board = s.board := rfl
@[simp] theorem State.modClk_regs (s f) : (State.modClk s f).regs = s.regs := rfl
@[simp] theorem State.modClk_clk (s f) : (State.modClk s f).clk = f s.clk := rfl
@[simp] theorem State.modClk_upl (s f) : (State.modClk s f).upl = s.upl := rfl
@[simp] theorem State.modClk_ptp (s f) : (State.modClk s f).ptp = s.ptp := rfl
@[simp] theorem State.modClk_coll (s f) : (State.modClk s f).coll = s.coll := rfl
@[simp] theorem State.modClk_dps (s f) : (State.modClk s f).dps = s.dps := rfl
@[simp] theorem State.modClk_svc (s f) : (State.modClk s f).svc = s.svc := rfl
@[simp] theorem State.modClk_flt (s f) : (State.modClk s f).flt = s.flt := rfl
@[simp] theorem State.modClk_boot (s f) : (State.modClk s f).boot = s.boot := rfl
@[simp] theorem State.modClk_dbg (s f) : (State.modClk s f).dbg = s.dbg := rfl
@[simp] theorem State.modClk_mem (s f) : (State.modClk s f).mem = s.mem := rfl
@[simp] theorem State.modClk_vault (s f) : (State.modClk s f).vault = s.vault := rfl
@[simp] theorem State.modClk_mov (s f) : (State.modClk s f).mov = s.mov := rfl
@[simp] theorem State.modClk_sent (s f) : (State.modClk s f).sent = s.sent := rfl
@[simp] theorem State.modClk_freeCtr (s f) : (State.modClk s f).freeCtr = s.freeCtr := rfl
@[simp] theorem State.modClk_pending (s f) : (State.modClk s f).pending = s.pending := rfl

/-! ### upl -/

@[simp] theorem State.modUpl_usb (s f) : (State.modUpl s f).usb = s.usb := rfl
@[simp] theorem State.modUpl_pwr (s f) : (State.modUpl s f).pwr = s.pwr := rfl
@[simp] theorem State.modUpl_prot (s f) : (State.modUpl s f).prot = s.prot := rfl
@[simp] theorem State.modUpl_ft (s f) : (State.modUpl s f).ft = s.ft := rfl
@[simp] theorem State.modUpl_fifo (s f) : (State.modUpl s f).fifo = s.fifo := rfl
@[simp] theorem State.modUpl_gals (s f) : (State.modUpl s f).gals = s.gals := rfl
@[simp] theorem State.modUpl_pipes (s f) : (State.modUpl s f).pipes = s.pipes := rfl
@[simp] theorem State.modUpl_items (s f) : (State.modUpl s f).items = s.items := rfl
@[simp] theorem State.modUpl_sess (s f) : (State.modUpl s f).sess = s.sess := rfl
@[simp] theorem State.modUpl_tenants (s f) : (State.modUpl s f).tenants = s.tenants := rfl
@[simp] theorem State.modUpl_cat (s f) : (State.modUpl s f).cat = s.cat := rfl
@[simp] theorem State.modUpl_can (s f) : (State.modUpl s f).can = s.can := rfl
@[simp] theorem State.modUpl_board (s f) : (State.modUpl s f).board = s.board := rfl
@[simp] theorem State.modUpl_regs (s f) : (State.modUpl s f).regs = s.regs := rfl
@[simp] theorem State.modUpl_clk (s f) : (State.modUpl s f).clk = s.clk := rfl
@[simp] theorem State.modUpl_upl (s f) : (State.modUpl s f).upl = f s.upl := rfl
@[simp] theorem State.modUpl_ptp (s f) : (State.modUpl s f).ptp = s.ptp := rfl
@[simp] theorem State.modUpl_coll (s f) : (State.modUpl s f).coll = s.coll := rfl
@[simp] theorem State.modUpl_dps (s f) : (State.modUpl s f).dps = s.dps := rfl
@[simp] theorem State.modUpl_svc (s f) : (State.modUpl s f).svc = s.svc := rfl
@[simp] theorem State.modUpl_flt (s f) : (State.modUpl s f).flt = s.flt := rfl
@[simp] theorem State.modUpl_boot (s f) : (State.modUpl s f).boot = s.boot := rfl
@[simp] theorem State.modUpl_dbg (s f) : (State.modUpl s f).dbg = s.dbg := rfl
@[simp] theorem State.modUpl_mem (s f) : (State.modUpl s f).mem = s.mem := rfl
@[simp] theorem State.modUpl_vault (s f) : (State.modUpl s f).vault = s.vault := rfl
@[simp] theorem State.modUpl_mov (s f) : (State.modUpl s f).mov = s.mov := rfl
@[simp] theorem State.modUpl_sent (s f) : (State.modUpl s f).sent = s.sent := rfl
@[simp] theorem State.modUpl_freeCtr (s f) : (State.modUpl s f).freeCtr = s.freeCtr := rfl
@[simp] theorem State.modUpl_pending (s f) : (State.modUpl s f).pending = s.pending := rfl

/-! ### ptp -/

@[simp] theorem State.modPtp_usb (s f) : (State.modPtp s f).usb = s.usb := rfl
@[simp] theorem State.modPtp_pwr (s f) : (State.modPtp s f).pwr = s.pwr := rfl
@[simp] theorem State.modPtp_prot (s f) : (State.modPtp s f).prot = s.prot := rfl
@[simp] theorem State.modPtp_ft (s f) : (State.modPtp s f).ft = s.ft := rfl
@[simp] theorem State.modPtp_fifo (s f) : (State.modPtp s f).fifo = s.fifo := rfl
@[simp] theorem State.modPtp_gals (s f) : (State.modPtp s f).gals = s.gals := rfl
@[simp] theorem State.modPtp_pipes (s f) : (State.modPtp s f).pipes = s.pipes := rfl
@[simp] theorem State.modPtp_items (s f) : (State.modPtp s f).items = s.items := rfl
@[simp] theorem State.modPtp_sess (s f) : (State.modPtp s f).sess = s.sess := rfl
@[simp] theorem State.modPtp_tenants (s f) : (State.modPtp s f).tenants = s.tenants := rfl
@[simp] theorem State.modPtp_cat (s f) : (State.modPtp s f).cat = s.cat := rfl
@[simp] theorem State.modPtp_can (s f) : (State.modPtp s f).can = s.can := rfl
@[simp] theorem State.modPtp_board (s f) : (State.modPtp s f).board = s.board := rfl
@[simp] theorem State.modPtp_regs (s f) : (State.modPtp s f).regs = s.regs := rfl
@[simp] theorem State.modPtp_clk (s f) : (State.modPtp s f).clk = s.clk := rfl
@[simp] theorem State.modPtp_upl (s f) : (State.modPtp s f).upl = s.upl := rfl
@[simp] theorem State.modPtp_ptp (s f) : (State.modPtp s f).ptp = f s.ptp := rfl
@[simp] theorem State.modPtp_coll (s f) : (State.modPtp s f).coll = s.coll := rfl
@[simp] theorem State.modPtp_dps (s f) : (State.modPtp s f).dps = s.dps := rfl
@[simp] theorem State.modPtp_svc (s f) : (State.modPtp s f).svc = s.svc := rfl
@[simp] theorem State.modPtp_flt (s f) : (State.modPtp s f).flt = s.flt := rfl
@[simp] theorem State.modPtp_boot (s f) : (State.modPtp s f).boot = s.boot := rfl
@[simp] theorem State.modPtp_dbg (s f) : (State.modPtp s f).dbg = s.dbg := rfl
@[simp] theorem State.modPtp_mem (s f) : (State.modPtp s f).mem = s.mem := rfl
@[simp] theorem State.modPtp_vault (s f) : (State.modPtp s f).vault = s.vault := rfl
@[simp] theorem State.modPtp_mov (s f) : (State.modPtp s f).mov = s.mov := rfl
@[simp] theorem State.modPtp_sent (s f) : (State.modPtp s f).sent = s.sent := rfl
@[simp] theorem State.modPtp_freeCtr (s f) : (State.modPtp s f).freeCtr = s.freeCtr := rfl
@[simp] theorem State.modPtp_pending (s f) : (State.modPtp s f).pending = s.pending := rfl

/-! ### coll -/

@[simp] theorem State.modColl_usb (s f) : (State.modColl s f).usb = s.usb := rfl
@[simp] theorem State.modColl_pwr (s f) : (State.modColl s f).pwr = s.pwr := rfl
@[simp] theorem State.modColl_prot (s f) : (State.modColl s f).prot = s.prot := rfl
@[simp] theorem State.modColl_ft (s f) : (State.modColl s f).ft = s.ft := rfl
@[simp] theorem State.modColl_fifo (s f) : (State.modColl s f).fifo = s.fifo := rfl
@[simp] theorem State.modColl_gals (s f) : (State.modColl s f).gals = s.gals := rfl
@[simp] theorem State.modColl_pipes (s f) : (State.modColl s f).pipes = s.pipes := rfl
@[simp] theorem State.modColl_items (s f) : (State.modColl s f).items = s.items := rfl
@[simp] theorem State.modColl_sess (s f) : (State.modColl s f).sess = s.sess := rfl
@[simp] theorem State.modColl_tenants (s f) : (State.modColl s f).tenants = s.tenants := rfl
@[simp] theorem State.modColl_cat (s f) : (State.modColl s f).cat = s.cat := rfl
@[simp] theorem State.modColl_can (s f) : (State.modColl s f).can = s.can := rfl
@[simp] theorem State.modColl_board (s f) : (State.modColl s f).board = s.board := rfl
@[simp] theorem State.modColl_regs (s f) : (State.modColl s f).regs = s.regs := rfl
@[simp] theorem State.modColl_clk (s f) : (State.modColl s f).clk = s.clk := rfl
@[simp] theorem State.modColl_upl (s f) : (State.modColl s f).upl = s.upl := rfl
@[simp] theorem State.modColl_ptp (s f) : (State.modColl s f).ptp = s.ptp := rfl
@[simp] theorem State.modColl_coll (s f) : (State.modColl s f).coll = f s.coll := rfl
@[simp] theorem State.modColl_dps (s f) : (State.modColl s f).dps = s.dps := rfl
@[simp] theorem State.modColl_svc (s f) : (State.modColl s f).svc = s.svc := rfl
@[simp] theorem State.modColl_flt (s f) : (State.modColl s f).flt = s.flt := rfl
@[simp] theorem State.modColl_boot (s f) : (State.modColl s f).boot = s.boot := rfl
@[simp] theorem State.modColl_dbg (s f) : (State.modColl s f).dbg = s.dbg := rfl
@[simp] theorem State.modColl_mem (s f) : (State.modColl s f).mem = s.mem := rfl
@[simp] theorem State.modColl_vault (s f) : (State.modColl s f).vault = s.vault := rfl
@[simp] theorem State.modColl_mov (s f) : (State.modColl s f).mov = s.mov := rfl
@[simp] theorem State.modColl_sent (s f) : (State.modColl s f).sent = s.sent := rfl
@[simp] theorem State.modColl_freeCtr (s f) : (State.modColl s f).freeCtr = s.freeCtr := rfl
@[simp] theorem State.modColl_pending (s f) : (State.modColl s f).pending = s.pending := rfl

/-! ### dps -/

@[simp] theorem State.modDps_usb (s f) : (State.modDps s f).usb = s.usb := rfl
@[simp] theorem State.modDps_pwr (s f) : (State.modDps s f).pwr = s.pwr := rfl
@[simp] theorem State.modDps_prot (s f) : (State.modDps s f).prot = s.prot := rfl
@[simp] theorem State.modDps_ft (s f) : (State.modDps s f).ft = s.ft := rfl
@[simp] theorem State.modDps_fifo (s f) : (State.modDps s f).fifo = s.fifo := rfl
@[simp] theorem State.modDps_gals (s f) : (State.modDps s f).gals = s.gals := rfl
@[simp] theorem State.modDps_pipes (s f) : (State.modDps s f).pipes = s.pipes := rfl
@[simp] theorem State.modDps_items (s f) : (State.modDps s f).items = s.items := rfl
@[simp] theorem State.modDps_sess (s f) : (State.modDps s f).sess = s.sess := rfl
@[simp] theorem State.modDps_tenants (s f) : (State.modDps s f).tenants = s.tenants := rfl
@[simp] theorem State.modDps_cat (s f) : (State.modDps s f).cat = s.cat := rfl
@[simp] theorem State.modDps_can (s f) : (State.modDps s f).can = s.can := rfl
@[simp] theorem State.modDps_board (s f) : (State.modDps s f).board = s.board := rfl
@[simp] theorem State.modDps_regs (s f) : (State.modDps s f).regs = s.regs := rfl
@[simp] theorem State.modDps_clk (s f) : (State.modDps s f).clk = s.clk := rfl
@[simp] theorem State.modDps_upl (s f) : (State.modDps s f).upl = s.upl := rfl
@[simp] theorem State.modDps_ptp (s f) : (State.modDps s f).ptp = s.ptp := rfl
@[simp] theorem State.modDps_coll (s f) : (State.modDps s f).coll = s.coll := rfl
@[simp] theorem State.modDps_dps (s f) : (State.modDps s f).dps = f s.dps := rfl
@[simp] theorem State.modDps_svc (s f) : (State.modDps s f).svc = s.svc := rfl
@[simp] theorem State.modDps_flt (s f) : (State.modDps s f).flt = s.flt := rfl
@[simp] theorem State.modDps_boot (s f) : (State.modDps s f).boot = s.boot := rfl
@[simp] theorem State.modDps_dbg (s f) : (State.modDps s f).dbg = s.dbg := rfl
@[simp] theorem State.modDps_mem (s f) : (State.modDps s f).mem = s.mem := rfl
@[simp] theorem State.modDps_vault (s f) : (State.modDps s f).vault = s.vault := rfl
@[simp] theorem State.modDps_mov (s f) : (State.modDps s f).mov = s.mov := rfl
@[simp] theorem State.modDps_sent (s f) : (State.modDps s f).sent = s.sent := rfl
@[simp] theorem State.modDps_freeCtr (s f) : (State.modDps s f).freeCtr = s.freeCtr := rfl
@[simp] theorem State.modDps_pending (s f) : (State.modDps s f).pending = s.pending := rfl

/-! ### svc -/

@[simp] theorem State.modSvc_usb (s f) : (State.modSvc s f).usb = s.usb := rfl
@[simp] theorem State.modSvc_pwr (s f) : (State.modSvc s f).pwr = s.pwr := rfl
@[simp] theorem State.modSvc_prot (s f) : (State.modSvc s f).prot = s.prot := rfl
@[simp] theorem State.modSvc_ft (s f) : (State.modSvc s f).ft = s.ft := rfl
@[simp] theorem State.modSvc_fifo (s f) : (State.modSvc s f).fifo = s.fifo := rfl
@[simp] theorem State.modSvc_gals (s f) : (State.modSvc s f).gals = s.gals := rfl
@[simp] theorem State.modSvc_pipes (s f) : (State.modSvc s f).pipes = s.pipes := rfl
@[simp] theorem State.modSvc_items (s f) : (State.modSvc s f).items = s.items := rfl
@[simp] theorem State.modSvc_sess (s f) : (State.modSvc s f).sess = s.sess := rfl
@[simp] theorem State.modSvc_tenants (s f) : (State.modSvc s f).tenants = s.tenants := rfl
@[simp] theorem State.modSvc_cat (s f) : (State.modSvc s f).cat = s.cat := rfl
@[simp] theorem State.modSvc_can (s f) : (State.modSvc s f).can = s.can := rfl
@[simp] theorem State.modSvc_board (s f) : (State.modSvc s f).board = s.board := rfl
@[simp] theorem State.modSvc_regs (s f) : (State.modSvc s f).regs = s.regs := rfl
@[simp] theorem State.modSvc_clk (s f) : (State.modSvc s f).clk = s.clk := rfl
@[simp] theorem State.modSvc_upl (s f) : (State.modSvc s f).upl = s.upl := rfl
@[simp] theorem State.modSvc_ptp (s f) : (State.modSvc s f).ptp = s.ptp := rfl
@[simp] theorem State.modSvc_coll (s f) : (State.modSvc s f).coll = s.coll := rfl
@[simp] theorem State.modSvc_dps (s f) : (State.modSvc s f).dps = s.dps := rfl
@[simp] theorem State.modSvc_svc (s f) : (State.modSvc s f).svc = f s.svc := rfl
@[simp] theorem State.modSvc_flt (s f) : (State.modSvc s f).flt = s.flt := rfl
@[simp] theorem State.modSvc_boot (s f) : (State.modSvc s f).boot = s.boot := rfl
@[simp] theorem State.modSvc_dbg (s f) : (State.modSvc s f).dbg = s.dbg := rfl
@[simp] theorem State.modSvc_mem (s f) : (State.modSvc s f).mem = s.mem := rfl
@[simp] theorem State.modSvc_vault (s f) : (State.modSvc s f).vault = s.vault := rfl
@[simp] theorem State.modSvc_mov (s f) : (State.modSvc s f).mov = s.mov := rfl
@[simp] theorem State.modSvc_sent (s f) : (State.modSvc s f).sent = s.sent := rfl
@[simp] theorem State.modSvc_freeCtr (s f) : (State.modSvc s f).freeCtr = s.freeCtr := rfl
@[simp] theorem State.modSvc_pending (s f) : (State.modSvc s f).pending = s.pending := rfl

/-! ### flt -/

@[simp] theorem State.modFlt_usb (s f) : (State.modFlt s f).usb = s.usb := rfl
@[simp] theorem State.modFlt_pwr (s f) : (State.modFlt s f).pwr = s.pwr := rfl
@[simp] theorem State.modFlt_prot (s f) : (State.modFlt s f).prot = s.prot := rfl
@[simp] theorem State.modFlt_ft (s f) : (State.modFlt s f).ft = s.ft := rfl
@[simp] theorem State.modFlt_fifo (s f) : (State.modFlt s f).fifo = s.fifo := rfl
@[simp] theorem State.modFlt_gals (s f) : (State.modFlt s f).gals = s.gals := rfl
@[simp] theorem State.modFlt_pipes (s f) : (State.modFlt s f).pipes = s.pipes := rfl
@[simp] theorem State.modFlt_items (s f) : (State.modFlt s f).items = s.items := rfl
@[simp] theorem State.modFlt_sess (s f) : (State.modFlt s f).sess = s.sess := rfl
@[simp] theorem State.modFlt_tenants (s f) : (State.modFlt s f).tenants = s.tenants := rfl
@[simp] theorem State.modFlt_cat (s f) : (State.modFlt s f).cat = s.cat := rfl
@[simp] theorem State.modFlt_can (s f) : (State.modFlt s f).can = s.can := rfl
@[simp] theorem State.modFlt_board (s f) : (State.modFlt s f).board = s.board := rfl
@[simp] theorem State.modFlt_regs (s f) : (State.modFlt s f).regs = s.regs := rfl
@[simp] theorem State.modFlt_clk (s f) : (State.modFlt s f).clk = s.clk := rfl
@[simp] theorem State.modFlt_upl (s f) : (State.modFlt s f).upl = s.upl := rfl
@[simp] theorem State.modFlt_ptp (s f) : (State.modFlt s f).ptp = s.ptp := rfl
@[simp] theorem State.modFlt_coll (s f) : (State.modFlt s f).coll = s.coll := rfl
@[simp] theorem State.modFlt_dps (s f) : (State.modFlt s f).dps = s.dps := rfl
@[simp] theorem State.modFlt_svc (s f) : (State.modFlt s f).svc = s.svc := rfl
@[simp] theorem State.modFlt_flt (s f) : (State.modFlt s f).flt = f s.flt := rfl
@[simp] theorem State.modFlt_boot (s f) : (State.modFlt s f).boot = s.boot := rfl
@[simp] theorem State.modFlt_dbg (s f) : (State.modFlt s f).dbg = s.dbg := rfl
@[simp] theorem State.modFlt_mem (s f) : (State.modFlt s f).mem = s.mem := rfl
@[simp] theorem State.modFlt_vault (s f) : (State.modFlt s f).vault = s.vault := rfl
@[simp] theorem State.modFlt_mov (s f) : (State.modFlt s f).mov = s.mov := rfl
@[simp] theorem State.modFlt_sent (s f) : (State.modFlt s f).sent = s.sent := rfl
@[simp] theorem State.modFlt_freeCtr (s f) : (State.modFlt s f).freeCtr = s.freeCtr := rfl
@[simp] theorem State.modFlt_pending (s f) : (State.modFlt s f).pending = s.pending := rfl

/-! ### boot -/

@[simp] theorem State.modBoot_usb (s f) : (State.modBoot s f).usb = s.usb := rfl
@[simp] theorem State.modBoot_pwr (s f) : (State.modBoot s f).pwr = s.pwr := rfl
@[simp] theorem State.modBoot_prot (s f) : (State.modBoot s f).prot = s.prot := rfl
@[simp] theorem State.modBoot_ft (s f) : (State.modBoot s f).ft = s.ft := rfl
@[simp] theorem State.modBoot_fifo (s f) : (State.modBoot s f).fifo = s.fifo := rfl
@[simp] theorem State.modBoot_gals (s f) : (State.modBoot s f).gals = s.gals := rfl
@[simp] theorem State.modBoot_pipes (s f) : (State.modBoot s f).pipes = s.pipes := rfl
@[simp] theorem State.modBoot_items (s f) : (State.modBoot s f).items = s.items := rfl
@[simp] theorem State.modBoot_sess (s f) : (State.modBoot s f).sess = s.sess := rfl
@[simp] theorem State.modBoot_tenants (s f) : (State.modBoot s f).tenants = s.tenants := rfl
@[simp] theorem State.modBoot_cat (s f) : (State.modBoot s f).cat = s.cat := rfl
@[simp] theorem State.modBoot_can (s f) : (State.modBoot s f).can = s.can := rfl
@[simp] theorem State.modBoot_board (s f) : (State.modBoot s f).board = s.board := rfl
@[simp] theorem State.modBoot_regs (s f) : (State.modBoot s f).regs = s.regs := rfl
@[simp] theorem State.modBoot_clk (s f) : (State.modBoot s f).clk = s.clk := rfl
@[simp] theorem State.modBoot_upl (s f) : (State.modBoot s f).upl = s.upl := rfl
@[simp] theorem State.modBoot_ptp (s f) : (State.modBoot s f).ptp = s.ptp := rfl
@[simp] theorem State.modBoot_coll (s f) : (State.modBoot s f).coll = s.coll := rfl
@[simp] theorem State.modBoot_dps (s f) : (State.modBoot s f).dps = s.dps := rfl
@[simp] theorem State.modBoot_svc (s f) : (State.modBoot s f).svc = s.svc := rfl
@[simp] theorem State.modBoot_flt (s f) : (State.modBoot s f).flt = s.flt := rfl
@[simp] theorem State.modBoot_boot (s f) : (State.modBoot s f).boot = f s.boot := rfl
@[simp] theorem State.modBoot_dbg (s f) : (State.modBoot s f).dbg = s.dbg := rfl
@[simp] theorem State.modBoot_mem (s f) : (State.modBoot s f).mem = s.mem := rfl
@[simp] theorem State.modBoot_vault (s f) : (State.modBoot s f).vault = s.vault := rfl
@[simp] theorem State.modBoot_mov (s f) : (State.modBoot s f).mov = s.mov := rfl
@[simp] theorem State.modBoot_sent (s f) : (State.modBoot s f).sent = s.sent := rfl
@[simp] theorem State.modBoot_freeCtr (s f) : (State.modBoot s f).freeCtr = s.freeCtr := rfl
@[simp] theorem State.modBoot_pending (s f) : (State.modBoot s f).pending = s.pending := rfl

/-! ### dbg -/

@[simp] theorem State.modDbg_usb (s f) : (State.modDbg s f).usb = s.usb := rfl
@[simp] theorem State.modDbg_pwr (s f) : (State.modDbg s f).pwr = s.pwr := rfl
@[simp] theorem State.modDbg_prot (s f) : (State.modDbg s f).prot = s.prot := rfl
@[simp] theorem State.modDbg_ft (s f) : (State.modDbg s f).ft = s.ft := rfl
@[simp] theorem State.modDbg_fifo (s f) : (State.modDbg s f).fifo = s.fifo := rfl
@[simp] theorem State.modDbg_gals (s f) : (State.modDbg s f).gals = s.gals := rfl
@[simp] theorem State.modDbg_pipes (s f) : (State.modDbg s f).pipes = s.pipes := rfl
@[simp] theorem State.modDbg_items (s f) : (State.modDbg s f).items = s.items := rfl
@[simp] theorem State.modDbg_sess (s f) : (State.modDbg s f).sess = s.sess := rfl
@[simp] theorem State.modDbg_tenants (s f) : (State.modDbg s f).tenants = s.tenants := rfl
@[simp] theorem State.modDbg_cat (s f) : (State.modDbg s f).cat = s.cat := rfl
@[simp] theorem State.modDbg_can (s f) : (State.modDbg s f).can = s.can := rfl
@[simp] theorem State.modDbg_board (s f) : (State.modDbg s f).board = s.board := rfl
@[simp] theorem State.modDbg_regs (s f) : (State.modDbg s f).regs = s.regs := rfl
@[simp] theorem State.modDbg_clk (s f) : (State.modDbg s f).clk = s.clk := rfl
@[simp] theorem State.modDbg_upl (s f) : (State.modDbg s f).upl = s.upl := rfl
@[simp] theorem State.modDbg_ptp (s f) : (State.modDbg s f).ptp = s.ptp := rfl
@[simp] theorem State.modDbg_coll (s f) : (State.modDbg s f).coll = s.coll := rfl
@[simp] theorem State.modDbg_dps (s f) : (State.modDbg s f).dps = s.dps := rfl
@[simp] theorem State.modDbg_svc (s f) : (State.modDbg s f).svc = s.svc := rfl
@[simp] theorem State.modDbg_flt (s f) : (State.modDbg s f).flt = s.flt := rfl
@[simp] theorem State.modDbg_boot (s f) : (State.modDbg s f).boot = s.boot := rfl
@[simp] theorem State.modDbg_dbg (s f) : (State.modDbg s f).dbg = f s.dbg := rfl
@[simp] theorem State.modDbg_mem (s f) : (State.modDbg s f).mem = s.mem := rfl
@[simp] theorem State.modDbg_vault (s f) : (State.modDbg s f).vault = s.vault := rfl
@[simp] theorem State.modDbg_mov (s f) : (State.modDbg s f).mov = s.mov := rfl
@[simp] theorem State.modDbg_sent (s f) : (State.modDbg s f).sent = s.sent := rfl
@[simp] theorem State.modDbg_freeCtr (s f) : (State.modDbg s f).freeCtr = s.freeCtr := rfl
@[simp] theorem State.modDbg_pending (s f) : (State.modDbg s f).pending = s.pending := rfl

/-! ### mem -/

@[simp] theorem State.modMem_usb (s f) : (State.modMem s f).usb = s.usb := rfl
@[simp] theorem State.modMem_pwr (s f) : (State.modMem s f).pwr = s.pwr := rfl
@[simp] theorem State.modMem_prot (s f) : (State.modMem s f).prot = s.prot := rfl
@[simp] theorem State.modMem_ft (s f) : (State.modMem s f).ft = s.ft := rfl
@[simp] theorem State.modMem_fifo (s f) : (State.modMem s f).fifo = s.fifo := rfl
@[simp] theorem State.modMem_gals (s f) : (State.modMem s f).gals = s.gals := rfl
@[simp] theorem State.modMem_pipes (s f) : (State.modMem s f).pipes = s.pipes := rfl
@[simp] theorem State.modMem_items (s f) : (State.modMem s f).items = s.items := rfl
@[simp] theorem State.modMem_sess (s f) : (State.modMem s f).sess = s.sess := rfl
@[simp] theorem State.modMem_tenants (s f) : (State.modMem s f).tenants = s.tenants := rfl
@[simp] theorem State.modMem_cat (s f) : (State.modMem s f).cat = s.cat := rfl
@[simp] theorem State.modMem_can (s f) : (State.modMem s f).can = s.can := rfl
@[simp] theorem State.modMem_board (s f) : (State.modMem s f).board = s.board := rfl
@[simp] theorem State.modMem_regs (s f) : (State.modMem s f).regs = s.regs := rfl
@[simp] theorem State.modMem_clk (s f) : (State.modMem s f).clk = s.clk := rfl
@[simp] theorem State.modMem_upl (s f) : (State.modMem s f).upl = s.upl := rfl
@[simp] theorem State.modMem_ptp (s f) : (State.modMem s f).ptp = s.ptp := rfl
@[simp] theorem State.modMem_coll (s f) : (State.modMem s f).coll = s.coll := rfl
@[simp] theorem State.modMem_dps (s f) : (State.modMem s f).dps = s.dps := rfl
@[simp] theorem State.modMem_svc (s f) : (State.modMem s f).svc = s.svc := rfl
@[simp] theorem State.modMem_flt (s f) : (State.modMem s f).flt = s.flt := rfl
@[simp] theorem State.modMem_boot (s f) : (State.modMem s f).boot = s.boot := rfl
@[simp] theorem State.modMem_dbg (s f) : (State.modMem s f).dbg = s.dbg := rfl
@[simp] theorem State.modMem_mem (s f) : (State.modMem s f).mem = f s.mem := rfl
@[simp] theorem State.modMem_vault (s f) : (State.modMem s f).vault = s.vault := rfl
@[simp] theorem State.modMem_mov (s f) : (State.modMem s f).mov = s.mov := rfl
@[simp] theorem State.modMem_sent (s f) : (State.modMem s f).sent = s.sent := rfl
@[simp] theorem State.modMem_freeCtr (s f) : (State.modMem s f).freeCtr = s.freeCtr := rfl
@[simp] theorem State.modMem_pending (s f) : (State.modMem s f).pending = s.pending := rfl

/-! ### vault -/

@[simp] theorem State.modVault_usb (s f) : (State.modVault s f).usb = s.usb := rfl
@[simp] theorem State.modVault_pwr (s f) : (State.modVault s f).pwr = s.pwr := rfl
@[simp] theorem State.modVault_prot (s f) : (State.modVault s f).prot = s.prot := rfl
@[simp] theorem State.modVault_ft (s f) : (State.modVault s f).ft = s.ft := rfl
@[simp] theorem State.modVault_fifo (s f) : (State.modVault s f).fifo = s.fifo := rfl
@[simp] theorem State.modVault_gals (s f) : (State.modVault s f).gals = s.gals := rfl
@[simp] theorem State.modVault_pipes (s f) : (State.modVault s f).pipes = s.pipes := rfl
@[simp] theorem State.modVault_items (s f) : (State.modVault s f).items = s.items := rfl
@[simp] theorem State.modVault_sess (s f) : (State.modVault s f).sess = s.sess := rfl
@[simp] theorem State.modVault_tenants (s f) : (State.modVault s f).tenants = s.tenants := rfl
@[simp] theorem State.modVault_cat (s f) : (State.modVault s f).cat = s.cat := rfl
@[simp] theorem State.modVault_can (s f) : (State.modVault s f).can = s.can := rfl
@[simp] theorem State.modVault_board (s f) : (State.modVault s f).board = s.board := rfl
@[simp] theorem State.modVault_regs (s f) : (State.modVault s f).regs = s.regs := rfl
@[simp] theorem State.modVault_clk (s f) : (State.modVault s f).clk = s.clk := rfl
@[simp] theorem State.modVault_upl (s f) : (State.modVault s f).upl = s.upl := rfl
@[simp] theorem State.modVault_ptp (s f) : (State.modVault s f).ptp = s.ptp := rfl
@[simp] theorem State.modVault_coll (s f) : (State.modVault s f).coll = s.coll := rfl
@[simp] theorem State.modVault_dps (s f) : (State.modVault s f).dps = s.dps := rfl
@[simp] theorem State.modVault_svc (s f) : (State.modVault s f).svc = s.svc := rfl
@[simp] theorem State.modVault_flt (s f) : (State.modVault s f).flt = s.flt := rfl
@[simp] theorem State.modVault_boot (s f) : (State.modVault s f).boot = s.boot := rfl
@[simp] theorem State.modVault_dbg (s f) : (State.modVault s f).dbg = s.dbg := rfl
@[simp] theorem State.modVault_mem (s f) : (State.modVault s f).mem = s.mem := rfl
@[simp] theorem State.modVault_vault (s f) : (State.modVault s f).vault = f s.vault := rfl
@[simp] theorem State.modVault_mov (s f) : (State.modVault s f).mov = s.mov := rfl
@[simp] theorem State.modVault_sent (s f) : (State.modVault s f).sent = s.sent := rfl
@[simp] theorem State.modVault_freeCtr (s f) : (State.modVault s f).freeCtr = s.freeCtr := rfl
@[simp] theorem State.modVault_pending (s f) : (State.modVault s f).pending = s.pending := rfl

/-! ### mov -/

@[simp] theorem State.modMov_usb (s f) : (State.modMov s f).usb = s.usb := rfl
@[simp] theorem State.modMov_pwr (s f) : (State.modMov s f).pwr = s.pwr := rfl
@[simp] theorem State.modMov_prot (s f) : (State.modMov s f).prot = s.prot := rfl
@[simp] theorem State.modMov_ft (s f) : (State.modMov s f).ft = s.ft := rfl
@[simp] theorem State.modMov_fifo (s f) : (State.modMov s f).fifo = s.fifo := rfl
@[simp] theorem State.modMov_gals (s f) : (State.modMov s f).gals = s.gals := rfl
@[simp] theorem State.modMov_pipes (s f) : (State.modMov s f).pipes = s.pipes := rfl
@[simp] theorem State.modMov_items (s f) : (State.modMov s f).items = s.items := rfl
@[simp] theorem State.modMov_sess (s f) : (State.modMov s f).sess = s.sess := rfl
@[simp] theorem State.modMov_tenants (s f) : (State.modMov s f).tenants = s.tenants := rfl
@[simp] theorem State.modMov_cat (s f) : (State.modMov s f).cat = s.cat := rfl
@[simp] theorem State.modMov_can (s f) : (State.modMov s f).can = s.can := rfl
@[simp] theorem State.modMov_board (s f) : (State.modMov s f).board = s.board := rfl
@[simp] theorem State.modMov_regs (s f) : (State.modMov s f).regs = s.regs := rfl
@[simp] theorem State.modMov_clk (s f) : (State.modMov s f).clk = s.clk := rfl
@[simp] theorem State.modMov_upl (s f) : (State.modMov s f).upl = s.upl := rfl
@[simp] theorem State.modMov_ptp (s f) : (State.modMov s f).ptp = s.ptp := rfl
@[simp] theorem State.modMov_coll (s f) : (State.modMov s f).coll = s.coll := rfl
@[simp] theorem State.modMov_dps (s f) : (State.modMov s f).dps = s.dps := rfl
@[simp] theorem State.modMov_svc (s f) : (State.modMov s f).svc = s.svc := rfl
@[simp] theorem State.modMov_flt (s f) : (State.modMov s f).flt = s.flt := rfl
@[simp] theorem State.modMov_boot (s f) : (State.modMov s f).boot = s.boot := rfl
@[simp] theorem State.modMov_dbg (s f) : (State.modMov s f).dbg = s.dbg := rfl
@[simp] theorem State.modMov_mem (s f) : (State.modMov s f).mem = s.mem := rfl
@[simp] theorem State.modMov_vault (s f) : (State.modMov s f).vault = s.vault := rfl
@[simp] theorem State.modMov_mov (s f) : (State.modMov s f).mov = f s.mov := rfl
@[simp] theorem State.modMov_sent (s f) : (State.modMov s f).sent = s.sent := rfl
@[simp] theorem State.modMov_freeCtr (s f) : (State.modMov s f).freeCtr = s.freeCtr := rfl
@[simp] theorem State.modMov_pending (s f) : (State.modMov s f).pending = s.pending := rfl

/-! ### Outputs and free values -/

@[simp] theorem State.emit_usb (s x) : (State.emit s x).usb = s.usb := rfl
@[simp] theorem State.emits_usb (s x) : (State.emits s x).usb = s.usb := rfl
@[simp] theorem State.tookFree_usb (s) : (State.tookFree s).usb = s.usb := rfl
@[simp] theorem State.emit_pwr (s x) : (State.emit s x).pwr = s.pwr := rfl
@[simp] theorem State.emits_pwr (s x) : (State.emits s x).pwr = s.pwr := rfl
@[simp] theorem State.tookFree_pwr (s) : (State.tookFree s).pwr = s.pwr := rfl
@[simp] theorem State.emit_prot (s x) : (State.emit s x).prot = s.prot := rfl
@[simp] theorem State.emits_prot (s x) : (State.emits s x).prot = s.prot := rfl
@[simp] theorem State.tookFree_prot (s) : (State.tookFree s).prot = s.prot := rfl
@[simp] theorem State.emit_ft (s x) : (State.emit s x).ft = s.ft := rfl
@[simp] theorem State.emits_ft (s x) : (State.emits s x).ft = s.ft := rfl
@[simp] theorem State.tookFree_ft (s) : (State.tookFree s).ft = s.ft := rfl
@[simp] theorem State.emit_fifo (s x) : (State.emit s x).fifo = s.fifo := rfl
@[simp] theorem State.emits_fifo (s x) : (State.emits s x).fifo = s.fifo := rfl
@[simp] theorem State.tookFree_fifo (s) : (State.tookFree s).fifo = s.fifo := rfl
@[simp] theorem State.emit_gals (s x) : (State.emit s x).gals = s.gals := rfl
@[simp] theorem State.emits_gals (s x) : (State.emits s x).gals = s.gals := rfl
@[simp] theorem State.tookFree_gals (s) : (State.tookFree s).gals = s.gals := rfl
@[simp] theorem State.emit_pipes (s x) : (State.emit s x).pipes = s.pipes := rfl
@[simp] theorem State.emits_pipes (s x) : (State.emits s x).pipes = s.pipes := rfl
@[simp] theorem State.tookFree_pipes (s) : (State.tookFree s).pipes = s.pipes := rfl
@[simp] theorem State.emit_items (s x) : (State.emit s x).items = s.items := rfl
@[simp] theorem State.emits_items (s x) : (State.emits s x).items = s.items := rfl
@[simp] theorem State.tookFree_items (s) : (State.tookFree s).items = s.items := rfl
@[simp] theorem State.emit_sess (s x) : (State.emit s x).sess = s.sess := rfl
@[simp] theorem State.emits_sess (s x) : (State.emits s x).sess = s.sess := rfl
@[simp] theorem State.tookFree_sess (s) : (State.tookFree s).sess = s.sess := rfl
@[simp] theorem State.emit_tenants (s x) : (State.emit s x).tenants = s.tenants := rfl
@[simp] theorem State.emits_tenants (s x) : (State.emits s x).tenants = s.tenants := rfl
@[simp] theorem State.tookFree_tenants (s) : (State.tookFree s).tenants = s.tenants := rfl
@[simp] theorem State.emit_cat (s x) : (State.emit s x).cat = s.cat := rfl
@[simp] theorem State.emits_cat (s x) : (State.emits s x).cat = s.cat := rfl
@[simp] theorem State.tookFree_cat (s) : (State.tookFree s).cat = s.cat := rfl
@[simp] theorem State.emit_can (s x) : (State.emit s x).can = s.can := rfl
@[simp] theorem State.emits_can (s x) : (State.emits s x).can = s.can := rfl
@[simp] theorem State.tookFree_can (s) : (State.tookFree s).can = s.can := rfl
@[simp] theorem State.emit_board (s x) : (State.emit s x).board = s.board := rfl
@[simp] theorem State.emits_board (s x) : (State.emits s x).board = s.board := rfl
@[simp] theorem State.tookFree_board (s) : (State.tookFree s).board = s.board := rfl
@[simp] theorem State.emit_regs (s x) : (State.emit s x).regs = s.regs := rfl
@[simp] theorem State.emits_regs (s x) : (State.emits s x).regs = s.regs := rfl
@[simp] theorem State.tookFree_regs (s) : (State.tookFree s).regs = s.regs := rfl
@[simp] theorem State.emit_clk (s x) : (State.emit s x).clk = s.clk := rfl
@[simp] theorem State.emits_clk (s x) : (State.emits s x).clk = s.clk := rfl
@[simp] theorem State.tookFree_clk (s) : (State.tookFree s).clk = s.clk := rfl
@[simp] theorem State.emit_upl (s x) : (State.emit s x).upl = s.upl := rfl
@[simp] theorem State.emits_upl (s x) : (State.emits s x).upl = s.upl := rfl
@[simp] theorem State.tookFree_upl (s) : (State.tookFree s).upl = s.upl := rfl
@[simp] theorem State.emit_ptp (s x) : (State.emit s x).ptp = s.ptp := rfl
@[simp] theorem State.emits_ptp (s x) : (State.emits s x).ptp = s.ptp := rfl
@[simp] theorem State.tookFree_ptp (s) : (State.tookFree s).ptp = s.ptp := rfl
@[simp] theorem State.emit_coll (s x) : (State.emit s x).coll = s.coll := rfl
@[simp] theorem State.emits_coll (s x) : (State.emits s x).coll = s.coll := rfl
@[simp] theorem State.tookFree_coll (s) : (State.tookFree s).coll = s.coll := rfl
@[simp] theorem State.emit_dps (s x) : (State.emit s x).dps = s.dps := rfl
@[simp] theorem State.emits_dps (s x) : (State.emits s x).dps = s.dps := rfl
@[simp] theorem State.tookFree_dps (s) : (State.tookFree s).dps = s.dps := rfl
@[simp] theorem State.emit_svc (s x) : (State.emit s x).svc = s.svc := rfl
@[simp] theorem State.emits_svc (s x) : (State.emits s x).svc = s.svc := rfl
@[simp] theorem State.tookFree_svc (s) : (State.tookFree s).svc = s.svc := rfl
@[simp] theorem State.emit_flt (s x) : (State.emit s x).flt = s.flt := rfl
@[simp] theorem State.emits_flt (s x) : (State.emits s x).flt = s.flt := rfl
@[simp] theorem State.tookFree_flt (s) : (State.tookFree s).flt = s.flt := rfl
@[simp] theorem State.emit_boot (s x) : (State.emit s x).boot = s.boot := rfl
@[simp] theorem State.emits_boot (s x) : (State.emits s x).boot = s.boot := rfl
@[simp] theorem State.tookFree_boot (s) : (State.tookFree s).boot = s.boot := rfl
@[simp] theorem State.emit_dbg (s x) : (State.emit s x).dbg = s.dbg := rfl
@[simp] theorem State.emits_dbg (s x) : (State.emits s x).dbg = s.dbg := rfl
@[simp] theorem State.tookFree_dbg (s) : (State.tookFree s).dbg = s.dbg := rfl
@[simp] theorem State.emit_mem (s x) : (State.emit s x).mem = s.mem := rfl
@[simp] theorem State.emits_mem (s x) : (State.emits s x).mem = s.mem := rfl
@[simp] theorem State.tookFree_mem (s) : (State.tookFree s).mem = s.mem := rfl
@[simp] theorem State.emit_vault (s x) : (State.emit s x).vault = s.vault := rfl
@[simp] theorem State.emits_vault (s x) : (State.emits s x).vault = s.vault := rfl
@[simp] theorem State.tookFree_vault (s) : (State.tookFree s).vault = s.vault := rfl
@[simp] theorem State.emit_mov (s x) : (State.emit s x).mov = s.mov := rfl
@[simp] theorem State.emits_mov (s x) : (State.emits s x).mov = s.mov := rfl
@[simp] theorem State.tookFree_mov (s) : (State.tookFree s).mov = s.mov := rfl
@[simp] theorem State.emit_sent (s x) : (State.emit s x).sent = s.sent ++ [x] := rfl
@[simp] theorem State.emits_sent (s x) : (State.emits s x).sent = s.sent ++ x := rfl
@[simp] theorem State.tookFree_sent (s) : (State.tookFree s).sent = s.sent := rfl
@[simp] theorem State.emit_freeCtr (s x) : (State.emit s x).freeCtr = s.freeCtr := rfl
@[simp] theorem State.emits_freeCtr (s x) : (State.emits s x).freeCtr = s.freeCtr := rfl
@[simp] theorem State.tookFree_freeCtr (s) : (State.tookFree s).freeCtr = s.freeCtr + 1 := rfl
@[simp] theorem State.emit_pending (s x) : (State.emit s x).pending = s.pending := rfl
@[simp] theorem State.emits_pending (s x) : (State.emits s x).pending = s.pending := rfl
@[simp] theorem State.tookFree_pending (s) : (State.tookFree s).pending = s.pending := rfl

/-! ### Reading one unit after another was written -/

@[simp] theorem State.getUsb_modPwr (s k f j) : (State.modPwr s k f).getUsb j = s.getUsb j := rfl
@[simp] theorem State.getUsb_modProt (s k f j) : (State.modProt s k f).getUsb j = s.getUsb j := rfl
@[simp] theorem State.getUsb_modFt (s k f j) : (State.modFt s k f).getUsb j = s.getUsb j := rfl
@[simp] theorem State.getUsb_modFifo (s k f j) : (State.modFifo s k f).getUsb j = s.getUsb j := rfl
@[simp] theorem State.getUsb_modGals (s k f j) : (State.modGals s k f).getUsb j = s.getUsb j := rfl
@[simp] theorem State.getUsb_modPipes (s k f j) : (State.modPipes s k f).getUsb j = s.getUsb j := rfl
@[simp] theorem State.getUsb_modItems (s k f j) : (State.modItems s k f).getUsb j = s.getUsb j := rfl
@[simp] theorem State.getUsb_modSess (s k f j) : (State.modSess s k f).getUsb j = s.getUsb j := rfl
@[simp] theorem State.getUsb_modTenants (s k f j) : (State.modTenants s k f).getUsb j = s.getUsb j := rfl
@[simp] theorem State.getUsb_modCat (s f j) : (State.modCat s f).getUsb j = s.getUsb j := rfl
@[simp] theorem State.getUsb_modCan (s f j) : (State.modCan s f).getUsb j = s.getUsb j := rfl
@[simp] theorem State.getUsb_modBoard (s f j) : (State.modBoard s f).getUsb j = s.getUsb j := rfl
@[simp] theorem State.getUsb_modRegs (s f j) : (State.modRegs s f).getUsb j = s.getUsb j := rfl
@[simp] theorem State.getUsb_modClk (s f j) : (State.modClk s f).getUsb j = s.getUsb j := rfl
@[simp] theorem State.getUsb_modUpl (s f j) : (State.modUpl s f).getUsb j = s.getUsb j := rfl
@[simp] theorem State.getUsb_modPtp (s f j) : (State.modPtp s f).getUsb j = s.getUsb j := rfl
@[simp] theorem State.getUsb_modColl (s f j) : (State.modColl s f).getUsb j = s.getUsb j := rfl
@[simp] theorem State.getUsb_modDps (s f j) : (State.modDps s f).getUsb j = s.getUsb j := rfl
@[simp] theorem State.getUsb_modSvc (s f j) : (State.modSvc s f).getUsb j = s.getUsb j := rfl
@[simp] theorem State.getUsb_modFlt (s f j) : (State.modFlt s f).getUsb j = s.getUsb j := rfl
@[simp] theorem State.getUsb_modBoot (s f j) : (State.modBoot s f).getUsb j = s.getUsb j := rfl
@[simp] theorem State.getUsb_modDbg (s f j) : (State.modDbg s f).getUsb j = s.getUsb j := rfl
@[simp] theorem State.getUsb_modMem (s f j) : (State.modMem s f).getUsb j = s.getUsb j := rfl
@[simp] theorem State.getUsb_modVault (s f j) : (State.modVault s f).getUsb j = s.getUsb j := rfl
@[simp] theorem State.getUsb_modMov (s f j) : (State.modMov s f).getUsb j = s.getUsb j := rfl
@[simp] theorem State.getUsb_emit (s x j) : (State.emit s x).getUsb j = s.getUsb j := rfl
@[simp] theorem State.getUsb_emits (s x j) : (State.emits s x).getUsb j = s.getUsb j := rfl
@[simp] theorem State.getUsb_tookFree (s j) : (State.tookFree s).getUsb j = s.getUsb j := rfl
@[simp] theorem State.getPwr_modUsb (s k f j) : (State.modUsb s k f).getPwr j = s.getPwr j := rfl
@[simp] theorem State.getPwr_modProt (s k f j) : (State.modProt s k f).getPwr j = s.getPwr j := rfl
@[simp] theorem State.getPwr_modFt (s k f j) : (State.modFt s k f).getPwr j = s.getPwr j := rfl
@[simp] theorem State.getPwr_modFifo (s k f j) : (State.modFifo s k f).getPwr j = s.getPwr j := rfl
@[simp] theorem State.getPwr_modGals (s k f j) : (State.modGals s k f).getPwr j = s.getPwr j := rfl
@[simp] theorem State.getPwr_modPipes (s k f j) : (State.modPipes s k f).getPwr j = s.getPwr j := rfl
@[simp] theorem State.getPwr_modItems (s k f j) : (State.modItems s k f).getPwr j = s.getPwr j := rfl
@[simp] theorem State.getPwr_modSess (s k f j) : (State.modSess s k f).getPwr j = s.getPwr j := rfl
@[simp] theorem State.getPwr_modTenants (s k f j) : (State.modTenants s k f).getPwr j = s.getPwr j := rfl
@[simp] theorem State.getPwr_modCat (s f j) : (State.modCat s f).getPwr j = s.getPwr j := rfl
@[simp] theorem State.getPwr_modCan (s f j) : (State.modCan s f).getPwr j = s.getPwr j := rfl
@[simp] theorem State.getPwr_modBoard (s f j) : (State.modBoard s f).getPwr j = s.getPwr j := rfl
@[simp] theorem State.getPwr_modRegs (s f j) : (State.modRegs s f).getPwr j = s.getPwr j := rfl
@[simp] theorem State.getPwr_modClk (s f j) : (State.modClk s f).getPwr j = s.getPwr j := rfl
@[simp] theorem State.getPwr_modUpl (s f j) : (State.modUpl s f).getPwr j = s.getPwr j := rfl
@[simp] theorem State.getPwr_modPtp (s f j) : (State.modPtp s f).getPwr j = s.getPwr j := rfl
@[simp] theorem State.getPwr_modColl (s f j) : (State.modColl s f).getPwr j = s.getPwr j := rfl
@[simp] theorem State.getPwr_modDps (s f j) : (State.modDps s f).getPwr j = s.getPwr j := rfl
@[simp] theorem State.getPwr_modSvc (s f j) : (State.modSvc s f).getPwr j = s.getPwr j := rfl
@[simp] theorem State.getPwr_modFlt (s f j) : (State.modFlt s f).getPwr j = s.getPwr j := rfl
@[simp] theorem State.getPwr_modBoot (s f j) : (State.modBoot s f).getPwr j = s.getPwr j := rfl
@[simp] theorem State.getPwr_modDbg (s f j) : (State.modDbg s f).getPwr j = s.getPwr j := rfl
@[simp] theorem State.getPwr_modMem (s f j) : (State.modMem s f).getPwr j = s.getPwr j := rfl
@[simp] theorem State.getPwr_modVault (s f j) : (State.modVault s f).getPwr j = s.getPwr j := rfl
@[simp] theorem State.getPwr_modMov (s f j) : (State.modMov s f).getPwr j = s.getPwr j := rfl
@[simp] theorem State.getPwr_emit (s x j) : (State.emit s x).getPwr j = s.getPwr j := rfl
@[simp] theorem State.getPwr_emits (s x j) : (State.emits s x).getPwr j = s.getPwr j := rfl
@[simp] theorem State.getPwr_tookFree (s j) : (State.tookFree s).getPwr j = s.getPwr j := rfl
@[simp] theorem State.getProt_modUsb (s k f j) : (State.modUsb s k f).getProt j = s.getProt j := rfl
@[simp] theorem State.getProt_modPwr (s k f j) : (State.modPwr s k f).getProt j = s.getProt j := rfl
@[simp] theorem State.getProt_modFt (s k f j) : (State.modFt s k f).getProt j = s.getProt j := rfl
@[simp] theorem State.getProt_modFifo (s k f j) : (State.modFifo s k f).getProt j = s.getProt j := rfl
@[simp] theorem State.getProt_modGals (s k f j) : (State.modGals s k f).getProt j = s.getProt j := rfl
@[simp] theorem State.getProt_modPipes (s k f j) : (State.modPipes s k f).getProt j = s.getProt j := rfl
@[simp] theorem State.getProt_modItems (s k f j) : (State.modItems s k f).getProt j = s.getProt j := rfl
@[simp] theorem State.getProt_modSess (s k f j) : (State.modSess s k f).getProt j = s.getProt j := rfl
@[simp] theorem State.getProt_modTenants (s k f j) : (State.modTenants s k f).getProt j = s.getProt j := rfl
@[simp] theorem State.getProt_modCat (s f j) : (State.modCat s f).getProt j = s.getProt j := rfl
@[simp] theorem State.getProt_modCan (s f j) : (State.modCan s f).getProt j = s.getProt j := rfl
@[simp] theorem State.getProt_modBoard (s f j) : (State.modBoard s f).getProt j = s.getProt j := rfl
@[simp] theorem State.getProt_modRegs (s f j) : (State.modRegs s f).getProt j = s.getProt j := rfl
@[simp] theorem State.getProt_modClk (s f j) : (State.modClk s f).getProt j = s.getProt j := rfl
@[simp] theorem State.getProt_modUpl (s f j) : (State.modUpl s f).getProt j = s.getProt j := rfl
@[simp] theorem State.getProt_modPtp (s f j) : (State.modPtp s f).getProt j = s.getProt j := rfl
@[simp] theorem State.getProt_modColl (s f j) : (State.modColl s f).getProt j = s.getProt j := rfl
@[simp] theorem State.getProt_modDps (s f j) : (State.modDps s f).getProt j = s.getProt j := rfl
@[simp] theorem State.getProt_modSvc (s f j) : (State.modSvc s f).getProt j = s.getProt j := rfl
@[simp] theorem State.getProt_modFlt (s f j) : (State.modFlt s f).getProt j = s.getProt j := rfl
@[simp] theorem State.getProt_modBoot (s f j) : (State.modBoot s f).getProt j = s.getProt j := rfl
@[simp] theorem State.getProt_modDbg (s f j) : (State.modDbg s f).getProt j = s.getProt j := rfl
@[simp] theorem State.getProt_modMem (s f j) : (State.modMem s f).getProt j = s.getProt j := rfl
@[simp] theorem State.getProt_modVault (s f j) : (State.modVault s f).getProt j = s.getProt j := rfl
@[simp] theorem State.getProt_modMov (s f j) : (State.modMov s f).getProt j = s.getProt j := rfl
@[simp] theorem State.getProt_emit (s x j) : (State.emit s x).getProt j = s.getProt j := rfl
@[simp] theorem State.getProt_emits (s x j) : (State.emits s x).getProt j = s.getProt j := rfl
@[simp] theorem State.getProt_tookFree (s j) : (State.tookFree s).getProt j = s.getProt j := rfl
@[simp] theorem State.getFt_modUsb (s k f j) : (State.modUsb s k f).getFt j = s.getFt j := rfl
@[simp] theorem State.getFt_modPwr (s k f j) : (State.modPwr s k f).getFt j = s.getFt j := rfl
@[simp] theorem State.getFt_modProt (s k f j) : (State.modProt s k f).getFt j = s.getFt j := rfl
@[simp] theorem State.getFt_modFifo (s k f j) : (State.modFifo s k f).getFt j = s.getFt j := rfl
@[simp] theorem State.getFt_modGals (s k f j) : (State.modGals s k f).getFt j = s.getFt j := rfl
@[simp] theorem State.getFt_modPipes (s k f j) : (State.modPipes s k f).getFt j = s.getFt j := rfl
@[simp] theorem State.getFt_modItems (s k f j) : (State.modItems s k f).getFt j = s.getFt j := rfl
@[simp] theorem State.getFt_modSess (s k f j) : (State.modSess s k f).getFt j = s.getFt j := rfl
@[simp] theorem State.getFt_modTenants (s k f j) : (State.modTenants s k f).getFt j = s.getFt j := rfl
@[simp] theorem State.getFt_modCat (s f j) : (State.modCat s f).getFt j = s.getFt j := rfl
@[simp] theorem State.getFt_modCan (s f j) : (State.modCan s f).getFt j = s.getFt j := rfl
@[simp] theorem State.getFt_modBoard (s f j) : (State.modBoard s f).getFt j = s.getFt j := rfl
@[simp] theorem State.getFt_modRegs (s f j) : (State.modRegs s f).getFt j = s.getFt j := rfl
@[simp] theorem State.getFt_modClk (s f j) : (State.modClk s f).getFt j = s.getFt j := rfl
@[simp] theorem State.getFt_modUpl (s f j) : (State.modUpl s f).getFt j = s.getFt j := rfl
@[simp] theorem State.getFt_modPtp (s f j) : (State.modPtp s f).getFt j = s.getFt j := rfl
@[simp] theorem State.getFt_modColl (s f j) : (State.modColl s f).getFt j = s.getFt j := rfl
@[simp] theorem State.getFt_modDps (s f j) : (State.modDps s f).getFt j = s.getFt j := rfl
@[simp] theorem State.getFt_modSvc (s f j) : (State.modSvc s f).getFt j = s.getFt j := rfl
@[simp] theorem State.getFt_modFlt (s f j) : (State.modFlt s f).getFt j = s.getFt j := rfl
@[simp] theorem State.getFt_modBoot (s f j) : (State.modBoot s f).getFt j = s.getFt j := rfl
@[simp] theorem State.getFt_modDbg (s f j) : (State.modDbg s f).getFt j = s.getFt j := rfl
@[simp] theorem State.getFt_modMem (s f j) : (State.modMem s f).getFt j = s.getFt j := rfl
@[simp] theorem State.getFt_modVault (s f j) : (State.modVault s f).getFt j = s.getFt j := rfl
@[simp] theorem State.getFt_modMov (s f j) : (State.modMov s f).getFt j = s.getFt j := rfl
@[simp] theorem State.getFt_emit (s x j) : (State.emit s x).getFt j = s.getFt j := rfl
@[simp] theorem State.getFt_emits (s x j) : (State.emits s x).getFt j = s.getFt j := rfl
@[simp] theorem State.getFt_tookFree (s j) : (State.tookFree s).getFt j = s.getFt j := rfl
@[simp] theorem State.getFifo_modUsb (s k f j) : (State.modUsb s k f).getFifo j = s.getFifo j := rfl
@[simp] theorem State.getFifo_modPwr (s k f j) : (State.modPwr s k f).getFifo j = s.getFifo j := rfl
@[simp] theorem State.getFifo_modProt (s k f j) : (State.modProt s k f).getFifo j = s.getFifo j := rfl
@[simp] theorem State.getFifo_modFt (s k f j) : (State.modFt s k f).getFifo j = s.getFifo j := rfl
@[simp] theorem State.getFifo_modGals (s k f j) : (State.modGals s k f).getFifo j = s.getFifo j := rfl
@[simp] theorem State.getFifo_modPipes (s k f j) : (State.modPipes s k f).getFifo j = s.getFifo j := rfl
@[simp] theorem State.getFifo_modItems (s k f j) : (State.modItems s k f).getFifo j = s.getFifo j := rfl
@[simp] theorem State.getFifo_modSess (s k f j) : (State.modSess s k f).getFifo j = s.getFifo j := rfl
@[simp] theorem State.getFifo_modTenants (s k f j) : (State.modTenants s k f).getFifo j = s.getFifo j := rfl
@[simp] theorem State.getFifo_modCat (s f j) : (State.modCat s f).getFifo j = s.getFifo j := rfl
@[simp] theorem State.getFifo_modCan (s f j) : (State.modCan s f).getFifo j = s.getFifo j := rfl
@[simp] theorem State.getFifo_modBoard (s f j) : (State.modBoard s f).getFifo j = s.getFifo j := rfl
@[simp] theorem State.getFifo_modRegs (s f j) : (State.modRegs s f).getFifo j = s.getFifo j := rfl
@[simp] theorem State.getFifo_modClk (s f j) : (State.modClk s f).getFifo j = s.getFifo j := rfl
@[simp] theorem State.getFifo_modUpl (s f j) : (State.modUpl s f).getFifo j = s.getFifo j := rfl
@[simp] theorem State.getFifo_modPtp (s f j) : (State.modPtp s f).getFifo j = s.getFifo j := rfl
@[simp] theorem State.getFifo_modColl (s f j) : (State.modColl s f).getFifo j = s.getFifo j := rfl
@[simp] theorem State.getFifo_modDps (s f j) : (State.modDps s f).getFifo j = s.getFifo j := rfl
@[simp] theorem State.getFifo_modSvc (s f j) : (State.modSvc s f).getFifo j = s.getFifo j := rfl
@[simp] theorem State.getFifo_modFlt (s f j) : (State.modFlt s f).getFifo j = s.getFifo j := rfl
@[simp] theorem State.getFifo_modBoot (s f j) : (State.modBoot s f).getFifo j = s.getFifo j := rfl
@[simp] theorem State.getFifo_modDbg (s f j) : (State.modDbg s f).getFifo j = s.getFifo j := rfl
@[simp] theorem State.getFifo_modMem (s f j) : (State.modMem s f).getFifo j = s.getFifo j := rfl
@[simp] theorem State.getFifo_modVault (s f j) : (State.modVault s f).getFifo j = s.getFifo j := rfl
@[simp] theorem State.getFifo_modMov (s f j) : (State.modMov s f).getFifo j = s.getFifo j := rfl
@[simp] theorem State.getFifo_emit (s x j) : (State.emit s x).getFifo j = s.getFifo j := rfl
@[simp] theorem State.getFifo_emits (s x j) : (State.emits s x).getFifo j = s.getFifo j := rfl
@[simp] theorem State.getFifo_tookFree (s j) : (State.tookFree s).getFifo j = s.getFifo j := rfl
@[simp] theorem State.getGals_modUsb (s k f j) : (State.modUsb s k f).getGals j = s.getGals j := rfl
@[simp] theorem State.getGals_modPwr (s k f j) : (State.modPwr s k f).getGals j = s.getGals j := rfl
@[simp] theorem State.getGals_modProt (s k f j) : (State.modProt s k f).getGals j = s.getGals j := rfl
@[simp] theorem State.getGals_modFt (s k f j) : (State.modFt s k f).getGals j = s.getGals j := rfl
@[simp] theorem State.getGals_modFifo (s k f j) : (State.modFifo s k f).getGals j = s.getGals j := rfl
@[simp] theorem State.getGals_modPipes (s k f j) : (State.modPipes s k f).getGals j = s.getGals j := rfl
@[simp] theorem State.getGals_modItems (s k f j) : (State.modItems s k f).getGals j = s.getGals j := rfl
@[simp] theorem State.getGals_modSess (s k f j) : (State.modSess s k f).getGals j = s.getGals j := rfl
@[simp] theorem State.getGals_modTenants (s k f j) : (State.modTenants s k f).getGals j = s.getGals j := rfl
@[simp] theorem State.getGals_modCat (s f j) : (State.modCat s f).getGals j = s.getGals j := rfl
@[simp] theorem State.getGals_modCan (s f j) : (State.modCan s f).getGals j = s.getGals j := rfl
@[simp] theorem State.getGals_modBoard (s f j) : (State.modBoard s f).getGals j = s.getGals j := rfl
@[simp] theorem State.getGals_modRegs (s f j) : (State.modRegs s f).getGals j = s.getGals j := rfl
@[simp] theorem State.getGals_modClk (s f j) : (State.modClk s f).getGals j = s.getGals j := rfl
@[simp] theorem State.getGals_modUpl (s f j) : (State.modUpl s f).getGals j = s.getGals j := rfl
@[simp] theorem State.getGals_modPtp (s f j) : (State.modPtp s f).getGals j = s.getGals j := rfl
@[simp] theorem State.getGals_modColl (s f j) : (State.modColl s f).getGals j = s.getGals j := rfl
@[simp] theorem State.getGals_modDps (s f j) : (State.modDps s f).getGals j = s.getGals j := rfl
@[simp] theorem State.getGals_modSvc (s f j) : (State.modSvc s f).getGals j = s.getGals j := rfl
@[simp] theorem State.getGals_modFlt (s f j) : (State.modFlt s f).getGals j = s.getGals j := rfl
@[simp] theorem State.getGals_modBoot (s f j) : (State.modBoot s f).getGals j = s.getGals j := rfl
@[simp] theorem State.getGals_modDbg (s f j) : (State.modDbg s f).getGals j = s.getGals j := rfl
@[simp] theorem State.getGals_modMem (s f j) : (State.modMem s f).getGals j = s.getGals j := rfl
@[simp] theorem State.getGals_modVault (s f j) : (State.modVault s f).getGals j = s.getGals j := rfl
@[simp] theorem State.getGals_modMov (s f j) : (State.modMov s f).getGals j = s.getGals j := rfl
@[simp] theorem State.getGals_emit (s x j) : (State.emit s x).getGals j = s.getGals j := rfl
@[simp] theorem State.getGals_emits (s x j) : (State.emits s x).getGals j = s.getGals j := rfl
@[simp] theorem State.getGals_tookFree (s j) : (State.tookFree s).getGals j = s.getGals j := rfl
@[simp] theorem State.getPipes_modUsb (s k f j) : (State.modUsb s k f).getPipes j = s.getPipes j := rfl
@[simp] theorem State.getPipes_modPwr (s k f j) : (State.modPwr s k f).getPipes j = s.getPipes j := rfl
@[simp] theorem State.getPipes_modProt (s k f j) : (State.modProt s k f).getPipes j = s.getPipes j := rfl
@[simp] theorem State.getPipes_modFt (s k f j) : (State.modFt s k f).getPipes j = s.getPipes j := rfl
@[simp] theorem State.getPipes_modFifo (s k f j) : (State.modFifo s k f).getPipes j = s.getPipes j := rfl
@[simp] theorem State.getPipes_modGals (s k f j) : (State.modGals s k f).getPipes j = s.getPipes j := rfl
@[simp] theorem State.getPipes_modItems (s k f j) : (State.modItems s k f).getPipes j = s.getPipes j := rfl
@[simp] theorem State.getPipes_modSess (s k f j) : (State.modSess s k f).getPipes j = s.getPipes j := rfl
@[simp] theorem State.getPipes_modTenants (s k f j) : (State.modTenants s k f).getPipes j = s.getPipes j := rfl
@[simp] theorem State.getPipes_modCat (s f j) : (State.modCat s f).getPipes j = s.getPipes j := rfl
@[simp] theorem State.getPipes_modCan (s f j) : (State.modCan s f).getPipes j = s.getPipes j := rfl
@[simp] theorem State.getPipes_modBoard (s f j) : (State.modBoard s f).getPipes j = s.getPipes j := rfl
@[simp] theorem State.getPipes_modRegs (s f j) : (State.modRegs s f).getPipes j = s.getPipes j := rfl
@[simp] theorem State.getPipes_modClk (s f j) : (State.modClk s f).getPipes j = s.getPipes j := rfl
@[simp] theorem State.getPipes_modUpl (s f j) : (State.modUpl s f).getPipes j = s.getPipes j := rfl
@[simp] theorem State.getPipes_modPtp (s f j) : (State.modPtp s f).getPipes j = s.getPipes j := rfl
@[simp] theorem State.getPipes_modColl (s f j) : (State.modColl s f).getPipes j = s.getPipes j := rfl
@[simp] theorem State.getPipes_modDps (s f j) : (State.modDps s f).getPipes j = s.getPipes j := rfl
@[simp] theorem State.getPipes_modSvc (s f j) : (State.modSvc s f).getPipes j = s.getPipes j := rfl
@[simp] theorem State.getPipes_modFlt (s f j) : (State.modFlt s f).getPipes j = s.getPipes j := rfl
@[simp] theorem State.getPipes_modBoot (s f j) : (State.modBoot s f).getPipes j = s.getPipes j := rfl
@[simp] theorem State.getPipes_modDbg (s f j) : (State.modDbg s f).getPipes j = s.getPipes j := rfl
@[simp] theorem State.getPipes_modMem (s f j) : (State.modMem s f).getPipes j = s.getPipes j := rfl
@[simp] theorem State.getPipes_modVault (s f j) : (State.modVault s f).getPipes j = s.getPipes j := rfl
@[simp] theorem State.getPipes_modMov (s f j) : (State.modMov s f).getPipes j = s.getPipes j := rfl
@[simp] theorem State.getPipes_emit (s x j) : (State.emit s x).getPipes j = s.getPipes j := rfl
@[simp] theorem State.getPipes_emits (s x j) : (State.emits s x).getPipes j = s.getPipes j := rfl
@[simp] theorem State.getPipes_tookFree (s j) : (State.tookFree s).getPipes j = s.getPipes j := rfl
@[simp] theorem State.getItems_modUsb (s k f j) : (State.modUsb s k f).getItems j = s.getItems j := rfl
@[simp] theorem State.getItems_modPwr (s k f j) : (State.modPwr s k f).getItems j = s.getItems j := rfl
@[simp] theorem State.getItems_modProt (s k f j) : (State.modProt s k f).getItems j = s.getItems j := rfl
@[simp] theorem State.getItems_modFt (s k f j) : (State.modFt s k f).getItems j = s.getItems j := rfl
@[simp] theorem State.getItems_modFifo (s k f j) : (State.modFifo s k f).getItems j = s.getItems j := rfl
@[simp] theorem State.getItems_modGals (s k f j) : (State.modGals s k f).getItems j = s.getItems j := rfl
@[simp] theorem State.getItems_modPipes (s k f j) : (State.modPipes s k f).getItems j = s.getItems j := rfl
@[simp] theorem State.getItems_modSess (s k f j) : (State.modSess s k f).getItems j = s.getItems j := rfl
@[simp] theorem State.getItems_modTenants (s k f j) : (State.modTenants s k f).getItems j = s.getItems j := rfl
@[simp] theorem State.getItems_modCat (s f j) : (State.modCat s f).getItems j = s.getItems j := rfl
@[simp] theorem State.getItems_modCan (s f j) : (State.modCan s f).getItems j = s.getItems j := rfl
@[simp] theorem State.getItems_modBoard (s f j) : (State.modBoard s f).getItems j = s.getItems j := rfl
@[simp] theorem State.getItems_modRegs (s f j) : (State.modRegs s f).getItems j = s.getItems j := rfl
@[simp] theorem State.getItems_modClk (s f j) : (State.modClk s f).getItems j = s.getItems j := rfl
@[simp] theorem State.getItems_modUpl (s f j) : (State.modUpl s f).getItems j = s.getItems j := rfl
@[simp] theorem State.getItems_modPtp (s f j) : (State.modPtp s f).getItems j = s.getItems j := rfl
@[simp] theorem State.getItems_modColl (s f j) : (State.modColl s f).getItems j = s.getItems j := rfl
@[simp] theorem State.getItems_modDps (s f j) : (State.modDps s f).getItems j = s.getItems j := rfl
@[simp] theorem State.getItems_modSvc (s f j) : (State.modSvc s f).getItems j = s.getItems j := rfl
@[simp] theorem State.getItems_modFlt (s f j) : (State.modFlt s f).getItems j = s.getItems j := rfl
@[simp] theorem State.getItems_modBoot (s f j) : (State.modBoot s f).getItems j = s.getItems j := rfl
@[simp] theorem State.getItems_modDbg (s f j) : (State.modDbg s f).getItems j = s.getItems j := rfl
@[simp] theorem State.getItems_modMem (s f j) : (State.modMem s f).getItems j = s.getItems j := rfl
@[simp] theorem State.getItems_modVault (s f j) : (State.modVault s f).getItems j = s.getItems j := rfl
@[simp] theorem State.getItems_modMov (s f j) : (State.modMov s f).getItems j = s.getItems j := rfl
@[simp] theorem State.getItems_emit (s x j) : (State.emit s x).getItems j = s.getItems j := rfl
@[simp] theorem State.getItems_emits (s x j) : (State.emits s x).getItems j = s.getItems j := rfl
@[simp] theorem State.getItems_tookFree (s j) : (State.tookFree s).getItems j = s.getItems j := rfl
@[simp] theorem State.getSess_modUsb (s k f j) : (State.modUsb s k f).getSess j = s.getSess j := rfl
@[simp] theorem State.getSess_modPwr (s k f j) : (State.modPwr s k f).getSess j = s.getSess j := rfl
@[simp] theorem State.getSess_modProt (s k f j) : (State.modProt s k f).getSess j = s.getSess j := rfl
@[simp] theorem State.getSess_modFt (s k f j) : (State.modFt s k f).getSess j = s.getSess j := rfl
@[simp] theorem State.getSess_modFifo (s k f j) : (State.modFifo s k f).getSess j = s.getSess j := rfl
@[simp] theorem State.getSess_modGals (s k f j) : (State.modGals s k f).getSess j = s.getSess j := rfl
@[simp] theorem State.getSess_modPipes (s k f j) : (State.modPipes s k f).getSess j = s.getSess j := rfl
@[simp] theorem State.getSess_modItems (s k f j) : (State.modItems s k f).getSess j = s.getSess j := rfl
@[simp] theorem State.getSess_modTenants (s k f j) : (State.modTenants s k f).getSess j = s.getSess j := rfl
@[simp] theorem State.getSess_modCat (s f j) : (State.modCat s f).getSess j = s.getSess j := rfl
@[simp] theorem State.getSess_modCan (s f j) : (State.modCan s f).getSess j = s.getSess j := rfl
@[simp] theorem State.getSess_modBoard (s f j) : (State.modBoard s f).getSess j = s.getSess j := rfl
@[simp] theorem State.getSess_modRegs (s f j) : (State.modRegs s f).getSess j = s.getSess j := rfl
@[simp] theorem State.getSess_modClk (s f j) : (State.modClk s f).getSess j = s.getSess j := rfl
@[simp] theorem State.getSess_modUpl (s f j) : (State.modUpl s f).getSess j = s.getSess j := rfl
@[simp] theorem State.getSess_modPtp (s f j) : (State.modPtp s f).getSess j = s.getSess j := rfl
@[simp] theorem State.getSess_modColl (s f j) : (State.modColl s f).getSess j = s.getSess j := rfl
@[simp] theorem State.getSess_modDps (s f j) : (State.modDps s f).getSess j = s.getSess j := rfl
@[simp] theorem State.getSess_modSvc (s f j) : (State.modSvc s f).getSess j = s.getSess j := rfl
@[simp] theorem State.getSess_modFlt (s f j) : (State.modFlt s f).getSess j = s.getSess j := rfl
@[simp] theorem State.getSess_modBoot (s f j) : (State.modBoot s f).getSess j = s.getSess j := rfl
@[simp] theorem State.getSess_modDbg (s f j) : (State.modDbg s f).getSess j = s.getSess j := rfl
@[simp] theorem State.getSess_modMem (s f j) : (State.modMem s f).getSess j = s.getSess j := rfl
@[simp] theorem State.getSess_modVault (s f j) : (State.modVault s f).getSess j = s.getSess j := rfl
@[simp] theorem State.getSess_modMov (s f j) : (State.modMov s f).getSess j = s.getSess j := rfl
@[simp] theorem State.getSess_emit (s x j) : (State.emit s x).getSess j = s.getSess j := rfl
@[simp] theorem State.getSess_emits (s x j) : (State.emits s x).getSess j = s.getSess j := rfl
@[simp] theorem State.getSess_tookFree (s j) : (State.tookFree s).getSess j = s.getSess j := rfl
@[simp] theorem State.getTenants_modUsb (s k f j) : (State.modUsb s k f).getTenants j = s.getTenants j := rfl
@[simp] theorem State.getTenants_modPwr (s k f j) : (State.modPwr s k f).getTenants j = s.getTenants j := rfl
@[simp] theorem State.getTenants_modProt (s k f j) : (State.modProt s k f).getTenants j = s.getTenants j := rfl
@[simp] theorem State.getTenants_modFt (s k f j) : (State.modFt s k f).getTenants j = s.getTenants j := rfl
@[simp] theorem State.getTenants_modFifo (s k f j) : (State.modFifo s k f).getTenants j = s.getTenants j := rfl
@[simp] theorem State.getTenants_modGals (s k f j) : (State.modGals s k f).getTenants j = s.getTenants j := rfl
@[simp] theorem State.getTenants_modPipes (s k f j) : (State.modPipes s k f).getTenants j = s.getTenants j := rfl
@[simp] theorem State.getTenants_modItems (s k f j) : (State.modItems s k f).getTenants j = s.getTenants j := rfl
@[simp] theorem State.getTenants_modSess (s k f j) : (State.modSess s k f).getTenants j = s.getTenants j := rfl
@[simp] theorem State.getTenants_modCat (s f j) : (State.modCat s f).getTenants j = s.getTenants j := rfl
@[simp] theorem State.getTenants_modCan (s f j) : (State.modCan s f).getTenants j = s.getTenants j := rfl
@[simp] theorem State.getTenants_modBoard (s f j) : (State.modBoard s f).getTenants j = s.getTenants j := rfl
@[simp] theorem State.getTenants_modRegs (s f j) : (State.modRegs s f).getTenants j = s.getTenants j := rfl
@[simp] theorem State.getTenants_modClk (s f j) : (State.modClk s f).getTenants j = s.getTenants j := rfl
@[simp] theorem State.getTenants_modUpl (s f j) : (State.modUpl s f).getTenants j = s.getTenants j := rfl
@[simp] theorem State.getTenants_modPtp (s f j) : (State.modPtp s f).getTenants j = s.getTenants j := rfl
@[simp] theorem State.getTenants_modColl (s f j) : (State.modColl s f).getTenants j = s.getTenants j := rfl
@[simp] theorem State.getTenants_modDps (s f j) : (State.modDps s f).getTenants j = s.getTenants j := rfl
@[simp] theorem State.getTenants_modSvc (s f j) : (State.modSvc s f).getTenants j = s.getTenants j := rfl
@[simp] theorem State.getTenants_modFlt (s f j) : (State.modFlt s f).getTenants j = s.getTenants j := rfl
@[simp] theorem State.getTenants_modBoot (s f j) : (State.modBoot s f).getTenants j = s.getTenants j := rfl
@[simp] theorem State.getTenants_modDbg (s f j) : (State.modDbg s f).getTenants j = s.getTenants j := rfl
@[simp] theorem State.getTenants_modMem (s f j) : (State.modMem s f).getTenants j = s.getTenants j := rfl
@[simp] theorem State.getTenants_modVault (s f j) : (State.modVault s f).getTenants j = s.getTenants j := rfl
@[simp] theorem State.getTenants_modMov (s f j) : (State.modMov s f).getTenants j = s.getTenants j := rfl
@[simp] theorem State.getTenants_emit (s x j) : (State.emit s x).getTenants j = s.getTenants j := rfl
@[simp] theorem State.getTenants_emits (s x j) : (State.emits s x).getTenants j = s.getTenants j := rfl
@[simp] theorem State.getTenants_tookFree (s j) : (State.tookFree s).getTenants j = s.getTenants j := rfl

end Sys2Proof.Machine
end

