-- ==== Sys2Proof/Laws/Store.lean ====
section
/-!
SUPPORT. Sparse maps: what is read after a write, and that every write keeps the canonical form.
-/
namespace Sys2Proof.Machine

variable {α : Type} [DecidableEq α] (d : α)

theorem SMap.wfFrom_mono {m : SMap α} {lo lo' : Nat} (h : lo ≤ lo') (hw : SMap.wfFrom d lo' m = true) :
    SMap.wfFrom d lo m = true := by
  cases m with
  | nil => rfl
  | cons e m =>
    obtain ⟨k, v⟩ := e
    simp only [SMap.wfFrom, Bool.and_eq_true, decide_eq_true_eq] at hw ⊢
    exact ⟨⟨h.trans hw.1.1, hw.1.2⟩, hw.2⟩

/-- A key below every listed key reads as the default. -/
theorem SMap.get_below {m : SMap α} {lo k : Nat} (hw : SMap.wfFrom d lo m = true) (h : k < lo) : SMap.get d m k = d := by
  induction m generalizing lo with
  | nil => rfl
  | cons e m ih =>
    obtain ⟨j, v⟩ := e
    simp only [SMap.wfFrom, Bool.and_eq_true, decide_eq_true_eq] at hw
    rw [SMap.get, if_neg (by omega)]
    exact ih hw.2 (by omega)

theorem SMap.erase_below {m : SMap α} {lo k : Nat} (hw : SMap.wfFrom d lo m = true) (h : k < lo) : SMap.erase m k = m := by
  induction m generalizing lo with
  | nil => rfl
  | cons e m ih =>
    obtain ⟨j, v⟩ := e
    simp only [SMap.wfFrom, Bool.and_eq_true, decide_eq_true_eq] at hw
    rw [SMap.erase, if_neg (by omega), ih hw.2 (by omega)]

theorem SMap.wfFrom_put {m : SMap α} {lo k : Nat} (v : α) (hw : SMap.wfFrom d lo m = true) (h : lo ≤ k) :
    SMap.wfFrom d lo (SMap.put d m k v) = true := by
  induction m generalizing lo with
  | nil => by_cases hv : v = d <;> simp [SMap.put, SMap.wfFrom, hv, h]
  | cons e m ih =>
    obtain ⟨j, w⟩ := e
    have hw' := hw
    simp only [SMap.wfFrom, Bool.and_eq_true, decide_eq_true_eq] at hw
    rw [SMap.put]
    split
    · split
      · rw [SMap.erase, if_neg (by omega), SMap.erase_below d hw.2 (by omega)]
        exact hw'
      · simp only [SMap.wfFrom, Bool.and_eq_true, decide_eq_true_eq]
        exact ⟨⟨h, ‹_›⟩, ⟨by omega, hw.1.2⟩, hw.2⟩
    · split
      · split
        · rw [‹k = j›, SMap.erase_below d hw.2 (by omega)]
          exact SMap.wfFrom_mono d (by omega) hw.2
        · subst ‹k = j›
          simp only [SMap.wfFrom, Bool.and_eq_true, decide_eq_true_eq]
          exact ⟨⟨h, ‹_›⟩, hw.2⟩
      · simp only [SMap.wfFrom, Bool.and_eq_true, decide_eq_true_eq]
        exact ⟨hw.1, ih hw.2 (by omega)⟩

/-- A write keeps the canonical form. -/
theorem SMap.wf_put {m : SMap α} (k : Nat) (v : α) (hw : SMap.wf d m = true) : SMap.wf d (SMap.put d m k v) = true :=
  SMap.wfFrom_put d v hw (Nat.zero_le k)

theorem SMap.wfFrom_select {m : SMap α} {lo : Nat} (p : Nat → α → Bool) (hw : SMap.wfFrom d lo m = true) :
    SMap.wfFrom d lo (SMap.select p m) = true := by
  induction m generalizing lo with
  | nil => rfl
  | cons e m ih =>
    obtain ⟨j, w⟩ := e
    simp only [SMap.wfFrom, Bool.and_eq_true, decide_eq_true_eq] at hw
    rw [SMap.select]
    split
    · simp only [SMap.wfFrom, Bool.and_eq_true, decide_eq_true_eq]
      exact ⟨hw.1, ih hw.2⟩
    · exact SMap.wfFrom_mono d (by omega) (ih hw.2)

/-- Dropping entries keeps the canonical form. -/
theorem SMap.wf_select {m : SMap α} (p : Nat → α → Bool) (hw : SMap.wf d m = true) : SMap.wf d (SMap.select p m) = true :=
  SMap.wfFrom_select d p hw

omit [DecidableEq α] in
theorem SMap.get_erase_same {m : SMap α} (k : Nat) : SMap.get d (SMap.erase m k) k = d := by
  induction m with
  | nil => rfl
  | cons e m ih =>
    obtain ⟨j, w⟩ := e
    by_cases h : j = k
    · rw [SMap.erase, if_pos h, ih]
    · rw [SMap.erase, if_neg h, SMap.get, if_neg h, ih]

/-- A read gives the value written. -/
@[simp] theorem SMap.get_put_same {m : SMap α} (k : Nat) (v : α) : SMap.get d (SMap.put d m k v) k = v := by
  induction m with
  | nil => by_cases hv : v = d <;> simp [SMap.put, SMap.get, hv]
  | cons e m ih =>
    obtain ⟨j, w⟩ := e
    rw [SMap.put]
    split
    · split
      · subst ‹v = d›
        exact SMap.get_erase_same _ k
      · simp [SMap.get]
    · split
      · split
        · subst ‹v = d›
          exact SMap.get_erase_same _ k
        · simp [SMap.get]
      · rw [SMap.get, if_neg (by omega), ih]

omit [DecidableEq α] in
/-- A value read is listed, or it is the default. -/
theorem SMap.get_mem (m : SMap α) (k : Nat) : (k, SMap.get d m k) ∈ m ∨ SMap.get d m k = d := by
  induction m with
  | nil => exact Or.inr rfl
  | cons e m ih =>
    obtain ⟨j, w⟩ := e
    rw [SMap.get]
    split
    · rename_i h; subst h; exact Or.inl (by simp)
    · rcases ih with h | h
      · exact Or.inl (List.mem_cons_of_mem _ h)
      · exact Or.inr h

omit [DecidableEq α] in
theorem SMap.mem_erase {m : SMap α} {k : Nat} {e : Nat × α} (h : e ∈ SMap.erase m k) : e ∈ m := by
  induction m with
  | nil => exact h
  | cons x m ih =>
    obtain ⟨j, w⟩ := x
    rw [SMap.erase] at h
    split at h
    · exact List.mem_cons_of_mem _ (ih h)
    · rcases List.mem_cons.mp h with h | h
      · exact h ▸ List.mem_cons_self ..
      · exact List.mem_cons_of_mem _ (ih h)

/-- What a map lists after a write was listed before or is the value written, and then not the default. -/
theorem SMap.mem_put {m : SMap α} {k : Nat} {v : α} {e : Nat × α} (h : e ∈ SMap.put d m k v) : e ∈ m ∨ (e = (k, v) ∧ v ≠ d) := by
  induction m with
  | nil =>
    rw [SMap.put] at h
    split at h
    · cases h
    · exact Or.inr ⟨by simpa using h, ‹_›⟩
  | cons x m ih =>
    obtain ⟨j, w⟩ := x
    rw [SMap.put] at h
    split at h
    · split at h
      · exact Or.inl (SMap.mem_erase h)
      · rcases List.mem_cons.mp h with h | h
        · exact Or.inr ⟨h, ‹_›⟩
        · exact Or.inl h
    · split at h
      · split at h
        · exact Or.inl (List.mem_cons_of_mem _ (SMap.mem_erase h))
        · rcases List.mem_cons.mp h with h | h
          · exact Or.inr ⟨h, ‹_›⟩
          · exact Or.inl (List.mem_cons_of_mem _ h)
      · rcases List.mem_cons.mp h with h | h
        · exact Or.inl (h ▸ List.mem_cons_self ..)
        · rcases ih h with h | h
          · exact Or.inl (List.mem_cons_of_mem _ h)
          · exact Or.inr h

omit [DecidableEq α] in
theorem SMap.get_erase_other {m : SMap α} {j k : Nat} (h : j ≠ k) : SMap.get d (SMap.erase m k) j = SMap.get d m j := by
  induction m with
  | nil => rfl
  | cons e m ih =>
    obtain ⟨i, w⟩ := e
    by_cases hi : i = k
    · subst hi
      rw [SMap.erase, if_pos rfl, ih, SMap.get, if_neg (by omega)]
    · rw [SMap.erase, if_neg hi, SMap.get, SMap.get, ih]

/-- A write leaves every other key alone. -/
theorem SMap.get_put_other {m : SMap α} {j k : Nat} (v : α) (h : j ≠ k) : SMap.get d (SMap.put d m k v) j = SMap.get d m j := by
  induction m with
  | nil => by_cases hv : v = d <;> simp [SMap.put, SMap.get, hv, Ne.symm h]
  | cons e m ih =>
    obtain ⟨i, w⟩ := e
    rw [SMap.put]
    split
    · split
      · exact SMap.get_erase_other d h
      · rw [SMap.get, if_neg (Ne.symm h)]
    · split
      · subst ‹k = i›
        split
        · rw [SMap.get_erase_other d h, SMap.get, if_neg (Ne.symm h)]
        · rw [SMap.get, if_neg (Ne.symm h), SMap.get, if_neg (Ne.symm h)]
      · rw [SMap.get, SMap.get, ih]

/-! ### Units of the state -/

theorem State.getUsb_modUsb_other (s : State) (k : Nat) (f : PortUsb → PortUsb) {j : Nat} (h : j ≠ k) :
    (s.modUsb k f).getUsb j = s.getUsb j := SMap.get_put_other _ _ h

@[simp] theorem State.getUsb_modUsb_same (s : State) (k : Nat) (f : PortUsb → PortUsb) :
    (s.modUsb k f).getUsb k = f (s.getUsb k) := SMap.get_put_same _ _ _

@[simp] theorem State.getUsb_setUsb_same (s : State) (k : Nat) (v : PortUsb) : (s.setUsb k v).getUsb k = v := SMap.get_put_same _ _ _

theorem State.getUsb_setUsb_other (s : State) (k : Nat) (v : PortUsb) {j : Nat} (h : j ≠ k) :
    (s.setUsb k v).getUsb j = s.getUsb j := SMap.get_put_other _ _ h

theorem State.getPwr_modPwr_other (s : State) (k : Nat) (f : PortPwr → PortPwr) {j : Nat} (h : j ≠ k) :
    (s.modPwr k f).getPwr j = s.getPwr j := SMap.get_put_other _ _ h

@[simp] theorem State.getPwr_modPwr_same (s : State) (k : Nat) (f : PortPwr → PortPwr) :
    (s.modPwr k f).getPwr k = f (s.getPwr k) := SMap.get_put_same _ _ _

@[simp] theorem State.getPwr_setPwr_same (s : State) (k : Nat) (v : PortPwr) : (s.setPwr k v).getPwr k = v := SMap.get_put_same _ _ _

theorem State.getPwr_setPwr_other (s : State) (k : Nat) (v : PortPwr) {j : Nat} (h : j ≠ k) :
    (s.setPwr k v).getPwr j = s.getPwr j := SMap.get_put_other _ _ h

theorem State.getProt_modProt_other (s : State) (k : Nat) (f : PortProt → PortProt) {j : Nat} (h : j ≠ k) :
    (s.modProt k f).getProt j = s.getProt j := SMap.get_put_other _ _ h

@[simp] theorem State.getProt_modProt_same (s : State) (k : Nat) (f : PortProt → PortProt) :
    (s.modProt k f).getProt k = f (s.getProt k) := SMap.get_put_same _ _ _

@[simp] theorem State.getProt_setProt_same (s : State) (k : Nat) (v : PortProt) : (s.setProt k v).getProt k = v := SMap.get_put_same _ _ _

theorem State.getProt_setProt_other (s : State) (k : Nat) (v : PortProt) {j : Nat} (h : j ≠ k) :
    (s.setProt k v).getProt j = s.getProt j := SMap.get_put_other _ _ h

theorem State.getFt_modFt_other (s : State) (k : Nat) (f : PortFt → PortFt) {j : Nat} (h : j ≠ k) :
    (s.modFt k f).getFt j = s.getFt j := SMap.get_put_other _ _ h

@[simp] theorem State.getFt_modFt_same (s : State) (k : Nat) (f : PortFt → PortFt) :
    (s.modFt k f).getFt k = f (s.getFt k) := SMap.get_put_same _ _ _

@[simp] theorem State.getFt_setFt_same (s : State) (k : Nat) (v : PortFt) : (s.setFt k v).getFt k = v := SMap.get_put_same _ _ _

theorem State.getFt_setFt_other (s : State) (k : Nat) (v : PortFt) {j : Nat} (h : j ≠ k) :
    (s.setFt k v).getFt j = s.getFt j := SMap.get_put_other _ _ h

theorem State.getFifo_modFifo_other (s : State) (k : Nat) (f : PortMem → PortMem) {j : Nat} (h : j ≠ k) :
    (s.modFifo k f).getFifo j = s.getFifo j := SMap.get_put_other _ _ h

@[simp] theorem State.getFifo_modFifo_same (s : State) (k : Nat) (f : PortMem → PortMem) :
    (s.modFifo k f).getFifo k = f (s.getFifo k) := SMap.get_put_same _ _ _

@[simp] theorem State.getFifo_setFifo_same (s : State) (k : Nat) (v : PortMem) : (s.setFifo k v).getFifo k = v := SMap.get_put_same _ _ _

theorem State.getFifo_setFifo_other (s : State) (k : Nat) (v : PortMem) {j : Nat} (h : j ≠ k) :
    (s.setFifo k v).getFifo j = s.getFifo j := SMap.get_put_other _ _ h

theorem State.getGals_modGals_other (s : State) (k : Nat) (f : Gallery → Gallery) {j : Nat} (h : j ≠ k) :
    (s.modGals k f).getGals j = s.getGals j := SMap.get_put_other _ _ h

@[simp] theorem State.getGals_modGals_same (s : State) (k : Nat) (f : Gallery → Gallery) :
    (s.modGals k f).getGals k = f (s.getGals k) := SMap.get_put_same _ _ _

@[simp] theorem State.getGals_setGals_same (s : State) (k : Nat) (v : Gallery) : (s.setGals k v).getGals k = v := SMap.get_put_same _ _ _

theorem State.getGals_setGals_other (s : State) (k : Nat) (v : Gallery) {j : Nat} (h : j ≠ k) :
    (s.setGals k v).getGals j = s.getGals j := SMap.get_put_other _ _ h

theorem State.getPipes_modPipes_other (s : State) (k : Nat) (f : Pipe → Pipe) {j : Nat} (h : j ≠ k) :
    (s.modPipes k f).getPipes j = s.getPipes j := SMap.get_put_other _ _ h

@[simp] theorem State.getPipes_modPipes_same (s : State) (k : Nat) (f : Pipe → Pipe) :
    (s.modPipes k f).getPipes k = f (s.getPipes k) := SMap.get_put_same _ _ _

@[simp] theorem State.getPipes_setPipes_same (s : State) (k : Nat) (v : Pipe) : (s.setPipes k v).getPipes k = v := SMap.get_put_same _ _ _

theorem State.getPipes_setPipes_other (s : State) (k : Nat) (v : Pipe) {j : Nat} (h : j ≠ k) :
    (s.setPipes k v).getPipes j = s.getPipes j := SMap.get_put_other _ _ h

theorem State.getItems_modItems_other (s : State) (k : Nat) (f : Item → Item) {j : Nat} (h : j ≠ k) :
    (s.modItems k f).getItems j = s.getItems j := SMap.get_put_other _ _ h

@[simp] theorem State.getItems_modItems_same (s : State) (k : Nat) (f : Item → Item) :
    (s.modItems k f).getItems k = f (s.getItems k) := SMap.get_put_same _ _ _

@[simp] theorem State.getItems_setItems_same (s : State) (k : Nat) (v : Item) : (s.setItems k v).getItems k = v := SMap.get_put_same _ _ _

theorem State.getItems_setItems_other (s : State) (k : Nat) (v : Item) {j : Nat} (h : j ≠ k) :
    (s.setItems k v).getItems j = s.getItems j := SMap.get_put_other _ _ h

theorem State.getSess_modSess_other (s : State) (k : Nat) (f : Session → Session) {j : Nat} (h : j ≠ k) :
    (s.modSess k f).getSess j = s.getSess j := SMap.get_put_other _ _ h

@[simp] theorem State.getSess_modSess_same (s : State) (k : Nat) (f : Session → Session) :
    (s.modSess k f).getSess k = f (s.getSess k) := SMap.get_put_same _ _ _

@[simp] theorem State.getSess_setSess_same (s : State) (k : Nat) (v : Session) : (s.setSess k v).getSess k = v := SMap.get_put_same _ _ _

theorem State.getSess_setSess_other (s : State) (k : Nat) (v : Session) {j : Nat} (h : j ≠ k) :
    (s.setSess k v).getSess j = s.getSess j := SMap.get_put_other _ _ h

theorem State.getTenants_modTenants_other (s : State) (k : Nat) (f : Tenant → Tenant) {j : Nat} (h : j ≠ k) :
    (s.modTenants k f).getTenants j = s.getTenants j := SMap.get_put_other _ _ h

@[simp] theorem State.getTenants_modTenants_same (s : State) (k : Nat) (f : Tenant → Tenant) :
    (s.modTenants k f).getTenants k = f (s.getTenants k) := SMap.get_put_same _ _ _

@[simp] theorem State.getTenants_setTenants_same (s : State) (k : Nat) (v : Tenant) : (s.setTenants k v).getTenants k = v := SMap.get_put_same _ _ _

theorem State.getTenants_setTenants_other (s : State) (k : Nat) (v : Tenant) {j : Nat} (h : j ≠ k) :
    (s.setTenants k v).getTenants j = s.getTenants j := SMap.get_put_other _ _ h

end Sys2Proof.Machine
end

