-- ==== Sys2Proof/Laws/Effects.lean ====
section
/-!
SUPPORT. What an operation may do to the state, said once for every operation: `Eff m s t` says that `t` differs from `s` only in
the groups whose bit is set in the mask `m`, that the queue of commands is as before, that outputs were only added, that free values
were only taken forward, that the fuses are kept and that canonical forms are kept. The files Laws/Eff*.lean prove it for the
operations of the model, each with its own mask.
-/
set_option Elab.async false
namespace Sys2Proof
open Machine

theorem FusesKept.refl (s : State) : FusesKept s s := ⟨rfl, rfl, rfl, rfl, rfl, rfl, rfl, Nat.le_refl _⟩

theorem FusesKept.of_eq {s t : State} (h : t.boot = s.boot) : FusesKept s t :=
  ⟨by rw [h], by rw [h], by rw [h], by rw [h], by rw [h], by rw [h], by rw [h], by rw [h]⟩

theorem FusesKept.trans {s t u : State} (h : FusesKept s t) (k : FusesKept t u) : FusesKept s u :=
  ⟨k.1.trans h.1, k.2.trans h.2, k.3.trans h.3, k.4.trans h.4, k.5.trans h.5, k.6.trans h.6, k.7.trans h.7, h.8.trans k.8⟩

end Sys2Proof

namespace Sys2Proof.Machine

/-- The effect of an operation. -/
structure Eff (m : Nat) (s t : State) : Prop where
  usb : m.testBit 0 = false → t.usb = s.usb
  pwr : m.testBit 1 = false → t.pwr = s.pwr
  prot : m.testBit 2 = false → t.prot = s.prot
  ft : m.testBit 3 = false → t.ft = s.ft
  fifo : m.testBit 4 = false → t.fifo = s.fifo
  gals : m.testBit 5 = false → t.gals = s.gals
  pipes : m.testBit 6 = false → t.pipes = s.pipes
  items : m.testBit 7 = false → t.items = s.items
  sess : m.testBit 8 = false → t.sess = s.sess
  tenants : m.testBit 9 = false → t.tenants = s.tenants
  cat : m.testBit 10 = false → t.cat = s.cat
  can : m.testBit 11 = false → t.can = s.can
  board : m.testBit 12 = false → t.board = s.board
  regs : m.testBit 13 = false → t.regs = s.regs
  clk : m.testBit 14 = false → t.clk = s.clk
  upl : m.testBit 15 = false → t.upl = s.upl
  ptp : m.testBit 16 = false → t.ptp = s.ptp
  coll : m.testBit 17 = false → t.coll = s.coll
  dps : m.testBit 18 = false → t.dps = s.dps
  svc : m.testBit 19 = false → t.svc = s.svc
  flt : m.testBit 20 = false → t.flt = s.flt
  boot : m.testBit 21 = false → t.boot = s.boot
  dbg : m.testBit 22 = false → t.dbg = s.dbg
  mem : m.testBit 23 = false → t.mem = s.mem
  vault : m.testBit 24 = false → t.vault = s.vault
  mov : m.testBit 25 = false → t.mov = s.mov
  time : m.testBit 26 = false → t.clk.hubTime = s.clk.hubTime ∧ t.clk.usCount = s.clk.usCount
  data : m.testBit 27 = false → t.vault.data = s.vault.data
  area : m.testBit 28 = false → t.mov.area = s.mov.area
  imgs : m.testBit 29 = false → t.boot.imgA = s.boot.imgA ∧ t.boot.imgB = s.boot.imgB
  pending : t.pending = s.pending
  grows : s.sent <+: t.sent
  free : s.freeCtr ≤ t.freeCtr
  fuses : FusesKept s t
  memories : MemoriesOk s → MemoriesOk t
  units : UnitsOk s → UnitsOk t

theorem Eff.refl (m : Nat) (s : State) : Eff m s s := by
  constructor <;> intros <;>
    first | rfl | exact ⟨rfl, rfl⟩ | exact List.prefix_refl _ | exact Nat.le_refl _ | exact FusesKept.refl s | assumption

theorem Eff.trans {m : Nat} {s t u : State} (h : Eff m s t) (k : Eff m t u) : Eff m s u where
  usb b := (k.usb b).trans (h.usb b)
  pwr b := (k.pwr b).trans (h.pwr b)
  prot b := (k.prot b).trans (h.prot b)
  ft b := (k.ft b).trans (h.ft b)
  fifo b := (k.fifo b).trans (h.fifo b)
  gals b := (k.gals b).trans (h.gals b)
  pipes b := (k.pipes b).trans (h.pipes b)
  items b := (k.items b).trans (h.items b)
  sess b := (k.sess b).trans (h.sess b)
  tenants b := (k.tenants b).trans (h.tenants b)
  cat b := (k.cat b).trans (h.cat b)
  can b := (k.can b).trans (h.can b)
  board b := (k.board b).trans (h.board b)
  regs b := (k.regs b).trans (h.regs b)
  clk b := (k.clk b).trans (h.clk b)
  upl b := (k.upl b).trans (h.upl b)
  ptp b := (k.ptp b).trans (h.ptp b)
  coll b := (k.coll b).trans (h.coll b)
  dps b := (k.dps b).trans (h.dps b)
  svc b := (k.svc b).trans (h.svc b)
  flt b := (k.flt b).trans (h.flt b)
  boot b := (k.boot b).trans (h.boot b)
  dbg b := (k.dbg b).trans (h.dbg b)
  mem b := (k.mem b).trans (h.mem b)
  vault b := (k.vault b).trans (h.vault b)
  mov b := (k.mov b).trans (h.mov b)
  data b := (k.data b).trans (h.data b)
  area b := (k.area b).trans (h.area b)
  time b := ⟨(k.time b).1.trans (h.time b).1, (k.time b).2.trans (h.time b).2⟩
  imgs b := ⟨(k.imgs b).1.trans (h.imgs b).1, (k.imgs b).2.trans (h.imgs b).2⟩
  pending := k.pending.trans h.pending
  grows := h.grows.trans k.grows
  free := h.free.trans k.free
  fuses := h.fuses.trans k.fuses
  memories w := k.memories (h.memories w)
  units w := k.units (h.units w)

/-- Every bit of `a` is a bit of `b`. -/
abbrev Covers (a b : Nat) : Prop := a ||| b = b

theorem Covers.bit {a b : Nat} (h : Covers a b) (i : Nat) (hb : b.testBit i = false) : a.testBit i = false := by
  unfold Covers at h
  rw [← h, Nat.testBit_or, Bool.or_eq_false_iff] at hb
  exact hb.1

theorem Covers.refl (a : Nat) : Covers a a := Nat.or_self a

theorem Covers.trans {a b c : Nat} (h : Covers a b) (k : Covers b c) : Covers a c := by
  unfold Covers at *
  rw [← k, ← Nat.or_assoc, h]

theorem Eff.mono {a b : Nat} {s t : State} (h : Eff a s t) (c : Covers a b) : Eff b s t where
  usb b := h.usb (c.bit _ b)
  pwr b := h.pwr (c.bit _ b)
  prot b := h.prot (c.bit _ b)
  ft b := h.ft (c.bit _ b)
  fifo b := h.fifo (c.bit _ b)
  gals b := h.gals (c.bit _ b)
  pipes b := h.pipes (c.bit _ b)
  items b := h.items (c.bit _ b)
  sess b := h.sess (c.bit _ b)
  tenants b := h.tenants (c.bit _ b)
  cat b := h.cat (c.bit _ b)
  can b := h.can (c.bit _ b)
  board b := h.board (c.bit _ b)
  regs b := h.regs (c.bit _ b)
  clk b := h.clk (c.bit _ b)
  upl b := h.upl (c.bit _ b)
  ptp b := h.ptp (c.bit _ b)
  coll b := h.coll (c.bit _ b)
  dps b := h.dps (c.bit _ b)
  svc b := h.svc (c.bit _ b)
  flt b := h.flt (c.bit _ b)
  boot b := h.boot (c.bit _ b)
  dbg b := h.dbg (c.bit _ b)
  mem b := h.mem (c.bit _ b)
  vault b := h.vault (c.bit _ b)
  mov b := h.mov (c.bit _ b)
  time b := h.time (c.bit _ b)
  data b := h.data (c.bit _ b)
  area b := h.area (c.bit _ b)
  imgs b := h.imgs (c.bit _ b)
  pending := h.pending
  grows := h.grows
  free := h.free
  fuses := h.fuses
  memories := h.memories
  units := h.units

/-- One operation after another, under a mask that covers both. -/
theorem Eff.by {a b : Nat} {s t u : State} (k : Eff a t u) (c : Covers a b) (h : Eff b s t) : Eff b s u := h.trans (k.mono c)

theorem Eff.ite {m : Nat} {s a b : State} {c : Prop} [Decidable c] (h : Eff m s a) (k : Eff m s b) : Eff m s (if c then a else b) := by
  split <;> assumption

theorem Eff.bite {m : Nat} {s a b : State} {c : Bool} (h : Eff m s a) (k : Eff m s b) : Eff m s (bif c then a else b) := by
  cases c <;> assumption

theorem Eff.ite1 {m : Nat} {α : Type} {s : State} {a b : State × α} {c : Prop} [Decidable c] (h : Eff m s a.1) (k : Eff m s b.1) :
    Eff m s (if c then a else b).1 := by
  split <;> assumption

theorem Eff.foldl {m : Nat} {α : Type} {s t : State} {l : List α} {f : State → α → State} (h : ∀ s x, Eff m s (f s x))
    (k : Eff m s t) : Eff m s (l.foldl f t) := by
  induction l generalizing t with
  | nil => exact k
  | cons x l ih => exact ih (k.trans (h t x))

theorem Eff.foldl1 {m : Nat} {α β : Type} {s : State} {t : State × β} {l : List α} {f : State × β → α → State × β}
    (h : ∀ p x, Eff m p.1 (f p x).1) (k : Eff m s t.1) : Eff m s (l.foldl f t).1 := by
  induction l generalizing t with
  | nil => exact k
  | cons x l ih => exact ih (k.trans (h t x))

/-! ### The updates of the state -/

theorem State.setUsb_eff (s : State) (k : Nat) (v : PortUsb) : Eff 1 s (s.setUsb k v) := by
  constructor <;> intros <;> first | rfl | exact ⟨rfl, rfl⟩ | exact List.prefix_refl _ | exact Nat.le_refl _ | exact FusesKept.of_eq rfl | assumption | skip
  · rename_i h; exact absurd h (by decide)
  · rename_i w; obtain ⟨h0, h1, h2, h3, h4, h5, h6, h7, h8, h9⟩ := w
    exact ⟨SMap.wf_put _ _ _ h0, h1, h2, h3, h4, h5, h6, h7, h8, h9⟩

theorem State.modUsb_eff (s : State) (k : Nat) (f : PortUsb → PortUsb) : Eff 1 s (s.modUsb k f) := s.setUsb_eff k _

theorem State.setPwr_eff (s : State) (k : Nat) (v : PortPwr) : Eff 2 s (s.setPwr k v) := by
  constructor <;> intros <;> first | rfl | exact ⟨rfl, rfl⟩ | exact List.prefix_refl _ | exact Nat.le_refl _ | exact FusesKept.of_eq rfl | assumption | skip
  · rename_i h; exact absurd h (by decide)
  · rename_i w; obtain ⟨h0, h1, h2, h3, h4, h5, h6, h7, h8, h9⟩ := w
    exact ⟨h0, SMap.wf_put _ _ _ h1, h2, h3, h4, h5, h6, h7, h8, h9⟩

theorem State.modPwr_eff (s : State) (k : Nat) (f : PortPwr → PortPwr) : Eff 2 s (s.modPwr k f) := s.setPwr_eff k _

theorem State.setProt_eff (s : State) (k : Nat) (v : PortProt) : Eff 4 s (s.setProt k v) := by
  constructor <;> intros <;> first | rfl | exact ⟨rfl, rfl⟩ | exact List.prefix_refl _ | exact Nat.le_refl _ | exact FusesKept.of_eq rfl | assumption | skip
  · rename_i h; exact absurd h (by decide)
  · rename_i w; obtain ⟨h0, h1, h2, h3, h4, h5, h6, h7, h8, h9⟩ := w
    exact ⟨h0, h1, SMap.wf_put _ _ _ h2, h3, h4, h5, h6, h7, h8, h9⟩

theorem State.modProt_eff (s : State) (k : Nat) (f : PortProt → PortProt) : Eff 4 s (s.modProt k f) := s.setProt_eff k _

theorem State.setFt_eff (s : State) (k : Nat) (v : PortFt) : Eff 8 s (s.setFt k v) := by
  constructor <;> intros <;> first | rfl | exact ⟨rfl, rfl⟩ | exact List.prefix_refl _ | exact Nat.le_refl _ | exact FusesKept.of_eq rfl | assumption | skip
  · rename_i h; exact absurd h (by decide)
  · rename_i w; obtain ⟨h0, h1, h2, h3, h4, h5, h6, h7, h8, h9⟩ := w
    exact ⟨h0, h1, h2, SMap.wf_put _ _ _ h3, h4, h5, h6, h7, h8, h9⟩

theorem State.modFt_eff (s : State) (k : Nat) (f : PortFt → PortFt) : Eff 8 s (s.modFt k f) := s.setFt_eff k _

theorem State.setFifo_eff (s : State) (k : Nat) (v : PortMem) : Eff 16 s (s.setFifo k v) := by
  constructor <;> intros <;> first | rfl | exact ⟨rfl, rfl⟩ | exact List.prefix_refl _ | exact Nat.le_refl _ | exact FusesKept.of_eq rfl | assumption | skip
  · rename_i h; exact absurd h (by decide)
  · rename_i w; obtain ⟨h0, h1, h2, h3, h4, h5, h6, h7, h8, h9⟩ := w
    exact ⟨h0, h1, h2, h3, SMap.wf_put _ _ _ h4, h5, h6, h7, h8, h9⟩

theorem State.modFifo_eff (s : State) (k : Nat) (f : PortMem → PortMem) : Eff 16 s (s.modFifo k f) := s.setFifo_eff k _

theorem State.setGals_eff (s : State) (k : Nat) (v : Gallery) : Eff 32 s (s.setGals k v) := by
  constructor <;> intros <;> first | rfl | exact ⟨rfl, rfl⟩ | exact List.prefix_refl _ | exact Nat.le_refl _ | exact FusesKept.of_eq rfl | assumption | skip
  · rename_i h; exact absurd h (by decide)
  · rename_i w; obtain ⟨h0, h1, h2, h3, h4, h5, h6, h7, h8, h9⟩ := w
    exact ⟨h0, h1, h2, h3, h4, SMap.wf_put _ _ _ h5, h6, h7, h8, h9⟩

theorem State.modGals_eff (s : State) (k : Nat) (f : Gallery → Gallery) : Eff 32 s (s.modGals k f) := s.setGals_eff k _

theorem State.setPipes_eff (s : State) (k : Nat) (v : Pipe) : Eff 64 s (s.setPipes k v) := by
  constructor <;> intros <;> first | rfl | exact ⟨rfl, rfl⟩ | exact List.prefix_refl _ | exact Nat.le_refl _ | exact FusesKept.of_eq rfl | assumption | skip
  · rename_i h; exact absurd h (by decide)
  · rename_i w; obtain ⟨h0, h1, h2, h3, h4, h5, h6, h7, h8, h9⟩ := w
    exact ⟨h0, h1, h2, h3, h4, h5, SMap.wf_put _ _ _ h6, h7, h8, h9⟩

theorem State.modPipes_eff (s : State) (k : Nat) (f : Pipe → Pipe) : Eff 64 s (s.modPipes k f) := s.setPipes_eff k _

theorem State.setItems_eff (s : State) (k : Nat) (v : Item) : Eff 128 s (s.setItems k v) := by
  constructor <;> intros <;> first | rfl | exact ⟨rfl, rfl⟩ | exact List.prefix_refl _ | exact Nat.le_refl _ | exact FusesKept.of_eq rfl | assumption | skip
  · rename_i h; exact absurd h (by decide)
  · rename_i w; obtain ⟨h0, h1, h2, h3, h4, h5, h6, h7, h8, h9⟩ := w
    exact ⟨h0, h1, h2, h3, h4, h5, h6, SMap.wf_put _ _ _ h7, h8, h9⟩

theorem State.modItems_eff (s : State) (k : Nat) (f : Item → Item) : Eff 128 s (s.modItems k f) := s.setItems_eff k _

theorem State.setSess_eff (s : State) (k : Nat) (v : Session) : Eff 256 s (s.setSess k v) := by
  constructor <;> intros <;> first | rfl | exact ⟨rfl, rfl⟩ | exact List.prefix_refl _ | exact Nat.le_refl _ | exact FusesKept.of_eq rfl | assumption | skip
  · rename_i h; exact absurd h (by decide)
  · rename_i w; obtain ⟨h0, h1, h2, h3, h4, h5, h6, h7, h8, h9⟩ := w
    exact ⟨h0, h1, h2, h3, h4, h5, h6, h7, SMap.wf_put _ _ _ h8, h9⟩

theorem State.modSess_eff (s : State) (k : Nat) (f : Session → Session) : Eff 256 s (s.modSess k f) := s.setSess_eff k _

theorem State.setTenants_eff (s : State) (k : Nat) (v : Tenant) : Eff 512 s (s.setTenants k v) := by
  constructor <;> intros <;> first | rfl | exact ⟨rfl, rfl⟩ | exact List.prefix_refl _ | exact Nat.le_refl _ | exact FusesKept.of_eq rfl | assumption | skip
  · rename_i h; exact absurd h (by decide)
  · rename_i w; obtain ⟨h0, h1, h2, h3, h4, h5, h6, h7, h8, h9⟩ := w
    exact ⟨h0, h1, h2, h3, h4, h5, h6, h7, h8, SMap.wf_put _ _ _ h9⟩

theorem State.modTenants_eff (s : State) (k : Nat) (f : Tenant → Tenant) : Eff 512 s (s.modTenants k f) := s.setTenants_eff k _

theorem State.modCat_eff (s : State) (f : CatState → CatState) : Eff 1024 s (s.modCat f) := by
  constructor <;> intros <;>
    first
    | (rename_i h; exact absurd h (by decide))
    | rfl
    | exact ⟨rfl, rfl⟩
    | exact List.prefix_refl _
    | exact Nat.le_refl _
    | exact FusesKept.of_eq rfl
    | assumption

theorem State.modCan_eff (s : State) (f : Can → Can) : Eff 2048 s (s.modCan f) := by
  constructor <;> intros <;>
    first
    | (rename_i h; exact absurd h (by decide))
    | rfl
    | exact ⟨rfl, rfl⟩
    | exact List.prefix_refl _
    | exact Nat.le_refl _
    | exact FusesKept.of_eq rfl
    | assumption

theorem State.modBoard_eff (s : State) (f : Board → Board) : Eff 4096 s (s.modBoard f) := by
  constructor <;> intros <;>
    first
    | (rename_i h; exact absurd h (by decide))
    | rfl
    | exact ⟨rfl, rfl⟩
    | exact List.prefix_refl _
    | exact Nat.le_refl _
    | exact FusesKept.of_eq rfl
    | assumption

theorem State.modRegs_eff (s : State) (f : Regs → Regs) : Eff 8192 s (s.modRegs f) := by
  constructor <;> intros <;>
    first
    | (rename_i h; exact absurd h (by decide))
    | rfl
    | exact ⟨rfl, rfl⟩
    | exact List.prefix_refl _
    | exact Nat.le_refl _
    | exact FusesKept.of_eq rfl
    | assumption

theorem State.modClk_time (s : State) (f : Clk → Clk) : Eff 67125248 s (s.modClk f) := by
  constructor <;> intros <;>
    first
    | (rename_i h; exact absurd h (by decide))
    | rfl
    | exact ⟨rfl, rfl⟩
    | exact List.prefix_refl _
    | exact Nat.le_refl _
    | exact FusesKept.of_eq rfl
    | assumption

theorem State.modClk_eff (s : State) (f : Clk → Clk) (h : (f s.clk).hubTime = s.clk.hubTime ∧ (f s.clk).usCount = s.clk.usCount) : Eff 16384 s (s.modClk f) := by
  constructor <;> intros <;>
    first
    | (rename_i h; exact absurd h (by decide))
    | exact ⟨h.1, h.2⟩
    | rfl
    | exact ⟨rfl, rfl⟩
    | exact List.prefix_refl _
    | exact Nat.le_refl _
    | exact FusesKept.of_eq rfl
    | assumption

theorem State.modUpl_eff (s : State) (f : Upl → Upl) : Eff 32768 s (s.modUpl f) := by
  constructor <;> intros <;>
    first
    | (rename_i h; exact absurd h (by decide))
    | rfl
    | exact ⟨rfl, rfl⟩
    | exact List.prefix_refl _
    | exact Nat.le_refl _
    | exact FusesKept.of_eq rfl
    | assumption

theorem State.modPtp_eff (s : State) (f : Ptp → Ptp) : Eff 65536 s (s.modPtp f) := by
  constructor <;> intros <;>
    first
    | (rename_i h; exact absurd h (by decide))
    | rfl
    | exact ⟨rfl, rfl⟩
    | exact List.prefix_refl _
    | exact Nat.le_refl _
    | exact FusesKept.of_eq rfl
    | assumption

theorem State.modColl_eff (s : State) (f : Coll → Coll) : Eff 131072 s (s.modColl f) := by
  constructor <;> intros <;>
    first
    | (rename_i h; exact absurd h (by decide))
    | rfl
    | exact ⟨rfl, rfl⟩
    | exact List.prefix_refl _
    | exact Nat.le_refl _
    | exact FusesKept.of_eq rfl
    | assumption

theorem State.modDps_eff (s : State) (f : Dps → Dps) : Eff 262144 s (s.modDps f) := by
  constructor <;> intros <;>
    first
    | (rename_i h; exact absurd h (by decide))
    | rfl
    | exact ⟨rfl, rfl⟩
    | exact List.prefix_refl _
    | exact Nat.le_refl _
    | exact FusesKept.of_eq rfl
    | assumption

theorem State.modSvc_eff (s : State) (f : Svc → Svc) : Eff 524288 s (s.modSvc f) := by
  constructor <;> intros <;>
    first
    | (rename_i h; exact absurd h (by decide))
    | rfl
    | exact ⟨rfl, rfl⟩
    | exact List.prefix_refl _
    | exact Nat.le_refl _
    | exact FusesKept.of_eq rfl
    | assumption

theorem State.modFlt_eff (s : State) (f : Flt → Flt) : Eff 1048576 s (s.modFlt f) := by
  constructor <;> intros <;>
    first
    | (rename_i h; exact absurd h (by decide))
    | rfl
    | exact ⟨rfl, rfl⟩
    | exact List.prefix_refl _
    | exact Nat.le_refl _
    | exact FusesKept.of_eq rfl
    | assumption

theorem State.modBoot_imgs (s : State) (f : Boot → Boot) (ha : SMap.wf 0xFF s.boot.imgA = true → SMap.wf 0xFF (f s.boot).imgA = true)
    (hb : SMap.wf 0xFF s.boot.imgB = true → SMap.wf 0xFF (f s.boot).imgB = true) (hf : FusesKept s (s.modBoot f)) : Eff 538968064 s (s.modBoot f) := by
  constructor <;> intros <;>
    first
    | (rename_i h; exact absurd h (by decide))
    | rfl
    | exact ⟨rfl, rfl⟩
    | exact List.prefix_refl _
    | exact Nat.le_refl _
    | exact hf
    | (rename_i w; obtain ⟨a, b, c, d⟩ := w; exact ⟨a, b, ha c, hb d⟩)
    | assumption

theorem State.modBoot_eff (s : State) (f : Boot → Boot) (h : (f s.boot).imgA = s.boot.imgA ∧ (f s.boot).imgB = s.boot.imgB ∧ (f s.boot).keyHashes = s.boot.keyHashes ∧
    (f s.boot).revoked = s.boot.revoked ∧ (f s.boot).debugFuse = s.boot.debugFuse ∧ (f s.boot).grade = s.boot.grade ∧
    (f s.boot).serial = s.boot.serial ∧ (f s.boot).mac = s.boot.mac ∧ (f s.boot).cert = s.boot.cert ∧
    s.boot.floor ≤ (f s.boot).floor) : Eff 2097152 s (s.modBoot f) := by
  constructor <;> intros <;>
    first
    | (rename_i h; exact absurd h (by decide))
    | exact ⟨h.1, h.2.1⟩
    | rfl
    | exact ⟨rfl, rfl⟩
    | exact List.prefix_refl _
    | exact Nat.le_refl _
    | exact ⟨h.2.2.1, h.2.2.2.1, h.2.2.2.2.1, h.2.2.2.2.2.1, h.2.2.2.2.2.2.1, h.2.2.2.2.2.2.2.1, h.2.2.2.2.2.2.2.2.1, h.2.2.2.2.2.2.2.2.2⟩
    | exact FusesKept.of_eq rfl
    | assumption
    | (rename_i w; obtain ⟨a, b, c, d⟩ := w; refine ⟨a, b, ?_, ?_⟩; (rw [← h.1] at c; exact c); (rw [← h.2.1] at d; exact d))

theorem State.modDbg_eff (s : State) (f : Dbg → Dbg) : Eff 4194304 s (s.modDbg f) := by
  constructor <;> intros <;>
    first
    | (rename_i h; exact absurd h (by decide))
    | rfl
    | exact ⟨rfl, rfl⟩
    | exact List.prefix_refl _
    | exact Nat.le_refl _
    | exact FusesKept.of_eq rfl
    | assumption

theorem State.modMem_eff (s : State) (f : Mem → Mem) : Eff 8388608 s (s.modMem f) := by
  constructor <;> intros <;>
    first
    | (rename_i h; exact absurd h (by decide))
    | rfl
    | exact ⟨rfl, rfl⟩
    | exact List.prefix_refl _
    | exact Nat.le_refl _
    | exact FusesKept.of_eq rfl
    | assumption

theorem State.modVault_data (s : State) (f : Vault → Vault) (h : SMap.wf 0 s.vault.data = true → SMap.wf 0 (f s.vault).data = true) : Eff 150994944 s (s.modVault f) := by
  constructor <;> intros <;>
    first
    | (rename_i h; exact absurd h (by decide))
    | rfl
    | exact ⟨rfl, rfl⟩
    | exact List.prefix_refl _
    | exact Nat.le_refl _
    | exact FusesKept.of_eq rfl
    | (rename_i w; obtain ⟨a, b, c, d⟩ := w; exact ⟨a, h b, c, d⟩)
    | assumption

theorem State.modVault_eff (s : State) (f : Vault → Vault) (h : (f s.vault).data = s.vault.data) : Eff 16777216 s (s.modVault f) := by
  constructor <;> intros <;>
    first
    | (rename_i h; exact absurd h (by decide))
    | exact h
    | rfl
    | exact ⟨rfl, rfl⟩
    | exact List.prefix_refl _
    | exact Nat.le_refl _
    | exact FusesKept.of_eq rfl
    | assumption
    | (rename_i w; obtain ⟨a, b, c, d⟩ := w; refine ⟨a, ?_, c, d⟩; rw [← h] at b; exact b)

theorem State.modMov_area (s : State) (f : Mov → Mov) (h : SMap.wf 0 s.mov.area = true → SMap.wf 0 (f s.mov).area = true) : Eff 301989888 s (s.modMov f) := by
  constructor <;> intros <;>
    first
    | (rename_i h; exact absurd h (by decide))
    | rfl
    | exact ⟨rfl, rfl⟩
    | exact List.prefix_refl _
    | exact Nat.le_refl _
    | exact FusesKept.of_eq rfl
    | (rename_i w; obtain ⟨a, b, c, d⟩ := w; exact ⟨h a, b, c, d⟩)
    | assumption

theorem State.modMov_eff (s : State) (f : Mov → Mov) (h : (f s.mov).area = s.mov.area) : Eff 33554432 s (s.modMov f) := by
  constructor <;> intros <;>
    first
    | (rename_i h; exact absurd h (by decide))
    | exact h
    | rfl
    | exact ⟨rfl, rfl⟩
    | exact List.prefix_refl _
    | exact Nat.le_refl _
    | exact FusesKept.of_eq rfl
    | assumption
    | (rename_i w; obtain ⟨a, b, c, d⟩ := w; refine ⟨?_, b, c, d⟩; rw [← h] at a; exact a)

theorem State.emit_eff (s : State) (x : Sent) : Eff 0 s (s.emit x) := by
  constructor <;> intros <;>
    first | rfl | exact ⟨rfl, rfl⟩ | exact List.prefix_append _ _ | exact Nat.le_refl _ | exact FusesKept.of_eq rfl | assumption

theorem State.emits_eff (s : State) (x : List Sent) : Eff 0 s (s.emits x) := by
  constructor <;> intros <;>
    first | rfl | exact ⟨rfl, rfl⟩ | exact List.prefix_append _ _ | exact Nat.le_refl _ | exact FusesKept.of_eq rfl | assumption

theorem State.tookFree_eff (s : State) : Eff 0 s s.tookFree := by
  constructor <;> intros <;>
    first | rfl | exact ⟨rfl, rfl⟩ | exact List.prefix_refl _ | exact Nat.le_succ _ | exact FusesKept.of_eq rfl | assumption

end Sys2Proof.Machine
end

