-- ==== Sys2Proof/Laws/EffUnits.lean ====
section
/-!
SUPPORT. What the operations of Machine/Units.lean may do to the state: one lemma for each (Laws/Effects.lean).
-/
set_option linter.unreachableTactic false
set_option linter.unusedTactic false

namespace Sys2Proof.Machine

theorem State.setPll_eff (s : State) (q : PllId) (v : Pll) :
    Eff 16384 s (State.setPll s q v) := by
  unfold State.setPll
  try dsimp only
  repeat' first
    | (with_reducible apply Eff.refl)
    | (with_reducible assumption)
    | decide
    | (with_reducible apply Eff.ite)
    | (with_reducible apply Eff.by (State.modClk_eff ..))
    | exact ⟨rfl, rfl⟩
    | split

theorem State.setLink_eff (s : State) (m : Nat) (v : Link) :
    Eff 32768 s (State.setLink s m v) := by
  unfold State.setLink
  try dsimp only
  repeat' first
    | (with_reducible apply Eff.refl)
    | (with_reducible assumption)
    | decide
    | (with_reducible apply Eff.ite)
    | (with_reducible apply Eff.by (State.modUpl_eff ..))
    | split

theorem State.setSlot_eff (s : State) (n : Nat) (v : Slot) :
    Eff 1048576 s (State.setSlot s n v) := by
  unfold State.setSlot
  try dsimp only
  repeat' first
    | (with_reducible apply Eff.refl)
    | (with_reducible assumption)
    | decide
    | (with_reducible apply Eff.ite)
    | (with_reducible apply Eff.by (State.modFlt_eff ..))
    | split

theorem State.setChan_eff (s : State) (c : Nat) (v : Chan) :
    Eff 33554432 s (State.setChan s c v) := by
  unfold State.setChan
  try dsimp only
  repeat' first
    | (with_reducible apply Eff.refl)
    | (with_reducible assumption)
    | decide
    | (with_reducible apply Eff.ite)
    | (with_reducible apply Eff.by (State.modMov_eff ..))
    | (with_reducible rfl)
    | split

theorem State.setUnit_eff (s : State) (u : Nat) (v : CheckUnit) :
    Eff 33554432 s (State.setUnit s u v) := by
  unfold State.setUnit
  try dsimp only
  repeat' first
    | (with_reducible apply Eff.refl)
    | (with_reducible assumption)
    | decide
    | (with_reducible apply Eff.ite)
    | (with_reducible apply Eff.by (State.modMov_eff ..))
    | (with_reducible rfl)
    | split

theorem State.setJob_eff (s : State) (j : Nat) (v : Job) :
    Eff 16777216 s (State.setJob s j v) := by
  unfold State.setJob
  try dsimp only
  repeat' first
    | (with_reducible apply Eff.refl)
    | (with_reducible assumption)
    | decide
    | (with_reducible apply Eff.ite)
    | (with_reducible apply Eff.by (State.modVault_eff ..))
    | (with_reducible rfl)
    | split

theorem State.setDrive_eff (s : State) (n : Nat) (v : Drive) :
    Eff 16777216 s (State.setDrive s n v) := by
  unfold State.setDrive
  try dsimp only
  repeat' first
    | (with_reducible apply Eff.refl)
    | (with_reducible assumption)
    | decide
    | (with_reducible apply Eff.ite)
    | (with_reducible apply Eff.by (State.modVault_eff ..))
    | (with_reducible rfl)
    | split

theorem State.setVoter_eff (s : State) (m : Nat) (v : Voter) :
    Eff 131072 s (State.setVoter s m v) := by
  unfold State.setVoter
  try dsimp only
  repeat' first
    | (with_reducible apply Eff.refl)
    | (with_reducible assumption)
    | decide
    | (with_reducible apply Eff.ite)
    | (with_reducible apply Eff.by (State.modColl_eff ..))
    | split

theorem State.setLock_eff (s : State) (n : Nat) (v : Lock) :
    Eff 131072 s (State.setLock s n v) := by
  unfold State.setLock
  try dsimp only
  repeat' first
    | (with_reducible apply Eff.refl)
    | (with_reducible assumption)
    | decide
    | (with_reducible apply Eff.ite)
    | (with_reducible apply Eff.by (State.modColl_eff ..))
    | split

theorem State.setTpdo_eff (s : State) (n : Nat) (v : Tpdo) :
    Eff 2048 s (State.setTpdo s n v) := by
  unfold State.setTpdo
  try dsimp only
  repeat' first
    | (with_reducible apply Eff.refl)
    | (with_reducible assumption)
    | decide
    | (with_reducible apply Eff.ite)
    | (with_reducible apply Eff.by (State.modCan_eff ..))
    | split

theorem State.setDieLink_eff (s : State) (n : Nat) (v : DieLink) :
    Eff 1048576 s (State.setDieLink s n v) := by
  unfold State.setDieLink
  try dsimp only
  repeat' first
    | (with_reducible apply Eff.refl)
    | (with_reducible assumption)
    | decide
    | (with_reducible apply Eff.ite)
    | (with_reducible apply Eff.by (State.modFlt_eff ..))
    | split

end Sys2Proof.Machine
end

