-- ==== Sys2Proof/Laws/EffSettings.lean ====
section
/-!
SUPPORT. What the operations of Machine/Settings.lean may do to the state: one lemma for each (Laws/Effects.lean).
-/
set_option linter.unreachableTactic false
set_option linter.unusedTactic false

namespace Sys2Proof.Machine

theorem State.setEff_eff (s : State) (idx sub : Nat) (b : Bytes) :
    Eff 1024 s (State.setEff s idx sub b) := by
  unfold State.setEff
  try dsimp only
  repeat' first
    | (with_reducible apply Eff.refl)
    | (with_reducible assumption)
    | decide
    | (with_reducible apply Eff.ite)
    | (with_reducible apply Eff.by (State.modCat_eff ..))
    | split

theorem State.setPend_eff (s : State) (idx sub : Nat) (v : Option PendVal) :
    Eff 1024 s (State.setPend s idx sub v) := by
  unfold State.setPend
  try dsimp only
  repeat' first
    | (with_reducible apply Eff.refl)
    | (with_reducible assumption)
    | decide
    | (with_reducible apply Eff.ite)
    | (with_reducible apply Eff.by (State.modCat_eff ..))
    | split

theorem State.applyWhere_eff (s : State) (p : Nat → Nat → Bool) :
    Eff 1024 s (State.applyWhere s p) := by
  unfold State.applyWhere
  try dsimp only
  repeat' first
    | (with_reducible apply Eff.refl)
    | (with_reducible assumption)
    | decide
    | (with_reducible apply Eff.ite)
    | (with_reducible apply Eff.foldl)
    | (with_reducible apply Eff.by (State.setEff_eff ..))
    | (with_reducible apply Eff.by (State.setPend_eff ..))
    | split
    | (intro _)
    | (dsimp only)

theorem State.applyM_eff (s : State) (q : Nat) :
    Eff 1024 s (State.applyM s q) := by
  unfold State.applyM
  try dsimp only
  repeat' first
    | (with_reducible apply Eff.refl)
    | (with_reducible assumption)
    | decide
    | (with_reducible apply Eff.ite)
    | (with_reducible apply Eff.by (State.applyWhere_eff ..))
    | split

theorem State.applyC_eff (s : State) (q : Nat) :
    Eff 1024 s (State.applyC s q) := by
  unfold State.applyC
  try dsimp only
  repeat' first
    | (with_reducible apply Eff.refl)
    | (with_reducible assumption)
    | decide
    | (with_reducible apply Eff.ite)
    | (with_reducible apply Eff.by (State.applyWhere_eff ..))
    | split

theorem State.applyV_eff (s : State) (q : Nat) :
    Eff 1024 s (State.applyV s q) := by
  unfold State.applyV
  try dsimp only
  repeat' first
    | (with_reducible apply Eff.refl)
    | (with_reducible assumption)
    | decide
    | (with_reducible apply Eff.ite)
    | (with_reducible apply Eff.by (State.applyWhere_eff ..))
    | split

theorem State.applyE_eff (s : State) :
    Eff 1024 s (State.applyE s) := by
  unfold State.applyE
  try dsimp only
  repeat' first
    | (with_reducible apply Eff.refl)
    | (with_reducible assumption)
    | decide
    | (with_reducible apply Eff.ite)
    | (with_reducible apply Eff.by (State.applyWhere_eff ..))
    | split

theorem State.applyB_eff (s : State) :
    Eff 1024 s (State.applyB s) := by
  unfold State.applyB
  try dsimp only
  repeat' first
    | (with_reducible apply Eff.refl)
    | (with_reducible assumption)
    | decide
    | (with_reducible apply Eff.ite)
    | (with_reducible apply Eff.by (State.applyWhere_eff ..))
    | split

theorem State.applyS_eff (s : State) (t : Nat) :
    Eff 1024 s (State.applyS s t) := by
  unfold State.applyS
  try dsimp only
  repeat' first
    | (with_reducible apply Eff.refl)
    | (with_reducible assumption)
    | decide
    | (with_reducible apply Eff.ite)
    | (with_reducible apply Eff.by (State.applyWhere_eff ..))
    | split

theorem State.dropPend_eff (s : State) (t q : Nat) :
    Eff 1024 s (State.dropPend s t q) := by
  unfold State.dropPend
  try dsimp only
  repeat' first
    | (with_reducible apply Eff.refl)
    | (with_reducible assumption)
    | decide
    | (with_reducible apply Eff.ite)
    | (with_reducible apply Eff.by (State.modCat_eff ..))
    | split

end Sys2Proof.Machine
end

