-- ==== Sys2Proof/Laws/EffOps.lean ====
section
/-!
SUPPORT. What the operations of Machine/Ops.lean may do to the state: one lemma for each (Laws/Effects.lean).
-/
set_option linter.unreachableTactic false
set_option linter.unusedTactic false

namespace Sys2Proof.Machine

theorem State.modSessWhere_eff (s : State) (p : Nat → Session → Bool) (f : Session → Session) :
    Eff 256 s (State.modSessWhere s p f) := by
  unfold State.modSessWhere
  try dsimp only
  repeat' first
    | (with_reducible apply Eff.refl)
    | (with_reducible assumption)
    | decide
    | (with_reducible apply Eff.ite)
    | (with_reducible apply Eff.foldl)
    | (with_reducible apply Eff.by (State.modSess_eff ..))
    | split
    | (intro _)
    | (dsimp only)

theorem State.houseEvent_eff (s : State) (code port device param time : Nat) :
    Eff 256 s (State.houseEvent s code port device param time) := by
  unfold State.houseEvent
  try dsimp only
  repeat' first
    | (with_reducible apply Eff.refl)
    | (with_reducible assumption)
    | decide
    | (with_reducible apply Eff.ite)
    | (with_reducible apply Eff.by (State.modSessWhere_eff ..))
    | split

theorem State.portEvent_eff (s : State) (p code device param : Nat) (body : Bytes) :
    Eff 256 s (State.portEvent s p code device param body) := by
  unfold State.portEvent
  try dsimp only
  repeat' first
    | (with_reducible apply Eff.refl)
    | (with_reducible assumption)
    | decide
    | (with_reducible apply Eff.ite)
    | (with_reducible apply Eff.by (State.modSessWhere_eff ..))
    | split

theorem State.tenantEvent_eff (s : State) (t code param : Nat) :
    Eff 256 s (State.tenantEvent s t code param) := by
  unfold State.tenantEvent
  try dsimp only
  repeat' first
    | (with_reducible apply Eff.refl)
    | (with_reducible assumption)
    | decide
    | (with_reducible apply Eff.ite)
    | (with_reducible apply Eff.by (State.modSessWhere_eff ..))
    | split

theorem State.sessEvent_eff (s : State) (k code param : Nat) :
    Eff 256 s (State.sessEvent s k code param) := by
  unfold State.sessEvent
  try dsimp only
  repeat' first
    | (with_reducible apply Eff.refl)
    | (with_reducible assumption)
    | decide
    | (with_reducible apply Eff.ite)
    | (with_reducible apply Eff.by (State.modSess_eff ..))
    | split

theorem State.collEvent_eff (s : State) (f : Coll → Coll) :
    Eff 131328 s (State.collEvent s f) := by
  unfold State.collEvent
  try dsimp only
  repeat' first
    | (with_reducible apply Eff.refl)
    | (with_reducible assumption)
    | decide
    | (with_reducible apply Eff.ite)
    | (with_reducible apply Eff.by (State.houseEvent_eff ..))
    | (with_reducible apply Eff.by (State.modColl_eff ..))
    | split

theorem State.upEvent_eff (s : State) (b : BitVec 19) :
    Eff 33024 s (State.upEvent s b) := by
  unfold State.upEvent
  try dsimp only
  repeat' first
    | (with_reducible apply Eff.refl)
    | (with_reducible assumption)
    | decide
    | (with_reducible apply Eff.ite)
    | (with_reducible apply Eff.by (State.houseEvent_eff ..))
    | (with_reducible apply Eff.by (State.modUpl_eff ..))
    | split

theorem State.ftEvent_eff (s : State) (port : Nat) (b : BitVec 4) :
    Eff 65792 s (State.ftEvent s port b) := by
  unfold State.ftEvent
  try dsimp only
  repeat' first
    | (with_reducible apply Eff.refl)
    | (with_reducible assumption)
    | decide
    | (with_reducible apply Eff.ite)
    | (with_reducible apply Eff.by (State.houseEvent_eff ..))
    | (with_reducible apply Eff.by (State.modPtp_eff ..))
    | split

theorem State.vaultEvent_eff (s : State) (b : BitVec 12) :
    Eff 16777472 s (State.vaultEvent s b) := by
  unfold State.vaultEvent
  try dsimp only
  repeat' first
    | (with_reducible apply Eff.refl)
    | (with_reducible assumption)
    | decide
    | (with_reducible apply Eff.ite)
    | (with_reducible apply Eff.by (State.houseEvent_eff ..))
    | (with_reducible apply Eff.by (State.modVault_eff ..))
    | (with_reducible rfl)
    | split

theorem State.chanEvent_eff (s : State) (c : Nat) (b : BitVec 5) :
    Eff 33554688 s (State.chanEvent s c b) := by
  unfold State.chanEvent
  try dsimp only
  repeat' first
    | (with_reducible apply Eff.refl)
    | (with_reducible assumption)
    | decide
    | (with_reducible apply Eff.ite)
    | (with_reducible apply Eff.by (State.houseEvent_eff ..))
    | (with_reducible apply Eff.by (State.setChan_eff ..))
    | split

theorem State.memEvent_eff (s : State) (b : BitVec 4) :
    Eff 8388864 s (State.memEvent s b) := by
  unfold State.memEvent
  try dsimp only
  repeat' first
    | (with_reducible apply Eff.refl)
    | (with_reducible assumption)
    | decide
    | (with_reducible apply Eff.ite)
    | (with_reducible apply Eff.by (State.houseEvent_eff ..))
    | (with_reducible apply Eff.by (State.modMem_eff ..))
    | split

theorem State.pwrEvent_eff (s : State) (p : Nat) (b : BitVec 12) :
    Eff 258 s (State.pwrEvent s p b) := by
  unfold State.pwrEvent
  try dsimp only
  repeat' first
    | (with_reducible apply Eff.refl)
    | (with_reducible assumption)
    | decide
    | (with_reducible apply Eff.ite)
    | (with_reducible apply Eff.by (State.houseEvent_eff ..))
    | (with_reducible apply Eff.by (State.modPwr_eff ..))
    | split

theorem State.protEvent_eff (s : State) (p : Nat) (b : BitVec 5) :
    Eff 260 s (State.protEvent s p b) := by
  unfold State.protEvent
  try dsimp only
  repeat' first
    | (with_reducible apply Eff.refl)
    | (with_reducible assumption)
    | decide
    | (with_reducible apply Eff.ite)
    | (with_reducible apply Eff.by (State.houseEvent_eff ..))
    | (with_reducible apply Eff.by (State.modProt_eff ..))
    | split

theorem State.dpsEvent_eff (s : State) (b : BitVec 4) :
    Eff 262400 s (State.dpsEvent s b) := by
  unfold State.dpsEvent
  try dsimp only
  repeat' first
    | (with_reducible apply Eff.refl)
    | (with_reducible assumption)
    | decide
    | (with_reducible apply Eff.ite)
    | (with_reducible apply Eff.by (State.houseEvent_eff ..))
    | (with_reducible apply Eff.by (State.modDps_eff ..))
    | split

theorem State.usbEvent_eff (s : State) (p : Nat) (b : BitVec 12) :
    Eff 1 s (State.usbEvent s p b) := by
  unfold State.usbEvent
  try dsimp only
  repeat' first
    | (with_reducible apply Eff.refl)
    | (with_reducible assumption)
    | decide
    | (with_reducible apply Eff.ite)
    | (with_reducible apply Eff.by (State.modUsb_eff ..))
    | split

theorem State.emcyOut_eff (s : State) (f : Bytes) :
    Eff 2048 s (State.emcyOut s f) := by
  unfold State.emcyOut
  try dsimp only
  repeat' first
    | (with_reducible apply Eff.refl)
    | (with_reducible assumption)
    | decide
    | (with_reducible apply Eff.ite)
    | (with_reducible apply Eff.by (State.emit_eff ..))
    | (with_reducible apply Eff.by (State.modCan_eff ..))
    | split

theorem State.emcy_eff (s : State) (f : Bytes) :
    Eff 2048 s (State.emcy s f) := by
  unfold State.emcy
  try dsimp only
  repeat' first
    | (with_reducible apply Eff.refl)
    | (with_reducible assumption)
    | decide
    | (with_reducible apply Eff.ite)
    | (with_reducible apply Eff.by (State.emcyOut_eff ..))
    | (with_reducible apply Eff.by (State.modCan_eff ..))
    | split

theorem State.deliver_eff (s : State) (r : FltRec) (esc first : Bool) :
    Eff 1050880 s (State.deliver s r esc first) := by
  unfold State.deliver
  try dsimp only
  repeat' first
    | (with_reducible apply Eff.refl)
    | (with_reducible assumption)
    | decide
    | (with_reducible apply Eff.ite)
    | (with_reducible apply Eff.by (State.emcy_eff ..))
    | (with_reducible apply Eff.by (State.houseEvent_eff ..))
    | (with_reducible apply Eff.by (State.modFlt_eff ..))
    | split

theorem State.errOn_eff (s : State) :
    Eff 1048576 s (State.errOn s) := by
  unfold State.errOn
  try dsimp only
  repeat' first
    | (with_reducible apply Eff.refl)
    | (with_reducible assumption)
    | decide
    | (with_reducible apply Eff.ite)
    | (with_reducible apply Eff.by (State.modFlt_eff ..))
    | split

theorem State.aggregate_eff (s : State) (r : FltRec) :
    Eff 1048576 s (State.aggregate s r) := by
  unfold State.aggregate
  try dsimp only
  repeat' first
    | (with_reducible apply Eff.refl)
    | (with_reducible assumption)
    | decide
    | (with_reducible apply Eff.ite)
    | (with_reducible apply Eff.by (State.modFlt_eff ..))
    | split

theorem State.arm_eff (s : State) (r : FltRec) :
    Eff 1048576 s (State.arm s r) := by
  unfold State.arm
  try dsimp only
  repeat' first
    | (with_reducible apply Eff.refl)
    | (with_reducible assumption)
    | decide
    | (with_reducible apply Eff.ite)
    | (with_reducible apply Eff.by (State.modFlt_eff ..))
    | (with_reducible apply Eff.by (State.setSlot_eff ..))
    | split

theorem State.collect_eff (s : State) (r : FltRec) :
    Eff 1050880 s (State.collect s r) := by
  unfold State.collect
  try dsimp only
  repeat' first
    | (with_reducible apply Eff.refl)
    | (with_reducible assumption)
    | decide
    | (with_reducible apply Eff.ite)
    | (with_reducible apply Eff.by (State.arm_eff ..))
    | (with_reducible apply Eff.by (State.deliver_eff ..))
    | (with_reducible apply Eff.by (State.errOn_eff ..))
    | (with_reducible apply Eff.by (State.modFlt_eff ..))
    | split

theorem State.record_eff (s : State) (r : FltRec) :
    Eff 1050880 s (State.record s r) := by
  unfold State.record
  try dsimp only
  repeat' first
    | (with_reducible apply Eff.refl)
    | (with_reducible assumption)
    | decide
    | (with_reducible apply Eff.ite)
    | (with_reducible apply Eff.by (State.aggregate_eff ..))
    | (with_reducible apply Eff.by (State.collect_eff ..))
    | split

theorem State.note_eff (s : State) (src inst : Nat) :
    Eff 1050880 s (State.note s src inst) := by
  unfold State.note
  try dsimp only
  repeat' first
    | (with_reducible apply Eff.refl)
    | (with_reducible assumption)
    | decide
    | (with_reducible apply Eff.ite)
    | (with_reducible apply Eff.by (State.record_eff ..))
    | split

theorem State.deliverEsc_eff (s : State) (r : FltRec) :
    Eff 1050880 s (State.deliverEsc s r) := by
  unfold State.deliverEsc
  try dsimp only
  repeat' first
    | (with_reducible apply Eff.refl)
    | (with_reducible assumption)
    | decide
    | (with_reducible apply Eff.ite)
    | (with_reducible apply Eff.by (State.deliver_eff ..))
    | (with_reducible apply Eff.by (State.errOn_eff ..))
    | split

theorem State.faultRec_eff (s : State) (r : FltRec) :
    Eff 1050880 s (State.faultRec s r) := by
  unfold State.faultRec
  try dsimp only
  repeat' first
    | (with_reducible apply Eff.refl)
    | (with_reducible assumption)
    | decide
    | (with_reducible apply Eff.ite)
    | (with_reducible apply Eff.by (State.modFlt_eff ..))
    | (with_reducible apply Eff.by (State.record_eff ..))
    | split

theorem State.fault_eff (s : State) (src inst : Nat) :
    Eff 1050880 s (State.fault s src inst) := by
  unfold State.fault
  try dsimp only
  repeat' first
    | (with_reducible apply Eff.refl)
    | (with_reducible assumption)
    | decide
    | (with_reducible apply Eff.ite)
    | (with_reducible apply Eff.by (State.faultRec_eff ..))
    | split

theorem State.causeOn_eff (s : State) (src inst : Nat) :
    Eff 1048576 s (State.causeOn s src inst) := by
  unfold State.causeOn
  try dsimp only
  repeat' first
    | (with_reducible apply Eff.refl)
    | (with_reducible assumption)
    | decide
    | (with_reducible apply Eff.ite)
    | (with_reducible apply Eff.by (State.modFlt_eff ..))
    | split

theorem State.causeOff_eff (s : State) (src inst : Nat) :
    Eff 1048576 s (State.causeOff s src inst) := by
  unfold State.causeOff
  try dsimp only
  repeat' first
    | (with_reducible apply Eff.refl)
    | (with_reducible assumption)
    | decide
    | (with_reducible apply Eff.ite)
    | (with_reducible apply Eff.by (State.modFlt_eff ..))
    | split

end Sys2Proof.Machine
end

