-- ==== Sys2Proof/Laws/EffItems.lean ====
section
/-!
SUPPORT. What the operations of Machine/Items.lean may do to the state: one lemma for each (Laws/Effects.lean).
-/
set_option linter.unreachableTactic false
set_option linter.unusedTactic false

namespace Sys2Proof.Machine

theorem State.toLedger_eff (s : State) (n t : Nat) (e : LedgerEntry) :
    Eff 768 s (State.toLedger s n t e) := by
  unfold State.toLedger
  try dsimp only
  repeat' first
    | (with_reducible apply Eff.refl)
    | (with_reducible assumption)
    | decide
    | (with_reducible apply Eff.ite)
    | (with_reducible apply Eff.by (State.modSess_eff ..))
    | (with_reducible apply Eff.by (State.modTenants_eff ..))
    | split

theorem State.takeResync_eff (s : State) (n : Nat) :
    Eff 64 s (State.takeResync s n) := by
  unfold State.takeResync
  try dsimp only
  repeat' first
    | (with_reducible apply Eff.refl)
    | (with_reducible assumption)
    | decide
    | (with_reducible apply Eff.ite)
    | (with_reducible apply Eff.by (State.modPipes_eff ..))
    | split

theorem State.unqueue_eff (s : State) (n k : Nat) :
    Eff 64 s (State.unqueue s n k) := by
  unfold State.unqueue
  try dsimp only
  repeat' first
    | (with_reducible apply Eff.refl)
    | (with_reducible assumption)
    | decide
    | (with_reducible apply Eff.ite)
    | (with_reducible apply Eff.by (State.modPipes_eff ..))
    | (with_reducible apply Eff.by (State.takeResync_eff ..))
    | split

theorem State.dropItem_eff (s : State) (k : Nat) (i : Item) :
    Eff 197 s (State.dropItem s k i) := by
  unfold State.dropItem
  try dsimp only
  repeat' first
    | (with_reducible apply Eff.refl)
    | (with_reducible assumption)
    | decide
    | (with_reducible apply Eff.ite)
    | (with_reducible apply Eff.by (State.modProt_eff ..))
    | (with_reducible apply Eff.by (State.modUsb_eff ..))
    | (with_reducible apply Eff.by (State.setItems_eff ..))
    | (with_reducible apply Eff.by (State.unqueue_eff ..))
    | split

theorem State.finishB_eff (s : State) (k out det : Nat) (body : Bytes) :
    Eff 16778181 s (State.finishB s k out det body) := by
  unfold State.finishB
  try dsimp only
  repeat' first
    | (with_reducible apply Eff.refl)
    | (with_reducible assumption)
    | decide
    | (with_reducible apply Eff.ite)
    | (with_reducible apply Eff.by (State.dropItem_eff ..))
    | (with_reducible apply Eff.by (State.modSess_eff ..))
    | (with_reducible apply Eff.by (State.modVault_eff ..))
    | (with_reducible rfl)
    | (with_reducible apply Eff.by (State.toLedger_eff ..))
    | split

theorem State.finish_eff (s : State) (k out det : Nat) :
    Eff 16778181 s (State.finish s k out det) := by
  unfold State.finish
  try dsimp only
  repeat' first
    | (with_reducible apply Eff.refl)
    | (with_reducible assumption)
    | decide
    | (with_reducible apply Eff.ite)
    | (with_reducible apply Eff.by (State.finishB_eff ..))
    | split

theorem State.finishO_eff (s : State) (k : Option Nat) (out det : Nat) :
    Eff 16778181 s (State.finishO s k out det) := by
  unfold State.finishO
  try dsimp only
  repeat' first
    | (with_reducible apply Eff.refl)
    | (with_reducible assumption)
    | decide
    | (with_reducible apply Eff.ite)
    | (with_reducible apply Eff.by (State.finish_eff ..))
    | split

theorem State.ask_eff (s : State) (p a kind : Nat) (setup : Bytes) :
    Eff 1 s (State.ask s p a kind setup) := by
  unfold State.ask
  try dsimp only
  repeat' first
    | (with_reducible apply Eff.refl)
    | (with_reducible assumption)
    | decide
    | (with_reducible apply Eff.ite)
    | (with_reducible apply Eff.by (State.modUsb_eff ..))
    | split

theorem State.clearTt_eff (s : State) (n : Nat) :
    Eff 1 s (State.clearTt s n) := by
  unfold State.clearTt
  try dsimp only
  repeat' first
    | (with_reducible apply Eff.refl)
    | (with_reducible assumption)
    | decide
    | (with_reducible apply Eff.ite)
    | (with_reducible apply Eff.by (State.ask_eff ..))
    | split

theorem State.dropSplit_eff (s : State) (n : Nat) :
    Eff 65 s (State.dropSplit s n) := by
  unfold State.dropSplit
  try dsimp only
  repeat' first
    | (with_reducible apply Eff.refl)
    | (with_reducible assumption)
    | decide
    | (with_reducible apply Eff.ite)
    | (with_reducible apply Eff.by (State.clearTt_eff ..))
    | (with_reducible apply Eff.by (State.modPipes_eff ..))
    | split

theorem State.giveUpSplit_eff (s : State) (out k : Nat) (i : Item) :
    Eff 65 s (State.giveUpSplit s out k i) := by
  unfold State.giveUpSplit
  try dsimp only
  repeat' first
    | (with_reducible apply Eff.refl)
    | (with_reducible assumption)
    | decide
    | (with_reducible apply Eff.ite)
    | (with_reducible apply Eff.by (State.dropSplit_eff ..))
    | split

theorem State.causeItem_eff (s : State) (out det k : Nat) :
    Eff 16778181 s (State.causeItem s out det k) := by
  unfold State.causeItem
  try dsimp only
  repeat' first
    | (with_reducible apply Eff.refl)
    | (with_reducible assumption)
    | decide
    | (with_reducible apply Eff.ite)
    | (with_reducible apply Eff.by (State.finish_eff ..))
    | (with_reducible apply Eff.by (State.giveUpSplit_eff ..))
    | (with_reducible apply Eff.by (State.modItems_eff ..))
    | split

theorem State.causeItems_eff (s : State) (out det : Nat) (ks : List Nat) :
    Eff 16778181 s (State.causeItems s out det ks) := by
  unfold State.causeItems
  try dsimp only
  repeat' first
    | (with_reducible apply Eff.refl)
    | (with_reducible assumption)
    | decide
    | (with_reducible apply Eff.ite)
    | (with_reducible apply Eff.foldl)
    | (with_reducible apply Eff.by (State.causeItem_eff ..))
    | split
    | (intro _)
    | (dsimp only)

theorem State.settleCloses_eff (s : State) :
    Eff 16778181 s (State.settleCloses s) := by
  unfold State.settleCloses
  try dsimp only
  repeat' first
    | (with_reducible apply Eff.refl)
    | (with_reducible assumption)
    | decide
    | (with_reducible apply Eff.ite)
    | (with_reducible apply Eff.foldl)
    | (with_reducible apply Eff.by (State.finish_eff ..))
    | split
    | (intro _)
    | (dsimp only)

theorem State.settleStops_eff (s : State) :
    Eff 16778181 s (State.settleStops s) := by
  unfold State.settleStops
  try dsimp only
  repeat' first
    | (with_reducible apply Eff.refl)
    | (with_reducible assumption)
    | decide
    | (with_reducible apply Eff.ite)
    | (with_reducible apply Eff.foldl)
    | (with_reducible apply Eff.by (State.finish_eff ..))
    | (with_reducible apply Eff.by (State.modTenants_eff ..))
    | split
    | (intro _)
    | (dsimp only)

theorem State.settleEnding_eff (s : State) :
    Eff 16778181 s (State.settleEnding s) := by
  unfold State.settleEnding
  try dsimp only
  repeat' first
    | (with_reducible apply Eff.refl)
    | (with_reducible assumption)
    | decide
    | (with_reducible apply Eff.ite)
    | (with_reducible apply Eff.foldl)
    | (with_reducible apply Eff.by (State.finish_eff ..))
    | split
    | (intro _)
    | (dsimp only)

theorem State.settleWaits_eff (s : State) :
    Eff 16778181 s (State.settleWaits s) := by
  unfold State.settleWaits
  try dsimp only
  repeat' first
    | (with_reducible apply Eff.refl)
    | (with_reducible assumption)
    | decide
    | (with_reducible apply Eff.ite)
    | (with_reducible apply Eff.by (State.settleCloses_eff ..))
    | (with_reducible apply Eff.by (State.settleEnding_eff ..))
    | (with_reducible apply Eff.by (State.settleStops_eff ..))
    | split

theorem State.deliverBlock_eff (s : State) (n t block : Nat) :
    Eff 768 s (State.deliverBlock s n t block) := by
  unfold State.deliverBlock
  try dsimp only
  repeat' first
    | (with_reducible apply Eff.refl)
    | (with_reducible assumption)
    | decide
    | (with_reducible apply Eff.ite)
    | (with_reducible apply Eff.by (State.modSess_eff ..))
    | (with_reducible apply Eff.by (State.modTenants_eff ..))
    | (with_reducible apply Eff.by (State.sessEvent_eff ..))
    | split

theorem State.deliverLedger_eff (s : State) (t : Nat) :
    Eff 768 s (State.deliverLedger s t) := by
  unfold State.deliverLedger
  try dsimp only
  repeat' first
    | (with_reducible apply Eff.refl)
    | (with_reducible assumption)
    | decide
    | (with_reducible apply Eff.ite)
    | (with_reducible apply Eff.foldl)
    | (with_reducible apply Eff.by (State.deliverBlock_eff ..))
    | split
    | (intro _)
    | (dsimp only)

theorem State.freeBlock_eff (s : State) (t block : Nat) :
    Eff 8389120 s (State.freeBlock s t block) := by
  unfold State.freeBlock
  try dsimp only
  repeat' first
    | (with_reducible apply Eff.refl)
    | (with_reducible assumption)
    | decide
    | (with_reducible apply Eff.ite)
    | (with_reducible apply Eff.by (State.modMem_eff ..))
    | (with_reducible apply Eff.by (State.modTenants_eff ..))
    | split

theorem State.dropLedger_eff (s : State) (t : Nat) :
    Eff 8389120 s (State.dropLedger s t) := by
  unfold State.dropLedger
  try dsimp only
  repeat' first
    | (with_reducible apply Eff.refl)
    | (with_reducible assumption)
    | decide
    | (with_reducible apply Eff.ite)
    | (with_reducible apply Eff.foldl)
    | (with_reducible apply Eff.by (State.freeBlock_eff ..))
    | (with_reducible apply Eff.by (State.modTenants_eff ..))
    | split
    | (intro _)
    | (dsimp only)

theorem State.nqSend_eff (s : State) (to_ typ : Nat) (body : Bytes) :
    Eff 131072 s (State.nqSend s to_ typ body) := by
  unfold State.nqSend
  try dsimp only
  repeat' first
    | (with_reducible apply Eff.refl)
    | (with_reducible assumption)
    | decide
    | (with_reducible apply Eff.ite)
    | (with_reducible apply Eff.by (State.emit_eff ..))
    | (with_reducible apply Eff.by (State.modColl_eff ..))
    | split

theorem State.lockTell_eff (s : State) (n : Nat) :
    Eff 131072 s (State.lockTell s n) := by
  unfold State.lockTell
  try dsimp only
  repeat' first
    | (with_reducible apply Eff.refl)
    | (with_reducible assumption)
    | decide
    | (with_reducible apply Eff.ite)
    | (with_reducible apply Eff.foldl)
    | (with_reducible apply Eff.by (State.nqSend_eff ..))
    | split
    | (intro _)
    | (dsimp only)

theorem State.freeLocks_eff (s : State) (n : Nat) (broken : Bool) :
    Eff 131328 s (State.freeLocks s n broken) := by
  unfold State.freeLocks
  try dsimp only
  repeat' first
    | (with_reducible apply Eff.refl)
    | (with_reducible assumption)
    | decide
    | (with_reducible apply Eff.ite)
    | (with_reducible apply Eff.foldl)
    | (with_reducible apply Eff.by (State.collEvent_eff ..))
    | (with_reducible apply Eff.by (State.lockTell_eff ..))
    | (with_reducible apply Eff.by (State.modColl_eff ..))
    | (with_reducible apply Eff.by (State.setLock_eff ..))
    | split
    | (intro _)
    | (dsimp only)

theorem State.dropFrames_eff (s : State) (n : Nat) :
    Eff 32768 s (State.dropFrames s n) := by
  unfold State.dropFrames
  try dsimp only
  repeat' first
    | (with_reducible apply Eff.refl)
    | (with_reducible assumption)
    | decide
    | (with_reducible apply Eff.ite)
    | (with_reducible apply Eff.foldl)
    | (with_reducible apply Eff.by (State.modUpl_eff ..))
    | (with_reducible apply Eff.by (State.setLink_eff ..))
    | split
    | (intro _)
    | (dsimp only)

theorem State.endCause_eff (s : State) (det : Nat) (k : Nat) :
    Eff 193 s (State.endCause s det k) := by
  unfold State.endCause
  try dsimp only
  repeat' first
    | (with_reducible apply Eff.refl)
    | (with_reducible assumption)
    | decide
    | (with_reducible apply Eff.ite)
    | (with_reducible apply Eff.by (State.giveUpSplit_eff ..))
    | (with_reducible apply Eff.by (State.modItems_eff ..))
    | split

theorem State.endSession_eff (s : State) (n det reason : Nat) (loss broken : Bool) :
    Eff 16942021 s (State.endSession s n det reason loss broken) := by
  unfold State.endSession
  try dsimp only
  repeat' first
    | (with_reducible apply Eff.refl)
    | (with_reducible assumption)
    | decide
    | (with_reducible apply Eff.ite)
    | (with_reducible apply Eff.foldl)
    | (with_reducible apply Eff.by (State.dropFrames_eff ..))
    | (with_reducible apply Eff.by (State.endCause_eff ..))
    | (with_reducible apply Eff.by (State.freeLocks_eff ..))
    | (with_reducible apply Eff.by (State.modSess_eff ..))
    | (with_reducible apply Eff.by (State.settleWaits_eff ..))
    | (with_reducible apply Eff.by (State.toLedger_eff ..))
    | split
    | (intro _)
    | (dsimp only)

theorem State.renewHouse_eff (s : State) (t : Nat) :
    Eff 512 s (State.renewHouse s t) := by
  unfold State.renewHouse
  try dsimp only
  repeat' first
    | (with_reducible apply Eff.refl)
    | (with_reducible assumption)
    | decide
    | (with_reducible apply Eff.ite)
    | (with_reducible apply Eff.by (State.modTenants_eff ..))
    | split

theorem State.closeSession_eff (s : State) (n : Nat) :
    Eff 8389376 s (State.closeSession s n) := by
  unfold State.closeSession
  try dsimp only
  repeat' first
    | (with_reducible apply Eff.refl)
    | (with_reducible assumption)
    | decide
    | (with_reducible apply Eff.ite)
    | (with_reducible apply Eff.by (State.deliverLedger_eff ..))
    | (with_reducible apply Eff.by (State.modMem_eff ..))
    | (with_reducible apply Eff.by (State.modSess_eff ..))
    | (with_reducible apply Eff.by (State.modTenants_eff ..))
    | (with_reducible apply Eff.by (State.renewHouse_eff ..))
    | split

end Sys2Proof.Machine
end

