-- ==== Sys2Proof/Laws/EffOperands.lean ====
section
/-!
SUPPORT. What the operations of Machine/Operands.lean may do to the state: one lemma for each (Laws/Effects.lean).
-/
set_option linter.unreachableTactic false
set_option linter.unusedTactic false

namespace Sys2Proof.Machine

theorem State.gap_eff (s : State) (n : Nat) :
    Eff 768 s (State.gap s n) := by
  unfold State.gap
  try dsimp only
  repeat' first
    | (with_reducible apply Eff.refl)
    | (with_reducible assumption)
    | decide
    | (with_reducible apply Eff.ite)
    | (with_reducible apply Eff.by (State.modSess_eff ..))
    | (with_reducible apply Eff.by (State.modTenants_eff ..))
    | (with_reducible apply Eff.by (State.sessEvent_eff ..))
    | split

theorem State.takeRec_eff {m : Nat} (hm : Covers 16778181 m) (s : State) (op : Nat) (r : Rec) (served start unknown : Bool) (minLen : Nat)
    (run : State → Nat → Item → State)
    (hrun : ∀ x0 x1 x2, Eff m x0 (run x0 x1 x2)) :
    Eff m s (State.takeRec s op r served start unknown minLen run) := by
  unfold State.takeRec
  try dsimp only
  repeat' first
    | (with_reducible apply Eff.refl)
    | (with_reducible assumption)
    | exact hm
    | exact Covers.trans (by decide) hm
    | exact Covers.refl _
    | decide
    | (with_reducible apply Eff.ite)
    | (with_reducible apply Eff.by (hrun ..))
    | (with_reducible apply Eff.by (State.finish_eff ..))
    | (with_reducible apply Eff.by (State.gap_eff ..))
    | (with_reducible apply Eff.by (State.modSess_eff ..))
    | (with_reducible apply Eff.by (State.setItems_eff ..))
    | split
    | (intro _)
    | (dsimp only)

end Sys2Proof.Machine
end

