-- ==== Sys2Proof/Laws/EffPipes.lean ====
section
/-!
SUPPORT. What the operations of Machine/Pipes.lean may do to the state: one lemma for each (Laws/Effects.lean).
-/
set_option linter.unreachableTactic false
set_option linter.unusedTactic false

namespace Sys2Proof.Machine

theorem State.modGroup_eff (s : State) (n : Nat) (f : Pipe → Pipe) :
    Eff 64 s (State.modGroup s n f) := by
  unfold State.modGroup
  try dsimp only
  repeat' first
    | (with_reducible apply Eff.refl)
    | (with_reducible assumption)
    | decide
    | (with_reducible apply Eff.ite)
    | (with_reducible apply Eff.foldl)
    | (with_reducible apply Eff.by (State.modPipes_eff ..))
    | split
    | (intro _)
    | (dsimp only)

theorem State.resyncEvent_eff (s : State) (n word : Nat) :
    Eff 256 s (State.resyncEvent s n word) := by
  unfold State.resyncEvent
  try dsimp only
  repeat' first
    | (with_reducible apply Eff.refl)
    | (with_reducible assumption)
    | decide
    | (with_reducible apply Eff.ite)
    | (with_reducible apply Eff.by (State.portEvent_eff ..))
    | split

theorem State.resync_eff (s : State) (n v : Nat) :
    Eff 320 s (State.resync s n v) := by
  unfold State.resync
  try dsimp only
  repeat' first
    | (with_reducible apply Eff.refl)
    | (with_reducible assumption)
    | decide
    | (with_reducible apply Eff.ite)
    | (with_reducible apply Eff.by (State.modGroup_eff ..))
    | (with_reducible apply Eff.by (State.modPipes_eff ..))
    | (with_reducible apply Eff.by (State.resyncEvent_eff ..))
    | split

theorem State.closing_eff (s : State) (out det n : Nat) :
    Eff 16778181 s (State.closing s out det n) := by
  unfold State.closing
  try dsimp only
  repeat' first
    | (with_reducible apply Eff.refl)
    | (with_reducible assumption)
    | decide
    | (with_reducible apply Eff.ite)
    | (with_reducible apply Eff.by (State.causeItems_eff ..))
    | (with_reducible apply Eff.by (State.modGroup_eff ..))
    | split

theorem State.closeAll_eff (s : State) (out det : Nat) (ns : List Nat) :
    Eff 16778181 s (State.closeAll s out det ns) := by
  unfold State.closeAll
  try dsimp only
  repeat' first
    | (with_reducible apply Eff.refl)
    | (with_reducible assumption)
    | decide
    | (with_reducible apply Eff.ite)
    | (with_reducible apply Eff.foldl)
    | (with_reducible apply Eff.by (State.closing_eff ..))
    | split
    | (intro _)
    | (dsimp only)

theorem State.freePipe_eff (s : State) (n : Nat) :
    Eff 64 s (State.freePipe s n) := by
  unfold State.freePipe
  try dsimp only
  repeat' first
    | (with_reducible apply Eff.refl)
    | (with_reducible assumption)
    | decide
    | (with_reducible apply Eff.ite)
    | (with_reducible apply Eff.foldl)
    | (with_reducible apply Eff.by (State.setPipes_eff ..))
    | split
    | (intro _)
    | (dsimp only)

theorem State.writePipe_eff (s : State) (ctxs : List Nat) (x : Pipe) :
    Eff 64 s (State.writePipe s ctxs x) := by
  unfold State.writePipe
  try dsimp only
  repeat' first
    | (with_reducible apply Eff.refl)
    | (with_reducible assumption)
    | decide
    | (with_reducible apply Eff.ite)
    | (with_reducible apply Eff.foldl)
    | (with_reducible apply Eff.by (State.setPipes_eff ..))
    | split
    | (intro _)
    | (dsimp only)

theorem State.storeFull_eff (s : State) :
    Eff 1059072 s (State.storeFull s) := by
  unfold State.storeFull
  try dsimp only
  repeat' first
    | (with_reducible apply Eff.refl)
    | (with_reducible assumption)
    | decide
    | (with_reducible apply Eff.ite)
    | (with_reducible apply Eff.by (State.modRegs_eff ..))
    | (with_reducible apply Eff.by (State.note_eff ..))
    | split

theorem State.doPipeOpen_eff (s : State) (k : Nat) (i : Item) :
    Eff 17836997 s (State.doPipeOpen s k i) := by
  unfold State.doPipeOpen
  try dsimp only
  repeat' first
    | (with_reducible apply Eff.refl)
    | (with_reducible assumption)
    | decide
    | (with_reducible apply Eff.ite)
    | (with_reducible apply Eff.by (State.finish_eff ..))
    | (with_reducible apply Eff.by (State.finishB_eff ..))
    | (with_reducible apply Eff.by (State.modTenants_eff ..))
    | (with_reducible apply Eff.by (State.storeFull_eff ..))
    | (with_reducible apply Eff.by (State.writePipe_eff ..))
    | split

theorem State.doPipeClose_eff (s : State) (k : Nat) (i : Item) :
    Eff 16778181 s (State.doPipeClose s k i) := by
  unfold State.doPipeClose
  try dsimp only
  repeat' first
    | (with_reducible apply Eff.refl)
    | (with_reducible assumption)
    | decide
    | (with_reducible apply Eff.ite)
    | (with_reducible apply Eff.by (State.closing_eff ..))
    | (with_reducible apply Eff.by (State.finish_eff ..))
    | (with_reducible apply Eff.by (State.modItems_eff ..))
    | split

theorem State.doPipeAbort_eff (s : State) (k : Nat) (i : Item) :
    Eff 16778181 s (State.doPipeAbort s k i) := by
  unfold State.doPipeAbort
  try dsimp only
  repeat' first
    | (with_reducible apply Eff.refl)
    | (with_reducible assumption)
    | decide
    | (with_reducible apply Eff.ite)
    | (with_reducible apply Eff.by (State.causeItems_eff ..))
    | (with_reducible apply Eff.by (State.finish_eff ..))
    | (with_reducible apply Eff.by (State.modItems_eff ..))
    | split

theorem State.doPipeResync_eff (s : State) (k : Nat) (i : Item) :
    Eff 16778181 s (State.doPipeResync s k i) := by
  unfold State.doPipeResync
  try dsimp only
  repeat' first
    | (with_reducible apply Eff.refl)
    | (with_reducible assumption)
    | decide
    | (with_reducible apply Eff.ite)
    | (with_reducible apply Eff.by (State.finish_eff ..))
    | (with_reducible apply Eff.by (State.modItems_eff ..))
    | (with_reducible apply Eff.by (State.resync_eff ..))
    | split

theorem State.doTransfer_eff (s : State) (k : Nat) (i : Item) :
    Eff 16778181 s (State.doTransfer s k i) := by
  unfold State.doTransfer
  try dsimp only
  repeat' first
    | (with_reducible apply Eff.refl)
    | (with_reducible assumption)
    | decide
    | (with_reducible apply Eff.ite)
    | (with_reducible apply Eff.by (State.finish_eff ..))
    | (with_reducible apply Eff.by (State.finishB_eff ..))
    | (with_reducible apply Eff.by (State.modPipes_eff ..))
    | (with_reducible apply Eff.by (State.setItems_eff ..))
    | split

theorem State.doOutData_eff (s : State) (r : Rec) :
    Eff 16778181 s (State.doOutData s r) := by
  unfold State.doOutData
  try dsimp only
  repeat' first
    | (with_reducible apply Eff.refl)
    | (with_reducible assumption)
    | decide
    | (with_reducible apply Eff.ite)
    | (with_reducible apply Eff.by (State.causeItem_eff ..))
    | (with_reducible apply Eff.by (State.modItems_eff ..))
    | split

end Sys2Proof.Machine
end

