-- ==== Sys2Proof/Laws/EffXact.lean ====
section
/-!
SUPPORT. What the operations of Machine/Xact.lean may do to the state: one lemma for each (Laws/Effects.lean).
-/
set_option linter.unreachableTactic false
set_option linter.unusedTactic false

namespace Sys2Proof.Machine

theorem State.levels_eff (s : State) (p : Nat) :
    Eff 8388880 s (State.levels s p) := by
  unfold State.levels
  try dsimp only
  repeat' first
    | (with_reducible apply Eff.refl)
    | (with_reducible assumption)
    | decide
    | (with_reducible apply Eff.ite)
    | (with_reducible apply Eff.by (State.memEvent_eff ..))
    | (with_reducible apply Eff.by (State.modFifo_eff ..))
    | (with_reducible apply Eff.by (State.modMem_eff ..))
    | split

theorem State.npTake_eff (s : State) (p n : Nat) :
    Eff 32 s (State.npTake s p n) := by
  unfold State.npTake
  try dsimp only
  repeat' first
    | (with_reducible apply Eff.refl)
    | (with_reducible assumption)
    | decide
    | (with_reducible apply Eff.ite)
    | (with_reducible apply Eff.by (State.modGals_eff ..))
    | split

theorem State.npWait_eff (s : State) (p n : Nat) :
    Eff 32 s (State.npWait s p n) := by
  unfold State.npWait
  try dsimp only
  repeat' first
    | (with_reducible apply Eff.refl)
    | (with_reducible assumption)
    | decide
    | (with_reducible apply Eff.ite)
    | (with_reducible apply Eff.by (State.modGals_eff ..))
    | split

theorem State.npGive_eff (s : State) (p n : Nat) :
    Eff 32 s (State.npGive s p n) := by
  unfold State.npGive
  try dsimp only
  repeat' first
    | (with_reducible apply Eff.refl)
    | (with_reducible assumption)
    | decide
    | (with_reducible apply Eff.ite)
    | (with_reducible apply Eff.by (State.modGals_eff ..))
    | split

theorem State.advance_eff (s : State) (n k : Nat) :
    Eff 64 s (State.advance s n k) := by
  unfold State.advance
  try dsimp only
  repeat' first
    | (with_reducible apply Eff.refl)
    | (with_reducible assumption)
    | decide
    | (with_reducible apply Eff.ite)
    | (with_reducible apply Eff.by (State.modPipes_eff ..))
    | split

theorem State.bump_eff (s : State) (n k : Nat) :
    Eff 65 s (State.bump s n k) := by
  unfold State.bump
  try dsimp only
  repeat' first
    | (with_reducible apply Eff.refl)
    | (with_reducible assumption)
    | decide
    | (with_reducible apply Eff.ite)
    | (with_reducible apply Eff.by (State.modPipes_eff ..))
    | (with_reducible apply Eff.by (State.modUsb_eff ..))
    | split

theorem State.repaired_eff (s : State) (n : Nat) :
    Eff 65 s (State.repaired s n) := by
  unfold State.repaired
  try dsimp only
  repeat' first
    | (with_reducible apply Eff.refl)
    | (with_reducible assumption)
    | decide
    | (with_reducible apply Eff.ite)
    | (with_reducible apply Eff.by (State.modPipes_eff ..))
    | (with_reducible apply Eff.by (State.modUsb_eff ..))
    | split

theorem State.spent_eff (s : State) (p : Nat) :
    Eff 1 s (State.spent s p) := by
  unfold State.spent
  try dsimp only
  repeat' first
    | (with_reducible apply Eff.refl)
    | (with_reducible assumption)
    | decide
    | (with_reducible apply Eff.ite)
    | (with_reducible apply Eff.by (State.modUsb_eff ..))
    | split

theorem State.boundary_eff (s : State) (k : Nat) :
    Eff 16778181 s (State.boundary s k) := by
  unfold State.boundary
  try dsimp only
  repeat' first
    | (with_reducible apply Eff.refl)
    | (with_reducible assumption)
    | decide
    | (with_reducible apply Eff.ite)
    | (with_reducible apply Eff.by (State.finish_eff ..))
    | split

theorem State.served_eff (s : State) (n : Nat) :
    Eff 64 s (State.served s n) := by
  unfold State.served
  try dsimp only
  repeat' first
    | (with_reducible apply Eff.refl)
    | (with_reducible assumption)
    | decide
    | (with_reducible apply Eff.ite)
    | (with_reducible apply Eff.by (State.modPipes_eff ..))
    | split

theorem State.serviceOver_eff (s : State) (n : Nat) (short : Bool) :
    Eff 64 s (State.serviceOver s n short) := by
  unfold State.serviceOver
  try dsimp only
  repeat' first
    | (with_reducible apply Eff.refl)
    | (with_reducible assumption)
    | decide
    | (with_reducible apply Eff.ite)
    | (with_reducible apply Eff.by (State.served_eff ..))
    | split

theorem State.isoPacket_eff (s : State) (k out bytes : Nat) :
    Eff 16778181 s (State.isoPacket s k out bytes) := by
  unfold State.isoPacket
  try dsimp only
  repeat' first
    | (with_reducible apply Eff.refl)
    | (with_reducible assumption)
    | decide
    | (with_reducible apply Eff.ite)
    | (with_reducible apply Eff.by (State.finishB_eff ..))
    | (with_reducible apply Eff.by (State.modItems_eff ..))
    | split

theorem State.inArrived_eff (s : State) (k p : Nat) (d : Bytes) :
    Eff 8389008 s (State.inArrived s k p d) := by
  unfold State.inArrived
  try dsimp only
  repeat' first
    | (with_reducible apply Eff.refl)
    | (with_reducible assumption)
    | decide
    | (with_reducible apply Eff.ite)
    | (with_reducible apply Eff.by (State.levels_eff ..))
    | (with_reducible apply Eff.by (State.modItems_eff ..))
    | (with_reducible apply Eff.by (State.modSess_eff ..))
    | split

theorem State.readMap_eff (s : State) (p a v : Nat) :
    Eff 1 s (State.readMap s p a v) := by
  unfold State.readMap
  try dsimp only
  repeat' first
    | (with_reducible apply Eff.refl)
    | (with_reducible assumption)
    | decide
    | (with_reducible apply Eff.ite)
    | (with_reducible apply Eff.by (State.ask_eff ..))
    | (with_reducible apply Eff.by (State.modUsb_eff ..))
    | split

theorem State.modDevice_eff (s : State) (p a : Nat) (f : Device → Device) :
    Eff 1 s (State.modDevice s p a f) := by
  unfold State.modDevice
  try dsimp only
  repeat' first
    | (with_reducible apply Eff.refl)
    | (with_reducible assumption)
    | decide
    | (with_reducible apply Eff.ite)
    | (with_reducible apply Eff.by (State.modUsb_eff ..))
    | split

theorem State.statusDone_eff (s : State) (p a : Nat) (rq : Bytes) :
    Eff 321 s (State.statusDone s p a rq) := by
  unfold State.statusDone
  try dsimp only
  repeat' first
    | (with_reducible apply Eff.refl)
    | (with_reducible assumption)
    | decide
    | (with_reducible apply Eff.ite)
    | (with_reducible apply Eff.foldl)
    | (with_reducible apply Eff.by (State.modDevice_eff ..))
    | (with_reducible apply Eff.by (State.readMap_eff ..))
    | (with_reducible apply Eff.by (State.resync_eff ..))
    | split
    | (intro _)
    | (dsimp only)

theorem State.itemMoved_eff (s : State) (n b : Nat) :
    Eff 64 s (State.itemMoved s n b) := by
  unfold State.itemMoved
  try dsimp only
  repeat' first
    | (with_reducible apply Eff.refl)
    | (with_reducible assumption)
    | decide
    | (with_reducible apply Eff.ite)
    | (with_reducible apply Eff.by (State.modPipes_eff ..))
    | split

theorem State.controlAck_eff (s : State) (n k : Nat) (i : Item) (b : Nat) :
    Eff 16778181 s (State.controlAck s n k i b) := by
  unfold State.controlAck
  try dsimp only
  repeat' first
    | (with_reducible apply Eff.refl)
    | (with_reducible assumption)
    | decide
    | (with_reducible apply Eff.ite)
    | (with_reducible apply Eff.by (State.advance_eff ..))
    | (with_reducible apply Eff.by (State.finish_eff ..))
    | (with_reducible apply Eff.by (State.itemMoved_eff ..))
    | (with_reducible apply Eff.by (State.modItems_eff ..))
    | (with_reducible apply Eff.by (State.modPipes_eff ..))
    | (with_reducible apply Eff.by (State.statusDone_eff ..))
    | split

theorem State.outAck_eff (s : State) (n k : Nat) (b : Nat) :
    Eff 16778181 s (State.outAck s n k b) := by
  unfold State.outAck
  try dsimp only
  repeat' first
    | (with_reducible apply Eff.refl)
    | (with_reducible assumption)
    | decide
    | (with_reducible apply Eff.ite)
    | (with_reducible apply Eff.by (State.advance_eff ..))
    | (with_reducible apply Eff.by (State.bump_eff ..))
    | (with_reducible apply Eff.by (State.finish_eff ..))
    | (with_reducible apply Eff.by (State.itemMoved_eff ..))
    | (with_reducible apply Eff.by (State.modItems_eff ..))
    | (with_reducible apply Eff.by (State.modPipes_eff ..))
    | (with_reducible apply Eff.by (State.serviceOver_eff ..))
    | split

theorem State.inAck_eff (s : State) (n k : Nat) (d : Bytes) :
    Eff 25166805 s (State.inAck s n k d) := by
  unfold State.inAck
  try dsimp only
  repeat' first
    | (with_reducible apply Eff.refl)
    | (with_reducible assumption)
    | decide
    | (with_reducible apply Eff.ite)
    | (with_reducible apply Eff.by (State.advance_eff ..))
    | (with_reducible apply Eff.by (State.bump_eff ..))
    | (with_reducible apply Eff.by (State.finish_eff ..))
    | (with_reducible apply Eff.by (State.inArrived_eff ..))
    | (with_reducible apply Eff.by (State.itemMoved_eff ..))
    | (with_reducible apply Eff.by (State.modItems_eff ..))
    | (with_reducible apply Eff.by (State.modPipes_eff ..))
    | (with_reducible apply Eff.by (State.serviceOver_eff ..))
    | split

theorem State.halt_eff (s : State) (n : Nat) (budget : Bool) :
    Eff 64 s (State.halt s n budget) := by
  unfold State.halt
  try dsimp only
  repeat' first
    | (with_reducible apply Eff.refl)
    | (with_reducible assumption)
    | decide
    | (with_reducible apply Eff.ite)
    | (with_reducible apply Eff.by (State.modGroup_eff ..))
    | split

theorem State.xactError_eff (s : State) (n k : Nat) (i : Item) :
    Eff 16778181 s (State.xactError s n k i) := by
  unfold State.xactError
  try dsimp only
  repeat' first
    | (with_reducible apply Eff.refl)
    | (with_reducible assumption)
    | decide
    | (with_reducible apply Eff.ite)
    | (with_reducible apply Eff.by (State.boundary_eff ..))
    | (with_reducible apply Eff.by (State.clearTt_eff ..))
    | (with_reducible apply Eff.by (State.finish_eff ..))
    | (with_reducible apply Eff.by (State.halt_eff ..))
    | (with_reducible apply Eff.by (State.isoPacket_eff ..))
    | (with_reducible apply Eff.by (State.modPipes_eff ..))
    | (with_reducible apply Eff.by (State.spent_eff ..))
    | split

theorem State.xactStall_eff (s : State) (n k : Nat) :
    Eff 16778181 s (State.xactStall s n k) := by
  unfold State.xactStall
  try dsimp only
  repeat' first
    | (with_reducible apply Eff.refl)
    | (with_reducible assumption)
    | decide
    | (with_reducible apply Eff.ite)
    | (with_reducible apply Eff.by (State.finish_eff ..))
    | (with_reducible apply Eff.by (State.halt_eff ..))
    | split

theorem State.xactWait_eff (s : State) (n : Nat) (nrdy : Bool) :
    Eff 64 s (State.xactWait s n nrdy) := by
  unfold State.xactWait
  try dsimp only
  repeat' first
    | (with_reducible apply Eff.refl)
    | (with_reducible assumption)
    | decide
    | (with_reducible apply Eff.ite)
    | (with_reducible apply Eff.by (State.modPipes_eff ..))
    | (with_reducible apply Eff.by (State.served_eff ..))
    | split

theorem State.streamMove_eff (s : State) (n stream : Nat) :
    Eff 64 s (State.streamMove s n stream) := by
  unfold State.streamMove
  try dsimp only
  repeat' first
    | (with_reducible apply Eff.refl)
    | (with_reducible assumption)
    | decide
    | (with_reducible apply Eff.ite)
    | (with_reducible apply Eff.by (State.emit_eff ..))
    | (with_reducible apply Eff.by (State.modPipes_eff ..))
    | split

theorem State.xactResult_eff (s : State) (n k : Nat) (i : Item) (b : Nat) (r : XactRes) :
    Eff 25166807 s (State.xactResult s n k i b r) := by
  unfold State.xactResult
  try dsimp only
  repeat' first
    | (with_reducible apply Eff.refl)
    | (with_reducible assumption)
    | decide
    | (with_reducible apply Eff.ite)
    | (with_reducible apply Eff.by (State.accepted_eff ..))
    | (with_reducible apply Eff.by (State.controlAck_eff ..))
    | (with_reducible apply Eff.by (State.finish_eff ..))
    | (with_reducible apply Eff.by (State.inAck_eff ..))
    | (with_reducible apply Eff.by (State.inArrived_eff ..))
    | (with_reducible apply Eff.by (State.isoPacket_eff ..))
    | (with_reducible apply Eff.by (State.itemMoved_eff ..))
    | (with_reducible apply Eff.by (State.modItems_eff ..))
    | (with_reducible apply Eff.by (State.modPipes_eff ..))
    | (with_reducible apply Eff.by (State.outAck_eff ..))
    | (with_reducible apply Eff.by (State.repaired_eff ..))
    | (with_reducible apply Eff.by (State.served_eff ..))
    | (with_reducible apply Eff.by (State.statusDone_eff ..))
    | (with_reducible apply Eff.by (State.streamMove_eff ..))
    | (with_reducible apply Eff.by (State.xactError_eff ..))
    | (with_reducible apply Eff.by (State.xactStall_eff ..))
    | (with_reducible apply Eff.by (State.xactWait_eff ..))
    | split

theorem State.hubPolled_eff (s : State) (n : Nat) (r : XactRes) :
    Eff 65 s (State.hubPolled s n r) := by
  unfold State.hubPolled
  try dsimp only
  repeat' first
    | (with_reducible apply Eff.refl)
    | (with_reducible assumption)
    | decide
    | (with_reducible apply Eff.ite)
    | (with_reducible apply Eff.by (State.advance_eff ..))
    | (with_reducible apply Eff.by (State.modPipes_eff ..))
    | (with_reducible apply Eff.by (State.repaired_eff ..))
    | (with_reducible apply Eff.by (State.served_eff ..))
    | (with_reducible apply Eff.by (State.spent_eff ..))
    | (with_reducible apply Eff.by (State.xactWait_eff ..))
    | split

theorem State.xactOver_eff (s : State) (n : Nat) (r : XactRes) :
    Eff 25166839 s (State.xactOver s n r) := by
  unfold State.xactOver
  try dsimp only
  repeat' first
    | (with_reducible apply Eff.refl)
    | (with_reducible assumption)
    | decide
    | (with_reducible apply Eff.ite)
    | (with_reducible apply Eff.by (State.boundary_eff ..))
    | (with_reducible apply Eff.by (State.hubPolled_eff ..))
    | (with_reducible apply Eff.by (State.modPipes_eff ..))
    | (with_reducible apply Eff.by (State.modUsb_eff ..))
    | (with_reducible apply Eff.by (State.npGive_eff ..))
    | (with_reducible apply Eff.by (State.takeResync_eff ..))
    | (with_reducible apply Eff.by (State.xactResult_eff ..))
    | split

end Sys2Proof.Machine
end

