-- ==== Sys2Proof/Laws/EffSchedule.lean ====
section
/-!
SUPPORT. What the operations of Machine/Schedule.lean may do to the state: one lemma for each (Laws/Effects.lean).
-/
set_option linter.unreachableTactic false
set_option linter.unusedTactic false

namespace Sys2Proof.Machine

theorem State.takeSlot_eff (s : State) (p : Nat) (periodic : Bool) :
    Eff 33 s (State.takeSlot s p periodic) := by
  unfold State.takeSlot
  try dsimp only
  repeat' first
    | (with_reducible apply Eff.refl)
    | (with_reducible assumption)
    | decide
    | (with_reducible apply Eff.ite)
    | (with_reducible apply Eff.by (State.modGals_eff ..))
    | (with_reducible apply Eff.by (State.modUsb_eff ..))
    | split

theorem State.useBus_eff (s : State) (n st b : Nat) :
    Eff 33 s (State.useBus s n st b) := by
  unfold State.useBus
  try dsimp only
  repeat' first
    | (with_reducible apply Eff.refl)
    | (with_reducible assumption)
    | decide
    | (with_reducible apply Eff.ite)
    | (with_reducible apply Eff.by (State.emit_eff ..))
    | (with_reducible apply Eff.by (State.modUsb_eff ..))
    | (with_reducible apply Eff.by (State.takeSlot_eff ..))
    | split

theorem State.startXact_eff (s : State) (n st b : Nat) :
    Eff 97 s (State.startXact s n st b) := by
  unfold State.startXact
  try dsimp only
  repeat' first
    | (with_reducible apply Eff.refl)
    | (with_reducible assumption)
    | decide
    | (with_reducible apply Eff.ite)
    | (with_reducible apply Eff.by (State.modPipes_eff ..))
    | (with_reducible apply Eff.by (State.modUsb_eff ..))
    | (with_reducible apply Eff.by (State.npTake_eff ..))
    | (with_reducible apply Eff.by (State.useBus_eff ..))
    | split

theorem State.sendAsk_eff (s : State) (p : Nat) :
    Eff 97 s (State.sendAsk s p) := by
  unfold State.sendAsk
  try dsimp only
  repeat' first
    | (with_reducible apply Eff.refl)
    | (with_reducible assumption)
    | decide
    | (with_reducible apply Eff.ite)
    | (with_reducible apply Eff.by (State.emit_eff ..))
    | (with_reducible apply Eff.by (State.modUsb_eff ..))
    | (with_reducible apply Eff.by (State.npTake_eff ..))
    | (with_reducible apply Eff.by (State.setPipes_eff ..))
    | split

theorem State.issue_eff (s : State) (p n st b : Nat) :
    Eff 25166839 s (State.issue s p n st b) := by
  unfold State.issue
  try dsimp only
  repeat' first
    | (with_reducible apply Eff.refl)
    | (with_reducible assumption)
    | decide
    | (with_reducible apply Eff.ite)
    | (with_reducible apply Eff.by (State.modPipes_eff ..))
    | (with_reducible apply Eff.by (State.sendAsk_eff ..))
    | (with_reducible apply Eff.by (State.startXact_eff ..))
    | (with_reducible apply Eff.by (State.useBus_eff ..))
    | (with_reducible apply Eff.by (State.xactOver_eff ..))
    | split

theorem State.schedule_eff (s : State) (p f : Nat) : Eff 25166839 s (s.schedule p f) := by
  induction f generalizing s with
  | zero => exact Eff.refl _ _
  | succ f ih =>
    rw [State.schedule]
    split
    · exact Eff.refl _ _
    · dsimp only
      split
      · refine Eff.foldl (fun s r => ?_) (Eff.refl _ _)
        split
        · exact Eff.by (State.npWait_eff ..) (by decide) (Eff.refl _ _)
        · exact Eff.refl _ _
      · exact Eff.trans (Eff.by (State.issue_eff ..) (by decide) (Eff.refl _ _)) (ih _)

theorem State.serve_eff (s : State) (p : Nat) :
    Eff 25166839 s (State.serve s p) := by
  unfold State.serve
  try dsimp only
  repeat' first
    | (with_reducible apply Eff.refl)
    | (with_reducible assumption)
    | decide
    | (with_reducible apply Eff.ite)
    | (with_reducible apply Eff.foldl)
    | (with_reducible apply Eff.by (State.schedule_eff ..))
    | split
    | (intro _)
    | (dsimp only)

theorem State.xactDone_eff (s : State) (n : Nat) (r : XactRes) :
    Eff 25166839 s (State.xactDone s n r) := by
  unfold State.xactDone
  try dsimp only
  repeat' first
    | (with_reducible apply Eff.refl)
    | (with_reducible assumption)
    | decide
    | (with_reducible apply Eff.ite)
    | (with_reducible apply Eff.by (State.modPipes_eff ..))
    | (with_reducible apply Eff.by (State.serve_eff ..))
    | (with_reducible apply Eff.by (State.xactOver_eff ..))
    | split

theorem State.askDone_eff (s : State) (p kind : Nat) :
    Eff 97 s (State.askDone s p kind) := by
  unfold State.askDone
  try dsimp only
  repeat' first
    | (with_reducible apply Eff.refl)
    | (with_reducible assumption)
    | decide
    | (with_reducible apply Eff.ite)
    | (with_reducible apply Eff.by (State.modPipes_eff ..))
    | (with_reducible apply Eff.by (State.modUsb_eff ..))
    | (with_reducible apply Eff.by (State.npGive_eff ..))
    | (with_reducible apply Eff.by (State.setPipes_eff ..))
    | split

theorem State.askGone_eff (s : State) (p a : Nat) :
    Eff 97 s (State.askGone s p a) := by
  unfold State.askGone
  try dsimp only
  repeat' first
    | (with_reducible apply Eff.refl)
    | (with_reducible assumption)
    | decide
    | (with_reducible apply Eff.ite)
    | (with_reducible apply Eff.by (State.modPipes_eff ..))
    | (with_reducible apply Eff.by (State.modUsb_eff ..))
    | (with_reducible apply Eff.by (State.npGive_eff ..))
    | (with_reducible apply Eff.by (State.setPipes_eff ..))
    | split

theorem State.dropAsks_eff (s : State) (p : Nat) :
    Eff 97 s (State.dropAsks s p) := by
  unfold State.dropAsks
  try dsimp only
  repeat' first
    | (with_reducible apply Eff.refl)
    | (with_reducible assumption)
    | decide
    | (with_reducible apply Eff.ite)
    | (with_reducible apply Eff.by (State.modUsb_eff ..))
    | (with_reducible apply Eff.by (State.npGive_eff ..))
    | (with_reducible apply Eff.by (State.setPipes_eff ..))
    | split

theorem State.missIso_eff (s : State) (k c f : Nat) : Eff 16778181 s (s.missIso k c f) := by
  induction f generalizing s with
  | zero => exact Eff.refl _ _
  | succ f ih =>
    rw [State.missIso]
    split
    · exact Eff.refl _ _
    · split
      · exact Eff.refl _ _
      · refine Eff.ite ?_ ?_
        · exact Eff.trans (Eff.by (State.isoPacket_eff ..) (by decide) (Eff.refl _ _)) (ih _)
        · exact Eff.refl _ _

theorem State.missAll_eff (s : State) (p c : Nat) :
    Eff 16778181 s (State.missAll s p c) := by
  unfold State.missAll
  try dsimp only
  repeat' first
    | (with_reducible apply Eff.refl)
    | (with_reducible assumption)
    | decide
    | (with_reducible apply Eff.ite)
    | (with_reducible apply Eff.foldl)
    | (with_reducible apply Eff.by (State.missIso_eff ..))
    | split
    | (intro _)
    | (dsimp only)

theorem State.closeServices_eff (s : State) (p c : Nat) :
    Eff 64 s (State.closeServices s p c) := by
  unfold State.closeServices
  try dsimp only
  repeat' first
    | (with_reducible apply Eff.refl)
    | (with_reducible assumption)
    | decide
    | (with_reducible apply Eff.ite)
    | (with_reducible apply Eff.foldl)
    | (with_reducible apply Eff.by (State.modPipes_eff ..))
    | split
    | (intro _)
    | (dsimp only)

theorem State.openMicroframe_eff (s : State) (p : Nat) :
    Eff 25166847 s (State.openMicroframe s p) := by
  unfold State.openMicroframe
  try dsimp only
  repeat' first
    | (with_reducible apply Eff.refl)
    | (with_reducible assumption)
    | decide
    | (with_reducible apply Eff.ite)
    | (with_reducible apply Eff.by (State.closeServices_eff ..))
    | (with_reducible apply Eff.by (State.missAll_eff ..))
    | (with_reducible apply Eff.by (State.modFt_eff ..))
    | (with_reducible apply Eff.by (State.modUsb_eff ..))
    | (with_reducible apply Eff.by (State.serve_eff ..))
    | split

theorem State.erdy_eff (s : State) (n stream : Nat) :
    Eff 25166839 s (State.erdy s n stream) := by
  unfold State.erdy
  try dsimp only
  repeat' first
    | (with_reducible apply Eff.refl)
    | (with_reducible assumption)
    | decide
    | (with_reducible apply Eff.ite)
    | (with_reducible apply Eff.by (State.modPipes_eff ..))
    | (with_reducible apply Eff.by (State.serve_eff ..))
    | (with_reducible apply Eff.by (State.streamMove_eff ..))
    | split

theorem State.mapRead_eff (s : State) (p a : Nat) (map : IfMap) :
    Eff 25175031 s (State.mapRead s p a map) := by
  unfold State.mapRead
  try dsimp only
  repeat' first
    | (with_reducible apply Eff.refl)
    | (with_reducible assumption)
    | decide
    | (with_reducible apply Eff.ite)
    | (with_reducible apply Eff.by (State.askDone_eff ..))
    | (with_reducible apply Eff.by (State.modDevice_eff ..))
    | (with_reducible apply Eff.by (State.modRegs_eff ..))
    | (with_reducible apply Eff.by (State.modUsb_eff ..))
    | (with_reducible apply Eff.by (State.serve_eff ..))
    | split

end Sys2Proof.Machine
end

