-- ==== Sys2Proof/Laws/EffTransport.lean ====
section
/-!
SUPPORT. What the operations of Machine/Transport.lean may do to the state: one lemma for each (Laws/Effects.lean).
-/
set_option linter.unreachableTactic false
set_option linter.unusedTactic false

namespace Sys2Proof.Machine

theorem State.ppsFall_eff (s : State) :
    Eff 65536 s (State.ppsFall s) := by
  unfold State.ppsFall
  try dsimp only
  repeat' first
    | (with_reducible apply Eff.refl)
    | (with_reducible assumption)
    | decide
    | (with_reducible apply Eff.ite)
    | (with_reducible apply Eff.by (State.emit_eff ..))
    | (with_reducible apply Eff.by (State.modPtp_eff ..))
    | split

theorem State.enterHoldover_eff (s : State) :
    Eff 1116416 s (State.enterHoldover s) := by
  unfold State.enterHoldover
  try dsimp only
  repeat' first
    | (with_reducible apply Eff.refl)
    | (with_reducible assumption)
    | decide
    | (with_reducible apply Eff.ite)
    | (with_reducible apply Eff.by (State.ftEvent_eff ..))
    | (with_reducible apply Eff.by (State.modPtp_eff ..))
    | (with_reducible apply Eff.by (State.note_eff ..))
    | (with_reducible apply Eff.by (State.ppsFall_eff ..))
    | split

theorem State.movePtp_eff (s : State) :
    Eff 1149184 s (State.movePtp s) := by
  unfold State.movePtp
  try dsimp only
  repeat' first
    | (with_reducible apply Eff.refl)
    | (with_reducible assumption)
    | decide
    | (with_reducible apply Eff.ite)
    | (with_reducible apply Eff.by (State.enterHoldover_eff ..))
    | (with_reducible apply Eff.by (State.modPtp_eff ..))
    | (with_reducible apply Eff.by (State.modUpl_eff ..))
    | (with_reducible apply Eff.by (State.upEvent_eff ..))
    | split

theorem State.wire_eff (s : State) (m : Nat) (f : OutFrame) :
    Eff 0 s (State.wire s m f) := by
  unfold State.wire
  try dsimp only
  repeat' first
    | (with_reducible apply Eff.refl)
    | (with_reducible assumption)
    | decide
    | (with_reducible apply Eff.ite)
    | (with_reducible apply Eff.by (State.emit_eff ..))
    | split

theorem State.onLink_eff (s : State) (m : Nat) (f : OutFrame) :
    Eff 33024 s (State.onLink s m f) := by
  unfold State.onLink
  try dsimp only
  repeat' first
    | (with_reducible apply Eff.refl)
    | (with_reducible assumption)
    | decide
    | (with_reducible apply Eff.ite)
    | (with_reducible apply Eff.by (State.modSess_eff ..))
    | (with_reducible apply Eff.by (State.modUpl_eff ..))
    | (with_reducible apply Eff.by (State.setLink_eff ..))
    | (with_reducible apply Eff.by (State.wire_eff ..))
    | split

theorem State.queueFrame_eff (s : State) (f : OutFrame) :
    Eff 33024 s (State.queueFrame s f) := by
  unfold State.queueFrame
  try dsimp only
  repeat' first
    | (with_reducible apply Eff.refl)
    | (with_reducible assumption)
    | decide
    | (with_reducible apply Eff.ite)
    | (with_reducible apply Eff.by (State.modUpl_eff ..))
    | (with_reducible apply Eff.by (State.onLink_eff ..))
    | split

theorem State.flushBacklog_eff (k : Nat) (s : State) : Eff 33024 s (State.flushBacklog k s) := by
  induction k generalizing s with
  | zero => exact Eff.refl _ _
  | succ k ih =>
    rw [State.flushBacklog]
    split
    · exact Eff.trans (Eff.by (State.onLink_eff ..) (by decide) (Eff.by (State.modUpl_eff ..) (by decide) (Eff.refl _ _))) (ih _)
    · exact Eff.refl _ _

theorem State.drainLink_eff (m k room : Nat) (s : State) : Eff 32768 s (State.drainLink m k room s) := by
  induction k generalizing s room with
  | zero => exact Eff.refl _ _
  | succ k ih =>
    rw [State.drainLink]
    try dsimp only
    split
    · exact Eff.by (State.setLink_eff ..) (by decide) (Eff.refl _ _)
    · split
      · exact Eff.by (State.setLink_eff ..) (by decide) (Eff.refl _ _)
      · exact Eff.trans (Eff.by (State.wire_eff ..) (by decide) (Eff.by (State.setLink_eff ..) (by decide) (Eff.refl _ _))) (ih _ _)

theorem State.sendFrame_eff (s : State) (n typ seq : Nat) (retx : Bool) (payload : Bytes) :
    Eff 33024 s (State.sendFrame s n typ seq retx payload) := by
  unfold State.sendFrame
  try dsimp only
  repeat' first
    | (with_reducible apply Eff.refl)
    | (with_reducible assumption)
    | decide
    | (with_reducible apply Eff.ite)
    | (with_reducible apply Eff.by (State.modSess_eff ..))
    | (with_reducible apply Eff.by (State.queueFrame_eff ..))
    | split

theorem State.sendRecord_eff (s : State) (n : Nat) (payload : Bytes) :
    Eff 33024 s (State.sendRecord s n payload) := by
  unfold State.sendRecord
  try dsimp only
  repeat' first
    | (with_reducible apply Eff.refl)
    | (with_reducible assumption)
    | decide
    | (with_reducible apply Eff.ite)
    | (with_reducible apply Eff.by (State.modSess_eff ..))
    | (with_reducible apply Eff.by (State.sendFrame_eff ..))
    | split

theorem State.sendClosed_eff (s : State) (n reason ended : Nat) :
    Eff 33024 s (State.sendClosed s n reason ended) := by
  unfold State.sendClosed
  try dsimp only
  repeat' first
    | (with_reducible apply Eff.refl)
    | (with_reducible assumption)
    | decide
    | (with_reducible apply Eff.ite)
    | (with_reducible apply Eff.by (State.sendRecord_eff ..))
    | split

theorem State.wrapClose_eff (s : State) (n : Nat) :
    Eff 16942021 s (State.wrapClose s n) := by
  unfold State.wrapClose
  try dsimp only
  repeat' first
    | (with_reducible apply Eff.refl)
    | (with_reducible assumption)
    | decide
    | (with_reducible apply Eff.ite)
    | (with_reducible apply Eff.by (State.endSession_eff ..))
    | split

theorem State.sendAck_eff (s : State) (n : Nat) :
    Eff 16942021 s (State.sendAck s n) := by
  unfold State.sendAck
  try dsimp only
  repeat' first
    | (with_reducible apply Eff.refl)
    | (with_reducible assumption)
    | decide
    | (with_reducible apply Eff.ite)
    | (with_reducible apply Eff.by (State.sendFrame_eff ..))
    | (with_reducible apply Eff.by (State.wrapClose_eff ..))
    | split

theorem State.restall_eff (s : State) (n : Nat) :
    Eff 768 s (State.restall s n) := by
  unfold State.restall
  try dsimp only
  repeat' first
    | (with_reducible apply Eff.refl)
    | (with_reducible assumption)
    | decide
    | (with_reducible apply Eff.ite)
    | (with_reducible apply Eff.by (State.modSess_eff ..))
    | (with_reducible apply Eff.by (State.modTenants_eff ..))
    | split

theorem State.sendData_eff (s : State) (n : Nat) :
    Eff 33024 s (State.sendData s n) := by
  unfold State.sendData
  try dsimp only
  repeat' first
    | (with_reducible apply Eff.refl)
    | (with_reducible assumption)
    | decide
    | (with_reducible apply Eff.ite)
    | (with_reducible apply Eff.by (State.modSess_eff ..))
    | (with_reducible apply Eff.by (State.sendFrame_eff ..))
    | split

theorem State.resend_eff (s : State) (n q : Nat) :
    Eff 16942021 s (State.resend s n q) := by
  unfold State.resend
  try dsimp only
  repeat' first
    | (with_reducible apply Eff.refl)
    | (with_reducible assumption)
    | decide
    | (with_reducible apply Eff.ite)
    | (with_reducible apply Eff.by (State.modSess_eff ..))
    | (with_reducible apply Eff.by (State.modTenants_eff ..))
    | (with_reducible apply Eff.by (State.sendFrame_eff ..))
    | (with_reducible apply Eff.by (State.wrapClose_eff ..))
    | split

theorem State.resendSacked_eff (s : State) (n : Nat) :
    Eff 16942021 s (State.resendSacked s n) := by
  unfold State.resendSacked
  try dsimp only
  repeat' first
    | (with_reducible apply Eff.refl)
    | (with_reducible assumption)
    | decide
    | (with_reducible apply Eff.ite)
    | (with_reducible apply Eff.foldl)
    | (with_reducible apply Eff.by (State.resend_eff ..))
    | split
    | (intro _)
    | (dsimp only)

theorem State.loseSession_eff (s : State) (n : Nat) :
    Eff 16942021 s (State.loseSession s n) := by
  unfold State.loseSession
  try dsimp only
  repeat' first
    | (with_reducible apply Eff.refl)
    | (with_reducible assumption)
    | decide
    | (with_reducible apply Eff.ite)
    | (with_reducible apply Eff.by (State.endSession_eff ..))
    | split

theorem State.drained_eff (s : State) (n : Nat) :
    Eff 8553216 s (State.drained s n) := by
  unfold State.drained
  try dsimp only
  repeat' first
    | (with_reducible apply Eff.refl)
    | (with_reducible assumption)
    | decide
    | (with_reducible apply Eff.ite)
    | (with_reducible apply Eff.by (State.closeSession_eff ..))
    | (with_reducible apply Eff.by (State.freeLocks_eff ..))
    | (with_reducible apply Eff.by (State.sendClosed_eff ..))
    | split

theorem State.takeAck_eff (s : State) (n a : Nat) :
    Eff 8553216 s (State.takeAck s n a) := by
  unfold State.takeAck
  try dsimp only
  repeat' first
    | (with_reducible apply Eff.refl)
    | (with_reducible assumption)
    | decide
    | (with_reducible apply Eff.ite)
    | (with_reducible apply Eff.foldl)
    | (with_reducible apply Eff.by (State.drained_eff ..))
    | (with_reducible apply Eff.by (State.freeBlock_eff ..))
    | (with_reducible apply Eff.by (State.modSess_eff ..))
    | split
    | (intro _)
    | (dsimp only)

theorem State.discardFrame_eff (s : State) :
    Eff 32768 s (State.discardFrame s) := by
  unfold State.discardFrame
  try dsimp only
  repeat' first
    | (with_reducible apply Eff.refl)
    | (with_reducible assumption)
    | decide
    | (with_reducible apply Eff.ite)
    | (with_reducible apply Eff.by (State.modUpl_eff ..))
    | split

theorem State.takeHeader_eff (s : State) (f : Frame) :
    Eff 25338861 s (State.takeHeader s f) := by
  unfold State.takeHeader
  try dsimp only
  repeat' first
    | (with_reducible apply Eff.refl)
    | (with_reducible assumption)
    | decide
    | (with_reducible apply Eff.ite)
    | (with_reducible apply Eff.by (State.modSess_eff ..))
    | (with_reducible apply Eff.by (State.resendSacked_eff ..))
    | (with_reducible apply Eff.by (State.restall_eff ..))
    | (with_reducible apply Eff.by (State.sample_eff ..))
    | (with_reducible apply Eff.by (State.takeAck_eff ..))
    | split

theorem State.holdSessions_eff (s : State) :
    Eff 256 s (State.holdSessions s) := by
  unfold State.holdSessions
  try dsimp only
  repeat' first
    | (with_reducible apply Eff.refl)
    | (with_reducible assumption)
    | decide
    | (with_reducible apply Eff.ite)
    | (with_reducible apply Eff.by (State.modSessWhere_eff ..))
    | split

theorem State.resumeSessions_eff (s : State) :
    Eff 768 s (State.resumeSessions s) := by
  unfold State.resumeSessions
  try dsimp only
  repeat' first
    | (with_reducible apply Eff.refl)
    | (with_reducible assumption)
    | decide
    | (with_reducible apply Eff.ite)
    | (with_reducible apply Eff.foldl)
    | (with_reducible apply Eff.by (State.deliverLedger_eff ..))
    | (with_reducible apply Eff.by (State.modSessWhere_eff ..))
    | split
    | (intro _)
    | (dsimp only)

theorem State.leaveSpray_eff (s : State) (m : Nat) :
    Eff 18058181 s (State.leaveSpray s m) := by
  unfold State.leaveSpray
  try dsimp only
  repeat' first
    | (with_reducible apply Eff.refl)
    | (with_reducible assumption)
    | decide
    | (with_reducible apply Eff.ite)
    | (with_reducible apply Eff.foldl)
    | (with_reducible apply Eff.by (State.causeOn_eff ..))
    | (with_reducible apply Eff.by (State.fault_eff ..))
    | (with_reducible apply Eff.by (State.holdSessions_eff ..))
    | (with_reducible apply Eff.by (State.movePtp_eff ..))
    | (with_reducible apply Eff.by (State.queueFrame_eff ..))
    | (with_reducible apply Eff.by (State.resend_eff ..))
    | (with_reducible apply Eff.by (State.setLink_eff ..))
    | (with_reducible apply Eff.by (State.upEvent_eff ..))
    | split
    | (intro _)
    | (dsimp only)

theorem State.joinSpray_eff (s : State) (m : Nat) :
    Eff 1149696 s (State.joinSpray s m) := by
  unfold State.joinSpray
  try dsimp only
  repeat' first
    | (with_reducible apply Eff.refl)
    | (with_reducible assumption)
    | decide
    | (with_reducible apply Eff.ite)
    | (with_reducible apply Eff.by (State.causeOff_eff ..))
    | (with_reducible apply Eff.by (State.flushBacklog_eff ..))
    | (with_reducible apply Eff.by (State.movePtp_eff ..))
    | (with_reducible apply Eff.by (State.resumeSessions_eff ..))
    | (with_reducible apply Eff.by (State.setLink_eff ..))
    | (with_reducible apply Eff.by (State.upEvent_eff ..))
    | split

theorem State.train_eff (s : State) (m : Nat) :
    Eff 32768 s (State.train s m) := by
  unfold State.train
  try dsimp only
  repeat' first
    | (with_reducible apply Eff.refl)
    | (with_reducible assumption)
    | decide
    | (with_reducible apply Eff.ite)
    | (with_reducible apply Eff.by (State.emit_eff ..))
    | (with_reducible apply Eff.by (State.setLink_eff ..))
    | split

theorem State.applyLinkEnables_eff (s : State) :
    Eff 18058181 s (State.applyLinkEnables s) := by
  unfold State.applyLinkEnables
  try dsimp only
  repeat' first
    | (with_reducible apply Eff.refl)
    | (with_reducible assumption)
    | decide
    | (with_reducible apply Eff.ite)
    | (with_reducible apply Eff.foldl)
    | (with_reducible apply Eff.by (State.leaveSpray_eff ..))
    | (with_reducible apply Eff.by (State.setLink_eff ..))
    | (with_reducible apply Eff.by (State.train_eff ..))
    | split
    | (intro _)
    | (dsimp only)

end Sys2Proof.Machine
end

