-- ==== Sys2Proof/Laws/EffTiming.lean ====
section
/-!
SUPPORT. What the operations of Machine/Timing.lean may do to the state: one lemma for each (Laws/Effects.lean).
-/
set_option linter.unreachableTactic false
set_option linter.unusedTactic false

namespace Sys2Proof.Machine

theorem State.startTimebase_eff (s : State) (p : Nat) :
    Eff 8 s (State.startTimebase s p) := by
  unfold State.startTimebase
  try dsimp only
  repeat' first
    | (with_reducible apply Eff.refl)
    | (with_reducible assumption)
    | decide
    | (with_reducible apply Eff.ite)
    | (with_reducible apply Eff.by (State.modFt_eff ..))
    | split

theorem State.stopTimebase_eff (s : State) (p : Nat) :
    Eff 8 s (State.stopTimebase s p) := by
  unfold State.stopTimebase
  try dsimp only
  repeat' first
    | (with_reducible apply Eff.refl)
    | (with_reducible assumption)
    | decide
    | (with_reducible apply Eff.ite)
    | (with_reducible apply Eff.by (State.modFt_eff ..))
    | split

theorem State.restartTimebases_eff (s : State) :
    Eff 8 s (State.restartTimebases s) := by
  unfold State.restartTimebases
  try dsimp only
  repeat' first
    | (with_reducible apply Eff.refl)
    | (with_reducible assumption)
    | decide
    | (with_reducible apply Eff.ite)
    | (with_reducible apply Eff.foldl)
    | (with_reducible apply Eff.by (State.startTimebase_eff ..))
    | (with_reducible apply Eff.by (State.stopTimebase_eff ..))
    | split
    | (intro _)
    | (dsimp only)

theorem State.stepAll_eff (s : State) (d : Int) :
    Eff 8 s (State.stepAll s d) := by
  unfold State.stepAll
  try dsimp only
  repeat' first
    | (with_reducible apply Eff.refl)
    | (with_reducible assumption)
    | decide
    | (with_reducible apply Eff.ite)
    | (with_reducible apply Eff.foldl)
    | (with_reducible apply Eff.by (State.modFt_eff ..))
    | split
    | (intro _)
    | (dsimp only)

theorem State.trimCheck_eff (s : State) (p : Nat) (limit : Int) :
    Eff 1116424 s (State.trimCheck s p limit) := by
  unfold State.trimCheck
  try dsimp only
  repeat' first
    | (with_reducible apply Eff.refl)
    | (with_reducible assumption)
    | decide
    | (with_reducible apply Eff.ite)
    | (with_reducible apply Eff.by (State.ftEvent_eff ..))
    | (with_reducible apply Eff.by (State.modFt_eff ..))
    | (with_reducible apply Eff.by (State.note_eff ..))
    | split

theorem State.applyPort_eff (s : State) (p : Nat) :
    Eff 1096 s (State.applyPort s p) := by
  unfold State.applyPort
  try dsimp only
  repeat' first
    | (with_reducible apply Eff.refl)
    | (with_reducible assumption)
    | decide
    | (with_reducible apply Eff.ite)
    | (with_reducible apply Eff.foldl)
    | (with_reducible apply Eff.by (State.applyM_eff ..))
    | (with_reducible apply Eff.by (State.modFt_eff ..))
    | (with_reducible apply Eff.by (State.modPipes_eff ..))
    | split
    | (intro _)
    | (dsimp only)

theorem State.sendSof_eff (s : State) (p : Nat) :
    Eff 0 s (State.sendSof s p) := by
  unfold State.sendSof
  try dsimp only
  repeat' first
    | (with_reducible apply Eff.refl)
    | (with_reducible assumption)
    | decide
    | (with_reducible apply Eff.ite)
    | (with_reducible apply Eff.by (State.emit_eff ..))
    | split

theorem State.microframe_eff (s : State) (p : Nat) :
    Eff 26284031 s (State.microframe s p) := by
  unfold State.microframe
  try dsimp only
  repeat' first
    | (with_reducible apply Eff.refl)
    | (with_reducible assumption)
    | decide
    | (with_reducible apply Eff.ite)
    | (with_reducible apply Eff.by (State.accumulate_eff ..))
    | (with_reducible apply Eff.by (State.applyPort_eff ..))
    | (with_reducible apply Eff.by (State.modFt_eff ..))
    | (with_reducible apply Eff.by (State.openMicroframe_eff ..))
    | (with_reducible apply Eff.by (State.sendSof_eff ..))
    | (with_reducible apply Eff.by (State.trimCheck_eff ..))
    | split

theorem State.stepHub_eff (s : State) (d : Int) :
    Eff 67191048 s (State.stepHub s d) := by
  unfold State.stepHub
  try dsimp only
  repeat' first
    | (with_reducible apply Eff.refl)
    | (with_reducible assumption)
    | decide
    | (with_reducible apply Eff.ite)
    | (with_reducible apply Eff.by (State.ftEvent_eff ..))
    | (with_reducible apply Eff.by (State.modClk_time ..))
    | exact ⟨rfl, rfl⟩
    | (with_reducible apply Eff.by (State.stepAll_eff ..))
    | split

theorem State.adjustFreq_eff (s : State) :
    Eff 65536 s (State.adjustFreq s) := by
  unfold State.adjustFreq
  try dsimp only
  repeat' first
    | (with_reducible apply Eff.refl)
    | (with_reducible assumption)
    | decide
    | (with_reducible apply Eff.ite)
    | (with_reducible apply Eff.by (State.modPtp_eff ..))
    | (with_reducible apply Eff.by (State.tookFree_eff ..))
    | split

theorem State.countGood_eff (s : State) (offset : Int) :
    Eff 65792 s (State.countGood s offset) := by
  unfold State.countGood
  try dsimp only
  repeat' first
    | (with_reducible apply Eff.refl)
    | (with_reducible assumption)
    | decide
    | (with_reducible apply Eff.ite)
    | (with_reducible apply Eff.by (State.ftEvent_eff ..))
    | (with_reducible apply Eff.by (State.modPtp_eff ..))
    | split

theorem State.sync_eff (s : State) (offset : Int) :
    Eff 67191048 s (State.sync s offset) := by
  unfold State.sync
  try dsimp only
  repeat' first
    | (with_reducible apply Eff.refl)
    | (with_reducible assumption)
    | decide
    | (with_reducible apply Eff.ite)
    | (with_reducible apply Eff.by (State.adjustFreq_eff ..))
    | (with_reducible apply Eff.by (State.countGood_eff ..))
    | (with_reducible apply Eff.by (State.modPtp_eff ..))
    | (with_reducible apply Eff.by (State.stepHub_eff ..))
    | split

theorem State.syncSeen_eff (s : State) (v : PtpVia) (offset : Int) :
    Eff 67191048 s (State.syncSeen s v offset) := by
  unfold State.syncSeen
  try dsimp only
  repeat' first
    | (with_reducible apply Eff.refl)
    | (with_reducible assumption)
    | decide
    | (with_reducible apply Eff.ite)
    | (with_reducible apply Eff.by (State.emit_eff ..))
    | (with_reducible apply Eff.by (State.modPtp_eff ..))
    | (with_reducible apply Eff.by (State.sync_eff ..))
    | split

theorem State.delayMeasured_eff (s : State) (v : PtpVia) (d : Nat) :
    Eff 65536 s (State.delayMeasured s v d) := by
  unfold State.delayMeasured
  try dsimp only
  repeat' first
    | (with_reducible apply Eff.refl)
    | (with_reducible assumption)
    | decide
    | (with_reducible apply Eff.ite)
    | (with_reducible apply Eff.by (State.modPtp_eff ..))
    | split

theorem State.syncLost_eff (s : State) :
    Eff 1116416 s (State.syncLost s) := by
  unfold State.syncLost
  try dsimp only
  repeat' first
    | (with_reducible apply Eff.refl)
    | (with_reducible assumption)
    | decide
    | (with_reducible apply Eff.ite)
    | (with_reducible apply Eff.by (State.enterHoldover_eff ..))
    | (with_reducible apply Eff.by (State.modPtp_eff ..))
    | split

theorem State.ppsRise_eff (s : State) :
    Eff 65536 s (State.ppsRise s) := by
  unfold State.ppsRise
  try dsimp only
  repeat' first
    | (with_reducible apply Eff.refl)
    | (with_reducible assumption)
    | decide
    | (with_reducible apply Eff.ite)
    | (with_reducible apply Eff.by (State.emit_eff ..))
    | (with_reducible apply Eff.by (State.modPtp_eff ..))
    | split

theorem State.ppsEdge_eff (s : State) (since : Nat) :
    Eff 65536 s (State.ppsEdge s since) := by
  unfold State.ppsEdge
  try dsimp only
  repeat' first
    | (with_reducible apply Eff.refl)
    | (with_reducible assumption)
    | decide
    | (with_reducible apply Eff.ite)
    | (with_reducible apply Eff.by (State.modPtp_eff ..))
    | split

end Sys2Proof.Machine
end

