-- ==== Sys2Proof/Laws/EffPorts.lean ====
section
/-!
SUPPORT. What the operations of Machine/Ports.lean may do to the state: one lemma for each (Laws/Effects.lean).
-/
set_option linter.unreachableTactic false
set_option linter.unusedTactic false

namespace Sys2Proof.Machine

theorem State.toState_eff (s : State) (p : Nat) (st : PortState) :
    Eff 361 s (State.toState s p st) := by
  unfold State.toState
  try dsimp only
  repeat' first
    | (with_reducible apply Eff.refl)
    | (with_reducible assumption)
    | decide
    | (with_reducible apply Eff.ite)
    | (with_reducible apply Eff.by (State.dropAsks_eff ..))
    | (with_reducible apply Eff.by (State.modUsb_eff ..))
    | (with_reducible apply Eff.by (State.portEvent_eff ..))
    | (with_reducible apply Eff.by (State.startTimebase_eff ..))
    | (with_reducible apply Eff.by (State.stopTimebase_eff ..))
    | (with_reducible apply Eff.by (State.usbEvent_eff ..))
    | split

theorem State.endTree_eff (s : State) (p out det : Nat) :
    Eff 16778181 s (State.endTree s p out det) := by
  unfold State.endTree
  try dsimp only
  repeat' first
    | (with_reducible apply Eff.refl)
    | (with_reducible assumption)
    | decide
    | (with_reducible apply Eff.ite)
    | (with_reducible apply Eff.by (State.causeItems_eff ..))
    | split

theorem State.endDeferred_eff (s : State) (p out det : Nat) :
    Eff 16778181 s (State.endDeferred s p out det) := by
  unfold State.endDeferred
  try dsimp only
  repeat' first
    | (with_reducible apply Eff.refl)
    | (with_reducible assumption)
    | decide
    | (with_reducible apply Eff.ite)
    | (with_reducible apply Eff.foldl)
    | (with_reducible apply Eff.by (State.finish_eff ..))
    | (with_reducible apply Eff.by (State.finishO_eff ..))
    | (with_reducible apply Eff.by (State.modUsb_eff ..))
    | split
    | (intro _)
    | (dsimp only)

theorem State.actionDone_eff (s : State) (p : Nat) :
    Eff 16778181 s (State.actionDone s p) := by
  unfold State.actionDone
  try dsimp only
  repeat' first
    | (with_reducible apply Eff.refl)
    | (with_reducible assumption)
    | decide
    | (with_reducible apply Eff.ite)
    | (with_reducible apply Eff.by (State.finishO_eff ..))
    | (with_reducible apply Eff.by (State.modUsb_eff ..))
    | split

theorem State.supersede_eff (s : State) (p : Nat) :
    Eff 16778181 s (State.supersede s p) := by
  unfold State.supersede
  try dsimp only
  repeat' first
    | (with_reducible apply Eff.refl)
    | (with_reducible assumption)
    | decide
    | (with_reducible apply Eff.ite)
    | (with_reducible apply Eff.foldl)
    | (with_reducible apply Eff.by (State.actionDone_eff ..))
    | (with_reducible apply Eff.by (State.finish_eff ..))
    | (with_reducible apply Eff.by (State.modUsb_eff ..))
    | split
    | (intro _)
    | (dsimp only)

theorem State.defer_eff (s : State) (p : Nat) (d : Deferred) :
    Eff 16778181 s (State.defer s p d) := by
  unfold State.defer
  try dsimp only
  repeat' first
    | (with_reducible apply Eff.refl)
    | (with_reducible assumption)
    | decide
    | (with_reducible apply Eff.ite)
    | (with_reducible apply Eff.by (State.finishO_eff ..))
    | (with_reducible apply Eff.by (State.modUsb_eff ..))
    | split

theorem State.deviceGone_eff (s : State) (p out det a : Nat) :
    Eff 16778213 s (State.deviceGone s p out det a) := by
  unfold State.deviceGone
  try dsimp only
  repeat' first
    | (with_reducible apply Eff.refl)
    | (with_reducible assumption)
    | decide
    | (with_reducible apply Eff.ite)
    | (with_reducible apply Eff.by (State.askGone_eff ..))
    | (with_reducible apply Eff.by (State.closeAll_eff ..))
    | (with_reducible apply Eff.by (State.modUsb_eff ..))
    | (with_reducible apply Eff.by (State.portEvent_eff ..))
    | split

theorem State.treeGone_eff (s : State) (p out det : Nat) :
    Eff 16778213 s (State.treeGone s p out det) := by
  unfold State.treeGone
  try dsimp only
  repeat' first
    | (with_reducible apply Eff.refl)
    | (with_reducible assumption)
    | decide
    | (with_reducible apply Eff.ite)
    | (with_reducible apply Eff.foldl)
    | (with_reducible apply Eff.by (State.deviceGone_eff ..))
    | (with_reducible apply Eff.by (State.dropAsks_eff ..))
    | (with_reducible apply Eff.by (State.modUsb_eff ..))
    | split
    | (intro _)
    | (dsimp only)

theorem State.belowGone_eff (s : State) (p out det a : Nat) :
    Eff 16778213 s (State.belowGone s p out det a) := by
  unfold State.belowGone
  try dsimp only
  repeat' first
    | (with_reducible apply Eff.refl)
    | (with_reducible assumption)
    | decide
    | (with_reducible apply Eff.ite)
    | (with_reducible apply Eff.foldl)
    | (with_reducible apply Eff.by (State.deviceGone_eff ..))
    | split
    | (intro _)
    | (dsimp only)

theorem State.restoreFail_eff (s : State) (p : Nat) :
    Eff 16778213 s (State.restoreFail s p) := by
  unfold State.restoreFail
  try dsimp only
  repeat' first
    | (with_reducible apply Eff.refl)
    | (with_reducible assumption)
    | decide
    | (with_reducible apply Eff.ite)
    | (with_reducible apply Eff.by (State.endTree_eff ..))
    | (with_reducible apply Eff.by (State.modUsb_eff ..))
    | (with_reducible apply Eff.by (State.treeGone_eff ..))
    | (with_reducible apply Eff.by (State.usbEvent_eff ..))
    | split

theorem State.dropRestore_eff (s : State) (p : Nat) :
    Eff 1 s (State.dropRestore s p) := by
  unfold State.dropRestore
  try dsimp only
  repeat' first
    | (with_reducible apply Eff.refl)
    | (with_reducible assumption)
    | decide
    | (with_reducible apply Eff.ite)
    | (with_reducible apply Eff.by (State.modUsb_eff ..))
    | split

theorem State.search_eff (s : State) (p : Nat) :
    Eff 0 s (State.search s p) := by
  unfold State.search
  try dsimp only
  repeat' first
    | (with_reducible apply Eff.refl)
    | (with_reducible assumption)
    | decide
    | (with_reducible apply Eff.ite)
    | (with_reducible apply Eff.by (State.emit_eff ..))
    | split

theorem State.drive_eff (s : State) (p : Nat) (k : ResetKind) :
    Eff 1 s (State.drive_ s p k) := by
  unfold State.drive_
  try dsimp only
  repeat' first
    | (with_reducible apply Eff.refl)
    | (with_reducible assumption)
    | decide
    | (with_reducible apply Eff.ite)
    | (with_reducible apply Eff.by (State.emit_eff ..))
    | (with_reducible apply Eff.by (State.modUsb_eff ..))
    | split

theorem State.startReset_eff (s : State) (p : Nat) (item : Option Nat) :
    Eff 16778221 s (State.startReset s p item) := by
  unfold State.startReset
  try dsimp only
  repeat' first
    | (with_reducible apply Eff.refl)
    | (with_reducible assumption)
    | decide
    | (with_reducible apply Eff.ite)
    | (with_reducible apply Eff.foldl)
    | (with_reducible apply Eff.by (State.belowGone_eff ..))
    | (with_reducible apply Eff.by (State.drive_eff ..))
    | (with_reducible apply Eff.by (State.endTree_eff ..))
    | (with_reducible apply Eff.by (State.modUsb_eff ..))
    | (with_reducible apply Eff.by (State.resync_eff ..))
    | (with_reducible apply Eff.by (State.supersede_eff ..))
    | (with_reducible apply Eff.by (State.toState_eff ..))
    | split
    | (intro _)
    | (dsimp only)

theorem State.doDisable_eff (s : State) (p : Nat) (item : Option Nat) :
    Eff 16778221 s (State.doDisable s p item) := by
  unfold State.doDisable
  try dsimp only
  repeat' first
    | (with_reducible apply Eff.refl)
    | (with_reducible assumption)
    | decide
    | (with_reducible apply Eff.ite)
    | (with_reducible apply Eff.by (State.endTree_eff ..))
    | (with_reducible apply Eff.by (State.finishO_eff ..))
    | (with_reducible apply Eff.by (State.modUsb_eff ..))
    | (with_reducible apply Eff.by (State.supersede_eff ..))
    | (with_reducible apply Eff.by (State.toState_eff ..))
    | split

theorem State.startSuspend_eff (s : State) (p : Nat) (by_ : SuspBy) (item : Option Nat) :
    Eff 361 s (State.startSuspend s p by_ item) := by
  unfold State.startSuspend
  try dsimp only
  repeat' first
    | (with_reducible apply Eff.refl)
    | (with_reducible assumption)
    | decide
    | (with_reducible apply Eff.ite)
    | (with_reducible apply Eff.by (State.emit_eff ..))
    | (with_reducible apply Eff.by (State.modUsb_eff ..))
    | (with_reducible apply Eff.by (State.toState_eff ..))
    | split

theorem State.driveResume_eff (s : State) (p : Nat) :
    Eff 1 s (State.driveResume s p) := by
  unfold State.driveResume
  try dsimp only
  repeat' first
    | (with_reducible apply Eff.refl)
    | (with_reducible assumption)
    | decide
    | (with_reducible apply Eff.ite)
    | (with_reducible apply Eff.by (State.emit_eff ..))
    | (with_reducible apply Eff.by (State.modUsb_eff ..))
    | split

theorem State.applyDeferred_eff (s : State) (p : Nat) :
    Eff 16778221 s (State.applyDeferred s p) := by
  unfold State.applyDeferred
  try dsimp only
  repeat' first
    | (with_reducible apply Eff.refl)
    | (with_reducible assumption)
    | decide
    | (with_reducible apply Eff.ite)
    | (with_reducible apply Eff.by (State.doDisable_eff ..))
    | (with_reducible apply Eff.by (State.modUsb_eff ..))
    | (with_reducible apply Eff.by (State.startReset_eff ..))
    | (with_reducible apply Eff.by (State.startSuspend_eff ..))
    | split

theorem State.enterEnabled_eff (s : State) (p : Nat) (sp : Speed) :
    Eff 16778221 s (State.enterEnabled s p sp) := by
  unfold State.enterEnabled
  try dsimp only
  repeat' first
    | (with_reducible apply Eff.refl)
    | (with_reducible assumption)
    | decide
    | (with_reducible apply Eff.ite)
    | (with_reducible apply Eff.by (State.actionDone_eff ..))
    | (with_reducible apply Eff.by (State.applyDeferred_eff ..))
    | (with_reducible apply Eff.by (State.modUsb_eff ..))
    | (with_reducible apply Eff.by (State.toState_eff ..))
    | split

theorem State.degradedOut_eff (s : State) (p : Nat) :
    Eff 16778221 s (State.degradedOut s p) := by
  unfold State.degradedOut
  try dsimp only
  repeat' first
    | (with_reducible apply Eff.refl)
    | (with_reducible assumption)
    | decide
    | (with_reducible apply Eff.ite)
    | (with_reducible apply Eff.by (State.endDeferred_eff ..))
    | (with_reducible apply Eff.by (State.endTree_eff ..))
    | (with_reducible apply Eff.by (State.modUsb_eff ..))
    | (with_reducible apply Eff.by (State.restoreFail_eff ..))
    | (with_reducible apply Eff.by (State.toState_eff ..))
    | split

theorem State.stepDown_eff (s : State) (p code : Nat) :
    Eff 97 s (State.stepDown s p code) := by
  unfold State.stepDown
  try dsimp only
  repeat' first
    | (with_reducible apply Eff.refl)
    | (with_reducible assumption)
    | decide
    | (with_reducible apply Eff.ite)
    | (with_reducible apply Eff.by (State.drive_eff ..))
    | (with_reducible apply Eff.by (State.dropAsks_eff ..))
    | (with_reducible apply Eff.by (State.emit_eff ..))
    | (with_reducible apply Eff.by (State.modUsb_eff ..))
    | (with_reducible apply Eff.by (State.usbEvent_eff ..))
    | split

theorem State.degraded_eff (s : State) (p : Nat) :
    Eff 16778221 s (State.degraded s p) := by
  unfold State.degraded
  try dsimp only
  repeat' first
    | (with_reducible apply Eff.refl)
    | (with_reducible assumption)
    | decide
    | (with_reducible apply Eff.ite)
    | (with_reducible apply Eff.by (State.degradedOut_eff ..))
    | (with_reducible apply Eff.by (State.endTree_eff ..))
    | (with_reducible apply Eff.by (State.modUsb_eff ..))
    | (with_reducible apply Eff.by (State.stepDown_eff ..))
    | (with_reducible apply Eff.by (State.supersede_eff ..))
    | (with_reducible apply Eff.by (State.toState_eff ..))
    | (with_reducible apply Eff.by (State.treeGone_eff ..))
    | split

theorem State.portGood_eff (s : State) (p : Nat) :
    Eff 16778221 s (State.portGood s p) := by
  unfold State.portGood
  try dsimp only
  repeat' first
    | (with_reducible apply Eff.refl)
    | (with_reducible assumption)
    | decide
    | (with_reducible apply Eff.ite)
    | (with_reducible apply Eff.by (State.dropRestore_eff ..))
    | (with_reducible apply Eff.by (State.endDeferred_eff ..))
    | (with_reducible apply Eff.by (State.endTree_eff ..))
    | (with_reducible apply Eff.by (State.modUsb_eff ..))
    | (with_reducible apply Eff.by (State.search_eff ..))
    | (with_reducible apply Eff.by (State.toState_eff ..))
    | (with_reducible apply Eff.by (State.treeGone_eff ..))
    | split

theorem State.portOff_eff (s : State) (p : Nat) :
    Eff 16778221 s (State.portOff s p) := by
  unfold State.portOff
  try dsimp only
  repeat' first
    | (with_reducible apply Eff.refl)
    | (with_reducible assumption)
    | decide
    | (with_reducible apply Eff.ite)
    | (with_reducible apply Eff.by (State.dropRestore_eff ..))
    | (with_reducible apply Eff.by (State.endDeferred_eff ..))
    | (with_reducible apply Eff.by (State.endTree_eff ..))
    | (with_reducible apply Eff.by (State.modUsb_eff ..))
    | (with_reducible apply Eff.by (State.toState_eff ..))
    | (with_reducible apply Eff.by (State.treeGone_eff ..))
    | split

theorem State.portTrip_eff (s : State) (p : Nat) :
    Eff 16778221 s (State.portTrip s p) := by
  unfold State.portTrip
  try dsimp only
  repeat' first
    | (with_reducible apply Eff.refl)
    | (with_reducible assumption)
    | decide
    | (with_reducible apply Eff.ite)
    | (with_reducible apply Eff.by (State.dropRestore_eff ..))
    | (with_reducible apply Eff.by (State.endDeferred_eff ..))
    | (with_reducible apply Eff.by (State.endTree_eff ..))
    | (with_reducible apply Eff.by (State.modUsb_eff ..))
    | (with_reducible apply Eff.by (State.toState_eff ..))
    | (with_reducible apply Eff.by (State.treeGone_eff ..))
    | split

theorem State.portExhausted_eff (s : State) (p : Nat) :
    Eff 16778221 s (State.portExhausted s p) := by
  unfold State.portExhausted
  try dsimp only
  repeat' first
    | (with_reducible apply Eff.refl)
    | (with_reducible assumption)
    | decide
    | (with_reducible apply Eff.ite)
    | (with_reducible apply Eff.by (State.dropRestore_eff ..))
    | (with_reducible apply Eff.by (State.endDeferred_eff ..))
    | (with_reducible apply Eff.by (State.endTree_eff ..))
    | (with_reducible apply Eff.by (State.toState_eff ..))
    | (with_reducible apply Eff.by (State.treeGone_eff ..))
    | split

theorem State.portContain_eff (s : State) (src inst p : Nat) :
    Eff 16778221 s (State.portContain s src inst p) := by
  unfold State.portContain
  try dsimp only
  repeat' first
    | (with_reducible apply Eff.refl)
    | (with_reducible assumption)
    | decide
    | (with_reducible apply Eff.ite)
    | (with_reducible apply Eff.by (State.dropRestore_eff ..))
    | (with_reducible apply Eff.by (State.endDeferred_eff ..))
    | (with_reducible apply Eff.by (State.endTree_eff ..))
    | (with_reducible apply Eff.by (State.modUsb_eff ..))
    | (with_reducible apply Eff.by (State.toState_eff ..))
    | split

theorem State.portRelease_eff (s : State) (p : Nat) :
    Eff 16778221 s (State.portRelease s p) := by
  unfold State.portRelease
  try dsimp only
  repeat' first
    | (with_reducible apply Eff.refl)
    | (with_reducible assumption)
    | decide
    | (with_reducible apply Eff.ite)
    | (with_reducible apply Eff.by (State.modUsb_eff ..))
    | (with_reducible apply Eff.by (State.search_eff ..))
    | (with_reducible apply Eff.by (State.toState_eff ..))
    | (with_reducible apply Eff.by (State.treeGone_eff ..))
    | split

theorem State.portConnect_eff (s : State) (p : Nat) (k : ConnKind) :
    Eff 361 s (State.portConnect s p k) := by
  unfold State.portConnect
  try dsimp only
  repeat' first
    | (with_reducible apply Eff.refl)
    | (with_reducible assumption)
    | decide
    | (with_reducible apply Eff.ite)
    | (with_reducible apply Eff.by (State.modUsb_eff ..))
    | (with_reducible apply Eff.by (State.toState_eff ..))
    | split

theorem State.portConfirmed_eff (s : State) (p : Nat) :
    Eff 361 s (State.portConfirmed s p) := by
  unfold State.portConfirmed
  try dsimp only
  repeat' first
    | (with_reducible apply Eff.refl)
    | (with_reducible assumption)
    | decide
    | (with_reducible apply Eff.ite)
    | (with_reducible apply Eff.by (State.drive_eff ..))
    | (with_reducible apply Eff.by (State.modUsb_eff ..))
    | (with_reducible apply Eff.by (State.toState_eff ..))
    | (with_reducible apply Eff.by (State.usbEvent_eff ..))
    | split

theorem State.portGone_eff (s : State) (p : Nat) :
    Eff 16778221 s (State.portGone s p) := by
  unfold State.portGone
  try dsimp only
  repeat' first
    | (with_reducible apply Eff.refl)
    | (with_reducible assumption)
    | decide
    | (with_reducible apply Eff.ite)
    | (with_reducible apply Eff.by (State.dropRestore_eff ..))
    | (with_reducible apply Eff.by (State.endDeferred_eff ..))
    | (with_reducible apply Eff.by (State.endTree_eff ..))
    | (with_reducible apply Eff.by (State.modUsb_eff ..))
    | (with_reducible apply Eff.by (State.toState_eff ..))
    | (with_reducible apply Eff.by (State.treeGone_eff ..))
    | (with_reducible apply Eff.by (State.usbEvent_eff ..))
    | split

theorem State.pollTimeout_eff (s : State) (p : Nat) :
    Eff 16778221 s (State.pollTimeout s p) := by
  unfold State.pollTimeout
  try dsimp only
  repeat' first
    | (with_reducible apply Eff.refl)
    | (with_reducible assumption)
    | decide
    | (with_reducible apply Eff.ite)
    | (with_reducible apply Eff.by (State.degraded_eff ..))
    | (with_reducible apply Eff.by (State.modUsb_eff ..))
    | (with_reducible apply Eff.by (State.portConnect_eff ..))
    | (with_reducible apply Eff.by (State.toState_eff ..))
    | split

theorem State.resetEnd_eff (s : State) (p : Nat) (trained : Speed) :
    Eff 16778221 s (State.resetEnd s p trained) := by
  unfold State.resetEnd
  try dsimp only
  repeat' first
    | (with_reducible apply Eff.refl)
    | (with_reducible assumption)
    | decide
    | (with_reducible apply Eff.ite)
    | (with_reducible apply Eff.by (State.degraded_eff ..))
    | (with_reducible apply Eff.by (State.drive_eff ..))
    | (with_reducible apply Eff.by (State.endDeferred_eff ..))
    | (with_reducible apply Eff.by (State.enterEnabled_eff ..))
    | (with_reducible apply Eff.by (State.modUsb_eff ..))
    | (with_reducible apply Eff.by (State.restoreFail_eff ..))
    | (with_reducible apply Eff.by (State.toState_eff ..))
    | (with_reducible apply Eff.by (State.usbEvent_eff ..))
    | split

theorem State.recovery_eff (s : State) (p : Nat) (u0 : Bool) :
    Eff 16778221 s (State.recovery s p u0) := by
  unfold State.recovery
  try dsimp only
  repeat' first
    | (with_reducible apply Eff.refl)
    | (with_reducible assumption)
    | decide
    | (with_reducible apply Eff.ite)
    | (with_reducible apply Eff.by (State.degraded_eff ..))
    | (with_reducible apply Eff.by (State.modUsb_eff ..))
    | (with_reducible apply Eff.by (State.usbEvent_eff ..))
    | split

theorem State.suspendDone_eff (s : State) (p : Nat) :
    Eff 16778181 s (State.suspendDone s p) := by
  unfold State.suspendDone
  try dsimp only
  repeat' first
    | (with_reducible apply Eff.refl)
    | (with_reducible assumption)
    | decide
    | (with_reducible apply Eff.ite)
    | (with_reducible apply Eff.by (State.actionDone_eff ..))
    | (with_reducible apply Eff.by (State.driveResume_eff ..))
    | (with_reducible apply Eff.by (State.modUsb_eff ..))
    | split

theorem State.resumed_eff (s : State) (p : Nat) :
    Eff 25166847 s (State.resumed s p) := by
  unfold State.resumed
  try dsimp only
  repeat' first
    | (with_reducible apply Eff.refl)
    | (with_reducible assumption)
    | decide
    | (with_reducible apply Eff.ite)
    | (with_reducible apply Eff.by (State.modUsb_eff ..))
    | (with_reducible apply Eff.by (State.serve_eff ..))
    | (with_reducible apply Eff.by (State.supersede_eff ..))
    | (with_reducible apply Eff.by (State.toState_eff ..))
    | split

theorem State.remoteWaken_eff (s : State) (p device : Nat) :
    Eff 257 s (State.remoteWaken s p device) := by
  unfold State.remoteWaken
  try dsimp only
  repeat' first
    | (with_reducible apply Eff.refl)
    | (with_reducible assumption)
    | decide
    | (with_reducible apply Eff.ite)
    | (with_reducible apply Eff.by (State.driveResume_eff ..))
    | (with_reducible apply Eff.by (State.portEvent_eff ..))
    | (with_reducible apply Eff.by (State.usbEvent_eff ..))
    | split

theorem State.idleSuspend_eff (s : State) (p : Nat) :
    Eff 361 s (State.idleSuspend s p) := by
  unfold State.idleSuspend
  try dsimp only
  repeat' first
    | (with_reducible apply Eff.refl)
    | (with_reducible assumption)
    | decide
    | (with_reducible apply Eff.ite)
    | (with_reducible apply Eff.by (State.startSuspend_eff ..))
    | split

theorem State.itemWake_eff (s : State) (p : Nat) :
    Eff 1 s (State.itemWake s p) := by
  unfold State.itemWake
  try dsimp only
  repeat' first
    | (with_reducible apply Eff.refl)
    | (with_reducible assumption)
    | decide
    | (with_reducible apply Eff.ite)
    | (with_reducible apply Eff.by (State.driveResume_eff ..))
    | split

end Sys2Proof.Machine
end

