-- ==== Sys2Proof/Laws/EffParity.lean ====
section
/-!
SUPPORT. What the operations of Machine/Parity.lean may do to the state: one lemma for each (Laws/Effects.lean).
-/
set_option linter.unreachableTactic false
set_option linter.unusedTactic false

namespace Sys2Proof.Machine

theorem State.modVote_eff (s : State) (k : Nat) (f : Word → Word) :
    Eff 8192 s (State.modVote s k f) := by
  unfold State.modVote
  try dsimp only
  repeat' first
    | (with_reducible apply Eff.refl)
    | (with_reducible assumption)
    | decide
    | (with_reducible apply Eff.ite)
    | (with_reducible apply Eff.by (State.modRegs_eff ..))
    | split

theorem State.vote_eff (s : State) (k : Nat) :
    Eff 8192 s (State.vote s k) := by
  unfold State.vote
  try dsimp only
  repeat' first
    | (with_reducible apply Eff.refl)
    | (with_reducible assumption)
    | decide
    | (with_reducible apply Eff.ite)
    | (with_reducible apply Eff.by (State.modRegs_eff ..))
    | (with_reducible apply Eff.by (State.modVote_eff ..))
    | split

theorem State.voteUse_eff (s : State) (k : Nat) :
    Eff 8192 s (State.voteUse s k) := by
  unfold State.voteUse
  try dsimp only
  repeat' first
    | (with_reducible apply Eff.refl)
    | (with_reducible assumption)
    | decide
    | (with_reducible apply Eff.ite)
    | (with_reducible apply Eff.by (State.vote_eff ..))
    | split

theorem State.parityHit_eff (s : State) (a : Nat) :
    Eff 1059072 s (State.parityHit s a) := by
  unfold State.parityHit
  try dsimp only
  repeat' first
    | (with_reducible apply Eff.refl)
    | (with_reducible assumption)
    | decide
    | (with_reducible apply Eff.ite)
    | (with_reducible apply Eff.by (State.causeOn_eff ..))
    | (with_reducible apply Eff.by (State.fault_eff ..))
    | (with_reducible apply Eff.by (State.modRegs_eff ..))
    | split

theorem State.parityUse_eff (s : State) (a : Nat) :
    Eff 1059072 s (State.parityUse s a) := by
  unfold State.parityUse
  try dsimp only
  repeat' first
    | (with_reducible apply Eff.refl)
    | (with_reducible assumption)
    | decide
    | (with_reducible apply Eff.ite)
    | (with_reducible apply Eff.by (State.causeOff_eff ..))
    | (with_reducible apply Eff.by (State.modFlt_eff ..))
    | (with_reducible apply Eff.by (State.parityHit_eff ..))
    | split

theorem State.parityUses_eff (s : State) (l : List Nat) :
    Eff 1059072 s (State.parityUses s l) := by
  unfold State.parityUses
  try dsimp only
  repeat' first
    | (with_reducible apply Eff.refl)
    | (with_reducible assumption)
    | decide
    | (with_reducible apply Eff.ite)
    | (with_reducible apply Eff.foldl)
    | (with_reducible apply Eff.by (State.parityUse_eff ..))
    | split
    | (intro _)
    | (dsimp only)

theorem State.parityFresh_eff (s : State) (a : Nat) :
    Eff 1056768 s (State.parityFresh s a) := by
  unfold State.parityFresh
  try dsimp only
  repeat' first
    | (with_reducible apply Eff.refl)
    | (with_reducible assumption)
    | decide
    | (with_reducible apply Eff.ite)
    | (with_reducible apply Eff.by (State.causeOff_eff ..))
    | (with_reducible apply Eff.by (State.modRegs_eff ..))
    | split

end Sys2Proof.Machine
end

