-- ==== Sys2Proof/Laws/EffContracts.lean ====
section
/-!
SUPPORT. What the operations of Machine/Contracts.lean may do to the state: one lemma for each (Laws/Effects.lean).
-/
set_option linter.unreachableTactic false
set_option linter.unusedTactic false

namespace Sys2Proof.Machine

theorem State.joinQueue_eff (s : State) (p : Nat) :
    Eff 32 s (State.joinQueue s p) := by
  unfold State.joinQueue
  try dsimp only
  repeat' first
    | (with_reducible apply Eff.refl)
    | (with_reducible assumption)
    | decide
    | (with_reducible apply Eff.ite)
    | (with_reducible apply Eff.by (State.modGals_eff ..))
    | split

theorem State.leaveQueue_eff (s : State) (p : Nat) :
    Eff 32 s (State.leaveQueue s p) := by
  unfold State.leaveQueue
  try dsimp only
  repeat' first
    | (with_reducible apply Eff.refl)
    | (with_reducible assumption)
    | decide
    | (with_reducible apply Eff.ite)
    | (with_reducible apply Eff.by (State.modGals_eff ..))
    | split

theorem State.pmbus_eff (s : State) (p cmd arg : Nat) :
    Eff 0 s (State.pmbus s p cmd arg) := by
  unfold State.pmbus
  try dsimp only
  repeat' first
    | (with_reducible apply Eff.refl)
    | (with_reducible assumption)
    | decide
    | (with_reducible apply Eff.ite)
    | (with_reducible apply Eff.by (State.emit_eff ..))
    | split

theorem State.setVout_eff (s : State) (p mv : Nat) :
    Eff 2 s (State.setVout s p mv) := by
  unfold State.setVout
  try dsimp only
  repeat' first
    | (with_reducible apply Eff.refl)
    | (with_reducible assumption)
    | decide
    | (with_reducible apply Eff.ite)
    | (with_reducible apply Eff.by (State.modPwr_eff ..))
    | (with_reducible apply Eff.by (State.pmbus_eff ..))
    | split

theorem State.pd_eff (s : State) (p msg : Nat) (args : List Nat) :
    Eff 0 s (State.pd s p msg args) := by
  unfold State.pd
  try dsimp only
  repeat' first
    | (with_reducible apply Eff.refl)
    | (with_reducible assumption)
    | decide
    | (with_reducible apply Eff.ite)
    | (with_reducible apply Eff.by (State.emit_eff ..))
    | split

theorem State.setContract_eff (s : State) (p kind v c : Nat) :
    Eff 258 s (State.setContract s p kind v c) := by
  unfold State.setContract
  try dsimp only
  repeat' first
    | (with_reducible apply Eff.refl)
    | (with_reducible assumption)
    | decide
    | (with_reducible apply Eff.ite)
    | (with_reducible apply Eff.by (State.modPwr_eff ..))
    | (with_reducible apply Eff.by (State.portEvent_eff ..))
    | (with_reducible apply Eff.by (State.pwrEvent_eff ..))
    | split

theorem State.endContract_eff (s : State) (p : Nat) :
    Eff 2 s (State.endContract s p) := by
  unfold State.endContract
  try dsimp only
  repeat' first
    | (with_reducible apply Eff.refl)
    | (with_reducible assumption)
    | decide
    | (with_reducible apply Eff.ite)
    | (with_reducible apply Eff.by (State.modPwr_eff ..))
    | split

theorem State.typeC_eff (s : State) (p : Nat) :
    Eff 258 s (State.typeC s p) := by
  unfold State.typeC
  try dsimp only
  repeat' first
    | (with_reducible apply Eff.refl)
    | (with_reducible assumption)
    | decide
    | (with_reducible apply Eff.ite)
    | (with_reducible apply Eff.by (State.modPwr_eff ..))
    | (with_reducible apply Eff.by (State.setContract_eff ..))
    | split

theorem State.vconnOff_eff (s : State) (p : Nat) :
    Eff 2 s (State.vconnOff s p) := by
  unfold State.vconnOff
  try dsimp only
  repeat' first
    | (with_reducible apply Eff.refl)
    | (with_reducible assumption)
    | decide
    | (with_reducible apply Eff.ite)
    | (with_reducible apply Eff.by (State.emit_eff ..))
    | (with_reducible apply Eff.by (State.modPwr_eff ..))
    | split

theorem State.vconnApply_eff (s : State) (p : Nat) :
    Eff 8450 s (State.vconnApply s p) := by
  unfold State.vconnApply
  try dsimp only
  repeat' first
    | (with_reducible apply Eff.refl)
    | (with_reducible assumption)
    | decide
    | (with_reducible apply Eff.ite)
    | (with_reducible apply Eff.by (State.emit_eff ..))
    | (with_reducible apply Eff.by (State.modPwr_eff ..))
    | (with_reducible apply Eff.by (State.pwrEvent_eff ..))
    | (with_reducible apply Eff.by (State.voteUse_eff ..))
    | split

theorem State.sendCaps_eff (s : State) (p : Nat) :
    Eff 2 s (State.sendCaps s p) := by
  unfold State.sendCaps
  try dsimp only
  repeat' first
    | (with_reducible apply Eff.refl)
    | (with_reducible assumption)
    | decide
    | (with_reducible apply Eff.ite)
    | (with_reducible apply Eff.by (State.modPwr_eff ..))
    | (with_reducible apply Eff.by (State.pd_eff ..))
    | split

theorem State.takeC_eff (s : State) (p : Nat) :
    Eff 1056 s (State.takeC s p) := by
  unfold State.takeC
  try dsimp only
  repeat' first
    | (with_reducible apply Eff.refl)
    | (with_reducible assumption)
    | decide
    | (with_reducible apply Eff.ite)
    | (with_reducible apply Eff.by (State.applyC_eff ..))
    | (with_reducible apply Eff.by (State.leaveQueue_eff ..))
    | split

theorem State.renegotiate_eff (s : State) (p : Nat) :
    Eff 1314 s (State.renegotiate s p) := by
  unfold State.renegotiate
  try dsimp only
  repeat' first
    | (with_reducible apply Eff.refl)
    | (with_reducible assumption)
    | decide
    | (with_reducible apply Eff.ite)
    | (with_reducible apply Eff.by (State.modPwr_eff ..))
    | (with_reducible apply Eff.by (State.sendCaps_eff ..))
    | (with_reducible apply Eff.by (State.takeC_eff ..))
    | (with_reducible apply Eff.by (State.typeC_eff ..))
    | split

theorem State.negotDone_eff (s : State) (p : Nat) :
    Eff 1314 s (State.negotDone s p) := by
  unfold State.negotDone
  try dsimp only
  repeat' first
    | (with_reducible apply Eff.refl)
    | (with_reducible assumption)
    | decide
    | (with_reducible apply Eff.ite)
    | (with_reducible apply Eff.by (State.modPwr_eff ..))
    | (with_reducible apply Eff.by (State.renegotiate_eff ..))
    | split

theorem State.contractStart_eff (s : State) (p : Nat) :
    Eff 8450 s (State.contractStart s p) := by
  unfold State.contractStart
  try dsimp only
  repeat' first
    | (with_reducible apply Eff.refl)
    | (with_reducible assumption)
    | decide
    | (with_reducible apply Eff.ite)
    | (with_reducible apply Eff.by (State.modPwr_eff ..))
    | (with_reducible apply Eff.by (State.typeC_eff ..))
    | (with_reducible apply Eff.by (State.vconnApply_eff ..))
    | split

theorem State.accepted_eff (s : State) (p v c : Nat) :
    Eff 2 s (State.accepted s p v c) := by
  unfold State.accepted
  try dsimp only
  repeat' first
    | (with_reducible apply Eff.refl)
    | (with_reducible assumption)
    | decide
    | (with_reducible apply Eff.ite)
    | (with_reducible apply Eff.by (State.modPwr_eff ..))
    | split

end Sys2Proof.Machine
end

