-- ==== Sys2Proof/Laws/EffSwitch.lean ====
section
/-!
SUPPORT. What the operations of Machine/Switch.lean may do to the state: one lemma for each (Laws/Effects.lean).
-/
set_option linter.unreachableTactic false
set_option linter.unusedTactic false

namespace Sys2Proof.Machine

theorem State.setAllowed_eff (s : State) (p : Nat) (b : Bool) :
    Eff 8197 s (State.setAllowed s p b) := by
  unfold State.setAllowed
  try dsimp only
  repeat' first
    | (with_reducible apply Eff.refl)
    | (with_reducible assumption)
    | decide
    | (with_reducible apply Eff.ite)
    | (with_reducible apply Eff.by (State.modProt_eff ..))
    | (with_reducible apply Eff.by (State.modUsb_eff ..))
    | (with_reducible apply Eff.by (State.modVote_eff ..))
    | split

theorem State.setVconnAllowed_eff (s : State) (p : Nat) (b : Bool) :
    Eff 8194 s (State.setVconnAllowed s p b) := by
  unfold State.setVconnAllowed
  try dsimp only
  repeat' first
    | (with_reducible apply Eff.refl)
    | (with_reducible assumption)
    | decide
    | (with_reducible apply Eff.ite)
    | (with_reducible apply Eff.by (State.modPwr_eff ..))
    | (with_reducible apply Eff.by (State.modVote_eff ..))
    | split

theorem State.setFast_eff (s : State) (p : Nat) :
    Eff 8196 s (State.setFast s p) := by
  unfold State.setFast
  try dsimp only
  repeat' first
    | (with_reducible apply Eff.refl)
    | (with_reducible assumption)
    | decide
    | (with_reducible apply Eff.ite)
    | (with_reducible apply Eff.by (State.modProt_eff ..))
    | (with_reducible apply Eff.by (State.modVote_eff ..))
    | split

theorem State.takeV_eff (s : State) (p : Nat) :
    Eff 9222 s (State.takeV s p) := by
  unfold State.takeV
  try dsimp only
  repeat' first
    | (with_reducible apply Eff.refl)
    | (with_reducible assumption)
    | decide
    | (with_reducible apply Eff.ite)
    | (with_reducible apply Eff.by (State.applyV_eff ..))
    | (with_reducible apply Eff.by (State.setFast_eff ..))
    | (with_reducible apply Eff.by (State.setVconnAllowed_eff ..))
    | split

theorem State.finishAll_eff (s : State) (ks : List Nat) (out det : Nat) :
    Eff 16778181 s (State.finishAll s ks out det) := by
  unfold State.finishAll
  try dsimp only
  repeat' first
    | (with_reducible apply Eff.refl)
    | (with_reducible assumption)
    | decide
    | (with_reducible apply Eff.ite)
    | (with_reducible apply Eff.foldl)
    | (with_reducible apply Eff.by (State.finish_eff ..))
    | split
    | (intro _)
    | (dsimp only)

theorem State.onDone_eff (s : State) (p out : Nat) :
    Eff 16778181 s (State.onDone s p out) := by
  unfold State.onDone
  try dsimp only
  repeat' first
    | (with_reducible apply Eff.refl)
    | (with_reducible assumption)
    | decide
    | (with_reducible apply Eff.ite)
    | (with_reducible apply Eff.by (State.finishAll_eff ..))
    | (with_reducible apply Eff.by (State.modProt_eff ..))
    | split

theorem State.offDone_eff (s : State) (p out : Nat) :
    Eff 16778181 s (State.offDone s p out) := by
  unfold State.offDone
  try dsimp only
  repeat' first
    | (with_reducible apply Eff.refl)
    | (with_reducible assumption)
    | decide
    | (with_reducible apply Eff.ite)
    | (with_reducible apply Eff.by (State.finishAll_eff ..))
    | (with_reducible apply Eff.by (State.modProt_eff ..))
    | split

theorem State.joinOn_eff (s : State) (p : Nat) (k : Option Nat) :
    Eff 4 s (State.joinOn s p k) := by
  unfold State.joinOn
  try dsimp only
  repeat' first
    | (with_reducible apply Eff.refl)
    | (with_reducible assumption)
    | decide
    | (with_reducible apply Eff.ite)
    | (with_reducible apply Eff.by (State.modProt_eff ..))
    | split

theorem State.joinOff_eff (s : State) (p : Nat) (k : Option Nat) :
    Eff 4 s (State.joinOff s p k) := by
  unfold State.joinOff
  try dsimp only
  repeat' first
    | (with_reducible apply Eff.refl)
    | (with_reducible assumption)
    | decide
    | (with_reducible apply Eff.ite)
    | (with_reducible apply Eff.by (State.modProt_eff ..))
    | split

theorem State.startRamp_eff (s : State) (p : Nat) :
    Eff 8199 s (State.startRamp s p) := by
  unfold State.startRamp
  try dsimp only
  repeat' first
    | (with_reducible apply Eff.refl)
    | (with_reducible assumption)
    | decide
    | (with_reducible apply Eff.ite)
    | (with_reducible apply Eff.by (State.modProt_eff ..))
    | (with_reducible apply Eff.by (State.setAllowed_eff ..))
    | (with_reducible apply Eff.by (State.setVout_eff ..))
    | split

theorem State.startDrain_eff (s : State) (p : Nat) :
    Eff 8197 s (State.startDrain s p) := by
  unfold State.startDrain
  try dsimp only
  repeat' first
    | (with_reducible apply Eff.refl)
    | (with_reducible assumption)
    | decide
    | (with_reducible apply Eff.ite)
    | (with_reducible apply Eff.by (State.modProt_eff ..))
    | (with_reducible apply Eff.by (State.setAllowed_eff ..))
    | split

theorem State.toOff_eff (s : State) (p : Nat) :
    Eff 16787439 s (State.toOff s p) := by
  unfold State.toOff
  try dsimp only
  repeat' first
    | (with_reducible apply Eff.refl)
    | (with_reducible assumption)
    | decide
    | (with_reducible apply Eff.ite)
    | (with_reducible apply Eff.by (State.modProt_eff ..))
    | (with_reducible apply Eff.by (State.offDone_eff ..))
    | (with_reducible apply Eff.by (State.onDone_eff ..))
    | (with_reducible apply Eff.by (State.portOff_eff ..))
    | (with_reducible apply Eff.by (State.setAllowed_eff ..))
    | (with_reducible apply Eff.by (State.takeV_eff ..))
    | split

theorem State.toLocked_eff (s : State) (p : Nat) :
    Eff 8197 s (State.toLocked s p) := by
  unfold State.toLocked
  try dsimp only
  repeat' first
    | (with_reducible apply Eff.refl)
    | (with_reducible assumption)
    | decide
    | (with_reducible apply Eff.ite)
    | (with_reducible apply Eff.by (State.modProt_eff ..))
    | (with_reducible apply Eff.by (State.setAllowed_eff ..))
    | split

theorem State.withhold_eff (s : State) (p : Nat) :
    Eff 34 s (State.withhold s p) := by
  unfold State.withhold
  try dsimp only
  repeat' first
    | (with_reducible apply Eff.refl)
    | (with_reducible assumption)
    | decide
    | (with_reducible apply Eff.ite)
    | (with_reducible apply Eff.by (State.endContract_eff ..))
    | (with_reducible apply Eff.by (State.leaveQueue_eff ..))
    | (with_reducible apply Eff.by (State.modPwr_eff ..))
    | (with_reducible apply Eff.by (State.vconnOff_eff ..))
    | split

theorem State.holdReq_eff (s : State) (p kind : Nat) (k : Option Nat) :
    Eff 4 s (State.holdReq s p kind k) := by
  unfold State.holdReq
  try dsimp only
  repeat' first
    | (with_reducible apply Eff.refl)
    | (with_reducible assumption)
    | decide
    | (with_reducible apply Eff.ite)
    | (with_reducible apply Eff.by (State.modProt_eff ..))
    | split

theorem State.swOn_eff (s : State) (p : Nat) (k : Option Nat) :
    Eff 16786375 s (State.swOn s p k) := by
  unfold State.swOn
  try dsimp only
  repeat' first
    | (with_reducible apply Eff.refl)
    | (with_reducible assumption)
    | decide
    | (with_reducible apply Eff.ite)
    | (with_reducible apply Eff.by (State.finishO_eff ..))
    | (with_reducible apply Eff.by (State.holdReq_eff ..))
    | (with_reducible apply Eff.by (State.joinOn_eff ..))
    | (with_reducible apply Eff.by (State.modProt_eff ..))
    | (with_reducible apply Eff.by (State.offDone_eff ..))
    | (with_reducible apply Eff.by (State.startRamp_eff ..))
    | split

theorem State.swOff_eff (s : State) (p : Nat) (k : Option Nat) :
    Eff 16787439 s (State.swOff s p k) := by
  unfold State.swOff
  try dsimp only
  repeat' first
    | (with_reducible apply Eff.refl)
    | (with_reducible assumption)
    | decide
    | (with_reducible apply Eff.ite)
    | (with_reducible apply Eff.by (State.finishO_eff ..))
    | (with_reducible apply Eff.by (State.holdReq_eff ..))
    | (with_reducible apply Eff.by (State.joinOff_eff ..))
    | (with_reducible apply Eff.by (State.modProt_eff ..))
    | (with_reducible apply Eff.by (State.onDone_eff ..))
    | (with_reducible apply Eff.by (State.startDrain_eff ..))
    | (with_reducible apply Eff.by (State.toOff_eff ..))
    | split

theorem State.swDetach_eff (s : State) (p : Nat) :
    Eff 16787439 s (State.swDetach s p) := by
  unfold State.swDetach
  try dsimp only
  repeat' first
    | (with_reducible apply Eff.refl)
    | (with_reducible assumption)
    | decide
    | (with_reducible apply Eff.ite)
    | (with_reducible apply Eff.by (State.holdReq_eff ..))
    | (with_reducible apply Eff.by (State.modProt_eff ..))
    | (with_reducible apply Eff.by (State.swOff_eff ..))
    | (with_reducible apply Eff.by (State.toOff_eff ..))
    | split

theorem State.trip_eff (s : State) (p cause bp : Nat) :
    Eff 16786413 s (State.trip s p cause bp) := by
  unfold State.trip
  try dsimp only
  repeat' first
    | (with_reducible apply Eff.refl)
    | (with_reducible assumption)
    | decide
    | (with_reducible apply Eff.ite)
    | (with_reducible apply Eff.by (State.modProt_eff ..))
    | (with_reducible apply Eff.by (State.portTrip_eff ..))
    | (with_reducible apply Eff.by (State.protEvent_eff ..))
    | (with_reducible apply Eff.by (State.startDrain_eff ..))
    | split

theorem State.safePoint_eff (s : State) (p : Nat) :
    Eff 8197 s (State.safePoint s p) := by
  unfold State.safePoint
  try dsimp only
  repeat' first
    | (with_reducible apply Eff.refl)
    | (with_reducible assumption)
    | decide
    | (with_reducible apply Eff.ite)
    | (with_reducible apply Eff.by (State.modProt_eff ..))
    | (with_reducible apply Eff.by (State.startDrain_eff ..))
    | split

theorem State.raiseGood_eff (s : State) (p : Nat) :
    Eff 16786415 s (State.raiseGood s p) := by
  unfold State.raiseGood
  try dsimp only
  repeat' first
    | (with_reducible apply Eff.refl)
    | (with_reducible assumption)
    | decide
    | (with_reducible apply Eff.ite)
    | (with_reducible apply Eff.by (State.contractStart_eff ..))
    | (with_reducible apply Eff.by (State.onDone_eff ..))
    | (with_reducible apply Eff.by (State.portGood_eff ..))
    | split

theorem State.settled_eff (s : State) (p : Nat) :
    Eff 16786415 s (State.settled s p) := by
  unfold State.settled
  try dsimp only
  repeat' first
    | (with_reducible apply Eff.refl)
    | (with_reducible assumption)
    | decide
    | (with_reducible apply Eff.ite)
    | (with_reducible apply Eff.by (State.modProt_eff ..))
    | (with_reducible apply Eff.by (State.raiseGood_eff ..))
    | (with_reducible apply Eff.by (State.safePoint_eff ..))
    | split

theorem State.exhausted_eff (s : State) (p : Nat) :
    Eff 17838063 s (State.exhausted s p) := by
  unfold State.exhausted
  try dsimp only
  repeat' first
    | (with_reducible apply Eff.refl)
    | (with_reducible assumption)
    | decide
    | (with_reducible apply Eff.ite)
    | (with_reducible apply Eff.by (State.modProt_eff ..))
    | (with_reducible apply Eff.by (State.note_eff ..))
    | (with_reducible apply Eff.by (State.offDone_eff ..))
    | (with_reducible apply Eff.by (State.onDone_eff ..))
    | (with_reducible apply Eff.by (State.portExhausted_eff ..))
    | (with_reducible apply Eff.by (State.protEvent_eff ..))
    | (with_reducible apply Eff.by (State.takeV_eff ..))
    | (with_reducible apply Eff.by (State.toLocked_eff ..))
    | (with_reducible apply Eff.by (State.withhold_eff ..))
    | split

theorem State.drainedVbus_eff (s : State) (p : Nat) :
    Eff 17838063 s (State.drainedVbus s p) := by
  unfold State.drainedVbus
  try dsimp only
  repeat' first
    | (with_reducible apply Eff.refl)
    | (with_reducible assumption)
    | decide
    | (with_reducible apply Eff.ite)
    | (with_reducible apply Eff.by (State.exhausted_eff ..))
    | (with_reducible apply Eff.by (State.modProt_eff ..))
    | (with_reducible apply Eff.by (State.offDone_eff ..))
    | (with_reducible apply Eff.by (State.startRamp_eff ..))
    | (with_reducible apply Eff.by (State.takeV_eff ..))
    | (with_reducible apply Eff.by (State.toOff_eff ..))
    | split

theorem State.stuckOn_eff (s : State) (p : Nat) :
    Eff 17837039 s (State.stuckOn s p) := by
  unfold State.stuckOn
  try dsimp only
  repeat' first
    | (with_reducible apply Eff.refl)
    | (with_reducible assumption)
    | decide
    | (with_reducible apply Eff.ite)
    | (with_reducible apply Eff.by (State.fault_eff ..))
    | (with_reducible apply Eff.by (State.modProt_eff ..))
    | (with_reducible apply Eff.by (State.offDone_eff ..))
    | (with_reducible apply Eff.by (State.onDone_eff ..))
    | (with_reducible apply Eff.by (State.pmbus_eff ..))
    | (with_reducible apply Eff.by (State.portContain_eff ..))
    | (with_reducible apply Eff.by (State.protEvent_eff ..))
    | (with_reducible apply Eff.by (State.toLocked_eff ..))
    | (with_reducible apply Eff.by (State.withhold_eff ..))
    | split

theorem State.retry_eff (s : State) (p : Nat) (st : StageStatus) :
    Eff 17836015 s (State.retry s p st) := by
  unfold State.retry
  try dsimp only
  repeat' first
    | (with_reducible apply Eff.refl)
    | (with_reducible assumption)
    | decide
    | (with_reducible apply Eff.ite)
    | (with_reducible apply Eff.by (State.causeOff_eff ..))
    | (with_reducible apply Eff.by (State.modProt_eff ..))
    | (with_reducible apply Eff.by (State.modPwr_eff ..))
    | (with_reducible apply Eff.by (State.pmbus_eff ..))
    | (with_reducible apply Eff.by (State.startRamp_eff ..))
    | (with_reducible apply Eff.by (State.toOff_eff ..))
    | (with_reducible apply Eff.by (State.trip_eff ..))
    | split

theorem State.retryCleared_eff (s : State) (p : Nat) :
    Eff 260 s (State.retryCleared s p) := by
  unfold State.retryCleared
  try dsimp only
  repeat' first
    | (with_reducible apply Eff.refl)
    | (with_reducible assumption)
    | decide
    | (with_reducible apply Eff.ite)
    | (with_reducible apply Eff.by (State.modProt_eff ..))
    | (with_reducible apply Eff.by (State.protEvent_eff ..))
    | split

theorem State.releasePort_eff (s : State) (p : Nat) :
    Eff 16787439 s (State.releasePort s p) := by
  unfold State.releasePort
  try dsimp only
  repeat' first
    | (with_reducible apply Eff.refl)
    | (with_reducible assumption)
    | decide
    | (with_reducible apply Eff.ite)
    | (with_reducible apply Eff.by (State.modProt_eff ..))
    | (with_reducible apply Eff.by (State.portRelease_eff ..))
    | (with_reducible apply Eff.by (State.setAllowed_eff ..))
    | (with_reducible apply Eff.by (State.takeV_eff ..))
    | split

theorem State.withholdOff_eff (s : State) (p : Nat) (k : Option Nat) :
    Eff 16787439 s (State.withholdOff s p k) := by
  unfold State.withholdOff
  try dsimp only
  repeat' first
    | (with_reducible apply Eff.refl)
    | (with_reducible assumption)
    | decide
    | (with_reducible apply Eff.ite)
    | (with_reducible apply Eff.by (State.holdReq_eff ..))
    | (with_reducible apply Eff.by (State.swOff_eff ..))
    | (with_reducible apply Eff.by (State.withhold_eff ..))
    | split

theorem State.containPort_eff (s : State) (src inst p : Nat) :
    Eff 16787439 s (State.containPort s src inst p) := by
  unfold State.containPort
  try dsimp only
  repeat' first
    | (with_reducible apply Eff.refl)
    | (with_reducible assumption)
    | decide
    | (with_reducible apply Eff.ite)
    | (with_reducible apply Eff.by (State.leaveQueue_eff ..))
    | (with_reducible apply Eff.by (State.portContain_eff ..))
    | (with_reducible apply Eff.by (State.withholdOff_eff ..))
    | split

theorem State.measure_eff (s : State) (p : Nat) :
    Eff 4 s (State.measure s p) := by
  unfold State.measure
  try dsimp only
  repeat' first
    | (with_reducible apply Eff.refl)
    | (with_reducible assumption)
    | decide
    | (with_reducible apply Eff.ite)
    | (with_reducible apply Eff.by (State.modProt_eff ..))
    | split

theorem State.measured_eff (s : State) (p : Nat) (off : Int) :
    Eff 1059077 s (State.measured s p off) := by
  unfold State.measured
  try dsimp only
  repeat' first
    | (with_reducible apply Eff.refl)
    | (with_reducible assumption)
    | decide
    | (with_reducible apply Eff.ite)
    | (with_reducible apply Eff.by (State.modProt_eff ..))
    | (with_reducible apply Eff.by (State.note_eff ..))
    | (with_reducible apply Eff.by (State.protEvent_eff ..))
    | (with_reducible apply Eff.by (State.safePoint_eff ..))
    | split

theorem State.precharged_eff (s : State) (p : Nat) :
    Eff 8197 s (State.precharged s p) := by
  unfold State.precharged
  try dsimp only
  repeat' first
    | (with_reducible apply Eff.refl)
    | (with_reducible assumption)
    | decide
    | (with_reducible apply Eff.ite)
    | (with_reducible apply Eff.by (State.modProt_eff ..))
    | (with_reducible apply Eff.by (State.safePoint_eff ..))
    | split

theorem State.keepSettings_eff (s : State) (p : Nat) :
    Eff 4 s (State.keepSettings s p) := by
  unfold State.keepSettings
  try dsimp only
  repeat' first
    | (with_reducible apply Eff.refl)
    | (with_reducible assumption)
    | decide
    | (with_reducible apply Eff.ite)
    | (with_reducible apply Eff.by (State.modProt_eff ..))
    | split

theorem State.ccDetach_eff (s : State) (p : Nat) :
    Eff 16787439 s (State.ccDetach s p) := by
  unfold State.ccDetach
  try dsimp only
  repeat' first
    | (with_reducible apply Eff.refl)
    | (with_reducible assumption)
    | decide
    | (with_reducible apply Eff.ite)
    | (with_reducible apply Eff.by (State.endContract_eff ..))
    | (with_reducible apply Eff.by (State.leaveQueue_eff ..))
    | (with_reducible apply Eff.by (State.modPwr_eff ..))
    | (with_reducible apply Eff.by (State.pwrEvent_eff ..))
    | (with_reducible apply Eff.by (State.swDetach_eff ..))
    | (with_reducible apply Eff.by (State.vconnOff_eff ..))
    | split

theorem State.takeSettings_eff (s : State) (p : Nat) :
    Eff 16787439 s (State.takeSettings s p) := by
  unfold State.takeSettings
  try dsimp only
  repeat' first
    | (with_reducible apply Eff.refl)
    | (with_reducible assumption)
    | decide
    | (with_reducible apply Eff.ite)
    | (with_reducible apply Eff.foldl)
    | (with_reducible apply Eff.by (State.ccDetach_eff ..))
    | (with_reducible apply Eff.by (State.modProt_eff ..))
    | (with_reducible apply Eff.by (State.setFast_eff ..))
    | (with_reducible apply Eff.by (State.swDetach_eff ..))
    | (with_reducible apply Eff.by (State.swOff_eff ..))
    | (with_reducible apply Eff.by (State.swOn_eff ..))
    | (with_reducible apply Eff.by (State.withhold_eff ..))
    | split
    | (intro _)
    | (dsimp only)

theorem State.accumulate_eff (s : State) (p : Nat) (i : Int) (vbus : Nat) :
    Eff 4 s (State.accumulate s p i vbus) := by
  unfold State.accumulate
  try dsimp only
  repeat' first
    | (with_reducible apply Eff.refl)
    | (with_reducible assumption)
    | decide
    | (with_reducible apply Eff.ite)
    | (with_reducible apply Eff.by (State.modProt_eff ..))
    | split

theorem State.sample_eff (s : State) (p : Nat) (raw : Int) (vbus : Nat) :
    Eff 16786413 s (State.sample s p raw vbus) := by
  unfold State.sample
  try dsimp only
  repeat' first
    | (with_reducible apply Eff.refl)
    | (with_reducible assumption)
    | decide
    | (with_reducible apply Eff.ite)
    | (with_reducible apply Eff.by (State.accumulate_eff ..))
    | (with_reducible apply Eff.by (State.modProt_eff ..))
    | (with_reducible apply Eff.by (State.trip_eff ..))
    | split

end Sys2Proof.Machine
end

