-- ==== Sys2Proof/Laws/EffAccess.lean ====
section
/-!
SUPPORT. What the operations of Machine/Access.lean may do to the state: one lemma for each (Laws/Effects.lean).
-/
set_option linter.unreachableTactic false
set_option linter.unusedTactic false

namespace Sys2Proof.Machine

theorem State.viaWrite_eff {m : Nat} (_hm : Covers 0 m) (s : State) (path : Path) (idx sub : Nat) (f : State → State × Nat)
    (hf : ∀ x0, Eff m x0 (f x0).1) :
    Eff m s (State.viaWrite s path idx sub f) := by
  unfold State.viaWrite
  try dsimp only
  repeat' first
    | (with_reducible apply Eff.refl)
    | (with_reducible assumption)
    | exact _hm
    | exact Covers.trans (by decide) _hm
    | exact Covers.refl _
    | decide
    | (with_reducible apply Eff.ite)
    | (with_reducible apply Eff.by (hf ..))
    | (with_reducible apply Eff.by (State.emit_eff ..))
    | split
    | (intro _)
    | (dsimp only)

end Sys2Proof.Machine
end

