-- ==== Sys2Proof/Laws/EffRegistrar.lean ====
section
/-!
SUPPORT. What the operations of Machine/Registrar.lean may do to the state: one lemma for each (Laws/Effects.lean).
-/
set_option linter.unreachableTactic false
set_option linter.unusedTactic false

namespace Sys2Proof.Machine

theorem State.request_eff (s : State) (p a typ req value index len : Nat) :
    Eff 25166839 s (State.request s p a typ req value index len) := by
  unfold State.request
  try dsimp only
  repeat' first
    | (with_reducible apply Eff.refl)
    | (with_reducible assumption)
    | decide
    | (with_reducible apply Eff.ite)
    | (with_reducible apply Eff.by (State.ask_eff ..))
    | (with_reducible apply Eff.by (State.serve_eff ..))
    | split

theorem State.tellHub_eff (s : State) (p a typ req value index : Nat) :
    Eff 25166839 s (State.tellHub s p a typ req value index) := by
  unfold State.tellHub
  try dsimp only
  repeat' first
    | (with_reducible apply Eff.refl)
    | (with_reducible assumption)
    | decide
    | (with_reducible apply Eff.ite)
    | (with_reducible apply Eff.by (State.ask_eff ..))
    | (with_reducible apply Eff.by (State.serve_eff ..))
    | split

theorem State.modHead_eff (s : State) (p : Nat) (f : Enum → Enum) :
    Eff 1 s (State.modHead s p f) := by
  unfold State.modHead
  try dsimp only
  repeat' first
    | (with_reducible apply Eff.refl)
    | (with_reducible assumption)
    | decide
    | (with_reducible apply Eff.ite)
    | (with_reducible apply Eff.by (State.modUsb_eff ..))
    | split

theorem State.dropHead_eff (s : State) (p : Nat) :
    Eff 97 s (State.dropHead s p) := by
  unfold State.dropHead
  try dsimp only
  repeat' first
    | (with_reducible apply Eff.refl)
    | (with_reducible assumption)
    | decide
    | (with_reducible apply Eff.ite)
    | (with_reducible apply Eff.by (State.askDone_eff ..))
    | (with_reducible apply Eff.by (State.modUsb_eff ..))
    | split

theorem State.sendStep_eff (s : State) (p : Nat) (e : Enum) :
    Eff 25166839 s (State.sendStep s p e) := by
  unfold State.sendStep
  try dsimp only
  repeat' first
    | (with_reducible apply Eff.refl)
    | (with_reducible assumption)
    | decide
    | (with_reducible apply Eff.ite)
    | (with_reducible apply Eff.by (State.ask_eff ..))
    | (with_reducible apply Eff.by (State.request_eff ..))
    | (with_reducible apply Eff.by (State.serve_eff ..))
    | (with_reducible apply Eff.by (State.tellHub_eff ..))
    | split

theorem State.toStep_eff (s : State) (p : Nat) (st : EnumStep) :
    Eff 25166839 s (State.toStep s p st) := by
  unfold State.toStep
  try dsimp only
  repeat' first
    | (with_reducible apply Eff.refl)
    | (with_reducible assumption)
    | decide
    | (with_reducible apply Eff.ite)
    | (with_reducible apply Eff.by (State.modHead_eff ..))
    | (with_reducible apply Eff.by (State.sendStep_eff ..))
    | split

theorem State.giveAddress_eff (s : State) (p : Nat) (e : Enum) :
    Eff 25166839 s (State.giveAddress s p e) := by
  unfold State.giveAddress
  try dsimp only
  repeat' first
    | (with_reducible apply Eff.refl)
    | (with_reducible assumption)
    | decide
    | (with_reducible apply Eff.ite)
    | (with_reducible apply Eff.by (State.modHead_eff ..))
    | (with_reducible apply Eff.by (State.toStep_eff ..))
    | split

theorem State.nextEnum_eff (s : State) (p : Nat) :
    Eff 25166839 s (State.nextEnum s p) := by
  unfold State.nextEnum
  try dsimp only
  repeat' first
    | (with_reducible apply Eff.refl)
    | (with_reducible assumption)
    | decide
    | (with_reducible apply Eff.ite)
    | (with_reducible apply Eff.by (State.toStep_eff ..))
    | split

theorem State.queueEnum_eff (s : State) (p parent parentPort depth prev : Nat) (sp : Speed) :
    Eff 25166839 s (State.queueEnum s p parent parentPort depth prev sp) := by
  unfold State.queueEnum
  try dsimp only
  repeat' first
    | (with_reducible apply Eff.refl)
    | (with_reducible assumption)
    | decide
    | (with_reducible apply Eff.ite)
    | (with_reducible apply Eff.by (State.modUsb_eff ..))
    | (with_reducible apply Eff.by (State.nextEnum_eff ..))
    | split

theorem State.enumRoot_eff (s : State) (p : Nat) :
    Eff 25166839 s (State.enumRoot s p) := by
  unfold State.enumRoot
  try dsimp only
  repeat' first
    | (with_reducible apply Eff.refl)
    | (with_reducible assumption)
    | decide
    | (with_reducible apply Eff.ite)
    | (with_reducible apply Eff.by (State.modUsb_eff ..))
    | (with_reducible apply Eff.by (State.nextEnum_eff ..))
    | (with_reducible apply Eff.by (State.queueEnum_eff ..))
    | split

theorem State.disableHubPort_eff (s : State) (p hub n : Nat) :
    Eff 25166839 s (State.disableHubPort s p hub n) := by
  unfold State.disableHubPort
  try dsimp only
  repeat' first
    | (with_reducible apply Eff.refl)
    | (with_reducible assumption)
    | decide
    | (with_reducible apply Eff.ite)
    | (with_reducible apply Eff.by (State.tellHub_eff ..))
    | split

theorem State.enumFail_eff (s : State) (p : Nat) :
    Eff 25166847 s (State.enumFail s p) := by
  unfold State.enumFail
  try dsimp only
  repeat' first
    | (with_reducible apply Eff.refl)
    | (with_reducible assumption)
    | decide
    | (with_reducible apply Eff.ite)
    | (with_reducible apply Eff.by (State.deviceGone_eff ..))
    | (with_reducible apply Eff.by (State.disableHubPort_eff ..))
    | (with_reducible apply Eff.by (State.dropHead_eff ..))
    | (with_reducible apply Eff.by (State.endDeferred_eff ..))
    | (with_reducible apply Eff.by (State.modHead_eff ..))
    | (with_reducible apply Eff.by (State.modUsb_eff ..))
    | (with_reducible apply Eff.by (State.nextEnum_eff ..))
    | (with_reducible apply Eff.by (State.startReset_eff ..))
    | (with_reducible apply Eff.by (State.toState_eff ..))
    | (with_reducible apply Eff.by (State.usbEvent_eff ..))
    | split

theorem State.hubPipe_eff (s : State) (p a : Nat) (sp : Speed) :
    Eff 64 s (State.hubPipe s p a sp) := by
  unfold State.hubPipe
  try dsimp only
  repeat' first
    | (with_reducible apply Eff.refl)
    | (with_reducible assumption)
    | decide
    | (with_reducible apply Eff.ite)
    | (with_reducible apply Eff.by (State.setPipes_eff ..))
    | split

theorem State.arrived_eff (s : State) (p : Nat) (e : Enum) :
    Eff 25166839 s (State.arrived s p e) := by
  unfold State.arrived
  try dsimp only
  repeat' first
    | (with_reducible apply Eff.refl)
    | (with_reducible assumption)
    | decide
    | (with_reducible apply Eff.ite)
    | (with_reducible apply Eff.foldl)
    | (with_reducible apply Eff.by (State.dropHead_eff ..))
    | (with_reducible apply Eff.by (State.hubPipe_eff ..))
    | (with_reducible apply Eff.by (State.modUsb_eff ..))
    | (with_reducible apply Eff.by (State.nextEnum_eff ..))
    | (with_reducible apply Eff.by (State.portEvent_eff ..))
    | (with_reducible apply Eff.by (State.setPipes_eff ..))
    | split
    | (intro _)
    | (dsimp only)

theorem State.powerPorts_eff (s : State) (p a n : Nat) :
    Eff 25166839 s (State.powerPorts s p a n) := by
  unfold State.powerPorts
  try dsimp only
  repeat' first
    | (with_reducible apply Eff.refl)
    | (with_reducible assumption)
    | decide
    | (with_reducible apply Eff.ite)
    | (with_reducible apply Eff.foldl)
    | (with_reducible apply Eff.by (State.tellHub_eff ..))
    | split
    | (intro _)
    | (dsimp only)

theorem State.afterStrings_eff (s : State) (p : Nat) (e : Enum) :
    Eff 25166839 s (State.afterStrings s p e) := by
  unfold State.afterStrings
  try dsimp only
  repeat' first
    | (with_reducible apply Eff.refl)
    | (with_reducible assumption)
    | decide
    | (with_reducible apply Eff.ite)
    | (with_reducible apply Eff.by (State.arrived_eff ..))
    | (with_reducible apply Eff.by (State.toStep_eff ..))
    | split

theorem State.restoreOk_eff (s : State) (p : Nat) :
    Eff 25166847 s (State.restoreOk s p) := by
  unfold State.restoreOk
  try dsimp only
  repeat' first
    | (with_reducible apply Eff.refl)
    | (with_reducible assumption)
    | decide
    | (with_reducible apply Eff.ite)
    | (with_reducible apply Eff.by (State.applyDeferred_eff ..))
    | (with_reducible apply Eff.by (State.modUsb_eff ..))
    | (with_reducible apply Eff.by (State.nextEnum_eff ..))
    | (with_reducible apply Eff.by (State.serve_eff ..))
    | (with_reducible apply Eff.by (State.usbEvent_eff ..))
    | split

theorem State.restoreLost_eff (s : State) (p : Nat) :
    Eff 25166847 s (State.restoreLost s p) := by
  unfold State.restoreLost
  try dsimp only
  repeat' first
    | (with_reducible apply Eff.refl)
    | (with_reducible assumption)
    | decide
    | (with_reducible apply Eff.ite)
    | (with_reducible apply Eff.by (State.applyDeferred_eff ..))
    | (with_reducible apply Eff.by (State.endDeferred_eff ..))
    | (with_reducible apply Eff.by (State.enumRoot_eff ..))
    | (with_reducible apply Eff.by (State.restoreFail_eff ..))
    | split

theorem State.restoreNext_eff (s : State) (p : Nat) :
    Eff 25166847 s (State.restoreNext s p) := by
  unfold State.restoreNext
  try dsimp only
  repeat' first
    | (with_reducible apply Eff.refl)
    | (with_reducible assumption)
    | decide
    | (with_reducible apply Eff.ite)
    | (with_reducible apply Eff.by (State.modUsb_eff ..))
    | (with_reducible apply Eff.by (State.restoreOk_eff ..))
    | (with_reducible apply Eff.by (State.toStep_eff ..))
    | split

theorem State.startRestore_eff (s : State) (p : Nat) (trip : Bool) :
    Eff 25166847 s (State.startRestore s p trip) := by
  unfold State.startRestore
  try dsimp only
  repeat' first
    | (with_reducible apply Eff.refl)
    | (with_reducible assumption)
    | decide
    | (with_reducible apply Eff.ite)
    | (with_reducible apply Eff.by (State.modUsb_eff ..))
    | (with_reducible apply Eff.by (State.restoreNext_eff ..))
    | split

theorem State.restoredOne_eff (s : State) (p : Nat) :
    Eff 25166847 s (State.restoredOne s p) := by
  unfold State.restoredOne
  try dsimp only
  repeat' first
    | (with_reducible apply Eff.refl)
    | (with_reducible assumption)
    | decide
    | (with_reducible apply Eff.ite)
    | (with_reducible apply Eff.by (State.dropHead_eff ..))
    | (with_reducible apply Eff.by (State.modUsb_eff ..))
    | (with_reducible apply Eff.by (State.restoreNext_eff ..))
    | split

theorem State.replayed_eff (s : State) (p a : Nat) (rq : Bytes) :
    Eff 320 s (State.replayed s p a rq) := by
  unfold State.replayed
  try dsimp only
  repeat' first
    | (with_reducible apply Eff.refl)
    | (with_reducible assumption)
    | decide
    | (with_reducible apply Eff.ite)
    | (with_reducible apply Eff.foldl)
    | (with_reducible apply Eff.by (State.resync_eff ..))
    | split
    | (intro _)
    | (dsimp only)

theorem State.newSpeed_eff (s : State) (p a : Nat) (sp : Speed) :
    Eff 65 s (State.newSpeed s p a sp) := by
  unfold State.newSpeed
  try dsimp only
  repeat' first
    | (with_reducible apply Eff.refl)
    | (with_reducible assumption)
    | decide
    | (with_reducible apply Eff.ite)
    | (with_reducible apply Eff.foldl)
    | (with_reducible apply Eff.by (State.modDevice_eff ..))
    | (with_reducible apply Eff.by (State.modGroup_eff ..))
    | split
    | (intro _)
    | (dsimp only)

theorem State.repack_eff (s : State) (p a : Nat) (m : List EpDesc) :
    Eff 64 s (State.repack s p a m) := by
  unfold State.repack
  try dsimp only
  repeat' first
    | (with_reducible apply Eff.refl)
    | (with_reducible assumption)
    | decide
    | (with_reducible apply Eff.ite)
    | (with_reducible apply Eff.foldl)
    | (with_reducible apply Eff.by (State.setPipes_eff ..))
    | split
    | (intro _)
    | (dsimp only)

theorem State.restoreConfig_eff (s : State) (p : Nat) (e : Enum) :
    Eff 25166847 s (State.restoreConfig s p e) := by
  unfold State.restoreConfig
  try dsimp only
  repeat' first
    | (with_reducible apply Eff.refl)
    | (with_reducible assumption)
    | decide
    | (with_reducible apply Eff.ite)
    | (with_reducible apply Eff.by (State.newSpeed_eff ..))
    | (with_reducible apply Eff.by (State.restoreLost_eff ..))
    | (with_reducible apply Eff.by (State.restoredOne_eff ..))
    | (with_reducible apply Eff.by (State.toStep_eff ..))
    | split

theorem State.restoreStep_eff (s : State) (p : Nat) (e : Enum) (data : Bytes) :
    Eff 25166847 s (State.restoreStep s p e data) := by
  unfold State.restoreStep
  try dsimp only
  repeat' first
    | (with_reducible apply Eff.refl)
    | (with_reducible assumption)
    | decide
    | (with_reducible apply Eff.ite)
    | (with_reducible apply Eff.by (State.modHead_eff ..))
    | (with_reducible apply Eff.by (State.powerPorts_eff ..))
    | (with_reducible apply Eff.by (State.replayed_eff ..))
    | (with_reducible apply Eff.by (State.restoreConfig_eff ..))
    | (with_reducible apply Eff.by (State.restoreLost_eff ..))
    | (with_reducible apply Eff.by (State.restoredOne_eff ..))
    | (with_reducible apply Eff.by (State.toStep_eff ..))
    | split

theorem State.restoreRes_eff (s : State) (p : Nat) (e : Enum) (q : ReqRes) :
    Eff 25166847 s (State.restoreRes s p e q) := by
  unfold State.restoreRes
  try dsimp only
  repeat' first
    | (with_reducible apply Eff.refl)
    | (with_reducible assumption)
    | decide
    | (with_reducible apply Eff.ite)
    | (with_reducible apply Eff.by (State.modDevice_eff ..))
    | (with_reducible apply Eff.by (State.restoreLost_eff ..))
    | (with_reducible apply Eff.by (State.restoreStep_eff ..))
    | (with_reducible apply Eff.by (State.restoredOne_eff ..))
    | split

theorem State.restoreReq_eff (s : State) (p : Nat) (res : ReqRes) :
    Eff 25166847 s (State.restoreReq s p res) := by
  unfold State.restoreReq
  try dsimp only
  repeat' first
    | (with_reducible apply Eff.refl)
    | (with_reducible assumption)
    | decide
    | (with_reducible apply Eff.ite)
    | (with_reducible apply Eff.by (State.askDone_eff ..))
    | (with_reducible apply Eff.by (State.restoreRes_eff ..))
    | (with_reducible apply Eff.by (State.serve_eff ..))
    | split

theorem State.enumStep_eff (s : State) (p : Nat) (e : Enum) (data : Bytes) :
    Eff 25166839 s (State.enumStep s p e data) := by
  unfold State.enumStep
  try dsimp only
  repeat' first
    | (with_reducible apply Eff.refl)
    | (with_reducible assumption)
    | decide
    | (with_reducible apply Eff.ite)
    | (with_reducible apply Eff.by (State.afterStrings_eff ..))
    | (with_reducible apply Eff.by (State.arrived_eff ..))
    | (with_reducible apply Eff.by (State.giveAddress_eff ..))
    | (with_reducible apply Eff.by (State.modHead_eff ..))
    | (with_reducible apply Eff.by (State.powerPorts_eff ..))
    | (with_reducible apply Eff.by (State.toStep_eff ..))
    | split

theorem State.enumRes_eff (s : State) (p : Nat) (e : Enum) (q : ReqRes) :
    Eff 25166847 s (State.enumRes s p e q) := by
  unfold State.enumRes
  try dsimp only
  repeat' first
    | (with_reducible apply Eff.refl)
    | (with_reducible assumption)
    | decide
    | (with_reducible apply Eff.ite)
    | (with_reducible apply Eff.by (State.arrived_eff ..))
    | (with_reducible apply Eff.by (State.enumFail_eff ..))
    | (with_reducible apply Eff.by (State.enumStep_eff ..))
    | split

theorem State.enumReq_eff (s : State) (p : Nat) (res : ReqRes) :
    Eff 25166847 s (State.enumReq s p res) := by
  unfold State.enumReq
  try dsimp only
  repeat' first
    | (with_reducible apply Eff.refl)
    | (with_reducible assumption)
    | decide
    | (with_reducible apply Eff.ite)
    | (with_reducible apply Eff.by (State.askDone_eff ..))
    | (with_reducible apply Eff.by (State.enumRes_eff ..))
    | (with_reducible apply Eff.by (State.serve_eff ..))
    | split

theorem State.addressSettled_eff (s : State) (p : Nat) :
    Eff 25166839 s (State.addressSettled s p) := by
  unfold State.addressSettled
  try dsimp only
  repeat' first
    | (with_reducible apply Eff.refl)
    | (with_reducible assumption)
    | decide
    | (with_reducible apply Eff.ite)
    | (with_reducible apply Eff.by (State.toStep_eff ..))
    | split

theorem State.addressFree_eff (s : State) (p a : Nat) :
    Eff 25166839 s (State.addressFree s p a) := by
  unfold State.addressFree
  try dsimp only
  repeat' first
    | (with_reducible apply Eff.refl)
    | (with_reducible assumption)
    | decide
    | (with_reducible apply Eff.ite)
    | (with_reducible apply Eff.by (State.giveAddress_eff ..))
    | (with_reducible apply Eff.by (State.modUsb_eff ..))
    | split

theorem State.resetRecovered_eff (s : State) (p : Nat) :
    Eff 25166847 s (State.resetRecovered s p) := by
  unfold State.resetRecovered
  try dsimp only
  repeat' first
    | (with_reducible apply Eff.refl)
    | (with_reducible assumption)
    | decide
    | (with_reducible apply Eff.ite)
    | (with_reducible apply Eff.by (State.applyDeferred_eff ..))
    | (with_reducible apply Eff.by (State.enumRoot_eff ..))
    | (with_reducible apply Eff.by (State.modUsb_eff ..))
    | (with_reducible apply Eff.by (State.startRestore_eff ..))
    | split

theorem State.mapDone_eff (s : State) (p a : Nat) (m : IfMap) :
    Eff 25175039 s (State.mapDone s p a m) := by
  unfold State.mapDone
  try dsimp only
  repeat' first
    | (with_reducible apply Eff.refl)
    | (with_reducible assumption)
    | decide
    | (with_reducible apply Eff.ite)
    | (with_reducible apply Eff.by (State.askDone_eff ..))
    | (with_reducible apply Eff.by (State.mapRead_eff ..))
    | (with_reducible apply Eff.by (State.modDevice_eff ..))
    | (with_reducible apply Eff.by (State.repack_eff ..))
    | (with_reducible apply Eff.by (State.restoreLost_eff ..))
    | (with_reducible apply Eff.by (State.restoredOne_eff ..))
    | (with_reducible apply Eff.by (State.toStep_eff ..))
    | split

theorem State.hubConnect_eff (s : State) (p : Nat) (hub : Device) (n : Nat) :
    Eff 25166839 s (State.hubConnect s p hub n) := by
  unfold State.hubConnect
  try dsimp only
  repeat' first
    | (with_reducible apply Eff.refl)
    | (with_reducible assumption)
    | decide
    | (with_reducible apply Eff.ite)
    | (with_reducible apply Eff.by (State.disableHubPort_eff ..))
    | (with_reducible apply Eff.by (State.modUsb_eff ..))
    | (with_reducible apply Eff.by (State.queueEnum_eff ..))
    | (with_reducible apply Eff.by (State.usbEvent_eff ..))
    | split

theorem State.hubReset_eff (s : State) (p : Nat) (hub : Device) (n : Nat) (sp : Speed) :
    Eff 25166839 s (State.hubReset s p hub n sp) := by
  unfold State.hubReset
  try dsimp only
  repeat' first
    | (with_reducible apply Eff.refl)
    | (with_reducible assumption)
    | decide
    | (with_reducible apply Eff.ite)
    | (with_reducible apply Eff.by (State.modHead_eff ..))
    | (with_reducible apply Eff.by (State.toStep_eff ..))
    | split

theorem State.hubGone_eff (s : State) (p : Nat) (hub : Device) (n : Nat) :
    Eff 25166839 s (State.hubGone s p hub n) := by
  unfold State.hubGone
  try dsimp only
  repeat' first
    | (with_reducible apply Eff.refl)
    | (with_reducible assumption)
    | decide
    | (with_reducible apply Eff.ite)
    | (with_reducible apply Eff.by (State.askDone_eff ..))
    | (with_reducible apply Eff.by (State.belowGone_eff ..))
    | (with_reducible apply Eff.by (State.deviceGone_eff ..))
    | (with_reducible apply Eff.by (State.modUsb_eff ..))
    | (with_reducible apply Eff.by (State.nextEnum_eff ..))
    | split

theorem State.hubChange_eff (s : State) (p a n : Nat) (c : HubChange) :
    Eff 25166839 s (State.hubChange s p a n c) := by
  unfold State.hubChange
  try dsimp only
  repeat' first
    | (with_reducible apply Eff.refl)
    | (with_reducible assumption)
    | decide
    | (with_reducible apply Eff.ite)
    | (with_reducible apply Eff.by (State.hubConnect_eff ..))
    | (with_reducible apply Eff.by (State.hubGone_eff ..))
    | (with_reducible apply Eff.by (State.hubReset_eff ..))
    | (with_reducible apply Eff.by (State.tellHub_eff ..))
    | split

theorem State.askReset_eff (s : State) (p : Nat) (k : Option Nat) :
    Eff 16778221 s (State.askReset s p k) := by
  unfold State.askReset
  try dsimp only
  repeat' first
    | (with_reducible apply Eff.refl)
    | (with_reducible assumption)
    | decide
    | (with_reducible apply Eff.ite)
    | (with_reducible apply Eff.by (State.defer_eff ..))
    | (with_reducible apply Eff.by (State.finishO_eff ..))
    | (with_reducible apply Eff.by (State.startReset_eff ..))
    | split

theorem State.resetDevice_eff (s : State) (p a : Nat) :
    Eff 25166847 s (State.resetDevice s p a).1 := by
  unfold State.resetDevice
  try dsimp only
  repeat' first
    | (with_reducible apply Eff.refl)
    | (with_reducible assumption)
    | decide
    | (with_reducible apply Eff.ite)
    | (with_reducible apply Eff.ite1)
    | (with_reducible apply Eff.foldl)
    | (with_reducible apply Eff.by (State.askReset_eff ..))
    | (with_reducible apply Eff.by (State.belowGone_eff ..))
    | (with_reducible apply Eff.by (State.causeItems_eff ..))
    | (with_reducible apply Eff.by (State.queueEnum_eff ..))
    | (with_reducible apply Eff.by (State.resync_eff ..))
    | split
    | (intro _)
    | (dsimp only)

end Sys2Proof.Machine
end

