-- ==== Sys2Proof/Laws/EffWake.lean ====
section
/-!
SUPPORT. What the operations of Machine/Wake.lean may do to the state: one lemma for each (Laws/Effects.lean).
-/
set_option linter.unreachableTactic false
set_option linter.unusedTactic false

namespace Sys2Proof.Machine

theorem State.setCore_eff (s : State) (mv : Nat) :
    Eff 262144 s (State.setCore s mv) := by
  unfold State.setCore
  try dsimp only
  repeat' first
    | (with_reducible apply Eff.refl)
    | (with_reducible assumption)
    | decide
    | (with_reducible apply Eff.ite)
    | (with_reducible apply Eff.by (State.emit_eff ..))
    | (with_reducible apply Eff.by (State.modDps_eff ..))
    | split

theorem State.setMain_eff (s : State) (b : Bool) :
    Eff 262144 s (State.setMain s b) := by
  unfold State.setMain
  try dsimp only
  repeat' first
    | (with_reducible apply Eff.refl)
    | (with_reducible assumption)
    | decide
    | (with_reducible apply Eff.ite)
    | (with_reducible apply Eff.by (State.emit_eff ..))
    | (with_reducible apply Eff.by (State.modDps_eff ..))
    | split

theorem State.beginWake_eff (s : State) :
    Eff 262144 s (State.beginWake s) := by
  unfold State.beginWake
  try dsimp only
  repeat' first
    | (with_reducible apply Eff.refl)
    | (with_reducible assumption)
    | decide
    | (with_reducible apply Eff.ite)
    | (with_reducible apply Eff.by (State.modDps_eff ..))
    | (with_reducible apply Eff.by (State.setCore_eff ..))
    | (with_reducible apply Eff.by (State.setMain_eff ..))
    | split

theorem State.latchPut_eff (s : State) (src p : Nat) :
    Eff 262144 s (State.latchPut s src p) := by
  unfold State.latchPut
  try dsimp only
  repeat' first
    | (with_reducible apply Eff.refl)
    | (with_reducible assumption)
    | decide
    | (with_reducible apply Eff.ite)
    | (with_reducible apply Eff.by (State.modDps_eff ..))
    | split

theorem State.wake_eff (s : State) (src p : Nat) :
    Eff 262144 s (State.wake s src p) := by
  unfold State.wake
  try dsimp only
  repeat' first
    | (with_reducible apply Eff.refl)
    | (with_reducible assumption)
    | decide
    | (with_reducible apply Eff.ite)
    | (with_reducible apply Eff.by (State.beginWake_eff ..))
    | (with_reducible apply Eff.by (State.latchPut_eff ..))
    | split

end Sys2Proof.Machine
end

