-- ==== Sys2Proof/Laws/EffAllot.lean ====
section
/-!
SUPPORT. What the operations of Machine/Allot.lean may do to the state: one lemma for each (Laws/Effects.lean).
-/
set_option linter.unreachableTactic false
set_option linter.unusedTactic false

namespace Sys2Proof.Machine

theorem State.flash_eff (s : State) (f : FlashCfg → FlashCfg) :
    Eff 2097152 s (State.flash s f) := by
  unfold State.flash
  try dsimp only
  repeat' first
    | (with_reducible apply Eff.refl)
    | (with_reducible assumption)
    | decide
    | (with_reducible apply Eff.ite)
    | (with_reducible apply Eff.by (State.modBoot_eff ..))
    | exact ⟨rfl, rfl, rfl, rfl, rfl, rfl, rfl, rfl, rfl, Nat.le_refl _⟩
    | split

theorem State.cmdSend_eff (s : State) (id : Nat) (c : Nvme) :
    Eff 16777216 s (State.cmdSend s id c) := by
  unfold State.cmdSend
  try dsimp only
  repeat' first
    | (with_reducible apply Eff.refl)
    | (with_reducible assumption)
    | decide
    | (with_reducible apply Eff.ite)
    | (with_reducible apply Eff.by (State.emit_eff ..))
    | (with_reducible apply Eff.by (State.modVault_eff ..))
    | (with_reducible rfl)
    | split

theorem State.nvmePump_eff (s : State) (f : Nat) : Eff 16777216 s (s.nvmePump f) := by
  induction f generalizing s with
  | zero => exact Eff.refl _ _
  | succ f ih =>
    rw [State.nvmePump]
    split
    · exact Eff.refl _ _
    · split
      · exact Eff.trans (Eff.by (State.cmdSend_eff ..) (by decide) (Eff.refl _ _)) (ih _)
      · exact Eff.refl _ _

theorem State.nvme_eff (s : State) (c : Nvme) (fua : Bool) :
    Eff 16777216 s (State.nvme s c fua) := by
  unfold State.nvme
  try dsimp only
  repeat' first
    | (with_reducible apply Eff.refl)
    | (with_reducible assumption)
    | decide
    | (with_reducible apply Eff.ite)
    | (with_reducible apply Eff.by (State.emit_eff ..))
    | (with_reducible apply Eff.by (State.modVault_eff ..))
    | (with_reducible rfl)
    | (with_reducible apply Eff.by (State.nvmePump_eff ..))
    | split

theorem State.enableDone_eff (s : State) :
    Eff 16777216 s (State.enableDone s) := by
  unfold State.enableDone
  try dsimp only
  repeat' first
    | (with_reducible apply Eff.refl)
    | (with_reducible assumption)
    | decide
    | (with_reducible apply Eff.ite)
    | (with_reducible apply Eff.by (State.modVault_eff ..))
    | (with_reducible rfl)
    | split

theorem State.dropWaiting_eff (s : State) :
    Eff 16777216 s (State.dropWaiting s) := by
  unfold State.dropWaiting
  try dsimp only
  repeat' first
    | (with_reducible apply Eff.refl)
    | (with_reducible assumption)
    | decide
    | (with_reducible apply Eff.ite)
    | (with_reducible apply Eff.by (State.enableDone_eff ..))
    | (with_reducible apply Eff.by (State.modVault_eff ..))
    | (with_reducible rfl)
    | split

theorem State.clearExts_eff (s : State) (l : List (Nat × Nat)) (item : Option Nat) :
    Eff 150994944 s (State.clearExts s l item) := by
  unfold State.clearExts
  try dsimp only
  repeat' first
    | (with_reducible apply Eff.refl)
    | (with_reducible assumption)
    | decide
    | (with_reducible apply Eff.ite)
    | (with_reducible apply Eff.foldl)
    | (with_reducible apply Eff.by (State.modVault_data ..))
    | exact SMap.wf_select _ _
    | (with_reducible apply Eff.by (State.modVault_eff ..))
    | (with_reducible rfl)
    | (with_reducible apply Eff.by (State.nvme_eff ..))
    | split
    | (intro _)
    | (dsimp only)

theorem State.recordHouse_eff (s : State) :
    Eff 18874368 s (State.recordHouse s) := by
  unfold State.recordHouse
  try dsimp only
  repeat' first
    | (with_reducible apply Eff.refl)
    | (with_reducible assumption)
    | decide
    | (with_reducible apply Eff.ite)
    | (with_reducible apply Eff.by (State.flash_eff ..))
    | (with_reducible apply Eff.by (State.modVault_eff ..))
    | (with_reducible rfl)
    | split

theorem State.setAllot_eff (s : State) (t mib : Nat) :
    Eff 153092608 s (State.setAllot s t mib).1 := by
  unfold State.setAllot
  try dsimp only
  repeat' first
    | (with_reducible apply Eff.refl)
    | (with_reducible assumption)
    | decide
    | (with_reducible apply Eff.ite)
    | (with_reducible apply Eff.ite1)
    | (with_reducible apply Eff.by (State.clearExts_eff ..))
    | (with_reducible apply Eff.by (State.modTenants_eff ..))
    | (with_reducible apply Eff.by (State.recordHouse_eff ..))
    | split

end Sys2Proof.Machine
end

