-- ==== Sys2Proof/Laws/EffSessions.lean ====
section
/-!
SUPPORT. What the operations of Machine/Sessions.lean may do to the state: one lemma for each (Laws/Effects.lean).
-/
set_option linter.unreachableTactic false
set_option linter.unusedTactic false

namespace Sys2Proof.Machine

theorem State.sendExchange_eff (s : State) (q : OpenFrame) (payload : Bytes) :
    Eff 33536 s (State.sendExchange s q payload) := by
  unfold State.sendExchange
  try dsimp only
  repeat' first
    | (with_reducible apply Eff.refl)
    | (with_reducible assumption)
    | decide
    | (with_reducible apply Eff.ite)
    | (with_reducible apply Eff.by (State.modTenants_eff ..))
    | (with_reducible apply Eff.by (State.queueFrame_eff ..))
    | split

theorem State.openAt_eff (s : State) (n : Nat) (f : OpenFrame) :
    Eff 8422144 s (State.openAt s n f) := by
  unfold State.openAt
  try dsimp only
  repeat' first
    | (with_reducible apply Eff.refl)
    | (with_reducible assumption)
    | decide
    | (with_reducible apply Eff.ite)
    | (with_reducible apply Eff.by (State.modMem_eff ..))
    | (with_reducible apply Eff.by (State.modSess_eff ..))
    | (with_reducible apply Eff.by (State.modTenants_eff ..))
    | (with_reducible apply Eff.by (State.sendExchange_eff ..))
    | (with_reducible apply Eff.by (State.tookFree_eff ..))
    | split

theorem State.openReq_eff (s : State) (f : OpenFrame) :
    Eff 8423168 s (State.openReq s f) := by
  unfold State.openReq
  try dsimp only
  repeat' first
    | (with_reducible apply Eff.refl)
    | (with_reducible assumption)
    | decide
    | (with_reducible apply Eff.ite)
    | (with_reducible apply Eff.by (State.applyS_eff ..))
    | (with_reducible apply Eff.by (State.discardFrame_eff ..))
    | (with_reducible apply Eff.by (State.modTenants_eff ..))
    | (with_reducible apply Eff.by (State.openAt_eff ..))
    | (with_reducible apply Eff.by (State.sendExchange_eff ..))
    | (with_reducible apply Eff.by (State.upEvent_eff ..))
    | split

theorem State.confirmed_eff (s : State) (f : Frame) :
    Eff 25338861 s (State.confirmed s f) := by
  unfold State.confirmed
  try dsimp only
  repeat' first
    | (with_reducible apply Eff.refl)
    | (with_reducible assumption)
    | decide
    | (with_reducible apply Eff.ite)
    | (with_reducible apply Eff.by (State.deliverLedger_eff ..))
    | (with_reducible apply Eff.by (State.discardFrame_eff ..))
    | (with_reducible apply Eff.by (State.modSess_eff ..))
    | (with_reducible apply Eff.by (State.takeHeader_eff ..))
    | split

theorem State.giveUp_eff (s : State) (n : Nat) :
    Eff 8389376 s (State.giveUp s n) := by
  unfold State.giveUp
  try dsimp only
  repeat' first
    | (with_reducible apply Eff.refl)
    | (with_reducible assumption)
    | decide
    | (with_reducible apply Eff.ite)
    | (with_reducible apply Eff.by (State.closeSession_eff ..))
    | split

theorem State.closeDrained_eff (s : State) (n : Nat) :
    Eff 8553216 s (State.closeDrained s n) := by
  unfold State.closeDrained
  try dsimp only
  repeat' first
    | (with_reducible apply Eff.refl)
    | (with_reducible assumption)
    | decide
    | (with_reducible apply Eff.ite)
    | (with_reducible apply Eff.by (State.drained_eff ..))
    | (with_reducible apply Eff.by (State.modSess_eff ..))
    | split

theorem State.closeAborted_eff (s : State) (n : Nat) :
    Eff 16942021 s (State.closeAborted s n) := by
  unfold State.closeAborted
  try dsimp only
  repeat' first
    | (with_reducible apply Eff.refl)
    | (with_reducible assumption)
    | decide
    | (with_reducible apply Eff.ite)
    | (with_reducible apply Eff.by (State.endSession_eff ..))
    | split

theorem State.resetOne_eff (s : State) (n : Nat) :
    Eff 25330629 s (State.resetOne s n) := by
  unfold State.resetOne
  try dsimp only
  repeat' first
    | (with_reducible apply Eff.refl)
    | (with_reducible assumption)
    | decide
    | (with_reducible apply Eff.ite)
    | (with_reducible apply Eff.by (State.endSession_eff ..))
    | (with_reducible apply Eff.by (State.giveUp_eff ..))
    | split

theorem State.resetAll_eff (s : State) (t target : Nat) :
    Eff 25330629 s (State.resetAll s t target) := by
  unfold State.resetAll
  try dsimp only
  repeat' first
    | (with_reducible apply Eff.refl)
    | (with_reducible assumption)
    | decide
    | (with_reducible apply Eff.ite)
    | (with_reducible apply Eff.foldl)
    | (with_reducible apply Eff.by (State.resetOne_eff ..))
    | split
    | (intro _)
    | (dsimp only)

theorem State.exchangeReset_eff (s : State) (f : OpenFrame) :
    Eff 25330629 s (State.exchangeReset s f) := by
  unfold State.exchangeReset
  try dsimp only
  repeat' first
    | (with_reducible apply Eff.refl)
    | (with_reducible assumption)
    | decide
    | (with_reducible apply Eff.ite)
    | (with_reducible apply Eff.by (State.discardFrame_eff ..))
    | (with_reducible apply Eff.by (State.modTenants_eff ..))
    | (with_reducible apply Eff.by (State.resetAll_eff ..))
    | split

theorem State.sessRecord_eff (s : State) (n : Nat) (b : Bytes) :
    Eff 25330629 s (State.sessRecord s n b) := by
  unfold State.sessRecord
  try dsimp only
  repeat' first
    | (with_reducible apply Eff.refl)
    | (with_reducible assumption)
    | decide
    | (with_reducible apply Eff.ite)
    | (with_reducible apply Eff.by (State.closeAborted_eff ..))
    | (with_reducible apply Eff.by (State.closeDrained_eff ..))
    | (with_reducible apply Eff.by (State.resetAll_eff ..))
    | split

theorem State.endingDone_eff (s : State) (n : Nat) :
    Eff 8422144 s (State.endingDone s n) := by
  unfold State.endingDone
  try dsimp only
  repeat' first
    | (with_reducible apply Eff.refl)
    | (with_reducible assumption)
    | decide
    | (with_reducible apply Eff.ite)
    | (with_reducible apply Eff.by (State.closeSession_eff ..))
    | (with_reducible apply Eff.by (State.sendClosed_eff ..))
    | split

end Sys2Proof.Machine
end

