-- ==== Sys2Proof/Laws/EffLoans.lean ====
section
/-!
SUPPORT. What the operations of Machine/Loans.lean may do to the state: one lemma for each (Laws/Effects.lean).
-/
set_option linter.unreachableTactic false
set_option linter.unusedTactic false

namespace Sys2Proof.Machine

theorem State.loanTo_eff (s : State) (t : Nat) (st : LoanState) :
    Eff 768 s (State.loanTo s t st) := by
  unfold State.loanTo
  try dsimp only
  repeat' first
    | (with_reducible apply Eff.refl)
    | (with_reducible assumption)
    | decide
    | (with_reducible apply Eff.ite)
    | (with_reducible apply Eff.by (State.modTenants_eff ..))
    | (with_reducible apply Eff.by (State.tenantEvent_eff ..))
    | split

theorem State.setOwner_eff (s : State) (t : Nat) (ps : List Nat) :
    Eff 1 s (State.setOwner s t ps) := by
  unfold State.setOwner
  try dsimp only
  repeat' first
    | (with_reducible apply Eff.refl)
    | (with_reducible assumption)
    | decide
    | (with_reducible apply Eff.ite)
    | (with_reducible apply Eff.foldl)
    | (with_reducible apply Eff.by (State.modUsb_eff ..))
    | split
    | (intro _)
    | (dsimp only)

theorem State.recallPort_eff (s : State) (t p : Nat) :
    Eff 16779205 s (State.recallPort s t p) := by
  unfold State.recallPort
  try dsimp only
  repeat' first
    | (with_reducible apply Eff.refl)
    | (with_reducible assumption)
    | decide
    | (with_reducible apply Eff.ite)
    | (with_reducible apply Eff.by (State.causeItems_eff ..))
    | (with_reducible apply Eff.by (State.closeAll_eff ..))
    | (with_reducible apply Eff.by (State.dropPend_eff ..))
    | split

theorem State.freeRecalled_eff (s : State) :
    Eff 1 s (State.freeRecalled s) := by
  unfold State.freeRecalled
  try dsimp only
  repeat' first
    | (with_reducible apply Eff.refl)
    | (with_reducible assumption)
    | decide
    | (with_reducible apply Eff.ite)
    | (with_reducible apply Eff.foldl)
    | (with_reducible apply Eff.by (State.setOwner_eff ..))
    | split
    | (intro _)
    | (dsimp only)

theorem State.applyTerms_eff (s : State) (t : Nat) :
    Eff 153092609 s (State.applyTerms s t) := by
  unfold State.applyTerms
  try dsimp only
  repeat' first
    | (with_reducible apply Eff.refl)
    | (with_reducible assumption)
    | decide
    | (with_reducible apply Eff.ite)
    | (with_reducible apply Eff.ite1)
    | (with_reducible apply Eff.by (State.modTenants_eff ..))
    | (with_reducible apply Eff.by (State.setAllot_eff ..))
    | (with_reducible apply Eff.by (State.setOwner_eff ..))
    | split

theorem State.grant_eff (s : State) (t : Nat) :
    Eff 153092865 s (State.grant s t).1 := by
  unfold State.grant
  try dsimp only
  repeat' first
    | (with_reducible apply Eff.refl)
    | (with_reducible assumption)
    | decide
    | (with_reducible apply Eff.ite)
    | (with_reducible apply Eff.ite1)
    | (with_reducible apply Eff.by (State.applyTerms_eff ..))
    | (with_reducible apply Eff.by (State.loanTo_eff ..))
    | (with_reducible apply Eff.by (State.modTenants_eff ..))
    | split

theorem State.change_eff (s : State) (t : Nat) :
    Eff 153094085 s (State.change s t).1 := by
  unfold State.change
  try dsimp only
  repeat' first
    | (with_reducible apply Eff.refl)
    | (with_reducible assumption)
    | decide
    | (with_reducible apply Eff.ite)
    | (with_reducible apply Eff.ite1)
    | (with_reducible apply Eff.foldl)
    | (with_reducible apply Eff.by (State.applyTerms_eff ..))
    | (with_reducible apply Eff.by (State.freeRecalled_eff ..))
    | (with_reducible apply Eff.by (State.recallPort_eff ..))
    | split
    | (intro _)
    | (dsimp only)

theorem State.recall_eff (s : State) (t : Nat) :
    Eff 16778181 s (State.recall s t) := by
  unfold State.recall
  try dsimp only
  repeat' first
    | (with_reducible apply Eff.refl)
    | (with_reducible assumption)
    | decide
    | (with_reducible apply Eff.ite)
    | (with_reducible apply Eff.by (State.causeItems_eff ..))
    | (with_reducible apply Eff.by (State.loanTo_eff ..))
    | split

theorem State.endLoan_eff (s : State) (t : Nat) :
    Eff 16778181 s (State.endLoan s t).1 := by
  unfold State.endLoan
  try dsimp only
  repeat' first
    | (with_reducible apply Eff.refl)
    | (with_reducible assumption)
    | decide
    | (with_reducible apply Eff.ite)
    | (with_reducible apply Eff.ite1)
    | (with_reducible apply Eff.by (State.recall_eff ..))
    | split

theorem State.resumeLoan_eff (s : State) (t : Nat) :
    Eff 25166839 s (State.resumeLoan s t).1 := by
  unfold State.resumeLoan
  try dsimp only
  repeat' first
    | (with_reducible apply Eff.refl)
    | (with_reducible assumption)
    | decide
    | (with_reducible apply Eff.ite)
    | (with_reducible apply Eff.ite1)
    | (with_reducible apply Eff.foldl)
    | (with_reducible apply Eff.by (State.loanTo_eff ..))
    | (with_reducible apply Eff.by (State.modTenants_eff ..))
    | (with_reducible apply Eff.by (State.serve_eff ..))
    | split
    | (intro _)
    | (dsimp only)

theorem recordAction_eff {m : Nat} (hm : Covers 512 m) {s : State} (t : Nat) (r : State × Nat) (h : Eff m s r.1) :
    Eff m s (recordAction t r).1 := by
  unfold recordAction
  dsimp only
  exact Eff.by (State.modTenants_eff ..) hm h

theorem State.loanAction_eff (s : State) (t act : Nat) :
    Eff 161482743 s (State.loanAction s t act).1 := by
  unfold State.loanAction
  try dsimp only
  repeat' first
    | (with_reducible apply Eff.refl)
    | (with_reducible assumption)
    | decide
    | (with_reducible apply Eff.ite)
    | (with_reducible apply Eff.ite1)
    | (with_reducible apply recordAction_eff)
    | (with_reducible apply Eff.by (State.change_eff ..))
    | (with_reducible apply Eff.by (State.endLoan_eff ..))
    | (with_reducible apply Eff.by (State.grant_eff ..))
    | (with_reducible apply Eff.by (State.resumeLoan_eff ..))
    | (with_reducible apply Eff.by (recordAction_eff ..))
    | split

theorem State.locksLost_eff (s : State) (t : Nat) :
    Eff 131328 s (State.locksLost s t) := by
  unfold State.locksLost
  try dsimp only
  repeat' first
    | (with_reducible apply Eff.refl)
    | (with_reducible assumption)
    | decide
    | (with_reducible apply Eff.ite)
    | (with_reducible apply Eff.foldl)
    | (with_reducible apply Eff.by (State.collEvent_eff ..))
    | (with_reducible apply Eff.by (State.setLock_eff ..))
    | split
    | (intro _)
    | (dsimp only)

theorem State.leaseOver_eff (s : State) (t : Nat) :
    Eff 16909253 s (State.leaseOver s t) := by
  unfold State.leaseOver
  try dsimp only
  repeat' first
    | (with_reducible apply Eff.refl)
    | (with_reducible assumption)
    | decide
    | (with_reducible apply Eff.ite)
    | (with_reducible apply Eff.by (State.collEvent_eff ..))
    | (with_reducible apply Eff.by (State.locksLost_eff ..))
    | (with_reducible apply Eff.by (State.recall_eff ..))
    | split

theorem State.dropTemplates_eff (s : State) (t : Nat) :
    Eff 16777216 s (State.dropTemplates s t) := by
  unfold State.dropTemplates
  try dsimp only
  repeat' first
    | (with_reducible apply Eff.refl)
    | (with_reducible assumption)
    | decide
    | (with_reducible apply Eff.ite)
    | (with_reducible apply Eff.by (State.modVault_eff ..))
    | (with_reducible rfl)
    | split

theorem State.loanIdle_eff (s : State) (t : Nat) :
    Eff 159549381 s (State.loanIdle s t) := by
  unfold State.loanIdle
  try dsimp only
  repeat' first
    | (with_reducible apply Eff.refl)
    | (with_reducible assumption)
    | decide
    | (with_reducible apply Eff.ite)
    | (with_reducible apply Eff.foldl)
    | (with_reducible apply Eff.by (State.clearExts_eff ..))
    | (with_reducible apply Eff.by (State.closeAll_eff ..))
    | (with_reducible apply Eff.by (State.dropLedger_eff ..))
    | (with_reducible apply Eff.by (State.dropPend_eff ..))
    | (with_reducible apply Eff.by (State.dropTemplates_eff ..))
    | (with_reducible apply Eff.by (State.endSession_eff ..))
    | (with_reducible apply Eff.by (State.giveUp_eff ..))
    | (with_reducible apply Eff.by (State.loanTo_eff ..))
    | (with_reducible apply Eff.by (State.modTenants_eff ..))
    | (with_reducible apply Eff.by (State.setOwner_eff ..))
    | split
    | (intro _)
    | (dsimp only)

end Sys2Proof.Machine
end

