-- ==== Sys2Proof/Laws/EffCollection.lean ====
section
/-!
SUPPORT. What the operations of Machine/Collection.lean may do to the state: one lemma for each (Laws/Effects.lean).
-/
set_option linter.unreachableTactic false
set_option linter.unusedTactic false

namespace Sys2Proof.Machine

theorem State.lockPut_eff (s : State) (n : Nat) (l : Lock) :
    Eff 131328 s (State.lockPut s n l) := by
  unfold State.lockPut
  try dsimp only
  repeat' first
    | (with_reducible apply Eff.refl)
    | (with_reducible assumption)
    | decide
    | (with_reducible apply Eff.ite)
    | (with_reducible apply Eff.by (State.collEvent_eff ..))
    | (with_reducible apply Eff.by (State.setLock_eff ..))
    | split

theorem State.sdoSend_eff (s : State) (d : Bytes) :
    Eff 0 s (State.sdoSend s d) := by
  unfold State.sdoSend
  try dsimp only
  repeat' first
    | (with_reducible apply Eff.refl)
    | (with_reducible assumption)
    | decide
    | (with_reducible apply Eff.ite)
    | (with_reducible apply Eff.by (State.emit_eff ..))
    | split

theorem State.sdoDone_eff (s : State) (idx sub ab : Nat) :
    Eff 0 s (State.sdoDone s idx sub ab) := by
  unfold State.sdoDone
  try dsimp only
  repeat' first
    | (with_reducible apply Eff.refl)
    | (with_reducible assumption)
    | decide
    | (with_reducible apply Eff.ite)
    | (with_reducible apply Eff.by (State.sdoSend_eff ..))
    | split

theorem State.lateRsp_eff (s : State) (path : Path) (idx ab : Nat) :
    Eff 4096 s (State.lateRsp s path idx ab) := by
  unfold State.lateRsp
  try dsimp only
  repeat' first
    | (with_reducible apply Eff.refl)
    | (with_reducible assumption)
    | decide
    | (with_reducible apply Eff.ite)
    | (with_reducible apply Eff.by (State.modBoard_eff ..))
    | (with_reducible apply Eff.by (State.sdoDone_eff ..))
    | split

theorem State.lockAnswered_eff (s : State) (n op sess : Nat) (ab : Word) :
    Eff 16913349 s (State.lockAnswered s n op sess ab) := by
  unfold State.lockAnswered
  try dsimp only
  repeat' first
    | (with_reducible apply Eff.refl)
    | (with_reducible assumption)
    | decide
    | (with_reducible apply Eff.ite)
    | (with_reducible apply Eff.by (State.emit_eff ..))
    | (with_reducible apply Eff.by (State.finishB_eff ..))
    | (with_reducible apply Eff.by (State.lateRsp_eff ..))
    | (with_reducible apply Eff.by (State.modColl_eff ..))
    | split

theorem State.lockReply_eff (s : State) (n op m sess ab : Nat) :
    Eff 16913349 s (State.lockReply s n op m sess ab) := by
  unfold State.lockReply
  try dsimp only
  repeat' first
    | (with_reducible apply Eff.refl)
    | (with_reducible assumption)
    | decide
    | (with_reducible apply Eff.ite)
    | (with_reducible apply Eff.by (State.lockAnswered_eff ..))
    | (with_reducible apply Eff.by (State.nqSend_eff ..))
    | split

theorem State.settleGrants_eff (s : State) (n : Nat) :
    Eff 16913349 s (State.settleGrants s n) := by
  unfold State.settleGrants
  try dsimp only
  repeat' first
    | (with_reducible apply Eff.refl)
    | (with_reducible assumption)
    | decide
    | (with_reducible apply Eff.ite)
    | (with_reducible apply Eff.foldl)
    | (with_reducible apply Eff.by (State.lockReply_eff ..))
    | (with_reducible apply Eff.by (State.modColl_eff ..))
    | split
    | (intro _)
    | (dsimp only)

theorem State.lockRecorded_eff (s : State) (n m : Nat) :
    Eff 16913349 s (State.lockRecorded s n m) := by
  unfold State.lockRecorded
  try dsimp only
  repeat' first
    | (with_reducible apply Eff.refl)
    | (with_reducible assumption)
    | decide
    | (with_reducible apply Eff.ite)
    | (with_reducible apply Eff.by (State.modColl_eff ..))
    | (with_reducible apply Eff.by (State.settleGrants_eff ..))
    | split

theorem State.lockRecord_eff (s : State) (n : Nat) (l : Lock) :
    Eff 131328 s (State.lockRecord s n l) := by
  unfold State.lockRecord
  try dsimp only
  repeat' first
    | (with_reducible apply Eff.refl)
    | (with_reducible assumption)
    | decide
    | (with_reducible apply Eff.ite)
    | (with_reducible apply Eff.by (State.lockPut_eff ..))
    | (with_reducible apply Eff.by (State.lockTell_eff ..))
    | split

theorem State.lockGrant_eff (s : State) (n m sess : Nat) (l : Lock) :
    Eff 16913349 s (State.lockGrant s n m sess l) := by
  unfold State.lockGrant
  try dsimp only
  repeat' first
    | (with_reducible apply Eff.refl)
    | (with_reducible assumption)
    | decide
    | (with_reducible apply Eff.ite)
    | (with_reducible apply Eff.by (State.lockRecord_eff ..))
    | (with_reducible apply Eff.by (State.lockReply_eff ..))
    | (with_reducible apply Eff.by (State.modColl_eff ..))
    | (with_reducible apply Eff.by (State.settleGrants_eff ..))
    | split

theorem State.dropGrants_eff (s : State) (n : Nat) :
    Eff 16913349 s (State.dropGrants s n) := by
  unfold State.dropGrants
  try dsimp only
  repeat' first
    | (with_reducible apply Eff.refl)
    | (with_reducible assumption)
    | decide
    | (with_reducible apply Eff.ite)
    | (with_reducible apply Eff.foldl)
    | (with_reducible apply Eff.by (State.lockReply_eff ..))
    | (with_reducible apply Eff.by (State.modColl_eff ..))
    | split
    | (intro _)
    | (dsimp only)

theorem State.undoGrants_eff (s : State) :
    Eff 16913349 s (State.undoGrants s) := by
  unfold State.undoGrants
  try dsimp only
  repeat' first
    | (with_reducible apply Eff.refl)
    | (with_reducible assumption)
    | decide
    | (with_reducible apply Eff.ite)
    | (with_reducible apply Eff.foldl)
    | (with_reducible apply Eff.by (State.dropGrants_eff ..))
    | (with_reducible apply Eff.by (State.setLock_eff ..))
    | split
    | (intro _)
    | (dsimp only)

theorem State.lockServed_eff (s : State) (n op m sess t : Nat) (e : Word) :
    Eff 16913349 s (State.lockServed s n op m sess t e) := by
  unfold State.lockServed
  try dsimp only
  repeat' first
    | (with_reducible apply Eff.refl)
    | (with_reducible assumption)
    | decide
    | (with_reducible apply Eff.ite)
    | (with_reducible apply Eff.by (State.dropGrants_eff ..))
    | (with_reducible apply Eff.by (State.lockGrant_eff ..))
    | (with_reducible apply Eff.by (State.lockRecord_eff ..))
    | (with_reducible apply Eff.by (State.lockReply_eff ..))
    | split

theorem State.lockReq_eff (s : State) (n op : Nat) (path : Path) :
    Eff 16913349 s (State.lockReq s n op path).1 := by
  unfold State.lockReq
  try dsimp only
  repeat' first
    | (with_reducible apply Eff.refl)
    | (with_reducible assumption)
    | decide
    | (with_reducible apply Eff.ite)
    | (with_reducible apply Eff.ite1)
    | (with_reducible apply Eff.by (State.dropGrants_eff ..))
    | (with_reducible apply Eff.by (State.lockGrant_eff ..))
    | (with_reducible apply Eff.by (State.lockRecord_eff ..))
    | (with_reducible apply Eff.by (State.modColl_eff ..))
    | (with_reducible apply Eff.by (State.nqSend_eff ..))
    | split

theorem State.lockVia_eff (s : State) (n op : Nat) (path : Path) :
    Eff 16913349 s (State.lockVia s n op path) := by
  unfold State.lockVia
  try dsimp only
  repeat' first
    | (with_reducible apply Eff.refl)
    | (with_reducible assumption)
    | decide
    | (with_reducible apply Eff.ite)
    | (with_reducible apply Eff.ite1)
    | (with_reducible apply Eff.by (State.emit_eff ..))
    | (with_reducible apply Eff.by (State.lockReq_eff ..))
    | split

theorem State.lockServe_eff (s : State) (from_ : Nat) (m : LockMsg) :
    Eff 16913349 s (State.lockServe s from_ m) := by
  unfold State.lockServe
  try dsimp only
  repeat' first
    | (with_reducible apply Eff.refl)
    | (with_reducible assumption)
    | decide
    | (with_reducible apply Eff.ite)
    | (with_reducible apply Eff.by (State.lockReply_eff ..))
    | (with_reducible apply Eff.by (State.lockServed_eff ..))
    | split

theorem State.lockSeen_eff (s : State) (from_ : Nat) (m : LockMsg) :
    Eff 16913349 s (State.lockSeen s from_ m) := by
  unfold State.lockSeen
  try dsimp only
  repeat' first
    | (with_reducible apply Eff.refl)
    | (with_reducible assumption)
    | decide
    | (with_reducible apply Eff.ite)
    | (with_reducible apply Eff.by (State.lockAnswered_eff ..))
    | (with_reducible apply Eff.by (State.lockPut_eff ..))
    | (with_reducible apply Eff.by (State.lockRecorded_eff ..))
    | (with_reducible apply Eff.by (State.nqSend_eff ..))
    | split

theorem State.lockLost_eff (s : State) (m : Nat) :
    Eff 131328 s (State.lockLost s m) := by
  unfold State.lockLost
  try dsimp only
  repeat' first
    | (with_reducible apply Eff.refl)
    | (with_reducible assumption)
    | decide
    | (with_reducible apply Eff.ite)
    | (with_reducible apply Eff.foldl)
    | (with_reducible apply Eff.by (State.lockPut_eff ..))
    | split
    | (intro _)
    | (dsimp only)

theorem State.takeKey_eff (s : State) :
    Eff 131072 s (State.takeKey s) := by
  unfold State.takeKey
  try dsimp only
  repeat' first
    | (with_reducible apply Eff.refl)
    | (with_reducible assumption)
    | decide
    | (with_reducible apply Eff.ite)
    | (with_reducible apply Eff.by (State.modColl_eff ..))
    | split

theorem State.adopt_eff (s : State) (e : Word) :
    Eff 2229248 s (State.adopt s e) := by
  unfold State.adopt
  try dsimp only
  repeat' first
    | (with_reducible apply Eff.refl)
    | (with_reducible assumption)
    | decide
    | (with_reducible apply Eff.ite)
    | (with_reducible apply Eff.by (State.applyE_eff ..))
    | (with_reducible apply Eff.by (State.flash_eff ..))
    | (with_reducible apply Eff.by (State.modColl_eff ..))
    | (with_reducible apply Eff.by (State.takeKey_eff ..))
    | split

theorem State.loseQuorum_eff (s : State) :
    Eff 16913349 s (State.loseQuorum s) := by
  unfold State.loseQuorum
  try dsimp only
  repeat' first
    | (with_reducible apply Eff.refl)
    | (with_reducible assumption)
    | decide
    | (with_reducible apply Eff.ite)
    | (with_reducible apply Eff.by (State.collEvent_eff ..))
    | (with_reducible apply Eff.by (State.modColl_eff ..))
    | (with_reducible apply Eff.by (State.undoGrants_eff ..))
    | split

theorem State.settleQuorum_eff (s : State) :
    Eff 19011525 s (State.settleQuorum s) := by
  unfold State.settleQuorum
  try dsimp only
  repeat' first
    | (with_reducible apply Eff.refl)
    | (with_reducible assumption)
    | decide
    | (with_reducible apply Eff.ite)
    | (with_reducible apply Eff.by (State.adopt_eff ..))
    | (with_reducible apply Eff.by (State.loseQuorum_eff ..))
    | (with_reducible apply Eff.by (State.modColl_eff ..))
    | split

theorem State.rebooted_eff (s : State) (m seq : Nat) :
    Eff 131072 s (State.rebooted s m seq) := by
  unfold State.rebooted
  try dsimp only
  repeat' first
    | (with_reducible apply Eff.refl)
    | (with_reducible assumption)
    | decide
    | (with_reducible apply Eff.ite)
    | (with_reducible apply Eff.foldl)
    | (with_reducible apply Eff.by (State.setLock_eff ..))
    | split
    | (intro _)
    | (dsimp only)

theorem State.nqTake_eff {m : Nat} (hm : Covers 131072 m) (s : State) (h : NqHeader) (f : State → State)
    (hf : ∀ x0, Eff m x0 (f x0)) :
    Eff m s (State.nqTake s h f) := by
  unfold State.nqTake
  try dsimp only
  repeat' first
    | (with_reducible apply Eff.refl)
    | (with_reducible assumption)
    | exact hm
    | exact Covers.trans (by decide) hm
    | exact Covers.refl _
    | decide
    | (with_reducible apply Eff.ite)
    | (with_reducible apply Eff.by (hf ..))
    | (with_reducible apply Eff.by (State.modColl_eff ..))
    | (with_reducible apply Eff.by (State.rebooted_eff ..))
    | (with_reducible apply Eff.by (State.setVoter_eff ..))
    | split
    | (intro _)
    | (dsimp only)

theorem State.nqAll_eff (s : State) (typ : Nat) (body : Bytes) :
    Eff 131072 s (State.nqAll s typ body) := by
  unfold State.nqAll
  try dsimp only
  repeat' first
    | (with_reducible apply Eff.refl)
    | (with_reducible assumption)
    | decide
    | (with_reducible apply Eff.ite)
    | (with_reducible apply Eff.foldl)
    | (with_reducible apply Eff.by (State.nqSend_eff ..))
    | split
    | (intro _)
    | (dsimp only)

theorem State.beat_eff (s : State) :
    Eff 131072 s (State.beat s) := by
  unfold State.beat
  try dsimp only
  repeat' first
    | (with_reducible apply Eff.refl)
    | (with_reducible assumption)
    | decide
    | (with_reducible apply Eff.ite)
    | (with_reducible apply Eff.by (State.nqAll_eff ..))
    | split

theorem State.digestSeen_eff (s : State) (m : Nat) (e : Word) (d : Bytes) :
    Eff 1181952 s (State.digestSeen s m e d) := by
  unfold State.digestSeen
  try dsimp only
  repeat' first
    | (with_reducible apply Eff.refl)
    | (with_reducible assumption)
    | decide
    | (with_reducible apply Eff.ite)
    | (with_reducible apply Eff.by (State.collEvent_eff ..))
    | (with_reducible apply Eff.by (State.modColl_eff ..))
    | (with_reducible apply Eff.by (State.note_eff ..))
    | (with_reducible apply Eff.by (State.setVoter_eff ..))
    | split

theorem State.beatSeen_eff (s : State) (h : NqHeader) (d : Bytes) (q : Word) :
    Eff 20062149 s (State.beatSeen s h d q) := by
  unfold State.beatSeen
  try dsimp only
  repeat' first
    | (with_reducible apply Eff.refl)
    | (with_reducible assumption)
    | decide
    | (with_reducible apply Eff.ite)
    | (with_reducible apply Eff.by (State.adopt_eff ..))
    | (with_reducible apply Eff.by (State.digestSeen_eff ..))
    | (with_reducible apply Eff.by (State.setVoter_eff ..))
    | (with_reducible apply Eff.by (State.settleQuorum_eff ..))
    | split

theorem State.unheard_eff (s : State) (m : Nat) :
    Eff 19011525 s (State.unheard s m) := by
  unfold State.unheard
  try dsimp only
  repeat' first
    | (with_reducible apply Eff.refl)
    | (with_reducible assumption)
    | decide
    | (with_reducible apply Eff.ite)
    | (with_reducible apply Eff.by (State.setVoter_eff ..))
    | (with_reducible apply Eff.by (State.settleQuorum_eff ..))
    | split

theorem State.countAccepts_eff (s : State) :
    Eff 19011525 s (State.countAccepts s) := by
  unfold State.countAccepts
  try dsimp only
  repeat' first
    | (with_reducible apply Eff.refl)
    | (with_reducible assumption)
    | decide
    | (with_reducible apply Eff.ite)
    | (with_reducible apply Eff.by (State.adopt_eff ..))
    | (with_reducible apply Eff.by (State.settleQuorum_eff ..))
    | split

theorem State.acceptEpoch_eff (s : State) :
    Eff 19011525 s (State.acceptEpoch s) := by
  unfold State.acceptEpoch
  try dsimp only
  repeat' first
    | (with_reducible apply Eff.refl)
    | (with_reducible assumption)
    | decide
    | (with_reducible apply Eff.ite)
    | (with_reducible apply Eff.by (State.countAccepts_eff ..))
    | (with_reducible apply Eff.by (State.modColl_eff ..))
    | (with_reducible apply Eff.by (State.nqAll_eff ..))
    | split

theorem State.propose_eff (s : State) :
    Eff 19011525 s (State.propose s).1 := by
  unfold State.propose
  try dsimp only
  repeat' first
    | (with_reducible apply Eff.refl)
    | (with_reducible assumption)
    | decide
    | (with_reducible apply Eff.ite)
    | (with_reducible apply Eff.ite1)
    | (with_reducible apply Eff.by (State.acceptEpoch_eff ..))
    | (with_reducible apply Eff.by (State.modColl_eff ..))
    | (with_reducible apply Eff.by (State.nqAll_eff ..))
    | split

theorem State.proposed_eff (s : State) (e : Word) :
    Eff 19011525 s (State.proposed_ s e) := by
  unfold State.proposed_
  try dsimp only
  repeat' first
    | (with_reducible apply Eff.refl)
    | (with_reducible assumption)
    | decide
    | (with_reducible apply Eff.ite)
    | (with_reducible apply Eff.by (State.acceptEpoch_eff ..))
    | split

theorem State.acceptSeen_eff (s : State) (m : Nat) (e : Word) :
    Eff 19011525 s (State.acceptSeen s m e) := by
  unfold State.acceptSeen
  try dsimp only
  repeat' first
    | (with_reducible apply Eff.refl)
    | (with_reducible assumption)
    | decide
    | (with_reducible apply Eff.ite)
    | (with_reducible apply Eff.by (State.countAccepts_eff ..))
    | (with_reducible apply Eff.by (State.modColl_eff ..))
    | split

theorem State.epochLate_eff (s : State) :
    Eff 131328 s (State.epochLate s) := by
  unfold State.epochLate
  try dsimp only
  repeat' first
    | (with_reducible apply Eff.refl)
    | (with_reducible assumption)
    | decide
    | (with_reducible apply Eff.ite)
    | (with_reducible apply Eff.by (State.collEvent_eff ..))
    | (with_reducible apply Eff.by (State.modColl_eff ..))
    | split

end Sys2Proof.Machine
end

