-- ==== Sys2Proof/Laws/EffAttach.lean ====
section
/-!
SUPPORT. What the operations of Machine/Attach.lean may do to the state: one lemma for each (Laws/Effects.lean).
-/
set_option linter.unreachableTactic false
set_option linter.unusedTactic false

namespace Sys2Proof.Machine

theorem State.ccAttach_eff (s : State) (p : Nat) :
    Eff 2 s (State.ccAttach s p) := by
  unfold State.ccAttach
  try dsimp only
  repeat' first
    | (with_reducible apply Eff.refl)
    | (with_reducible assumption)
    | decide
    | (with_reducible apply Eff.ite)
    | (with_reducible apply Eff.by (State.modPwr_eff ..))
    | split

theorem State.ccPins_eff (s : State) (p : Nat) (a b : CcPin) :
    Eff 262402 s (State.ccPins s p a b) := by
  unfold State.ccPins
  try dsimp only
  repeat' first
    | (with_reducible apply Eff.refl)
    | (with_reducible assumption)
    | decide
    | (with_reducible apply Eff.ite)
    | (with_reducible apply Eff.by (State.ccAttach_eff ..))
    | (with_reducible apply Eff.by (State.modPwr_eff ..))
    | (with_reducible apply Eff.by (State.pwrEvent_eff ..))
    | (with_reducible apply Eff.by (State.wake_eff ..))
    | split

theorem State.enterAttached_eff (s : State) (p : Nat) (item : Option Nat) :
    Eff 16786407 s (State.enterAttached s p item) := by
  unfold State.enterAttached
  try dsimp only
  repeat' first
    | (with_reducible apply Eff.refl)
    | (with_reducible assumption)
    | decide
    | (with_reducible apply Eff.ite)
    | (with_reducible apply Eff.by (State.joinQueue_eff ..))
    | (with_reducible apply Eff.by (State.modPwr_eff ..))
    | (with_reducible apply Eff.by (State.swOn_eff ..))
    | (with_reducible apply Eff.by (State.typeC_eff ..))
    | split

theorem State.ccAttached_eff (s : State) (p : Nat) :
    Eff 16787431 s (State.ccAttached s p) := by
  unfold State.ccAttached
  try dsimp only
  repeat' first
    | (with_reducible apply Eff.refl)
    | (with_reducible assumption)
    | decide
    | (with_reducible apply Eff.ite)
    | (with_reducible apply Eff.by (State.enterAttached_eff ..))
    | (with_reducible apply Eff.by (State.modPwr_eff ..))
    | (with_reducible apply Eff.by (State.pwrEvent_eff ..))
    | (with_reducible apply Eff.by (State.takeC_eff ..))
    | split

theorem State.rdLost_eff (s : State) (p : Nat) :
    Eff 2 s (State.rdLost s p) := by
  unfold State.rdLost
  try dsimp only
  repeat' first
    | (with_reducible apply Eff.refl)
    | (with_reducible assumption)
    | decide
    | (with_reducible apply Eff.ite)
    | (with_reducible apply Eff.by (State.modPwr_eff ..))
    | split

theorem State.ccLost_eff (s : State) (p : Nat) :
    Eff 17049583 s (State.ccLost s p) := by
  unfold State.ccLost
  try dsimp only
  repeat' first
    | (with_reducible apply Eff.refl)
    | (with_reducible assumption)
    | decide
    | (with_reducible apply Eff.ite)
    | (with_reducible apply Eff.by (State.ccDetach_eff ..))
    | (with_reducible apply Eff.by (State.holdReq_eff ..))
    | (with_reducible apply Eff.by (State.modPwr_eff ..))
    | (with_reducible apply Eff.by (State.wake_eff ..))
    | split

theorem State.ccReplay_eff (s : State) (p : Nat) :
    Eff 16787439 s (State.ccReplay s p) := by
  unfold State.ccReplay
  try dsimp only
  repeat' first
    | (with_reducible apply Eff.refl)
    | (with_reducible assumption)
    | decide
    | (with_reducible apply Eff.ite)
    | (with_reducible apply Eff.by (State.ccAttach_eff ..))
    | (with_reducible apply Eff.by (State.ccDetach_eff ..))
    | split

theorem State.ccDrained_eff (s : State) (p : Nat) :
    Eff 262146 s (State.ccDrained s p) := by
  unfold State.ccDrained
  try dsimp only
  repeat' first
    | (with_reducible apply Eff.refl)
    | (with_reducible assumption)
    | decide
    | (with_reducible apply Eff.ite)
    | (with_reducible apply Eff.by (State.ccAttach_eff ..))
    | (with_reducible apply Eff.by (State.modPwr_eff ..))
    | (with_reducible apply Eff.by (State.wake_eff ..))
    | split

theorem State.vconnFault_eff (s : State) (p : Nat) :
    Eff 1050882 s (State.vconnFault s p) := by
  unfold State.vconnFault
  try dsimp only
  repeat' first
    | (with_reducible apply Eff.refl)
    | (with_reducible assumption)
    | decide
    | (with_reducible apply Eff.ite)
    | (with_reducible apply Eff.by (State.modPwr_eff ..))
    | (with_reducible apply Eff.by (State.note_eff ..))
    | (with_reducible apply Eff.by (State.pwrEvent_eff ..))
    | (with_reducible apply Eff.by (State.vconnOff_eff ..))
    | split

theorem State.discover_eff (s : State) (p : Nat) :
    Eff 2 s (State.discover s p) := by
  unfold State.discover
  try dsimp only
  repeat' first
    | (with_reducible apply Eff.refl)
    | (with_reducible assumption)
    | decide
    | (with_reducible apply Eff.ite)
    | (with_reducible apply Eff.by (State.emit_eff ..))
    | (with_reducible apply Eff.by (State.modPwr_eff ..))
    | split

theorem State.cableRead_eff (s : State) (p : Nat) (id vdo : Word) (caps : CableCaps) :
    Eff 258 s (State.cableRead s p id vdo caps) := by
  unfold State.cableRead
  try dsimp only
  repeat' first
    | (with_reducible apply Eff.refl)
    | (with_reducible assumption)
    | decide
    | (with_reducible apply Eff.ite)
    | (with_reducible apply Eff.by (State.modPwr_eff ..))
    | (with_reducible apply Eff.by (State.pwrEvent_eff ..))
    | split

theorem State.bcDetected_eff (s : State) (p : Nat) :
    Eff 258 s (State.bcDetected s p) := by
  unfold State.bcDetected
  try dsimp only
  repeat' first
    | (with_reducible apply Eff.refl)
    | (with_reducible assumption)
    | decide
    | (with_reducible apply Eff.ite)
    | (with_reducible apply Eff.by (State.modPwr_eff ..))
    | (with_reducible apply Eff.by (State.typeC_eff ..))
    | split

theorem State.rpAdjusted_eff (s : State) (p : Nat) :
    Eff 2 s (State.rpAdjusted s p) := by
  unfold State.rpAdjusted
  try dsimp only
  repeat' first
    | (with_reducible apply Eff.refl)
    | (with_reducible assumption)
    | decide
    | (with_reducible apply Eff.ite)
    | (with_reducible apply Eff.by (State.modPwr_eff ..))
    | split

theorem State.hardReset_eff (s : State) (p : Nat) (received : Bool) :
    Eff 16787439 s (State.hardReset s p received) := by
  unfold State.hardReset
  try dsimp only
  repeat' first
    | (with_reducible apply Eff.refl)
    | (with_reducible assumption)
    | decide
    | (with_reducible apply Eff.ite)
    | (with_reducible apply Eff.by (State.endContract_eff ..))
    | (with_reducible apply Eff.by (State.leaveQueue_eff ..))
    | (with_reducible apply Eff.by (State.modPwr_eff ..))
    | (with_reducible apply Eff.by (State.pd_eff ..))
    | (with_reducible apply Eff.by (State.pwrEvent_eff ..))
    | (with_reducible apply Eff.by (State.swOff_eff ..))
    | (with_reducible apply Eff.by (State.vconnOff_eff ..))
    | split

theorem State.hardRecovered_eff (s : State) (p : Nat) :
    Eff 16786407 s (State.hardRecovered s p) := by
  unfold State.hardRecovered
  try dsimp only
  repeat' first
    | (with_reducible apply Eff.refl)
    | (with_reducible assumption)
    | decide
    | (with_reducible apply Eff.ite)
    | (with_reducible apply Eff.by (State.enterAttached_eff ..))
    | (with_reducible apply Eff.by (State.modPwr_eff ..))
    | split

theorem State.keepLost_eff (s : State) (p : Nat) (inForce : Bool) :
    Eff 16787439 s (State.keepLost s p inForce) := by
  unfold State.keepLost
  try dsimp only
  repeat' first
    | (with_reducible apply Eff.refl)
    | (with_reducible assumption)
    | decide
    | (with_reducible apply Eff.ite)
    | (with_reducible apply Eff.by (State.hardReset_eff ..))
    | (with_reducible apply Eff.by (State.pwrEvent_eff ..))
    | split

theorem State.capsDue_eff (s : State) (p : Nat) (good : Bool) :
    Eff 1058 s (State.capsDue s p good) := by
  unfold State.capsDue
  try dsimp only
  repeat' first
    | (with_reducible apply Eff.refl)
    | (with_reducible assumption)
    | decide
    | (with_reducible apply Eff.ite)
    | (with_reducible apply Eff.by (State.modPwr_eff ..))
    | (with_reducible apply Eff.by (State.sendCaps_eff ..))
    | (with_reducible apply Eff.by (State.takeC_eff ..))
    | split

theorem State.capsAsked_eff (s : State) (p : Nat) :
    Eff 2 s (State.capsAsked s p) := by
  unfold State.capsAsked
  try dsimp only
  repeat' first
    | (with_reducible apply Eff.refl)
    | (with_reducible assumption)
    | decide
    | (with_reducible apply Eff.ite)
    | (with_reducible apply Eff.by (State.modPwr_eff ..))
    | (with_reducible apply Eff.by (State.sendCaps_eff ..))
    | split

theorem State.pdAnswer_eff (s : State) (p msg : Nat) (args : List Nat) :
    Eff 0 s (State.pdAnswer s p msg args) := by
  unfold State.pdAnswer
  try dsimp only
  repeat' first
    | (with_reducible apply Eff.refl)
    | (with_reducible assumption)
    | decide
    | (with_reducible apply Eff.ite)
    | (with_reducible apply Eff.by (State.pd_eff ..))
    | split

theorem State.acceptReq_eff (s : State) (p : Nat) (r : PdReq) (code : Nat) :
    Eff 258 s (State.acceptReq s p r code) := by
  unfold State.acceptReq
  try dsimp only
  repeat' first
    | (with_reducible apply Eff.refl)
    | (with_reducible assumption)
    | decide
    | (with_reducible apply Eff.ite)
    | (with_reducible apply Eff.by (State.accepted_eff ..))
    | (with_reducible apply Eff.by (State.modPwr_eff ..))
    | (with_reducible apply Eff.by (State.pd_eff ..))
    | (with_reducible apply Eff.by (State.pmbus_eff ..))
    | (with_reducible apply Eff.by (State.setContract_eff ..))
    | (with_reducible apply Eff.by (State.setVout_eff ..))
    | split

theorem State.pdRequest_eff (s : State) (p : Nat) (r : PdReq) :
    Eff 1314 s (State.pdRequest s p r) := by
  unfold State.pdRequest
  try dsimp only
  repeat' first
    | (with_reducible apply Eff.refl)
    | (with_reducible assumption)
    | decide
    | (with_reducible apply Eff.ite)
    | (with_reducible apply Eff.by (State.acceptReq_eff ..))
    | (with_reducible apply Eff.by (State.negotDone_eff ..))
    | (with_reducible apply Eff.by (State.pd_eff ..))
    | split

theorem State.eprEnter_eff (s : State) (p : Nat) :
    Eff 2 s (State.eprEnter s p) := by
  unfold State.eprEnter
  try dsimp only
  repeat' first
    | (with_reducible apply Eff.refl)
    | (with_reducible assumption)
    | decide
    | (with_reducible apply Eff.ite)
    | (with_reducible apply Eff.by (State.modPwr_eff ..))
    | (with_reducible apply Eff.by (State.pd_eff ..))
    | (with_reducible apply Eff.by (State.sendCaps_eff ..))
    | split

theorem State.psRdy_eff (s : State) (p : Nat) :
    Eff 1314 s (State.psRdy s p) := by
  unfold State.psRdy
  try dsimp only
  repeat' first
    | (with_reducible apply Eff.refl)
    | (with_reducible assumption)
    | decide
    | (with_reducible apply Eff.ite)
    | (with_reducible apply Eff.by (State.modPwr_eff ..))
    | (with_reducible apply Eff.by (State.negotDone_eff ..))
    | (with_reducible apply Eff.by (State.pd_eff ..))
    | split

theorem State.noRequest_eff (s : State) (p : Nat) :
    Eff 16787439 s (State.noRequest s p) := by
  unfold State.noRequest
  try dsimp only
  repeat' first
    | (with_reducible apply Eff.refl)
    | (with_reducible assumption)
    | decide
    | (with_reducible apply Eff.ite)
    | (with_reducible apply Eff.by (State.hardReset_eff ..))
    | (with_reducible apply Eff.by (State.negotDone_eff ..))
    | split

theorem State.stageLost_eff (s : State) (p : Nat) :
    Eff 17837039 s (State.stageLost s p) := by
  unfold State.stageLost
  try dsimp only
  repeat' first
    | (with_reducible apply Eff.refl)
    | (with_reducible assumption)
    | decide
    | (with_reducible apply Eff.ite)
    | (with_reducible apply Eff.by (State.causeOn_eff ..))
    | (with_reducible apply Eff.by (State.fault_eff ..))
    | (with_reducible apply Eff.by (State.modPwr_eff ..))
    | (with_reducible apply Eff.by (State.pmbus_eff ..))
    | (with_reducible apply Eff.by (State.pwrEvent_eff ..))
    | (with_reducible apply Eff.by (State.trip_eff ..))
    | split

theorem State.stageStart_eff (s : State) (p : Nat) :
    Eff 17837039 s (State.stageStart s p) := by
  unfold State.stageStart
  try dsimp only
  repeat' first
    | (with_reducible apply Eff.refl)
    | (with_reducible assumption)
    | decide
    | (with_reducible apply Eff.ite)
    | (with_reducible apply Eff.by (State.note_eff ..))
    | (with_reducible apply Eff.by (State.pmbus_eff ..))
    | (with_reducible apply Eff.by (State.stageLost_eff ..))
    | split

theorem State.stageAnswers_eff (s : State) (x : Straps) :
    Eff 2 s (State.stageAnswers s x) := by
  unfold State.stageAnswers
  try dsimp only
  repeat' first
    | (with_reducible apply Eff.refl)
    | (with_reducible assumption)
    | decide
    | (with_reducible apply Eff.ite)
    | (with_reducible apply Eff.foldl)
    | (with_reducible apply Eff.by (State.modPwr_eff ..))
    | split
    | (intro _)
    | (dsimp only)

theorem State.stageEvent_eff (s : State) (p : Nat) (x : StageStatus) :
    Eff 17838063 s (State.stageEvent s p x) := by
  unfold State.stageEvent
  try dsimp only
  repeat' first
    | (with_reducible apply Eff.refl)
    | (with_reducible assumption)
    | decide
    | (with_reducible apply Eff.ite)
    | (with_reducible apply Eff.by (State.causeOff_eff ..))
    | (with_reducible apply Eff.by (State.modPwr_eff ..))
    | (with_reducible apply Eff.by (State.note_eff ..))
    | (with_reducible apply Eff.by (State.pwrEvent_eff ..))
    | (with_reducible apply Eff.by (State.renegotiate_eff ..))
    | (with_reducible apply Eff.by (State.stageLost_eff ..))
    | split

theorem State.warnClear_eff (s : State) (p : Nat) :
    Eff 1314 s (State.warnClear s p) := by
  unfold State.warnClear
  try dsimp only
  repeat' first
    | (with_reducible apply Eff.refl)
    | (with_reducible assumption)
    | decide
    | (with_reducible apply Eff.ite)
    | (with_reducible apply Eff.by (State.modPwr_eff ..))
    | (with_reducible apply Eff.by (State.renegotiate_eff ..))
    | split

theorem State.thaw_eff (s : State) (g : Nat) :
    Eff 1314 s (State.thaw s g) := by
  unfold State.thaw
  try dsimp only
  repeat' first
    | (with_reducible apply Eff.refl)
    | (with_reducible assumption)
    | decide
    | (with_reducible apply Eff.ite)
    | (with_reducible apply Eff.foldl)
    | (with_reducible apply Eff.by (State.renegotiate_eff ..))
    | split
    | (intro _)
    | (dsimp only)

theorem State.busHeld_eff (s : State) (g : Nat) :
    Eff 1050912 s (State.busHeld s g) := by
  unfold State.busHeld
  try dsimp only
  repeat' first
    | (with_reducible apply Eff.refl)
    | (with_reducible assumption)
    | decide
    | (with_reducible apply Eff.ite)
    | (with_reducible apply Eff.by (State.causeOn_eff ..))
    | (with_reducible apply Eff.by (State.fault_eff ..))
    | (with_reducible apply Eff.by (State.modGals_eff ..))
    | split

theorem State.busFreed_eff (s : State) (g : Nat) :
    Eff 1049890 s (State.busFreed s g) := by
  unfold State.busFreed
  try dsimp only
  repeat' first
    | (with_reducible apply Eff.refl)
    | (with_reducible assumption)
    | decide
    | (with_reducible apply Eff.ite)
    | (with_reducible apply Eff.by (State.causeOff_eff ..))
    | (with_reducible apply Eff.by (State.modGals_eff ..))
    | (with_reducible apply Eff.by (State.thaw_eff ..))
    | split

theorem State.powerSum_eff (s : State) (g : Nat) :
    Eff 1050916 s (State.powerSum s g) := by
  unfold State.powerSum
  try dsimp only
  repeat' first
    | (with_reducible apply Eff.refl)
    | (with_reducible assumption)
    | decide
    | (with_reducible apply Eff.ite)
    | (with_reducible apply Eff.foldl)
    | (with_reducible apply Eff.by (State.modGals_eff ..))
    | (with_reducible apply Eff.by (State.modProt_eff ..))
    | (with_reducible apply Eff.by (State.note_eff ..))
    | split
    | (intro _)
    | (dsimp only)

theorem State.raiseSlot_eff (s : State) (g : Nat) :
    Eff 1314 s (State.raiseSlot s g) := by
  unfold State.raiseSlot
  try dsimp only
  repeat' first
    | (with_reducible apply Eff.refl)
    | (with_reducible assumption)
    | decide
    | (with_reducible apply Eff.ite)
    | (with_reducible apply Eff.by (State.leaveQueue_eff ..))
    | (with_reducible apply Eff.by (State.renegotiate_eff ..))
    | split

theorem State.svcSource_eff (s : State) (b : Bool) :
    Eff 524288 s (State.svcSource s b) := by
  unfold State.svcSource
  try dsimp only
  repeat' first
    | (with_reducible apply Eff.refl)
    | (with_reducible assumption)
    | decide
    | (with_reducible apply Eff.ite)
    | (with_reducible apply Eff.by (State.emit_eff ..))
    | (with_reducible apply Eff.by (State.modSvc_eff ..))
    | split

theorem State.svcOff_eff (s : State) (st : SvcState) :
    Eff 528384 s (State.svcOff s st) := by
  unfold State.svcOff
  try dsimp only
  repeat' first
    | (with_reducible apply Eff.refl)
    | (with_reducible assumption)
    | decide
    | (with_reducible apply Eff.ite)
    | (with_reducible apply Eff.by (State.modBoard_eff ..))
    | (with_reducible apply Eff.by (State.modSvc_eff ..))
    | (with_reducible apply Eff.by (State.svcSource_eff ..))
    | split

theorem State.svcDomain_eff (s : State) (b : Bool) :
    Eff 790528 s (State.svcDomain s b) := by
  unfold State.svcDomain
  try dsimp only
  repeat' first
    | (with_reducible apply Eff.refl)
    | (with_reducible assumption)
    | decide
    | (with_reducible apply Eff.ite)
    | (with_reducible apply Eff.by (State.modDps_eff ..))
    | (with_reducible apply Eff.by (State.modSvc_eff ..))
    | (with_reducible apply Eff.by (State.svcOff_eff ..))
    | split

theorem State.svcSink_eff (s : State) :
    Eff 524288 s (State.svcSink s) := by
  unfold State.svcSink
  try dsimp only
  repeat' first
    | (with_reducible apply Eff.refl)
    | (with_reducible assumption)
    | decide
    | (with_reducible apply Eff.ite)
    | (with_reducible apply Eff.by (State.modSvc_eff ..))
    | split

theorem State.svcSrc_eff (s : State) :
    Eff 524288 s (State.svcSrc s) := by
  unfold State.svcSrc
  try dsimp only
  repeat' first
    | (with_reducible apply Eff.refl)
    | (with_reducible assumption)
    | decide
    | (with_reducible apply Eff.ite)
    | (with_reducible apply Eff.by (State.emit_eff ..))
    | (with_reducible apply Eff.by (State.modSvc_eff ..))
    | (with_reducible apply Eff.by (State.svcSource_eff ..))
    | split

theorem State.svcToggle_eff (s : State) :
    Eff 524288 s (State.svcToggle s) := by
  unfold State.svcToggle
  try dsimp only
  repeat' first
    | (with_reducible apply Eff.refl)
    | (with_reducible assumption)
    | decide
    | (with_reducible apply Eff.ite)
    | (with_reducible apply Eff.by (State.modSvc_eff ..))
    | split

theorem State.svcRequest_eff (s : State) (ma : Nat) :
    Eff 524288 s (State.svcRequest s ma) := by
  unfold State.svcRequest
  try dsimp only
  repeat' first
    | (with_reducible apply Eff.refl)
    | (with_reducible assumption)
    | decide
    | (with_reducible apply Eff.ite)
    | (with_reducible apply Eff.by (State.emit_eff ..))
    | (with_reducible apply Eff.by (State.modSvc_eff ..))
    | split

theorem State.svcSwapped_eff (s : State) (ok : Bool) :
    Eff 524288 s (State.svcSwapped s ok) := by
  unfold State.svcSwapped
  try dsimp only
  repeat' first
    | (with_reducible apply Eff.refl)
    | (with_reducible assumption)
    | decide
    | (with_reducible apply Eff.ite)
    | (with_reducible apply Eff.by (State.modSvc_eff ..))
    | split

end Sys2Proof.Machine
end

