-- ==== Sys2Proof/Laws/EffPortCmd.lean ====
section
/-!
SUPPORT. What the operations of Machine/PortCmd.lean may do to the state: one lemma for each (Laws/Effects.lean).
-/
set_option linter.unreachableTactic false
set_option linter.unusedTactic false

namespace Sys2Proof.Machine

theorem State.unlessPaused_eff {m : Nat} (hm : Covers 512 m) (s : State) (k : Nat) (f : State → State)
    (hf : ∀ x0, Eff m x0 (f x0)) :
    Eff m s (State.unlessPaused s k f) := by
  unfold State.unlessPaused
  try dsimp only
  repeat' first
    | (with_reducible apply Eff.refl)
    | (with_reducible assumption)
    | exact hm
    | exact Covers.trans (by decide) hm
    | exact Covers.refl _
    | decide
    | (with_reducible apply Eff.ite)
    | (with_reducible apply Eff.by (hf ..))
    | (with_reducible apply Eff.by (State.modTenants_eff ..))
    | split
    | (intro _)
    | (dsimp only)

theorem State.inRun_eff {m : Nat} (hm : Covers 262656 m) (s : State) (k p : Nat) (f : State → State)
    (hf : ∀ x0, Eff m x0 (f x0)) :
    Eff m s (State.inRun s k p f) := by
  unfold State.inRun
  try dsimp only
  repeat' first
    | (with_reducible apply Eff.refl)
    | (with_reducible assumption)
    | exact hm
    | exact Covers.trans (by decide) hm
    | exact Covers.refl _
    | decide
    | (with_reducible apply Eff.ite)
    | (with_reducible apply Eff.by (hf ..))
    | (with_reducible apply Eff.by (State.modDps_eff ..))
    | (with_reducible apply Eff.by (State.unlessPaused_eff (m := m) ..))
    | (with_reducible apply Eff.by (State.wake_eff ..))
    | split
    | (intro _)
    | (dsimp only)

theorem State.portAction_eff {m : Nat} (hm : Covers 16778181 m) (s : State) (k : Nat) (i : Item) (action : Nat) (f : State → Nat → State)
    (hf : ∀ x0 x1, Eff m x0 (f x0 x1)) :
    Eff m s (State.portAction s k i action f) := by
  unfold State.portAction
  try dsimp only
  repeat' first
    | (with_reducible apply Eff.refl)
    | (with_reducible assumption)
    | exact hm
    | exact Covers.trans (by decide) hm
    | exact Covers.refl _
    | decide
    | (with_reducible apply Eff.ite)
    | (with_reducible apply Eff.by (hf ..))
    | (with_reducible apply Eff.by (State.finish_eff ..))
    | (with_reducible apply Eff.by (State.modItems_eff ..))
    | split
    | (intro _)
    | (dsimp only)

theorem State.vbusOn_eff (s : State) (k p : Nat) :
    Eff 16787431 s (State.vbusOn s k p) := by
  unfold State.vbusOn
  try dsimp only
  repeat' first
    | (with_reducible apply Eff.refl)
    | (with_reducible assumption)
    | decide
    | (with_reducible apply Eff.ite)
    | (with_reducible apply Eff.by (State.enterAttached_eff ..))
    | (with_reducible apply Eff.by (State.finish_eff ..))
    | (with_reducible apply Eff.by (State.swOn_eff ..))
    | (with_reducible apply Eff.by (State.takeC_eff ..))
    | split

theorem State.vbusOff_eff (s : State) (k p : Nat) :
    Eff 16787439 s (State.vbusOff s k p) := by
  unfold State.vbusOff
  try dsimp only
  repeat' first
    | (with_reducible apply Eff.refl)
    | (with_reducible assumption)
    | decide
    | (with_reducible apply Eff.ite)
    | (with_reducible apply Eff.by (State.finish_eff ..))
    | (with_reducible apply Eff.by (State.withholdOff_eff ..))
    | split

theorem State.askSuspend_eff (s : State) (k p : Nat) :
    Eff 16778221 s (State.askSuspend s k p) := by
  unfold State.askSuspend
  try dsimp only
  repeat' first
    | (with_reducible apply Eff.refl)
    | (with_reducible assumption)
    | decide
    | (with_reducible apply Eff.ite)
    | (with_reducible apply Eff.by (State.defer_eff ..))
    | (with_reducible apply Eff.by (State.finish_eff ..))
    | (with_reducible apply Eff.by (State.startSuspend_eff ..))
    | (with_reducible apply Eff.by (State.supersede_eff ..))
    | split

theorem State.askResume_eff (s : State) (k p : Nat) :
    Eff 16778181 s (State.askResume s k p) := by
  unfold State.askResume
  try dsimp only
  repeat' first
    | (with_reducible apply Eff.refl)
    | (with_reducible assumption)
    | decide
    | (with_reducible apply Eff.ite)
    | (with_reducible apply Eff.by (State.driveResume_eff ..))
    | (with_reducible apply Eff.by (State.finish_eff ..))
    | (with_reducible apply Eff.by (State.modUsb_eff ..))
    | split

theorem State.askDisable_eff (s : State) (k p : Nat) :
    Eff 16778221 s (State.askDisable s k p) := by
  unfold State.askDisable
  try dsimp only
  repeat' first
    | (with_reducible apply Eff.refl)
    | (with_reducible assumption)
    | decide
    | (with_reducible apply Eff.ite)
    | (with_reducible apply Eff.by (State.defer_eff ..))
    | (with_reducible apply Eff.by (State.doDisable_eff ..))
    | (with_reducible apply Eff.by (State.finish_eff ..))
    | split

theorem State.portStatus_eff (s : State) (k : Nat) (i : Item) :
    Eff 16778181 s (State.portStatus s k i) := by
  unfold State.portStatus
  try dsimp only
  repeat' first
    | (with_reducible apply Eff.refl)
    | (with_reducible assumption)
    | decide
    | (with_reducible apply Eff.ite)
    | (with_reducible apply Eff.by (State.finish_eff ..))
    | (with_reducible apply Eff.by (State.finishB_eff ..))
    | split

theorem State.suspChecked_eff (s : State) (p : Nat) (avg : Int) :
    Eff 16787439 s (State.suspChecked s p avg) := by
  unfold State.suspChecked
  try dsimp only
  repeat' first
    | (with_reducible apply Eff.refl)
    | (with_reducible assumption)
    | decide
    | (with_reducible apply Eff.ite)
    | (with_reducible apply Eff.by (State.modUsb_eff ..))
    | (with_reducible apply Eff.by (State.portEvent_eff ..))
    | (with_reducible apply Eff.by (State.usbEvent_eff ..))
    | (with_reducible apply Eff.by (State.withholdOff_eff ..))
    | split

theorem State.enterPm_eff (s : State) (p level : Nat) :
    Eff 1 s (State.enterPm s p level) := by
  unfold State.enterPm
  try dsimp only
  repeat' first
    | (with_reducible apply Eff.refl)
    | (with_reducible assumption)
    | decide
    | (with_reducible apply Eff.ite)
    | (with_reducible apply Eff.by (State.modUsb_eff ..))
    | split

theorem State.l1Idle_eff (s : State) (p : Nat) (lpm : Option Nat) :
    Eff 1 s (State.l1Idle s p lpm) := by
  unfold State.l1Idle
  try dsimp only
  repeat' first
    | (with_reducible apply Eff.refl)
    | (with_reducible assumption)
    | decide
    | (with_reducible apply Eff.ite)
    | (with_reducible apply Eff.by (State.emit_eff ..))
    | (with_reducible apply Eff.by (State.enterPm_eff ..))
    | split

theorem State.uIdle_eff (s : State) (p : Nat) (u2 : Bool) :
    Eff 1 s (State.uIdle s p u2) := by
  unfold State.uIdle
  try dsimp only
  repeat' first
    | (with_reducible apply Eff.refl)
    | (with_reducible assumption)
    | decide
    | (with_reducible apply Eff.ite)
    | (with_reducible apply Eff.by (State.enterPm_eff ..))
    | split

theorem State.devicePm_eff (s : State) (p level : Nat) :
    Eff 1 s (State.devicePm s p level) := by
  unfold State.devicePm
  try dsimp only
  repeat' first
    | (with_reducible apply Eff.refl)
    | (with_reducible assumption)
    | decide
    | (with_reducible apply Eff.ite)
    | (with_reducible apply Eff.by (State.enterPm_eff ..))
    | split

theorem State.restWindow_eff (s : State) (p : Nat) :
    Eff 25166847 s (State.restWindow s p) := by
  unfold State.restWindow
  try dsimp only
  repeat' first
    | (with_reducible apply Eff.refl)
    | (with_reducible assumption)
    | decide
    | (with_reducible apply Eff.ite)
    | (with_reducible apply Eff.by (State.restoreLost_eff ..))
    | split

theorem State.restLate_eff (s : State) (p : Nat) :
    Eff 25166847 s (State.restLate s p) := by
  unfold State.restLate
  try dsimp only
  repeat' first
    | (with_reducible apply Eff.refl)
    | (with_reducible assumption)
    | decide
    | (with_reducible apply Eff.ite)
    | (with_reducible apply Eff.by (State.restoreLost_eff ..))
    | split

theorem State.wakeSeen_eff (s : State) (p device : Nat) :
    Eff 262401 s (State.wakeSeen s p device) := by
  unfold State.wakeSeen
  try dsimp only
  repeat' first
    | (with_reducible apply Eff.refl)
    | (with_reducible assumption)
    | decide
    | (with_reducible apply Eff.ite)
    | (with_reducible apply Eff.by (State.remoteWaken_eff ..))
    | (with_reducible apply Eff.by (State.wake_eff ..))
    | split

theorem State.disconnected_eff (s : State) (p : Nat) :
    Eff 17040365 s (State.disconnected s p) := by
  unfold State.disconnected
  try dsimp only
  repeat' first
    | (with_reducible apply Eff.refl)
    | (with_reducible assumption)
    | decide
    | (with_reducible apply Eff.ite)
    | (with_reducible apply Eff.by (State.portGone_eff ..))
    | (with_reducible apply Eff.by (State.wake_eff ..))
    | split

theorem State.releaseAsked_eff (s : State) (p : Nat) :
    Eff 16787439 s (State.releaseAsked s p).1 := by
  unfold State.releaseAsked
  try dsimp only
  repeat' first
    | (with_reducible apply Eff.refl)
    | (with_reducible assumption)
    | decide
    | (with_reducible apply Eff.ite)
    | (with_reducible apply Eff.ite1)
    | (with_reducible apply Eff.by (State.releasePort_eff ..))
    | split

end Sys2Proof.Machine
end

