-- ==== Sys2Proof/Laws/EffVault.lean ====
section
/-!
SUPPORT. What the operations of Machine/Vault.lean may do to the state: one lemma for each (Laws/Effects.lean).
-/
set_option linter.unreachableTactic false
set_option linter.unusedTactic false

namespace Sys2Proof.Machine

theorem SMap.wf_foldl {α β : Type} [DecidableEq α] (d : α) {l : List β} {f : SMap α → β → SMap α}
    (hf : ∀ m x, SMap.wf d m = true → SMap.wf d (f m x) = true) {m : SMap α} (h : SMap.wf d m = true) :
    SMap.wf d (l.foldl f m) = true := by
  induction l generalizing m with
  | nil => exact h
  | cons x l ih => exact ih (hf _ _ h)

theorem putBytes_wf {m : SMap Byte} (base : Nat) (d : Bytes) (h : SMap.wf 0 m = true) : SMap.wf 0 (putBytes m base d) = true :=
  SMap.wf_foldl 0 (fun _ _ hm => SMap.wf_put _ _ _ hm) h

theorem State.holdPipe_eff (s : State) (n m : Nat) (h : PipeHold) (i : Item) :
    Eff 192 s (State.holdPipe s n m h i) := by
  unfold State.holdPipe
  try dsimp only
  repeat' first
    | (with_reducible apply Eff.refl)
    | (with_reducible assumption)
    | decide
    | (with_reducible apply Eff.ite)
    | (with_reducible apply Eff.by (State.modPipes_eff ..))
    | (with_reducible apply Eff.by (State.setItems_eff ..))
    | split

theorem State.unhold_eff (s : State) (m : Nat) :
    Eff 197 s (State.unhold s m) := by
  unfold State.unhold
  try dsimp only
  repeat' first
    | (with_reducible apply Eff.refl)
    | (with_reducible assumption)
    | decide
    | (with_reducible apply Eff.ite)
    | (with_reducible apply Eff.by (State.dropItem_eff ..))
    | split

theorem State.letGo_eff (s : State) (n m : Nat) (h : PipeHold) :
    Eff 197 s (State.letGo s n m h) := by
  unfold State.letGo
  try dsimp only
  repeat' first
    | (with_reducible apply Eff.refl)
    | (with_reducible assumption)
    | decide
    | (with_reducible apply Eff.ite)
    | (with_reducible apply Eff.by (State.modPipes_eff ..))
    | (with_reducible apply Eff.by (State.unhold_eff ..))
    | split

theorem State.readCmds_eff (s : State) (c : Nvme) (ps : List (Nat × Nat × Nat × Nat)) :
    Eff 16777216 s (State.readCmds s c ps) := by
  unfold State.readCmds
  try dsimp only
  repeat' first
    | (with_reducible apply Eff.refl)
    | (with_reducible assumption)
    | decide
    | (with_reducible apply Eff.ite)
    | (with_reducible apply Eff.foldl)
    | (with_reducible apply Eff.by (State.nvme_eff ..))
    | split
    | (intro _)
    | (dsimp only)

theorem State.writeCmds_eff (s : State) (c : Nvme) (ps : List (Nat × Nat × Nat × Nat)) (d : Bytes) (fua : Bool) :
    Eff 16777216 s (State.writeCmds s c ps d fua) := by
  unfold State.writeCmds
  try dsimp only
  repeat' first
    | (with_reducible apply Eff.refl)
    | (with_reducible assumption)
    | decide
    | (with_reducible apply Eff.ite)
    | (with_reducible apply Eff.foldl)
    | (with_reducible apply Eff.by (State.nvme_eff ..))
    | split
    | (intro _)
    | (dsimp only)

theorem State.stored_eff (s : State) (c : Nvme) :
    Eff 150994944 s (State.stored s c) := by
  unfold State.stored
  try dsimp only
  repeat' first
    | (with_reducible apply Eff.refl)
    | (with_reducible assumption)
    | decide
    | (with_reducible apply Eff.ite)
    | (with_reducible apply Eff.by (State.modVault_data ..))
    | exact putBytes_wf _ _
    | exact id
    | (with_reducible apply Eff.by (State.modVault_eff ..))
    | (with_reducible rfl)
    | (with_reducible apply Eff.by (State.nvme_eff ..))
    | split

theorem State.sendIn_eff (s : State) (k : Nat) (i : Item) (d : Bytes) :
    Eff 384 s (State.sendIn s k i d) := by
  unfold State.sendIn
  try dsimp only
  repeat' first
    | (with_reducible apply Eff.refl)
    | (with_reducible assumption)
    | decide
    | (with_reducible apply Eff.ite)
    | (with_reducible apply Eff.foldl)
    | (with_reducible apply Eff.by (State.modItems_eff ..))
    | (with_reducible apply Eff.by (State.modSess_eff ..))
    | split
    | (intro _)
    | (dsimp only)

theorem State.vaultBoundary_eff (s : State) (k : Nat) :
    Eff 16778181 s (State.vaultBoundary s k) := by
  unfold State.vaultBoundary
  try dsimp only
  repeat' first
    | (with_reducible apply Eff.refl)
    | (with_reducible assumption)
    | decide
    | (with_reducible apply Eff.ite)
    | (with_reducible apply Eff.by (State.finish_eff ..))
    | (with_reducible apply Eff.by (State.finishB_eff ..))
    | (with_reducible apply Eff.by (State.modItems_eff ..))
    | (with_reducible apply Eff.by (State.sendIn_eff ..))
    | (with_reducible apply Eff.by (State.vaultEvent_eff ..))
    | split

theorem State.vaultStart_eff (s : State) (k : Nat) :
    Eff 150995909 s (State.vaultStart s k) := by
  unfold State.vaultStart
  try dsimp only
  repeat' first
    | (with_reducible apply Eff.refl)
    | (with_reducible assumption)
    | decide
    | (with_reducible apply Eff.ite)
    | (with_reducible apply Eff.foldl)
    | (with_reducible apply Eff.by (State.clearExts_eff ..))
    | (with_reducible apply Eff.by (State.modItems_eff ..))
    | (with_reducible apply Eff.by (State.nvme_eff ..))
    | (with_reducible apply Eff.by (State.readCmds_eff ..))
    | (with_reducible apply Eff.by (State.vaultBoundary_eff ..))
    | (with_reducible apply Eff.by (State.writeCmds_eff ..))
    | split
    | (intro _)
    | (dsimp only)

theorem State.vaultPass_eff (s : State) :
    Eff 150995909 s (State.vaultPass s) := by
  unfold State.vaultPass
  try dsimp only
  repeat' first
    | (with_reducible apply Eff.refl)
    | (with_reducible assumption)
    | decide
    | (with_reducible apply Eff.ite)
    | (with_reducible apply Eff.foldl)
    | (with_reducible apply Eff.by (State.vaultStart_eff ..))
    | split
    | (intro _)
    | (dsimp only)

theorem State.vaultTake_eff (s : State) (k tlba blocks : Nat) (write : Bool) (len : Nat) :
    Eff 150995909 s (State.vaultTake s k tlba blocks write len) := by
  unfold State.vaultTake
  try dsimp only
  repeat' first
    | (with_reducible apply Eff.refl)
    | (with_reducible assumption)
    | decide
    | (with_reducible apply Eff.ite)
    | (with_reducible apply Eff.by (State.modItems_eff ..))
    | (with_reducible apply Eff.by (State.vaultStart_eff ..))
    | split

theorem State.doVaultRead_eff (s : State) (k : Nat) (i : Item) :
    Eff 150995909 s (State.doVaultRead s k i) := by
  unfold State.doVaultRead
  try dsimp only
  repeat' first
    | (with_reducible apply Eff.refl)
    | (with_reducible assumption)
    | decide
    | (with_reducible apply Eff.ite)
    | (with_reducible apply Eff.by (State.finish_eff ..))
    | (with_reducible apply Eff.by (State.modItems_eff ..))
    | (with_reducible apply Eff.by (State.vaultTake_eff ..))
    | split

theorem State.doVaultWrite_eff (s : State) (k : Nat) (i : Item) :
    Eff 150995909 s (State.doVaultWrite s k i) := by
  unfold State.doVaultWrite
  try dsimp only
  repeat' first
    | (with_reducible apply Eff.refl)
    | (with_reducible assumption)
    | decide
    | (with_reducible apply Eff.ite)
    | (with_reducible apply Eff.by (State.finish_eff ..))
    | (with_reducible apply Eff.by (State.vaultTake_eff ..))
    | split

theorem State.doVaultFlush_eff (s : State) (k : Nat) :
    Eff 150995909 s (State.doVaultFlush s k) := by
  unfold State.doVaultFlush
  try dsimp only
  repeat' first
    | (with_reducible apply Eff.refl)
    | (with_reducible assumption)
    | decide
    | (with_reducible apply Eff.ite)
    | (with_reducible apply Eff.by (State.finish_eff ..))
    | (with_reducible apply Eff.by (State.vaultTake_eff ..))
    | split

theorem State.doVaultDealloc_eff (s : State) (k : Nat) (i : Item) :
    Eff 150995909 s (State.doVaultDealloc s k i) := by
  unfold State.doVaultDealloc
  try dsimp only
  repeat' first
    | (with_reducible apply Eff.refl)
    | (with_reducible assumption)
    | decide
    | (with_reducible apply Eff.ite)
    | (with_reducible apply Eff.by (State.finish_eff ..))
    | (with_reducible apply Eff.by (State.vaultTake_eff ..))
    | split

theorem State.vaultFail_eff (s : State) (k det : Nat) :
    Eff 16778181 s (State.vaultFail s k det) := by
  unfold State.vaultFail
  try dsimp only
  repeat' first
    | (with_reducible apply Eff.refl)
    | (with_reducible assumption)
    | decide
    | (with_reducible apply Eff.ite)
    | (with_reducible apply Eff.by (State.modItems_eff ..))
    | (with_reducible apply Eff.by (State.vaultBoundary_eff ..))
    | split

theorem State.driveUp_eff (s : State) (n : Nat) (spaces : List Nat) :
    Eff 0 s (State.driveUp s n spaces) := by
  unfold State.driveUp
  try dsimp only
  repeat' first
    | (with_reducible apply Eff.refl)
    | (with_reducible assumption)
    | decide
    | (with_reducible apply Eff.ite)
    | (with_reducible apply Eff.foldl)
    | (with_reducible apply Eff.by (State.emit_eff ..))
    | split
    | (intro _)
    | (dsimp only)

theorem State.driveDown_eff (s : State) (n : Nat) :
    Eff 0 s (State.driveDown s n) := by
  unfold State.driveDown
  try dsimp only
  repeat' first
    | (with_reducible apply Eff.refl)
    | (with_reducible assumption)
    | decide
    | (with_reducible apply Eff.ite)
    | (with_reducible apply Eff.foldl)
    | (with_reducible apply Eff.by (State.emit_eff ..))
    | split
    | (intro _)
    | (dsimp only)

theorem State.vaultOn_eff (s : State) (found : DriveReps) :
    Eff 154142208 s (State.vaultOn s found) := by
  unfold State.vaultOn
  try dsimp only
  repeat' first
    | (with_reducible apply Eff.refl)
    | (with_reducible assumption)
    | decide
    | (with_reducible apply Eff.ite)
    | (with_reducible apply Eff.foldl)
    | (with_reducible apply Eff.by (State.causeOff_eff ..))
    | (with_reducible apply Eff.by (State.clearExts_eff ..))
    | (with_reducible apply Eff.by (State.driveUp_eff ..))
    | (with_reducible apply Eff.by (State.enableDone_eff ..))
    | (with_reducible apply Eff.by (State.modTenants_eff ..))
    | (with_reducible apply Eff.by (State.modVault_eff ..))
    | (with_reducible rfl)
    | (with_reducible apply Eff.by (State.recordHouse_eff ..))
    | (with_reducible apply Eff.by (State.setDrive_eff ..))
    | (with_reducible apply Eff.by (State.setEff_eff ..))
    | split
    | (intro _)
    | (dsimp only)

theorem State.vaultOff_eff (s : State) :
    Eff 16778240 s (State.vaultOff s).1 := by
  unfold State.vaultOff
  try dsimp only
  repeat' first
    | (with_reducible apply Eff.refl)
    | (with_reducible assumption)
    | decide
    | (with_reducible apply Eff.ite)
    | (with_reducible apply Eff.ite1)
    | (with_reducible apply Eff.foldl)
    | (with_reducible apply Eff.by (State.driveDown_eff ..))
    | (with_reducible apply Eff.by (State.modVault_eff ..))
    | (with_reducible rfl)
    | (with_reducible apply Eff.by (State.setDrive_eff ..))
    | (with_reducible apply Eff.by (State.setEff_eff ..))
    | split
    | (intro _)
    | (dsimp only)

theorem State.templatePut_eff (s : State) (k : Nat) :
    Eff 16778181 s (State.templatePut s k) := by
  unfold State.templatePut
  try dsimp only
  repeat' first
    | (with_reducible apply Eff.refl)
    | (with_reducible assumption)
    | decide
    | (with_reducible apply Eff.ite)
    | (with_reducible apply Eff.by (State.finish_eff ..))
    | (with_reducible apply Eff.by (State.modItems_eff ..))
    | (with_reducible apply Eff.by (State.modVault_eff ..))
    | (with_reducible rfl)
    | split

theorem State.doTemplate_eff (s : State) (k : Nat) (i : Item) :
    Eff 16778181 s (State.doTemplate s k i) := by
  unfold State.doTemplate
  try dsimp only
  repeat' first
    | (with_reducible apply Eff.refl)
    | (with_reducible assumption)
    | decide
    | (with_reducible apply Eff.ite)
    | (with_reducible apply Eff.by (State.finish_eff ..))
    | (with_reducible apply Eff.by (State.modItems_eff ..))
    | split

theorem State.templatePass_eff (s : State) :
    Eff 16778181 s (State.templatePass s) := by
  unfold State.templatePass
  try dsimp only
  repeat' first
    | (with_reducible apply Eff.refl)
    | (with_reducible assumption)
    | decide
    | (with_reducible apply Eff.ite)
    | (with_reducible apply Eff.foldl)
    | (with_reducible apply Eff.by (State.templatePut_eff ..))
    | split
    | (intro _)
    | (dsimp only)

end Sys2Proof.Machine
end

