-- ==== Sys2Proof/Laws/EffFanout.lean ====
section
/-!
SUPPORT. What the operations of Machine/Fanout.lean may do to the state: one lemma for each (Laws/Effects.lean).
-/
set_option linter.unreachableTactic false
set_option linter.unusedTactic false

namespace Sys2Proof.Machine

theorem State.modTgt_eff (s : State) (n i : Nat) (f : Target → Target) :
    Eff 16777216 s (State.modTgt s n i f) := by
  unfold State.modTgt
  try dsimp only
  repeat' first
    | (with_reducible apply Eff.refl)
    | (with_reducible assumption)
    | decide
    | (with_reducible apply Eff.ite)
    | (with_reducible apply Eff.by (State.setJob_eff ..))
    | split

theorem State.chunkRead_eff (s : State) (n tag c : Nat) :
    Eff 16777216 s (State.chunkRead s n tag c) := by
  unfold State.chunkRead
  try dsimp only
  repeat' first
    | (with_reducible apply Eff.refl)
    | (with_reducible assumption)
    | decide
    | (with_reducible apply Eff.ite)
    | (with_reducible apply Eff.by (State.readCmds_eff ..))
    | (with_reducible apply Eff.by (State.setJob_eff ..))
    | split

theorem State.poolUse_eff (s : State) (f : Nat → Nat) :
    Eff 8388608 s (State.poolUse s f) := by
  unfold State.poolUse
  try dsimp only
  repeat' first
    | (with_reducible apply Eff.refl)
    | (with_reducible assumption)
    | decide
    | (with_reducible apply Eff.ite)
    | (with_reducible apply Eff.by (State.modMem_eff ..))
    | split

theorem State.dropStaging_eff (s : State) (n i : Nat) :
    Eff 25165824 s (State.dropStaging s n i) := by
  unfold State.dropStaging
  try dsimp only
  repeat' first
    | (with_reducible apply Eff.refl)
    | (with_reducible assumption)
    | decide
    | (with_reducible apply Eff.ite)
    | (with_reducible apply Eff.by (State.modTgt_eff ..))
    | (with_reducible apply Eff.by (State.poolUse_eff ..))
    | split

theorem State.catchUp_eff (s : State) (n i : Nat) :
    Eff 25166080 s (State.catchUp s n i) := by
  unfold State.catchUp
  try dsimp only
  repeat' first
    | (with_reducible apply Eff.refl)
    | (with_reducible assumption)
    | decide
    | (with_reducible apply Eff.ite)
    | (with_reducible apply Eff.by (State.modTgt_eff ..))
    | (with_reducible apply Eff.by (State.poolUse_eff ..))
    | (with_reducible apply Eff.by (State.vaultEvent_eff ..))
    | split

theorem State.tgtEnd_eff (s : State) (n i out det : Nat) :
    Eff 25166112 s (State.tgtEnd s n i out det) := by
  unfold State.tgtEnd
  try dsimp only
  repeat' first
    | (with_reducible apply Eff.refl)
    | (with_reducible assumption)
    | decide
    | (with_reducible apply Eff.ite)
    | (with_reducible apply Eff.by (State.dropStaging_eff ..))
    | (with_reducible apply Eff.by (State.modTgt_eff ..))
    | (with_reducible apply Eff.by (State.npGive_eff ..))
    | (with_reducible apply Eff.by (State.vaultEvent_eff ..))
    | split

theorem State.jobView_eff (s : State) (m : Nat) (b : Bytes) :
    Eff 17959168 s (State.jobView s m b) := by
  unfold State.jobView
  try dsimp only
  repeat' first
    | (with_reducible apply Eff.refl)
    | (with_reducible assumption)
    | decide
    | (with_reducible apply Eff.ite)
    | (with_reducible apply Eff.by (State.modColl_eff ..))
    | (with_reducible apply Eff.by (State.note_eff ..))
    | (with_reducible apply Eff.by (State.vaultEvent_eff ..))
    | split

theorem State.progress_eff (s : State) (j : Job) :
    Eff 17959168 s (State.progress s j) := by
  unfold State.progress
  try dsimp only
  repeat' first
    | (with_reducible apply Eff.refl)
    | (with_reducible assumption)
    | decide
    | (with_reducible apply Eff.ite)
    | (with_reducible apply Eff.foldl)
    | (with_reducible apply Eff.by (State.jobView_eff ..))
    | (with_reducible apply Eff.by (State.nqSend_eff ..))
    | split
    | (intro _)
    | (dsimp only)

theorem State.progressAll_eff (s : State) :
    Eff 17959168 s (State.progressAll s) := by
  unfold State.progressAll
  try dsimp only
  repeat' first
    | (with_reducible apply Eff.refl)
    | (with_reducible assumption)
    | decide
    | (with_reducible apply Eff.ite)
    | (with_reducible apply Eff.foldl)
    | (with_reducible apply Eff.by (State.progress_eff ..))
    | split
    | (intro _)
    | (dsimp only)

theorem State.jobEnd_eff (s : State) (n out det : Nat) :
    Eff 26348485 s (State.jobEnd s n out det) := by
  unfold State.jobEnd
  try dsimp only
  repeat' first
    | (with_reducible apply Eff.refl)
    | (with_reducible assumption)
    | decide
    | (with_reducible apply Eff.ite)
    | (with_reducible apply Eff.foldl)
    | (with_reducible apply Eff.by (State.finishB_eff ..))
    | (with_reducible apply Eff.by (State.letGo_eff ..))
    | (with_reducible apply Eff.by (State.modItems_eff ..))
    | (with_reducible apply Eff.by (State.modVault_eff ..))
    | (with_reducible rfl)
    | (with_reducible apply Eff.by (State.poolUse_eff ..))
    | (with_reducible apply Eff.by (State.progress_eff ..))
    | (with_reducible apply Eff.by (State.setJob_eff ..))
    | split
    | (intro _)
    | (dsimp only)

theorem State.jobSettle_eff (s : State) (n : Nat) :
    Eff 26348517 s (State.jobSettle s n) := by
  unfold State.jobSettle
  try dsimp only
  repeat' first
    | (with_reducible apply Eff.refl)
    | (with_reducible assumption)
    | decide
    | (with_reducible apply Eff.ite)
    | (with_reducible apply Eff.foldl)
    | (with_reducible apply Eff.by (State.jobEnd_eff ..))
    | (with_reducible apply Eff.by (State.tgtEnd_eff ..))
    | split
    | (intro _)
    | (dsimp only)

theorem State.crossWing_eff (s : State) (n i : Nat) :
    Eff 16777216 s (State.crossWing s n i) := by
  unfold State.crossWing
  try dsimp only
  repeat' first
    | (with_reducible apply Eff.refl)
    | (with_reducible assumption)
    | decide
    | (with_reducible apply Eff.ite)
    | (with_reducible apply Eff.by (State.emit_eff ..))
    | (with_reducible apply Eff.by (State.setJob_eff ..))
    | split

theorem State.exchange_eff (s : State) (n i : Nat) (verify : Bool) (data : Bytes) :
    Eff 16777216 s (State.exchange s n i verify data) := by
  unfold State.exchange
  try dsimp only
  repeat' first
    | (with_reducible apply Eff.refl)
    | (with_reducible assumption)
    | decide
    | (with_reducible apply Eff.ite)
    | (with_reducible apply Eff.by (State.crossWing_eff ..))
    | (with_reducible apply Eff.by (State.emit_eff ..))
    | (with_reducible apply Eff.by (State.modTgt_eff ..))
    | split

theorem State.stageRead_eff (s : State) (n i : Nat) (catching : Bool) :
    Eff 25166112 s (State.stageRead s n i catching) := by
  unfold State.stageRead
  try dsimp only
  repeat' first
    | (with_reducible apply Eff.refl)
    | (with_reducible assumption)
    | decide
    | (with_reducible apply Eff.ite)
    | (with_reducible apply Eff.by (State.chunkRead_eff ..))
    | (with_reducible apply Eff.by (State.modTgt_eff ..))
    | (with_reducible apply Eff.by (State.modVault_eff ..))
    | (with_reducible rfl)
    | (with_reducible apply Eff.by (State.tgtEnd_eff ..))
    | split

theorem State.refRead_eff (s : State) (n i : Nat) :
    Eff 25166112 s (State.refRead s n i) := by
  unfold State.refRead
  try dsimp only
  repeat' first
    | (with_reducible apply Eff.refl)
    | (with_reducible assumption)
    | decide
    | (with_reducible apply Eff.ite)
    | (with_reducible apply Eff.by (State.chunkRead_eff ..))
    | (with_reducible apply Eff.by (State.setJob_eff ..))
    | (with_reducible apply Eff.by (State.tgtEnd_eff ..))
    | split

theorem State.startExchange_eff (s : State) (n i : Nat) (verify : Bool) (data : Bytes) :
    Eff 16777248 s (State.startExchange s n i verify data) := by
  unfold State.startExchange
  try dsimp only
  repeat' first
    | (with_reducible apply Eff.refl)
    | (with_reducible assumption)
    | decide
    | (with_reducible apply Eff.ite)
    | (with_reducible apply Eff.by (State.exchange_eff ..))
    | (with_reducible apply Eff.by (State.npTake_eff ..))
    | (with_reducible apply Eff.by (State.npWait_eff ..))
    | split

theorem State.tgtStep_eff (s : State) (n i : Nat) :
    Eff 25166112 s (State.tgtStep s n i) := by
  unfold State.tgtStep
  try dsimp only
  repeat' first
    | (with_reducible apply Eff.refl)
    | (with_reducible assumption)
    | decide
    | (with_reducible apply Eff.ite)
    | (with_reducible apply Eff.by (State.refRead_eff ..))
    | (with_reducible apply Eff.by (State.stageRead_eff ..))
    | (with_reducible apply Eff.by (State.startExchange_eff ..))
    | split

theorem State.trimUp_eff (s : State) (n : Nat) :
    Eff 16777344 s (State.trimUp s n) := by
  unfold State.trimUp
  try dsimp only
  repeat' first
    | (with_reducible apply Eff.refl)
    | (with_reducible assumption)
    | decide
    | (with_reducible apply Eff.ite)
    | (with_reducible apply Eff.by (State.modItems_eff ..))
    | (with_reducible apply Eff.by (State.setJob_eff ..))
    | split

theorem State.chunkIn_eff (s : State) (n : Nat) :
    Eff 16777216 s (State.chunkIn s n) := by
  unfold State.chunkIn
  try dsimp only
  repeat' first
    | (with_reducible apply Eff.refl)
    | (with_reducible assumption)
    | decide
    | (with_reducible apply Eff.ite)
    | (with_reducible apply Eff.by (State.setJob_eff ..))
    | split

theorem State.chunkOut_eff (s : State) (n : Nat) :
    Eff 16777344 s (State.chunkOut s n) := by
  unfold State.chunkOut
  try dsimp only
  repeat' first
    | (with_reducible apply Eff.refl)
    | (with_reducible assumption)
    | decide
    | (with_reducible apply Eff.ite)
    | (with_reducible apply Eff.by (State.setJob_eff ..))
    | (with_reducible apply Eff.by (State.trimUp_eff ..))
    | split

theorem State.chunkLost_eff (s : State) (n det : Nat) :
    Eff 25166112 s (State.chunkLost s n det) := by
  unfold State.chunkLost
  try dsimp only
  repeat' first
    | (with_reducible apply Eff.refl)
    | (with_reducible assumption)
    | decide
    | (with_reducible apply Eff.ite)
    | (with_reducible apply Eff.foldl)
    | (with_reducible apply Eff.by (State.setJob_eff ..))
    | (with_reducible apply Eff.by (State.tgtEnd_eff ..))
    | split
    | (intro _)
    | (dsimp only)

theorem State.windowStep_eff (s : State) (n : Nat) :
    Eff 25166240 s (State.windowStep s n) := by
  unfold State.windowStep
  try dsimp only
  repeat' first
    | (with_reducible apply Eff.refl)
    | (with_reducible assumption)
    | decide
    | (with_reducible apply Eff.ite)
    | (with_reducible apply Eff.foldl)
    | (with_reducible apply Eff.by (State.catchUp_eff ..))
    | (with_reducible apply Eff.by (State.chunkIn_eff ..))
    | (with_reducible apply Eff.by (State.chunkLost_eff ..))
    | (with_reducible apply Eff.by (State.chunkOut_eff ..))
    | (with_reducible apply Eff.by (State.chunkRead_eff ..))
    | (with_reducible apply Eff.by (State.setJob_eff ..))
    | split
    | (intro _)
    | (dsimp only)

theorem Eff.times {m : Nat} {f : State → State} (h : ∀ s, Eff m s (f s)) {k : Nat} {s t : State} (ht : Eff m s t) :
    Eff m s (times f k t) := by
  induction k generalizing t with
  | zero => exact ht
  | succ k ih => exact ih (ht.trans (h t))

theorem State.jobPump_eff (s : State) (n : Nat) :
    Eff 25166240 s (State.jobPump s n) := by
  unfold State.jobPump
  try dsimp only
  repeat' first
    | (with_reducible apply Eff.refl)
    | (with_reducible assumption)
    | decide
    | (with_reducible apply Eff.ite)
    | (with_reducible apply Eff.foldl)
    | (with_reducible apply Eff.times)
    | (with_reducible apply Eff.by (State.tgtStep_eff ..))
    | (with_reducible apply Eff.by (State.trimUp_eff ..))
    | (with_reducible apply Eff.by (State.windowStep_eff ..))
    | (with_reducible apply Eff.by (times_eff ..))
    | split
    | (intro _)
    | (dsimp only)

theorem State.tgtLast_eff (s : State) (n i : Nat) :
    Eff 25166112 s (State.tgtLast s n i) := by
  unfold State.tgtLast
  try dsimp only
  repeat' first
    | (with_reducible apply Eff.refl)
    | (with_reducible assumption)
    | decide
    | (with_reducible apply Eff.ite)
    | (with_reducible apply Eff.by (State.dropStaging_eff ..))
    | (with_reducible apply Eff.by (State.modTgt_eff ..))
    | (with_reducible apply Eff.by (State.tgtEnd_eff ..))
    | split

theorem State.tgtWrote_eff (s : State) (n i : Nat) :
    Eff 25166112 s (State.tgtWrote s n i) := by
  unfold State.tgtWrote
  try dsimp only
  repeat' first
    | (with_reducible apply Eff.refl)
    | (with_reducible assumption)
    | decide
    | (with_reducible apply Eff.ite)
    | (with_reducible apply Eff.by (State.dropStaging_eff ..))
    | (with_reducible apply Eff.by (State.modTgt_eff ..))
    | (with_reducible apply Eff.by (State.setJob_eff ..))
    | (with_reducible apply Eff.by (State.tgtLast_eff ..))
    | split

theorem State.tgtChecked_eff (s : State) (n i : Nat) (ok : Bool) :
    Eff 25166177 s (State.tgtChecked s n i ok) := by
  unfold State.tgtChecked
  try dsimp only
  repeat' first
    | (with_reducible apply Eff.refl)
    | (with_reducible assumption)
    | decide
    | (with_reducible apply Eff.ite)
    | (with_reducible apply Eff.by (State.modTgt_eff ..))
    | (with_reducible apply Eff.by (State.repaired_eff ..))
    | (with_reducible apply Eff.by (State.tgtEnd_eff ..))
    | split

theorem State.tgtMatched_eff (s : State) (n i : Nat) :
    Eff 25166177 s (State.tgtMatched s n i) := by
  unfold State.tgtMatched
  try dsimp only
  repeat' first
    | (with_reducible apply Eff.refl)
    | (with_reducible assumption)
    | decide
    | (with_reducible apply Eff.ite)
    | (with_reducible apply Eff.by (State.modTgt_eff ..))
    | (with_reducible apply Eff.by (State.npGive_eff ..))
    | (with_reducible apply Eff.by (State.tgtChecked_eff ..))
    | (with_reducible apply Eff.by (State.tgtWrote_eff ..))
    | split

theorem State.tgtRetry_eff (s : State) (n i out det : Nat) :
    Eff 25166112 s (State.tgtRetry s n i out det) := by
  unfold State.tgtRetry
  try dsimp only
  repeat' first
    | (with_reducible apply Eff.refl)
    | (with_reducible assumption)
    | decide
    | (with_reducible apply Eff.ite)
    | (with_reducible apply Eff.by (State.modTgt_eff ..))
    | (with_reducible apply Eff.by (State.npGive_eff ..))
    | (with_reducible apply Eff.by (State.tgtEnd_eff ..))
    | split

theorem State.statusSeen_eff (s : State) (n i : Nat) (st : Bytes) :
    Eff 26348517 s (State.statusSeen s n i st) := by
  unfold State.statusSeen
  try dsimp only
  repeat' first
    | (with_reducible apply Eff.refl)
    | (with_reducible assumption)
    | decide
    | (with_reducible apply Eff.ite)
    | (with_reducible apply Eff.by (State.jobPump_eff ..))
    | (with_reducible apply Eff.by (State.jobSettle_eff ..))
    | (with_reducible apply Eff.by (State.tgtMatched_eff ..))
    | (with_reducible apply Eff.by (State.tgtRetry_eff ..))
    | split

theorem State.statusLate_eff (s : State) (n i : Nat) :
    Eff 26348517 s (State.statusLate s n i) := by
  unfold State.statusLate
  try dsimp only
  repeat' first
    | (with_reducible apply Eff.refl)
    | (with_reducible assumption)
    | decide
    | (with_reducible apply Eff.ite)
    | (with_reducible apply Eff.by (State.jobPump_eff ..))
    | (with_reducible apply Eff.by (State.jobSettle_eff ..))
    | (with_reducible apply Eff.by (State.tgtRetry_eff ..))
    | split

theorem State.verifySeen_eff (s : State) (n i : Nat) (d : Bytes) :
    Eff 26348517 s (State.verifySeen s n i d) := by
  unfold State.verifySeen
  try dsimp only
  repeat' first
    | (with_reducible apply Eff.refl)
    | (with_reducible assumption)
    | decide
    | (with_reducible apply Eff.ite)
    | (with_reducible apply Eff.by (State.jobPump_eff ..))
    | (with_reducible apply Eff.by (State.jobSettle_eff ..))
    | (with_reducible apply Eff.by (State.modTgt_eff ..))
    | (with_reducible apply Eff.by (State.tgtMatched_eff ..))
    | split

theorem State.jobReadEnd_eff (s : State) (n tag c : Nat) (det : Option Nat) :
    Eff 26348517 s (State.jobReadEnd s n tag c det) := by
  unfold State.jobReadEnd
  try dsimp only
  repeat' first
    | (with_reducible apply Eff.refl)
    | (with_reducible assumption)
    | decide
    | (with_reducible apply Eff.ite)
    | (with_reducible apply Eff.by (State.chunkIn_eff ..))
    | (with_reducible apply Eff.by (State.chunkLost_eff ..))
    | (with_reducible apply Eff.by (State.jobPump_eff ..))
    | (with_reducible apply Eff.by (State.jobSettle_eff ..))
    | (with_reducible apply Eff.by (State.modTgt_eff ..))
    | (with_reducible apply Eff.by (State.modVault_eff ..))
    | (with_reducible rfl)
    | (with_reducible apply Eff.by (State.setJob_eff ..))
    | (with_reducible apply Eff.by (State.tgtEnd_eff ..))
    | split

theorem State.jobPipeEnd_eff (s : State) (p out det : Nat) :
    Eff 26348517 s (State.jobPipeEnd s p out det) := by
  unfold State.jobPipeEnd
  try dsimp only
  repeat' first
    | (with_reducible apply Eff.refl)
    | (with_reducible assumption)
    | decide
    | (with_reducible apply Eff.ite)
    | (with_reducible apply Eff.by (State.jobPump_eff ..))
    | (with_reducible apply Eff.by (State.jobSettle_eff ..))
    | (with_reducible apply Eff.by (State.tgtEnd_eff ..))
    | split

theorem State.jobXact_eff (s : State) (p : Nat) (r : XactRes) :
    Eff 26348535 s (State.jobXact s p r) := by
  unfold State.jobXact
  try dsimp only
  repeat' first
    | (with_reducible apply Eff.refl)
    | (with_reducible assumption)
    | decide
    | (with_reducible apply Eff.ite)
    | (with_reducible apply Eff.by (State.clearTt_eff ..))
    | (with_reducible apply Eff.by (State.halt_eff ..))
    | (with_reducible apply Eff.by (State.jobPipeEnd_eff ..))
    | (with_reducible apply Eff.by (State.modPipes_eff ..))
    | (with_reducible apply Eff.by (State.repaired_eff ..))
    | (with_reducible apply Eff.by (State.serve_eff ..))
    | (with_reducible apply Eff.by (State.spent_eff ..))
    | split

theorem State.jobHold_eff (s : State) (n i : Nat) :
    Eff 25166112 s (State.jobHold s n i) := by
  unfold State.jobHold
  try dsimp only
  repeat' first
    | (with_reducible apply Eff.refl)
    | (with_reducible assumption)
    | decide
    | (with_reducible apply Eff.ite)
    | (with_reducible apply Eff.by (State.catchUp_eff ..))
    | (with_reducible apply Eff.by (State.modTgt_eff ..))
    | (with_reducible apply Eff.by (State.npGive_eff ..))
    | split

theorem State.jobPass_eff (s : State) :
    Eff 26348517 s (State.jobPass s) := by
  unfold State.jobPass
  try dsimp only
  repeat' first
    | (with_reducible apply Eff.refl)
    | (with_reducible assumption)
    | decide
    | (with_reducible apply Eff.ite)
    | (with_reducible apply Eff.foldl)
    | (with_reducible apply Eff.by (State.jobHold_eff ..))
    | (with_reducible apply Eff.by (State.jobPump_eff ..))
    | (with_reducible apply Eff.by (State.jobSettle_eff ..))
    | split
    | (intro _)
    | (dsimp only)

theorem State.doFanout_eff (s : State) (k : Nat) (i : Item) :
    Eff 25166821 s (State.doFanout s k i) := by
  unfold State.doFanout
  try dsimp only
  repeat' first
    | (with_reducible apply Eff.refl)
    | (with_reducible assumption)
    | decide
    | (with_reducible apply Eff.ite)
    | (with_reducible apply Eff.foldl)
    | (with_reducible apply Eff.by (State.finish_eff ..))
    | (with_reducible apply Eff.by (State.holdPipe_eff ..))
    | (with_reducible apply Eff.by (State.itemWake_eff ..))
    | (with_reducible apply Eff.by (State.jobPump_eff ..))
    | (with_reducible apply Eff.by (State.modItems_eff ..))
    | (with_reducible apply Eff.by (State.poolUse_eff ..))
    | (with_reducible apply Eff.by (State.setJob_eff ..))
    | split
    | (intro _)
    | (dsimp only)

theorem State.doFanStatus_eff (s : State) (k : Nat) (i : Item) :
    Eff 16778181 s (State.doFanStatus s k i) := by
  unfold State.doFanStatus
  try dsimp only
  repeat' first
    | (with_reducible apply Eff.refl)
    | (with_reducible assumption)
    | decide
    | (with_reducible apply Eff.ite)
    | (with_reducible apply Eff.by (State.finish_eff ..))
    | (with_reducible apply Eff.by (State.finishB_eff ..))
    | split

theorem State.doFanCancel_eff (s : State) (k : Nat) (i : Item) :
    Eff 26348517 s (State.doFanCancel s k i) := by
  unfold State.doFanCancel
  try dsimp only
  repeat' first
    | (with_reducible apply Eff.refl)
    | (with_reducible assumption)
    | decide
    | (with_reducible apply Eff.ite)
    | (with_reducible apply Eff.by (State.causeItem_eff ..))
    | (with_reducible apply Eff.by (State.finish_eff ..))
    | (with_reducible apply Eff.by (State.jobSettle_eff ..))
    | split

theorem State.jobFree_eff (s : State) (n : Nat) :
    Eff 16777216 s (State.jobFree s n) := by
  unfold State.jobFree
  try dsimp only
  repeat' first
    | (with_reducible apply Eff.refl)
    | (with_reducible assumption)
    | decide
    | (with_reducible apply Eff.ite)
    | (with_reducible apply Eff.by (State.setJob_eff ..))
    | split

end Sys2Proof.Machine
end

