-- ==== Sys2Proof/Laws/EffCapture.lean ====
section
/-!
SUPPORT. What the operations of Machine/Capture.lean may do to the state: one lemma for each (Laws/Effects.lean).
-/
set_option linter.unreachableTactic false
set_option linter.unusedTactic false

namespace Sys2Proof.Machine

theorem State.modCapt_eff (s : State) (k : Nat) (f : Capt → Capt) :
    Eff 16777216 s (State.modCapt s k f) := by
  unfold State.modCapt
  try dsimp only
  repeat' first
    | (with_reducible apply Eff.refl)
    | (with_reducible assumption)
    | decide
    | (with_reducible apply Eff.ite)
    | (with_reducible apply Eff.by (State.modVault_eff ..))
    | (with_reducible rfl)
    | split

theorem State.captNext_eff (s : State) (c : Capt) (start : Nat) :
    Eff 25166839 s (State.captNext s c start) := by
  unfold State.captNext
  try dsimp only
  repeat' first
    | (with_reducible apply Eff.refl)
    | (with_reducible assumption)
    | decide
    | (with_reducible apply Eff.ite)
    | (with_reducible apply Eff.by (State.holdPipe_eff ..))
    | (with_reducible apply Eff.by (State.serve_eff ..))
    | split

theorem State.closeRecord_eff (s : State) (k : Nat) (short final : Bool) :
    Eff 16777344 s (State.closeRecord s k short final) := by
  unfold State.closeRecord
  try dsimp only
  repeat' first
    | (with_reducible apply Eff.refl)
    | (with_reducible assumption)
    | decide
    | (with_reducible apply Eff.ite)
    | (with_reducible apply Eff.by (State.modCapt_eff ..))
    | (with_reducible apply Eff.by (State.modItems_eff ..))
    | (with_reducible apply Eff.by (State.writeCmds_eff ..))
    | split

theorem State.closeFull_eff (s : State) (k f : Nat) : Eff 16777344 s (s.closeFull k f) := by
  induction f generalizing s with
  | zero => exact Eff.refl _ _
  | succ f ih =>
    rw [State.closeFull]
    split
    · split
      · exact Eff.trans (Eff.by (State.closeRecord_eff ..) (by decide) (Eff.refl _ _)) (ih _)
      · exact Eff.refl _ _
    · exact Eff.refl _ _

theorem State.captEnded_eff (s : State) (k : Nat) (out det : Nat) (it : Item) :
    Eff 25166839 s (State.captEnded s k out det it) := by
  unfold State.captEnded
  try dsimp only
  repeat' first
    | (with_reducible apply Eff.refl)
    | (with_reducible assumption)
    | decide
    | (with_reducible apply Eff.ite)
    | (with_reducible apply Eff.by (State.captNext_eff ..))
    | (with_reducible apply Eff.by (State.causeItem_eff ..))
    | (with_reducible apply Eff.by (State.closeFull_eff ..))
    | (with_reducible apply Eff.by (State.closeRecord_eff ..))
    | (with_reducible apply Eff.by (State.modCapt_eff ..))
    | (with_reducible apply Eff.by (State.vaultEvent_eff ..))
    | split

theorem State.captFinish_eff (s : State) (c : Capt) (full : Bool) :
    Eff 16778181 s (State.captFinish s c full) := by
  unfold State.captFinish
  try dsimp only
  repeat' first
    | (with_reducible apply Eff.refl)
    | (with_reducible assumption)
    | decide
    | (with_reducible apply Eff.ite)
    | (with_reducible apply Eff.by (State.finishB_eff ..))
    | (with_reducible apply Eff.by (State.letGo_eff ..))
    | (with_reducible apply Eff.by (State.modItems_eff ..))
    | (with_reducible apply Eff.by (State.modVault_eff ..))
    | (with_reducible rfl)
    | (with_reducible apply Eff.by (State.vaultEvent_eff ..))
    | split

theorem State.captStep_eff (s : State) (k : Nat) :
    Eff 25166839 s (State.captStep s k) := by
  unfold State.captStep
  try dsimp only
  repeat' first
    | (with_reducible apply Eff.refl)
    | (with_reducible assumption)
    | decide
    | (with_reducible apply Eff.ite)
    | (with_reducible apply Eff.by (State.captFinish_eff ..))
    | (with_reducible apply Eff.by (State.captNext_eff ..))
    | (with_reducible apply Eff.by (State.causeItem_eff ..))
    | (with_reducible apply Eff.by (State.closeRecord_eff ..))
    | (with_reducible apply Eff.by (State.modItems_eff ..))
    | split

theorem State.captPass_eff (s : State) :
    Eff 25166839 s (State.captPass s) := by
  unfold State.captPass
  try dsimp only
  repeat' first
    | (with_reducible apply Eff.refl)
    | (with_reducible assumption)
    | decide
    | (with_reducible apply Eff.ite)
    | (with_reducible apply Eff.foldl)
    | (with_reducible apply Eff.by (State.captStep_eff ..))
    | split
    | (intro _)
    | (dsimp only)

theorem State.doCapture_eff (s : State) (k : Nat) (i : Item) :
    Eff 25166839 s (State.doCapture s k i) := by
  unfold State.doCapture
  try dsimp only
  repeat' first
    | (with_reducible apply Eff.refl)
    | (with_reducible assumption)
    | decide
    | (with_reducible apply Eff.ite)
    | (with_reducible apply Eff.by (State.captStep_eff ..))
    | (with_reducible apply Eff.by (State.finish_eff ..))
    | (with_reducible apply Eff.by (State.itemWake_eff ..))
    | (with_reducible apply Eff.by (State.modItems_eff ..))
    | (with_reducible apply Eff.by (State.modPipes_eff ..))
    | (with_reducible apply Eff.by (State.modVault_eff ..))
    | (with_reducible rfl)
    | split

theorem State.doCaptStop_eff (s : State) (k : Nat) (i : Item) :
    Eff 25166839 s (State.doCaptStop s k i) := by
  unfold State.doCaptStop
  try dsimp only
  repeat' first
    | (with_reducible apply Eff.refl)
    | (with_reducible assumption)
    | decide
    | (with_reducible apply Eff.ite)
    | (with_reducible apply Eff.by (State.captStep_eff ..))
    | (with_reducible apply Eff.by (State.finish_eff ..))
    | (with_reducible apply Eff.by (State.modItems_eff ..))
    | split

end Sys2Proof.Machine
end

