-- ==== Sys2Proof/Laws/EffMovers.lean ====
section
/-!
SUPPORT. What the operations of Machine/Movers.lean may do to the state: one lemma for each (Laws/Effects.lean).
-/
set_option linter.unreachableTactic false
set_option linter.unusedTactic false

namespace Sys2Proof.Machine

theorem State.areaWrite_eff (s : State) (o : Nat) (d : Bytes) :
    Eff 301989888 s (State.areaWrite s o d) := by
  unfold State.areaWrite
  try dsimp only
  repeat' first
    | (with_reducible apply Eff.refl)
    | (with_reducible assumption)
    | decide
    | (with_reducible apply Eff.ite)
    | (with_reducible apply Eff.foldl)
    | (with_reducible apply Eff.by (State.modMov_area ..))
    | exact putBytes_wf _ _
    | (with_reducible apply Eff.by (State.modMov_eff ..))
    | (with_reducible rfl)
    | split
    | (intro _)
    | (dsimp only)

theorem State.modChan_eff (s : State) (c : Nat) (f : Chan → Chan) :
    Eff 33554432 s (State.modChan s c f) := by
  unfold State.modChan
  try dsimp only
  repeat' first
    | (with_reducible apply Eff.refl)
    | (with_reducible assumption)
    | decide
    | (with_reducible apply Eff.ite)
    | (with_reducible apply Eff.by (State.setChan_eff ..))
    | split

theorem State.chanHold_eff (s : State) (c : Nat) :
    Eff 192 s (State.chanHold s c) := by
  unfold State.chanHold
  try dsimp only
  repeat' first
    | (with_reducible apply Eff.refl)
    | (with_reducible assumption)
    | decide
    | (with_reducible apply Eff.ite)
    | (with_reducible apply Eff.foldl)
    | (with_reducible apply Eff.by (State.holdPipe_eff ..))
    | split
    | (intro _)
    | (dsimp only)

theorem State.chanFree_eff (s : State) (c : Nat) :
    Eff 33554661 s (State.chanFree s c) := by
  unfold State.chanFree
  try dsimp only
  repeat' first
    | (with_reducible apply Eff.refl)
    | (with_reducible assumption)
    | decide
    | (with_reducible apply Eff.ite)
    | (with_reducible apply Eff.foldl)
    | (with_reducible apply Eff.by (State.letGo_eff ..))
    | (with_reducible apply Eff.by (State.modChan_eff ..))
    | (with_reducible apply Eff.by (State.npGive_eff ..))
    | (with_reducible apply Eff.by (State.setUnit_eff ..))
    | split
    | (intro _)
    | (dsimp only)

theorem State.unitUsed_eff (s : State) (u : Nat) :
    Eff 1059072 s (State.unitUsed s u) := by
  unfold State.unitUsed
  try dsimp only
  repeat' first
    | (with_reducible apply Eff.refl)
    | (with_reducible assumption)
    | decide
    | (with_reducible apply Eff.ite)
    | (with_reducible apply Eff.by (State.parityUses_eff ..))
    | split

theorem State.takeUnit_eff (s : State) (c : Nat) :
    Eff 34613504 s (State.takeUnit s c) := by
  unfold State.takeUnit
  try dsimp only
  repeat' first
    | (with_reducible apply Eff.refl)
    | (with_reducible assumption)
    | decide
    | (with_reducible apply Eff.ite)
    | (with_reducible apply Eff.by (State.modChan_eff ..))
    | (with_reducible apply Eff.by (State.setUnit_eff ..))
    | (with_reducible apply Eff.by (State.unitUsed_eff ..))
    | split

theorem State.chanHalt_eff (s : State) (c cause : Nat) :
    Eff 33554688 s (State.chanHalt s c cause) := by
  unfold State.chanHalt
  try dsimp only
  repeat' first
    | (with_reducible apply Eff.refl)
    | (with_reducible assumption)
    | decide
    | (with_reducible apply Eff.ite)
    | (with_reducible apply Eff.by (State.chanEvent_eff ..))
    | (with_reducible apply Eff.by (State.modChan_eff ..))
    | split

theorem State.vaultBegin_eff (s : State) (c : Nat) :
    Eff 50331648 s (State.vaultBegin s c) := by
  unfold State.vaultBegin
  try dsimp only
  repeat' first
    | (with_reducible apply Eff.refl)
    | (with_reducible assumption)
    | decide
    | (with_reducible apply Eff.ite)
    | (with_reducible apply Eff.foldl)
    | (with_reducible apply Eff.by (State.modChan_eff ..))
    | (with_reducible apply Eff.by (State.readCmds_eff ..))
    | split
    | (intro _)
    | (dsimp only)

theorem State.chanFetch_eff (s : State) (c off : Nat) :
    Eff 51390912 s (State.chanFetch s c off) := by
  unfold State.chanFetch
  try dsimp only
  repeat' first
    | (with_reducible apply Eff.refl)
    | (with_reducible assumption)
    | decide
    | (with_reducible apply Eff.ite)
    | (with_reducible apply Eff.by (State.chanHalt_eff ..))
    | (with_reducible apply Eff.by (State.chanHold_eff ..))
    | (with_reducible apply Eff.by (State.modChan_eff ..))
    | (with_reducible apply Eff.by (State.note_eff ..))
    | (with_reducible apply Eff.by (State.takeUnit_eff ..))
    | (with_reducible apply Eff.by (State.vaultBegin_eff ..))
    | split

theorem State.descStatus_eff (s : State) (c : Nat) (done short : Bool) (cause : Nat) :
    Eff 301989888 s (State.descStatus s c done short cause) := by
  unfold State.descStatus
  try dsimp only
  repeat' first
    | (with_reducible apply Eff.refl)
    | (with_reducible assumption)
    | decide
    | (with_reducible apply Eff.ite)
    | (with_reducible apply Eff.by (State.areaWrite_eff ..))
    | split

theorem State.descEnd_eff (s : State) (c : Nat) (short : Bool) (cause : Nat) :
    Eff 319826405 s (State.descEnd s c short cause) := by
  unfold State.descEnd
  try dsimp only
  repeat' first
    | (with_reducible apply Eff.refl)
    | (with_reducible assumption)
    | decide
    | (with_reducible apply Eff.ite)
    | (with_reducible apply Eff.by (State.chanEvent_eff ..))
    | (with_reducible apply Eff.by (State.chanFetch_eff ..))
    | (with_reducible apply Eff.by (State.chanFree_eff ..))
    | (with_reducible apply Eff.by (State.descStatus_eff ..))
    | (with_reducible apply Eff.by (State.modChan_eff ..))
    | (with_reducible apply Eff.by (State.modMov_eff ..))
    | (with_reducible rfl)
    | split

theorem State.scatter_eff (s : State) (x : Side) (lo : Nat) (d : Bytes) :
    Eff 301989888 s (State.scatter s x lo d) := by
  unfold State.scatter
  try dsimp only
  repeat' first
    | (with_reducible apply Eff.refl)
    | (with_reducible assumption)
    | decide
    | (with_reducible apply Eff.ite)
    | (with_reducible apply Eff.foldl)
    | (with_reducible apply Eff.by (State.areaWrite_eff ..))
    | (with_reducible apply Eff.by (State.emit_eff ..))
    | split
    | (intro _)
    | (dsimp only)

theorem State.chanWrite_eff (s : State) (c : Nat) (out : Bytes) :
    Eff 301990144 s (State.chanWrite s c out) := by
  unfold State.chanWrite
  try dsimp only
  repeat' first
    | (with_reducible apply Eff.refl)
    | (with_reducible assumption)
    | decide
    | (with_reducible apply Eff.ite)
    | (with_reducible apply Eff.by (State.chanEvent_eff ..))
    | (with_reducible apply Eff.by (State.modChan_eff ..))
    | (with_reducible apply Eff.by (State.modMov_eff ..))
    | (with_reducible rfl)
    | (with_reducible apply Eff.by (State.scatter_eff ..))
    | split

theorem State.readBack_eff (s : State) (c : Nat) :
    Eff 319826405 s (State.readBack s c) := by
  unfold State.readBack
  try dsimp only
  repeat' first
    | (with_reducible apply Eff.refl)
    | (with_reducible assumption)
    | decide
    | (with_reducible apply Eff.ite)
    | (with_reducible apply Eff.foldl)
    | (with_reducible apply Eff.by (State.descEnd_eff ..))
    | (with_reducible apply Eff.by (State.modChan_eff ..))
    | (with_reducible apply Eff.by (State.nvme_eff ..))
    | split
    | (intro _)
    | (dsimp only)

theorem State.descWritten_eff (s : State) (c : Nat) :
    Eff 319826405 s (State.descWritten s c) := by
  unfold State.descWritten
  try dsimp only
  repeat' first
    | (with_reducible apply Eff.refl)
    | (with_reducible assumption)
    | decide
    | (with_reducible apply Eff.ite)
    | (with_reducible apply Eff.by (State.chanHalt_eff ..))
    | (with_reducible apply Eff.by (State.chanWrite_eff ..))
    | (with_reducible apply Eff.by (State.modChan_eff ..))
    | (with_reducible apply Eff.by (State.modMov_eff ..))
    | (with_reducible rfl)
    | (with_reducible apply Eff.by (State.note_eff ..))
    | (with_reducible apply Eff.by (State.readBack_eff ..))
    | split

theorem State.vaultWrites_eff (s : State) (c : Nat) (out : Bytes) :
    Eff 50331648 s (State.vaultWrites s c out) := by
  unfold State.vaultWrites
  try dsimp only
  repeat' first
    | (with_reducible apply Eff.refl)
    | (with_reducible assumption)
    | decide
    | (with_reducible apply Eff.ite)
    | (with_reducible apply Eff.foldl)
    | (with_reducible apply Eff.by (State.modChan_eff ..))
    | (with_reducible apply Eff.by (State.writeCmds_eff ..))
    | split
    | (intro _)
    | (dsimp only)

theorem State.descMoved_eff (s : State) (c : Nat) (data : Bytes) :
    Eff 319826405 s (State.descMoved s c data) := by
  unfold State.descMoved
  try dsimp only
  repeat' first
    | (with_reducible apply Eff.refl)
    | (with_reducible assumption)
    | decide
    | (with_reducible apply Eff.ite)
    | (with_reducible apply Eff.by (State.descWritten_eff ..))
    | (with_reducible apply Eff.by (State.modChan_eff ..))
    | (with_reducible apply Eff.by (State.vaultWrites_eff ..))
    | split

theorem State.shortEnd_eff (s : State) (c : Nat) (data : Bytes) :
    Eff 319826405 s (State.shortEnd s c data) := by
  unfold State.shortEnd
  try dsimp only
  repeat' first
    | (with_reducible apply Eff.refl)
    | (with_reducible assumption)
    | decide
    | (with_reducible apply Eff.ite)
    | (with_reducible apply Eff.by (State.chanHalt_eff ..))
    | (with_reducible apply Eff.by (State.chanWrite_eff ..))
    | (with_reducible apply Eff.by (State.descEnd_eff ..))
    | (with_reducible apply Eff.by (State.modChan_eff ..))
    | split

theorem State.busError_eff (s : State) (c : Nat) (e : BusErr) :
    Eff 303040768 s (State.busError s c e) := by
  unfold State.busError
  try dsimp only
  repeat' first
    | (with_reducible apply Eff.refl)
    | (with_reducible assumption)
    | decide
    | (with_reducible apply Eff.ite)
    | (with_reducible apply Eff.by (State.chanHalt_eff ..))
    | (with_reducible apply Eff.by (State.chanWrite_eff ..))
    | (with_reducible apply Eff.by (State.modChan_eff ..))
    | (with_reducible apply Eff.by (State.modMov_eff ..))
    | (with_reducible rfl)
    | (with_reducible apply Eff.by (State.note_eff ..))
    | split

theorem State.chanDrop_eff (s : State) (c : Nat) :
    Eff 16777216 s (State.chanDrop s c) := by
  unfold State.chanDrop
  try dsimp only
  repeat' first
    | (with_reducible apply Eff.refl)
    | (with_reducible assumption)
    | decide
    | (with_reducible apply Eff.ite)
    | (with_reducible apply Eff.by (State.modVault_eff ..))
    | (with_reducible rfl)
    | split

theorem State.chanCmdEnd_eff (s : State) (c : Nat) (e : Nvme) (det : Option Nat) :
    Eff 319826405 s (State.chanCmdEnd s c e det) := by
  unfold State.chanCmdEnd
  try dsimp only
  repeat' first
    | (with_reducible apply Eff.refl)
    | (with_reducible assumption)
    | decide
    | (with_reducible apply Eff.ite)
    | (with_reducible apply Eff.by (State.busError_eff ..))
    | (with_reducible apply Eff.by (State.chanDrop_eff ..))
    | (with_reducible apply Eff.by (State.descEnd_eff ..))
    | (with_reducible apply Eff.by (State.descWritten_eff ..))
    | (with_reducible apply Eff.by (State.modChan_eff ..))
    | (with_reducible apply Eff.by (State.readCmds_eff ..))
    | split

theorem State.chanPipeEnd_eff (s : State) (c n out : Nat) :
    Eff 303040768 s (State.chanPipeEnd s c n out) := by
  unfold State.chanPipeEnd
  try dsimp only
  repeat' first
    | (with_reducible apply Eff.refl)
    | (with_reducible assumption)
    | decide
    | (with_reducible apply Eff.ite)
    | (with_reducible apply Eff.by (State.busError_eff ..))
    | split

theorem State.chanXact_eff (s : State) (c p : Nat) (r : XactRes) :
    Eff 328207351 s (State.chanXact s c p r) := by
  unfold State.chanXact
  try dsimp only
  repeat' first
    | (with_reducible apply Eff.refl)
    | (with_reducible assumption)
    | decide
    | (with_reducible apply Eff.ite)
    | (with_reducible apply Eff.by (State.chanPipeEnd_eff ..))
    | (with_reducible apply Eff.by (State.clearTt_eff ..))
    | (with_reducible apply Eff.by (State.halt_eff ..))
    | (with_reducible apply Eff.by (State.modPipes_eff ..))
    | (with_reducible apply Eff.by (State.repaired_eff ..))
    | (with_reducible apply Eff.by (State.serve_eff ..))
    | (with_reducible apply Eff.by (State.spent_eff ..))
    | (with_reducible apply Eff.by (State.unhold_eff ..))
    | split

theorem State.chanGo_eff (s : State) (c : Nat) :
    Eff 51390912 s (State.chanGo s c) := by
  unfold State.chanGo
  try dsimp only
  repeat' first
    | (with_reducible apply Eff.refl)
    | (with_reducible assumption)
    | decide
    | (with_reducible apply Eff.ite)
    | (with_reducible apply Eff.by (State.chanFetch_eff ..))
    | (with_reducible apply Eff.by (State.modChan_eff ..))
    | (with_reducible apply Eff.by (State.parityUses_eff ..))
    | split

theorem State.chanSkip_eff (s : State) (c : Nat) :
    Eff 319826405 s (State.chanSkip s c) := by
  unfold State.chanSkip
  try dsimp only
  repeat' first
    | (with_reducible apply Eff.refl)
    | (with_reducible assumption)
    | decide
    | (with_reducible apply Eff.ite)
    | (with_reducible apply Eff.by (State.chanEvent_eff ..))
    | (with_reducible apply Eff.by (State.chanFetch_eff ..))
    | (with_reducible apply Eff.by (State.chanFree_eff ..))
    | (with_reducible apply Eff.by (State.descStatus_eff ..))
    | (with_reducible apply Eff.by (State.modChan_eff ..))
    | (with_reducible apply Eff.by (State.modMov_eff ..))
    | (with_reducible rfl)
    | split

theorem State.chanResume_eff (s : State) (c : Nat) :
    Eff 319826405 s (State.chanResume s c) := by
  unfold State.chanResume
  try dsimp only
  repeat' first
    | (with_reducible apply Eff.refl)
    | (with_reducible assumption)
    | decide
    | (with_reducible apply Eff.ite)
    | (with_reducible apply Eff.foldl)
    | (with_reducible apply Eff.by (State.chanFetch_eff ..))
    | (with_reducible apply Eff.by (State.chanPipeEnd_eff ..))
    | (with_reducible apply Eff.by (State.chanSkip_eff ..))
    | (with_reducible apply Eff.by (State.holdPipe_eff ..))
    | (with_reducible apply Eff.by (State.modChan_eff ..))
    | (with_reducible apply Eff.by (State.vaultBegin_eff ..))
    | split
    | (intro _)
    | (dsimp only)

theorem State.chanStopping_eff (s : State) (c cause : Nat) :
    Eff 50331648 s (State.chanStopping s c cause) := by
  unfold State.chanStopping
  try dsimp only
  repeat' first
    | (with_reducible apply Eff.refl)
    | (with_reducible assumption)
    | decide
    | (with_reducible apply Eff.ite)
    | (with_reducible apply Eff.by (State.chanDrop_eff ..))
    | (with_reducible apply Eff.by (State.modChan_eff ..))
    | split

theorem State.chanStop_eff (s : State) (c : Nat) :
    Eff 318767333 s (State.chanStop s c) := by
  unfold State.chanStop
  try dsimp only
  repeat' first
    | (with_reducible apply Eff.refl)
    | (with_reducible assumption)
    | decide
    | (with_reducible apply Eff.ite)
    | (with_reducible apply Eff.by (State.chanFree_eff ..))
    | (with_reducible apply Eff.by (State.chanStopping_eff ..))
    | (with_reducible apply Eff.by (State.descStatus_eff ..))
    | (with_reducible apply Eff.by (State.modChan_eff ..))
    | split

theorem State.chanStopped_eff (s : State) (c : Nat) :
    Eff 301990117 s (State.chanStopped s c) := by
  unfold State.chanStopped
  try dsimp only
  repeat' first
    | (with_reducible apply Eff.refl)
    | (with_reducible assumption)
    | decide
    | (with_reducible apply Eff.ite)
    | (with_reducible apply Eff.by (State.chanFree_eff ..))
    | (with_reducible apply Eff.by (State.descStatus_eff ..))
    | (with_reducible apply Eff.by (State.modChan_eff ..))
    | split

theorem State.opChan_eff {m : Nat} (_hm : Covers 0 m) (s : State) (c : Nat) (f : State → Nat → State)
    (hf : ∀ x0 x1, Eff m x0 (f x0 x1)) :
    Eff m s (State.opChan s c f) := by
  unfold State.opChan
  try dsimp only
  repeat' first
    | (with_reducible apply Eff.refl)
    | (with_reducible assumption)
    | exact _hm
    | exact Covers.trans (by decide) _hm
    | exact Covers.refl _
    | decide
    | (with_reducible apply Eff.ite)
    | (with_reducible apply Eff.by (hf ..))
    | split
    | (intro _)
    | (dsimp only)

theorem State.chansStop_eff (s : State) :
    Eff 50331648 s (State.chansStop s) := by
  unfold State.chansStop
  try dsimp only
  repeat' first
    | (with_reducible apply Eff.refl)
    | (with_reducible assumption)
    | decide
    | (with_reducible apply Eff.ite)
    | (with_reducible apply Eff.foldl)
    | (with_reducible apply Eff.by (State.chanStopping_eff ..))
    | split
    | (intro _)
    | (dsimp only)

theorem State.chanNp_eff (s : State) (n : Nat) :
    Eff 32 s (State.chanNp s n) := by
  unfold State.chanNp
  try dsimp only
  repeat' first
    | (with_reducible apply Eff.refl)
    | (with_reducible assumption)
    | decide
    | (with_reducible apply Eff.ite)
    | (with_reducible apply Eff.by (State.npTake_eff ..))
    | (with_reducible apply Eff.by (State.npWait_eff ..))
    | split

theorem State.chanPass_eff (s : State) :
    Eff 50331680 s (State.chanPass s) := by
  unfold State.chanPass
  try dsimp only
  repeat' first
    | (with_reducible apply Eff.refl)
    | (with_reducible assumption)
    | decide
    | (with_reducible apply Eff.ite)
    | (with_reducible apply Eff.foldl)
    | (with_reducible apply Eff.by (State.chanNp_eff ..))
    | (with_reducible apply Eff.by (State.modChan_eff ..))
    | (with_reducible apply Eff.by (State.vaultBegin_eff ..))
    | split
    | (intro _)
    | (dsimp only)

theorem State.burst_eff (s : State) (c : Nat) :
    Eff 301990144 s (State.burst s c) := by
  unfold State.burst
  try dsimp only
  repeat' first
    | (with_reducible apply Eff.refl)
    | (with_reducible assumption)
    | decide
    | (with_reducible apply Eff.ite)
    | (with_reducible apply Eff.by (State.chanWrite_eff ..))
    | (with_reducible apply Eff.by (State.modChan_eff ..))
    | (with_reducible apply Eff.by (State.modMov_eff ..))
    | (with_reducible rfl)
    | split

theorem State.grants_eff (s : State) (n : Nat) : Eff 301990144 s (s.grants n) := by
  induction n generalizing s with
  | zero => exact Eff.refl _ _
  | succ n ih =>
    rw [State.grants]
    split
    · exact Eff.trans (Eff.by (State.burst_eff ..) (by decide) (Eff.refl _ _)) (ih _)
    · exact Eff.refl _ _

theorem State.scanReads_eff (s : State) :
    Eff 16777216 s (State.scanReads s) := by
  unfold State.scanReads
  try dsimp only
  repeat' first
    | (with_reducible apply Eff.refl)
    | (with_reducible assumption)
    | decide
    | (with_reducible apply Eff.ite)
    | (with_reducible apply Eff.by (State.readCmds_eff ..))
    | split

theorem State.scanTake_eff (s : State) (u : Nat) :
    Eff 51390720 s (State.scanTake s u) := by
  unfold State.scanTake
  try dsimp only
  repeat' first
    | (with_reducible apply Eff.refl)
    | (with_reducible assumption)
    | decide
    | (with_reducible apply Eff.ite)
    | (with_reducible apply Eff.by (State.modMov_eff ..))
    | (with_reducible rfl)
    | (with_reducible apply Eff.by (State.scanReads_eff ..))
    | (with_reducible apply Eff.by (State.setUnit_eff ..))
    | (with_reducible apply Eff.by (State.unitUsed_eff ..))
    | split

theorem State.unitFree_eff (s : State) (u : Nat) :
    Eff 51390720 s (State.unitFree s u) := by
  unfold State.unitFree
  try dsimp only
  repeat' first
    | (with_reducible apply Eff.refl)
    | (with_reducible assumption)
    | decide
    | (with_reducible apply Eff.ite)
    | (with_reducible apply Eff.by (State.scanTake_eff ..))
    | (with_reducible apply Eff.by (State.takeUnit_eff ..))
    | split

theorem State.scanGo_eff (s : State) (w : Nat) :
    Eff 51390720 s (State.scanGo s w) := by
  unfold State.scanGo
  try dsimp only
  repeat' first
    | (with_reducible apply Eff.refl)
    | (with_reducible assumption)
    | decide
    | (with_reducible apply Eff.ite)
    | (with_reducible apply Eff.by (State.modMov_eff ..))
    | (with_reducible rfl)
    | (with_reducible apply Eff.by (State.parityUses_eff ..))
    | (with_reducible apply Eff.by (State.scanTake_eff ..))
    | split

theorem State.scanDone_eff (s : State) :
    Eff 33554432 s (State.scanDone s) := by
  unfold State.scanDone
  try dsimp only
  repeat' first
    | (with_reducible apply Eff.refl)
    | (with_reducible assumption)
    | decide
    | (with_reducible apply Eff.ite)
    | (with_reducible apply Eff.by (State.modMov_eff ..))
    | (with_reducible rfl)
    | (with_reducible apply Eff.by (State.setUnit_eff ..))
    | split

end Sys2Proof.Machine
end

