-- ==== Sys2Proof/Laws/EffReactions.lean ====
section
/-!
SUPPORT. What the operations of Machine/Reactions.lean may do to the state: one lemma for each (Laws/Effects.lean).
-/
set_option linter.unreachableTactic false
set_option linter.unusedTactic false

namespace Sys2Proof.Machine

theorem State.containGallery_eff (s : State) (src inst g : Nat) :
    Eff 16787439 s (State.containGallery s src inst g) := by
  unfold State.containGallery
  try dsimp only
  repeat' first
    | (with_reducible apply Eff.refl)
    | (with_reducible assumption)
    | decide
    | (with_reducible apply Eff.ite)
    | (with_reducible apply Eff.foldl)
    | (with_reducible apply Eff.by (State.containPort_eff ..))
    | split
    | (intro _)
    | (dsimp only)

theorem State.suspendLoan_eff (s : State) (src inst t : Nat) :
    Eff 768 s (State.suspendLoan s src inst t) := by
  unfold State.suspendLoan
  try dsimp only
  repeat' first
    | (with_reducible apply Eff.refl)
    | (with_reducible assumption)
    | decide
    | (with_reducible apply Eff.ite)
    | (with_reducible apply Eff.by (State.loanTo_eff ..))
    | (with_reducible apply Eff.by (State.modTenants_eff ..))
    | split

theorem State.safeStopNow_eff (s : State) (src inst : Nat) :
    Eff 51381189 s (State.safeStopNow s src inst) := by
  unfold State.safeStopNow
  try dsimp only
  repeat' first
    | (with_reducible apply Eff.refl)
    | (with_reducible assumption)
    | decide
    | (with_reducible apply Eff.ite)
    | (with_reducible apply Eff.by (State.causeItems_eff ..))
    | (with_reducible apply Eff.by (State.chansStop_eff ..))
    | (with_reducible apply Eff.by (State.dropWaiting_eff ..))
    | (with_reducible apply Eff.by (State.modFlt_eff ..))
    | split

theorem State.immediate_eff (s : State) (src inst : Nat) :
    Eff 51390447 s (State.immediate s src inst) := by
  unfold State.immediate
  try dsimp only
  repeat' first
    | (with_reducible apply Eff.refl)
    | (with_reducible assumption)
    | decide
    | (with_reducible apply Eff.ite)
    | (with_reducible apply Eff.foldl)
    | (with_reducible apply Eff.by (State.containGallery_eff ..))
    | (with_reducible apply Eff.by (State.containPort_eff ..))
    | (with_reducible apply Eff.by (State.safeStopNow_eff ..))
    | split
    | (intro _)
    | (dsimp only)

theorem State.escalate_eff (s : State) (src inst cls : Nat) :
    Eff 51390447 s (State.escalate s src inst cls) := by
  unfold State.escalate
  try dsimp only
  repeat' first
    | (with_reducible apply Eff.refl)
    | (with_reducible assumption)
    | decide
    | (with_reducible apply Eff.ite)
    | (with_reducible apply Eff.foldl)
    | (with_reducible apply Eff.by (State.containGallery_eff ..))
    | (with_reducible apply Eff.by (State.containPort_eff ..))
    | (with_reducible apply Eff.by (State.safeStopNow_eff ..))
    | (with_reducible apply Eff.by (State.suspendLoan_eff ..))
    | split
    | (intro _)
    | (dsimp only)

theorem State.raise_eff (s : State) (src inst : Nat) :
    Eff 51392495 s (State.raise s src inst) := by
  unfold State.raise
  try dsimp only
  repeat' first
    | (with_reducible apply Eff.refl)
    | (with_reducible assumption)
    | decide
    | (with_reducible apply Eff.ite)
    | (with_reducible apply Eff.by (State.fault_eff ..))
    | (with_reducible apply Eff.by (State.immediate_eff ..))
    | split

theorem State.escOwed_eff (s : State) :
    Eff 51392495 s (State.escOwed s) := by
  unfold State.escOwed
  try dsimp only
  repeat' first
    | (with_reducible apply Eff.refl)
    | (with_reducible assumption)
    | decide
    | (with_reducible apply Eff.ite)
    | (with_reducible apply Eff.foldl)
    | (with_reducible apply Eff.by (State.deliverEsc_eff ..))
    | (with_reducible apply Eff.by (State.escalate_eff ..))
    | (with_reducible apply Eff.by (State.modFlt_eff ..))
    | split
    | (intro _)
    | (dsimp only)

theorem State.reactionEnd_eff (s : State) (n : Nat) :
    Eff 51392495 s (State.reactionEnd s n) := by
  unfold State.reactionEnd
  try dsimp only
  repeat' first
    | (with_reducible apply Eff.refl)
    | (with_reducible assumption)
    | decide
    | (with_reducible apply Eff.ite)
    | (with_reducible apply Eff.by (State.deliverEsc_eff ..))
    | (with_reducible apply Eff.by (State.escalate_eff ..))
    | (with_reducible apply Eff.by (State.setSlot_eff ..))
    | split

theorem State.ack_eff (s : State) (src inst : Nat) :
    Eff 1050624 s (State.ack s src inst) := by
  unfold State.ack
  try dsimp only
  repeat' first
    | (with_reducible apply Eff.refl)
    | (with_reducible assumption)
    | decide
    | (with_reducible apply Eff.ite)
    | (with_reducible apply Eff.by (State.emcy_eff ..))
    | (with_reducible apply Eff.by (State.modFlt_eff ..))
    | (with_reducible apply Eff.by (State.setSlot_eff ..))
    | split

theorem State.stopRelease_eff (s : State) :
    Eff 26215415 s (State.stopRelease s).1 := by
  unfold State.stopRelease
  try dsimp only
  repeat' first
    | (with_reducible apply Eff.refl)
    | (with_reducible assumption)
    | decide
    | (with_reducible apply Eff.ite)
    | (with_reducible apply Eff.ite1)
    | (with_reducible apply Eff.foldl)
    | (with_reducible apply Eff.by (State.modFlt_eff ..))
    | (with_reducible apply Eff.by (State.serve_eff ..))
    | split
    | (intro _)
    | (dsimp only)

theorem State.thermalOne_eff (s : State) (grp : Nat) (temp : Int) (src : Nat) :
    Eff 51392495 s (State.thermalOne s grp temp src) := by
  unfold State.thermalOne
  try dsimp only
  repeat' first
    | (with_reducible apply Eff.refl)
    | (with_reducible assumption)
    | decide
    | (with_reducible apply Eff.ite)
    | (with_reducible apply Eff.by (State.causeOff_eff ..))
    | (with_reducible apply Eff.by (State.causeOn_eff ..))
    | (with_reducible apply Eff.by (State.modFlt_eff ..))
    | (with_reducible apply Eff.by (State.raise_eff ..))
    | split

theorem State.reading_eff (s : State) (grp : Nat) (temp : Int) :
    Eff 51392495 s (State.reading_ s grp temp) := by
  unfold State.reading_
  try dsimp only
  repeat' first
    | (with_reducible apply Eff.refl)
    | (with_reducible assumption)
    | decide
    | (with_reducible apply Eff.ite)
    | (with_reducible apply Eff.foldl)
    | (with_reducible apply Eff.by (State.modFlt_eff ..))
    | (with_reducible apply Eff.by (State.thermalOne_eff ..))
    | split
    | (intro _)
    | (dsimp only)

theorem State.curatorLost_eff (s : State) :
    Eff 51392495 s (State.curatorLost s) := by
  unfold State.curatorLost
  try dsimp only
  repeat' first
    | (with_reducible apply Eff.refl)
    | (with_reducible assumption)
    | decide
    | (with_reducible apply Eff.ite)
    | (with_reducible apply Eff.foldl)
    | (with_reducible apply Eff.by (State.causeOn_eff ..))
    | (with_reducible apply Eff.by (State.modFlt_eff ..))
    | (with_reducible apply Eff.by (State.modGals_eff ..))
    | (with_reducible apply Eff.by (State.raise_eff ..))
    | split
    | (intro _)
    | (dsimp only)

theorem State.curatorAgain_eff (s : State) :
    Eff 32 s (State.curatorAgain s) := by
  unfold State.curatorAgain
  try dsimp only
  repeat' first
    | (with_reducible apply Eff.refl)
    | (with_reducible assumption)
    | decide
    | (with_reducible apply Eff.ite)
    | (with_reducible apply Eff.foldl)
    | (with_reducible apply Eff.by (State.modGals_eff ..))
    | split
    | (intro _)
    | (dsimp only)

theorem State.curatorRuns_eff (s : State) :
    Eff 1049890 s (State.curatorRuns s) := by
  unfold State.curatorRuns
  try dsimp only
  repeat' first
    | (with_reducible apply Eff.refl)
    | (with_reducible assumption)
    | decide
    | (with_reducible apply Eff.ite)
    | (with_reducible apply Eff.foldl)
    | (with_reducible apply Eff.by (State.causeOff_eff ..))
    | (with_reducible apply Eff.by (State.modFlt_eff ..))
    | (with_reducible apply Eff.by (State.modGals_eff ..))
    | (with_reducible apply Eff.by (State.thaw_eff ..))
    | split
    | (intro _)
    | (dsimp only)

theorem State.emcyDue_eff (s : State) :
    Eff 2048 s (State.emcyDue s) := by
  unfold State.emcyDue
  try dsimp only
  repeat' first
    | (with_reducible apply Eff.refl)
    | (with_reducible assumption)
    | decide
    | (with_reducible apply Eff.ite)
    | (with_reducible apply Eff.by (State.emcyOut_eff ..))
    | (with_reducible apply Eff.by (State.modCan_eff ..))
    | split

end Sys2Proof.Machine
end

