-- ==== Sys2Proof/Laws/EffClocks.lean ====
section
/-!
SUPPORT. What the operations of Machine/Clocks.lean may do to the state: one lemma for each (Laws/Effects.lean).
-/
set_option linter.unreachableTactic false
set_option linter.unusedTactic false

namespace Sys2Proof.Machine

theorem State.modDie_eff (s : State) (n : Nat) (f : DieLink → DieLink) :
    Eff 1048576 s (State.modDie s n f) := by
  unfold State.modDie
  try dsimp only
  repeat' first
    | (with_reducible apply Eff.refl)
    | (with_reducible assumption)
    | decide
    | (with_reducible apply Eff.ite)
    | (with_reducible apply Eff.by (State.setDieLink_eff ..))
    | split

theorem State.injectLink_eff (s : State) (n : Nat) :
    Eff 1048576 s (State.injectLink s n) := by
  unfold State.injectLink
  try dsimp only
  repeat' first
    | (with_reducible apply Eff.refl)
    | (with_reducible assumption)
    | decide
    | (with_reducible apply Eff.ite)
    | (with_reducible apply Eff.foldl)
    | (with_reducible apply Eff.by (State.modFlt_eff ..))
    | (with_reducible apply Eff.by (State.setDieLink_eff ..))
    | split
    | (intro _)
    | (dsimp only)

theorem State.linkError_eff (s : State) (n : Nat) :
    Eff 1048576 s (State.linkError s n) := by
  unfold State.linkError
  try dsimp only
  repeat' first
    | (with_reducible apply Eff.refl)
    | (with_reducible assumption)
    | decide
    | (with_reducible apply Eff.ite)
    | (with_reducible apply Eff.by (State.injectLink_eff ..))
    | (with_reducible apply Eff.by (State.modDie_eff ..))
    | split

theorem State.freezeLink_eff (s : State) (g : Nat) :
    Eff 36 s (State.freezeLink s g) := by
  unfold State.freezeLink
  try dsimp only
  repeat' first
    | (with_reducible apply Eff.refl)
    | (with_reducible assumption)
    | decide
    | (with_reducible apply Eff.ite)
    | (with_reducible apply Eff.foldl)
    | (with_reducible apply Eff.by (State.keepSettings_eff ..))
    | (with_reducible apply Eff.by (State.modGals_eff ..))
    | split
    | (intro _)
    | (dsimp only)

theorem State.thawLink_eff (s : State) (g : Nat) :
    Eff 16787439 s (State.thawLink s g) := by
  unfold State.thawLink
  try dsimp only
  repeat' first
    | (with_reducible apply Eff.refl)
    | (with_reducible assumption)
    | decide
    | (with_reducible apply Eff.ite)
    | (with_reducible apply Eff.foldl)
    | (with_reducible apply Eff.by (State.modGals_eff ..))
    | (with_reducible apply Eff.by (State.takeSettings_eff ..))
    | (with_reducible apply Eff.by (State.thaw_eff ..))
    | split
    | (intro _)
    | (dsimp only)

theorem State.linkLost_eff (s : State) (n : Nat) :
    Eff 51392495 s (State.linkLost s n) := by
  unfold State.linkLost
  try dsimp only
  repeat' first
    | (with_reducible apply Eff.refl)
    | (with_reducible assumption)
    | decide
    | (with_reducible apply Eff.ite)
    | (with_reducible apply Eff.foldl)
    | (with_reducible apply Eff.by (State.causeOn_eff ..))
    | (with_reducible apply Eff.by (State.freezeLink_eff ..))
    | (with_reducible apply Eff.by (State.modDie_eff ..))
    | (with_reducible apply Eff.by (State.raise_eff ..))
    | split
    | (intro _)
    | (dsimp only)

theorem State.linkBack_eff (s : State) (n : Nat) :
    Eff 17836015 s (State.linkBack s n) := by
  unfold State.linkBack
  try dsimp only
  repeat' first
    | (with_reducible apply Eff.refl)
    | (with_reducible assumption)
    | decide
    | (with_reducible apply Eff.ite)
    | (with_reducible apply Eff.foldl)
    | (with_reducible apply Eff.by (State.causeOff_eff ..))
    | (with_reducible apply Eff.by (State.modDie_eff ..))
    | (with_reducible apply Eff.by (State.thawLink_eff ..))
    | split
    | (intro _)
    | (dsimp only)

theorem State.retrained_eff (s : State) (n : Nat) (ok : Bool) :
    Eff 51392495 s (State.retrained s n ok) := by
  unfold State.retrained
  try dsimp only
  repeat' first
    | (with_reducible apply Eff.refl)
    | (with_reducible assumption)
    | decide
    | (with_reducible apply Eff.ite)
    | (with_reducible apply Eff.by (State.faultRec_eff ..))
    | (with_reducible apply Eff.by (State.linkBack_eff ..))
    | (with_reducible apply Eff.by (State.linkLost_eff ..))
    | (with_reducible apply Eff.by (State.modDie_eff ..))
    | split

theorem State.pllStart_eff (s : State) (q : PllId) :
    Eff 16384 s (State.pllStart s q) := by
  unfold State.pllStart
  try dsimp only
  repeat' first
    | (with_reducible apply Eff.refl)
    | (with_reducible assumption)
    | decide
    | (with_reducible apply Eff.ite)
    | (with_reducible apply Eff.by (State.setPll_eff ..))
    | split

theorem State.setCorePll_eff (s : State) (st : PllState) (alt : Bool) :
    Eff 16384 s (State.setCorePll s st alt) := by
  unfold State.setCorePll
  try dsimp only
  repeat' first
    | (with_reducible apply Eff.refl)
    | (with_reducible assumption)
    | decide
    | (with_reducible apply Eff.ite)
    | (with_reducible apply Eff.by (State.modClk_eff ..))
    | exact ⟨rfl, rfl⟩
    | (with_reducible apply Eff.by (State.setPll_eff ..))
    | split

theorem State.pllStop_eff (s : State) (q : PllId) :
    Eff 16384 s (State.pllStop s q) := by
  unfold State.pllStop
  try dsimp only
  repeat' first
    | (with_reducible apply Eff.refl)
    | (with_reducible assumption)
    | decide
    | (with_reducible apply Eff.ite)
    | (with_reducible apply Eff.by (State.setPll_eff ..))
    | split

theorem State.pllPass_eff (s : State) :
    Eff 16384 s (State.pllPass s) := by
  unfold State.pllPass
  try dsimp only
  repeat' first
    | (with_reducible apply Eff.refl)
    | (with_reducible assumption)
    | decide
    | (with_reducible apply Eff.ite)
    | (with_reducible apply Eff.foldl)
    | (with_reducible apply Eff.by (State.pllStart_eff ..))
    | split
    | (intro _)
    | (dsimp only)

theorem State.pllIdle_eff (s : State) (q : PllId) :
    Eff 16384 s (State.pllIdle s q) := by
  unfold State.pllIdle
  try dsimp only
  repeat' first
    | (with_reducible apply Eff.refl)
    | (with_reducible assumption)
    | decide
    | (with_reducible apply Eff.ite)
    | (with_reducible apply Eff.by (State.pllStop_eff ..))
    | split

theorem State.clkLost_eff (s : State) (b : Nat) :
    Eff 16384 s (State.clkLost s b) := by
  unfold State.clkLost
  try dsimp only
  repeat' first
    | (with_reducible apply Eff.refl)
    | (with_reducible assumption)
    | decide
    | (with_reducible apply Eff.ite)
    | (with_reducible apply Eff.by (State.modClk_eff ..))
    | exact ⟨rfl, rfl⟩
    | split

theorem State.clkBack_eff (s : State) (b : Nat) :
    Eff 16384 s (State.clkBack s b) := by
  unfold State.clkBack
  try dsimp only
  repeat' first
    | (with_reducible apply Eff.refl)
    | (with_reducible assumption)
    | decide
    | (with_reducible apply Eff.ite)
    | (with_reducible apply Eff.by (State.modClk_eff ..))
    | exact ⟨rfl, rfl⟩
    | split

theorem State.clkClear_eff (s : State) (v : Word) :
    Eff 16384 s (State.clkClear s v) := by
  unfold State.clkClear
  try dsimp only
  repeat' first
    | (with_reducible apply Eff.refl)
    | (with_reducible assumption)
    | decide
    | (with_reducible apply Eff.ite)
    | (with_reducible apply Eff.by (State.modClk_eff ..))
    | exact ⟨rfl, rfl⟩
    | split

theorem State.crystalLost_eff (s : State) :
    Eff 1067264 s (State.crystalLost s) := by
  unfold State.crystalLost
  try dsimp only
  repeat' first
    | (with_reducible apply Eff.refl)
    | (with_reducible assumption)
    | decide
    | (with_reducible apply Eff.ite)
    | (with_reducible apply Eff.by (State.causeOn_eff ..))
    | (with_reducible apply Eff.by (State.clkLost_eff ..))
    | (with_reducible apply Eff.by (State.modClk_eff ..))
    | exact ⟨rfl, rfl⟩
    | (with_reducible apply Eff.by (State.note_eff ..))
    | split

theorem State.crystalOn_eff (s : State) :
    Eff 1064960 s (State.crystalOn s) := by
  unfold State.crystalOn
  try dsimp only
  repeat' first
    | (with_reducible apply Eff.refl)
    | (with_reducible assumption)
    | decide
    | (with_reducible apply Eff.ite)
    | (with_reducible apply Eff.by (State.causeOff_eff ..))
    | (with_reducible apply Eff.by (State.clkBack_eff ..))
    | (with_reducible apply Eff.by (State.modClk_eff ..))
    | exact ⟨rfl, rfl⟩
    | split

end Sys2Proof.Machine
end

