-- ==== Sys2Proof/Laws/EffGuards.lean ====
section
/-!
SUPPORT. What the operations of Machine/Guards.lean may do to the state: one lemma for each (Laws/Effects.lean).
-/
set_option linter.unreachableTactic false
set_option linter.unusedTactic false

namespace Sys2Proof.Machine

theorem State.guardPass_eff (s : State) :
    Eff 262400 s (State.guardPass s) := by
  unfold State.guardPass
  try dsimp only
  repeat' first
    | (with_reducible apply Eff.refl)
    | (with_reducible assumption)
    | decide
    | (with_reducible apply Eff.ite)
    | (with_reducible apply Eff.by (State.dpsEvent_eff ..))
    | (with_reducible apply Eff.by (State.modDps_eff ..))
    | split

end Sys2Proof.Machine
end

