-- ==== Sys2Proof/Laws/EffSettle.lean ====
section
/-!
SUPPORT. What the operations of Machine/Settle.lean may do to the state: one lemma for each (Laws/Effects.lean).
-/
set_option linter.unreachableTactic false
set_option linter.unusedTactic false

namespace Sys2Proof.Machine

theorem State.cmdEnded_eff (s : State) (c : Nvme) (det : Option Nat) :
    Eff 328346597 s (State.cmdEnded s c det) := by
  unfold State.cmdEnded
  try dsimp only
  repeat' first
    | (with_reducible apply Eff.refl)
    | (with_reducible assumption)
    | decide
    | (with_reducible apply Eff.ite)
    | (with_reducible apply Eff.by (State.chanCmdEnd_eff ..))
    | (with_reducible apply Eff.by (State.jobReadEnd_eff ..))
    | (with_reducible apply Eff.by (State.vaultBoundary_eff ..))
    | (with_reducible apply Eff.by (State.vaultFail_eff ..))
    | split

theorem State.dropCmd_eff (s : State) (id : Nat) :
    Eff 16777216 s (State.dropCmd s id) := by
  unfold State.dropCmd
  try dsimp only
  repeat' first
    | (with_reducible apply Eff.refl)
    | (with_reducible assumption)
    | decide
    | (with_reducible apply Eff.ite)
    | (with_reducible apply Eff.by (State.enableDone_eff ..))
    | (with_reducible apply Eff.by (State.modVault_eff ..))
    | (with_reducible rfl)
    | split

theorem State.cmdDone_eff (s : State) (c : Nvme) :
    Eff 462564325 s (State.cmdDone s c) := by
  unfold State.cmdDone
  try dsimp only
  repeat' first
    | (with_reducible apply Eff.refl)
    | (with_reducible assumption)
    | decide
    | (with_reducible apply Eff.ite)
    | (with_reducible apply Eff.by (State.cmdEnded_eff ..))
    | (with_reducible apply Eff.by (State.nvme_eff ..))
    | (with_reducible apply Eff.by (State.stored_eff ..))
    | split

theorem State.nvmeDone_eff (s : State) (id : Nat) (ok : Bool) :
    Eff 462564325 s (State.nvmeDone s id ok) := by
  unfold State.nvmeDone
  try dsimp only
  repeat' first
    | (with_reducible apply Eff.refl)
    | (with_reducible assumption)
    | decide
    | (with_reducible apply Eff.ite)
    | (with_reducible apply Eff.by (State.cmdDone_eff ..))
    | (with_reducible apply Eff.by (State.cmdEnded_eff ..))
    | (with_reducible apply Eff.by (State.dropCmd_eff ..))
    | (with_reducible apply Eff.by (State.emit_eff ..))
    | (with_reducible apply Eff.by (State.modVault_eff ..))
    | (with_reducible rfl)
    | (with_reducible apply Eff.by (State.setDrive_eff ..))
    | split

theorem State.driveItem_eff (s : State) (k : Nat) :
    Eff 16778181 s (State.driveItem s k) := by
  unfold State.driveItem
  try dsimp only
  repeat' first
    | (with_reducible apply Eff.refl)
    | (with_reducible assumption)
    | decide
    | (with_reducible apply Eff.ite)
    | (with_reducible apply Eff.by (State.causeItem_eff ..))
    | (with_reducible apply Eff.by (State.finish_eff ..))
    | (with_reducible apply Eff.by (State.vaultBoundary_eff ..))
    | (with_reducible apply Eff.by (State.vaultEvent_eff ..))
    | split

theorem State.driveFail_eff (s : State) (n : Nat) :
    Eff 328347631 s (State.driveFail s n) := by
  unfold State.driveFail
  try dsimp only
  repeat' first
    | (with_reducible apply Eff.refl)
    | (with_reducible assumption)
    | decide
    | (with_reducible apply Eff.ite)
    | (with_reducible apply Eff.foldl)
    | (with_reducible apply Eff.by (State.causeOn_eff ..))
    | (with_reducible apply Eff.by (State.cmdEnded_eff ..))
    | (with_reducible apply Eff.by (State.driveItem_eff ..))
    | (with_reducible apply Eff.by (State.dropCmd_eff ..))
    | (with_reducible apply Eff.by (State.modVault_eff ..))
    | (with_reducible rfl)
    | (with_reducible apply Eff.by (State.raise_eff ..))
    | (with_reducible apply Eff.by (State.setDrive_eff ..))
    | (with_reducible apply Eff.by (State.vaultEvent_eff ..))
    | split
    | (intro _)
    | (dsimp only)

theorem State.nvmeLate_eff (s : State) (id : Nat) :
    Eff 328347631 s (State.nvmeLate s id) := by
  unfold State.nvmeLate
  try dsimp only
  repeat' first
    | (with_reducible apply Eff.refl)
    | (with_reducible assumption)
    | decide
    | (with_reducible apply Eff.ite)
    | (with_reducible apply Eff.by (State.cmdEnded_eff ..))
    | (with_reducible apply Eff.by (State.driveFail_eff ..))
    | (with_reducible apply Eff.by (State.dropCmd_eff ..))
    | (with_reducible apply Eff.by (State.emit_eff ..))
    | (with_reducible apply Eff.by (State.modVault_eff ..))
    | (with_reducible rfl)
    | (with_reducible apply Eff.by (State.setDrive_eff ..))
    | split

theorem State.runItem_eff (s : State) (k : Nat) (i : Item) :
    Eff 159393791 s (State.runItem s k i) := by
  unfold State.runItem
  try dsimp only
  repeat' first
    | (with_reducible apply Eff.refl)
    | (with_reducible assumption)
    | decide
    | (with_reducible apply Eff.ite)
    | (with_reducible apply Eff.by (State.askDisable_eff ..))
    | (with_reducible apply Eff.by (State.askReset_eff ..))
    | (with_reducible apply Eff.by (State.askResume_eff ..))
    | (with_reducible apply Eff.by (State.askSuspend_eff ..))
    | (with_reducible apply Eff.by (State.doCapture_eff ..))
    | (with_reducible apply Eff.by (State.doFanout_eff ..))
    | (with_reducible apply Eff.by (State.doTransfer_eff ..))
    | (with_reducible apply Eff.by (State.doVaultDealloc_eff ..))
    | (with_reducible apply Eff.by (State.doVaultFlush_eff ..))
    | (with_reducible apply Eff.by (State.doVaultRead_eff ..))
    | (with_reducible apply Eff.by (State.doVaultWrite_eff ..))
    | (with_reducible apply Eff.by (State.itemWake_eff ..))
    | (with_reducible apply Eff.by (State.serve_eff ..))
    | (with_reducible apply Eff.by (State.vbusOff_eff ..))
    | (with_reducible apply Eff.by (State.vbusOn_eff ..))
    | split

theorem State.heldRun_eff (s : State) (k : Nat) :
    Eff 159393791 s (State.heldRun s k) := by
  unfold State.heldRun
  try dsimp only
  repeat' first
    | (with_reducible apply Eff.refl)
    | (with_reducible assumption)
    | decide
    | (with_reducible apply Eff.ite)
    | (with_reducible apply Eff.by (State.runItem_eff ..))
    | (with_reducible apply Eff.by (State.unlessPaused_eff (m := 159393791) ..))
    | split
    | (intro _)
    | (dsimp only)

theorem State.resumedPass_eff (s : State) :
    Eff 159393791 s (State.resumedPass s) := by
  unfold State.resumedPass
  try dsimp only
  repeat' first
    | (with_reducible apply Eff.refl)
    | (with_reducible assumption)
    | decide
    | (with_reducible apply Eff.ite)
    | (with_reducible apply Eff.foldl)
    | (with_reducible apply Eff.by (State.heldRun_eff ..))
    | (with_reducible apply Eff.by (State.modTenants_eff ..))
    | split
    | (intro _)
    | (dsimp only)

theorem State.hubEnds_eff (s : State) :
    Eff 328338423 s (State.hubEnds s) := by
  unfold State.hubEnds
  try dsimp only
  repeat' first
    | (with_reducible apply Eff.refl)
    | (with_reducible assumption)
    | decide
    | (with_reducible apply Eff.ite)
    | (with_reducible apply Eff.foldl)
    | (with_reducible apply Eff.by (State.captEnded_eff ..))
    | (with_reducible apply Eff.by (State.chanPipeEnd_eff ..))
    | (with_reducible apply Eff.by (State.jobPipeEnd_eff ..))
    | (with_reducible apply Eff.by (State.modVault_eff ..))
    | (with_reducible rfl)
    | split
    | (intro _)
    | (dsimp only)

theorem State.settleOnce_eff (s : State) :
    Eff 462556151 s (State.settleOnce s) := by
  unfold State.settleOnce
  try dsimp only
  repeat' first
    | (with_reducible apply Eff.refl)
    | (with_reducible assumption)
    | decide
    | (with_reducible apply Eff.ite)
    | (with_reducible apply Eff.by (State.captPass_eff ..))
    | (with_reducible apply Eff.by (State.chanPass_eff ..))
    | (with_reducible apply Eff.by (State.hubEnds_eff ..))
    | (with_reducible apply Eff.by (State.jobPass_eff ..))
    | (with_reducible apply Eff.by (State.settleWaits_eff ..))
    | (with_reducible apply Eff.by (State.templatePass_eff ..))
    | (with_reducible apply Eff.by (State.vaultPass_eff ..))
    | split

theorem State.settle_eff (s : State) :
    Eff 462843903 s (State.settle s) := by
  unfold State.settle
  try dsimp only
  repeat' first
    | (with_reducible apply Eff.refl)
    | (with_reducible assumption)
    | decide
    | (with_reducible apply Eff.ite)
    | (with_reducible apply Eff.times)
    | (with_reducible apply Eff.by (State.escOwed_eff ..))
    | (with_reducible apply Eff.by (State.freeRecalled_eff ..))
    | (with_reducible apply Eff.by (State.guardPass_eff ..))
    | (with_reducible apply Eff.by (State.pllPass_eff ..))
    | (with_reducible apply Eff.by (State.resumedPass_eff ..))
    | (with_reducible apply Eff.by (State.settleOnce_eff ..))
    | (with_reducible apply Eff.by (times_eff ..))
    | split
    | (intro _)
    | (dsimp only)

theorem State.xactTake_eff (s : State) (n : Nat) (r : XactRes) :
    Eff 328338423 s (State.xactTake s n r) := by
  unfold State.xactTake
  try dsimp only
  repeat' first
    | (with_reducible apply Eff.refl)
    | (with_reducible assumption)
    | decide
    | (with_reducible apply Eff.ite)
    | (with_reducible apply Eff.by (State.chanXact_eff ..))
    | (with_reducible apply Eff.by (State.jobXact_eff ..))
    | (with_reducible apply Eff.by (State.xactDone_eff ..))
    | split

theorem State.xactEnd_eff (s : State) (n : Nat) (r : XactRes) :
    Eff 328338423 s (State.xactEnd s n r) := by
  unfold State.xactEnd
  try dsimp only
  repeat' first
    | (with_reducible apply Eff.refl)
    | (with_reducible assumption)
    | decide
    | (with_reducible apply Eff.ite)
    | (with_reducible apply Eff.by (State.setDieLink_eff ..))
    | (with_reducible apply Eff.by (State.xactTake_eff ..))
    | split

theorem State.linkFlow_eff (s : State) (n : Nat) :
    Eff 328338423 s (State.linkFlow s n) := by
  unfold State.linkFlow
  try dsimp only
  repeat' first
    | (with_reducible apply Eff.refl)
    | (with_reducible assumption)
    | decide
    | (with_reducible apply Eff.ite)
    | (with_reducible apply Eff.foldl)
    | (with_reducible apply Eff.by (State.serve_eff ..))
    | (with_reducible apply Eff.by (State.setDieLink_eff ..))
    | (with_reducible apply Eff.by (State.xactTake_eff ..))
    | split
    | (intro _)
    | (dsimp only)

end Sys2Proof.Machine
end

