-- ==== Sys2Proof/Laws/EffUpstream.lean ====
section
/-!
SUPPORT. What the operations of Machine/Upstream.lean may do to the state: one lemma for each (Laws/Effects.lean).
-/
set_option linter.unreachableTactic false
set_option linter.unusedTactic false

namespace Sys2Proof.Machine

theorem State.trainingDone_eff (s : State) (m : Nat) (common : Bool) :
    Eff 32768 s (State.trainingDone s m common) := by
  unfold State.trainingDone
  try dsimp only
  repeat' first
    | (with_reducible apply Eff.refl)
    | (with_reducible assumption)
    | decide
    | (with_reducible apply Eff.ite)
    | (with_reducible apply Eff.by (State.setLink_eff ..))
    | split

theorem State.trainingFail_eff (s : State) (m : Nat) :
    Eff 32768 s (State.trainingFail s m) := by
  unfold State.trainingFail
  try dsimp only
  repeat' first
    | (with_reducible apply Eff.refl)
    | (with_reducible assumption)
    | decide
    | (with_reducible apply Eff.ite)
    | (with_reducible apply Eff.by (State.modUpl_eff ..))
    | (with_reducible apply Eff.by (State.train_eff ..))
    | split

theorem State.probationEnd_eff (s : State) (m : Nat) :
    Eff 1149696 s (State.probationEnd s m) := by
  unfold State.probationEnd
  try dsimp only
  repeat' first
    | (with_reducible apply Eff.refl)
    | (with_reducible assumption)
    | decide
    | (with_reducible apply Eff.ite)
    | (with_reducible apply Eff.by (State.joinSpray_eff ..))
    | split

theorem State.linkFault_eff (s : State) (m : Nat) :
    Eff 18058181 s (State.linkFault s m) := by
  unfold State.linkFault
  try dsimp only
  repeat' first
    | (with_reducible apply Eff.refl)
    | (with_reducible assumption)
    | decide
    | (with_reducible apply Eff.ite)
    | (with_reducible apply Eff.by (State.fault_eff ..))
    | (with_reducible apply Eff.by (State.leaveSpray_eff ..))
    | (with_reducible apply Eff.by (State.train_eff ..))
    | (with_reducible apply Eff.by (State.upEvent_eff ..))
    | split

theorem State.allDownEnd_eff (s : State) :
    Eff 16942021 s (State.allDownEnd s) := by
  unfold State.allDownEnd
  try dsimp only
  repeat' first
    | (with_reducible apply Eff.refl)
    | (with_reducible assumption)
    | decide
    | (with_reducible apply Eff.ite)
    | (with_reducible apply Eff.foldl)
    | (with_reducible apply Eff.by (State.loseSession_eff ..))
    | split
    | (intro _)
    | (dsimp only)

theorem State.charge_eff (s : State) (n : Nat) :
    Eff 32768 s (State.charge s n) := by
  unfold State.charge
  try dsimp only
  repeat' first
    | (with_reducible apply Eff.refl)
    | (with_reducible assumption)
    | decide
    | (with_reducible apply Eff.ite)
    | (with_reducible apply Eff.by (State.modUpl_eff ..))
    | split

theorem State.dropDeficit_eff (s : State) :
    Eff 32768 s (State.dropDeficit s) := by
  unfold State.dropDeficit
  try dsimp only
  repeat' first
    | (with_reducible apply Eff.refl)
    | (with_reducible assumption)
    | decide
    | (with_reducible apply Eff.ite)
    | (with_reducible apply Eff.by (State.modUpl_eff ..))
    | split

theorem State.endPath_eff (s : State) (n : Nat) :
    Eff 16942021 s (State.endPath s n) := by
  unfold State.endPath
  try dsimp only
  repeat' first
    | (with_reducible apply Eff.refl)
    | (with_reducible assumption)
    | decide
    | (with_reducible apply Eff.ite)
    | (with_reducible apply Eff.by (State.endSession_eff ..))
    | split

theorem State.frameSend_eff (s : State) (n : Nat) :
    Eff 16942021 s (State.frameSend s n) := by
  unfold State.frameSend
  try dsimp only
  repeat' first
    | (with_reducible apply Eff.refl)
    | (with_reducible assumption)
    | decide
    | (with_reducible apply Eff.ite)
    | (with_reducible apply Eff.by (State.charge_eff ..))
    | (with_reducible apply Eff.by (State.dropDeficit_eff ..))
    | (with_reducible apply Eff.by (State.endPath_eff ..))
    | (with_reducible apply Eff.by (State.restall_eff ..))
    | (with_reducible apply Eff.by (State.sendData_eff ..))
    | (with_reducible apply Eff.by (State.wrapClose_eff ..))
    | split

theorem State.ackDelayEnd_eff (s : State) (n : Nat) :
    Eff 16942021 s (State.ackDelayEnd s n) := by
  unfold State.ackDelayEnd
  try dsimp only
  repeat' first
    | (with_reducible apply Eff.refl)
    | (with_reducible assumption)
    | decide
    | (with_reducible apply Eff.ite)
    | (with_reducible apply Eff.by (State.sendAck_eff ..))
    | split

theorem State.reorderEnd_eff (s : State) (n q : Nat) :
    Eff 16942021 s (State.reorderEnd s n q) := by
  unfold State.reorderEnd
  try dsimp only
  repeat' first
    | (with_reducible apply Eff.refl)
    | (with_reducible assumption)
    | decide
    | (with_reducible apply Eff.ite)
    | (with_reducible apply Eff.by (State.resend_eff ..))
    | split

theorem State.rtoEnd_eff (s : State) (n : Nat) :
    Eff 16942021 s (State.rtoEnd s n) := by
  unfold State.rtoEnd
  try dsimp only
  repeat' first
    | (with_reducible apply Eff.refl)
    | (with_reducible assumption)
    | decide
    | (with_reducible apply Eff.ite)
    | (with_reducible apply Eff.by (State.loseSession_eff ..))
    | (with_reducible apply Eff.by (State.modSess_eff ..))
    | (with_reducible apply Eff.by (State.resend_eff ..))
    | split

end Sys2Proof.Machine
end

