-- ==== Sys2Proof/Laws/EffPlls.lean ====
section
/-!
SUPPORT. What the operations of Machine/Plls.lean may do to the state: one lemma for each (Laws/Effects.lean).
-/
set_option linter.unreachableTactic false
set_option linter.unusedTactic false

namespace Sys2Proof.Machine

theorem State.borrow_eff (s : State) (g : Nat) :
    Eff 51408879 s (State.borrow s g) := by
  unfold State.borrow
  try dsimp only
  repeat' first
    | (with_reducible apply Eff.refl)
    | (with_reducible assumption)
    | decide
    | (with_reducible apply Eff.ite)
    | (with_reducible apply Eff.by (State.causeOn_eff ..))
    | (with_reducible apply Eff.by (State.modClk_eff ..))
    | exact ⟨rfl, rfl⟩
    | (with_reducible apply Eff.by (State.note_eff ..))
    | (with_reducible apply Eff.by (State.raise_eff ..))
    | split

theorem State.borrowAll_eff (s : State) (w : Nat) :
    Eff 51408879 s (State.borrowAll s w) := by
  unfold State.borrowAll
  try dsimp only
  repeat' first
    | (with_reducible apply Eff.refl)
    | (with_reducible assumption)
    | decide
    | (with_reducible apply Eff.ite)
    | (with_reducible apply Eff.foldl)
    | (with_reducible apply Eff.by (State.borrow_eff ..))
    | split
    | (intro _)
    | (dsimp only)

theorem State.ownPll_eff (s : State) (g : Nat) :
    Eff 1064960 s (State.ownPll s g) := by
  unfold State.ownPll
  try dsimp only
  repeat' first
    | (with_reducible apply Eff.refl)
    | (with_reducible assumption)
    | decide
    | (with_reducible apply Eff.ite)
    | (with_reducible apply Eff.by (State.causeOff_eff ..))
    | (with_reducible apply Eff.by (State.modClk_eff ..))
    | exact ⟨rfl, rfl⟩
    | split

theorem State.upstreamOut_eff (s : State) :
    Eff 18058181 s (State.upstreamOut s) := by
  unfold State.upstreamOut
  try dsimp only
  repeat' first
    | (with_reducible apply Eff.refl)
    | (with_reducible assumption)
    | decide
    | (with_reducible apply Eff.ite)
    | (with_reducible apply Eff.foldl)
    | (with_reducible apply Eff.by (State.linkFault_eff ..))
    | split
    | (intro _)
    | (dsimp only)

theorem State.gen2Out_eff (s : State) (w : Nat) :
    Eff 16778221 s (State.gen2Out s w) := by
  unfold State.gen2Out
  try dsimp only
  repeat' first
    | (with_reducible apply Eff.refl)
    | (with_reducible assumption)
    | decide
    | (with_reducible apply Eff.ite)
    | (with_reducible apply Eff.foldl)
    | (with_reducible apply Eff.by (State.degraded_eff ..))
    | split
    | (intro _)
    | (dsimp only)

theorem State.pllOut_eff (s : State) (q : PllId) :
    Eff 328462319 s (State.pllOut s q) := by
  unfold State.pllOut
  try dsimp only
  repeat' first
    | (with_reducible apply Eff.refl)
    | (with_reducible assumption)
    | decide
    | (with_reducible apply Eff.ite)
    | (with_reducible apply Eff.foldl)
    | (with_reducible apply Eff.by (State.borrowAll_eff ..))
    | (with_reducible apply Eff.by (State.causeOn_eff ..))
    | (with_reducible apply Eff.by (State.clkLost_eff ..))
    | (with_reducible apply Eff.by (State.driveFail_eff ..))
    | (with_reducible apply Eff.by (State.gen2Out_eff ..))
    | (with_reducible apply Eff.by (State.modClk_eff ..))
    | exact ⟨rfl, rfl⟩
    | (with_reducible apply Eff.by (State.note_eff ..))
    | (with_reducible apply Eff.by (State.raise_eff ..))
    | (with_reducible apply Eff.by (State.upstreamOut_eff ..))
    | split
    | (intro _)
    | (dsimp only)

theorem State.pllLoss_eff (s : State) (q : PllId) :
    Eff 328462319 s (State.pllLoss s q) := by
  unfold State.pllLoss
  try dsimp only
  repeat' first
    | (with_reducible apply Eff.refl)
    | (with_reducible assumption)
    | decide
    | (with_reducible apply Eff.ite)
    | (with_reducible apply Eff.by (State.pllOut_eff ..))
    | (with_reducible apply Eff.by (State.setPll_eff ..))
    | split

theorem State.pllLate_eff (s : State) (q : PllId) :
    Eff 328462319 s (State.pllLate s q) := by
  unfold State.pllLate
  try dsimp only
  repeat' first
    | (with_reducible apply Eff.refl)
    | (with_reducible assumption)
    | decide
    | (with_reducible apply Eff.ite)
    | (with_reducible apply Eff.by (State.pllOut_eff ..))
    | (with_reducible apply Eff.by (State.setCorePll_eff ..))
    | (with_reducible apply Eff.by (State.setPll_eff ..))
    | split

theorem State.pllLocked_eff (s : State) (q : PllId) :
    Eff 51638255 s (State.pllLocked s q) := by
  unfold State.pllLocked
  try dsimp only
  repeat' first
    | (with_reducible apply Eff.refl)
    | (with_reducible assumption)
    | decide
    | (with_reducible apply Eff.ite)
    | (with_reducible apply Eff.by (State.applyLinkEnables_eff ..))
    | (with_reducible apply Eff.by (State.borrowAll_eff ..))
    | (with_reducible apply Eff.by (State.causeOff_eff ..))
    | (with_reducible apply Eff.by (State.clkBack_eff ..))
    | (with_reducible apply Eff.by (State.modClk_eff ..))
    | exact ⟨rfl, rfl⟩
    | (with_reducible apply Eff.by (State.ownPll_eff ..))
    | (with_reducible apply Eff.by (State.setPll_eff ..))
    | split

theorem State.refEthLost_eff (s : State) :
    Eff 51638255 s (State.refEthLost s) := by
  unfold State.refEthLost
  try dsimp only
  repeat' first
    | (with_reducible apply Eff.refl)
    | (with_reducible assumption)
    | decide
    | (with_reducible apply Eff.ite)
    | (with_reducible apply Eff.foldl)
    | (with_reducible apply Eff.by (State.causeOn_eff ..))
    | (with_reducible apply Eff.by (State.clkLost_eff ..))
    | (with_reducible apply Eff.by (State.modClk_eff ..))
    | exact ⟨rfl, rfl⟩
    | (with_reducible apply Eff.by (State.pllStop_eff ..))
    | (with_reducible apply Eff.by (State.raise_eff ..))
    | (with_reducible apply Eff.by (State.setCorePll_eff ..))
    | (with_reducible apply Eff.by (State.upstreamOut_eff ..))
    | split
    | (intro _)
    | (dsimp only)

end Sys2Proof.Machine
end

