-- ==== Sys2Proof/Laws/EffConservator.lean ====
section
/-!
SUPPORT. What the operations of Machine/Conservator.lean may do to the state: one lemma for each (Laws/Effects.lean).
-/
set_option linter.unreachableTactic false
set_option linter.unusedTactic false

namespace Sys2Proof.Machine

theorem State.zeroArea_eff (s : State) (o : Nat) :
    Eff 301989888 s (State.zeroArea s o) := by
  unfold State.zeroArea
  try dsimp only
  repeat' first
    | (with_reducible apply Eff.refl)
    | (with_reducible assumption)
    | decide
    | (with_reducible apply Eff.ite)
    | (with_reducible apply Eff.by (State.modMov_area ..))
    | exact SMap.wf_select _ _
    | (with_reducible apply Eff.by (State.modMov_eff ..))
    | (with_reducible rfl)
    | split

theorem State.uncFault_eff (s : State) (e : MemErr) (cls : Nat) :
    Eff 1050880 s (State.uncFault s e cls) := by
  unfold State.uncFault
  try dsimp only
  repeat' first
    | (with_reducible apply Eff.refl)
    | (with_reducible assumption)
    | decide
    | (with_reducible apply Eff.ite)
    | (with_reducible apply Eff.by (State.faultRec_eff ..))
    | split

theorem State.uncSession_eff (s : State) (n : Nat) :
    Eff 16942021 s (State.uncSession s n) := by
  unfold State.uncSession
  try dsimp only
  repeat' first
    | (with_reducible apply Eff.refl)
    | (with_reducible assumption)
    | decide
    | (with_reducible apply Eff.ite)
    | (with_reducible apply Eff.by (State.causeItems_eff ..))
    | (with_reducible apply Eff.by (State.loseSession_eff ..))
    | split

theorem State.uncLedger_eff (s : State) (e : MemErr) (t acc : Nat) (both : Bool) :
    Eff 1051392 s (State.uncLedger s e t acc both) := by
  unfold State.uncLedger
  try dsimp only
  repeat' first
    | (with_reducible apply Eff.refl)
    | (with_reducible assumption)
    | decide
    | (with_reducible apply Eff.ite)
    | (with_reducible apply Eff.by (State.modFlt_eff ..))
    | (with_reducible apply Eff.by (State.modTenants_eff ..))
    | (with_reducible apply Eff.by (State.uncFault_eff ..))
    | split

theorem State.uncPbuf_eff (s : State) (e : MemErr) (both : Bool) :
    Eff 319982533 s (State.uncPbuf s e both) := by
  unfold State.uncPbuf
  try dsimp only
  repeat' first
    | (with_reducible apply Eff.refl)
    | (with_reducible assumption)
    | decide
    | (with_reducible apply Eff.ite)
    | (with_reducible apply Eff.foldl)
    | (with_reducible apply Eff.by (State.busError_eff ..))
    | (with_reducible apply Eff.by (State.causeItem_eff ..))
    | (with_reducible apply Eff.by (State.tookFree_eff ..))
    | (with_reducible apply Eff.by (State.uncFault_eff ..))
    | (with_reducible apply Eff.by (State.uncLedger_eff ..))
    | (with_reducible apply Eff.by (State.uncSession_eff ..))
    | (with_reducible apply Eff.by (State.zeroArea_eff ..))
    | split
    | (intro _)
    | (dsimp only)

theorem State.uncFifo_eff (s : State) (e : MemErr) :
    Eff 17828821 s (State.uncFifo s e) := by
  unfold State.uncFifo
  try dsimp only
  repeat' first
    | (with_reducible apply Eff.refl)
    | (with_reducible assumption)
    | decide
    | (with_reducible apply Eff.ite)
    | (with_reducible apply Eff.by (State.causeItem_eff ..))
    | (with_reducible apply Eff.by (State.modFifo_eff ..))
    | (with_reducible apply Eff.by (State.tookFree_eff ..))
    | (with_reducible apply Eff.by (State.uncFault_eff ..))
    | split

theorem State.uncPipe_eff (s : State) (e : MemErr) :
    Eff 17828805 s (State.uncPipe s e) := by
  unfold State.uncPipe
  try dsimp only
  repeat' first
    | (with_reducible apply Eff.refl)
    | (with_reducible assumption)
    | decide
    | (with_reducible apply Eff.ite)
    | (with_reducible apply Eff.by (State.closing_eff ..))
    | (with_reducible apply Eff.by (State.uncFault_eff ..))
    | split

theorem State.uncLatch_eff (s : State) (e : MemErr) :
    Eff 8388864 s (State.uncLatch s e) := by
  unfold State.uncLatch
  try dsimp only
  repeat' first
    | (with_reducible apply Eff.refl)
    | (with_reducible assumption)
    | decide
    | (with_reducible apply Eff.ite)
    | (with_reducible apply Eff.by (State.memEvent_eff ..))
    | (with_reducible apply Eff.by (State.modMem_eff ..))
    | split

theorem State.uncFound_eff (s : State) (e : MemErr) (both : Bool) :
    Eff 328371157 s (State.uncFound s e both) := by
  unfold State.uncFound
  try dsimp only
  repeat' first
    | (with_reducible apply Eff.refl)
    | (with_reducible assumption)
    | decide
    | (with_reducible apply Eff.ite)
    | (with_reducible apply Eff.by (State.uncFifo_eff ..))
    | (with_reducible apply Eff.by (State.uncLatch_eff ..))
    | (with_reducible apply Eff.by (State.uncPbuf_eff ..))
    | (with_reducible apply Eff.by (State.uncPipe_eff ..))
    | split

theorem State.corrRate_eff (s : State) (e : MemErr) :
    Eff 9439488 s (State.corrRate s e) := by
  unfold State.corrRate
  try dsimp only
  repeat' first
    | (with_reducible apply Eff.refl)
    | (with_reducible assumption)
    | decide
    | (with_reducible apply Eff.ite)
    | (with_reducible apply Eff.by (State.memEvent_eff ..))
    | (with_reducible apply Eff.by (State.record_eff ..))
    | split

theorem State.corrFound_eff (s : State) (e : MemErr) :
    Eff 9439504 s (State.corrFound s e) := by
  unfold State.corrFound
  try dsimp only
  repeat' first
    | (with_reducible apply Eff.refl)
    | (with_reducible assumption)
    | decide
    | (with_reducible apply Eff.ite)
    | (with_reducible apply Eff.by (State.corrRate_eff ..))
    | (with_reducible apply Eff.by (State.memEvent_eff ..))
    | (with_reducible apply Eff.by (State.modFifo_eff ..))
    | (with_reducible apply Eff.by (State.modMem_eff ..))
    | (with_reducible apply Eff.by (State.record_eff ..))
    | split

theorem State.errsFound_eff (s : State) (l : List MemErr) : Eff 328371157 s (s.errsFound l) := by
  induction l generalizing s with
  | nil => exact Eff.refl _ _
  | cons e l ih =>
    rw [State.errsFound]
    refine Eff.trans (Eff.ite ?_ ?_) (ih _)
    · exact Eff.by (State.uncFound_eff ..) (by decide) (Eff.refl _ _)
    · exact Eff.by (State.corrFound_eff ..) (by decide) (Eff.refl _ _)

theorem State.injectMem_eff (s : State) (mem : Nat) :
    Eff 328371157 s (State.injectMem s mem) := by
  unfold State.injectMem
  try dsimp only
  repeat' first
    | (with_reducible apply Eff.refl)
    | (with_reducible assumption)
    | decide
    | (with_reducible apply Eff.ite)
    | (with_reducible apply Eff.by (State.errsFound_eff ..))
    | (with_reducible apply Eff.by (State.modFlt_eff ..))
    | split

theorem State.scrubPass_eff (s : State) (found : MemErrs) :
    Eff 328371157 s (State.scrubPass s found) := by
  unfold State.scrubPass
  try dsimp only
  repeat' first
    | (with_reducible apply Eff.refl)
    | (with_reducible assumption)
    | decide
    | (with_reducible apply Eff.ite)
    | (with_reducible apply Eff.foldl)
    | (with_reducible apply Eff.by (State.errsFound_eff ..))
    | (with_reducible apply Eff.by (State.injectMem_eff ..))
    | (with_reducible apply Eff.by (State.modMem_eff ..))
    | split
    | (intro _)
    | (dsimp only)

theorem State.zeroed_eff (s : State) (r : Region) :
    Eff 8388608 s (State.zeroed s r) := by
  unfold State.zeroed
  try dsimp only
  repeat' first
    | (with_reducible apply Eff.refl)
    | (with_reducible assumption)
    | decide
    | (with_reducible apply Eff.ite)
    | (with_reducible apply Eff.by (State.modMem_eff ..))
    | split

end Sys2Proof.Machine
end

