-- ==== Sys2Proof/Laws/EffTransfers.lean ====
section
/-!
SUPPORT. What the operations of Machine/Transfers.lean may do to the state: one lemma for each (Laws/Effects.lean).
-/
set_option linter.unreachableTactic false
set_option linter.unusedTactic false

namespace Sys2Proof.Machine

theorem State.expects_eff (s : State) (k n : Nat) (isIn : Bool) :
    Eff 128 s (State.expects s k n isIn) := by
  unfold State.expects
  try dsimp only
  repeat' first
    | (with_reducible apply Eff.refl)
    | (with_reducible assumption)
    | decide
    | (with_reducible apply Eff.ite)
    | (with_reducible apply Eff.by (State.modItems_eff ..))
    | split

theorem State.transfer_eff (s : State) (k : Nat) (i : Item) :
    Eff 25428983 s (State.transfer s k i) := by
  unfold State.transfer
  try dsimp only
  repeat' first
    | (with_reducible apply Eff.refl)
    | (with_reducible assumption)
    | decide
    | (with_reducible apply Eff.ite)
    | (with_reducible apply Eff.by (State.doTransfer_eff ..))
    | (with_reducible apply Eff.by (State.expects_eff ..))
    | (with_reducible apply Eff.by (State.inRun_eff (m := 25428983) ..))
    | (with_reducible apply Eff.by (State.itemWake_eff ..))
    | (with_reducible apply Eff.by (State.serve_eff ..))
    | split
    | (intro _)
    | (dsimp only)

theorem State.outMore_eff (s : State) (r : Rec) :
    Eff 25166839 s (State.outMore s r) := by
  unfold State.outMore
  try dsimp only
  repeat' first
    | (with_reducible apply Eff.refl)
    | (with_reducible assumption)
    | decide
    | (with_reducible apply Eff.ite)
    | (with_reducible apply Eff.by (State.doOutData_eff ..))
    | (with_reducible apply Eff.by (State.serve_eff ..))
    | split

theorem State.vhostStop_eff (s : State) (k : Nat) (i : Item) :
    Eff 16778181 s (State.vhostStop s k i) := by
  unfold State.vhostStop
  try dsimp only
  repeat' first
    | (with_reducible apply Eff.refl)
    | (with_reducible assumption)
    | decide
    | (with_reducible apply Eff.ite)
    | (with_reducible apply Eff.by (State.causeItems_eff ..))
    | (with_reducible apply Eff.by (State.modItems_eff ..))
    | (with_reducible apply Eff.by (State.modTenants_eff ..))
    | split

theorem State.vhostStart_eff (s : State) (k : Nat) (i : Item) :
    Eff 16778181 s (State.vhostStart s k i) := by
  unfold State.vhostStart
  try dsimp only
  repeat' first
    | (with_reducible apply Eff.refl)
    | (with_reducible assumption)
    | decide
    | (with_reducible apply Eff.ite)
    | (with_reducible apply Eff.by (State.finish_eff ..))
    | (with_reducible apply Eff.by (State.modTenants_eff ..))
    | split

theorem State.deadline_eff (s : State) (principal acc : Nat) :
    Eff 16778181 s (State.deadline s principal acc) := by
  unfold State.deadline
  try dsimp only
  repeat' first
    | (with_reducible apply Eff.refl)
    | (with_reducible assumption)
    | decide
    | (with_reducible apply Eff.ite)
    | (with_reducible apply Eff.by (State.causeItem_eff ..))
    | split

theorem State.ctxUse_eff (s : State) (n : Nat) :
    Eff 328371157 s (State.ctxUse s n) := by
  unfold State.ctxUse
  try dsimp only
  repeat' first
    | (with_reducible apply Eff.refl)
    | (with_reducible assumption)
    | decide
    | (with_reducible apply Eff.ite)
    | (with_reducible apply Eff.by (State.injectMem_eff ..))
    | split

theorem State.viewPipe_eff (s : State) (n : Nat) :
    Eff 328379349 s (State.viewPipe s n) := by
  unfold State.viewPipe
  try dsimp only
  repeat' first
    | (with_reducible apply Eff.refl)
    | (with_reducible assumption)
    | decide
    | (with_reducible apply Eff.ite)
    | (with_reducible apply Eff.by (State.ctxUse_eff ..))
    | (with_reducible apply Eff.by (State.modRegs_eff ..))
    | split

theorem State.recPipeOpen_eff (s : State) (r : Rec) :
    Eff 17836997 s (State.recPipeOpen s r) := by
  unfold State.recPipeOpen
  try dsimp only
  repeat' first
    | (with_reducible apply Eff.refl)
    | (with_reducible assumption)
    | decide
    | (with_reducible apply Eff.ite)
    | (with_reducible apply Eff.by (State.doPipeOpen_eff ..))
    | (with_reducible apply Eff.by (State.takeRec_eff (m := 17836997) ..))
    | split
    | (intro _)
    | (dsimp only)

theorem State.recPipeClose_eff (s : State) (r : Rec) :
    Eff 16778181 s (State.recPipeClose s r) := by
  unfold State.recPipeClose
  try dsimp only
  repeat' first
    | (with_reducible apply Eff.refl)
    | (with_reducible assumption)
    | decide
    | (with_reducible apply Eff.ite)
    | (with_reducible apply Eff.by (State.doPipeClose_eff ..))
    | (with_reducible apply Eff.by (State.takeRec_eff (m := 16778181) ..))
    | split
    | (intro _)
    | (dsimp only)

theorem State.recPipeResync_eff (s : State) (r : Rec) :
    Eff 16778181 s (State.recPipeResync s r) := by
  unfold State.recPipeResync
  try dsimp only
  repeat' first
    | (with_reducible apply Eff.refl)
    | (with_reducible assumption)
    | decide
    | (with_reducible apply Eff.ite)
    | (with_reducible apply Eff.by (State.doPipeResync_eff ..))
    | (with_reducible apply Eff.by (State.takeRec_eff (m := 16778181) ..))
    | split
    | (intro _)
    | (dsimp only)

theorem State.recPipeAbort_eff (s : State) (r : Rec) :
    Eff 16778181 s (State.recPipeAbort s r) := by
  unfold State.recPipeAbort
  try dsimp only
  repeat' first
    | (with_reducible apply Eff.refl)
    | (with_reducible assumption)
    | decide
    | (with_reducible apply Eff.ite)
    | (with_reducible apply Eff.by (State.doPipeAbort_eff ..))
    | (with_reducible apply Eff.by (State.takeRec_eff (m := 16778181) ..))
    | split
    | (intro _)
    | (dsimp only)

theorem State.recTransfer_eff (s : State) (r : Rec) :
    Eff 25428983 s (State.recTransfer s r) := by
  unfold State.recTransfer
  try dsimp only
  repeat' first
    | (with_reducible apply Eff.refl)
    | (with_reducible assumption)
    | decide
    | (with_reducible apply Eff.ite)
    | (with_reducible apply Eff.by (State.takeRec_eff (m := 25428983) ..))
    | (with_reducible apply Eff.by (State.transfer_eff ..))
    | split
    | (intro _)
    | (dsimp only)

theorem State.recVhostStop_eff (s : State) (r : Rec) :
    Eff 16778181 s (State.recVhostStop s r) := by
  unfold State.recVhostStop
  try dsimp only
  repeat' first
    | (with_reducible apply Eff.refl)
    | (with_reducible assumption)
    | decide
    | (with_reducible apply Eff.ite)
    | (with_reducible apply Eff.by (State.takeRec_eff (m := 16778181) ..))
    | (with_reducible apply Eff.by (State.vhostStop_eff ..))
    | split
    | (intro _)
    | (dsimp only)

theorem State.recVhostStart_eff (s : State) (r : Rec) :
    Eff 16778181 s (State.recVhostStart s r) := by
  unfold State.recVhostStart
  try dsimp only
  repeat' first
    | (with_reducible apply Eff.refl)
    | (with_reducible assumption)
    | decide
    | (with_reducible apply Eff.ite)
    | (with_reducible apply Eff.by (State.takeRec_eff (m := 16778181) ..))
    | (with_reducible apply Eff.by (State.vhostStart_eff ..))
    | split
    | (intro _)
    | (dsimp only)

theorem State.recUnknownCommandRecord_eff (s : State) (op : Nat) (r : Rec) :
    Eff 16778181 s (State.recUnknownCommandRecord s op r) := by
  unfold State.recUnknownCommandRecord
  try dsimp only
  repeat' first
    | (with_reducible apply Eff.refl)
    | (with_reducible assumption)
    | decide
    | (with_reducible apply Eff.ite)
    | (with_reducible apply Eff.by (State.takeRec_eff (m := 16778181) ..))
    | split
    | (intro _)
    | (dsimp only)

end Sys2Proof.Machine
end

