-- ==== Sys2Proof/Laws/EffPower.lean ====
section
/-!
SUPPORT. What the operations of Machine/Power.lean may do to the state: one lemma for each (Laws/Effects.lean).
-/
set_option linter.unreachableTactic false
set_option linter.unusedTactic false

namespace Sys2Proof.Machine

theorem State.flushDrives_eff (s : State) :
    Eff 16777216 s (State.flushDrives s) := by
  unfold State.flushDrives
  try dsimp only
  repeat' first
    | (with_reducible apply Eff.refl)
    | (with_reducible assumption)
    | decide
    | (with_reducible apply Eff.ite)
    | (with_reducible apply Eff.foldl)
    | (with_reducible apply Eff.by (State.nvme_eff ..))
    | split
    | (intro _)
    | (dsimp only)

theorem State.beginSettle_eff (s : State) (target : PwrState) :
    Eff 17049583 s (State.beginSettle s target) := by
  unfold State.beginSettle
  try dsimp only
  repeat' first
    | (with_reducible apply Eff.refl)
    | (with_reducible assumption)
    | decide
    | (with_reducible apply Eff.ite)
    | (with_reducible apply Eff.foldl)
    | (with_reducible apply Eff.by (State.flushDrives_eff ..))
    | (with_reducible apply Eff.by (State.modDps_eff ..))
    | (with_reducible apply Eff.by (State.withholdOff_eff ..))
    | split
    | (intro _)
    | (dsimp only)

theorem State.requestState_eff (s : State) (v : PwrState) (house : Bool) :
    Eff 17049583 s (State.requestState s v house) := by
  unfold State.requestState
  try dsimp only
  repeat' first
    | (with_reducible apply Eff.refl)
    | (with_reducible assumption)
    | decide
    | (with_reducible apply Eff.ite)
    | (with_reducible apply Eff.by (State.beginSettle_eff ..))
    | (with_reducible apply Eff.by (State.guardPass_eff ..))
    | (with_reducible apply Eff.by (State.modDps_eff ..))
    | (with_reducible apply Eff.by (State.wake_eff ..))
    | split

theorem State.guardsClear_eff (s : State) :
    Eff 17049583 s (State.guardsClear s) := by
  unfold State.guardsClear
  try dsimp only
  repeat' first
    | (with_reducible apply Eff.refl)
    | (with_reducible assumption)
    | decide
    | (with_reducible apply Eff.ite)
    | (with_reducible apply Eff.by (State.beginSettle_eff ..))
    | (with_reducible apply Eff.by (State.guardPass_eff ..))
    | split

theorem State.drowseIdle_eff (s : State) :
    Eff 17049583 s (State.drowseIdle s) := by
  unfold State.drowseIdle
  try dsimp only
  repeat' first
    | (with_reducible apply Eff.refl)
    | (with_reducible assumption)
    | decide
    | (with_reducible apply Eff.ite)
    | (with_reducible apply Eff.by (State.beginSettle_eff ..))
    | split

theorem State.settleStep_eff (s : State) (x : SettleStep) :
    Eff 4505600 s (State.settleStep s x) := by
  unfold State.settleStep
  try dsimp only
  repeat' first
    | (with_reducible apply Eff.refl)
    | (with_reducible assumption)
    | decide
    | (with_reducible apply Eff.ite)
    | (with_reducible apply Eff.foldl)
    | (with_reducible apply Eff.by (State.modDbg_eff ..))
    | (with_reducible apply Eff.by (State.modDps_eff ..))
    | (with_reducible apply Eff.by (State.pllStop_eff ..))
    | (with_reducible apply Eff.by (State.setCore_eff ..))
    | (with_reducible apply Eff.by (State.setCorePll_eff ..))
    | (with_reducible apply Eff.by (State.setLink_eff ..))
    | (with_reducible apply Eff.by (State.setMain_eff ..))
    | (with_reducible apply Eff.by (State.tookFree_eff ..))
    | split
    | (intro _)
    | (dsimp only)

theorem State.outlives_eff (s : State) : Eff 1073741823 s s.outlives := by
  constructor <;> intros <;>
    first
    | (rename_i h; exact absurd h (by decide))
    | rfl
    | exact List.prefix_refl _
    | exact Nat.le_refl _
    | exact ⟨rfl, rfl, rfl, rfl, rfl, rfl, rfl, Nat.le_refl _⟩
    | (rename_i w; exact ⟨rfl, SMap.wf_select _ _ w.2.1, w.2.2.1, w.2.2.2⟩)
    | exact ⟨rfl, rfl, rfl, rfl, rfl, rfl, rfl, rfl, rfl, rfl⟩

theorem State.unpowered_eff (s : State) :
    Eff 1073741823 s (State.unpowered s) := by
  unfold State.unpowered
  try dsimp only
  repeat' first
    | (with_reducible apply Eff.refl)
    | (with_reducible assumption)
    | decide
    | (with_reducible apply Eff.ite)
    | (with_reducible apply Eff.by (State.outlives_eff ..))
    | (with_reducible apply Eff.by (State.svcSource_eff ..))
    | split

theorem State.pgLost_eff (s : State) :
    Eff 1073741823 s (State.pgLost s) := by
  unfold State.pgLost
  try dsimp only
  repeat' first
    | (with_reducible apply Eff.refl)
    | (with_reducible assumption)
    | decide
    | (with_reducible apply Eff.ite)
    | (with_reducible apply Eff.by (State.modDps_eff ..))
    | (with_reducible apply Eff.by (State.setMain_eff ..))
    | (with_reducible apply Eff.by (State.unpowered_eff ..))
    | split

theorem State.replayWake_eff (s : State) (w : Wake) :
    Eff 16787439 s (State.replayWake s w) := by
  unfold State.replayWake
  try dsimp only
  repeat' first
    | (with_reducible apply Eff.refl)
    | (with_reducible assumption)
    | decide
    | (with_reducible apply Eff.ite)
    | (with_reducible apply Eff.by (State.ccReplay_eff ..))
    | (with_reducible apply Eff.by (State.portGone_eff ..))
    | (with_reducible apply Eff.by (State.remoteWaken_eff ..))
    | split

theorem State.freshPass_eff (s : State) :
    Eff 8388608 s (State.freshPass s) := by
  unfold State.freshPass
  try dsimp only
  repeat' first
    | (with_reducible apply Eff.refl)
    | (with_reducible assumption)
    | decide
    | (with_reducible apply Eff.ite)
    | (with_reducible apply Eff.by (State.modMem_eff ..))
    | split

theorem State.enterRun_eff (s : State) :
    Eff 228061183 s (State.enterRun s) := by
  unfold State.enterRun
  try dsimp only
  repeat' first
    | (with_reducible apply Eff.refl)
    | (with_reducible assumption)
    | decide
    | (with_reducible apply Eff.ite)
    | (with_reducible apply Eff.foldl)
    | (with_reducible apply Eff.by (State.applyLinkEnables_eff ..))
    | (with_reducible apply Eff.by (State.dpsEvent_eff ..))
    | (with_reducible apply Eff.by (State.freshPass_eff ..))
    | (with_reducible apply Eff.by (State.heldRun_eff ..))
    | (with_reducible apply Eff.by (State.modClk_time ..))
    | exact ⟨rfl, rfl⟩
    | (with_reducible apply Eff.by (State.modDps_eff ..))
    | (with_reducible apply Eff.by (State.replayWake_eff ..))
    | (with_reducible apply Eff.by (State.restartTimebases_eff ..))
    | (with_reducible apply Eff.by (State.setEff_eff ..))
    | (with_reducible apply Eff.by (State.syncLost_eff ..))
    | split
    | (intro _)
    | (dsimp only)

theorem State.wakeEnd_eff (s : State) :
    Eff 228061183 s (State.wakeEnd s) := by
  unfold State.wakeEnd
  try dsimp only
  repeat' first
    | (with_reducible apply Eff.refl)
    | (with_reducible assumption)
    | decide
    | (with_reducible apply Eff.ite)
    | (with_reducible apply Eff.by (State.enterRun_eff ..))
    | split

theorem State.domainFail_eff (s : State) (d : Domain) :
    Eff 1073741823 s (State.domainFail s d) := by
  unfold State.domainFail
  try dsimp only
  repeat' first
    | (with_reducible apply Eff.refl)
    | (with_reducible assumption)
    | decide
    | (with_reducible apply Eff.ite)
    | (with_reducible apply Eff.foldl)
    | (with_reducible apply Eff.by (State.causeOn_eff ..))
    | (with_reducible apply Eff.by (State.containGallery_eff ..))
    | (with_reducible apply Eff.by (State.dpsEvent_eff ..))
    | (with_reducible apply Eff.by (State.freezeLink_eff ..))
    | (with_reducible apply Eff.by (State.modDps_eff ..))
    | (with_reducible apply Eff.by (State.modFlt_eff ..))
    | (with_reducible apply Eff.by (State.raise_eff ..))
    | (with_reducible apply Eff.by (State.setMain_eff ..))
    | (with_reducible apply Eff.by (State.setPll_eff ..))
    | (with_reducible apply Eff.by (State.tookFree_eff ..))
    | (with_reducible apply Eff.by (State.unpowered_eff ..))
    | (with_reducible apply Eff.by (State.upstreamOut_eff ..))
    | split
    | (intro _)
    | (dsimp only)

theorem State.domainUp_eff (s : State) (d : Domain) :
    Eff 262144 s (State.domainUp s d) := by
  unfold State.domainUp
  try dsimp only
  repeat' first
    | (with_reducible apply Eff.refl)
    | (with_reducible assumption)
    | decide
    | (with_reducible apply Eff.ite)
    | (with_reducible apply Eff.by (State.modDps_eff ..))
    | split

theorem State.powerGood_eff (s : State) (d : Domain) :
    Eff 228061183 s (State.powerGood s d) := by
  unfold State.powerGood
  try dsimp only
  repeat' first
    | (with_reducible apply Eff.refl)
    | (with_reducible assumption)
    | decide
    | (with_reducible apply Eff.ite)
    | (with_reducible apply Eff.by (State.domainUp_eff ..))
    | (with_reducible apply Eff.by (State.modDps_eff ..))
    | (with_reducible apply Eff.by (State.pllStart_eff ..))
    | (with_reducible apply Eff.by (State.setCorePll_eff ..))
    | (with_reducible apply Eff.by (State.wakeEnd_eff ..))
    | split

theorem State.powerLate_eff (s : State) (d : Domain) :
    Eff 1073741823 s (State.powerLate s d) := by
  unfold State.powerLate
  try dsimp only
  repeat' first
    | (with_reducible apply Eff.refl)
    | (with_reducible assumption)
    | decide
    | (with_reducible apply Eff.ite)
    | (with_reducible apply Eff.by (State.domainFail_eff ..))
    | (with_reducible apply Eff.by (State.modDps_eff ..))
    | (with_reducible apply Eff.by (State.wakeEnd_eff ..))
    | split

theorem State.mainLate_eff (s : State) :
    Eff 1073741823 s (State.mainLate s) := by
  unfold State.mainLate
  try dsimp only
  repeat' first
    | (with_reducible apply Eff.refl)
    | (with_reducible assumption)
    | decide
    | (with_reducible apply Eff.ite)
    | (with_reducible apply Eff.by (State.domainFail_eff ..))
    | split

theorem State.coreWoken_eff (s : State) :
    Eff 1073741823 s (State.coreWoken s) := by
  unfold State.coreWoken
  try dsimp only
  repeat' first
    | (with_reducible apply Eff.refl)
    | (with_reducible assumption)
    | decide
    | (with_reducible apply Eff.ite)
    | (with_reducible apply Eff.by (State.domainFail_eff ..))
    | (with_reducible apply Eff.by (State.domainUp_eff ..))
    | split

theorem State.settlingDone_eff (s : State) :
    Eff 1073741823 s (State.settlingDone s) := by
  unfold State.settlingDone
  try dsimp only
  repeat' first
    | (with_reducible apply Eff.refl)
    | (with_reducible assumption)
    | decide
    | (with_reducible apply Eff.ite)
    | (with_reducible apply Eff.foldl)
    | (with_reducible apply Eff.by (State.beginWake_eff ..))
    | (with_reducible apply Eff.by (State.dpsEvent_eff ..))
    | (with_reducible apply Eff.by (State.modDps_eff ..))
    | (with_reducible apply Eff.by (State.requestState_eff ..))
    | (with_reducible apply Eff.by (State.settleStep_eff ..))
    | (with_reducible apply Eff.by (State.unpowered_eff ..))
    | split
    | (intro _)
    | (dsimp only)

theorem State.coreUpdate_eff (s : State) (mv : Nat) :
    Eff 262144 s (State.coreUpdate s mv) := by
  unfold State.coreUpdate
  try dsimp only
  repeat' first
    | (with_reducible apply Eff.refl)
    | (with_reducible assumption)
    | decide
    | (with_reducible apply Eff.ite)
    | (with_reducible apply Eff.by (State.modDps_eff ..))
    | (with_reducible apply Eff.by (State.setCore_eff ..))
    | split

theorem State.alarm_eff (s : State) :
    Eff 270336 s (State.alarm s) := by
  unfold State.alarm
  try dsimp only
  repeat' first
    | (with_reducible apply Eff.refl)
    | (with_reducible assumption)
    | decide
    | (with_reducible apply Eff.ite)
    | (with_reducible apply Eff.by (State.modRegs_eff ..))
    | (with_reducible apply Eff.by (State.wake_eff ..))
    | split

theorem State.alarmEdge_eff (s : State) :
    Eff 270336 s (State.alarmEdge s) := by
  unfold State.alarmEdge
  try dsimp only
  repeat' first
    | (with_reducible apply Eff.refl)
    | (with_reducible assumption)
    | decide
    | (with_reducible apply Eff.ite)
    | (with_reducible apply Eff.by (State.alarm_eff ..))
    | (with_reducible apply Eff.by (State.modRegs_eff ..))
    | split

theorem State.refreshMirrors_eff (s : State) :
    Eff 8192 s (State.refreshMirrors s) := by
  unfold State.refreshMirrors
  try dsimp only
  repeat' first
    | (with_reducible apply Eff.refl)
    | (with_reducible assumption)
    | decide
    | (with_reducible apply Eff.ite)
    | (with_reducible apply Eff.by (State.modRegs_eff ..))
    | split

end Sys2Proof.Machine
end

