-- ==== Sys2Proof/Laws/EffBoot.lean ====
section
/-!
SUPPORT. What the operations of Machine/Boot.lean may do to the state: one lemma for each (Laws/Effects.lean).
-/
set_option linter.unreachableTactic false
set_option linter.unusedTactic false

namespace Sys2Proof.Machine

theorem putImage_wf {m : SMap Byte} (o : Nat) (d : Bytes) (h : SMap.wf 0xFF m = true) : SMap.wf 0xFF (putImage m o d) = true :=
  SMap.wf_foldl 0xFF (fun _ _ hm => SMap.wf_put _ _ _ hm) h

theorem SMap.wfFrom_mapv {α : Type} [DecidableEq α] (d : α) {m : SMap α} {lo : Nat} (f : α → α) (hw : SMap.wfFrom d lo m = true) :
    SMap.wfFrom d lo (SMap.mapv d f m) = true := by
  induction m generalizing lo with
  | nil => rfl
  | cons e m ih =>
    obtain ⟨j, w⟩ := e
    simp only [SMap.wfFrom, Bool.and_eq_true, decide_eq_true_eq] at hw
    rw [SMap.mapv]
    split
    · exact SMap.wfFrom_mono d (by omega) (ih hw.2)
    · simp only [SMap.wfFrom, Bool.and_eq_true, decide_eq_true_eq]
      exact ⟨⟨hw.1.1, ‹_›⟩, ih hw.2⟩

/-- Changing the listed values keeps the canonical form. -/
theorem SMap.wf_mapv {α : Type} [DecidableEq α] (d : α) {m : SMap α} (f : α → α) (hw : SMap.wf d m = true) :
    SMap.wf d (SMap.mapv d f m) = true := SMap.wfFrom_mapv d f hw

theorem State.noteCode_eff (s : State) (b : Bool) (c : Nat) :
    Eff 2097152 s (State.noteCode s b c) := by
  unfold State.noteCode
  try dsimp only
  repeat' first
    | (with_reducible apply Eff.refl)
    | (with_reducible assumption)
    | decide
    | (with_reducible apply Eff.ite)
    | (with_reducible apply Eff.by (State.modBoot_eff ..))
    | exact ⟨rfl, rfl, rfl, rfl, rfl, rfl, rfl, rfl, rfl, Nat.le_refl _⟩
    | split

theorem State.tried_eff (s : State) (b : Bool) :
    Eff 2097152 s (State.tried s b) := by
  unfold State.tried
  try dsimp only
  repeat' first
    | (with_reducible apply Eff.refl)
    | (with_reducible assumption)
    | decide
    | (with_reducible apply Eff.ite)
    | (with_reducible apply Eff.by (State.noteCode_eff ..))
    | split

theorem State.runImage_eff (s : State) (b other : Bool) :
    Eff 2097152 s (State.runImage s b other) := by
  unfold State.runImage
  try dsimp only
  repeat' first
    | (with_reducible apply Eff.refl)
    | (with_reducible assumption)
    | decide
    | (with_reducible apply Eff.ite)
    | (with_reducible apply Eff.by (State.modBoot_eff ..))
    | exact ⟨rfl, rfl, rfl, rfl, rfl, rfl, rfl, rfl, rfl, Nat.le_refl _⟩
    | split

theorem State.selectSlot_eff (s : State) :
    Eff 2097152 s (State.selectSlot s).1 := by
  unfold State.selectSlot
  try dsimp only
  repeat' first
    | (with_reducible apply Eff.refl)
    | (with_reducible assumption)
    | decide
    | (with_reducible apply Eff.ite)
    | (with_reducible apply Eff.ite1)
    | (with_reducible apply Eff.by (State.runImage_eff ..))
    | (with_reducible apply Eff.by (State.tried_eff ..))
    | split

theorem State.loadVotes_eff (s : State) (warm : Bool) :
    Eff 8192 s (State.loadVotes s warm) := by
  unfold State.loadVotes
  try dsimp only
  repeat' first
    | (with_reducible apply Eff.refl)
    | (with_reducible assumption)
    | decide
    | (with_reducible apply Eff.ite)
    | (with_reducible apply Eff.foldl)
    | (with_reducible apply Eff.by (State.modVote_eff ..))
    | split
    | (intro _)
    | (dsimp only)

theorem State.enterRecovery_eff (s : State) :
    Eff 2105344 s (State.enterRecovery s) := by
  unfold State.enterRecovery
  try dsimp only
  repeat' first
    | (with_reducible apply Eff.refl)
    | (with_reducible assumption)
    | decide
    | (with_reducible apply Eff.ite)
    | (with_reducible apply Eff.foldl)
    | (with_reducible apply Eff.by (State.modBoot_eff ..))
    | exact ⟨rfl, rfl, rfl, rfl, rfl, rfl, rfl, rfl, rfl, Nat.le_refl _⟩
    | (with_reducible apply Eff.by (State.modRegs_eff ..))
    | (with_reducible apply Eff.by (State.modVote_eff ..))
    | split
    | (intro _)
    | (dsimp only)

theorem State.defaultFields_eff (s : State) (warm : Bool) :
    Eff 8198 s (State.defaultFields s warm) := by
  unfold State.defaultFields
  try dsimp only
  repeat' first
    | (with_reducible apply Eff.refl)
    | (with_reducible assumption)
    | decide
    | (with_reducible apply Eff.ite)
    | (with_reducible apply Eff.foldl)
    | (with_reducible apply Eff.by (State.setFast_eff ..))
    | (with_reducible apply Eff.by (State.setVconnAllowed_eff ..))
    | split
    | (intro _)
    | (dsimp only)

theorem State.copyVotes_eff (s : State) :
    Eff 4202503 s (State.copyVotes s) := by
  unfold State.copyVotes
  try dsimp only
  repeat' first
    | (with_reducible apply Eff.refl)
    | (with_reducible assumption)
    | decide
    | (with_reducible apply Eff.ite)
    | (with_reducible apply Eff.foldl)
    | (with_reducible apply Eff.by (State.modDbg_eff ..))
    | (with_reducible apply Eff.by (State.modProt_eff ..))
    | (with_reducible apply Eff.by (State.modPwr_eff ..))
    | (with_reducible apply Eff.by (State.modUsb_eff ..))
    | (with_reducible apply Eff.by (State.vote_eff ..))
    | split
    | (intro _)
    | (dsimp only)

theorem State.takeRecs_eff (s : State) :
    Eff 51392495 s (State.takeRecs s) := by
  unfold State.takeRecs
  try dsimp only
  repeat' first
    | (with_reducible apply Eff.refl)
    | (with_reducible assumption)
    | decide
    | (with_reducible apply Eff.ite)
    | (with_reducible apply Eff.foldl)
    | (with_reducible apply Eff.by (State.collect_eff ..))
    | (with_reducible apply Eff.by (State.immediate_eff ..))
    | (with_reducible apply Eff.by (State.modFlt_eff ..))
    | (with_reducible apply Eff.by (State.raise_eff ..))
    | split
    | (intro _)
    | (dsimp only)

theorem State.enterService_eff (s : State) :
    Eff 267911167 s (State.enterService s) := by
  unfold State.enterService
  try dsimp only
  repeat' first
    | (with_reducible apply Eff.refl)
    | (with_reducible assumption)
    | decide
    | (with_reducible apply Eff.ite)
    | (with_reducible apply Eff.foldl)
    | (with_reducible apply Eff.by (State.copyVotes_eff ..))
    | (with_reducible apply Eff.by (State.enterRun_eff ..))
    | (with_reducible apply Eff.by (State.modBoot_eff ..))
    | exact ⟨rfl, rfl, rfl, rfl, rfl, rfl, rfl, rfl, rfl, Nat.le_refl _⟩
    | (with_reducible apply Eff.by (State.modMem_eff ..))
    | (with_reducible apply Eff.by (State.modRegs_eff ..))
    | (with_reducible apply Eff.by (State.note_eff ..))
    | (with_reducible apply Eff.by (State.pllStart_eff ..))
    | (with_reducible apply Eff.by (State.portGood_eff ..))
    | (with_reducible apply Eff.by (State.settleQuorum_eff ..))
    | (with_reducible apply Eff.by (State.takeRecs_eff ..))
    | (with_reducible apply Eff.by (State.thaw_eff ..))
    | split
    | (intro _)
    | (dsimp only)

theorem State.readConfig_eff (s : State) :
    Eff 19006464 s (State.readConfig s) := by
  unfold State.readConfig
  try dsimp only
  repeat' first
    | (with_reducible apply Eff.refl)
    | (with_reducible assumption)
    | decide
    | (with_reducible apply Eff.ite)
    | (with_reducible apply Eff.foldl)
    | (with_reducible apply Eff.by (State.flash_eff ..))
    | (with_reducible apply Eff.by (State.modBoot_eff ..))
    | exact ⟨rfl, rfl, rfl, rfl, rfl, rfl, rfl, rfl, rfl, Nat.le_refl _⟩
    | (with_reducible apply Eff.by (State.modColl_eff ..))
    | (with_reducible apply Eff.by (State.modVault_eff ..))
    | (with_reducible rfl)
    | (with_reducible apply Eff.by (State.setEff_eff ..))
    | split
    | (intro _)
    | (dsimp only)

theorem State.lastSteps_eff (s : State) (warm bistBad : Bool) : Eff 19934191 s (s.lastSteps warm bistBad) := by
  unfold State.lastSteps
  have h : Eff 19934191 s (allPorts.foldl State.stageStart (s.defaultFields warm)) :=
    Eff.foldl (fun s p => Eff.by (State.stageStart_eff ..) (by decide) (Eff.refl _ _))
      (Eff.by (State.defaultFields_eff ..) (by decide) (Eff.refl _ _))
  generalize allPorts.foldl State.stageStart (s.defaultFields warm) = u at h ⊢
  dsimp only
  split
  · exact Eff.by (State.modFlt_eff ..) (by decide)
      (Eff.by (State.modBoot_eff u _ ⟨rfl, rfl, rfl, rfl, rfl, rfl, rfl, rfl, rfl, Nat.le_refl _⟩) (by decide) h)
  · exact Eff.by (State.modBoot_eff u _ ⟨rfl, rfl, rfl, rfl, rfl, rfl, rfl, rfl, rfl, Nat.le_refl _⟩) (by decide) h

theorem State.startUp_eff (s : State) (warm bistBad : Bool) :
    Eff 20377583 s (State.startUp s warm bistBad) := by
  unfold State.startUp
  try dsimp only
  repeat' first
    | (with_reducible apply Eff.refl)
    | (with_reducible assumption)
    | decide
    | (with_reducible apply Eff.ite)
    | (with_reducible apply Eff.ite1)
    | (with_reducible apply Eff.by (State.enterRecovery_eff ..))
    | (with_reducible apply Eff.by (State.lastSteps_eff ..))
    | (with_reducible apply Eff.by (State.modBoot_eff ..))
    | exact ⟨rfl, rfl, rfl, rfl, rfl, rfl, rfl, rfl, rfl, Nat.le_refl _⟩
    | (with_reducible apply Eff.by (State.modUpl_eff ..))
    | (with_reducible apply Eff.by (State.readConfig_eff ..))
    | (with_reducible apply Eff.by (State.selectSlot_eff ..))
    | (with_reducible apply Eff.by (State.setCore_eff ..))
    | (with_reducible apply Eff.by (State.setCorePll_eff ..))
    | split

theorem State.coldBase_eff (s : State) :
    Eff 1073741823 s (State.coldBase s) := by
  unfold State.coldBase
  try dsimp only
  repeat' first
    | (with_reducible apply Eff.refl)
    | (with_reducible assumption)
    | decide
    | (with_reducible apply Eff.ite)
    | (with_reducible apply Eff.by (State.loadVotes_eff ..))
    | (with_reducible apply Eff.by (State.modDps_eff ..))
    | (with_reducible apply Eff.by (State.svcDomain_eff ..))
    | (with_reducible apply Eff.by (State.unpowered_eff ..))
    | split

theorem State.coldStart_eff (s : State) (x : Straps) :
    Eff 1073741823 s (State.coldStart s x) := by
  unfold State.coldStart
  try dsimp only
  repeat' first
    | (with_reducible apply Eff.refl)
    | (with_reducible assumption)
    | decide
    | (with_reducible apply Eff.ite)
    | (with_reducible apply Eff.by (State.coldBase_eff ..))
    | (with_reducible apply Eff.by (State.modBoot_eff ..))
    | exact ⟨rfl, rfl, rfl, rfl, rfl, rfl, rfl, rfl, rfl, Nat.le_refl _⟩
    | (with_reducible apply Eff.by (State.stageAnswers_eff ..))
    | (with_reducible apply Eff.by (State.startUp_eff ..))
    | split

theorem State.keepPorts_eff {s₀ t s : State} (h : Eff 1073741823 s₀ t) (hs : UnitsOk s₀ → UnitsOk s) :
    Eff 1073741823 s₀ (t.keepPorts s) := by
  constructor <;> intros <;>
    first
    | (rename_i h; exact absurd h (by decide))
    | exact h.pending
    | exact h.grows
    | exact h.free
    | exact ⟨h.fuses.1, h.fuses.2, h.fuses.3, h.fuses.4, h.fuses.5, h.fuses.6, h.fuses.7, h.fuses.8⟩
    | (rename_i w; exact h.memories w)
    | (rename_i w
       obtain ⟨h0, _, _, h3, h4, h5, h6, h7, h8, h9⟩ := h.units w
       exact ⟨h0, SMap.wf_mapv _ _ (hs w).2.1, SMap.wf_mapv _ _ (hs w).2.2.1, h3, h4, h5, h6, h7, h8, h9⟩)

theorem State.warmBase_eff (s : State) :
    Eff 1073741823 s (State.warmBase s) := by
  unfold State.warmBase
  try dsimp only
  repeat' first
    | (with_reducible apply Eff.refl)
    | (with_reducible assumption)
    | decide
    | (with_reducible apply Eff.ite)
    | (with_reducible apply State.keepPorts_eff)
    | exact id
    | (with_reducible apply Eff.by (State.loadVotes_eff ..))
    | (with_reducible apply Eff.by (State.modBoot_eff ..))
    | exact ⟨rfl, rfl, rfl, rfl, rfl, rfl, rfl, rfl, rfl, Nat.le_refl _⟩
    | (with_reducible apply Eff.by (State.modCat_eff ..))
    | (with_reducible apply Eff.by (State.modDps_eff ..))
    | (with_reducible apply Eff.by (State.modFlt_eff ..))
    | (with_reducible apply Eff.by (State.unpowered_eff ..))
    | split

theorem State.warmReset_eff (s : State) (rec_ bistBad : Bool) :
    Eff 1073741823 s (State.warmReset s rec_ bistBad) := by
  unfold State.warmReset
  try dsimp only
  repeat' first
    | (with_reducible apply Eff.refl)
    | (with_reducible assumption)
    | decide
    | (with_reducible apply Eff.ite)
    | (with_reducible apply Eff.by (State.modBoot_eff ..))
    | exact ⟨rfl, rfl, rfl, rfl, rfl, rfl, rfl, rfl, rfl, Nat.le_refl _⟩
    | (with_reducible apply Eff.by (State.startUp_eff ..))
    | (with_reducible apply Eff.by (State.warmBase_eff ..))
    | split

theorem State.requestReset_eff (s : State) :
    Eff 1073741823 s (State.requestReset s) := by
  unfold State.requestReset
  try dsimp only
  repeat' first
    | (with_reducible apply Eff.refl)
    | (with_reducible assumption)
    | decide
    | (with_reducible apply Eff.ite)
    | (with_reducible apply Eff.by (State.tookFree_eff ..))
    | (with_reducible apply Eff.by (State.warmReset_eff ..))
    | split

theorem State.resetFall_eff (s : State) (x : Straps) :
    Eff 1073741823 s (State.resetFall s x) := by
  unfold State.resetFall
  try dsimp only
  repeat' first
    | (with_reducible apply Eff.refl)
    | (with_reducible assumption)
    | decide
    | (with_reducible apply Eff.ite)
    | (with_reducible apply Eff.by (State.modBoot_eff ..))
    | exact ⟨rfl, rfl, rfl, rfl, rfl, rfl, rfl, rfl, rfl, Nat.le_refl _⟩
    | (with_reducible apply Eff.by (State.warmReset_eff ..))
    | split

theorem State.resetRise_eff (s : State) :
    Eff 20377583 s (State.resetRise s) := by
  unfold State.resetRise
  try dsimp only
  repeat' first
    | (with_reducible apply Eff.refl)
    | (with_reducible assumption)
    | decide
    | (with_reducible apply Eff.ite)
    | (with_reducible apply Eff.by (State.modBoot_eff ..))
    | exact ⟨rfl, rfl, rfl, rfl, rfl, rfl, rfl, rfl, rfl, Nat.le_refl _⟩
    | (with_reducible apply Eff.by (State.startUp_eff ..))
    | (with_reducible apply Eff.by (State.tookFree_eff ..))
    | split

theorem State.custodianLost_eff (t : State) : Eff 4988928 t t.custodianLost := by
  constructor <;> intros <;>
    first
    | (rename_i h; exact absurd h (by decide))
    | rfl
    | exact ⟨rfl, rfl⟩
    | exact List.prefix_refl _
    | exact Nat.le_refl _
    | exact FusesKept.of_eq rfl
    | assumption

theorem State.custodianReset_eff (s : State) (noxo : Bool) :
    Eff 1073741823 s (State.custodianReset s noxo) := by
  unfold State.custodianReset
  try dsimp only
  repeat' first
    | (with_reducible apply Eff.refl)
    | (with_reducible assumption)
    | decide
    | (with_reducible apply Eff.ite)
    | (with_reducible apply Eff.by (State.custodianLost_eff ..))
    | (with_reducible apply Eff.by (State.modBoot_eff ..))
    | exact ⟨rfl, rfl, rfl, rfl, rfl, rfl, rfl, rfl, rfl, Nat.le_refl _⟩
    | (with_reducible apply Eff.by (State.modClk_eff ..))
    | exact ⟨rfl, rfl⟩
    | (with_reducible apply Eff.by (State.setMain_eff ..))
    | (with_reducible apply Eff.by (State.unpowered_eff ..))
    | split

theorem State.imageWrite_eff (s : State) (o : Nat) (d : Bytes) :
    Eff 538968064 s (State.imageWrite s o d).1 := by
  unfold State.imageWrite
  try dsimp only
  repeat' first
    | (with_reducible apply Eff.refl)
    | (with_reducible assumption)
    | decide
    | (with_reducible apply Eff.ite)
    | (with_reducible apply Eff.ite1)
    | (with_reducible apply Eff.by (State.modBoot_imgs ..))
    | exact id
    | exact ⟨rfl, rfl, rfl, rfl, rfl, rfl, rfl, Nat.le_refl _⟩
    | exact putImage_wf _ _ (by split <;> first | rfl | assumption)
    | exact fun h => putImage_wf _ _ (by split <;> first | rfl | exact h)
    | (with_reducible apply Eff.by (State.modBoot_eff ..))
    | exact ⟨rfl, rfl, rfl, rfl, rfl, rfl, rfl, rfl, rfl, Nat.le_refl _⟩
    | split

theorem State.imageVerify_eff (s : State) :
    Eff 2097152 s (State.imageVerify s).1 := by
  unfold State.imageVerify
  try dsimp only
  repeat' first
    | (with_reducible apply Eff.refl)
    | (with_reducible assumption)
    | decide
    | (with_reducible apply Eff.ite)
    | (with_reducible apply Eff.ite1)
    | (with_reducible apply Eff.by (State.modBoot_eff ..))
    | exact ⟨rfl, rfl, rfl, rfl, rfl, rfl, rfl, rfl, rfl, Nat.le_refl _⟩
    | split

theorem State.rollback_eff (s : State) : Eff 2097152 s s.rollback.1 := by
  unfold State.rollback
  split
  · refine State.modBoot_eff s (fun b => { b with floor := b.imageRollback }) ⟨rfl, rfl, rfl, rfl, rfl, rfl, rfl, rfl, rfl, ?_⟩
    rename_i h
    exact h.1
  · exact Eff.refl _ _

theorem State.attest_eff (s : State) (t : Nat) (nonce : Bytes) :
    Eff 512 s (State.attest s t nonce).1 := by
  unfold State.attest
  try dsimp only
  repeat' first
    | (with_reducible apply Eff.refl)
    | (with_reducible assumption)
    | decide
    | (with_reducible apply Eff.ite)
    | (with_reducible apply Eff.ite1)
    | (with_reducible apply Eff.by (State.modTenants_eff ..))
    | split

theorem State.keyWrite_eff (s : State) (slot : Nat) (key : Bytes) :
    Eff 2097152 s (State.keyWrite s slot key).1 := by
  unfold State.keyWrite
  try dsimp only
  repeat' first
    | (with_reducible apply Eff.refl)
    | (with_reducible assumption)
    | decide
    | (with_reducible apply Eff.ite)
    | (with_reducible apply Eff.ite1)
    | (with_reducible apply Eff.by (State.modBoot_eff ..))
    | exact ⟨rfl, rfl, rfl, rfl, rfl, rfl, rfl, rfl, rfl, Nat.le_refl _⟩
    | split

theorem State.debugRefused_eff (s : State) :
    Eff 4194304 s (State.debugRefused s) := by
  unfold State.debugRefused
  try dsimp only
  repeat' first
    | (with_reducible apply Eff.refl)
    | (with_reducible assumption)
    | decide
    | (with_reducible apply Eff.ite)
    | (with_reducible apply Eff.by (State.modDbg_eff ..))
    | split

theorem State.setDebugReq_eff (s : State) (v : Word) :
    Eff 8192 s (State.setDebugReq s v) := by
  unfold State.setDebugReq
  try dsimp only
  repeat' first
    | (with_reducible apply Eff.refl)
    | (with_reducible assumption)
    | decide
    | (with_reducible apply Eff.ite)
    | (with_reducible apply Eff.by (State.modRegs_eff ..))
    | split

theorem State.beginErase_eff (s : State) (v : Word) :
    Eff 31630277 s (State.beginErase s v) := by
  unfold State.beginErase
  try dsimp only
  repeat' first
    | (with_reducible apply Eff.refl)
    | (with_reducible assumption)
    | decide
    | (with_reducible apply Eff.ite)
    | (with_reducible apply Eff.foldl)
    | (with_reducible apply Eff.by (State.endSession_eff ..))
    | (with_reducible apply Eff.by (State.giveUp_eff ..))
    | (with_reducible apply Eff.by (State.modBoot_eff ..))
    | exact ⟨rfl, rfl, rfl, rfl, rfl, rfl, rfl, rfl, rfl, Nat.le_refl _⟩
    | (with_reducible apply Eff.by (State.modDbg_eff ..))
    | (with_reducible apply Eff.by (State.recall_eff ..))
    | (with_reducible apply Eff.by (State.setDebugReq_eff ..))
    | split
    | (intro _)
    | (dsimp only)

theorem State.debugReq_eff (s : State) (v : Word) :
    Eff 31630277 s (State.debugReq s v) := by
  unfold State.debugReq
  try dsimp only
  repeat' first
    | (with_reducible apply Eff.refl)
    | (with_reducible assumption)
    | decide
    | (with_reducible apply Eff.ite)
    | (with_reducible apply Eff.by (State.beginErase_eff ..))
    | (with_reducible apply Eff.by (State.debugRefused_eff ..))
    | (with_reducible apply Eff.by (State.modDbg_eff ..))
    | (with_reducible apply Eff.by (State.setDebugReq_eff ..))
    | split

theorem State.wipeLedgers_eff (s : State) : Eff 512 s s.wipeLedgers := by
  constructor <;> intros <;>
    first
    | (rename_i h; exact absurd h (by decide))
    | rfl
    | exact ⟨rfl, rfl⟩
    | exact List.prefix_refl _
    | exact Nat.le_refl _
    | exact FusesKept.of_eq rfl
    | assumption
    | (rename_i w; obtain ⟨h0, h1, h2, h3, h4, h5, h6, h7, h8, h9⟩ := w; exact ⟨h0, h1, h2, h3, h4, h5, h6, h7, h8, SMap.wf_mapv _ _ h9⟩)

theorem State.eraseDone_eff (s : State) :
    Eff 14811904 s (State.eraseDone s) := by
  unfold State.eraseDone
  try dsimp only
  repeat' first
    | (with_reducible apply Eff.refl)
    | (with_reducible assumption)
    | decide
    | (with_reducible apply Eff.ite)
    | (with_reducible apply Eff.by (State.modBoot_eff ..))
    | exact ⟨rfl, rfl, rfl, rfl, rfl, rfl, rfl, rfl, rfl, Nat.le_refl _⟩
    | (with_reducible apply Eff.by (State.modColl_eff ..))
    | (with_reducible apply Eff.by (State.modDbg_eff ..))
    | (with_reducible apply Eff.by (State.modMem_eff ..))
    | (with_reducible apply Eff.by (State.modSessWhere_eff ..))
    | (with_reducible apply Eff.by (State.renewHouse_eff ..))
    | (with_reducible apply Eff.by (State.wipeLedgers_eff ..))
    | split

theorem State.tap_eff (s : State) (i : JtagIns) :
    Eff 4202496 s (State.tap s i) := by
  unfold State.tap
  try dsimp only
  repeat' first
    | (with_reducible apply Eff.refl)
    | (with_reducible assumption)
    | decide
    | (with_reducible apply Eff.ite)
    | (with_reducible apply Eff.by (State.emit_eff ..))
    | (with_reducible apply Eff.by (State.modDbg_eff ..))
    | (with_reducible apply Eff.by (State.voteUse_eff ..))
    | split

end Sys2Proof.Machine
end

