-- ==== Sys2Proof/Laws/EffCatalogue.lean ====
section
/-!
SUPPORT. What the operations of Machine/Catalogue.lean may do to the state: one lemma for each (Laws/Effects.lean).
-/
set_option linter.unreachableTactic false
set_option linter.unusedTactic false

namespace Sys2Proof.Machine

/-- An operation that may answer none: where it answers, its effect. -/
def OptEff {β : Type} (m : Nat) (s : State) (o : Option (State × β)) : Prop := ∀ r, o = some r → Eff m s r.1

theorem OptEff.none {β : Type} (m : Nat) (s : State) : OptEff (β := β) m s none := fun _ h => by cases h

theorem OptEff.some {β : Type} {m : Nat} {s : State} {p : State × β} (h : Eff m s p.1) : OptEff m s (some p) :=
  fun r e => by cases e; exact h

theorem OptEff.ite {β : Type} {m : Nat} {s : State} {c : Prop} [Decidable c] {a b : Option (State × β)} (h : OptEff m s a)
    (k : OptEff m s b) : OptEff m s (if c then a else b) := by
  split <;> assumption

theorem State.hold_eff (s : State) (t idx sub : Nat) (d : Bytes) :
    Eff 1024 s (State.hold s t idx sub d) := by
  unfold State.hold
  try dsimp only
  repeat' first
    | (with_reducible apply Eff.refl)
    | (with_reducible assumption)
    | decide
    | (with_reducible apply Eff.ite)
    | (with_reducible apply Eff.by (State.setPend_eff ..))
    | split

theorem State.writeB_eff (s : State) (t idx sub : Nat) (d : Bytes) :
    Eff 2098176 s (State.writeB s t idx sub d).1 := by
  unfold State.writeB
  try dsimp only
  repeat' first
    | (with_reducible apply Eff.refl)
    | (with_reducible assumption)
    | decide
    | (with_reducible apply Eff.ite)
    | (with_reducible apply Eff.ite1)
    | (with_reducible apply Eff.by (State.flash_eff ..))
    | (with_reducible apply Eff.by (State.hold_eff ..))
    | split

theorem State.afterI_eff (s : State) (idx sub : Nat) :
    Eff 26455031 s (State.afterI s idx sub) := by
  unfold State.afterI
  try dsimp only
  repeat' first
    | (with_reducible apply Eff.refl)
    | (with_reducible assumption)
    | decide
    | (with_reducible apply Eff.ite)
    | (with_reducible apply Eff.foldl)
    | (with_reducible apply Eff.by (State.applyLinkEnables_eff ..))
    | (with_reducible apply Eff.by (State.modCan_eff ..))
    | (with_reducible apply Eff.by (State.modRegs_eff ..))
    | (with_reducible apply Eff.by (State.movePtp_eff ..))
    | (with_reducible apply Eff.by (State.serve_eff ..))
    | (with_reducible apply Eff.by (State.setFast_eff ..))
    | split
    | (intro _)
    | (dsimp only)

theorem State.actWrite_eff {s : State} {path : Path} {idx sub v : Nat} {d : Bytes} {r : State × Nat} (h : State.actWrite s path idx sub v d = some r) : Eff 162676735 s r.1 := by
  unfold State.actWrite at h
  try dsimp only at h
  repeat' split at h
  all_goals
    first
    | (cases h; done)
    | (injection h with h
       subst h
       try dsimp only
       repeat' first
         | (with_reducible apply Eff.refl)
         | decide
         | (with_reducible apply Eff.ite1)
         | (with_reducible apply Eff.by (State.ack_eff ..))
         | (with_reducible apply Eff.by (State.attest_eff ..))
         | (with_reducible apply Eff.by (State.imageVerify_eff ..))
         | (with_reducible apply Eff.by (State.loanAction_eff ..))
         | (with_reducible apply Eff.by (State.lockReq_eff ..))
         | (with_reducible apply Eff.by (State.propose_eff ..))
         | (with_reducible apply Eff.by (State.releaseAsked_eff ..))
         | (with_reducible apply Eff.by (State.resetDevice_eff ..))
         | (with_reducible apply Eff.by (State.rollback_eff ..))
         | (with_reducible apply Eff.by (State.setAllot_eff ..))
         | (with_reducible apply Eff.by (State.setEff_eff ..))
         | (with_reducible apply Eff.by (State.stopRelease_eff ..))
         | (with_reducible apply Eff.by (State.vaultOff_eff ..))
         | split)

theorem State.store_eff (s : State) (path : Path) (idx sub : Nat) (d : Bytes) :
    Eff 163037183 s (State.store s path idx sub d).1 := by
  unfold State.store
  try dsimp only
  repeat' first
    | (with_reducible apply Eff.refl)
    | (with_reducible assumption)
    | decide
    | (with_reducible apply Eff.ite)
    | (with_reducible apply Eff.ite1)
    | (with_reducible refine Eff.mono (State.actWrite_eff (by assumption)) ?_)
    | (with_reducible apply Eff.by (State.afterI_eff ..))
    | (with_reducible apply Eff.by (State.applyPort_eff ..))
    | (with_reducible apply Eff.by (State.hold_eff ..))
    | (with_reducible apply Eff.by (State.keyWrite_eff ..))
    | (with_reducible apply Eff.by (State.renegotiate_eff ..))
    | (with_reducible apply Eff.by (State.requestState_eff ..))
    | (with_reducible apply Eff.by (State.setEff_eff ..))
    | (with_reducible apply Eff.by (State.takeC_eff ..))
    | (with_reducible apply Eff.by (State.takeV_eff ..))
    | (with_reducible apply Eff.by (State.writeB_eff ..))
    | split

theorem State.writeWhole_eff (s : State) (path : Path) (o : Obj) (idx sub : Nat) (d : Bytes) :
    Eff 163037183 s (State.writeWhole s path o idx sub d).1 := by
  unfold State.writeWhole
  try dsimp only
  repeat' first
    | (with_reducible apply Eff.refl)
    | (with_reducible assumption)
    | decide
    | (with_reducible apply Eff.ite)
    | (with_reducible apply Eff.ite1)
    | (with_reducible apply Eff.by (State.store_eff ..))
    | split

theorem State.dropHeld_eff (s : State) (path : Path) (idx sub : Nat) :
    Eff 1024 s (State.dropHeld s path idx sub) := by
  unfold State.dropHeld
  try dsimp only
  repeat' first
    | (with_reducible apply Eff.refl)
    | (with_reducible assumption)
    | decide
    | (with_reducible apply Eff.ite)
    | (with_reducible apply Eff.by (State.modCat_eff ..))
    | split

theorem State.writePart_eff (s : State) (path : Path) (o : Obj) (idx sub n off : Nat) (d : Bytes) :
    Eff 163037183 s (State.writePart s path o idx sub n off d).1 := by
  unfold State.writePart
  try dsimp only
  repeat' first
    | (with_reducible apply Eff.refl)
    | (with_reducible assumption)
    | decide
    | (with_reducible apply Eff.ite)
    | (with_reducible apply Eff.ite1)
    | (with_reducible apply Eff.by (State.dropHeld_eff ..))
    | (with_reducible apply Eff.by (State.modCat_eff ..))
    | (with_reducible apply Eff.by (State.writeWhole_eff ..))
    | split

theorem State.writeAt_eff (s : State) (path : Path) (idx sub off : Nat) (d : Bytes) :
    Eff 699908095 s (State.writeAt s path idx sub off d).1 := by
  unfold State.writeAt
  try dsimp only
  repeat' first
    | (with_reducible apply Eff.refl)
    | (with_reducible assumption)
    | decide
    | (with_reducible apply Eff.ite)
    | (with_reducible apply Eff.ite1)
    | (with_reducible apply Eff.by (State.imageWrite_eff ..))
    | (with_reducible apply Eff.by (State.writePart_eff ..))
    | (with_reducible apply Eff.by (State.writeWhole_eff ..))
    | split

theorem State.housePathOff_eff (s : State) (path : Path) :
    Eff 16942021 s (State.housePathOff s path) := by
  unfold State.housePathOff
  try dsimp only
  repeat' first
    | (with_reducible apply Eff.refl)
    | (with_reducible assumption)
    | decide
    | (with_reducible apply Eff.ite)
    | (with_reducible apply Eff.foldl)
    | (with_reducible apply Eff.by (State.endSession_eff ..))
    | (with_reducible apply Eff.by (State.modSess_eff ..))
    | split
    | (intro _)
    | (dsimp only)

theorem State.doRecord_eff {s : State} {path : Path} {q : Bytes} {r : State × Bytes} (h : State.doRecord s path q = some r) :
    Eff 699908095 s r.1 := by
  have key : OptEff 699908095 s (s.doRecord path q) := by
    unfold State.doRecord
    dsimp only
    split
    · exact OptEff.none _ _
    · refine OptEff.ite (OptEff.some (Eff.refl _ _)) (OptEff.ite (OptEff.some (Eff.refl _ _)) (OptEff.ite (OptEff.ite ?_ ?_) (OptEff.ite ?_ ?_)))
      · exact OptEff.some (Eff.by (State.writeAt_eff ..) (by decide) (Eff.refl _ _))
      · exact OptEff.some (Eff.by (State.writeAt_eff ..) (by decide) (Eff.refl _ _))
      · exact OptEff.some (Eff.refl _ _)
      · exact OptEff.some (Eff.refl _ _)
  exact key r h

theorem State.catItem_eff (s : State) (k : Nat) (i : Item) (write : Bool) :
    Eff 699908095 s (State.catItem s k i write) := by
  unfold State.catItem
  try dsimp only
  repeat' first
    | (with_reducible apply Eff.refl)
    | (with_reducible assumption)
    | decide
    | (with_reducible apply Eff.ite)
    | (with_reducible apply Eff.ite1)
    | (with_reducible apply Eff.by (State.finish_eff ..))
    | (with_reducible apply Eff.by (State.finishB_eff ..))
    | (with_reducible apply Eff.by (State.housePathOff_eff ..))
    | (with_reducible apply Eff.by (State.modColl_eff ..))
    | (with_reducible apply Eff.by (State.writeAt_eff ..))
    | split

theorem State.recCatRead_eff (s : State) (r : Rec) :
    Eff 699908095 s (State.recCatRead s r) := by
  unfold State.recCatRead
  try dsimp only
  repeat' first
    | (with_reducible apply Eff.refl)
    | (with_reducible assumption)
    | decide
    | (with_reducible apply Eff.ite)
    | (with_reducible apply Eff.by (State.catItem_eff ..))
    | (with_reducible apply Eff.by (State.takeRec_eff (m := 699908095) ..))
    | split
    | (intro _)
    | (dsimp only)

theorem State.recCatWrite_eff (s : State) (r : Rec) :
    Eff 699908095 s (State.recCatWrite s r) := by
  unfold State.recCatWrite
  try dsimp only
  repeat' first
    | (with_reducible apply Eff.refl)
    | (with_reducible assumption)
    | decide
    | (with_reducible apply Eff.ite)
    | (with_reducible apply Eff.by (State.catItem_eff ..))
    | (with_reducible apply Eff.by (State.takeRec_eff (m := 699908095) ..))
    | split
    | (intro _)
    | (dsimp only)

end Sys2Proof.Machine
end

