-- ==== Sys2Proof/Laws/EffPaths.lean ====
section
/-!
SUPPORT. What the operations of Machine/Paths.lean may do to the state: one lemma for each (Laws/Effects.lean).
-/
set_option linter.unreachableTactic false
set_option linter.unusedTactic false

namespace Sys2Proof.Machine

theorem State.unserved_eff (s : State) :
    Eff 262144 s (State.unserved s) := by
  unfold State.unserved
  try dsimp only
  repeat' first
    | (with_reducible apply Eff.refl)
    | (with_reducible assumption)
    | decide
    | (with_reducible apply Eff.ite)
    | (with_reducible apply Eff.by (State.wake_eff ..))
    | split

theorem State.sdoClose_eff (s : State) :
    Eff 2048 s (State.sdoClose s) := by
  unfold State.sdoClose
  try dsimp only
  repeat' first
    | (with_reducible apply Eff.refl)
    | (with_reducible assumption)
    | decide
    | (with_reducible apply Eff.ite)
    | (with_reducible apply Eff.by (State.modCan_eff ..))
    | split

theorem State.sdoKeep_eff (s : State) (x : SdoXfer) :
    Eff 2048 s (State.sdoKeep s x) := by
  unfold State.sdoKeep
  try dsimp only
  repeat' first
    | (with_reducible apply Eff.refl)
    | (with_reducible assumption)
    | decide
    | (with_reducible apply Eff.ite)
    | (with_reducible apply Eff.by (State.modCan_eff ..))
    | split

theorem State.sdoAbort_eff (s : State) (ab : Nat) :
    Eff 2048 s (State.sdoAbort s ab) := by
  unfold State.sdoAbort
  try dsimp only
  repeat' first
    | (with_reducible apply Eff.refl)
    | (with_reducible assumption)
    | decide
    | (with_reducible apply Eff.ite)
    | (with_reducible apply Eff.by (State.sdoClose_eff ..))
    | (with_reducible apply Eff.by (State.sdoDone_eff ..))
    | split

theorem State.sdoBad_eff (s : State) :
    Eff 2048 s (State.sdoBad s) := by
  unfold State.sdoBad
  try dsimp only
  repeat' first
    | (with_reducible apply Eff.refl)
    | (with_reducible assumption)
    | decide
    | (with_reducible apply Eff.ite)
    | (with_reducible apply Eff.by (State.sdoClose_eff ..))
    | (with_reducible apply Eff.by (State.sdoDone_eff ..))
    | split

theorem State.sdoServed_eff {m : Nat} (hm : Covers 262144 m) (s : State) (f : State → State)
    (hf : ∀ x0, Eff m x0 (f x0)) :
    Eff m s (State.sdoServed s f) := by
  unfold State.sdoServed
  try dsimp only
  repeat' first
    | (with_reducible apply Eff.refl)
    | (with_reducible assumption)
    | exact hm
    | exact Covers.trans (by decide) hm
    | exact Covers.refl _
    | decide
    | (with_reducible apply Eff.ite)
    | (with_reducible apply Eff.by (hf ..))
    | (with_reducible apply Eff.by (State.unserved_eff ..))
    | split
    | (intro _)
    | (dsimp only)

theorem State.sdoWrite_eff (s : State) (idx sub : Nat) (d : Bytes) :
    Eff 699908095 s (State.sdoWrite s idx sub d).1 := by
  unfold State.sdoWrite
  try dsimp only
  repeat' first
    | (with_reducible apply Eff.refl)
    | (with_reducible assumption)
    | decide
    | (with_reducible apply Eff.ite)
    | (with_reducible apply Eff.ite1)
    | (with_reducible apply Eff.by (State.writeAt_eff ..))
    | split

theorem State.sdoStore_eff (s : State) (idx sub : Nat) (d ok : Bytes) :
    Eff 699908095 s (State.sdoStore s idx sub d ok) := by
  unfold State.sdoStore
  try dsimp only
  repeat' first
    | (with_reducible apply Eff.refl)
    | (with_reducible assumption)
    | decide
    | (with_reducible apply Eff.ite)
    | (with_reducible apply Eff.ite1)
    | (with_reducible apply Eff.by (State.housePathOff_eff ..))
    | (with_reducible apply Eff.by (State.sdoDone_eff ..))
    | (with_reducible apply Eff.by (State.sdoSend_eff ..))
    | (with_reducible apply Eff.by (State.sdoWrite_eff ..))
    | split

theorem State.sdoInitiate_eff {m : Nat} (hm : Covers 2048 m) (s : State) (idx sub : Nat) (write : Bool) (f : State → State)
    (hf : ∀ x0, Eff m x0 (f x0)) :
    Eff m s (State.sdoInitiate s idx sub write f) := by
  unfold State.sdoInitiate
  try dsimp only
  repeat' first
    | (with_reducible apply Eff.refl)
    | (with_reducible assumption)
    | exact hm
    | exact Covers.trans (by decide) hm
    | exact Covers.refl _
    | decide
    | (with_reducible apply Eff.ite)
    | (with_reducible apply Eff.by (hf ..))
    | (with_reducible apply Eff.by (State.sdoAbort_eff ..))
    | (with_reducible apply Eff.by (State.sdoDone_eff ..))
    | split
    | (intro _)
    | (dsimp only)

theorem State.sdoGoes_eff {m : Nat} (hm : Covers 2048 m) (s : State) (f : State → State)
    (hf : ∀ x0, Eff m x0 (f x0)) :
    Eff m s (State.sdoGoes s f) := by
  unfold State.sdoGoes
  try dsimp only
  repeat' first
    | (with_reducible apply Eff.refl)
    | (with_reducible assumption)
    | exact hm
    | exact Covers.trans (by decide) hm
    | exact Covers.refl _
    | decide
    | (with_reducible apply Eff.ite)
    | (with_reducible apply Eff.by (hf ..))
    | (with_reducible apply Eff.by (State.sdoAbort_eff ..))
    | (with_reducible apply Eff.by (State.sdoDone_eff ..))
    | split
    | (intro _)
    | (dsimp only)

theorem State.sdoDownload_eff (s : State) (r : SdoInit) :
    Eff 699908095 s (State.sdoDownload s r) := by
  unfold State.sdoDownload
  try dsimp only
  repeat' first
    | (with_reducible apply Eff.refl)
    | (with_reducible assumption)
    | decide
    | (with_reducible apply Eff.ite)
    | (with_reducible apply Eff.by (State.sdoDone_eff ..))
    | (with_reducible apply Eff.by (State.sdoInitiate_eff (m := 699908095) ..))
    | (with_reducible apply Eff.by (State.sdoKeep_eff ..))
    | (with_reducible apply Eff.by (State.sdoSend_eff ..))
    | (with_reducible apply Eff.by (State.sdoStore_eff ..))
    | split
    | (intro _)
    | (dsimp only)

theorem State.sdoUpload_eff (s : State) (idx sub : Nat) (block : Option Nat) :
    Eff 2048 s (State.sdoUpload s idx sub block) := by
  unfold State.sdoUpload
  try dsimp only
  repeat' first
    | (with_reducible apply Eff.refl)
    | (with_reducible assumption)
    | decide
    | (with_reducible apply Eff.ite)
    | (with_reducible apply Eff.by (State.sdoDone_eff ..))
    | (with_reducible apply Eff.by (State.sdoInitiate_eff (m := 2048) ..))
    | (with_reducible apply Eff.by (State.sdoKeep_eff ..))
    | (with_reducible apply Eff.by (State.sdoSend_eff ..))
    | split
    | (intro _)
    | (dsimp only)

theorem State.sdoSegment_eff (s : State) (seg : SdoSeg) :
    Eff 699908095 s (State.sdoSegment s seg) := by
  unfold State.sdoSegment
  try dsimp only
  repeat' first
    | (with_reducible apply Eff.refl)
    | (with_reducible assumption)
    | decide
    | (with_reducible apply Eff.ite)
    | (with_reducible apply Eff.by (State.sdoAbort_eff ..))
    | (with_reducible apply Eff.by (State.sdoBad_eff ..))
    | (with_reducible apply Eff.by (State.sdoClose_eff ..))
    | (with_reducible apply Eff.by (State.sdoKeep_eff ..))
    | (with_reducible apply Eff.by (State.sdoSend_eff ..))
    | (with_reducible apply Eff.by (State.sdoStore_eff ..))
    | split

theorem State.sdoSendBlock_eff (s : State) (d : Bytes) (n : Nat) :
    Eff 0 s (State.sdoSendBlock s d n) := by
  unfold State.sdoSendBlock
  try dsimp only
  repeat' first
    | (with_reducible apply Eff.refl)
    | (with_reducible assumption)
    | decide
    | (with_reducible apply Eff.ite)
    | (with_reducible apply Eff.foldl)
    | (with_reducible apply Eff.by (State.sdoSend_eff ..))
    | split
    | (intro _)
    | (dsimp only)

theorem State.sdoBlock_eff (s : State) (seg : SdoBlock) :
    Eff 699908095 s (State.sdoBlock s seg) := by
  unfold State.sdoBlock
  try dsimp only
  repeat' first
    | (with_reducible apply Eff.refl)
    | (with_reducible assumption)
    | decide
    | (with_reducible apply Eff.ite)
    | (with_reducible apply Eff.by (State.sdoAbort_eff ..))
    | (with_reducible apply Eff.by (State.sdoBad_eff ..))
    | (with_reducible apply Eff.by (State.sdoClose_eff ..))
    | (with_reducible apply Eff.by (State.sdoKeep_eff ..))
    | (with_reducible apply Eff.by (State.sdoSend_eff ..))
    | (with_reducible apply Eff.by (State.sdoSendBlock_eff ..))
    | (with_reducible apply Eff.by (State.sdoStore_eff ..))
    | split

theorem State.sdoLate_eff (s : State) :
    Eff 2048 s (State.sdoLate s) := by
  unfold State.sdoLate
  try dsimp only
  repeat' first
    | (with_reducible apply Eff.refl)
    | (with_reducible assumption)
    | decide
    | (with_reducible apply Eff.ite)
    | (with_reducible apply Eff.by (State.sdoAbort_eff ..))
    | (with_reducible apply Eff.by (State.sdoClose_eff ..))
    | split

theorem State.nmt_eff (s : State) (cmd node : Nat) :
    Eff 264192 s (State.nmt s cmd node) := by
  unfold State.nmt
  try dsimp only
  repeat' first
    | (with_reducible apply Eff.refl)
    | (with_reducible assumption)
    | decide
    | (with_reducible apply Eff.ite)
    | (with_reducible apply Eff.by (State.modCan_eff ..))
    | (with_reducible apply Eff.by (State.unserved_eff ..))
    | split

theorem State.heartbeat_eff (s : State) :
    Eff 0 s (State.heartbeat s) := by
  unfold State.heartbeat
  try dsimp only
  repeat' first
    | (with_reducible apply Eff.refl)
    | (with_reducible assumption)
    | decide
    | (with_reducible apply Eff.ite)
    | (with_reducible apply Eff.by (State.emit_eff ..))
    | split

theorem State.tpdoOut_eff (s : State) (n : Nat) :
    Eff 2048 s (State.tpdoOut s n) := by
  unfold State.tpdoOut
  try dsimp only
  repeat' first
    | (with_reducible apply Eff.refl)
    | (with_reducible assumption)
    | decide
    | (with_reducible apply Eff.ite)
    | (with_reducible apply Eff.by (State.emit_eff ..))
    | (with_reducible apply Eff.by (State.setTpdo_eff ..))
    | split

theorem State.tpdoDue_eff (s : State) (n : Nat) :
    Eff 2048 s (State.tpdoDue s n) := by
  unfold State.tpdoDue
  try dsimp only
  repeat' first
    | (with_reducible apply Eff.refl)
    | (with_reducible assumption)
    | decide
    | (with_reducible apply Eff.ite)
    | (with_reducible apply Eff.by (State.setTpdo_eff ..))
    | (with_reducible apply Eff.by (State.tpdoOut_eff ..))
    | split

theorem State.tpdoTimer_eff (s : State) (n : Nat) :
    Eff 2048 s (State.tpdoTimer s n) := by
  unfold State.tpdoTimer
  try dsimp only
  repeat' first
    | (with_reducible apply Eff.refl)
    | (with_reducible assumption)
    | decide
    | (with_reducible apply Eff.ite)
    | (with_reducible apply Eff.by (State.tpdoDue_eff ..))
    | split

theorem State.tpdoCompare_eff (s : State) (n : Nat) :
    Eff 2048 s (State.tpdoCompare s n) := by
  unfold State.tpdoCompare
  try dsimp only
  repeat' first
    | (with_reducible apply Eff.refl)
    | (with_reducible assumption)
    | decide
    | (with_reducible apply Eff.ite)
    | (with_reducible apply Eff.by (State.setTpdo_eff ..))
    | (with_reducible apply Eff.by (State.tpdoDue_eff ..))
    | split

theorem State.tpdoFree_eff (s : State) (n : Nat) :
    Eff 2048 s (State.tpdoFree s n) := by
  unfold State.tpdoFree
  try dsimp only
  repeat' first
    | (with_reducible apply Eff.refl)
    | (with_reducible assumption)
    | decide
    | (with_reducible apply Eff.ite)
    | (with_reducible apply Eff.by (State.setTpdo_eff ..))
    | (with_reducible apply Eff.by (State.tpdoOut_eff ..))
    | split

theorem State.heldLate_eff (s : State) (path : Path) :
    Eff 1024 s (State.heldLate s path) := by
  unfold State.heldLate
  try dsimp only
  repeat' first
    | (with_reducible apply Eff.refl)
    | (with_reducible assumption)
    | decide
    | (with_reducible apply Eff.ite)
    | (with_reducible apply Eff.by (State.dropHeld_eff ..))
    | (with_reducible apply Eff.by (State.emit_eff ..))
    | split

theorem State.recordOf_eff {m : Nat} (hm : Covers 699908095 m) (s : State) (path : Path) (r : Bytes) (put : State → Bool → Bytes → State)
    (hput : ∀ x0 x1 x2, Eff m x0 (put x0 x1 x2)) :
    Eff m s (State.recordOf s path r put) := by
  unfold State.recordOf
  try dsimp only
  repeat' first
    | (with_reducible apply Eff.refl)
    | (with_reducible assumption)
    | exact hm
    | exact Covers.trans (by decide) hm
    | exact Covers.refl _
    | decide
    | (with_reducible apply Eff.ite)
    | (with_reducible apply Eff.by (hput ..))
    | exact (State.doRecord_eff ‹_›).mono (Covers.trans (by decide) hm)
    | (with_reducible apply Eff.by (State.housePathOff_eff ..))
    | (with_reducible apply Eff.by (State.unserved_eff ..))
    | split
    | (intro _)
    | (dsimp only)

theorem State.spiRequest_eff (s : State) (r : Bytes) :
    Eff 699908095 s (State.spiRequest s r) := by
  unfold State.spiRequest
  try dsimp only
  repeat' first
    | (with_reducible apply Eff.refl)
    | (with_reducible assumption)
    | decide
    | (with_reducible apply Eff.ite)
    | (with_reducible apply Eff.by (State.modBoard_eff ..))
    | (with_reducible apply Eff.by (State.recordOf_eff (m := 699908095) ..))
    | (with_reducible apply Eff.by (State.unserved_eff ..))
    | split
    | (intro _)
    | (dsimp only)

theorem State.spiResponse_eff (s : State) (n : Nat) :
    Eff 266240 s (State.spiResponse s n) := by
  unfold State.spiResponse
  try dsimp only
  repeat' first
    | (with_reducible apply Eff.refl)
    | (with_reducible assumption)
    | decide
    | (with_reducible apply Eff.ite)
    | (with_reducible apply Eff.by (State.emit_eff ..))
    | (with_reducible apply Eff.by (State.modBoard_eff ..))
    | (with_reducible apply Eff.by (State.unserved_eff ..))
    | split

theorem State.spiStatus_eff (s : State) (n : Nat) :
    Eff 262144 s (State.spiStatus s n) := by
  unfold State.spiStatus
  try dsimp only
  repeat' first
    | (with_reducible apply Eff.refl)
    | (with_reducible assumption)
    | decide
    | (with_reducible apply Eff.ite)
    | (with_reducible apply Eff.by (State.emit_eff ..))
    | (with_reducible apply Eff.by (State.unserved_eff ..))
    | split

theorem State.spiUnknown_eff (s : State) :
    Eff 266240 s (State.spiUnknown s) := by
  unfold State.spiUnknown
  try dsimp only
  repeat' first
    | (with_reducible apply Eff.refl)
    | (with_reducible assumption)
    | decide
    | (with_reducible apply Eff.ite)
    | (with_reducible apply Eff.by (State.modBoard_eff ..))
    | (with_reducible apply Eff.by (State.unserved_eff ..))
    | split

theorem State.svcAsk_eff (s : State) (r : Bytes) :
    Eff 699908095 s (State.svcAsk s r) := by
  unfold State.svcAsk
  try dsimp only
  repeat' first
    | (with_reducible apply Eff.refl)
    | (with_reducible assumption)
    | decide
    | (with_reducible apply Eff.ite)
    | (with_reducible apply Eff.by (State.modBoard_eff ..))
    | (with_reducible apply Eff.by (State.recordOf_eff (m := 699908095) ..))
    | (with_reducible apply Eff.by (State.unserved_eff ..))
    | split
    | (intro _)
    | (dsimp only)

theorem State.svcRead_eff (s : State) :
    Eff 4096 s (State.svcRead s) := by
  unfold State.svcRead
  try dsimp only
  repeat' first
    | (with_reducible apply Eff.refl)
    | (with_reducible assumption)
    | decide
    | (with_reducible apply Eff.ite)
    | (with_reducible apply Eff.by (State.emit_eff ..))
    | (with_reducible apply Eff.by (State.modBoard_eff ..))
    | split

end Sys2Proof.Machine
end

