-- ==== Sys2Proof/Laws/EffRegisters.lean ====
section
/-!
SUPPORT. What the operations of Machine/Registers.lean may do to the state: one lemma for each (Laws/Effects.lean).
-/
set_option linter.unreachableTactic false
set_option linter.unusedTactic false

namespace Sys2Proof.Machine

theorem State.injectArea_eff (s : State) (o : Nat) :
    Eff 328371157 s (State.injectArea s o) := by
  unfold State.injectArea
  try dsimp only
  repeat' first
    | (with_reducible apply Eff.refl)
    | (with_reducible assumption)
    | decide
    | (with_reducible apply Eff.ite)
    | (with_reducible apply Eff.by (State.injectMem_eff ..))
    | split

theorem State.windowAccess_eff (s : State) (addr : Nat) (write : Option Word) :
    Eff 328371157 s (State.windowAccess s addr write) := by
  unfold State.windowAccess
  try dsimp only
  repeat' first
    | (with_reducible apply Eff.refl)
    | (with_reducible assumption)
    | decide
    | (with_reducible apply Eff.ite)
    | (with_reducible apply Eff.by (State.areaWrite_eff ..))
    | (with_reducible apply Eff.by (State.emit_eff ..))
    | (with_reducible apply Eff.by (State.injectArea_eff ..))
    | split

theorem State.clearUnit_eff (s : State) (a : Nat) :
    Eff 309 s (State.clearUnit s a) := by
  unfold State.clearUnit
  try dsimp only
  repeat' first
    | (with_reducible apply Eff.refl)
    | (with_reducible assumption)
    | decide
    | (with_reducible apply Eff.ite)
    | (with_reducible apply Eff.by (State.modFifo_eff ..))
    | (with_reducible apply Eff.by (State.modGals_eff ..))
    | (with_reducible apply Eff.by (State.modProt_eff ..))
    | (with_reducible apply Eff.by (State.modSess_eff ..))
    | (with_reducible apply Eff.by (State.modUsb_eff ..))
    | split

theorem State.clearWord_eff (s : State) (a : Nat) :
    Eff 9478453 s (State.clearWord s a) := by
  unfold State.clearWord
  try dsimp only
  repeat' first
    | (with_reducible apply Eff.refl)
    | (with_reducible assumption)
    | decide
    | (with_reducible apply Eff.ite)
    | (with_reducible apply Eff.by (State.clearUnit_eff ..))
    | (with_reducible apply Eff.by (State.modFlt_eff ..))
    | (with_reducible apply Eff.by (State.modMem_eff ..))
    | (with_reducible apply Eff.by (State.modRegs_eff ..))
    | (with_reducible apply Eff.by (State.modUpl_eff ..))
    | split

theorem State.clearBit_eff (s : State) (a b : Nat) :
    Eff 8396800 s (State.clearBit s a b) := by
  unfold State.clearBit
  try dsimp only
  repeat' first
    | (with_reducible apply Eff.refl)
    | (with_reducible assumption)
    | decide
    | (with_reducible apply Eff.ite)
    | (with_reducible apply Eff.by (State.modMem_eff ..))
    | (with_reducible apply Eff.by (State.modRegs_eff ..))
    | split

theorem State.parityCritical_eff (s : State) (a : Nat) :
    Eff 20981743 s (State.parityCritical s a) := by
  unfold State.parityCritical
  try dsimp only
  repeat' first
    | (with_reducible apply Eff.refl)
    | (with_reducible assumption)
    | decide
    | (with_reducible apply Eff.ite)
    | (with_reducible apply Eff.by (State.containPort_eff ..))
    | (with_reducible apply Eff.by (State.modDbg_eff ..))
    | (with_reducible apply Eff.by (State.modUsb_eff ..))
    | split

theorem State.parityCheck_eff (s : State) (a : Nat) :
    Eff 22032367 s (State.parityCheck s a) := by
  unfold State.parityCheck
  try dsimp only
  repeat' first
    | (with_reducible apply Eff.refl)
    | (with_reducible assumption)
    | decide
    | (with_reducible apply Eff.ite)
    | (with_reducible apply Eff.by (State.parityCritical_eff ..))
    | (with_reducible apply Eff.by (State.parityUse_eff ..))
    | split

theorem State.injectVote_eff (s : State) (k : Nat) :
    Eff 1056768 s (State.injectVote s k) := by
  unfold State.injectVote
  try dsimp only
  repeat' first
    | (with_reducible apply Eff.refl)
    | (with_reducible assumption)
    | decide
    | (with_reducible apply Eff.ite)
    | (with_reducible apply Eff.by (State.modFlt_eff ..))
    | (with_reducible apply Eff.by (State.modRegs_eff ..))
    | split

theorem State.rvRead_eff (s : State) (k : Nat) :
    Eff 1056768 s (State.rvRead s k).1 := by
  unfold State.rvRead
  try dsimp only
  repeat' first
    | (with_reducible apply Eff.refl)
    | (with_reducible assumption)
    | decide
    | (with_reducible apply Eff.ite)
    | (with_reducible apply Eff.ite1)
    | (with_reducible apply Eff.by (State.injectVote_eff ..))
    | (with_reducible apply Eff.by (State.modRegs_eff ..))
    | (with_reducible apply Eff.by (State.vote_eff ..))
    | split

theorem State.rvWrite_eff (s : State) (k : Nat) (v : Word) :
    Eff 8192 s (State.rvWrite s k v) := by
  unfold State.rvWrite
  try dsimp only
  repeat' first
    | (with_reducible apply Eff.refl)
    | (with_reducible assumption)
    | decide
    | (with_reducible apply Eff.ite)
    | (with_reducible apply Eff.by (State.modRegs_eff ..))
    | (with_reducible apply Eff.by (State.modVote_eff ..))
    | split

theorem State.regRead_eff (s : State) (a : Nat) :
    Eff 332574719 s (State.regRead s a).1 := by
  unfold State.regRead
  try dsimp only
  repeat' first
    | (with_reducible apply Eff.refl)
    | (with_reducible assumption)
    | decide
    | (with_reducible apply Eff.ite)
    | (with_reducible apply Eff.ite1)
    | (with_reducible apply Eff.by (State.clearBit_eff ..))
    | (with_reducible apply Eff.by (State.clearWord_eff ..))
    | (with_reducible apply Eff.by (State.injectArea_eff ..))
    | (with_reducible apply Eff.by (State.parityCheck_eff ..))
    | (with_reducible apply Eff.by (State.rvRead_eff ..))
    | (with_reducible apply Eff.by (State.voteUse_eff ..))
    | split

theorem State.rwp_eff (s : State) (a : Nat) (v : Word) :
    Eff 1059072 s (State.rwp s a v) := by
  unfold State.rwp
  try dsimp only
  repeat' first
    | (with_reducible apply Eff.refl)
    | (with_reducible assumption)
    | decide
    | (with_reducible apply Eff.ite)
    | (with_reducible apply Eff.by (State.modRegs_eff ..))
    | (with_reducible apply Eff.by (State.note_eff ..))
    | split

theorem State.absorbed_eff (s : State) :
    Eff 9216 s (State.absorbed s) := by
  unfold State.absorbed
  try dsimp only
  repeat' first
    | (with_reducible apply Eff.refl)
    | (with_reducible assumption)
    | decide
    | (with_reducible apply Eff.ite)
    | (with_reducible apply Eff.by (State.modRegs_eff ..))
    | (with_reducible apply Eff.by (State.refreshMirrors_eff ..))
    | (with_reducible apply Eff.by (State.setEff_eff ..))
    | split

theorem State.guardDrop_eff (s : State) (x cause : Nat) :
    Eff 1059072 s (State.guardDrop s x cause) := by
  unfold State.guardDrop
  try dsimp only
  repeat' first
    | (with_reducible apply Eff.refl)
    | (with_reducible assumption)
    | decide
    | (with_reducible apply Eff.ite)
    | (with_reducible apply Eff.by (State.modRegs_eff ..))
    | (with_reducible apply Eff.by (State.note_eff ..))
    | split

theorem State.injectArm_eff (s : State) :
    Eff 1048576 s (State.injectArm s) := by
  unfold State.injectArm
  try dsimp only
  repeat' first
    | (with_reducible apply Eff.refl)
    | (with_reducible assumption)
    | decide
    | (with_reducible apply Eff.ite)
    | (with_reducible apply Eff.by (State.modFlt_eff ..))
    | split

theorem State.guardTake_eff {s : State} {x : Nat} {v : Word} {r : State} (h : State.guardTake s x v = some r) : Eff 1073741823 s r := by
  unfold State.guardTake at h
  try dsimp only at h
  repeat' split at h
  all_goals
    first
    | (cases h; done)
    | (injection h with h
       subst h
       try dsimp only
       repeat' first
         | (with_reducible apply Eff.refl)
         | decide
         | (with_reducible apply Eff.ite1)
         | (with_reducible apply Eff.by (State.debugReq_eff ..))
         | (with_reducible apply Eff.by (State.injectArm_eff ..))
         | (with_reducible apply Eff.by (State.requestReset_eff ..))
         | split)

theorem State.guardDone_eff (s : State) (x : Nat) (v : Word) :
    Eff 1073741823 s (State.guardDone s x v) := by
  unfold State.guardDone
  try dsimp only
  repeat' first
    | (with_reducible apply Eff.refl)
    | (with_reducible assumption)
    | decide
    | (with_reducible apply Eff.ite)
    | (with_reducible refine Eff.trans ?_ (Eff.mono (State.guardTake_eff (by assumption)) ?_))
    | (with_reducible apply Eff.by (State.guardDrop_eff ..))
    | (with_reducible apply Eff.by (State.modRegs_eff ..))
    | split

theorem State.guarded_eff (s : State) (a : Nat) (v : Word) :
    Eff 1073741823 s (State.guarded s a v) := by
  unfold State.guarded
  try dsimp only
  repeat' first
    | (with_reducible apply Eff.refl)
    | (with_reducible assumption)
    | decide
    | (with_reducible apply Eff.ite)
    | (with_reducible apply Eff.by (State.guardDone_eff ..))
    | (with_reducible apply Eff.by (State.guardDrop_eff ..))
    | (with_reducible apply Eff.by (State.modRegs_eff ..))
    | split

theorem State.guardLate_eff (s : State) :
    Eff 1059072 s (State.guardLate s) := by
  unfold State.guardLate
  try dsimp only
  repeat' first
    | (with_reducible apply Eff.refl)
    | (with_reducible assumption)
    | decide
    | (with_reducible apply Eff.ite)
    | (with_reducible apply Eff.by (State.guardDrop_eff ..))
    | split

theorem State.write64_eff {m : Nat} (hm : Covers 8192 m) (s : State) (low : Nat) (high : Bool) (v : Word) (put : State → BitVec 64 → State)
    (hput : ∀ x0 x1, Eff m x0 (put x0 x1)) :
    Eff m s (State.write64 s low high v put) := by
  unfold State.write64
  try dsimp only
  repeat' first
    | (with_reducible apply Eff.refl)
    | (with_reducible assumption)
    | exact hm
    | exact Covers.trans (by decide) hm
    | exact Covers.refl _
    | decide
    | (with_reducible apply Eff.ite)
    | (with_reducible apply Eff.by (hput ..))
    | (with_reducible apply Eff.by (State.modRegs_eff ..))
    | split
    | (intro _)
    | (dsimp only)

theorem State.portPut_eff (s : State) (p off v : Nat) :
    Eff 7 s (State.portPut s p off v) := by
  unfold State.portPut
  try dsimp only
  repeat' first
    | (with_reducible apply Eff.refl)
    | (with_reducible assumption)
    | decide
    | (with_reducible apply Eff.ite)
    | (with_reducible apply Eff.by (State.modProt_eff ..))
    | (with_reducible apply Eff.by (State.modPwr_eff ..))
    | (with_reducible apply Eff.by (State.modUsb_eff ..))
    | split

theorem State.chanCtrl_eff (s : State) (c ev : Nat) :
    Eff 319826405 s (State.chanCtrl s c ev) := by
  unfold State.chanCtrl
  try dsimp only
  repeat' first
    | (with_reducible apply Eff.refl)
    | (with_reducible assumption)
    | decide
    | (with_reducible apply Eff.ite)
    | (with_reducible apply Eff.by (State.chanGo_eff ..))
    | (with_reducible apply Eff.by (State.chanResume_eff ..))
    | (with_reducible apply Eff.by (State.chanSkip_eff ..))
    | (with_reducible apply Eff.by (State.chanStop_eff ..))
    | split

theorem State.chanPut_eff (s : State) (c off v : Nat) :
    Eff 319826405 s (State.chanPut s c off v) := by
  unfold State.chanPut
  try dsimp only
  repeat' first
    | (with_reducible apply Eff.refl)
    | (with_reducible assumption)
    | decide
    | (with_reducible apply Eff.ite)
    | (with_reducible apply Eff.by (State.chanCtrl_eff ..))
    | (with_reducible apply Eff.by (State.modChan_eff ..))
    | split

theorem State.unitPut_eff (s : State) (n off : Nat) (v : Word) :
    Eff 33562624 s (State.unitPut s n off v) := by
  unfold State.unitPut
  try dsimp only
  repeat' first
    | (with_reducible apply Eff.refl)
    | (with_reducible assumption)
    | decide
    | (with_reducible apply Eff.ite)
    | (with_reducible apply Eff.by (State.setUnit_eff ..))
    | (with_reducible apply Eff.by (State.write64_eff (m := 33562624) ..))
    | split
    | (intro _)
    | (dsimp only)

theorem State.scanPut_eff (s : State) (off : Nat) (v : Word) :
    Eff 51390720 s (State.scanPut s off v) := by
  unfold State.scanPut
  try dsimp only
  repeat' first
    | (with_reducible apply Eff.refl)
    | (with_reducible assumption)
    | decide
    | (with_reducible apply Eff.ite)
    | (with_reducible apply Eff.by (State.modMov_eff ..))
    | (with_reducible rfl)
    | (with_reducible apply Eff.by (State.scanGo_eff ..))
    | (with_reducible apply Eff.by (State.write64_eff (m := 51390720) ..))
    | split
    | (intro _)
    | (dsimp only)

theorem State.hubPut_eff (s : State) (a : Nat) (v : Word) :
    Eff 334953429 s (State.hubPut s a v) := by
  unfold State.hubPut
  try dsimp only
  repeat' first
    | (with_reducible apply Eff.refl)
    | (with_reducible assumption)
    | decide
    | (with_reducible apply Eff.ite)
    | (with_reducible apply Eff.by (State.clkClear_eff ..))
    | (with_reducible apply Eff.by (State.modBoard_eff ..))
    | (with_reducible apply Eff.by (State.modBoot_eff ..))
    | exact ⟨rfl, rfl, rfl, rfl, rfl, rfl, rfl, rfl, rfl, Nat.le_refl _⟩
    | (with_reducible apply Eff.by (State.modColl_eff ..))
    | (with_reducible apply Eff.by (State.modDbg_eff ..))
    | (with_reducible apply Eff.by (State.modDps_eff ..))
    | (with_reducible apply Eff.by (State.modMem_eff ..))
    | (with_reducible apply Eff.by (State.modRegs_eff ..))
    | (with_reducible apply Eff.by (State.viewPipe_eff ..))
    | split

theorem State.fltPut_eff (s : State) (a w : Nat) :
    Eff 1050624 s (State.fltPut s a w) := by
  unfold State.fltPut
  try dsimp only
  repeat' first
    | (with_reducible apply Eff.refl)
    | (with_reducible assumption)
    | decide
    | (with_reducible apply Eff.ite)
    | (with_reducible apply Eff.by (State.ack_eff ..))
    | (with_reducible apply Eff.by (State.modFlt_eff ..))
    | split

theorem State.morePut_eff (s : State) (a w : Nat) :
    Eff 50429952 s (State.morePut s a w) := by
  unfold State.morePut
  try dsimp only
  repeat' first
    | (with_reducible apply Eff.refl)
    | (with_reducible assumption)
    | decide
    | (with_reducible apply Eff.ite)
    | (with_reducible apply Eff.by (State.modMov_eff ..))
    | (with_reducible rfl)
    | (with_reducible apply Eff.by (State.modPtp_eff ..))
    | (with_reducible apply Eff.by (State.modUpl_eff ..))
    | (with_reducible apply Eff.by (State.modVault_eff ..))
    | (with_reducible rfl)
    | split

theorem State.plainPut_eff (s : State) (a : Nat) (v : Word) :
    Eff 335018999 s (State.plainPut s a v) := by
  unfold State.plainPut
  try dsimp only
  repeat' first
    | (with_reducible apply Eff.refl)
    | (with_reducible assumption)
    | decide
    | (with_reducible apply Eff.ite)
    | (with_reducible apply Eff.by (State.chanPut_eff ..))
    | (with_reducible apply Eff.by (State.fltPut_eff ..))
    | (with_reducible apply Eff.by (State.hubPut_eff ..))
    | (with_reducible apply Eff.by (State.modGals_eff ..))
    | (with_reducible apply Eff.by (State.morePut_eff ..))
    | (with_reducible apply Eff.by (State.portPut_eff ..))
    | (with_reducible apply Eff.by (State.scanPut_eff ..))
    | (with_reducible apply Eff.by (State.unitPut_eff ..))
    | split

theorem State.aliasPut_eff (s : State) (a b : Nat) (v : Word) :
    Eff 334953429 s (State.aliasPut s a b v) := by
  unfold State.aliasPut
  try dsimp only
  repeat' first
    | (with_reducible apply Eff.refl)
    | (with_reducible assumption)
    | decide
    | (with_reducible apply Eff.ite)
    | (with_reducible apply Eff.by (State.hubPut_eff ..))
    | (with_reducible apply Eff.by (State.modRegs_eff ..))
    | (with_reducible apply Eff.by (State.parityFresh_eff ..))
    | split

theorem State.regWrite_eff (s : State) (a : Nat) (v : Word) :
    Eff 1073741823 s (State.regWrite s a v) := by
  unfold State.regWrite
  try dsimp only
  repeat' first
    | (with_reducible apply Eff.refl)
    | (with_reducible assumption)
    | decide
    | (with_reducible apply Eff.ite)
    | (with_reducible apply Eff.by (State.aliasPut_eff ..))
    | (with_reducible apply Eff.by (State.guarded_eff ..))
    | (with_reducible apply Eff.by (State.parityFresh_eff ..))
    | (with_reducible apply Eff.by (State.plainPut_eff ..))
    | (with_reducible apply Eff.by (State.rvWrite_eff ..))
    | (with_reducible apply Eff.by (State.rwp_eff ..))
    | (with_reducible apply Eff.by (State.windowAccess_eff ..))
    | split

theorem State.boardRead_eff (s : State) (a : Nat) :
    Eff 332836863 s (State.boardRead s a).1 := by
  unfold State.boardRead
  try dsimp only
  repeat' first
    | (with_reducible apply Eff.refl)
    | (with_reducible assumption)
    | decide
    | (with_reducible apply Eff.ite)
    | (with_reducible apply Eff.ite1)
    | (with_reducible apply Eff.by (State.regRead_eff ..))
    | (with_reducible apply Eff.by (State.unserved_eff ..))
    | split

theorem State.boardWrite_eff (s : State) (a : Nat) (v : Word) :
    Eff 1073741823 s (State.boardWrite s a v) := by
  unfold State.boardWrite
  try dsimp only
  repeat' first
    | (with_reducible apply Eff.refl)
    | (with_reducible assumption)
    | decide
    | (with_reducible apply Eff.ite)
    | (with_reducible apply Eff.by (State.regWrite_eff ..))
    | (with_reducible apply Eff.by (State.unserved_eff ..))
    | split

theorem State.boardDoes_eff {m : Nat} (hm : Covers 262144 m) (s : State) (f : State → State)
    (hf : ∀ x0, Eff m x0 (f x0)) :
    Eff m s (State.boardDoes s f) := by
  unfold State.boardDoes
  try dsimp only
  repeat' first
    | (with_reducible apply Eff.refl)
    | (with_reducible assumption)
    | exact hm
    | exact Covers.trans (by decide) hm
    | exact Covers.refl _
    | decide
    | (with_reducible apply Eff.ite)
    | (with_reducible apply Eff.by (hf ..))
    | (with_reducible apply Eff.by (State.unserved_eff ..))
    | split
    | (intro _)
    | (dsimp only)

theorem State.spiRead_eff (s : State) (a words ahead : Nat) :
    Eff 332836863 s (State.spiRead s a words ahead) := by
  unfold State.spiRead
  try dsimp only
  repeat' first
    | (with_reducible apply Eff.refl)
    | (with_reducible assumption)
    | decide
    | (with_reducible apply Eff.ite)
    | (with_reducible apply Eff.ite1)
    | (with_reducible apply Eff.foldl)
    | (with_reducible apply Eff.foldl1)
    | (with_reducible apply Eff.by (State.boardRead_eff ..))
    | (with_reducible apply Eff.by (State.emit_eff ..))
    | split
    | (intro _)
    | (dsimp only)

theorem State.spiWrite_eff (s : State) (a : Nat) (ws : List Word) :
    Eff 1073741823 s (State.spiWrite s a ws) := by
  unfold State.spiWrite
  try dsimp only
  repeat' first
    | (with_reducible apply Eff.refl)
    | (with_reducible assumption)
    | decide
    | (with_reducible apply Eff.ite)
    | (with_reducible apply Eff.foldl)
    | (with_reducible apply Eff.by (State.boardWrite_eff ..))
    | split
    | (intro _)
    | (dsimp only)

theorem State.wordRead_eff (s : State) (a : Nat) :
    Eff 332836863 s (State.wordRead s a) := by
  unfold State.wordRead
  try dsimp only
  repeat' first
    | (with_reducible apply Eff.refl)
    | (with_reducible assumption)
    | decide
    | (with_reducible apply Eff.ite)
    | (with_reducible apply Eff.ite1)
    | (with_reducible apply Eff.by (State.boardRead_eff ..))
    | (with_reducible apply Eff.by (State.emit_eff ..))
    | split

theorem State.criticalUse_eff (s : State) :
    Eff 22032367 s (State.criticalUse s) := by
  unfold State.criticalUse
  try dsimp only
  repeat' first
    | (with_reducible apply Eff.refl)
    | (with_reducible assumption)
    | decide
    | (with_reducible apply Eff.ite)
    | (with_reducible apply Eff.by (State.parityCheck_eff ..))
    | split

end Sys2Proof.Machine
end

