-- ==== Sys2Proof/Laws/EffBoards.lean ====
section
/-!
SUPPORT. What the operations of Machine/Boards.lean may do to the state: one lemma for each (Laws/Effects.lean).
-/
set_option linter.unreachableTactic false
set_option linter.unusedTactic false

namespace Sys2Proof.Machine

theorem State.write_eff (s : State) (path : Path) (idx sub : Nat) (d : Bytes) :
    Eff 699908095 s (State.write s path idx sub d) := by
  unfold State.write
  try dsimp only
  repeat' first
    | (with_reducible apply Eff.refl)
    | (with_reducible assumption)
    | decide
    | (with_reducible apply Eff.ite)
    | (with_reducible apply Eff.ite1)
    | (with_reducible apply Eff.by (State.viaWrite_eff (m := 699908095) ..))
    | (with_reducible apply Eff.by (State.writeAt_eff ..))
    | split
    | (intro _)
    | (dsimp only)

theorem State.dormantAccess_eff (s : State) :
    Eff 262144 s (State.dormantAccess s) := by
  unfold State.dormantAccess
  try dsimp only
  repeat' first
    | (with_reducible apply Eff.refl)
    | (with_reducible assumption)
    | decide
    | (with_reducible apply Eff.ite)
    | (with_reducible apply Eff.by (State.wake_eff ..))
    | split

theorem State.standby_eff (s : State) (present : Bool) :
    Eff 262144 s (State.standby s present) := by
  unfold State.standby
  try dsimp only
  repeat' first
    | (with_reducible apply Eff.refl)
    | (with_reducible assumption)
    | decide
    | (with_reducible apply Eff.ite)
    | (with_reducible apply Eff.by (State.modDps_eff ..))
    | split

theorem State.viewAccess_eff (s : State) (a : Nat) (write : Option Word) :
    Eff 1073741823 s (State.viewAccess s a write) := by
  unfold State.viewAccess
  try dsimp only
  repeat' first
    | (with_reducible apply Eff.refl)
    | (with_reducible assumption)
    | decide
    | (with_reducible apply Eff.ite)
    | (with_reducible apply Eff.by (State.boardWrite_eff ..))
    | (with_reducible apply Eff.by (State.wordRead_eff ..))
    | split

end Sys2Proof.Machine
end

