-- ==== Sys2Proof/Laws/EffPowerEvents.lean ====
section
/-!
SUPPORT. What the operations of Machine/PowerEvents.lean may do to the state: one lemma for each (Laws/Effects.lean).
-/
set_option linter.unreachableTactic false
set_option linter.unusedTactic false

namespace Sys2Proof.Machine

theorem State.tripWake_eff (s : State) (p : Nat) (t : State) :
    Eff 262144 t (State.tripWake s p t) := by
  unfold State.tripWake
  try dsimp only
  repeat' first
    | (with_reducible apply Eff.refl)
    | (with_reducible assumption)
    | decide
    | (with_reducible apply Eff.ite)
    | (with_reducible apply Eff.by (State.wake_eff ..))
    | split

theorem State.fastTrip_eff (s : State) (p : Nat) :
    Eff 16786413 s (State.fastTrip s p) := by
  unfold State.fastTrip
  try dsimp only
  repeat' first
    | (with_reducible apply Eff.refl)
    | (with_reducible assumption)
    | decide
    | (with_reducible apply Eff.ite)
    | (with_reducible apply Eff.by (State.trip_eff ..))
    | split

theorem State.rampLate_eff (s : State) (p : Nat) :
    Eff 16786413 s (State.rampLate s p) := by
  unfold State.rampLate
  try dsimp only
  repeat' first
    | (with_reducible apply Eff.refl)
    | (with_reducible assumption)
    | decide
    | (with_reducible apply Eff.ite)
    | (with_reducible apply Eff.by (State.trip_eff ..))
    | split

end Sys2Proof.Machine
end

