-- ==== Sys2Proof/Laws/EffEvents.lean ====
section
/-!
SUPPORT. What the operations of Machine/Events.lean may do to the state: one lemma for each (Laws/Effects.lean).
-/
set_option linter.unreachableTactic false
set_option linter.unusedTactic false

namespace Sys2Proof.Machine

theorem State.chanCommand_eff {m : Nat} (hm : Covers 262144 m) (s : State) (c : Nat) (f : State → Nat → State)
    (hf : ∀ x0 x1, Eff m x0 (f x0 x1)) :
    Eff m s (State.chanCommand s c f) := by
  unfold State.chanCommand
  try dsimp only
  repeat' first
    | (with_reducible apply Eff.refl)
    | (with_reducible assumption)
    | exact hm
    | exact Covers.trans (by decide) hm
    | exact Covers.refl _
    | decide
    | (with_reducible apply Eff.ite)
    | (with_reducible apply Eff.by (hf ..))
    | (with_reducible apply Eff.by (State.boardDoes_eff (m := m) ..))
    | (with_reducible apply Eff.by (State.opChan_eff (m := m) ..))
    | split
    | (intro _)
    | (dsimp only)

theorem State.vaultEnabled_eff (s : State) (drives : DriveReps) :
    Eff 154158592 s (State.vaultEnabled s drives) := by
  unfold State.vaultEnabled
  try dsimp only
  repeat' first
    | (with_reducible apply Eff.refl)
    | (with_reducible assumption)
    | decide
    | (with_reducible apply Eff.ite)
    | (with_reducible apply Eff.by (State.pllStart_eff ..))
    | (with_reducible apply Eff.by (State.vaultOn_eff ..))
    | split

theorem State.sideUse_eff (s : State) (d : Bytes) :
    Eff 328371157 s (State.sideUse s d) := by
  unfold State.sideUse
  try dsimp only
  repeat' first
    | (with_reducible apply Eff.refl)
    | (with_reducible assumption)
    | decide
    | (with_reducible apply Eff.ite)
    | (with_reducible apply Eff.by (State.injectMem_eff ..))
    | split

theorem State.descriptorEnd_eff (s : State) (c : Nat) (data : Bytes) :
    Eff 328379381 s (State.descriptorEnd s c data) := by
  unfold State.descriptorEnd
  try dsimp only
  repeat' first
    | (with_reducible apply Eff.refl)
    | (with_reducible assumption)
    | decide
    | (with_reducible apply Eff.ite)
    | (with_reducible apply Eff.by (State.descMoved_eff ..))
    | (with_reducible apply Eff.by (State.sideUse_eff ..))
    | split

theorem State.recVaultRead_eff (s : State) (r : Rec) :
    Eff 151258053 s (State.recVaultRead s r) := by
  unfold State.recVaultRead
  try dsimp only
  repeat' first
    | (with_reducible apply Eff.refl)
    | (with_reducible assumption)
    | decide
    | (with_reducible apply Eff.ite)
    | (with_reducible apply Eff.by (State.doVaultRead_eff ..))
    | (with_reducible apply Eff.by (State.expects_eff ..))
    | (with_reducible apply Eff.by (State.inRun_eff (m := 151258053) ..))
    | (with_reducible apply Eff.by (State.takeRec_eff (m := 151258053) ..))
    | split
    | (intro _)
    | (dsimp only)

theorem State.recVaultWrite_eff (s : State) (r : Rec) :
    Eff 151258053 s (State.recVaultWrite s r) := by
  unfold State.recVaultWrite
  try dsimp only
  repeat' first
    | (with_reducible apply Eff.refl)
    | (with_reducible assumption)
    | decide
    | (with_reducible apply Eff.ite)
    | (with_reducible apply Eff.by (State.doVaultWrite_eff ..))
    | (with_reducible apply Eff.by (State.expects_eff ..))
    | (with_reducible apply Eff.by (State.inRun_eff (m := 151258053) ..))
    | (with_reducible apply Eff.by (State.takeRec_eff (m := 151258053) ..))
    | split
    | (intro _)
    | (dsimp only)

theorem State.recVaultFlush_eff (s : State) (r : Rec) :
    Eff 151258053 s (State.recVaultFlush s r) := by
  unfold State.recVaultFlush
  try dsimp only
  repeat' first
    | (with_reducible apply Eff.refl)
    | (with_reducible assumption)
    | decide
    | (with_reducible apply Eff.ite)
    | (with_reducible apply Eff.by (State.doVaultFlush_eff ..))
    | (with_reducible apply Eff.by (State.inRun_eff (m := 151258053) ..))
    | (with_reducible apply Eff.by (State.takeRec_eff (m := 151258053) ..))
    | split
    | (intro _)
    | (dsimp only)

theorem State.recVaultDeallocate_eff (s : State) (r : Rec) :
    Eff 151258053 s (State.recVaultDeallocate s r) := by
  unfold State.recVaultDeallocate
  try dsimp only
  repeat' first
    | (with_reducible apply Eff.refl)
    | (with_reducible assumption)
    | decide
    | (with_reducible apply Eff.ite)
    | (with_reducible apply Eff.by (State.doVaultDealloc_eff ..))
    | (with_reducible apply Eff.by (State.inRun_eff (m := 151258053) ..))
    | (with_reducible apply Eff.by (State.takeRec_eff (m := 151258053) ..))
    | split
    | (intro _)
    | (dsimp only)

theorem State.recTemplateLoad_eff (s : State) (r : Rec) :
    Eff 16778181 s (State.recTemplateLoad s r) := by
  unfold State.recTemplateLoad
  try dsimp only
  repeat' first
    | (with_reducible apply Eff.refl)
    | (with_reducible assumption)
    | decide
    | (with_reducible apply Eff.ite)
    | (with_reducible apply Eff.by (State.doTemplate_eff ..))
    | (with_reducible apply Eff.by (State.takeRec_eff (m := 16778181) ..))
    | split
    | (intro _)
    | (dsimp only)

theorem State.recFanoutStart_eff (s : State) (r : Rec) :
    Eff 25428965 s (State.recFanoutStart s r) := by
  unfold State.recFanoutStart
  try dsimp only
  repeat' first
    | (with_reducible apply Eff.refl)
    | (with_reducible assumption)
    | decide
    | (with_reducible apply Eff.ite)
    | (with_reducible apply Eff.by (State.doFanout_eff ..))
    | (with_reducible apply Eff.by (State.expects_eff ..))
    | (with_reducible apply Eff.by (State.inRun_eff (m := 25428965) ..))
    | (with_reducible apply Eff.by (State.takeRec_eff (m := 25428965) ..))
    | split
    | (intro _)
    | (dsimp only)

theorem State.recFanoutStatus_eff (s : State) (r : Rec) :
    Eff 16778181 s (State.recFanoutStatus s r) := by
  unfold State.recFanoutStatus
  try dsimp only
  repeat' first
    | (with_reducible apply Eff.refl)
    | (with_reducible assumption)
    | decide
    | (with_reducible apply Eff.ite)
    | (with_reducible apply Eff.by (State.doFanStatus_eff ..))
    | (with_reducible apply Eff.by (State.takeRec_eff (m := 16778181) ..))
    | split
    | (intro _)
    | (dsimp only)

theorem State.recFanoutCancel_eff (s : State) (r : Rec) :
    Eff 26348517 s (State.recFanoutCancel s r) := by
  unfold State.recFanoutCancel
  try dsimp only
  repeat' first
    | (with_reducible apply Eff.refl)
    | (with_reducible assumption)
    | decide
    | (with_reducible apply Eff.ite)
    | (with_reducible apply Eff.by (State.doFanCancel_eff ..))
    | (with_reducible apply Eff.by (State.takeRec_eff (m := 26348517) ..))
    | split
    | (intro _)
    | (dsimp only)

theorem State.recCaptureStart_eff (s : State) (r : Rec) :
    Eff 25428983 s (State.recCaptureStart s r) := by
  unfold State.recCaptureStart
  try dsimp only
  repeat' first
    | (with_reducible apply Eff.refl)
    | (with_reducible assumption)
    | decide
    | (with_reducible apply Eff.ite)
    | (with_reducible apply Eff.by (State.doCapture_eff ..))
    | (with_reducible apply Eff.by (State.inRun_eff (m := 25428983) ..))
    | (with_reducible apply Eff.by (State.takeRec_eff (m := 25428983) ..))
    | split
    | (intro _)
    | (dsimp only)

theorem State.recCaptureStop_eff (s : State) (r : Rec) :
    Eff 25166839 s (State.recCaptureStop s r) := by
  unfold State.recCaptureStop
  try dsimp only
  repeat' first
    | (with_reducible apply Eff.refl)
    | (with_reducible assumption)
    | decide
    | (with_reducible apply Eff.ite)
    | (with_reducible apply Eff.by (State.doCaptStop_eff ..))
    | (with_reducible apply Eff.by (State.takeRec_eff (m := 25166839) ..))
    | split
    | (intro _)
    | (dsimp only)

end Sys2Proof.Machine
end

