-- ==== Sys2Proof/Laws/EffPortEvents.lean ====
section
/-!
SUPPORT. What the operations of Machine/PortEvents.lean may do to the state: one lemma for each (Laws/Effects.lean).
-/
set_option linter.unreachableTactic false
set_option linter.unusedTactic false

namespace Sys2Proof.Machine

theorem State.recVbusOn_eff (s : State) (r : Rec) :
    Eff 16787431 s (State.recVbusOn s r) := by
  unfold State.recVbusOn
  try dsimp only
  repeat' first
    | (with_reducible apply Eff.refl)
    | (with_reducible assumption)
    | decide
    | (with_reducible apply Eff.ite)
    | (with_reducible apply Eff.by (State.portAction_eff (m := 16787431) ..))
    | (with_reducible apply Eff.by (State.takeRec_eff (m := 16787431) ..))
    | (with_reducible apply Eff.by (State.unlessPaused_eff (m := 16787431) ..))
    | (with_reducible apply Eff.by (State.vbusOn_eff ..))
    | split
    | (intro _)
    | (dsimp only)

theorem State.recVbusOff_eff (s : State) (r : Rec) :
    Eff 16787439 s (State.recVbusOff s r) := by
  unfold State.recVbusOff
  try dsimp only
  repeat' first
    | (with_reducible apply Eff.refl)
    | (with_reducible assumption)
    | decide
    | (with_reducible apply Eff.ite)
    | (with_reducible apply Eff.by (State.portAction_eff (m := 16787439) ..))
    | (with_reducible apply Eff.by (State.takeRec_eff (m := 16787439) ..))
    | (with_reducible apply Eff.by (State.unlessPaused_eff (m := 16787439) ..))
    | (with_reducible apply Eff.by (State.vbusOff_eff ..))
    | split
    | (intro _)
    | (dsimp only)

theorem State.recPortReset_eff (s : State) (r : Rec) :
    Eff 17040365 s (State.recPortReset s r) := by
  unfold State.recPortReset
  try dsimp only
  repeat' first
    | (with_reducible apply Eff.refl)
    | (with_reducible assumption)
    | decide
    | (with_reducible apply Eff.ite)
    | (with_reducible apply Eff.by (State.askReset_eff ..))
    | (with_reducible apply Eff.by (State.inRun_eff (m := 17040365) ..))
    | (with_reducible apply Eff.by (State.portAction_eff (m := 17040365) ..))
    | (with_reducible apply Eff.by (State.takeRec_eff (m := 17040365) ..))
    | split
    | (intro _)
    | (dsimp only)

theorem State.recSuspendTree_eff (s : State) (r : Rec) :
    Eff 17040365 s (State.recSuspendTree s r) := by
  unfold State.recSuspendTree
  try dsimp only
  repeat' first
    | (with_reducible apply Eff.refl)
    | (with_reducible assumption)
    | decide
    | (with_reducible apply Eff.ite)
    | (with_reducible apply Eff.by (State.askSuspend_eff ..))
    | (with_reducible apply Eff.by (State.inRun_eff (m := 17040365) ..))
    | (with_reducible apply Eff.by (State.portAction_eff (m := 17040365) ..))
    | (with_reducible apply Eff.by (State.takeRec_eff (m := 17040365) ..))
    | split
    | (intro _)
    | (dsimp only)

theorem State.recResumeTree_eff (s : State) (r : Rec) :
    Eff 17040325 s (State.recResumeTree s r) := by
  unfold State.recResumeTree
  try dsimp only
  repeat' first
    | (with_reducible apply Eff.refl)
    | (with_reducible assumption)
    | decide
    | (with_reducible apply Eff.ite)
    | (with_reducible apply Eff.by (State.askResume_eff ..))
    | (with_reducible apply Eff.by (State.inRun_eff (m := 17040325) ..))
    | (with_reducible apply Eff.by (State.portAction_eff (m := 17040325) ..))
    | (with_reducible apply Eff.by (State.takeRec_eff (m := 17040325) ..))
    | split
    | (intro _)
    | (dsimp only)

theorem State.recDisable_eff (s : State) (r : Rec) :
    Eff 17040365 s (State.recDisable s r) := by
  unfold State.recDisable
  try dsimp only
  repeat' first
    | (with_reducible apply Eff.refl)
    | (with_reducible assumption)
    | decide
    | (with_reducible apply Eff.ite)
    | (with_reducible apply Eff.by (State.askDisable_eff ..))
    | (with_reducible apply Eff.by (State.inRun_eff (m := 17040365) ..))
    | (with_reducible apply Eff.by (State.portAction_eff (m := 17040365) ..))
    | (with_reducible apply Eff.by (State.takeRec_eff (m := 17040365) ..))
    | split
    | (intro _)
    | (dsimp only)

theorem State.recPortStatus_eff (s : State) (r : Rec) :
    Eff 16778181 s (State.recPortStatus s r) := by
  unfold State.recPortStatus
  try dsimp only
  repeat' first
    | (with_reducible apply Eff.refl)
    | (with_reducible assumption)
    | decide
    | (with_reducible apply Eff.ite)
    | (with_reducible apply Eff.by (State.portStatus_eff ..))
    | (with_reducible apply Eff.by (State.takeRec_eff (m := 16778181) ..))
    | split
    | (intro _)
    | (dsimp only)

end Sys2Proof.Machine
end

