-- ==== Sys2Proof/Laws/EffReceive.lean ====
section
/-!
SUPPORT. What the operations of Machine/Receive.lean may do to the state: one lemma for each (Laws/Effects.lean).
-/
set_option linter.unreachableTactic false
set_option linter.unusedTactic false

namespace Sys2Proof.Machine

theorem State.serveRec_eff (s : State) (op : Nat) (r : Rec) :
    Eff 699908095 s (State.serveRec s op r) := by
  unfold State.serveRec
  try dsimp only
  repeat' first
    | (with_reducible apply Eff.refl)
    | (with_reducible assumption)
    | decide
    | (with_reducible apply Eff.ite)
    | (with_reducible apply Eff.by (State.outMore_eff ..))
    | (with_reducible apply Eff.by (State.recCaptureStart_eff ..))
    | (with_reducible apply Eff.by (State.recCaptureStop_eff ..))
    | (with_reducible apply Eff.by (State.recCatRead_eff ..))
    | (with_reducible apply Eff.by (State.recCatWrite_eff ..))
    | (with_reducible apply Eff.by (State.recDisable_eff ..))
    | (with_reducible apply Eff.by (State.recFanoutCancel_eff ..))
    | (with_reducible apply Eff.by (State.recFanoutStart_eff ..))
    | (with_reducible apply Eff.by (State.recFanoutStatus_eff ..))
    | (with_reducible apply Eff.by (State.recPipeAbort_eff ..))
    | (with_reducible apply Eff.by (State.recPipeClose_eff ..))
    | (with_reducible apply Eff.by (State.recPipeOpen_eff ..))
    | (with_reducible apply Eff.by (State.recPipeResync_eff ..))
    | (with_reducible apply Eff.by (State.recPortReset_eff ..))
    | (with_reducible apply Eff.by (State.recPortStatus_eff ..))
    | (with_reducible apply Eff.by (State.recResumeTree_eff ..))
    | (with_reducible apply Eff.by (State.recSuspendTree_eff ..))
    | (with_reducible apply Eff.by (State.recTemplateLoad_eff ..))
    | (with_reducible apply Eff.by (State.recTransfer_eff ..))
    | (with_reducible apply Eff.by (State.recUnknownCommandRecord_eff ..))
    | (with_reducible apply Eff.by (State.recVaultDeallocate_eff ..))
    | (with_reducible apply Eff.by (State.recVaultFlush_eff ..))
    | (with_reducible apply Eff.by (State.recVaultRead_eff ..))
    | (with_reducible apply Eff.by (State.recVaultWrite_eff ..))
    | (with_reducible apply Eff.by (State.recVbusOff_eff ..))
    | (with_reducible apply Eff.by (State.recVbusOn_eff ..))
    | (with_reducible apply Eff.by (State.recVhostStart_eff ..))
    | (with_reducible apply Eff.by (State.recVhostStop_eff ..))
    | split

theorem State.serveAll_eff (s : State) (n : Nat) (b : Bytes) :
    Eff 1001914367 s (State.serveAll s n b) := by
  unfold State.serveAll
  try dsimp only
  repeat' first
    | (with_reducible apply Eff.refl)
    | (with_reducible assumption)
    | decide
    | (with_reducible apply Eff.ite)
    | (with_reducible apply Eff.foldl)
    | (with_reducible apply Eff.by (State.serveRec_eff ..))
    | (with_reducible apply Eff.by (State.settle_eff ..))
    | split
    | (intro _)
    | (dsimp only)

theorem State.inOrder_eff (s : State) (n typ : Nat) (b : Bytes) :
    Eff 1001914367 s (State.inOrder s n typ b) := by
  unfold State.inOrder
  try dsimp only
  repeat' first
    | (with_reducible apply Eff.refl)
    | (with_reducible assumption)
    | decide
    | (with_reducible apply Eff.ite)
    | (with_reducible apply Eff.by (State.modSess_eff ..))
    | (with_reducible apply Eff.by (State.serveAll_eff ..))
    | (with_reducible apply Eff.by (State.sessRecord_eff ..))
    | split

theorem State.drainRx_eff (n k : Nat) (s : State) : Eff 1001914367 s (State.drainRx n k s) := by
  induction k generalizing s with
  | zero => exact Eff.refl _ _
  | succ k ih =>
    rw [State.drainRx]
    try dsimp only
    split
    · exact Eff.trans (Eff.by (State.inOrder_eff ..) (by decide) (Eff.by (State.modSess_eff ..) (by decide) (Eff.refl _ _))) (ih _)
    · exact Eff.refl _ _

theorem State.ackNow_eff (s : State) (n : Nat) :
    Eff 16942021 s (State.ackNow s n) := by
  unfold State.ackNow
  try dsimp only
  repeat' first
    | (with_reducible apply Eff.refl)
    | (with_reducible assumption)
    | decide
    | (with_reducible apply Eff.ite)
    | (with_reducible apply Eff.by (State.restall_eff ..))
    | (with_reducible apply Eff.by (State.sendAck_eff ..))
    | split

theorem State.takeSeq_eff (s : State) (f : Frame) :
    Eff 1001914367 s (State.takeSeq s f) := by
  unfold State.takeSeq
  try dsimp only
  repeat' first
    | (with_reducible apply Eff.refl)
    | (with_reducible assumption)
    | decide
    | (with_reducible apply Eff.ite)
    | (with_reducible apply Eff.by (State.ackNow_eff ..))
    | (with_reducible apply Eff.by (State.discardFrame_eff ..))
    | (with_reducible apply Eff.by (State.drainRx_eff ..))
    | (with_reducible apply Eff.by (State.inOrder_eff ..))
    | (with_reducible apply Eff.by (State.modSess_eff ..))
    | split

theorem State.takeFrame_eff (s : State) (f : Frame) :
    Eff 1001914367 s (State.takeFrame s f) := by
  unfold State.takeFrame
  try dsimp only
  repeat' first
    | (with_reducible apply Eff.refl)
    | (with_reducible assumption)
    | decide
    | (with_reducible apply Eff.ite)
    | (with_reducible apply Eff.by (State.takeHeader_eff ..))
    | (with_reducible apply Eff.by (State.takeSeq_eff ..))
    | split

theorem State.dataFrame_eff (s : State) (f : Frame) :
    Eff 1001914367 s (State.dataFrame s f) := by
  unfold State.dataFrame
  try dsimp only
  repeat' first
    | (with_reducible apply Eff.refl)
    | (with_reducible assumption)
    | decide
    | (with_reducible apply Eff.ite)
    | (with_reducible apply Eff.by (State.discardFrame_eff ..))
    | (with_reducible apply Eff.by (State.takeFrame_eff ..))
    | split

theorem State.ackFrame_eff (s : State) (f : Frame) :
    Eff 25338861 s (State.ackFrame s f) := by
  unfold State.ackFrame
  try dsimp only
  repeat' first
    | (with_reducible apply Eff.refl)
    | (with_reducible assumption)
    | decide
    | (with_reducible apply Eff.ite)
    | (with_reducible apply Eff.by (State.discardFrame_eff ..))
    | (with_reducible apply Eff.by (State.takeHeader_eff ..))
    | split

theorem State.probeFrame_eff (s : State) (f : Frame) :
    Eff 25338861 s (State.probeFrame s f) := by
  unfold State.probeFrame
  try dsimp only
  repeat' first
    | (with_reducible apply Eff.refl)
    | (with_reducible assumption)
    | decide
    | (with_reducible apply Eff.ite)
    | (with_reducible apply Eff.by (State.ackNow_eff ..))
    | (with_reducible apply Eff.by (State.discardFrame_eff ..))
    | (with_reducible apply Eff.by (State.takeHeader_eff ..))
    | split

theorem State.sessionFrame_eff (s : State) (f : Frame) :
    Eff 1001914367 s (State.sessionFrame s f) := by
  unfold State.sessionFrame
  try dsimp only
  repeat' first
    | (with_reducible apply Eff.refl)
    | (with_reducible assumption)
    | decide
    | (with_reducible apply Eff.ite)
    | (with_reducible apply Eff.by (State.discardFrame_eff ..))
    | (with_reducible apply Eff.by (State.sessRecord_eff ..))
    | (with_reducible apply Eff.by (State.takeFrame_eff ..))
    | split

theorem State.sessReset_eff (s : State) (key : ResetKey) (f : Frame) :
    Eff 1001914367 s (State.sessReset s key f) := by
  unfold State.sessReset
  try dsimp only
  repeat' first
    | (with_reducible apply Eff.refl)
    | (with_reducible assumption)
    | decide
    | (with_reducible apply Eff.ite)
    | (with_reducible apply Eff.by (State.exchangeReset_eff ..))
    | (with_reducible apply Eff.by (State.sessionFrame_eff ..))
    | split

end Sys2Proof.Machine
end

