-- ==== Sys2Proof/Laws/EffTick.lean ====
section
/-!
SUPPORT. What the operations of Machine/Tick.lean may do to the state: one lemma for each (Laws/Effects.lean).
-/
set_option linter.unreachableTactic false
set_option linter.unusedTactic false

namespace Sys2Proof.Machine

theorem State.tickTime_eff (s : State) :
    Eff 67190784 s (State.tickTime s) := by
  unfold State.tickTime
  try dsimp only
  repeat' first
    | (with_reducible apply Eff.refl)
    | (with_reducible assumption)
    | decide
    | (with_reducible apply Eff.ite)
    | (with_reducible apply Eff.by (State.modClk_time ..))
    | exact ⟨rfl, rfl⟩
    | (with_reducible apply Eff.by (State.modPtp_eff ..))
    | split

theorem State.tickSlow_eff (s : State) :
    Eff 270336 s (State.tickSlow s) := by
  unfold State.tickSlow
  try dsimp only
  repeat' first
    | (with_reducible apply Eff.refl)
    | (with_reducible assumption)
    | decide
    | (with_reducible apply Eff.ite)
    | (with_reducible apply Eff.by (State.alarmEdge_eff ..))
    | (with_reducible apply Eff.by (State.modDps_eff ..))
    | (with_reducible apply Eff.by (State.refreshMirrors_eff ..))
    | split

theorem State.tickLinks_eff (s : State) :
    Eff 33024 s (State.tickLinks s) := by
  unfold State.tickLinks
  try dsimp only
  repeat' first
    | (with_reducible apply Eff.refl)
    | (with_reducible assumption)
    | decide
    | (with_reducible apply Eff.ite)
    | (with_reducible apply Eff.foldl)
    | (with_reducible apply Eff.by (State.drainLink_eff ..))
    | (with_reducible apply Eff.by (State.flushBacklog_eff ..))
    | (with_reducible apply Eff.by (State.modUpl_eff ..))
    | split
    | (intro _)
    | (dsimp only)

theorem State.tickVault_eff (s : State) :
    Eff 16777216 s (State.tickVault s) := by
  unfold State.tickVault
  try dsimp only
  repeat' first
    | (with_reducible apply Eff.refl)
    | (with_reducible assumption)
    | decide
    | (with_reducible apply Eff.ite)
    | (with_reducible apply Eff.by (State.modVault_eff ..))
    | (with_reducible rfl)
    | (with_reducible apply Eff.by (State.nvmePump_eff ..))
    | split

theorem State.tickMovers_eff (s : State) :
    Eff 301990144 s (State.tickMovers s) := by
  unfold State.tickMovers
  try dsimp only
  repeat' first
    | (with_reducible apply Eff.refl)
    | (with_reducible assumption)
    | decide
    | (with_reducible apply Eff.ite)
    | (with_reducible apply Eff.by (State.grants_eff ..))
    | split

theorem State.tickPorts_eff (s : State) :
    Eff 2 s (State.tickPorts s) := by
  unfold State.tickPorts
  try dsimp only
  repeat' first
    | (with_reducible apply Eff.refl)
    | (with_reducible assumption)
    | decide
    | (with_reducible apply Eff.ite)
    | (with_reducible apply Eff.foldl)
    | (with_reducible apply Eff.by (State.modPwr_eff ..))
    | split
    | (intro _)
    | (dsimp only)

theorem State.tickDies_eff (s : State) :
    Eff 1048576 s (State.tickDies s) := by
  unfold State.tickDies
  try dsimp only
  repeat' first
    | (with_reducible apply Eff.refl)
    | (with_reducible assumption)
    | decide
    | (with_reducible apply Eff.ite)
    | (with_reducible apply Eff.foldl)
    | (with_reducible apply Eff.by (State.injectLink_eff ..))
    | (with_reducible apply Eff.by (State.modDie_eff ..))
    | split
    | (intro _)
    | (dsimp only)

theorem State.tick_eff (s : State) :
    Eff 391507951 s (State.tick s) := by
  unfold State.tick
  try dsimp only
  repeat' first
    | (with_reducible apply Eff.refl)
    | (with_reducible assumption)
    | decide
    | (with_reducible apply Eff.ite)
    | (with_reducible apply Eff.by (State.criticalUse_eff ..))
    | (with_reducible apply Eff.by (State.tickDies_eff ..))
    | (with_reducible apply Eff.by (State.tickLinks_eff ..))
    | (with_reducible apply Eff.by (State.tickMovers_eff ..))
    | (with_reducible apply Eff.by (State.tickPorts_eff ..))
    | (with_reducible apply Eff.by (State.tickSlow_eff ..))
    | (with_reducible apply Eff.by (State.tickTime_eff ..))
    | (with_reducible apply Eff.by (State.tickVault_eff ..))
    | split

end Sys2Proof.Machine
end

