-- ==== Sys2Proof/WellFormed.lean ====
section
/-!
DEFINITION. Well-formed commands: every numbered unit a command names is one the specification says exists, and every
field fits its width.
-/
namespace Sys2Proof
open Machine

/-- The unit numbers of a PLL exist (01, Clocks and their sources). -/
def PllId.wf : PllId → Bool
  | .core | .upstream | .pcie => true
  | .gallery g => galOk g
  | .gen1 w | .gen2 w => decide (1 ≤ w) && decide (w ≤ 4)

/-- The session of a path exists (04 R121). -/
def Path.wf : Path → Bool
  | .can | .spi | .svc => true
  | .house sess | .tenant sess => decide (sess < 1024)

/-- The fields of a record fit their widths (05 R152, R153). -/
def Rec.wf (r : Rec) : Bool :=
  decide (r.sess < 1024) && decide (r.acc < 281474976710656) && decide (r.deadline < 4294967296)

/-- The fields of a frame fit their widths (04 R121). -/
def Frame.wf (f : Frame) : Bool :=
  decide (f.tenant ≤ 64) && decide (f.sess < 65536) && decide (f.sacks.length ≤ 4)

/-- The fields of an open-exchange frame fit their widths (05 R139). -/
def OpenFrame.wf (f : OpenFrame) : Bool := decide (f.tenant ≤ 64)

/-- The sender of a Nerquelu message is a member or the witness (03 R96). -/
def NqHeader.wf (h : NqHeader) : Bool := decide (h.sender ≤ 16)

/-- A command names existing units, and its fields fit their widths. -/
def Instr.wf : Instr → Bool
  | .sdoInitiateDownload _ => true
  | .sdoInitiateUpload _ _ _ => true
  | .sdoSegment _ => true
  | .sdoBlockSegment _ => true
  | .sdoProtocolTimedOut => true
  | .nmtCommand _ _ => true
  | .canHeartbeat => true
  | .tpdoEventTimerExpiry n => decide (1 ≤ n) && decide (n ≤ 4)
  | .tpdoChangeCompare n => decide (1 ≤ n) && decide (n ≤ 4)
  | .tpdoInhibitTimeEnd n => decide (1 ≤ n) && decide (n ≤ 4)
  | .heldTransferTimeout path => path.wf
  | .spiRegisterRead addr _ _ => decide (addr < 67108864)
  | .spiRegisterWrite addr _ _ => decide (addr < 67108864)
  | .spiCatalogueRequest _ => true
  | .spiCatalogueResponse _ => true
  | .spiStatus _ => true
  | .spiUnknownOpcode _ => true
  | .servicePortRequest _ => true
  | .servicePortResponseRead => true
  | .registerWrite addr _ => decide (addr < 67108864)
  | .registerReadClear addr => decide (addr < 67108864)
  | .bitAliasWrite addr _ => decide (addr < 67108864)
  | .rwpWrite addr _ => decide (addr < 67108864)
  | .rwpWriteAbsorbed => true
  | .guardedWrite addr _ => decide (addr < 67108864)
  | .guardedPairTimeout => true
  | .rvAccess addr _ => decide (addr < 67108864)
  | .normalServiceEntry => true
  | .clkEvtClear _ => true
  | .linkUnitError link => decide (1 ≤ link) && decide (link ≤ 7)
  | .linkRetrainDone link _ => decide (1 ≤ link) && decide (link ≤ 7)
  | .pllLock pll => pll.wf
  | .pllLockTimeout pll => pll.wf
  | .pllLossOfLock pll => pll.wf
  | .pllStopDelayExpiry pll => pll.wf
  | .refclkEthLoss => true
  | .crystalFailure => true
  | .loanGrant t path => tenantOk t && path.wf
  | .loanChange t path => tenantOk t && path.wf
  | .loanEnd t path => tenantOk t && path.wf
  | .loanResume t path => tenantOk t && path.wf
  | .lastItemEnded t => tenantOk t
  | .leaseExpiry t => tenantOk t
  | .nerqueluHeartbeatSend => true
  | .heartbeatReceived hdr _ _ => hdr.wf
  | .quorumWindowExpiry voter => decide (voter ≤ 16)
  | .epochAdvanceRequest path => path.wf
  | .epochPropose hdr _ => hdr.wf
  | .epochAccept hdr _ => hdr.wf
  | .epochAdvanceTimeout => true
  | .lockAcquire lock path => decide (lock < 256) && path.wf
  | .lockRelease lock path => decide (lock < 256) && path.wf
  | .lockBreak lock path => decide (lock < 256) && path.wf
  | .lockRequestMessage hdr _ => hdr.wf
  | .lockAnswerMessage hdr _ => hdr.wf
  | .lockOwnerLostExpiry member => decide (member ≤ 16)
  | .upstreamLinksEnabledWrite _ path => path.wf
  | .upstreamTrainingDone rep => linkOk rep.link
  | .upstreamTrainingFail link => linkOk link
  | .probationExpiry link => linkOk link
  | .upstreamLinkFault link => linkOk link
  | .allDownHoldExpiry => true
  | .isaixFrameSend sess => decide (sess < 1024)
  | .isaixDataFrame f => f.wf
  | .isaixAckFrame f => f.wf
  | .isaixProbeFrame f => f.wf
  | .ackDelayExpiry sess => decide (sess < 1024)
  | .reorderAllowanceExpiry sess _ => decide (sess < 1024)
  | .retransmissionTimeout sess => decide (sess < 1024)
  | .ptpSync _ => true
  | .ptpDelayResponse _ => true
  | .syncTimeout => true
  | .ppsOutSecond => true
  | .ppsOutWidthEnd => true
  | .ppsInEdge _ => true
  | .openSession f => f.wf
  | .confirm f => f.wf
  | .openTimeout sess => decide (sess < 1024)
  | .closeDrain f => f.wf
  | .closeAbort f => f.wf
  | .sessionReset _ f => f.wf
  | .sessionEndingComplete sess => decide (sess < 1024)
  | .vbusOn r => r.wf
  | .vbusOff r => r.wf
  | .portReset r => r.wf
  | .suspendTree r => r.wf
  | .resumeTree r => r.wf
  | .disable r => r.wf
  | .portStatus r => r.wf
  | .pipeOpen r => r.wf
  | .pipeClose r => r.wf
  | .pipeResync r => r.wf
  | .pipeAbort r => r.wf
  | .transfer r => r.wf
  | .outData r => r.wf
  | .catRead r => r.wf
  | .catWrite r => r.wf
  | .vhostStop r => r.wf
  | .vhostStart r => r.wf
  | .unknownCommandRecord _ r => r.wf
  | .deadlineExpiry principal acc => decide (principal ≤ 64) && decide (acc < 281474976710656)
  | .vbusGood p => portOk p
  | .portVbusOff p => portOk p
  | .connect p _ => portOk p
  | .connectionConfirmed p => portOk p
  | .portDisconnect p => portOk p
  | .pollingTimeout p => portOk p
  | .portResetEnd p _ => portOk p
  | .resetRecoveryExpiry p => portOk p
  | .deviceResetRequest p addr path => portOk p && decide (addr < 128) && path.wf
  | .enumerationRequestComplete p _ => portOk p
  | .setAddressRecoveryExpiry p => portOk p
  | .addressRelease p addr => portOk p && decide (addr < 128)
  | .externalHubStatusChange p _ _ _ => portOk p
  | .superspeedRecovery p _ => portOk p
  | .recoveryWindowExpiry p => portOk p
  | .restoreRequestComplete p _ => portOk p
  | .restoreWindowExpiry p => portOk p
  | .restoreTimeout p => portOk p
  | .suspendEntryDone p => portOk p
  | .idleSuspendExpiry p => portOk p
  | .suspendCurrentCheck p _ => portOk p
  | .resumeSignallingDone p => portOk p
  | .u3ExitTimeout p => portOk p
  | .remoteWake p _ => portOk p
  | .l1IdleExpiry idle => portOk idle.port
  | .quarantineRelease p path => portOk p && path.wf
  | .microframeBoundary p => portOk p
  | .transactionComplete pipe _ => decide (pipe < 1048576)
  | .interfaceMapReadComplete p addr _ => portOk p && decide (addr < 128)
  | .erdy pipe _ => decide (pipe < 1048576)
  | .pipeFree pipe => decide (pipe < 1048576)
  | .pipeViewSelect pipe => decide (pipe < 1048576)
  | .vaultEnable _ => true
  | .vaultDisable path => path.wf
  | .vaultRead r => r.wf
  | .vaultWrite r => r.wf
  | .vaultFlush r => r.wf
  | .vaultDeallocate r => r.wf
  | .nvmeCommandComplete _ _ => true
  | .nvmeCommandTimeout _ => true
  | .templateLoad r => r.wf
  | .fanoutStart r => r.wf
  | .fanoutStatus r => r.wf
  | .fanoutCancel r => r.wf
  | .exchangeStatus job _ _ => decide (job < 16)
  | .statusPhaseTimeout job _ => decide (job < 16)
  | .verifyReadComplete job _ _ => decide (job < 16)
  | .jobResultRetentionExpiry job => decide (job < 16)
  | .fanoutProgress hdr _ => hdr.wf
  | .captureStart r => r.wf
  | .captureStop r => r.wf
  | .go chan => decide (chan < 32)
  | .resume chan => decide (chan < 32)
  | .skip chan => decide (chan < 32)
  | .stop chan => decide (chan < 32)
  | .descriptorEnd chan _ => decide (chan < 32)
  | .moverBusError chan _ => decide (chan < 32)
  | .pipeShortEnd chan _ => decide (chan < 32)
  | .stoppingComplete chan => decide (chan < 32)
  | .checkUnitFree unit => decide (unit < 16)
  | .moverWindowAccess addr _ => decide (addr < 67108864)
  | .scanGo _ => true
  | .scanComplete => true
  | .scrubPass _ => true
  | .regionZeroingDone _ => true
  | .rdOnOneCc p _ _ => portOk p
  | .ccAttachDebounceExpiry p => portOk p
  | .rdLost p => portOk p
  | .ccDetachDebounceExpiry p => portOk p
  | .unattachedDrainDone p => portOk p
  | .vconnFault p => portOk p
  | .discoverIdentityInterval p => portOk p
  | .cableIdentityReceived p _ _ _ => portOk p
  | .bc12PrimaryDetection p => portOk p
  | .rpCurrentAdjustExpiry p => portOk p
  | .sourceCapabilitiesInterval p _ => portOk p
  | .pdRequest p _ => portOk p
  | .eprModeEnter p => portOk p
  | .eprKeepalive p => portOk p
  | .getSourceCap p => portOk p
  | .getStatus p => portOk p
  | .getRevision p => portOk p
  | .prSwap p => portOk p
  | .drSwap p => portOk p
  | .vconnSwap p => portOk p
  | .frSwap p => portOk p
  | .structuredVdm p => portOk p
  | .psRdy p => portOk p
  | .ppsKeepaliveTimeout p => portOk p
  | .eprKeepaliveTimeout p => portOk p
  | .hardReset p _ => portOk p
  | .hardResetRecoveryExpiry p => portOk p
  | .renegotiationNoRequestExpiry p => portOk p
  | .statusWordPoll p _ => portOk p
  | .smbalert p _ => portOk p
  | .stageWarningClearExpiry p => portOk p
  | .pmbusBusHeldLow g => galOk g
  | .pmbusSegmentRecovered g => galOk g
  | .galleryPowerSum g => galOk g
  | .raiseSlot g => galOk g
  | .servicePortFastDomainOn => true
  | .servicePortFastDomainOff => true
  | .servicePortRpSeen => true
  | .servicePortRdSeen => true
  | .servicePortRoleToggle => true
  | .servicePortVbusLoss => true
  | .servicePortRdLost => true
  | .currentSample p _ _ => portOk p
  | .fastTrip p => portOk p
  | .offsetMeasurement p => portOk p
  | .offsetMeasurementEnd p _ => portOk p
  | .prechargeDone p => portOk p
  | .rampSafePoint p => portOk p
  | .vbusSettleExpiry p => portOk p
  | .rampTimeout p => portOk p
  | .vbusDrained p => portOk p
  | .drainTimeout p => portOk p
  | .retryOffTimeExpiry p _ => portOk p
  | .retryClearExpiry p => portOk p
  | .requestedStateWrite _ path => path.wf
  | .entryGuardClear => true
  | .drowseIdleExpiry => true
  | .settlingDone => true
  | .pgMainLost => true
  | .wakeNFall => true
  | .alarmExpiry => true
  | .servicePortVbusWake => true
  | .dormantAccessWake => true
  | .domainPowerGood _ => true
  | .powerGoodTimeout _ => true
  | .coreVoltageUpdate _ => true
  | .reactionTimeExpiry slot => decide (slot < 32)
  | .faultAcknowledge _ _ => true
  | .safeStopRelease path => path.wf
  | .junctionTemperatureReading _ _ => true
  | .curatorWatchdogExpiry => true
  | .errOutNMinimumExpiry => true
  | .emcyInhibitExpiry => true
  | .errorHistoryClear path => path.wf
  | .injectionArm _ => true
  | .coldStart _ => true
  | .mainEnPowerGoodTimeout => true
  | .warmReset _ => true
  | .resetNLow _ => true
  | .resetNRise => true
  | .resetRequest => true
  | .custodianReset _ => true
  | .imageWrite _ _ path => path.wf
  | .imageVerify path => path.wf
  | .rollbackCommit path => path.wf
  | .attestationNonce _ path => path.wf
  | .transportKeyWrite slot _ path => decide (slot ≤ 65) && path.wf
  | .debugRequest _ => true
  | .erasingComplete => true
  | .crystalRunning => true
  | .controllerFatalStatus drive => decide (1 ≤ drive) && decide (drive ≤ 8)
  | .driveLinkDown drive => decide (1 ≤ drive) && decide (drive ≤ 8)
  | .curatorRestartTimeout => true
  | .restartedCuratorRuns => true
  | .u1U2InactivityTimeout p _ => portOk p
  | .deviceInitiatedLinkEntry p _ => portOk p
  | .servicePortSourceCapabilities _ => true
  | .servicePortDrSwapAnswer _ => true
  | .sdoAbortTransferRequest => true
  | .jtagInstruction _ => true
  | .vddStbyLoss => true
  | .vddStbyReturn => true

end Sys2Proof
end

