-- ==== Sys2Proof/Laws/PerInstr.lean ====
section
/-!
SUPPORT. What holds of every command as syntax: a well-formed command names only ports that exist, each on one port die and one
sentry die (01 R15).
-/
namespace Sys2Proof
open Machine

/-- The port that a command names as its first operand. -/
def Instr.port? : Instr → Option Nat
  | .sdoInitiateDownload _ => none
  | .sdoInitiateUpload _ _ _ => none
  | .sdoSegment _ => none
  | .sdoBlockSegment _ => none
  | .sdoProtocolTimedOut => none
  | .nmtCommand _ _ => none
  | .canHeartbeat => none
  | .tpdoEventTimerExpiry _ => none
  | .tpdoChangeCompare _ => none
  | .tpdoInhibitTimeEnd _ => none
  | .heldTransferTimeout _ => none
  | .spiRegisterRead _ _ _ => none
  | .spiRegisterWrite _ _ _ => none
  | .spiCatalogueRequest _ => none
  | .spiCatalogueResponse _ => none
  | .spiStatus _ => none
  | .spiUnknownOpcode _ => none
  | .servicePortRequest _ => none
  | .servicePortResponseRead => none
  | .registerWrite _ _ => none
  | .registerReadClear _ => none
  | .bitAliasWrite _ _ => none
  | .rwpWrite _ _ => none
  | .rwpWriteAbsorbed => none
  | .guardedWrite _ _ => none
  | .guardedPairTimeout => none
  | .rvAccess _ _ => none
  | .normalServiceEntry => none
  | .clkEvtClear _ => none
  | .linkUnitError _ => none
  | .linkRetrainDone _ _ => none
  | .pllLock _ => none
  | .pllLockTimeout _ => none
  | .pllLossOfLock _ => none
  | .pllStopDelayExpiry _ => none
  | .refclkEthLoss => none
  | .crystalFailure => none
  | .loanGrant _ _ => none
  | .loanChange _ _ => none
  | .loanEnd _ _ => none
  | .loanResume _ _ => none
  | .lastItemEnded _ => none
  | .leaseExpiry _ => none
  | .nerqueluHeartbeatSend => none
  | .heartbeatReceived _ _ _ => none
  | .quorumWindowExpiry _ => none
  | .epochAdvanceRequest _ => none
  | .epochPropose _ _ => none
  | .epochAccept _ _ => none
  | .epochAdvanceTimeout => none
  | .lockAcquire _ _ => none
  | .lockRelease _ _ => none
  | .lockBreak _ _ => none
  | .lockRequestMessage _ _ => none
  | .lockAnswerMessage _ _ => none
  | .lockOwnerLostExpiry _ => none
  | .upstreamLinksEnabledWrite _ _ => none
  | .upstreamTrainingDone _ => none
  | .upstreamTrainingFail _ => none
  | .probationExpiry _ => none
  | .upstreamLinkFault _ => none
  | .allDownHoldExpiry => none
  | .isaixFrameSend _ => none
  | .isaixDataFrame _ => none
  | .isaixAckFrame _ => none
  | .isaixProbeFrame _ => none
  | .ackDelayExpiry _ => none
  | .reorderAllowanceExpiry _ _ => none
  | .retransmissionTimeout _ => none
  | .ptpSync _ => none
  | .ptpDelayResponse _ => none
  | .syncTimeout => none
  | .ppsOutSecond => none
  | .ppsOutWidthEnd => none
  | .ppsInEdge _ => none
  | .openSession _ => none
  | .confirm _ => none
  | .openTimeout _ => none
  | .closeDrain _ => none
  | .closeAbort _ => none
  | .sessionReset _ _ => none
  | .sessionEndingComplete _ => none
  | .vbusOn _ => none
  | .vbusOff _ => none
  | .portReset _ => none
  | .suspendTree _ => none
  | .resumeTree _ => none
  | .disable _ => none
  | .portStatus _ => none
  | .pipeOpen _ => none
  | .pipeClose _ => none
  | .pipeResync _ => none
  | .pipeAbort _ => none
  | .transfer _ => none
  | .outData _ => none
  | .catRead _ => none
  | .catWrite _ => none
  | .vhostStop _ => none
  | .vhostStart _ => none
  | .unknownCommandRecord _ _ => none
  | .deadlineExpiry _ _ => none
  | .vbusGood p => some p
  | .portVbusOff p => some p
  | .connect p _ => some p
  | .connectionConfirmed p => some p
  | .portDisconnect p => some p
  | .pollingTimeout p => some p
  | .portResetEnd p _ => some p
  | .resetRecoveryExpiry p => some p
  | .deviceResetRequest p _ _ => some p
  | .enumerationRequestComplete p _ => some p
  | .setAddressRecoveryExpiry p => some p
  | .addressRelease p _ => some p
  | .externalHubStatusChange p _ _ _ => some p
  | .superspeedRecovery p _ => some p
  | .recoveryWindowExpiry p => some p
  | .restoreRequestComplete p _ => some p
  | .restoreWindowExpiry p => some p
  | .restoreTimeout p => some p
  | .suspendEntryDone p => some p
  | .idleSuspendExpiry p => some p
  | .suspendCurrentCheck p _ => some p
  | .resumeSignallingDone p => some p
  | .u3ExitTimeout p => some p
  | .remoteWake p _ => some p
  | .l1IdleExpiry idle => some idle.port
  | .quarantineRelease p _ => some p
  | .microframeBoundary p => some p
  | .transactionComplete _ _ => none
  | .interfaceMapReadComplete p _ _ => some p
  | .erdy _ _ => none
  | .pipeFree _ => none
  | .pipeViewSelect _ => none
  | .vaultEnable _ => none
  | .vaultDisable _ => none
  | .vaultRead _ => none
  | .vaultWrite _ => none
  | .vaultFlush _ => none
  | .vaultDeallocate _ => none
  | .nvmeCommandComplete _ _ => none
  | .nvmeCommandTimeout _ => none
  | .templateLoad _ => none
  | .fanoutStart _ => none
  | .fanoutStatus _ => none
  | .fanoutCancel _ => none
  | .exchangeStatus _ _ _ => none
  | .statusPhaseTimeout _ _ => none
  | .verifyReadComplete _ _ _ => none
  | .jobResultRetentionExpiry _ => none
  | .fanoutProgress _ _ => none
  | .captureStart _ => none
  | .captureStop _ => none
  | .go _ => none
  | .resume _ => none
  | .skip _ => none
  | .stop _ => none
  | .descriptorEnd _ _ => none
  | .moverBusError _ _ => none
  | .pipeShortEnd _ _ => none
  | .stoppingComplete _ => none
  | .checkUnitFree _ => none
  | .moverWindowAccess _ _ => none
  | .scanGo _ => none
  | .scanComplete => none
  | .scrubPass _ => none
  | .regionZeroingDone _ => none
  | .rdOnOneCc p _ _ => some p
  | .ccAttachDebounceExpiry p => some p
  | .rdLost p => some p
  | .ccDetachDebounceExpiry p => some p
  | .unattachedDrainDone p => some p
  | .vconnFault p => some p
  | .discoverIdentityInterval p => some p
  | .cableIdentityReceived p _ _ _ => some p
  | .bc12PrimaryDetection p => some p
  | .rpCurrentAdjustExpiry p => some p
  | .sourceCapabilitiesInterval p _ => some p
  | .pdRequest p _ => some p
  | .eprModeEnter p => some p
  | .eprKeepalive p => some p
  | .getSourceCap p => some p
  | .getStatus p => some p
  | .getRevision p => some p
  | .prSwap p => some p
  | .drSwap p => some p
  | .vconnSwap p => some p
  | .frSwap p => some p
  | .structuredVdm p => some p
  | .psRdy p => some p
  | .ppsKeepaliveTimeout p => some p
  | .eprKeepaliveTimeout p => some p
  | .hardReset p _ => some p
  | .hardResetRecoveryExpiry p => some p
  | .renegotiationNoRequestExpiry p => some p
  | .statusWordPoll p _ => some p
  | .smbalert p _ => some p
  | .stageWarningClearExpiry p => some p
  | .pmbusBusHeldLow _ => none
  | .pmbusSegmentRecovered _ => none
  | .galleryPowerSum _ => none
  | .raiseSlot _ => none
  | .servicePortFastDomainOn => none
  | .servicePortFastDomainOff => none
  | .servicePortRpSeen => none
  | .servicePortRdSeen => none
  | .servicePortRoleToggle => none
  | .servicePortVbusLoss => none
  | .servicePortRdLost => none
  | .currentSample p _ _ => some p
  | .fastTrip p => some p
  | .offsetMeasurement p => some p
  | .offsetMeasurementEnd p _ => some p
  | .prechargeDone p => some p
  | .rampSafePoint p => some p
  | .vbusSettleExpiry p => some p
  | .rampTimeout p => some p
  | .vbusDrained p => some p
  | .drainTimeout p => some p
  | .retryOffTimeExpiry p _ => some p
  | .retryClearExpiry p => some p
  | .requestedStateWrite _ _ => none
  | .entryGuardClear => none
  | .drowseIdleExpiry => none
  | .settlingDone => none
  | .pgMainLost => none
  | .wakeNFall => none
  | .alarmExpiry => none
  | .servicePortVbusWake => none
  | .dormantAccessWake => none
  | .domainPowerGood _ => none
  | .powerGoodTimeout _ => none
  | .coreVoltageUpdate _ => none
  | .reactionTimeExpiry _ => none
  | .faultAcknowledge _ _ => none
  | .safeStopRelease _ => none
  | .junctionTemperatureReading _ _ => none
  | .curatorWatchdogExpiry => none
  | .errOutNMinimumExpiry => none
  | .emcyInhibitExpiry => none
  | .errorHistoryClear _ => none
  | .injectionArm _ => none
  | .coldStart _ => none
  | .mainEnPowerGoodTimeout => none
  | .warmReset _ => none
  | .resetNLow _ => none
  | .resetNRise => none
  | .resetRequest => none
  | .custodianReset _ => none
  | .imageWrite _ _ _ => none
  | .imageVerify _ => none
  | .rollbackCommit _ => none
  | .attestationNonce _ _ => none
  | .transportKeyWrite _ _ _ => none
  | .debugRequest _ => none
  | .erasingComplete => none
  | .crystalRunning => none
  | .controllerFatalStatus _ => none
  | .driveLinkDown _ => none
  | .curatorRestartTimeout => none
  | .restartedCuratorRuns => none
  | .u1U2InactivityTimeout p _ => some p
  | .deviceInitiatedLinkEntry p _ => some p
  | .servicePortSourceCapabilities _ => none
  | .servicePortDrSwapAnswer _ => none
  | .sdoAbortTransferRequest => none
  | .jtagInstruction _ => none
  | .vddStbyLoss => none
  | .vddStbyReturn => none

end Sys2Proof

namespace Sys2Proof.Laws.Ports
open Machine

/-- A well-formed command names a port of 1 to 96, carried by port die A or B (01 R15). -/
def Statement (i : Instr) : Prop := i.wf = true → ∀ p, i.port? = some p → 1 ≤ p ∧ p ≤ 96

theorem of_none {i : Instr} (h : i.port? = none) : Statement i := by
  intro _ p hp
  rw [h] at hp
  cases hp

theorem of_port {i : Instr} (q : Nat) (h : i.port? = some q) (w : i.wf = true → portOk q = true) : Statement i := by
  intro hw p hp
  rw [h] at hp
  cases hp
  have := w hw
  simp only [portOk, Bool.and_eq_true, decide_eq_true_eq] at this
  exact this

theorem sdoInitiateDownload (req : SdoInit) : Statement (.sdoInitiateDownload req) := of_none rfl

theorem sdoInitiateUpload (index : Nat) (sub : Nat) (block : Option Nat) :
    Statement (.sdoInitiateUpload index sub block) := of_none rfl

theorem sdoSegment (seg : SdoSeg) : Statement (.sdoSegment seg) := of_none rfl

theorem sdoBlockSegment (seg : SdoBlock) : Statement (.sdoBlockSegment seg) := of_none rfl

theorem sdoProtocolTimedOut : Statement (.sdoProtocolTimedOut) := of_none rfl

theorem nmtCommand (cmd : Nat) (node : Nat) : Statement (.nmtCommand cmd node) := of_none rfl

theorem canHeartbeat : Statement (.canHeartbeat) := of_none rfl

theorem tpdoEventTimerExpiry (n : Nat) : Statement (.tpdoEventTimerExpiry n) := of_none rfl

theorem tpdoChangeCompare (n : Nat) : Statement (.tpdoChangeCompare n) := of_none rfl

theorem tpdoInhibitTimeEnd (n : Nat) : Statement (.tpdoInhibitTimeEnd n) := of_none rfl

theorem heldTransferTimeout (path : Path) : Statement (.heldTransferTimeout path) := of_none rfl

theorem spiRegisterRead (addr : Nat) (words : Nat) (ahead : Nat) : Statement (.spiRegisterRead addr words ahead) := of_none rfl

theorem spiRegisterWrite (addr : Nat) (words : List Word) (cutBits : Nat) :
    Statement (.spiRegisterWrite addr words cutBits) := of_none rfl

theorem spiCatalogueRequest (record : Bytes) : Statement (.spiCatalogueRequest record) := of_none rfl

theorem spiCatalogueResponse (nbytes : Nat) : Statement (.spiCatalogueResponse nbytes) := of_none rfl

theorem spiStatus (n : Nat) : Statement (.spiStatus n) := of_none rfl

theorem spiUnknownOpcode (op : Nat) : Statement (.spiUnknownOpcode op) := of_none rfl

theorem servicePortRequest (record : Bytes) : Statement (.servicePortRequest record) := of_none rfl

theorem servicePortResponseRead : Statement (.servicePortResponseRead) := of_none rfl

theorem registerWrite (addr : Nat) (val : Word) : Statement (.registerWrite addr val) := of_none rfl

theorem registerReadClear (addr : Nat) : Statement (.registerReadClear addr) := of_none rfl

theorem bitAliasWrite (addr : Nat) (val : Word) : Statement (.bitAliasWrite addr val) := of_none rfl

theorem rwpWrite (addr : Nat) (val : Word) : Statement (.rwpWrite addr val) := of_none rfl

theorem rwpWriteAbsorbed : Statement (.rwpWriteAbsorbed) := of_none rfl

theorem guardedWrite (addr : Nat) (val : Word) : Statement (.guardedWrite addr val) := of_none rfl

theorem guardedPairTimeout : Statement (.guardedPairTimeout) := of_none rfl

theorem rvAccess (addr : Nat) (write : Option Word) : Statement (.rvAccess addr write) := of_none rfl

theorem normalServiceEntry : Statement (.normalServiceEntry) := of_none rfl

theorem clkEvtClear (val : Word) : Statement (.clkEvtClear val) := of_none rfl

theorem linkUnitError (link : Nat) : Statement (.linkUnitError link) := of_none rfl

theorem linkRetrainDone (link : Nat) (ok : Bool) : Statement (.linkRetrainDone link ok) := of_none rfl

theorem pllLock (pll : PllId) : Statement (.pllLock pll) := of_none rfl

theorem pllLockTimeout (pll : PllId) : Statement (.pllLockTimeout pll) := of_none rfl

theorem pllLossOfLock (pll : PllId) : Statement (.pllLossOfLock pll) := of_none rfl

theorem pllStopDelayExpiry (pll : PllId) : Statement (.pllStopDelayExpiry pll) := of_none rfl

theorem refclkEthLoss : Statement (.refclkEthLoss) := of_none rfl

theorem crystalFailure : Statement (.crystalFailure) := of_none rfl

theorem loanGrant (t : Nat) (path : Path) : Statement (.loanGrant t path) := of_none rfl

theorem loanChange (t : Nat) (path : Path) : Statement (.loanChange t path) := of_none rfl

theorem loanEnd (t : Nat) (path : Path) : Statement (.loanEnd t path) := of_none rfl

theorem loanResume (t : Nat) (path : Path) : Statement (.loanResume t path) := of_none rfl

theorem lastItemEnded (t : Nat) : Statement (.lastItemEnded t) := of_none rfl

theorem leaseExpiry (t : Nat) : Statement (.leaseExpiry t) := of_none rfl

theorem nerqueluHeartbeatSend : Statement (.nerqueluHeartbeatSend) := of_none rfl

theorem heartbeatReceived (hdr : NqHeader) (digest : Bytes) (quorumSet : Word) :
    Statement (.heartbeatReceived hdr digest quorumSet) := of_none rfl

theorem quorumWindowExpiry (voter : Nat) : Statement (.quorumWindowExpiry voter) := of_none rfl

theorem epochAdvanceRequest (path : Path) : Statement (.epochAdvanceRequest path) := of_none rfl

theorem epochPropose (hdr : NqHeader) (proposed : Word) : Statement (.epochPropose hdr proposed) := of_none rfl

theorem epochAccept (hdr : NqHeader) (accepted : Word) : Statement (.epochAccept hdr accepted) := of_none rfl

theorem epochAdvanceTimeout : Statement (.epochAdvanceTimeout) := of_none rfl

theorem lockAcquire (lock : Nat) (path : Path) : Statement (.lockAcquire lock path) := of_none rfl

theorem lockRelease (lock : Nat) (path : Path) : Statement (.lockRelease lock path) := of_none rfl

theorem lockBreak (lock : Nat) (path : Path) : Statement (.lockBreak lock path) := of_none rfl

theorem lockRequestMessage (hdr : NqHeader) (msg : LockMsg) : Statement (.lockRequestMessage hdr msg) := of_none rfl

theorem lockAnswerMessage (hdr : NqHeader) (msg : LockMsg) : Statement (.lockAnswerMessage hdr msg) := of_none rfl

theorem lockOwnerLostExpiry (member : Nat) : Statement (.lockOwnerLostExpiry member) := of_none rfl

theorem upstreamLinksEnabledWrite (val : Nat) (path : Path) : Statement (.upstreamLinksEnabledWrite val path) := of_none rfl

theorem upstreamTrainingDone (rep : TrainReport) : Statement (.upstreamTrainingDone rep) := of_none rfl

theorem upstreamTrainingFail (link : Nat) : Statement (.upstreamTrainingFail link) := of_none rfl

theorem probationExpiry (link : Nat) : Statement (.probationExpiry link) := of_none rfl

theorem upstreamLinkFault (link : Nat) : Statement (.upstreamLinkFault link) := of_none rfl

theorem allDownHoldExpiry : Statement (.allDownHoldExpiry) := of_none rfl

theorem isaixFrameSend (sess : Nat) : Statement (.isaixFrameSend sess) := of_none rfl

theorem isaixDataFrame (f : Frame) : Statement (.isaixDataFrame f) := of_none rfl

theorem isaixAckFrame (f : Frame) : Statement (.isaixAckFrame f) := of_none rfl

theorem isaixProbeFrame (f : Frame) : Statement (.isaixProbeFrame f) := of_none rfl

theorem ackDelayExpiry (sess : Nat) : Statement (.ackDelayExpiry sess) := of_none rfl

theorem reorderAllowanceExpiry (sess : Nat) (seq : Nat) : Statement (.reorderAllowanceExpiry sess seq) := of_none rfl

theorem retransmissionTimeout (sess : Nat) : Statement (.retransmissionTimeout sess) := of_none rfl

theorem ptpSync (sync : SyncMsg) : Statement (.ptpSync sync) := of_none rfl

theorem ptpDelayResponse (resp : DelayMsg) : Statement (.ptpDelayResponse resp) := of_none rfl

theorem syncTimeout : Statement (.syncTimeout) := of_none rfl

theorem ppsOutSecond : Statement (.ppsOutSecond) := of_none rfl

theorem ppsOutWidthEnd : Statement (.ppsOutWidthEnd) := of_none rfl

theorem ppsInEdge (sinceLast : Nat) : Statement (.ppsInEdge sinceLast) := of_none rfl

theorem openSession (f : OpenFrame) : Statement (.openSession f) := of_none rfl

theorem confirm (f : Frame) : Statement (.confirm f) := of_none rfl

theorem openTimeout (sess : Nat) : Statement (.openTimeout sess) := of_none rfl

theorem closeDrain (f : Frame) : Statement (.closeDrain f) := of_none rfl

theorem closeAbort (f : Frame) : Statement (.closeAbort f) := of_none rfl

theorem sessionReset (key : ResetKey) (f : Frame) : Statement (.sessionReset key f) := of_none rfl

theorem sessionEndingComplete (sess : Nat) : Statement (.sessionEndingComplete sess) := of_none rfl

theorem vbusOn (r : Rec) : Statement (.vbusOn r) := of_none rfl

theorem vbusOff (r : Rec) : Statement (.vbusOff r) := of_none rfl

theorem portReset (r : Rec) : Statement (.portReset r) := of_none rfl

theorem suspendTree (r : Rec) : Statement (.suspendTree r) := of_none rfl

theorem resumeTree (r : Rec) : Statement (.resumeTree r) := of_none rfl

theorem disable (r : Rec) : Statement (.disable r) := of_none rfl

theorem portStatus (r : Rec) : Statement (.portStatus r) := of_none rfl

theorem pipeOpen (r : Rec) : Statement (.pipeOpen r) := of_none rfl

theorem pipeClose (r : Rec) : Statement (.pipeClose r) := of_none rfl

theorem pipeResync (r : Rec) : Statement (.pipeResync r) := of_none rfl

theorem pipeAbort (r : Rec) : Statement (.pipeAbort r) := of_none rfl

theorem transfer (r : Rec) : Statement (.transfer r) := of_none rfl

theorem outData (r : Rec) : Statement (.outData r) := of_none rfl

theorem catRead (r : Rec) : Statement (.catRead r) := of_none rfl

theorem catWrite (r : Rec) : Statement (.catWrite r) := of_none rfl

theorem vhostStop (r : Rec) : Statement (.vhostStop r) := of_none rfl

theorem vhostStart (r : Rec) : Statement (.vhostStart r) := of_none rfl

theorem unknownCommandRecord (op : Nat) (r : Rec) : Statement (.unknownCommandRecord op r) := of_none rfl

theorem deadlineExpiry (principal : Nat) (acc : Nat) : Statement (.deadlineExpiry principal acc) := of_none rfl

theorem vbusGood (p : Nat) : Statement (.vbusGood p) := of_port p rfl (fun h => h)

theorem portVbusOff (p : Nat) : Statement (.portVbusOff p) := of_port p rfl (fun h => h)

theorem connect (p : Nat) (kind : ConnKind) : Statement (.connect p kind) := of_port p rfl (fun h => h)

theorem connectionConfirmed (p : Nat) : Statement (.connectionConfirmed p) := of_port p rfl (fun h => h)

theorem portDisconnect (p : Nat) : Statement (.portDisconnect p) := of_port p rfl (fun h => h)

theorem pollingTimeout (p : Nat) : Statement (.pollingTimeout p) := of_port p rfl (fun h => h)

theorem portResetEnd (p : Nat) (trained : Speed) : Statement (.portResetEnd p trained) := of_port p rfl (fun h => h)

theorem resetRecoveryExpiry (p : Nat) : Statement (.resetRecoveryExpiry p) := of_port p rfl (fun h => h)

theorem deviceResetRequest (p : Nat) (addr : Nat) (path : Path) :
    Statement (.deviceResetRequest p addr path) := of_port p rfl (fun h => by simp only [Instr.wf, Bool.and_eq_true] at h; simp [h])

theorem enumerationRequestComplete (p : Nat) (res : ReqRes) :
    Statement (.enumerationRequestComplete p res) := of_port p rfl (fun h => h)

theorem setAddressRecoveryExpiry (p : Nat) : Statement (.setAddressRecoveryExpiry p) := of_port p rfl (fun h => h)

theorem addressRelease (p : Nat) (addr : Nat) :
    Statement (.addressRelease p addr) := of_port p rfl (fun h => by simp only [Instr.wf, Bool.and_eq_true] at h; simp [h])

theorem externalHubStatusChange (p : Nat) (hub : Nat) (hubPort : Nat) (change : HubChange) :
    Statement (.externalHubStatusChange p hub hubPort change) := of_port p rfl (fun h => h)

theorem superspeedRecovery (p : Nat) (reachedU0 : Bool) :
    Statement (.superspeedRecovery p reachedU0) := of_port p rfl (fun h => h)

theorem recoveryWindowExpiry (p : Nat) : Statement (.recoveryWindowExpiry p) := of_port p rfl (fun h => h)

theorem restoreRequestComplete (p : Nat) (res : ReqRes) : Statement (.restoreRequestComplete p res) := of_port p rfl (fun h => h)

theorem restoreWindowExpiry (p : Nat) : Statement (.restoreWindowExpiry p) := of_port p rfl (fun h => h)

theorem restoreTimeout (p : Nat) : Statement (.restoreTimeout p) := of_port p rfl (fun h => h)

theorem suspendEntryDone (p : Nat) : Statement (.suspendEntryDone p) := of_port p rfl (fun h => h)

theorem idleSuspendExpiry (p : Nat) : Statement (.idleSuspendExpiry p) := of_port p rfl (fun h => h)

theorem suspendCurrentCheck (p : Nat) (avg : Int) : Statement (.suspendCurrentCheck p avg) := of_port p rfl (fun h => h)

theorem resumeSignallingDone (p : Nat) : Statement (.resumeSignallingDone p) := of_port p rfl (fun h => h)

theorem u3ExitTimeout (p : Nat) : Statement (.u3ExitTimeout p) := of_port p rfl (fun h => h)

theorem remoteWake (p : Nat) (device : Nat) : Statement (.remoteWake p device) := of_port p rfl (fun h => h)

theorem l1IdleExpiry (idle : L1Idle) : Statement (.l1IdleExpiry idle) := of_port idle.port rfl (fun h => h)

theorem quarantineRelease (p : Nat) (path : Path) :
    Statement (.quarantineRelease p path) := of_port p rfl (fun h => by simp only [Instr.wf, Bool.and_eq_true] at h; simp [h])

theorem microframeBoundary (p : Nat) : Statement (.microframeBoundary p) := of_port p rfl (fun h => h)

theorem transactionComplete (pipe : Nat) (res : XactRes) : Statement (.transactionComplete pipe res) := of_none rfl

theorem interfaceMapReadComplete (p : Nat) (addr : Nat) (map : IfMap) :
    Statement (.interfaceMapReadComplete p addr map) := of_port p rfl (fun h => by simp only [Instr.wf, Bool.and_eq_true] at h; simp [h])

theorem erdy (pipe : Nat) (stream : Nat) : Statement (.erdy pipe stream) := of_none rfl

theorem pipeFree (pipe : Nat) : Statement (.pipeFree pipe) := of_none rfl

theorem pipeViewSelect (pipe : Nat) : Statement (.pipeViewSelect pipe) := of_none rfl

theorem vaultEnable (drives : DriveReps) : Statement (.vaultEnable drives) := of_none rfl

theorem vaultDisable (path : Path) : Statement (.vaultDisable path) := of_none rfl

theorem vaultRead (r : Rec) : Statement (.vaultRead r) := of_none rfl

theorem vaultWrite (r : Rec) : Statement (.vaultWrite r) := of_none rfl

theorem vaultFlush (r : Rec) : Statement (.vaultFlush r) := of_none rfl

theorem vaultDeallocate (r : Rec) : Statement (.vaultDeallocate r) := of_none rfl

theorem nvmeCommandComplete (cmd : Nat) (ok : Bool) : Statement (.nvmeCommandComplete cmd ok) := of_none rfl

theorem nvmeCommandTimeout (cmd : Nat) : Statement (.nvmeCommandTimeout cmd) := of_none rfl

theorem templateLoad (r : Rec) : Statement (.templateLoad r) := of_none rfl

theorem fanoutStart (r : Rec) : Statement (.fanoutStart r) := of_none rfl

theorem fanoutStatus (r : Rec) : Statement (.fanoutStatus r) := of_none rfl

theorem fanoutCancel (r : Rec) : Statement (.fanoutCancel r) := of_none rfl

theorem exchangeStatus (job : Nat) (target : Nat) (status : Bytes) : Statement (.exchangeStatus job target status) := of_none rfl

theorem statusPhaseTimeout (job : Nat) (target : Nat) : Statement (.statusPhaseTimeout job target) := of_none rfl

theorem verifyReadComplete (job : Nat) (target : Nat) (data : Bytes) :
    Statement (.verifyReadComplete job target data) := of_none rfl

theorem jobResultRetentionExpiry (job : Nat) : Statement (.jobResultRetentionExpiry job) := of_none rfl

theorem fanoutProgress (hdr : NqHeader) (body : Bytes) : Statement (.fanoutProgress hdr body) := of_none rfl

theorem captureStart (r : Rec) : Statement (.captureStart r) := of_none rfl

theorem captureStop (r : Rec) : Statement (.captureStop r) := of_none rfl

theorem go (chan : Nat) : Statement (.go chan) := of_none rfl

theorem resume (chan : Nat) : Statement (.resume chan) := of_none rfl

theorem skip (chan : Nat) : Statement (.skip chan) := of_none rfl

theorem stop (chan : Nat) : Statement (.stop chan) := of_none rfl

theorem descriptorEnd (chan : Nat) (data : Bytes) : Statement (.descriptorEnd chan data) := of_none rfl

theorem moverBusError (chan : Nat) (err : BusErr) : Statement (.moverBusError chan err) := of_none rfl

theorem pipeShortEnd (chan : Nat) (data : Bytes) : Statement (.pipeShortEnd chan data) := of_none rfl

theorem stoppingComplete (chan : Nat) : Statement (.stoppingComplete chan) := of_none rfl

theorem checkUnitFree (unit : Nat) : Statement (.checkUnitFree unit) := of_none rfl

theorem moverWindowAccess (addr : Nat) (write : Option Word) : Statement (.moverWindowAccess addr write) := of_none rfl

theorem scanGo (ctrl : Word) : Statement (.scanGo ctrl) := of_none rfl

theorem scanComplete : Statement (.scanComplete) := of_none rfl

theorem scrubPass (found : MemErrs) : Statement (.scrubPass found) := of_none rfl

theorem regionZeroingDone (r : Region) : Statement (.regionZeroingDone r) := of_none rfl

theorem rdOnOneCc (p : Nat) (cc1 : CcPin) (cc2 : CcPin) : Statement (.rdOnOneCc p cc1 cc2) := of_port p rfl (fun h => h)

theorem ccAttachDebounceExpiry (p : Nat) : Statement (.ccAttachDebounceExpiry p) := of_port p rfl (fun h => h)

theorem rdLost (p : Nat) : Statement (.rdLost p) := of_port p rfl (fun h => h)

theorem ccDetachDebounceExpiry (p : Nat) : Statement (.ccDetachDebounceExpiry p) := of_port p rfl (fun h => h)

theorem unattachedDrainDone (p : Nat) : Statement (.unattachedDrainDone p) := of_port p rfl (fun h => h)

theorem vconnFault (p : Nat) : Statement (.vconnFault p) := of_port p rfl (fun h => h)

theorem discoverIdentityInterval (p : Nat) : Statement (.discoverIdentityInterval p) := of_port p rfl (fun h => h)

theorem cableIdentityReceived (p : Nat) (idHeader : Word) (vdo : Word) (caps : CableCaps) :
    Statement (.cableIdentityReceived p idHeader vdo caps) := of_port p rfl (fun h => h)

theorem bc12PrimaryDetection (p : Nat) : Statement (.bc12PrimaryDetection p) := of_port p rfl (fun h => h)

theorem rpCurrentAdjustExpiry (p : Nat) : Statement (.rpCurrentAdjustExpiry p) := of_port p rfl (fun h => h)

theorem sourceCapabilitiesInterval (p : Nat) (goodCrc : Bool) :
    Statement (.sourceCapabilitiesInterval p goodCrc) := of_port p rfl (fun h => h)

theorem pdRequest (p : Nat) (req : PdReq) : Statement (.pdRequest p req) := of_port p rfl (fun h => h)

theorem eprModeEnter (p : Nat) : Statement (.eprModeEnter p) := of_port p rfl (fun h => h)

theorem eprKeepalive (p : Nat) : Statement (.eprKeepalive p) := of_port p rfl (fun h => h)

theorem getSourceCap (p : Nat) : Statement (.getSourceCap p) := of_port p rfl (fun h => h)

theorem getStatus (p : Nat) : Statement (.getStatus p) := of_port p rfl (fun h => h)

theorem getRevision (p : Nat) : Statement (.getRevision p) := of_port p rfl (fun h => h)

theorem prSwap (p : Nat) : Statement (.prSwap p) := of_port p rfl (fun h => h)

theorem drSwap (p : Nat) : Statement (.drSwap p) := of_port p rfl (fun h => h)

theorem vconnSwap (p : Nat) : Statement (.vconnSwap p) := of_port p rfl (fun h => h)

theorem frSwap (p : Nat) : Statement (.frSwap p) := of_port p rfl (fun h => h)

theorem structuredVdm (p : Nat) : Statement (.structuredVdm p) := of_port p rfl (fun h => h)

theorem psRdy (p : Nat) : Statement (.psRdy p) := of_port p rfl (fun h => h)

theorem ppsKeepaliveTimeout (p : Nat) : Statement (.ppsKeepaliveTimeout p) := of_port p rfl (fun h => h)

theorem eprKeepaliveTimeout (p : Nat) : Statement (.eprKeepaliveTimeout p) := of_port p rfl (fun h => h)

theorem hardReset (p : Nat) (received : Bool) : Statement (.hardReset p received) := of_port p rfl (fun h => h)

theorem hardResetRecoveryExpiry (p : Nat) : Statement (.hardResetRecoveryExpiry p) := of_port p rfl (fun h => h)

theorem renegotiationNoRequestExpiry (p : Nat) : Statement (.renegotiationNoRequestExpiry p) := of_port p rfl (fun h => h)

theorem statusWordPoll (p : Nat) (status : StageStatus) : Statement (.statusWordPoll p status) := of_port p rfl (fun h => h)

theorem smbalert (p : Nat) (status : StageStatus) : Statement (.smbalert p status) := of_port p rfl (fun h => h)

theorem stageWarningClearExpiry (p : Nat) : Statement (.stageWarningClearExpiry p) := of_port p rfl (fun h => h)

theorem pmbusBusHeldLow (g : Nat) : Statement (.pmbusBusHeldLow g) := of_none rfl

theorem pmbusSegmentRecovered (g : Nat) : Statement (.pmbusSegmentRecovered g) := of_none rfl

theorem galleryPowerSum (g : Nat) : Statement (.galleryPowerSum g) := of_none rfl

theorem raiseSlot (g : Nat) : Statement (.raiseSlot g) := of_none rfl

theorem servicePortFastDomainOn : Statement (.servicePortFastDomainOn) := of_none rfl

theorem servicePortFastDomainOff : Statement (.servicePortFastDomainOff) := of_none rfl

theorem servicePortRpSeen : Statement (.servicePortRpSeen) := of_none rfl

theorem servicePortRdSeen : Statement (.servicePortRdSeen) := of_none rfl

theorem servicePortRoleToggle : Statement (.servicePortRoleToggle) := of_none rfl

theorem servicePortVbusLoss : Statement (.servicePortVbusLoss) := of_none rfl

theorem servicePortRdLost : Statement (.servicePortRdLost) := of_none rfl

theorem currentSample (p : Nat) (current : Int) (vbus : Nat) :
    Statement (.currentSample p current vbus) := of_port p rfl (fun h => h)

theorem fastTrip (p : Nat) : Statement (.fastTrip p) := of_port p rfl (fun h => h)

theorem offsetMeasurement (p : Nat) : Statement (.offsetMeasurement p) := of_port p rfl (fun h => h)

theorem offsetMeasurementEnd (p : Nat) (offset : Int) : Statement (.offsetMeasurementEnd p offset) := of_port p rfl (fun h => h)

theorem prechargeDone (p : Nat) : Statement (.prechargeDone p) := of_port p rfl (fun h => h)

theorem rampSafePoint (p : Nat) : Statement (.rampSafePoint p) := of_port p rfl (fun h => h)

theorem vbusSettleExpiry (p : Nat) : Statement (.vbusSettleExpiry p) := of_port p rfl (fun h => h)

theorem rampTimeout (p : Nat) : Statement (.rampTimeout p) := of_port p rfl (fun h => h)

theorem vbusDrained (p : Nat) : Statement (.vbusDrained p) := of_port p rfl (fun h => h)

theorem drainTimeout (p : Nat) : Statement (.drainTimeout p) := of_port p rfl (fun h => h)

theorem retryOffTimeExpiry (p : Nat) (status : StageStatus) :
    Statement (.retryOffTimeExpiry p status) := of_port p rfl (fun h => h)

theorem retryClearExpiry (p : Nat) : Statement (.retryClearExpiry p) := of_port p rfl (fun h => h)

theorem requestedStateWrite (val : Nat) (path : Path) : Statement (.requestedStateWrite val path) := of_none rfl

theorem entryGuardClear : Statement (.entryGuardClear) := of_none rfl

theorem drowseIdleExpiry : Statement (.drowseIdleExpiry) := of_none rfl

theorem settlingDone : Statement (.settlingDone) := of_none rfl

theorem pgMainLost : Statement (.pgMainLost) := of_none rfl

theorem wakeNFall : Statement (.wakeNFall) := of_none rfl

theorem alarmExpiry : Statement (.alarmExpiry) := of_none rfl

theorem servicePortVbusWake : Statement (.servicePortVbusWake) := of_none rfl

theorem dormantAccessWake : Statement (.dormantAccessWake) := of_none rfl

theorem domainPowerGood (d : Domain) : Statement (.domainPowerGood d) := of_none rfl

theorem powerGoodTimeout (d : Domain) : Statement (.powerGoodTimeout d) := of_none rfl

theorem coreVoltageUpdate (mv : Nat) : Statement (.coreVoltageUpdate mv) := of_none rfl

theorem reactionTimeExpiry (slot : Nat) : Statement (.reactionTimeExpiry slot) := of_none rfl

theorem faultAcknowledge (source : Nat) (inst : Nat) : Statement (.faultAcknowledge source inst) := of_none rfl

theorem safeStopRelease (path : Path) : Statement (.safeStopRelease path) := of_none rfl

theorem junctionTemperatureReading (group : Nat) (temp : Int) : Statement (.junctionTemperatureReading group temp) := of_none rfl

theorem curatorWatchdogExpiry : Statement (.curatorWatchdogExpiry) := of_none rfl

theorem errOutNMinimumExpiry : Statement (.errOutNMinimumExpiry) := of_none rfl

theorem emcyInhibitExpiry : Statement (.emcyInhibitExpiry) := of_none rfl

theorem errorHistoryClear (path : Path) : Statement (.errorHistoryClear path) := of_none rfl

theorem injectionArm (val : Word) : Statement (.injectionArm val) := of_none rfl

theorem coldStart (straps : Straps) : Statement (.coldStart straps) := of_none rfl

theorem mainEnPowerGoodTimeout : Statement (.mainEnPowerGoodTimeout) := of_none rfl

theorem warmReset (straps : Straps) : Statement (.warmReset straps) := of_none rfl

theorem resetNLow (straps : Straps) : Statement (.resetNLow straps) := of_none rfl

theorem resetNRise : Statement (.resetNRise) := of_none rfl

theorem resetRequest : Statement (.resetRequest) := of_none rfl

theorem custodianReset (noxo : Bool) : Statement (.custodianReset noxo) := of_none rfl

theorem imageWrite (offset : Nat) (data : Bytes) (path : Path) : Statement (.imageWrite offset data path) := of_none rfl

theorem imageVerify (path : Path) : Statement (.imageVerify path) := of_none rfl

theorem rollbackCommit (path : Path) : Statement (.rollbackCommit path) := of_none rfl

theorem attestationNonce (nonce : Bytes) (path : Path) : Statement (.attestationNonce nonce path) := of_none rfl

theorem transportKeyWrite (slot : Nat) (key : Bytes) (path : Path) : Statement (.transportKeyWrite slot key path) := of_none rfl

theorem debugRequest (val : Word) : Statement (.debugRequest val) := of_none rfl

theorem erasingComplete : Statement (.erasingComplete) := of_none rfl

theorem crystalRunning : Statement (.crystalRunning) := of_none rfl

theorem controllerFatalStatus (drive : Nat) : Statement (.controllerFatalStatus drive) := of_none rfl

theorem driveLinkDown (drive : Nat) : Statement (.driveLinkDown drive) := of_none rfl

theorem curatorRestartTimeout : Statement (.curatorRestartTimeout) := of_none rfl

theorem restartedCuratorRuns : Statement (.restartedCuratorRuns) := of_none rfl

theorem u1U2InactivityTimeout (p : Nat) (u2 : Bool) : Statement (.u1U2InactivityTimeout p u2) := of_port p rfl (fun h => h)

theorem deviceInitiatedLinkEntry (p : Nat) (level : Nat) :
    Statement (.deviceInitiatedLinkEntry p level) := of_port p rfl (fun h => h)

theorem servicePortSourceCapabilities (offeredMa : Nat) : Statement (.servicePortSourceCapabilities offeredMa) := of_none rfl

theorem servicePortDrSwapAnswer (accept : Bool) : Statement (.servicePortDrSwapAnswer accept) := of_none rfl

theorem sdoAbortTransferRequest : Statement (.sdoAbortTransferRequest) := of_none rfl

theorem jtagInstruction (ins : JtagIns) : Statement (.jtagInstruction ins) := of_none rfl

theorem vddStbyLoss : Statement (.vddStbyLoss) := of_none rfl

theorem vddStbyReturn : Statement (.vddStbyReturn) := of_none rfl

end Sys2Proof.Laws.Ports
end

