-- ==== Sys2Proof/Laws/Settle.lean ====
section
/-!
SUPPORT. What follows from a command in a state where nothing waits: PLLs that are needed start; nothing else.
-/
set_option Elab.async false
namespace Sys2Proof.Machine

theorem List.filter_none {α : Type} {l : List α} {p q : α → Bool} (h : l.all q = true) (hq : ∀ x, q x = true → p x = false) :
    l.filter p = [] := by
  rw [List.filter_eq_nil_iff]
  intro x hx
  rw [List.all_eq_true] at h
  simp [hq x (h x hx)]

theorem List.foldl_same {α β : Type} {l : List α} {f : β → α → β} {b : β} (h : ∀ x, f b x = b) : l.foldl f b = b := by
  induction l with
  | nil => rfl
  | cons a l ih => rw [List.foldl_cons, h, ih]

theorem State.settleEnding_quiet {s : State} (h : Quiet s) : s.settleEnding = s := by
  refine List.foldl_same fun e => ?_
  simp only
  split
  · rfl
  · refine List.foldl_same fun k => ?_
    cases hi : s.item? k with
    | none => rfl
    | some i =>
      unfold State.item? at hi
      rw [Option.map_eq_some_iff] at hi
      obtain ⟨x, hx, rfl⟩ := hi
      have := List.all_eq_true.mp h.items x (List.mem_of_find?_eq_some hx)
      simp at this
      simp only [this.2]

theorem State.settleOnce_quiet {s : State} (h : Quiet s) : s.settleOnce = s := by
  have h1 : s.hubEnds = s := by
    unfold State.hubEnds
    simp only [h.ended, List.foldl_nil]
    obtain ⟨e, -⟩ := h
    cases s with | _ =>
    simp only [State.modVault] at *
    rw [← e]
  have h2 : s.jobPass = s := by unfold State.jobPass; rw [h.jobs]; rfl
  have h3 : s.captPass = s := by unfold State.captPass; rw [h.captures]; rfl
  have h4 : s.vaultPass = s := by
    unfold State.vaultPass State.itemsWhere
    rw [List.filter_none h.items (by intro x hx; simp at hx ⊢; omega)]
    rfl
  have h5 : s.templatePass = s := by
    unfold State.templatePass State.itemsWhere
    rw [List.filter_none h.items (by intro x hx; simp at hx ⊢; omega)]
    rfl
  have h6 : s.chanPass = s := by unfold State.chanPass; rw [h.chans]; rfl
  have h7 : s.settleWaits = s := by
    unfold State.settleWaits State.settleCloses
    rw [State.settleEnding_quiet h, List.filter_none h.items (by intro x hx; simp at hx ⊢; intro n; exact absurd hx.1.1.1 n)]
    unfold State.settleStops
    simp only [List.foldl_nil]
    rw [List.filter_none h.stops (by intro x hx; simpa using hx)]
    rfl
  unfold State.settleOnce
  rw [h1, h2, h3, h4, h5, h6, h7]

theorem State.resumedPass_quiet {s : State} (h : Quiet s) : s.resumedPass = s := by
  unfold State.resumedPass
  rw [List.filter_none h.paused (by intro x hx; simp at hx ⊢; intro n; exact absurd hx n)]
  rfl

theorem State.escOwed_quiet {s : State} (h : Quiet s) : s.escOwed = s := by
  unfold State.escOwed
  simp only [h.owed, List.foldl_nil]
  obtain ⟨-, -, -, -, e, -⟩ := h
  cases s with | _ =>
  simp only [State.modFlt] at *
  rw [← e]

theorem State.freeRecalled_quiet {s : State} (h : Quiet s) : s.freeRecalled = s := by
  unfold State.freeRecalled
  have hr := List.all_eq_true.mp h.recalls
  have : ∀ l : List Nat, (∀ p ∈ l, p ∈ allPorts) → l.foldl (fun s p =>
      if (s.getUsb p).loanOwner = 0 ∨ (s.getTenants (s.getUsb p).loanOwner).loan = .recalling ∨
        bitOf (s.getTenants (s.getUsb p).loanOwner).ports.toNat (p - 1) = true ∨ s.portItems (s.getUsb p).loanOwner p ≠ [] then s
      else s.setOwner 0 [p]) s = s := by
    intro l
    induction l with
    | nil => intro _; rfl
    | cons p l ih =>
      intro hl
      have hp := hr p (hl p (by simp))
      rw [Bool.or_eq_true, decide_eq_true_eq] at hp
      rw [List.foldl_cons, if_pos (by rcases hp with h | h; exacts [Or.inl h, Or.inr (Or.inr (Or.inl h))])]
      exact ih (fun q hq => hl q (by simp [hq]))
  exact this allPorts (fun p hp => hp)

theorem State.guardPass_quiet {s : State} (h : Quiet s) : s.guardPass = s := by
  unfold State.guardPass
  rw [h.request]
  simp [h.blocked]

theorem Eff.of_quiet {m : Nat} {s t : State} (h : Quiet s) (e : Eff m s t) (c : m &&& 0x3140281 = 0) : Quiet t := by
  have b : ∀ i, (0x3140281 : Nat).testBit i = true → m.testBit i = false := by
    intro i hi
    have := congrArg (Nat.testBit · i) c
    simpa [hi] using this
  have hu := e.usb (b _ rfl)
  have hi := e.items (b _ rfl)
  have ht := e.tenants (b _ rfl)
  have hd := e.dps (b _ rfl)
  have hf := e.flt (b _ rfl)
  have hv := e.vault (b _ rfl)
  have hm := e.mov (b _ rfl)
  obtain ⟨h1, h2, h3, h4, h5, h6, h7, h11, h8, h9, h10⟩ := h
  exact ⟨by rw [hv, h1], by rw [hv, h2], by rw [hv, h3], by rw [hm, h4], by rw [hf, h5], by rw [hi, h6], by rw [ht, h7], by rw [ht, h11],
    by unfold State.getUsb State.getTenants at *; rw [hu, ht]; exact h8, by rw [hd, h9], by rw [hd, h10]⟩

/-- After a command in a quiet state only PLLs that are needed start. -/
theorem State.settle_quiet {s : State} (h : Quiet s) : s.settle = s.pllPass := by
  unfold State.settle
  have : times State.settleOnce 3 s = s := by
    simp only [times, State.settleOnce_quiet h]
  rw [State.resumedPass_quiet h, this, State.escOwed_quiet h, State.freeRecalled_quiet h]
  exact State.guardPass_quiet (Eff.of_quiet h s.pllPass_eff (by decide))

/-- After a command in a quiet state only the clocks can differ. -/
theorem State.settle_eff_quiet {s : State} (h : Quiet s) : Eff 16384 s s.settle := by
  rw [State.settle_quiet h]
  exact s.pllPass_eff

end Sys2Proof.Machine
end

