-- ==== Sys2Proof/Laws/Quiet.lean ====
section
/-!
SUPPORT. Updates that leave a quiet state quiet, and what a command record does once it has passed the checks of every record.
-/
set_option Elab.async false
namespace Sys2Proof
open Machine

/-! ### Updates that keep quiet -/

theorem Quiet.modPwr {s : State} (h : Quiet s) (k : Nat) (f : PortPwr → PortPwr) : Quiet (s.modPwr k f) :=
  Eff.of_quiet h (State.modPwr_eff s k f) (by decide)

theorem Quiet.modProt {s : State} (h : Quiet s) (k : Nat) (f : PortProt → PortProt) : Quiet (s.modProt k f) :=
  Eff.of_quiet h (State.modProt_eff s k f) (by decide)

theorem Quiet.modFt {s : State} (h : Quiet s) (k : Nat) (f : PortFt → PortFt) : Quiet (s.modFt k f) :=
  Eff.of_quiet h (State.modFt_eff s k f) (by decide)

theorem Quiet.modFifo {s : State} (h : Quiet s) (k : Nat) (f : PortMem → PortMem) : Quiet (s.modFifo k f) :=
  Eff.of_quiet h (State.modFifo_eff s k f) (by decide)

theorem Quiet.modGals {s : State} (h : Quiet s) (k : Nat) (f : Gallery → Gallery) : Quiet (s.modGals k f) :=
  Eff.of_quiet h (State.modGals_eff s k f) (by decide)

theorem Quiet.modPipes {s : State} (h : Quiet s) (k : Nat) (f : Pipe → Pipe) : Quiet (s.modPipes k f) :=
  Eff.of_quiet h (State.modPipes_eff s k f) (by decide)

theorem Quiet.modSess {s : State} (h : Quiet s) (k : Nat) (f : Session → Session) : Quiet (s.modSess k f) :=
  Eff.of_quiet h (State.modSess_eff s k f) (by decide)

theorem Quiet.setItems {s : State} (h : Quiet s) (k : Nat) (i : Item) (hi : i.closes = [] ∧ i.op < 0x60 ∧ i.principal ≠ hubPrincipal ∧ i.cause = none) : Quiet (s.setItems k i) := by
  obtain ⟨h1, h2, h3, h4, h5, h6, h7, h11, h8, h9, h10⟩ := h
  refine ⟨h1, h2, h3, h4, h5, ?_, h7, h11, h8, h9, h10⟩
  rw [List.all_eq_true] at *
  intro e he
  rcases SMap.mem_put (d := Item.reset) (m := s.items) (k := k) (v := i) he with hm | ⟨rfl, -⟩
  · exact h6 e hm
  · simp [hi.1, hi.2.1, hi.2.2.1, hi.2.2.2]

theorem Quiet.dropped {s : State} (h : Quiet s) (k : Nat) : Quiet (s.setItems k Item.reset) :=
  h.setItems k _ ⟨rfl, by decide, by decide, rfl⟩

/-- An open item is as a quiet state wants it. -/
theorem Quiet.item {s : State} (h : Quiet s) (k : Nat) : (s.getItems k).closes = [] ∧ (s.getItems k).op < 0x60 ∧
    (s.getItems k).principal ≠ hubPrincipal ∧ (s.getItems k).cause = none := by
  rcases SMap.get_mem (d := Item.reset) s.items k with hm | hm
  · have := List.all_eq_true.mp h.items _ hm
    simpa [State.getItems, and_assoc] using this
  · unfold State.getItems
    rw [hm]
    exact ⟨rfl, by decide, by decide, rfl⟩

theorem Quiet.modItems {s : State} (h : Quiet s) (k : Nat) (f : Item → Item)
    (hf : ∀ i, i.closes = [] ∧ i.op < 0x60 ∧ i.principal ≠ hubPrincipal ∧ i.cause = none →
      (f i).closes = [] ∧ (f i).op < 0x60 ∧ (f i).principal ≠ hubPrincipal ∧ (f i).cause = none) : Quiet (s.modItems k f) :=
  h.setItems k _ (hf _ (h.item k))

theorem Quiet.modUsb {s : State} (h : Quiet s) (p : Nat) (f : PortUsb → PortUsb) (hf : ∀ u, (f u).loanOwner = u.loanOwner) :
    Quiet (s.modUsb p f) := by
  obtain ⟨h1, h2, h3, h4, h5, h6, h7, h11, h8, h9, h10⟩ := h
  refine ⟨h1, h2, h3, h4, h5, h6, h7, h11, ?_, h9, h10⟩
  have e : ∀ q, ((s.modUsb p f).getUsb q).loanOwner = (s.getUsb q).loanOwner := by
    intro q
    by_cases hq : q = p
    · subst hq; rw [State.getUsb_modUsb_same, hf]
    · rw [State.getUsb_modUsb_other _ _ _ hq]
  simp only [e]
  exact h8

theorem Quiet.modTenants {s : State} (h : Quiet s) (t : Nat) (f : Tenant → Tenant)
    (hf : ∀ x, (f x).stopWait = x.stopWait ∧ (f x).heldItems = x.heldItems ∧ (f x).ports = x.ports) : Quiet (s.modTenants t f) := by
  obtain ⟨h1, h2, h3, h4, h5, h6, h7, h11, h8, h9, h10⟩ := h
  refine ⟨h1, h2, h3, h4, h5, h6, ?_, ?_, ?_, h9, h10⟩
  · have hr : (s.getTenants t).stopWait = none := by
      rcases SMap.get_mem (d := Tenant.reset) s.tenants t with hm | hm
      · simpa [State.getTenants] using List.all_eq_true.mp h7 _ hm
      · unfold State.getTenants; rw [hm]; rfl
    rw [List.all_eq_true] at *
    intro e he
    rcases SMap.mem_put (d := Tenant.reset) (m := s.tenants) (k := t) (v := f (s.getTenants t)) he with hm | ⟨rfl, -⟩
    · exact h7 e hm
    · simp [(hf _).1, hr]
  · have hr : (s.getTenants t).heldItems = [] := by
      rcases SMap.get_mem (d := Tenant.reset) s.tenants t with hm | hm
      · simpa [State.getTenants] using List.all_eq_true.mp h11 _ hm
      · unfold State.getTenants; rw [hm]; rfl
    rw [List.all_eq_true] at *
    intro e he
    rcases SMap.mem_put (d := Tenant.reset) (m := s.tenants) (k := t) (v := f (s.getTenants t)) he with hm | ⟨rfl, -⟩
    · exact h11 e hm
    · simp [(hf _).2.1, hr]
  · have e : ∀ q, ((s.modTenants t f).getTenants q).ports = (s.getTenants q).ports := by
      intro q
      by_cases hq : q = t
      · subst hq; rw [State.getTenants_modTenants_same, (hf _).2.2]
      · rw [State.getTenants_modTenants_other _ _ _ hq]
    have eu : ∀ q, (s.modTenants t f).getUsb q = s.getUsb q := fun _ => rfl
    simp only [e, eu]
    exact h8

theorem Quiet.modFlt {s : State} (h : Quiet s) (f : Flt → Flt) (hf : ∀ x, (f x).escDue = x.escDue) : Quiet (s.modFlt f) := by
  obtain ⟨h1, h2, h3, h4, h5, h6, h7, h11, h8, h9, h10⟩ := h
  exact ⟨h1, h2, h3, h4, (hf _).trans h5, h6, h7, h11, h8, h9, h10⟩

theorem Quiet.modDps {s : State} (h : Quiet s) (f : Dps → Dps) (hf : ∀ x, (f x).request = x.request ∧ (f x).blocked = x.blocked) :
    Quiet (s.modDps f) := by
  obtain ⟨h1, h2, h3, h4, h5, h6, h7, h11, h8, h9, h10⟩ := h
  exact ⟨h1, h2, h3, h4, h5, h6, h7, h11, h8, (hf _).1.trans h9, (hf _).2.trans h10⟩

theorem Quiet.modVault {s : State} (h : Quiet s) (f : Vault → Vault)
    (hf : ∀ x, (f x).ended = x.ended ∧ (f x).jobs = x.jobs ∧ (f x).captures = x.captures) : Quiet (s.modVault f) := by
  obtain ⟨h1, h2, h3, h4, h5, h6, h7, h11, h8, h9, h10⟩ := h
  exact ⟨(hf _).1.trans h1, (hf _).2.1.trans h2, (hf _).2.2.trans h3, h4, h5, h6, h7, h11, h8, h9, h10⟩

theorem Quiet.modMov {s : State} (h : Quiet s) (f : Mov → Mov) (hf : ∀ x, (f x).chans = x.chans) : Quiet (s.modMov f) := by
  obtain ⟨h1, h2, h3, h4, h5, h6, h7, h11, h8, h9, h10⟩ := h
  exact ⟨h1, h2, h3, (hf _).trans h4, h5, h6, h7, h11, h8, h9, h10⟩

@[simp] theorem Quiet.emit {s : State} (o : Sent) : Quiet (s.emit o) ↔ Quiet s :=
  ⟨fun h => ⟨h.1, h.2, h.3, h.4, h.5, h.6, h.7, h.8, h.9, h.10, h.11⟩, fun h => ⟨h.1, h.2, h.3, h.4, h.5, h.6, h.7, h.8, h.9, h.10, h.11⟩⟩

theorem Quiet.takeResync {s : State} (h : Quiet s) (n : Nat) : Quiet (s.takeResync n) := by
  unfold State.takeResync
  split
  exacts [h, h.modPipes _ _]

theorem Quiet.unqueue {s : State} (h : Quiet s) (n k : Nat) : Quiet (s.unqueue n k) := by
  unfold State.unqueue
  split
  exacts [(h.modPipes _ _).takeResync _, h.modPipes _ _]

/-- An item whose own waiting is all that keeps a state from being quiet leaves it quiet when it is dropped. -/
theorem Quiet.dropItem' {s : State} {k : Nat} (h : Quiet (s.setItems k Item.reset)) (i : Item) : Quiet (s.dropItem k i) := by
  unfold State.dropItem
  cases i.pipe <;> simp only
  · split
    · exact h
    · apply Quiet.modProt; apply Quiet.modUsb
      · exact h
      · intro _; rfl
  · split
    · exact h.unqueue _ _
    · apply Quiet.modProt; apply Quiet.modUsb
      · exact h.unqueue _ _
      · intro _; rfl

theorem Quiet.dropItem {s : State} (h : Quiet s) (k : Nat) (i : Item) : Quiet (s.dropItem k i) := (h.dropped k).dropItem' i

theorem Quiet.finishB' {s : State} {k : Nat} (h : Quiet (s.setItems k Item.reset)) (out det : Nat) (body : Bytes) {i : Item}
    (hi : s.item? k = some i) (hp : i.principal ≠ hubPrincipal) : Quiet (s.finishB k out det body) := by
  unfold State.finishB
  rw [hi]
  have hd := h.dropItem' i
  simp only [hp, if_false]
  split
  · exact hd.modSess _ _
  · apply Quiet.modSess; apply Quiet.modTenants
    · exact hd
    · intro _; exact ⟨rfl, rfl, rfl⟩

/-! ### Open items -/

theorem Machine.SMap.find_put_same {α : Type} [DecidableEq α] {d : α} (m : SMap α) (k : Nat) {v : α} (hv : v ≠ d) :
    (SMap.put d m k v).find? (fun e => decide (e.1 = k)) = some (k, v) := by
  induction m with
  | nil => simp [SMap.put, hv]
  | cons e m ih =>
    obtain ⟨j, w⟩ := e
    simp only [SMap.put, hv, if_false]
    split
    · simp
    · split
      · simp
      · rename_i h1 h2
        rw [List.find?_cons_of_neg (by simp; omega)]
        exact ih

theorem Machine.State.item?_setItems {s : State} {k : Nat} {i : Item} (h : i ≠ Item.reset) : (s.setItems k i).item? k = some i := by
  unfold State.item?
  have : (s.setItems k i).items = SMap.put Item.reset s.items k i := rfl
  rw [this, SMap.find_put_same _ _ h]
  rfl

theorem Machine.SMap.find_get {α : Type} {d : α} {m : SMap α} {k : Nat} {v : Nat × α} (h : m.find? (fun e => decide (e.1 = k)) = some v) :
    SMap.get d m k = v.2 := by
  induction m with
  | nil => cases h
  | cons e m ih =>
    obtain ⟨j, w⟩ := e
    by_cases hj : j = k
    · subst hj
      simp at h
      subst h
      simp [SMap.get]
    · rw [List.find?_cons_of_neg (by simpa using hj)] at h
      rw [SMap.get, if_neg hj]
      exact ih h

theorem Machine.State.getItems_of_item? {s : State} {k : Nat} {i : Item} (h : s.item? k = some i) : s.getItems k = i := by
  unfold State.item? at h
  rw [Option.map_eq_some_iff] at h
  obtain ⟨e, he, rfl⟩ := h
  exact SMap.find_get he

theorem Quiet.finishB {s : State} (h : Quiet s) (k out det : Nat) (body : Bytes) : Quiet (s.finishB k out det body) := by
  cases hi : s.item? k with
  | none => unfold State.finishB; rw [hi]; exact h
  | some i => exact (h.dropped k).finishB' out det body hi (by rw [← State.getItems_of_item? hi]; exact (h.item k).2.2.1)

end Sys2Proof
end

