-- ==== Sys2Proof/Laws/Records.lean ====
section
/-!
SUPPORT. What a command record does once it has passed the checks of every record: its item is open and its command is done.
-/
set_option Elab.async false
namespace Sys2Proof.Machine

theorem SMap.length_erase_le {α : Type} (m : SMap α) (k : Nat) (p : Nat × α → Bool) :
    ((SMap.erase m k).filter p).length ≤ (m.filter p).length := by
  induction m with
  | nil => exact Nat.le_refl _
  | cons e m ih =>
    obtain ⟨j, w⟩ := e
    unfold SMap.erase
    have : (m.filter p).length ≤ (((j, w) :: m).filter p).length := by
      rw [List.filter_cons]; split <;> simp
    split
    · exact ih.trans this
    · rw [List.filter_cons, List.filter_cons]; split
      · simpa using ih
      · exact ih

theorem SMap.length_put_le {α : Type} [DecidableEq α] {d : α} (m : SMap α) (k : Nat) (v : α) (p : Nat × α → Bool) :
    ((SMap.put d m k v).filter p).length ≤ (m.filter p).length + 1 := by
  have hc : ∀ (l : SMap α) e, (l.filter p).length ≤ ((e :: l).filter p).length ∧ ((e :: l).filter p).length ≤ (l.filter p).length + 1 := by
    intro l e
    rw [List.filter_cons]; split <;> simp
  induction m with
  | nil =>
    unfold SMap.put
    split
    · simp
    · exact (hc [] _).2
  | cons e m ih =>
    obtain ⟨j, w⟩ := e
    unfold SMap.put
    split
    · split
      · exact Nat.le_succ_of_le (SMap.length_erase_le _ _ _)
      · exact (hc _ _).2
    · split
      · split
        · exact Nat.le_succ_of_le ((SMap.length_erase_le _ _ _).trans (hc _ _).1)
        · exact (hc _ _).2.trans (Nat.add_le_add_right (hc _ _).1 1)
      · rw [List.filter_cons, List.filter_cons]; split
        · simpa using ih
        · exact ih

@[simp] theorem State.arrive_item? (s : State) (r : Rec) (op : Nat) (ho : op ≠ 0) :
    (s.arrive r op).item? (keyOf s r) = some (itemOf s r op) := by
  refine State.item?_setItems ?_
  intro e
  have : (itemOf s r op).op = Item.reset.op := by rw [e]
  exact ho this

@[simp] theorem State.arrive_sess (s : State) (r : Rec) (op : Nat) :
    (s.arrive r op).getSess r.sess = { s.getSess r.sess with expect := (s.getSess r.sess).expect + 1, gapTold := false } :=
  SMap.get_put_same _ _ _

theorem State.arrive_early {s : State} {r : Rec} {n : Nat} (h : Accepted s r n) (op : Nat) (served start : Bool)
    (hs : served = true ∨ s.flt.safeStop = false) (hr : served = true ∨ start = true ∨ (s.getTenants (owner s r)).stopped = false) :
    (s.arrive r op).earlyEnd (itemOf s r op) served start false n = none := by
  have hl : ((s.arrive r op).sessItems r.sess).length ≤ (s.sessItems r.sess).length + 1 := by
    unfold State.sessItems State.itemsWhere
    rw [List.length_map, List.length_map]
    exact SMap.length_put_le _ _ _ _
  have hroom := h.room
  unfold State.earlyEnd
  have e1 : (s.arrive r op).flt = s.flt := rfl
  have e2 : ∀ t, (s.arrive r op).getTenants t = s.getTenants t := fun _ => rfl
  have e3 : (itemOf s r op).sess = r.sess := rfl
  have e4 : (itemOf s r op).principal = owner s r := rfl
  have e5 : (itemOf s r op).body = r.body := rfl
  simp only [e1, e2, e3, e4, e5, State.arrive_sess]
  rw [if_neg (by rcases hs with hs | hs <;> simp [hs]), if_neg h.loan, if_neg (by simp), if_neg (by have := h.body; omega),
    if_neg (by simp [h.opened]), if_neg (by omega), if_neg (by rcases hr with hr | hr | hr <;> simp [hr])]

/-- A record that passes every check is handed to its command. -/
theorem State.takeRec_accepted {s : State} {r : Rec} {n : Nat} (h : Accepted s r n) (op : Nat) (served start : Bool)
    (run : State → Nat → Item → State)
    (hs : served = true ∨ s.flt.safeStop = false) (hr : served = true ∨ start = true ∨ (s.getTenants (owner s r)).stopped = false) :
    s.takeRec op r served start false n run = run (s.arrive r op) (keyOf s r) (itemOf s r op) := by
  have he := State.arrive_early h op served start hs hr
  unfold State.takeRec
  rw [if_neg (by simp [h.opened]), if_neg (by simp [h.block, h.expect])]
  simp only [State.arrive, keyOf, itemOf, owner] at he ⊢
  rw [he]

theorem State.takeRec_taken {s : State} {r : Rec} {n : Nat} (h : Taken s r n) (op : Nat) (served start : Bool)
    (run : State → Nat → Item → State) :
    s.takeRec op r served start false n run = run (s.arrive r op) (keyOf s r) (itemOf s r op) :=
  State.takeRec_accepted h.toAccepted op served start run (Or.inr h.safe) (Or.inr (Or.inr h.running))

@[simp] theorem State.unqueue_sess (s : State) (n k : Nat) : (s.unqueue n k).sess = s.sess := by
  unfold State.unqueue State.takeResync
  simp only
  split
  · split <;> rfl
  · rfl

/-- A completion formed for an open item of a record is the last record of its session. -/
theorem Answered.finishB {s u : State} {r : Rec} {i : Item} {out det : Nat} {body : Bytes} (hu : u.item? (keyOf s r) = some i)
    (hi : i.sess = r.sess ∧ i.acc = r.acc ∧ i.principal ≤ 64 ∧ i.cause = none ∧ u.periodicItem i = false) (hl : (u.getSess r.sess).live = true)
    (hq : (s.getSess r.sess).txQueue <+: (u.getSess r.sess).txQueue) :
    Answered s (u.finishB (keyOf s r) out det body) r out det body := by
  have hd : (u.dropItem (keyOf s r) i).sess = u.sess := by
    unfold State.dropItem
    cases i.pipe <;> simp only <;> split
    exacts [rfl, rfl, State.unqueue_sess _ _ _, State.unqueue_sess _ _ _]
  have hg : (u.dropItem (keyOf s r) i).getSess r.sess = u.getSess r.sess := by
    unfold State.getSess; rw [hd]
  unfold State.finishB
  rw [hu]
  have hp : i.principal ≠ hubPrincipal := by have := hi.2.2.1; unfold hubPrincipal; omega
  simp only [hp, if_false, hi.1, hi.2.1, hi.2.2.2.1, hi.2.2.2.2, hl, if_true, bestCause]
  refine ⟨_, i.isIn, i.moved, match i.pipe with | some n => u.pipeWord n | none => 0, u.portCount (u.itemPort i), hq, ?_⟩
  rw [State.getSess_modSess_same, hg]
  cases i.pipe <;> rfl

theorem Quiet.arrive {s : State} (h : Quiet s) (r : Rec) (op : Nat) (ho : op < 0x60) (ht : owner s r ≤ 64) :
    Quiet (s.arrive r op) :=
  Quiet.setItems (h.modSess _ _) _ _ ⟨rfl, ho, by show owner s r ≠ 127; omega, rfl⟩

theorem SMap.mem_erase_ne {α : Type} {m : SMap α} {k : Nat} {e : Nat × α} (h : e ∈ SMap.erase m k) : e.1 ≠ k := by
  induction m with
  | nil => cases h
  | cons x m ih =>
    obtain ⟨j, w⟩ := x
    unfold SMap.erase at h
    split at h
    · exact ih h
    · rename_i hj
      rcases List.mem_cons.mp h with rfl | h
      · exact hj
      · exact ih h

theorem SMap.mem_put_default {α : Type} [DecidableEq α] {d : α} {m : SMap α} {k : Nat} {e : Nat × α} (h : e ∈ SMap.put d m k d) :
    e ∈ m ∧ e.1 ≠ k := by
  induction m with
  | nil => simp [SMap.put] at h
  | cons x m ih =>
    obtain ⟨j, w⟩ := x
    simp only [SMap.put, if_true] at h
    split at h
    · exact ⟨SMap.mem_erase h, SMap.mem_erase_ne h⟩
    · split at h
      · exact ⟨List.mem_cons_of_mem _ (SMap.mem_erase h), SMap.mem_erase_ne h⟩
      · rename_i h1 h2
        rcases List.mem_cons.mp h with rfl | h
        · exact ⟨by simp, fun e => h2 e.symm⟩
        · exact ⟨List.mem_cons_of_mem _ (ih h).1, (ih h).2⟩

/-- With its item dropped again, a record leaves a quiet state quiet, whatever its opcode. -/
theorem Quiet.arrived {s : State} (h : Quiet s) (r : Rec) (op : Nat) :
    Quiet ((s.arrive r op).setItems (keyOf s r) Item.reset) := by
  obtain ⟨h1, h2, h3, h4, h5, h6, h7, h11, h8, h9, h10⟩ := h
  refine ⟨h1, h2, h3, h4, h5, ?_, h7, h11, h8, h9, h10⟩
  rw [List.all_eq_true] at *
  intro e he
  obtain ⟨hm, hk⟩ := SMap.mem_put_default (d := Item.reset) (m := (s.arrive r op).items) he
  rcases SMap.mem_put (d := Item.reset) (m := s.items) (k := keyOf s r) (v := itemOf s r op) hm with hs | ⟨rfl, -⟩
  · exact h6 e hs
  · exact absurd rfl hk

/-- Only the clocks differ after the pass of a quiet state, so a completion stays the last record. -/
theorem Answered.settle {s u : State} {r : Rec} {out det : Nat} {body : Bytes} (h : Answered s u r out det body) (q : Quiet u) :
    Answered s u.settle r out det body := by
  have e := (State.settle_eff_quiet q).sess (by decide)
  obtain ⟨a, b, c, d, f, h1, h2⟩ := h
  exact ⟨a, b, c, d, f, h1, by unfold State.getSess; rw [e]; exact h2⟩

end Sys2Proof.Machine
end

