-- ==== Sys2Proof/Tests/Slice0.lean ====
section
/-!
SUPPORT. Small tests of the model: ill-formed commands that WellFormed refuses, single steps on small states, and, for each
statement, states and operands that meet its hypotheses.
-/
set_option Elab.async false
namespace Sys2Proof
open Machine

/-- A setting of a small state. -/
def Machine.State.setCfg (s : State) (idx sub v : Nat) : State := s.setEff idx sub (natLE 4 v)

end Sys2Proof

namespace Sys2Proof.Tests
open Machine

/-! ### Small states -/

/-- Session 5 of tenant 1 Open, with room for items. -/
def wSess : State := State.reset.modSess 5 (fun x => { x with state := .opened, tenant := 1, block := 7, itemLimit := 4 })

/-- Pipe 12288 of tenant 1, a bulk OUT pipe of device 3 on port 1. -/
def wPipe : State := wSess.setPipes 12288 { Pipe.reset with
  state := .opened, typ := 2, port := 1, address := 3, endpoint := 1, tenant := 1, cls := 2, speed := 3, maxPacket := 512 }

/-- A record of session 5 with a body. -/
def wRec (b : Bytes) : Rec := { sess := 5, acc := 7 * 4294967296, deadline := 0, body := b }

/-- Device 3 of a port. -/
def wDev : Device where
  addr := 3
  depth := 1
  parent := 0
  parentPort := 0
  isHub := false
  speed := .hs
  desc := []
  serial := []
  requests := []
  map := []
  multiTt := false
  think := 0

/-- Port 1 on loan to tenant 1, with device 3. -/
def wOpen : State := (wSess.modUsb 1 (fun u => { u with loanOwner := 1, speed := .hs, devices := [wDev] })).modTenants 1
  (fun x => { x with ports := 1 })

/-- A PIPE_OPEN of a bulk OUT endpoint of device 3 on port 1. -/
def wOpenRec : Rec := wRec [1, 3, 1, 2, 2, 0, 0, 0, 0, 2, 0, 0, 0, 0, 0, 0]

/-- An open OUT item of session 5. -/
def wItem : Item := { Item.reset with sess := 5, principal := 1, acc := 7 * 4294967296, op := 0x30, pipe := some 12288, length := 2 }

/-- The same session and pipe with that item. -/
def wOut : State := wPipe.setItems (itemKey 1 (7 * 4294967296)) wItem

/-- Port 1 on loan to tenant 1, attached, with its switch Off; the package in service and in Run. -/
def wPort : State := (((wOpen.setCfg 0x4012 1 15000).modPwr 1 (fun x => { x with cc := .attached })).modDps (fun d => { d with state := .run })).modBoot
  (fun b => { b with phase := .service })

/-- Port 1 Enabled, with device 3. -/
def wTree : State := wPort.modUsb 1 (fun u => { u with state := .enabled })

/-- An enumeration of a root device in hand. -/
def wEnumOf (st : EnumStep) : Enum where
  parent := 0
  parentPort := 0
  depth := 1
  speed := .hs
  prev := 0
  addr := 0
  step := st
  tries := 0
  desc := []
  serial := []
  ports := 0
  multiTt := false
  think := 0

/-- Port 1 Enabled, with that enumeration. -/
def wEnum (st : EnumStep) : State := wTree.modUsb 1 (fun u => { u with enums := [wEnumOf st] })

/-- The package in service and in Run. -/
def wRun : State := (State.reset.modDps (fun d => { d with state := .run })).modBoot (fun b => { b with phase := .service })

/-- Port 1 attached with its switch On and PD enabled. -/
def wPd : State := ((wPort.modRegs (fun r => { r with inService := true })).setCfg 0x4018 1 1).modProt 1 (fun x => { x with sw := .on, gate := true, vbusGood := true })

/-- The 5 V, 3 A object. -/
def wOffer : Offer := { pos := 1, kind := .fixed, vMin := 500, vMax := 500, iMax := 300, pdp := 0 }

/-- Session 5 with upstream link 1 in Member. -/
def wNet : State := (wSess.setLink 1 { state := .member, txq := 0, queue := [] }).modSess 5 (fun x => { x with bufKib := 64 })

/-- A frame that came on link 1, to its own address and the Isaix port, with a good checksum. -/
def wVia : Arrival := ⟨1, State.reset.cfgB 0x2201 1, State.reset.cfg 0x2202 5, .good, zeros 16, 4000⟩

/-- A data frame of session 5. -/
def wFrame : Frame where
  via := wVia
  typ := 1
  sess := 5
  tenant := 1
  version := 1
  stalled := false
  retx := false
  ackValid := false
  seq := 0
  sacks := []
  ack := 0
  window := 0
  txc := 9
  tsval := 0
  tsecr := 0
  tagOk := true
  payload := []

/-- Tenant 1 on loan, with a transport key and pools, and link 1 in Member. -/
def wOpening : State := ((State.reset.setLink 1 { state := .member, txq := 0, queue := [] }).modTenants 1 (fun x => { x with loan := .active })).modBoot
  (fun b => { b with secrets := SMap.put [] b.secrets 1 [7] })

/-- An OPEN of tenant 1. -/
def wOpenFrame : OpenFrame := { via := wVia, typ := 4, version := 1, tsval := 0, tenant := 1, txc := 1, tagOk := true, payload := [1, 1] ++ zeros 30 }

/-- A package in service and in Run that holds quorum in a Collection of three members, of which it is the first. -/
def wColl : State := ((wRun.setCfg 0x7000 2 3).setCfg 0x7000 1 1).modColl (fun c => { c with quorum := true, key := some [1], voters := [(2, ⟨true, true, 0, some 5, 0, 0, true⟩)] })

/-- The same, with a transport key for tenant 1 and a power term. -/
def wLend : State := (wColl.modBoot (fun b => { b with secrets := SMap.put [] b.secrets 1 [7] })).setCfg 0x6002 1 5000

/-- A message from member 2. -/
def wHdr (q : Nat) : NqHeader := ⟨2, 0, q, true⟩

/-- A lock message about lock 9. -/
def wLock (op st : Nat) : LockMsg := ⟨9, op, 2, 44, 3, 0, 0, st, false⟩

/-- The package in service and in Run, with CAN FD in an NMT state. -/
def wCan (n : Nmt) : State := wRun.modCan (fun c => { c with nmt := n })

/-- An open segmented download. -/
def wXfer : SdoXfer := ⟨0x2205, 1, false, false, [1, 2, 3, 4, 5, 6, 7, 8, 9], true, 0, false, none⟩

/-- TPDO 1 valid, with one mapped value and an event timer. -/
def wTpdo : State := ((((wCan .operational).setCfg 0x1800 1 0x190).setCfg 0x1800 5 100).setCfg 0x1A00 0 1).setCfg 0x1A00 1 0x82A30010

/-- A read request record for 0x1017:00. -/
def wRead : Bytes := [1, 9, 0x17, 0x10, 0, 0, 2, 0, 0, 0, 0, 0]

/-- The service port with data on and `n` requests outstanding. -/
def wSvc (n : Nat) : State := (wRun.modSvc (fun v => { v with data := true })).modBoard (fun b => { b with svcQueue := List.replicate n (true, [0]) })

/-- A house session 5 in a package in service and in Run. -/
def wHouse : State := wRun.modSess 5 (fun x => { x with state := .opened, tenant := 0, block := 7, itemLimit := 4 })

/-- A Catalogue record of session 5. -/
def wCat (idx sub len : Nat) (d : Bytes) : Rec := wRec (natBE 2 idx ++ natBE 1 sub ++ zeros 1 ++ zeros 4 ++ natBE 2 len ++ zeros 6 ++ d)

/-- A row of the object table. -/
def wObj (idx sub : Nat) : Obj := (findRow idx sub objTable).getD ⟨0, 0, 0, 0, .u8, .no, .no, none, .any, none, .nat 0⟩

/-- The same as wRun, with VOTE_STAT.IN_SERVICE set. -/
def wServ : State := wRun.modRegs (fun r => { r with inService := true })

/-- The Custodian's link lost, and the slot of that fault held. -/
def wCustLost : State := (State.reset.setDieLink 7 { State.reset.dieLink 7 with lost := true }).setSlot 0
  { Slot.reset with source := 4, inst := 0, state := .armed }

/-- A package waking from a state, with domains up. -/
def wWake (f : PwrState) (up : List Domain) : State :=
  wServ.modDps (fun d => { d with state := .waking, fromState := f, domainsUp := up })

/-- Session 5 of tenant 1, whose allotment is the two regions of drive 1, with the Vault enabled, in service and in Run. -/
def wVault : State := (((((wSess.modDps (fun d => { d with state := .run })).modBoot (fun b => { b with phase := .service })).modRegs
  (fun r => { r with inService := true })).modTenants 1 (fun x => { x with extents := [(0, 2)] })).setDrive 1 ⟨true, false, 0⟩).modVault
  (fun v => { v with enabled := true, ns := [(1, ⟨1, 1, 1, 0, 2⟩)], regions := 2 })

/-- An NVMe command for region 0. -/
def wNvme (op : Nat) : Nvme := { Nvme.reset with drive := 1, op := op, blocks := 256, data := [1, 2, 3], issued := true }

/-- The same with that command in hand. -/
def wCmd (op : Nat) : State := wVault.modVault (fun v => { v with cmds := [(3, wNvme op)] })

/-- A template with chunks of one block, commands of one byte and a status of `n` bytes. -/
def wTmpl (n : Nat) : Bytes := [1, 0, 1, 0, 1] ++ natLE 1 n ++ zeros 2 ++ natLE 4 100 ++ zeros 340

/-- An open bulk pipe of tenant 1 and device 3 on port 1. -/
def wBulk (inward : Bool) : Pipe := { Pipe.reset with
  state := .opened, typ := 2, dirIn := inward, port := 1, address := 3, endpoint := 1, tenant := 1, cls := 2, speed := 3, maxPacket := 512 }

/-- Port 1 on loan to tenant 1 with two OUT pipes, and a template without a status phase. -/
def wFan : State := (((((wVault.modUsb 1 (fun u => { u with loanOwner := 1, speed := .hs, devices := [wDev] })).modTenants 1
  (fun x => { x with ports := 1 })).setPipes 12288 (wBulk false)).setPipes 12289 (wBulk false)).modVault
  (fun v => { v with templates := [(8, wTmpl 0)] }))

/-- A FANOUT_START of two blocks from upstream to device 3. -/
def wFanRec : Rec := wRec ([0, 1] ++ natBE 2 1 ++ zeros 4 ++ zeros 8 ++ natBE 4 2 ++ zeros 12 ++
  natBE 2 259 ++ zeros 2 ++ natBE 4 12288 ++ natBE 4 12289 ++ zeros 8 ++ natBE 4 0 ++ natBE 8 0)

/-- The item of a running job. -/
def wJobItem : Item := { Item.reset with sess := 5, principal := 1, acc := 77, op := 0x65, stage := 1 }

/-- Job 15 of tenant 1 with one target in an exchange. -/
def wJob (st : TgtState) : State := (wVault.setJob 15 { Job.reset with
  active := true, taken := true, principal := 1, acc := 77, item := itemKey 1 77, tmpl := wTmpl 1, blocks := 2, window := 4, head := 1
  targets := [{ Target.reset with device := 259, cmd := 12288, out := 12289, state := st, busy := true }] }).setItems (itemKey 1 77) wJobItem

/-- Port 1 with an IN pipe of tenant 1. -/
def wCapt : State := wFan.setPipes 12289 (wBulk true)

/-- A running capture of tenant 1. -/
def wCaptOf : Capt := { Capt.reset with item := itemKey 1 77, acc := 77, principal := 1, pipe := 12289, blocks := 4, recBlocks := 2 }

/-- The package with that capture. -/
def wCapture : State := (wCapt.modVault (fun v => { v with captures := [wCaptOf] })).setItems (itemKey 1 77)
  { Item.reset with sess := 5, principal := 1, acc := 77, op := 0x68, stage := 1 }

/-- A descriptor that is the last of its list. -/
def wDesc : Bytes := [0, 4] ++ zeros 62

/-- A descriptor whose source is a pipe and that halts on a short transfer. -/
def wPipeDesc : Bytes := [2, 2] ++ zeros 6 ++ natLE 8 12288 ++ natLE 4 8 ++ zeros 4 ++ natLE 4 1 ++ zeros 36

/-- A descriptor that uses unit 8. -/
def wUnitDesc : Bytes := [0, 8, 8, 0] ++ zeros 60

/-- Channel 16 moves 4 bytes of the area from 256 to 512. -/
def wArea : State := ((wServ.setCfg 0x2400 1 64).modMov (fun m => { m with area := [(256, 1), (257, 2), (259, 4)] })).setChan 16
  { Chan.reset with
    state := .running, cur := 1024
    desc := [0, 4] ++ zeros 6 ++ natLE 8 256 ++ natLE 4 4 ++ zeros 4 ++ natLE 4 1 ++ zeros 4 ++ natLE 8 512 ++ natLE 4 4 ++ zeros 4 ++
      natLE 4 1 ++ zeros 12 }

/-! ### Ill-formed commands -/

theorem test_wf_port : (Instr.prechargeDone 97).wf = false ∧ (Instr.prechargeDone 0).wf = false := by decide

theorem test_wf_gallery_pll : (Instr.pllLock (.gallery 13)).wf = false ∧ (Instr.pllLock (.gen1 5)).wf = false := by decide

theorem test_wf_path : (Instr.heldTransferTimeout (.tenant 1024)).wf = false ∧ (Instr.heldTransferTimeout (.house 1024)).wf = false := by decide

theorem test_wf_record : (Instr.pipeOpen ⟨1024, 0, 0, []⟩).wf = false ∧ (Instr.pipeOpen ⟨0, 281474976710656, 0, []⟩).wf = false ∧
    (Instr.pipeOpen ⟨0, 0, 4294967296, []⟩).wf = false := by decide

theorem test_wf_frame : (Instr.isaixDataFrame { wFrame with tenant := 65 }).wf = false ∧
    (Instr.isaixDataFrame { wFrame with sess := 65536 }).wf = false ∧
    (Instr.isaixDataFrame { wFrame with sacks := List.replicate 5 (0, 0) }).wf = false := by decide

theorem test_wf_open : (Instr.openSession { wOpenFrame with tenant := 65 }).wf = false := by decide

theorem test_wf_sender : (Instr.quorumWindowExpiry 17).wf = false ∧ NqHeader.wf ⟨17, 0, 0, true⟩ = false := by decide

theorem test_wf_tpdo : (Instr.tpdoEventTimerExpiry 0).wf = false ∧ (Instr.tpdoEventTimerExpiry 5).wf = false := by decide

theorem test_wf_address : (Instr.registerReadClear 67108864).wf = false := by decide

theorem test_wf_upstream_link : (Instr.upstreamLinkFault 9).wf = false := by decide

theorem test_wf_die_link : (Instr.linkUnitError 8).wf = false := by decide

theorem test_wf_device : (Instr.addressRelease 1 128).wf = false := by decide

theorem test_wf_pipe : (Instr.pipeFree 1048576).wf = false := by decide

theorem test_wf_deadline : (Instr.deadlineExpiry 65 0).wf = false ∧ (Instr.deadlineExpiry 1 281474976710656).wf = false := by decide

theorem test_wf_job : (Instr.exchangeStatus 16 0 []).wf = false := by decide

theorem test_wf_channel : (Instr.descriptorEnd 32 []).wf = false := by decide

theorem test_wf_unit : (Instr.checkUnitFree 16).wf = false := by decide

theorem test_wf_slot : (Instr.reactionTimeExpiry 32).wf = false := by decide

theorem test_wf_drive : (Instr.driveLinkDown 9).wf = false := by decide

theorem test_wf_lock : (Instr.lockBreak 256 .can).wf = false := by decide

theorem test_wf_tenant : (Instr.leaseExpiry 65).wf = false := by decide

theorem test_wf_session : (Instr.openTimeout 1024).wf = false := by decide

/-! ### Numbers the specification gives -/

/-- 00, Conventions: port 37 belongs to gallery 5, and gallery 5 to wing 2; 01, worked example: port 61. -/
theorem test_units : galOf 37 = 5 ∧ wingOfGal 5 = 2 ∧ galOf 61 = 8 ∧ wingOf 61 = 3 ∧ portDie 61 = 2 ∧ sentryDie 61 = 4 := by decide

/-- 01, worked example: the register blocks of port 61 and of gallery 8. -/
theorem test_blocks : portAt 0x13C000 = some (61, 0) ∧ galAt 0x187000 = some (8, 0) := by decide

/-- 02 R74: the alias of CUST_STAT.WRITE_LOST. -/
theorem test_alias : aliasAt 0xE00204 = some (0x10, 1) := by decide

/-- 02 R75: a mismatch in the block of port 61 names port die B. -/
theorem test_die : regDie 0x13C000 = 2 := by decide

/-- 02 R488: 3,000 for 0x4012:p and 5 for 0x4026:p. -/
theorem test_gap : ((findRow 0x4012 61 objTable).map (fun o => o.vset.check 3000)) = some 0x06090030 ∧
    ((findRow 0x4026 61 objTable).map (fun o => o.vset.check 5)) = some 0x06090030 := by decide +kernel

/-- 02 R41: the highest subindices of 0x2010 and 0x2203. -/
theorem test_sub0 : leNat (State.reset.readObj 0 0x2010 0) = 4 ∧ leNat (State.reset.readObj 0 0x2203 0) = 5 := by decide +kernel

/-- 11, Unit configurations and check values: CRC-32 over "123456789". -/
theorem test_crc32 : crc32 [0x31, 0x32, 0x33, 0x34, 0x35, 0x36, 0x37, 0x38, 0x39] = 0xCBF43926 := by decide +kernel

/-- 11, Unit configurations and check values: CRC-64 over "123456789". -/
theorem test_crc64 : crc64 [0x31, 0x32, 0x33, 0x34, 0x35, 0x36, 0x37, 0x38, 0x39] = 0x995DC9BBDF1939FA := by decide +kernel

/-- 08, worked example: the webcam's charges on port 18. -/
theorem test_charge : { Pipe.reset with typ := 1, maxPacket := 1024, mult := 2 }.hsNs = 62434 ∧
    { Pipe.reset with typ := 3, maxPacket := 64 }.hsNs = 4889 := by decide +kernel

/-- 08, worked example: the full-speed wire charges on port 20. -/
theorem test_wire : { Pipe.reset with typ := 1, speed := 2, maxPacket := 192 }.wireNs false = 158334 ∧
    { Pipe.reset with typ := 1, speed := 2, maxPacket := 3 }.wireNs false = 11334 := by decide +kernel

/-- 14 R374 and worked example: 3.3 A through 5 milliohm is 3,300 sample units, and a level beyond the ADC is held at 8,190. -/
theorem test_breakpoint : (breakpoint 1100 3000 5000).1 = 3300 ∧ (breakpoint 4000 3000 5000).1 = 8190 := by decide

/-- 02, worked example: the SDO write of 27,000 mW to 0x4012:3D where the gallery has no room is answered by abort 0x06090031 at
COB-ID 0x590. -/
theorem test_sdo_abort : ((wCan .operational).sdoDownload ⟨0x4012, 0x3D, true, false, some 4, [0x78, 0x69, 0, 0]⟩).sent =
    [.can 0x590 [0x80, 0x12, 0x40, 0x3D, 0x31, 0x00, 0x09, 0x06]] := by decide +kernel

/-- 02, worked example: with room in the gallery the same write is confirmed, and its value is pending on a port without a
contract that is Withheld. -/
theorem test_sdo_pending : (fun t : State => t.sent = [.can 0x590 [0x60, 0x12, 0x40, 0x3D, 0, 0, 0, 0]] ∧ t.cat.pend.length = 1)
    (((((wCan .operational).setCfg 0x3010 8 40000).setCfg 0x2040 1 40000).modPwr 61 (fun w => { w with cc := .withheld })).sdoDownload
      ⟨0x4012, 0x3D, true, false, some 4, [0x78, 0x69, 0, 0]⟩) := by decide +kernel

/-- The table of commands gives bits to no row. -/
theorem test_no_word : decodeTableWord 8 0 = none := rfl

/-! ### Hypotheses that hold together -/

/-- The hypotheses of the statement PipeRecordsComplete can hold together. -/
theorem witness_PipeRecordsComplete :
    (∃ (s : State) (r : Rec) (n : Nat), (Quiet s) ∧
    (Accepted s r 8) ∧
    (beNat (slice r.body 0 4) % 1048576 = n) ∧
    (s.holdsPipe (owner s r) n = true) ∧
    (s.groupItems n = [])) ∧
    (∃ (s : State) (r : Rec) (n : Nat), (Quiet s) ∧
    (Taken s r 8) ∧
    (beNat (slice r.body 0 4) % 1048576 = n) ∧
    (s.holdsPipe (owner s r) n = true) ∧
    (s.groupItems n = [])) ∧
    (∃ (s : State) (r : Rec) (n : Nat), (Quiet s) ∧
    (Taken s r 8) ∧
    (beNat (slice r.body 0 4) % 1048576 = n) ∧
    (s.holdsPipe (owner s r) n = true)) :=
  ⟨⟨wPipe, wRec [0, 0, 0x30, 0, 0, 0, 0, 0], 12288, by constructor <;> decide +kernel, by constructor <;> decide +kernel, by decide +kernel⟩,
    ⟨wPipe, wRec [0, 0, 0x30, 0, 0, 0, 0, 0], 12288, by constructor <;> decide +kernel, by refine ⟨⟨?_, ?_, ?_, ?_, ?_, ?_, ?_, ?_⟩, ?_, ?_⟩ <;> decide +kernel, by decide +kernel⟩,
    ⟨wPipe, wRec [0, 0, 0x30, 0, 1, 0, 0, 0], 12288, by constructor <;> decide +kernel, by refine ⟨⟨?_, ?_, ?_, ?_, ?_, ?_, ?_, ?_⟩, ?_, ?_⟩ <;> decide +kernel, by decide +kernel⟩⟩

/-- The hypotheses of the statement PipeOpenCompletes can hold together. -/
theorem witness_PipeOpenCompletes :
    (∃ (s : State) (r : Rec) (p a : Nat) (d : Device) (x : Pipe), (Quiet s) ∧
    (Taken s r 16) ∧
    (handleOf (beNat (slice r.body 0 2)) = some (p, a)) ∧
    (s.holdsPort (owner s r) p = true) ∧
    ((s.getUsb p).device? a = some d) ∧
    (a ≠ 0) ∧
    (d.isHub = false) ∧
    (x = s.pipeOf (itemOf s r 0x20) p a d) ∧
    (beNat (slice r.body 3 1) ≤ 3) ∧
    (bitsOf (beNat (slice r.body 2 1)) 4 3 = 0) ∧
    (pipeRules x (beNat (slice r.body 10 2)) = true) ∧
    (s.hasPipe x = false) ∧
    (1 + beNat (slice r.body 10 2) ≤ s.ctxFree) ∧
    ((owner s r = 0 ∨ s.ctxHeld (owner s r) + 1 + beNat (slice r.body 10 2) ≤ s.cfg 0x6014 (owner s r))) ∧
    ((x.reserved = true → (s.admitPipe x).1 = 0))) :=
  ⟨wOpen, wOpenRec, 1, 3, wDev, wOpen.pipeOf (itemOf wOpen wOpenRec 0x20) 1 3 wDev, by constructor <;> decide +kernel, by refine ⟨⟨?_, ?_, ?_, ?_, ?_, ?_, ?_, ?_⟩, ?_, ?_⟩ <;> decide +kernel, by decide +kernel⟩

/-- The hypotheses of the statement TransfersQueue can hold together. -/
theorem witness_TransfersQueue :
    (∃ (s : State) (r : Rec) (n : Nat), (Quiet s) ∧
    (Taken s r 28) ∧
    (NoResult s) ∧
    (s.dps.state = .run) ∧
    (beNat (slice r.body 0 4) % 1048576 = n) ∧
    (s.holdsPipe (owner s r) n = true) ∧
    (s.xferRefusal (s.xferItem (itemOf s r 0x30) n) n = none) ∧
    ((s.getPipes n).typ ≠ 1)) ∧
    (∃ (s : State) (r : Rec) (i : Item), (Quiet s) ∧
    (NoResult s) ∧
    (((s.getSess r.sess).state = .opened ∨ (s.getSess r.sess).state = .draining)) ∧
    (s.item? (keyOf s r) = some i) ∧
    (i.sess = r.sess) ∧
    (i.op = 0x30) ∧
    (i.isIn = false) ∧
    (8 ≤ r.body.length) ∧
    (beNat (slice r.body 0 4) = i.outNext) ∧
    (i.outNext + (r.body.drop 8).length ≤ i.length)) :=
  ⟨⟨wPipe.modDps (fun d => { d with state := .run }), wRec [0, 0, 0x30, 0, 0, 0, 0, 0, 0, 0, 0, 4, 0, 0, 0, 0, 0, 0, 0, 0, 0, 0, 0, 0, 0, 0, 0, 0], 12288, by constructor <;> decide +kernel, by refine ⟨⟨?_, ?_, ?_, ?_, ?_, ?_, ?_, ?_⟩, ?_, ?_⟩ <;> decide +kernel, by decide +kernel⟩,
    ⟨wOut, wRec [0, 0, 0, 0, 0, 0, 0, 0, 1, 2], wItem, by constructor <;> decide +kernel, by decide +kernel⟩⟩

/-- The hypotheses of the statement VirtualHostRecords can hold together. -/
theorem witness_VirtualHostRecords :
    (∃ (s : State) (r : Rec), (Quiet s) ∧
    (Taken s r 0) ∧
    (s.tenantItems (owner s r) = [])) ∧
    (∃ (s : State) (r : Rec), (Quiet s) ∧
    (Accepted s r 0) ∧
    (s.flt.safeStop = false)) ∧
    (∃ (s : State) (_op : Nat) (r : Rec), (Quiet s) ∧
    (Accepted s r 0) ∧
    (s.flt.safeStop = false)) :=
  ⟨⟨wSess, wRec [], by constructor <;> decide +kernel, by refine ⟨⟨?_, ?_, ?_, ?_, ?_, ?_, ?_, ?_⟩, ?_, ?_⟩ <;> decide +kernel, by decide +kernel⟩,
    ⟨wSess.modTenants 1 (fun x => { x with stopped := true }), wRec [], by constructor <;> decide +kernel, by constructor <;> decide +kernel, by decide +kernel⟩,
    ⟨wSess, 0x7F, wRec [], by constructor <;> decide +kernel, by constructor <;> decide +kernel, by decide +kernel⟩⟩

/-- The hypotheses of the statement PipeEventsComplete can hold together. -/
theorem witness_PipeEventsComplete :
    (∃ (s : State) (n : Nat), (Quiet s) ∧
    (n < 1048576) ∧
    ((s.getPipes n).state = .closing) ∧
    ((s.getPipes n).streamCtx = false) ∧
    (s.groupItems n = []) ∧
    (s.groupBusy n = false)) ∧
    (∃ (s : State) (n : Nat), (n < 1048576) ∧
    (s.flt.injArmed = false)) ∧
    (∃ (s : State) (n st : Nat), (n < 1048576) ∧
    (st ≠ 0) ∧
    ((s.getPipes (s.queueOf (s.parent n) st)).queue = [])) ∧
    (∃ (s : State) (p acc : Nat) (i : Item), (Quiet s) ∧
    (s.item? (itemKey p acc) = some i) ∧
    (i.deadline ≠ 0) ∧
    (i.cause = none) ∧
    (i.principal ≠ hubPrincipal) ∧
    (s.inProgress (itemKey p acc) i = false) ∧
    ((s.getSess i.sess).live = true)) ∧
    (∃ (s : State) (n k : Nat) (i : Item), (Quiet s) ∧
    (n < 1048576) ∧
    (NoResult s) ∧
    (s.flt.injArmed = false) ∧
    ((s.getPipes n).inXact = true) ∧
    ((s.getPipes n).queue.head? = some k) ∧
    (s.item? k = some i) ∧
    (i.cause = none)) :=
  ⟨⟨wPipe.modPipes 12288 (fun x => { x with state := .closing }), 12288, by constructor <;> decide +kernel, by decide +kernel⟩,
    ⟨wPipe, 12288, by decide +kernel⟩,
    ⟨wPipe, 12288, 1, by decide +kernel⟩,
    ⟨wOut.modItems (itemKey 1 (7 * 4294967296)) (fun i => { i with deadline := 5 }), 1, 7 * 4294967296, { wItem with deadline := 5 }, by constructor <;> decide +kernel, by decide +kernel⟩,
    ⟨wOut.modPipes 12288 (fun x => { x with inXact := true, queue := [itemKey 1 (7 * 4294967296)] }), 12288, itemKey 1 (7 * 4294967296), wItem, by constructor <;> decide +kernel, by decide +kernel⟩⟩

/-- The hypotheses of the statement MicroframeBoundaryCounts can hold together. -/
theorem witness_MicroframeBoundaryCounts :
    (∃ (s : State) (p : Nat), (Quiet s) ∧
    (portOk p = true) ∧
    ((s.getFt p).running = true)) ∧
    (∃ (s : State) (p : Nat), (Quiet s) ∧
    (portOk p = true) ∧
    ((s.getFt p).running = true) ∧
    ((s.getFt p).stepOwed = 0)) ∧
    (∃ (s : State) (p : Nat), (Quiet s) ∧
    (portOk p = true) ∧
    ((s.getFt p).running = true) ∧
    ((s.getFt p).stepOwed ≠ 0)) :=
  ⟨⟨State.reset.modFt 96 (fun f => { f with running := true }), 96, by constructor <;> decide +kernel, by decide +kernel⟩,
    ⟨State.reset.modFt 1 (fun f => { f with running := true, trim := -300, frac := 7 }), 1, by constructor <;> decide +kernel, by decide +kernel⟩,
    ⟨State.reset.modFt 1 (fun f => { f with running := true, stepOwed := -187500 }), 1, by constructor <;> decide +kernel, by decide +kernel⟩⟩

/-- The hypotheses of the statement PortPowerRecords can hold together. -/
theorem witness_PortPowerRecords :
    (∃ (s : State) (r : Rec) (p : Nat), (Quiet s) ∧
    (Taken s r 8) ∧
    ((s.getTenants (owner s r)).loan ≠ .paused) ∧
    (beNat (slice r.body 0 1) = p) ∧
    (beNat (slice r.body 1 1) = 1) ∧
    (s.holdsPort (owner s r) p = true) ∧
    (s.linkHeld p = false) ∧
    ((s.getPwr p).cc = .attached) ∧
    ((s.getUsb p).state ≠ .quarantined) ∧
    (s.budget p ≠ 0) ∧
    ((s.getProt p).sw = .on)) ∧
    (∃ (s : State) (r : Rec) (p : Nat), (Quiet s) ∧
    (Taken s r 8) ∧
    ((s.getTenants (owner s r)).loan ≠ .paused) ∧
    (beNat (slice r.body 0 1) = p) ∧
    (beNat (slice r.body 1 1) = 1) ∧
    (s.holdsPort (owner s r) p = true) ∧
    (s.linkHeld p = false) ∧
    ((s.getPwr p).cc = .attached) ∧
    ((s.getUsb p).state ≠ .quarantined) ∧
    (s.budget p ≠ 0) ∧
    ((s.getProt p).sw = .off) ∧
    ((s.getPwr p).inHardReset = false)) ∧
    (∃ (s : State) (r : Rec) (p : Nat), (Quiet s) ∧
    (Taken s r 8) ∧
    ((s.getTenants (owner s r)).loan ≠ .paused) ∧
    (beNat (slice r.body 0 1) = p) ∧
    (beNat (slice r.body 1 1) = 2) ∧
    (s.holdsPort (owner s r) p = true) ∧
    ((s.getPwr p).cc = .withheld)) ∧
    (∃ (s : State) (r : Rec) (p : Nat), (Quiet s) ∧
    (Taken s r 8) ∧
    ((s.getTenants (owner s r)).loan ≠ .paused) ∧
    (beNat (slice r.body 0 1) = p) ∧
    (beNat (slice r.body 1 1) = 2) ∧
    (s.holdsPort (owner s r) p = true) ∧
    (s.linkHeld p = false) ∧
    ((s.getPwr p).cc = .attached) ∧
    ((s.getProt p).sw = .on)) :=
  ⟨⟨wPort.modProt 1 (fun x => { x with sw := .on }), wRec [1, 1, 0, 0, 0, 0, 0, 0], 1, by constructor <;> decide +kernel, by refine ⟨⟨?_, ?_, ?_, ?_, ?_, ?_, ?_, ?_⟩, ?_, ?_⟩ <;> decide +kernel, by decide +kernel⟩,
    ⟨wPort, wRec [1, 1, 0, 0, 0, 0, 0, 0], 1, by constructor <;> decide +kernel, by refine ⟨⟨?_, ?_, ?_, ?_, ?_, ?_, ?_, ?_⟩, ?_, ?_⟩ <;> decide +kernel, by decide +kernel⟩,
    ⟨wPort.modPwr 1 (fun x => { x with cc := .withheld }), wRec [1, 2, 0, 0, 0, 0, 0, 0], 1, by constructor <;> decide +kernel, by refine ⟨⟨?_, ?_, ?_, ?_, ?_, ?_, ?_, ?_⟩, ?_, ?_⟩ <;> decide +kernel, by decide +kernel⟩,
    ⟨wPort.modProt 1 (fun x => { x with sw := .on }), wRec [1, 2, 0, 0, 0, 0, 0, 0], 1, by constructor <;> decide +kernel, by refine ⟨⟨?_, ?_, ?_, ?_, ?_, ?_, ?_, ?_⟩, ?_, ?_⟩ <;> decide +kernel, by decide +kernel⟩⟩

/-- The hypotheses of the statement PortActionRecords can hold together. -/
theorem witness_PortActionRecords :
    (∃ (s : State) (r : Rec) (p : Nat), (Quiet s) ∧
    (Taken s r 8) ∧
    (s.dps.state = .run) ∧
    ((s.getTenants (owner s r)).loan ≠ .paused) ∧
    (beNat (slice r.body 0 1) = p) ∧
    (beNat (slice r.body 1 1) = 3) ∧
    (s.holdsPort (owner s r) p = true) ∧
    ((s.getUsb p).state = .enabled) ∧
    ((s.getUsb p).fallback = false)) ∧
    (∃ (s : State) (r : Rec) (p : Nat), (Quiet s) ∧
    (Taken s r 8) ∧
    (s.dps.state = .run) ∧
    ((s.getTenants (owner s r)).loan ≠ .paused) ∧
    (beNat (slice r.body 0 1) = p) ∧
    (beNat (slice r.body 1 1) = 4) ∧
    (s.holdsPort (owner s r) p = true) ∧
    ((s.getUsb p).state = .enabled) ∧
    ((s.getUsb p).fallback = false)) ∧
    (∃ (s : State) (r : Rec) (p : Nat), (Quiet s) ∧
    (Taken s r 8) ∧
    (s.dps.state = .run) ∧
    ((s.getTenants (owner s r)).loan ≠ .paused) ∧
    (beNat (slice r.body 0 1) = p) ∧
    (beNat (slice r.body 1 1) = 5) ∧
    (s.holdsPort (owner s r) p = true) ∧
    ((s.getUsb p).state = .enabled)) ∧
    (∃ (s : State) (r : Rec) (p : Nat), (Quiet s) ∧
    (Taken s r 8) ∧
    (s.dps.state = .run) ∧
    ((s.getTenants (owner s r)).loan ≠ .paused) ∧
    (beNat (slice r.body 0 1) = p) ∧
    (beNat (slice r.body 1 1) = 5) ∧
    (s.holdsPort (owner s r) p = true) ∧
    ((s.getUsb p).state = .suspended) ∧
    ((s.getUsb p).suspEntry = false) ∧
    ((s.getUsb p).resuming = false)) ∧
    (∃ (s : State) (r : Rec) (p : Nat), (Quiet s) ∧
    (Taken s r 8) ∧
    (s.dps.state = .run) ∧
    ((s.getTenants (owner s r)).loan ≠ .paused) ∧
    (beNat (slice r.body 0 1) = p) ∧
    (beNat (slice r.body 1 1) = 6) ∧
    (s.holdsPort (owner s r) p = true) ∧
    ((s.getUsb p).state = .enabled) ∧
    ((s.getUsb p).fallback = false) ∧
    ((s.getUsb p).actionItem = none) ∧
    ((s.getUsb p).resumeItems = [])) ∧
    (∃ (s : State) (r : Rec) (p : Nat), (Accepted s r 8) ∧
    (beNat (slice r.body 0 1) = p) ∧
    (s.holdsPort (owner s r) p = true)) :=
  ⟨⟨wTree, wRec [1, 3, 0, 0, 0, 0, 0, 0], 1, by constructor <;> decide +kernel, by refine ⟨⟨?_, ?_, ?_, ?_, ?_, ?_, ?_, ?_⟩, ?_, ?_⟩ <;> decide +kernel, by decide +kernel⟩,
    ⟨wTree, wRec [1, 4, 0, 0, 0, 0, 0, 0], 1, by constructor <;> decide +kernel, by refine ⟨⟨?_, ?_, ?_, ?_, ?_, ?_, ?_, ?_⟩, ?_, ?_⟩ <;> decide +kernel, by decide +kernel⟩,
    ⟨wTree, wRec [1, 5, 0, 0, 0, 0, 0, 0], 1, by constructor <;> decide +kernel, by refine ⟨⟨?_, ?_, ?_, ?_, ?_, ?_, ?_, ?_⟩, ?_, ?_⟩ <;> decide +kernel, by decide +kernel⟩,
    ⟨wTree.modUsb 1 (fun u => { u with state := .suspended }), wRec [1, 5, 0, 0, 0, 0, 0, 0], 1, by constructor <;> decide +kernel, by refine ⟨⟨?_, ?_, ?_, ?_, ?_, ?_, ?_, ?_⟩, ?_, ?_⟩ <;> decide +kernel, by decide +kernel⟩,
    ⟨wTree, wRec [1, 6, 0, 0, 0, 0, 0, 0], 1, by constructor <;> decide +kernel, by refine ⟨⟨?_, ?_, ?_, ?_, ?_, ?_, ?_, ?_⟩, ?_, ?_⟩ <;> decide +kernel, by decide +kernel⟩,
    ⟨wTree, wRec [1, 0, 0, 0, 0, 0, 0, 0], 1, by constructor <;> decide +kernel, by decide +kernel⟩⟩

/-- The hypotheses of the statement PortConnectionEvents can hold together. -/
theorem witness_PortConnectionEvents :
    (∃ (s : State) (p : Nat), (Quiet s) ∧
    (portOk p = true) ∧
    ((s.getUsb p).state = .unpowered)) ∧
    (∃ (s : State) (p : Nat), (Quiet s) ∧
    (portOk p = true) ∧
    ((s.getUsb p).state ≠ .quarantined)) ∧
    (∃ (s : State) (p : Nat) (k : ConnKind), (Quiet s) ∧
    (portOk p = true) ∧
    ((s.getUsb p).state = .powered) ∧
    (s.cfg 0x4016 p ≠ 2) ∧
    (k ≠ .none) ∧
    ((s.getUsb p).ssDisabled = false)) ∧
    (∃ (s : State) (p : Nat), (Quiet s) ∧
    (portOk p = true) ∧
    ((s.getUsb p).state = .attaching)) ∧
    (∃ (s : State) (p : Nat), (Quiet s) ∧
    (portOk p = true) ∧
    (s.dps.state = .run) ∧
    ((s.getUsb p).state ≠ .unpowered) ∧
    ((s.getUsb p).state ≠ .tripped) ∧
    ((s.getUsb p).state ≠ .quarantined)) ∧
    (∃ (s : State) (p : Nat), (Quiet s) ∧
    (portOk p = true) ∧
    ((s.getUsb p).state = .resetting) ∧
    ((s.getUsb p).resetKind = .polling) ∧
    ((s.getUsb p).pullUp = .none)) ∧
    (∃ (s : State) (p : Nat) (sp : Speed), (Quiet s) ∧
    (portOk p = true) ∧
    ((s.getUsb p).state = .resetting) ∧
    ((s.getUsb p).resetKind ≠ .none) ∧
    (s.trainedMode p sp ≠ .none) ∧
    ((s.getUsb p).deferred = none)) ∧
    (∃ (s : State) (p : Nat) (sp : Speed), (Quiet s) ∧
    (portOk p = true) ∧
    ((s.getUsb p).state = .resetting) ∧
    ((s.getUsb p).resetKind ≠ .none) ∧
    (s.trainedMode p sp = .none) ∧
    ((s.getUsb p).resetTries < 2)) :=
  ⟨⟨State.reset, 96, by constructor <;> decide +kernel, by decide +kernel⟩,
    ⟨wTree, 1, by constructor <;> decide +kernel, by decide +kernel⟩,
    ⟨wTree.modUsb 1 (fun u => { u with state := .powered }), 1, .rxTerm, by constructor <;> decide +kernel, by decide +kernel⟩,
    ⟨wTree.modUsb 1 (fun u => { u with state := .attaching }), 1, by constructor <;> decide +kernel, by decide +kernel⟩,
    ⟨wTree, 1, by constructor <;> decide +kernel, by decide +kernel⟩,
    ⟨wTree.modUsb 1 (fun u => { u with state := .resetting, resetKind := .polling }), 1, by constructor <;> decide +kernel, by decide +kernel⟩,
    ⟨wTree.modUsb 1 (fun u => { u with state := .resetting, resetKind := .usb2 }), 1, .hs, by constructor <;> decide +kernel, by decide +kernel⟩,
    ⟨wTree.modUsb 1 (fun u => { u with state := .resetting, resetKind := .usb2, resetTries := 1 }), 1, .none, by constructor <;> decide +kernel, by decide +kernel⟩⟩

/-- The hypotheses of the statement EnumerationEvents can hold together. -/
theorem witness_EnumerationEvents :
    (∃ (s : State) (p : Nat), (Quiet s) ∧
    (portOk p = true) ∧
    (NoResult s) ∧
    ((s.getUsb p).state = .enabled) ∧
    ((s.getUsb p).timebaseFrom = true) ∧
    ((s.getUsb p).restore = none) ∧
    ((s.getUsb p).fallback = false) ∧
    ((s.getUsb p).enums = [])) ∧
    (∃ (s : State) (p : Nat), (Quiet s) ∧
    (portOk p = true) ∧
    ((s.getUsb p).state = .enabled) ∧
    ((s.getUsb p).timebaseFrom = true) ∧
    ((s.getUsb p).restore = none) ∧
    ((s.getUsb p).fallback = false) ∧
    ((s.getUsb p).enums = []) ∧
    ((s.getUsb p).speed = .hs) ∧
    ((s.getUsb p).resetKind = .none) ∧
    (s.flt.safeStop = false) ∧
    ((s.dieLink (wingOf p)).retraining = false) ∧
    ((s.getUsb p).requests = []) ∧
    ((s.getUsb p).inFlight = []) ∧
    ((s.getPipes (p - 1)).inXact = false) ∧
    (s.pipes.all (fun e => decide (e.2.port ≠ p)) = true)) ∧
    (∃ (s : State) (p : Nat) (e : Enum) (a : Nat) (_data : Bytes), (Quiet s) ∧
    (portOk p = true) ∧
    (NoResult s) ∧
    ((s.getUsb p).state = .enabled) ∧
    ((s.getUsb p).restore = none) ∧
    ((s.getUsb p).enumHead = some e) ∧
    (e.step = .desc8) ∧
    (e.prev = 0) ∧
    ((s.getUsb p).freeAddr = some a)) ∧
    (∃ (s : State) (p : Nat) (e : Enum), (portOk p = true) ∧
    (NoResult s) ∧
    ((s.getUsb p).state = .enabled) ∧
    ((s.getUsb p).enumHead = some e) ∧
    (e.step = .recovery)) ∧
    (∃ (s : State) (p a : Nat), (portOk p = true) ∧
    (NoResult s) ∧
    ((s.getUsb p).heldAddrs.contains a = true) ∧
    (s.pipesWhere (fun x => decide (x.port = p) && decide (x.address = a) && decide (x.queue ≠ [])) = [])) ∧
    (∃ (s : State) (p a _n : Nat) (d : Device) (_c : HubChange), (Quiet s) ∧
    (portOk p = true) ∧
    (NoResult s) ∧
    ((s.getUsb p).state = .enabled) ∧
    ((s.getUsb p).device? a = some d) ∧
    (d.isHub = true) ∧
    ((s.getUsb p).devices.all (fun x => decide (x.parent ≠ a) || (decide (x.addr ≠ a) && !((belowOf (s.getUsb p).devices 6 [x.addr]).contains a))) = true)) ∧
    (∃ (s : State) (p a : Nat) (_m : IfMap), (Quiet s) ∧
    (portOk p = true) ∧
    (NoResult s) ∧
    ((s.getUsb p).mapPending a = true) ∧
    ((s.getUsb p).restore = none)) ∧
    (∃ (s : State) (p a : Nat) (path : Path) (d : Device), (Quiet s) ∧
    (portOk p = true) ∧
    (s.reach path 0x4024 p true = some 0) ∧
    ((s.getUsb p).device? a = some d) ∧
    (d.parent = 0) ∧
    ((s.getUsb p).state = .enabled) ∧
    ((s.getUsb p).fallback = false)) :=
  ⟨⟨wTree.modUsb 1 (fun u => { u with timebaseFrom := true }), 1, by constructor <;> decide +kernel, by decide +kernel⟩,
    ⟨wTree.modUsb 1 (fun u => { u with timebaseFrom := true }), 1, by constructor <;> decide +kernel, by decide +kernel⟩,
    ⟨wEnum .desc8, 1, wEnumOf .desc8, 1, [], by constructor <;> decide +kernel, by decide +kernel⟩,
    ⟨wEnum .recovery, 1, wEnumOf .recovery, by decide +kernel⟩,
    ⟨wTree.modUsb 1 (fun u => { u with heldAddrs := [4] }), 1, 4, by decide +kernel⟩,
    ⟨wTree.modUsb 1 (fun u => { u with devices := [{ wDev with isHub := true }] }), 1, 3, 2, { wDev with isHub := true }, .disconnect, by constructor <;> decide +kernel, by decide +kernel⟩,
    ⟨wEnum .mapRead, 1, 0, none, by constructor <;> decide +kernel, by decide +kernel⟩,
    ⟨wTree, 1, 3, .can, wDev, by constructor <;> decide +kernel, by decide +kernel⟩⟩

/-- The hypotheses of the statement RestoreEvents can hold together. -/
theorem witness_RestoreEvents :
    (∃ (s : State) (p : Nat), (Quiet s) ∧
    (portOk p = true) ∧
    ((s.getUsb p).state = .enabled) ∧
    (isSuper (speedCode (s.getUsb p).speed) = true) ∧
    ((s.getUsb p).recWindow + 1 < s.cfg 0x402E p)) ∧
    (∃ (_s : State) (p : Nat), (portOk p = true)) ∧
    (∃ (s : State) (p : Nat) (b : Bool) (e : Enum) (_data : Bytes), (Quiet s) ∧
    (portOk p = true) ∧
    (NoResult s) ∧
    ((s.getUsb p).state = .enabled) ∧
    ((s.getUsb p).restore = some ⟨b, .running⟩) ∧
    ((s.getUsb p).enumHead = some e) ∧
    (e.step = .setSel)) ∧
    (∃ (s : State) (p : Nat) (b : Bool), (Quiet s) ∧
    (portOk p = true) ∧
    ((s.getUsb p).state = .powered) ∧
    ((s.getUsb p).restore = some ⟨b, .connect⟩)) ∧
    (∃ (s : State) (p : Nat) (b : Bool), (Quiet s) ∧
    (portOk p = true) ∧
    (NoResult s) ∧
    ((s.getUsb p).restore = some ⟨b, .running⟩) ∧
    ((s.getUsb p).deferred = none)) ∧
    (∃ (s : State) (p : Nat), (Quiet s) ∧
    (portOk p = true) ∧
    ((s.getUsb p).state = .suspended) ∧
    ((s.getUsb p).resuming = true) ∧
    (isSuper (speedCode (s.getUsb p).speed) = true) ∧
    (s.cfg 0x4023 p = 0) ∧
    ((s.getUsb p).fallback = false)) ∧
    (∃ (s : State) (p : Nat) (path : Path), (Quiet s) ∧
    (portOk p = true) ∧
    (s.reach path 0x402D p true = some 0) ∧
    (s.flt.safeStop = false) ∧
    ((s.getUsb p).state = .quarantined) ∧
    ((s.getUsb p).containedBy.all (fun c => !(s.flt.causes.contains c) && !(s.flt.holds c.1 c.2)) = true)) :=
  ⟨⟨wTree.modUsb 1 (fun u => { u with speed := .gen1x1 }), 1, by constructor <;> decide +kernel, by decide +kernel⟩,
    ⟨wTree, 1, by decide +kernel⟩,
    ⟨(wEnum .setSel).modUsb 1 (fun u => { u with restore := some ⟨true, .running⟩ }), 1, true, wEnumOf .setSel, [], by constructor <;> decide +kernel, by decide +kernel⟩,
    ⟨wTree.modUsb 1 (fun u => { u with state := .powered, restore := some ⟨true, .connect⟩ }), 1, true, by constructor <;> decide +kernel, by decide +kernel⟩,
    ⟨wTree.modUsb 1 (fun u => { u with restore := some ⟨false, .running⟩ }), 1, false, by constructor <;> decide +kernel, by decide +kernel⟩,
    ⟨(wTree.modUsb 1 (fun u => { u with state := .suspended, resuming := true, speed := .gen1x1 })).setCfg 0x4023 1 0, 1, by constructor <;> decide +kernel, by decide +kernel⟩,
    ⟨wTree.modUsb 1 (fun u => { u with state := .quarantined }), 1, .can, by constructor <;> decide +kernel, by decide +kernel⟩⟩

/-- The hypotheses of the statement SuspendEvents can hold together. -/
theorem witness_SuspendEvents :
    (∃ (s : State) (p : Nat), (portOk p = true) ∧
    ((s.getUsb p).state = .suspended) ∧
    ((s.getUsb p).suspEntry = true)) ∧
    (∃ (s : State) (p : Nat), (portOk p = true) ∧
    ((s.getUsb p).state = .enabled) ∧
    ((s.getUsb p).fallback = false) ∧
    (s.cfg 0x4026 p ≠ 0) ∧
    (s.treeItems p = []) ∧
    ((s.portPipes p).all (fun n => decide ((s.getPipes n).typ ≠ 1) && decide ((s.getPipes n).typ ≠ 3)) = true)) ∧
    (∃ (s : State) (p : Nat) (_avg : Int), (Quiet s) ∧
    (portOk p = true) ∧
    ((s.getUsb p).state = .suspended) ∧
    ((s.getUsb p).suspCheck = true) ∧
    (s.cfg 0x4028 p ≠ 1)) ∧
    (∃ (s : State) (p : Nat), (Quiet s) ∧
    (portOk p = true) ∧
    (NoResult s) ∧
    ((s.getUsb p).state = .suspended) ∧
    ((s.getUsb p).resuming = true)) ∧
    (∃ (s : State) (p _a : Nat), (Quiet s) ∧
    (portOk p = true) ∧
    (s.dps.state = .run) ∧
    ((s.getUsb p).state = .suspended) ∧
    ((s.getUsb p).suspEntry = false) ∧
    ((s.getUsb p).resuming = false)) ∧
    (∃ (s : State) (p _besl : Nat), (portOk p = true) ∧
    ((s.getUsb p).state = .enabled) ∧
    (bitOf (s.cfg 0x4029 p) 0 = true) ∧
    ((s.getUsb p).devices.length = 1) ∧
    (isSuper (speedCode (s.getUsb p).speed) = false) ∧
    ((s.getUsb p).linkpm = 0) ∧
    (s.treeItems p = []) ∧
    (s.promptOpen p = false)) ∧
    (∃ (s : State) (p : Nat) (u2 : Bool), (portOk p = true) ∧
    ((s.getUsb p).state = .enabled) ∧
    (bitOf (s.cfg 0x4029 p) (if u2 then 2 else 1) = true) ∧
    (s.cfg (if u2 then 0x402C else 0x402B) p ≠ 0) ∧
    (isSuper (speedCode (s.getUsb p).speed) = true) ∧
    ((s.getUsb p).linkpm < 2) ∧
    (s.promptOpen p = false)) ∧
    (∃ (s : State) (p level : Nat), (portOk p = true) ∧
    ((s.getUsb p).state = .enabled) ∧
    (1 ≤ level) ∧
    (level ≤ 3) ∧
    (bitOf (s.cfg 0x4029 p) (if level = 3 then 0 else level) = true) ∧
    (isSuper (speedCode (s.getUsb p).speed) = decide (level ≠ 3)) ∧
    (s.promptOpen p = false)) :=
  ⟨⟨wTree.modUsb 1 (fun u => { u with state := .suspended, suspEntry := true }), 1, by decide +kernel⟩,
    ⟨wTree.setCfg 0x4026 1 5, 1, by decide +kernel⟩,
    ⟨wTree.modUsb 1 (fun u => { u with state := .suspended, suspCheck := true }), 1, 8000, by constructor <;> decide +kernel, by decide +kernel⟩,
    ⟨wTree.modUsb 1 (fun u => { u with state := .suspended, resuming := true }), 1, by constructor <;> decide +kernel, by decide +kernel⟩,
    ⟨wTree.modUsb 1 (fun u => { u with state := .suspended }), 1, 3, by constructor <;> decide +kernel, by decide +kernel⟩,
    ⟨wTree.setCfg 0x4029 1 7, 1, 4, by decide +kernel⟩,
    ⟨((wTree.setCfg 0x4029 1 7).setCfg 0x402C 1 9).modUsb 1 (fun u => { u with speed := .gen1x1 }), 1, true, by decide +kernel⟩,
    ⟨wTree.setCfg 0x4029 1 7, 1, 3, by decide +kernel⟩⟩

/-- The hypotheses of the statement CcEvents can hold together. -/
theorem witness_CcEvents :
    (∃ (s : State) (p : Nat) (a b : CcPin), (portOk p = true) ∧
    (s.dps.state = .run) ∧
    (s.fastDomain p = true) ∧
    (s.cfg 0x4010 p = 1) ∧
    ((s.getPwr p).cc = .unattached) ∧
    (((a = .rd ∧ b ≠ .rd) ∨ (b = .rd ∧ a ≠ .rd)))) ∧
    (∃ (s : State) (p : Nat), (portOk p = true) ∧
    ((s.getPwr p).cc = .attachWait)) ∧
    (∃ (s : State) (p : Nat), (portOk p = true) ∧
    ((s.getPwr p).cc = .attachWait)) ∧
    (∃ (s : State) (p : Nat), (Quiet s) ∧
    (portOk p = true) ∧
    (s.dps.state = .run) ∧
    (s.linkHeld p = false) ∧
    (((s.getPwr p).cc = .attached ∨ (s.getPwr p).cc = .withheld))) ∧
    (∃ (s : State) (p : Nat), (portOk p = true) ∧
    ((s.getPwr p).cc = .unattachedWait) ∧
    ((s.getPwr p).rd = false)) ∧
    (∃ (s : State) (p : Nat), (portOk p = true) ∧
    ((s.getPwr p).vconn = true)) ∧
    (∃ (s : State) (p : Nat), (portOk p = true) ∧
    (s.discovering p = true)) ∧
    (∃ (s : State) (p : Nat) (_id _vdo : Word) (_caps : CableCaps), (portOk p = true) ∧
    ((s.getPwr p).vconn = true) ∧
    ((s.getPwr p).cable = none)) :=
  ⟨⟨wRun.setCfg 0x4010 96 1, 96, .ra, .rd, by decide +kernel⟩,
    ⟨wRun.modPwr 1 (fun w => { w with cc := .attachWait }), 1, by decide +kernel⟩,
    ⟨wRun.modPwr 1 (fun w => { w with cc := .attachWait }), 1, by decide +kernel⟩,
    ⟨wPd, 1, by constructor <;> decide +kernel, by decide +kernel⟩,
    ⟨wRun.modPwr 1 (fun w => { w with cc := .unattachedWait }), 1, by decide +kernel⟩,
    ⟨wPd.modPwr 1 (fun w => { w with vconn := true }), 1, by decide +kernel⟩,
    ⟨wPd.modPwr 1 (fun w => { w with vconn := true }), 1, by decide +kernel⟩,
    ⟨wPd.modPwr 1 (fun w => { w with vconn := true }), 1, 5, 6, ⟨true, true, true, true, true, false⟩, by decide +kernel⟩⟩

/-- The hypotheses of the statement PdContracts can hold together. -/
theorem witness_PdContracts :
    (∃ (s : State) (p : Nat) (_good : Bool), (portOk p = true) ∧
    (s.pdOn p = true) ∧
    ((s.getPwr p).explicit = false) ∧
    ((s.getPwr p).capCount < 50) ∧
    (s.discovering p = false) ∧
    (s.frozen (galOf p) = false)) ∧
    (∃ (s : State) (p : Nat) (q : PdReq) (o : Offer), (portOk p = true) ∧
    (s.pdOn p = true) ∧
    (s.frozen (galOf p) = false) ∧
    ((s.getPwr p).offers.find? (fun o => decide (o.pos = q.pos)) = some o) ∧
    (o.takes (s.getPwr p).ic q.voltage q.current = true)) ∧
    (∃ (s : State) (p : Nat) (q : PdReq) (o : Offer), (portOk p = true) ∧
    (s.pdOn p = true) ∧
    (s.frozen (galOf p) = false) ∧
    ((s.getPwr p).offers.find? (fun o => decide (o.pos = q.pos)) = some o) ∧
    (o.takes (s.getPwr p).ic q.voltage q.current = false)) ∧
    (∃ (s : State) (p : Nat), (portOk p = true) ∧
    (s.pdOn p = true) ∧
    ((s.getPwr p).cableEpr = true) ∧
    (s.eprRaw p ≠ []) ∧
    ((s.getPwr p).explicit = true)) ∧
    (∃ (s : State) (p : Nat), (portOk p = true) ∧
    (s.pdOn p = true) ∧
    ((s.getPwr p).cableEpr = false)) ∧
    (∃ (s : State) (p : Nat) (v : Nat × Nat), (portOk p = true) ∧
    ((s.getPwr p).transition = some v)) ∧
    (∃ (s : State) (p : Nat), (portOk p = true) ∧
    ((s.getPwr p).cc = .attached) ∧
    ((s.getProt p).vbusGood = true) ∧
    (s.cfg 0x4016 p = 1)) ∧
    (∃ (s : State) (p ma : Nat), (portOk p = true) ∧
    ((s.getPwr p).rpNext = some ma)) :=
  ⟨⟨wPd, 1, true, by decide +kernel⟩,
    ⟨wPd.modPwr 1 (fun w => { w with offers := [wOffer] }), 1, ⟨1, 500, 300, false⟩, wOffer, by decide +kernel⟩,
    ⟨wPd.modPwr 1 (fun w => { w with offers := [wOffer] }), 1, ⟨1, 500, 301, false⟩, wOffer, by decide +kernel⟩,
    ⟨(((wPd.setCfg 0x4013 1 0x3F).setCfg 0x4012 1 240000).setCfg 0x3011 1 48000).modPwr 1 (fun w => { w with explicit := true, stageMax := 50000, cable := some ⟨0, 0, ⟨true, true, true, true, true, false⟩⟩ }), 1, by decide +kernel⟩,
    ⟨wPd, 1, by decide +kernel⟩,
    ⟨wPd.modPwr 1 (fun w => { w with transition := some (900, 300) }), 1, (900, 300), by decide +kernel⟩,
    ⟨wPd.setCfg 0x4016 1 1, 1, by decide +kernel⟩,
    ⟨wPd.modPwr 1 (fun w => { w with rpNext := some 900 }), 1, 900, by decide +kernel⟩⟩

/-- The hypotheses of the statement PdAnswers can hold together. -/
theorem witness_PdAnswers :
    (∃ (s : State) (p : Nat), (portOk p = true) ∧
    (s.pdOn p = true) ∧
    (s.frozen (galOf p) = false)) ∧
    (∃ (s : State) (p : Nat), (portOk p = true) ∧
    (s.pdOn p = true)) ∧
    (∃ (s : State) (p : Nat), (portOk p = true) ∧
    (s.pdOn p = true)) ∧
    (∃ (s : State) (p : Nat), (portOk p = true) ∧
    (s.pdOn p = true)) ∧
    (∃ (s : State) (p : Nat), (portOk p = true) ∧
    (s.pdOn p = true)) ∧
    (∃ (s : State) (p : Nat), (portOk p = true) ∧
    (s.pdOn p = true)) ∧
    (∃ (s : State) (p : Nat), (portOk p = true) ∧
    (s.pdOn p = true)) ∧
    (∃ (s : State) (p : Nat), (portOk p = true) ∧
    (s.pdOn p = true)) ∧
    (∃ (s : State) (p : Nat), (portOk p = true) ∧
    (s.pdOn p = true) ∧
    ((s.getPwr p).epr = true)) :=
  ⟨⟨wPd, 1, by decide +kernel⟩,
    ⟨wPd, 1, by decide +kernel⟩,
    ⟨wPd, 1, by decide +kernel⟩,
    ⟨wPd, 1, by decide +kernel⟩,
    ⟨wPd, 1, by decide +kernel⟩,
    ⟨wPd, 1, by decide +kernel⟩,
    ⟨wPd, 1, by decide +kernel⟩,
    ⟨wPd, 1, by decide +kernel⟩,
    ⟨wPd.modPwr 1 (fun w => { w with epr := true }), 1, by decide +kernel⟩⟩

/-- The hypotheses of the statement HardResets can hold together. -/
theorem witness_HardResets :
    (∃ (s : State) (p : Nat) (_b : Bool), (Quiet s) ∧
    (portOk p = true) ∧
    ((s.getPwr p).cc = .attached) ∧
    (s.linkHeld p = false)) ∧
    (∃ (s : State) (p : Nat), (Quiet s) ∧
    (portOk p = true) ∧
    ((s.getPwr p).cc = .attached) ∧
    (s.linkHeld p = false) ∧
    ((s.getPwr p).kind = 7)) ∧
    (∃ (s : State) (p : Nat), (Quiet s) ∧
    (portOk p = true) ∧
    ((s.getPwr p).cc = .attached) ∧
    (s.linkHeld p = false) ∧
    ((s.getPwr p).epr = true)) ∧
    (∃ (s : State) (p : Nat), (Quiet s) ∧
    (portOk p = true) ∧
    ((s.getPwr p).cc = .attached) ∧
    (s.linkHeld p = false) ∧
    ((s.getPwr p).mustReq = true)) ∧
    (∃ (s : State) (p : Nat), (portOk p = true) ∧
    ((s.getPwr p).cc = .attached) ∧
    ((s.getPwr p).inHardReset = true)) :=
  ⟨⟨wPd, 1, false, by constructor <;> decide +kernel, by decide +kernel⟩,
    ⟨wPd.modPwr 1 (fun w => { w with kind := 7 }), 1, by constructor <;> decide +kernel, by decide +kernel⟩,
    ⟨wPd.modPwr 1 (fun w => { w with epr := true }), 1, by constructor <;> decide +kernel, by decide +kernel⟩,
    ⟨wPd.modPwr 1 (fun w => { w with mustReq := true }), 1, by constructor <;> decide +kernel, by decide +kernel⟩,
    ⟨wPd.modPwr 1 (fun w => { w with inHardReset := true }), 1, by decide +kernel⟩⟩

/-- The hypotheses of the statement StagesAndGalleries can hold together. -/
theorem witness_StagesAndGalleries :
    (∃ (s : State) (p : Nat) (x : StageStatus), (portOk p = true) ∧
    ((s.getProt p).sw = .on) ∧
    (stageBad x = true)) ∧
    (∃ (s : State) (p : Nat) (x : StageStatus), (portOk p = true) ∧
    ((s.getProt p).sw = .ramping) ∧
    (stageBad x = true)) ∧
    (∃ (_s : State) (p : Nat), (portOk p = true)) ∧
    (∃ (s : State) (g : Nat), (Quiet s) ∧
    (galOk g = true) ∧
    (s.flt.freeSlot.isSome = true)) ∧
    (∃ (_s : State) (g : Nat), (galOk g = true)) ∧
    (∃ (_s : State) (g : Nat), (galOk g = true)) ∧
    (∃ (s : State) (g p : Nat), (galOk g = true) ∧
    (s.frozen g = false) ∧
    (galOf p = g) ∧
    ((s.getGals g).raiseQ.find? (fun p => decide ((s.getPwr p).kind ≠ 0)) = some p)) :=
  ⟨⟨wPd, 1, ⟨false, true, false, false, false⟩, by decide +kernel⟩,
    ⟨wPd.modProt 1 (fun x => { x with sw := .ramping }), 1, ⟨true, false, false, false, false⟩, by decide +kernel⟩,
    ⟨wPd, 1, by decide +kernel⟩,
    ⟨wPd, 12, by constructor <;> decide +kernel, by decide +kernel⟩,
    ⟨wPd, 12, by decide +kernel⟩,
    ⟨wPd, 1, by decide +kernel⟩,
    ⟨(wPd.modGals 1 (fun g => { g with raiseQ := [2, 1] })).modPwr 1 (fun w => { w with kind := 3 }), 1, 1, by decide +kernel⟩⟩

/-- The hypotheses of the statement ServicePortStates can hold together. -/
theorem witness_ServicePortStates :
    (∃ (s : State), (s.svc.state = .deadBattery)) ∧
    (∃ (s : State), (s.svc.state ≠ .deadBattery) ∧
    (s.keepsFast = false)) ∧
    (∃ (s : State), ((s.dieLink 7).lost = true) ∧
    (s.flt.holds 0x04 0 = true)) ∧
    (∃ (s : State), (s.svc.state = .unattachedSnk)) ∧
    (∃ (s : State), (s.svc.state = .unattachedSrc) ∧
    (s.svc.srcEn = false)) ∧
    (∃ (s : State), (s.svc.state = .unattachedSnk) ∧
    (s.cfg 0x2042 2 = 1)) ∧
    (∃ (s : State), (s.svc.state = .unattachedSrc)) ∧
    (∃ (s : State), (s.svc.state = .attachedSnk)) ∧
    (∃ (s : State), (s.svc.state = .attachedSrc)) ∧
    (∃ (s : State) (_ma : Nat), (s.svc.state = .attachedSnk)) ∧
    (∃ (s : State) (_b : Bool), (s.svc.state = .attachedSrc) ∧
    (s.svc.drSent = true)) :=
  ⟨⟨State.reset.modSvc (fun v => { v with state := .deadBattery }), by decide +kernel⟩,
    ⟨State.reset.modSvc (fun v => { v with state := .attachedSrc }), by decide +kernel⟩,
    ⟨wCustLost, by decide +kernel⟩,
    ⟨State.reset.modSvc (fun v => { v with state := .unattachedSnk }), by decide +kernel⟩,
    ⟨State.reset.modSvc (fun v => { v with state := .unattachedSrc }), by decide +kernel⟩,
    ⟨(State.reset.setCfg 0x2042 2 1).modSvc (fun v => { v with state := .unattachedSnk }), by decide +kernel⟩,
    ⟨State.reset.modSvc (fun v => { v with state := .unattachedSrc }), by decide +kernel⟩,
    ⟨State.reset.modSvc (fun v => { v with state := .attachedSnk }), by decide +kernel⟩,
    ⟨State.reset.modSvc (fun v => { v with state := .attachedSrc }), by decide +kernel⟩,
    ⟨State.reset.modSvc (fun v => { v with state := .attachedSnk }), 900, by decide +kernel⟩,
    ⟨State.reset.modSvc (fun v => { v with state := .attachedSrc, drSent := true }), true, by decide +kernel⟩⟩

/-- The hypotheses of the statement SwitchPowerUp can hold together. -/
theorem witness_SwitchPowerUp :
    (∃ (_s : State) (p : Nat), (portOk p = true)) ∧
    (∃ (_s : State) (p : Nat) (off : Int), (portOk p = true) ∧
    (-400 ≤ off) ∧
    (off ≤ 400)) ∧
    (∃ (s : State) (p : Nat), (portOk p = true) ∧
    ((s.getProt p).sw = .ramping) ∧
    ((s.getProt p).rampPhase = .precharge) ∧
    ((s.getProt p).offPend = false)) ∧
    (∃ (s : State) (p : Nat), (portOk p = true) ∧
    ((s.getProt p).sw = .ramping) ∧
    ((s.getProt p).offPend = true)) ∧
    (∃ (s : State) (p : Nat), (Quiet s) ∧
    (portOk p = true) ∧
    ((s.getProt p).sw = .ramping) ∧
    ((s.getProt p).offPend = false)) :=
  ⟨⟨wPort, 96, by decide +kernel⟩,
    ⟨wPort, 1, -400, by decide +kernel⟩,
    ⟨wPort.modProt 1 (fun x => { x with sw := .ramping, rampPhase := .precharge }), 1, by decide +kernel⟩,
    ⟨wPort.modProt 1 (fun x => { x with sw := .ramping, offPend := true }), 1, by decide +kernel⟩,
    ⟨wPort.modProt 1 (fun x => { x with sw := .ramping }), 1, by constructor <;> decide +kernel, by decide +kernel⟩⟩

/-- The hypotheses of the statement SwitchTrips can hold together. -/
theorem witness_SwitchTrips :
    (∃ (s : State) (p : Nat) (_i : Int) (_v : Nat), (Quiet s) ∧
    (portOk p = true)) ∧
    (∃ (s : State) (p : Nat), (Quiet s) ∧
    (portOk p = true) ∧
    ((s.getProt p).sw = .on) ∧
    ((s.getProt p).gate = true)) ∧
    (∃ (s : State) (p : Nat), (Quiet s) ∧
    (portOk p = true) ∧
    ((s.getProt p).sw = .ramping) ∧
    ((s.getProt p).rampPhase = .ramp)) ∧
    (∃ (s : State) (p : Nat), (Quiet s) ∧
    (portOk p = true) ∧
    ((s.getProt p).sw = .draining) ∧
    ((s.getProt p).tripSeq = false) ∧
    ((s.getProt p).onPend = false)) ∧
    (∃ (s : State) (p : Nat), (Quiet s) ∧
    (portOk p = true) ∧
    ((s.getProt p).sw = .draining) ∧
    (s.flt.freeSlot.isSome = true)) ∧
    (∃ (s : State) (p : Nat) (x : StageStatus), (Quiet s) ∧
    (portOk p = true) ∧
    ((s.getProt p).sw = .cooling) ∧
    (s.sinkHere p = true) ∧
    (s.linkHeld p = false) ∧
    (stageBad x = false)) ∧
    (∃ (s : State) (p : Nat), (portOk p = true) ∧
    ((s.getProt p).sw = .on) ∧
    ((s.getProt p).tripSeq = true)) :=
  ⟨⟨wPort, 96, -5, 16384, by constructor <;> decide +kernel, by decide +kernel⟩,
    ⟨wPd, 1, by constructor <;> decide +kernel, by decide +kernel⟩,
    ⟨wPort.modProt 1 (fun x => { x with sw := .ramping, rampPhase := .ramp }), 1, by constructor <;> decide +kernel, by decide +kernel⟩,
    ⟨wPort.modProt 1 (fun x => { x with sw := .draining }), 1, by constructor <;> decide +kernel, by decide +kernel⟩,
    ⟨wPort.modProt 1 (fun x => { x with sw := .draining }), 1, by constructor <;> decide +kernel, by decide +kernel⟩,
    ⟨wPort.modProt 1 (fun x => { x with sw := .cooling }), 1, ⟨false, false, false, false, false⟩, by constructor <;> decide +kernel, by decide +kernel⟩,
    ⟨wPd.modProt 1 (fun x => { x with tripSeq := true, trips := 2 }), 1, by decide +kernel⟩⟩

/-- The hypotheses of the statement UpstreamLinkStates can hold together. -/
theorem witness_UpstreamLinkStates :
    (∃ (s : State) (m : Nat) (b : Bool), (linkOk m = true) ∧
    ((s.link m).state = .training) ∧
    (s.negotiates = false ∨ b = true)) ∧
    (∃ (s : State) (m : Nat), (linkOk m = true) ∧
    ((s.link m).state = .training) ∧
    (s.negotiates = true)) ∧
    (∃ (s : State) (m : Nat), (linkOk m = true) ∧
    ((s.link m).state = .training)) ∧
    (∃ (s : State) (m : Nat), (linkOk m = true) ∧
    ((s.link m).state = .probation)) ∧
    (∃ (s : State) (m : Nat), (linkOk m = true) ∧
    (((s.link m).state = .probation ∨ (s.link m).state = .member))) ∧
    (∃ (s : State) (n : Nat), (Quiet s) ∧
    (s.members = []) ∧
    ((s.getSess n).state = .held)) ∧
    (∃ (s : State) (v : Nat) (path : Path), (Quiet s) ∧
    (MayWrite s path 0x2200 4) ∧
    (1 ≤ v) ∧
    (v ≤ 255)) :=
  ⟨⟨State.reset.setLink 8 { state := .training, txq := 0, queue := [] }, 8, true, by decide +kernel⟩,
    ⟨State.reset.setLink 8 { state := .training, txq := 0, queue := [] }, 8, by decide +kernel⟩,
    ⟨State.reset.setLink 1 { state := .training, txq := 0, queue := [] }, 1, by decide +kernel⟩,
    ⟨State.reset.setLink 1 { state := .probation, txq := 0, queue := [] }, 1, by decide +kernel⟩,
    ⟨State.reset.setLink 2 { state := .member, txq := 0, queue := [] }, 2, by decide +kernel⟩,
    ⟨wSess.modSess 5 (fun x => { x with state := .held }), 5, by constructor <;> decide +kernel, by decide +kernel⟩,
    ⟨wRun.setLink 8 { state := .member, txq := 0, queue := [] }, 127, .spi, by constructor <;> decide +kernel, by constructor <;> decide +kernel, by decide +kernel⟩⟩

/-- The hypotheses of the statement FramesOfSessions can hold together. -/
theorem witness_FramesOfSessions :
    (∃ (s : State) (n : Nat) (u : State), (Quiet s) ∧
    (n < 1024) ∧
    ((s.getSess n).state = .opened) ∧
    ((s.getSess n).wants = true) ∧
    ((s.getSess n).wraps = false) ∧
    (u = s.restall n) ∧
    ((u.getSess n).stalled = false) ∧
    (u.myTurn n = true) ∧
    (u.sprayLink ≠ none)) ∧
    (∃ (s : State) (f : Frame), (Quiet s) ∧
    (s.arrives f.via = true) ∧
    (s.frameOk f 1 [.opened] = true) ∧
    (f.seq = (s.getSess f.sess).rxNext) ∧
    ((s.getSess f.sess).rxBuf = []) ∧
    (f.sacks = []) ∧
    (f.payload = [])) ∧
    (∃ (s : State) (f : Frame), (Quiet s) ∧
    (s.arrives f.via = true) ∧
    (s.frameOk f 1 [.opened] = true) ∧
    (f.seq = (s.getSess f.sess).rxNext) ∧
    ((s.getSess f.sess).rxBuf = []) ∧
    (f.sacks = []) ∧
    (1 ≤ (s.getSess f.sess).bufKib) ∧
    (f.payload.length = 16) ∧
    (beNat (slice f.payload 0 1) = 0x7F) ∧
    (beNat (slice f.payload 2 2) = 0) ∧
    (beNat (slice f.payload 4 6) / 4294967296 = (s.getSess f.sess).block) ∧
    (beNat (slice f.payload 4 6) % 4294967296 = (s.getSess f.sess).expect)) ∧
    (∃ (s : State) (f : Frame), (Quiet s) ∧
    (s.arrives f.via = true) ∧
    (s.frameOk f 2 [.opened] = true) ∧
    (f.payload = [])) ∧
    (∃ (s : State) (f : Frame), (Quiet s) ∧
    (s.arrives f.via = true) ∧
    (s.frameOk f 3 [.opened] = true) ∧
    (f.payload = []) ∧
    (f.ackValid = false) ∧
    ((s.getSess f.sess).wraps = false)) ∧
    (∃ (s : State) (n : Nat), (Quiet s) ∧
    (n < 1024) ∧
    ((s.getSess n).state = .opened) ∧
    ((s.getSess n).unacked ≠ 0) ∧
    ((s.getSess n).wraps = false)) ∧
    (∃ (s : State) (n q : Nat), (Quiet s) ∧
    (n < 1024) ∧
    ((s.getSess n).state = .opened) ∧
    (laterSacked (s.getSess n).peerSacks q = true) ∧
    ((s.getSess n).replay.any (fun e => decide (e.seq = q)) = true) ∧
    ((s.getSess n).wraps = false)) ∧
    (∃ (s : State) (n : Nat), (Quiet s) ∧
    (n < 1024) ∧
    ((s.getSess n).state = .opened) ∧
    ((s.getSess n).replay ≠ []) ∧
    ((s.getSess n).rtoCount + 1 < s.cfg 0x2203 4)) :=
  ⟨⟨wNet.modSess 5 (fun x => { x with window := 64, bufKib := 64, txQueue := [.event 1 1 0 0 0 []] }), 5, (wNet.modSess 5 (fun x => { x with window := 64, bufKib := 64, txQueue := [.event 1 1 0 0 0 []] })).restall 5, by constructor <;> decide +kernel, by decide +kernel⟩,
    ⟨wNet, wFrame, by constructor <;> decide +kernel, by decide +kernel⟩,
    ⟨wNet, { wFrame with payload := [0x7F, 0, 0, 0, 0, 7, 0, 0, 0, 0, 0, 0, 0, 0, 0, 0] }, by constructor <;> decide +kernel, by decide +kernel⟩,
    ⟨wNet, { wFrame with typ := 2 }, by constructor <;> decide +kernel, by decide +kernel⟩,
    ⟨wNet, { wFrame with typ := 3 }, by constructor <;> decide +kernel, by decide +kernel⟩,
    ⟨wNet.modSess 5 (fun x => { x with unacked := 1 }), 5, by constructor <;> decide +kernel, by decide +kernel⟩,
    ⟨wNet.modSess 5 (fun x => { x with replay := [⟨3, [], 1, 0, 0⟩], peerSacks := [(5, 7)] }), 5, 3, by constructor <;> decide +kernel, by decide +kernel⟩,
    ⟨wNet.modSess 5 (fun x => { x with replay := [⟨3, [], 1, 0, 0⟩] }), 5, by constructor <;> decide +kernel, by decide +kernel⟩⟩

/-- The hypotheses of the statement SessionLife can hold together. -/
theorem witness_SessionLife :
    (∃ (s : State) (f : OpenFrame) (n : Nat) (u : State), (Quiet s) ∧
    (s.arrives f.via = true) ∧
    (s.dbg.lock ≠ 1) ∧
    (s.openOk f = true) ∧
    (f.payload.length = 32) ∧
    (f.payload.take 1 = [1]) ∧
    (u = (s.modTenants f.tenant (fun x => { x with openTxc := some f.txc })).applyS f.tenant) ∧
    (u.openStatus f.tenant (beNat (slice f.payload 1 1)) (beNat (slice f.payload 20 4)) = 0) ∧
    (u.freeSess = some n)) ∧
    (∃ (s : State) (f : Frame), (Quiet s) ∧
    (s.arrives f.via = true) ∧
    (s.frameOk f 4 [.opening] = true) ∧
    (f.seq = 0) ∧
    (f.payload.take 1 = [3]) ∧
    ((s.getSess f.sess).replay = [])) ∧
    (∃ (s : State) (n : Nat), (n < 1024) ∧
    ((s.getSess n).state = .opening)) ∧
    (∃ (s : State) (f : Frame), (Quiet s) ∧
    (s.arrives f.via = true) ∧
    (s.frameOk f 4 [.opened] = true) ∧
    (f.seq = (s.getSess f.sess).rxNext) ∧
    ((s.getSess f.sess).rxBuf = []) ∧
    (f.ackValid = false) ∧
    (f.payload.take 2 = [4, 0]) ∧
    (f.payload.length = 8) ∧
    (1 ≤ (s.getSess f.sess).bufKib) ∧
    ((s.getSess f.sess).wraps = false) ∧
    (s.sessItems f.sess ≠ [])) ∧
    (∃ (s : State) (f : Frame), (Quiet s) ∧
    (s.arrives f.via = true) ∧
    (s.frameOk f 4 [.opened, .draining] = true) ∧
    (f.seq = (s.getSess f.sess).rxNext) ∧
    ((s.getSess f.sess).rxBuf = []) ∧
    (f.ackValid = false) ∧
    (f.payload.take 2 = [4, 1]) ∧
    (f.payload.length = 8) ∧
    (1 ≤ (s.getSess f.sess).bufKib)) ∧
    (∃ (s : State) (f : Frame), (Quiet s) ∧
    (s.arrives f.via = true) ∧
    (s.frameOk f 4 [.opened, .draining] = true) ∧
    (f.seq = (s.getSess f.sess).rxNext) ∧
    ((s.getSess f.sess).rxBuf = []) ∧
    (f.ackValid = false) ∧
    (f.payload.take 1 = [5]) ∧
    (f.payload.length = 8) ∧
    (beNat (slice f.payload 2 2) = f.sess) ∧
    (1 ≤ (s.getSess f.sess).bufKib)) ∧
    (∃ (s : State) (f : Frame) (n : Nat), (Quiet s) ∧
    (s.arrives f.via = true) ∧
    (s.openOk (openPart f) = true) ∧
    (f.payload.length = 8) ∧
    (f.payload.take 1 = [5]) ∧
    (beNat (slice f.payload 2 2) = n) ∧
    (n ≠ 0xFFFF) ∧
    ((s.getSess n).tenant = f.tenant) ∧
    ((s.getSess n).state = .opening)) ∧
    (∃ (s : State) (n : Nat), (Quiet s) ∧
    (n < 1024) ∧
    ((s.getSess n).state = .ending) ∧
    (s.sessItems n = [])) :=
  ⟨⟨wOpening, wOpenFrame, 0, (wOpening.modTenants 1 (fun x => { x with openTxc := some 1 })).applyS 1, by constructor <;> decide +kernel, by decide +kernel⟩,
    ⟨wNet.modSess 5 (fun x => { x with state := .opening }), { wFrame with typ := 4, payload := [3, 0, 0, 0, 0, 0, 0, 0] }, by constructor <;> decide +kernel, by decide +kernel⟩,
    ⟨wSess.modSess 1023 (fun x => { x with state := .opening }), 1023, by decide +kernel⟩,
    ⟨wNet.setItems (itemKey 1 (7 * 4294967296)) wItem, { wFrame with typ := 4, payload := [4, 0, 0, 0, 0, 0, 0, 0] }, by constructor <;> decide +kernel, by decide +kernel⟩,
    ⟨wNet, { wFrame with typ := 4, payload := [4, 1, 0, 0, 0, 0, 0, 0] }, by constructor <;> decide +kernel, by decide +kernel⟩,
    ⟨wNet, { wFrame with typ := 4, payload := [5, 0, 0, 5, 0, 0, 0, 0] }, by constructor <;> decide +kernel, by decide +kernel⟩,
    ⟨wOpening.modSess 5 (fun x => { x with state := .opening, tenant := 1 }), { wFrame with typ := 4, tenant := 1, txc := 1, payload := [5, 0, 0, 5, 0, 0, 0, 0] }, 5, by constructor <;> decide +kernel, by decide +kernel⟩,
    ⟨wSess.modSess 5 (fun x => { x with state := .ending }), 5, by constructor <;> decide +kernel, by decide +kernel⟩⟩

/-- The hypotheses of the statement PtpAndPps can hold together. -/
theorem witness_PtpAndPps :
    (∃ (s : State) (v : PtpVia) (_off : Int), (s.ptpOk v 319 = true)) ∧
    (∃ (s : State) (v : PtpVia) (_d : Nat), (s.ptpOk v 320 = true) ∧
    (s.ptp.asked = true)) ∧
    (∃ (s : State), (s.ptp.state = 1 ∨ (s.ptp.state = 0 ∧ s.ptp.first = false))) ∧
    (∃ (s : State), (s.ptp.state = 1)) ∧
    (∃ (s : State), (s.ptp.ppsOut = true)) ∧
    (∃ (s : State) (since : Nat), (s.cfg 0x2204 4 = 1) ∧
    (500000000 ≤ since)) :=
  ⟨⟨wNet, ⟨1, State.reset.cfg 0x2204 1, 319⟩, -5, by decide +kernel⟩,
    ⟨wNet.modPtp (fun x => { x with asked := true }), ⟨1, State.reset.cfg 0x2204 1, 320⟩, 5, by decide +kernel⟩,
    ⟨State.reset.modPtp (fun x => { x with state := 1, ppsOut := true }), by decide +kernel⟩,
    ⟨State.reset.modPtp (fun x => { x with state := 1 }), by decide +kernel⟩,
    ⟨State.reset.modPtp (fun x => { x with ppsOut := true }), by decide +kernel⟩,
    ⟨State.reset.setCfg 0x2204 4 1, 500000000, by decide +kernel⟩⟩

/-- The hypotheses of the statement LoanActions can hold together. -/
theorem witness_LoanActions :
    (∃ (s : State) (n : Nat) (path : Path), (Quiet s) ∧
    (MayWrite s path 0x6007 n) ∧
    (tenantOk n = true) ∧
    ((s.getTenants n).loan = .idle) ∧
    (s.termsCheck n false = 0)) ∧
    (∃ (s : State) (n : Nat) (path : Path), (Quiet s) ∧
    (MayWrite s path 0x6007 n) ∧
    (tenantOk n = true) ∧
    ((s.getTenants n).loan = .active) ∧
    (s.termsCheck n true = 0)) ∧
    (∃ (s : State) (n : Nat) (path : Path), (Quiet s) ∧
    (MayWrite s path 0x6007 n) ∧
    (tenantOk n = true) ∧
    (((s.getTenants n).loan = .active ∨ (s.getTenants n).loan = .paused))) ∧
    (∃ (s : State) (n : Nat) (path : Path), (Quiet s) ∧
    (MayWrite s path 0x6007 n) ∧
    (tenantOk n = true) ∧
    (NoResult s) ∧
    ((s.getTenants n).loan = .paused) ∧
    (s.faultsHandled n = true)) ∧
    (∃ (s : State) (n : Nat), (Quiet s) ∧
    (tenantOk n = true) ∧
    (((s.getTenants n).loan = .active ∨ (s.getTenants n).loan = .paused))) ∧
    (∃ (s : State) (n : Nat), (Quiet s) ∧
    (tenantOk n = true) ∧
    ((s.getTenants n).loan = .recalling) ∧
    (s.tenantItems n = [])) :=
  ⟨⟨wLend, 1, .spi, by constructor <;> decide +kernel, by constructor <;> decide +kernel, by decide +kernel⟩,
    ⟨wLend.modTenants 1 (fun x => { x with loan := .active }), 1, .spi, by constructor <;> decide +kernel, by constructor <;> decide +kernel, by decide +kernel⟩,
    ⟨wLend.modTenants 1 (fun x => { x with loan := .paused }), 1, .can, by constructor <;> decide +kernel, by constructor <;> decide +kernel, by decide +kernel⟩,
    ⟨wLend.modTenants 1 (fun x => { x with loan := .paused, pausedBy := [(0x28, 1)] }), 1, .spi, by constructor <;> decide +kernel, by constructor <;> decide +kernel, by decide +kernel⟩,
    ⟨wLend.modTenants 64 (fun x => { x with loan := .active }), 64, by constructor <;> decide +kernel, by decide +kernel⟩,
    ⟨wPort.modTenants 1 (fun x => { x with loan := .recalling }), 1, by constructor <;> decide +kernel, by decide +kernel⟩⟩

/-- The hypotheses of the statement CollectionMessages can hold together. -/
theorem witness_CollectionMessages :
    (∃ (_s : State), (True)) ∧
    (∃ (s : State) (hdr : NqHeader) (_d : Bytes) (_q : Word), (s.nqOk hdr = true)) ∧
    (∃ (s : State) (hdr : NqHeader) (_d : Bytes) (_q : Word), (s.nqOk hdr = false)) ∧
    (∃ (s : State) (m : Nat), ((s.voter m).heard = true)) ∧
    (∃ (s : State) (m : Nat), ((s.voter m).heard = true) ∧
    (s.coll.quorum = true) ∧
    ((s.setVoter m { s.voter m with heard := false, names := false }).majority = false)) ∧
    (∃ (s : State) (path : Path), (MayWrite s path 0x7005 0) ∧
    (s.coll.quorum = true)) ∧
    (∃ (s : State) (hdr : NqHeader), (s.nqOk hdr = true) ∧
    (s.coll.quorum = true) ∧
    (s.coll.acceptedFor ≠ some (s.coll.epoch + 1))) ∧
    (∃ (s : State) (hdr : NqHeader), (s.nqOk hdr = true) ∧
    (s.coll.quorum = true) ∧
    (s.coll.accepts.contains hdr.sender = false)) ∧
    (∃ (s : State), (s.coll.proposing = true)) ∧
    (∃ (s : State) (hdr : NqHeader) (_b : Bytes), (s.nqOk hdr = true) ∧
    (s.coll.jobViews = [])) :=
  ⟨⟨wColl, by decide +kernel⟩,
    ⟨wColl, wHdr 6, [1], 1, by decide +kernel⟩,
    ⟨wColl, wHdr 5, [1], 1, by decide +kernel⟩,
    ⟨wColl, 2, by decide +kernel⟩,
    ⟨wColl, 2, by decide +kernel⟩,
    ⟨wColl, .spi, by constructor <;> decide +kernel, by decide +kernel⟩,
    ⟨wColl, wHdr 6, by decide +kernel⟩,
    ⟨wColl.modColl (fun c => { c with accepts := [1] }), wHdr 7, by decide +kernel⟩,
    ⟨wColl.modColl (fun c => { c with proposing := true }), by decide +kernel⟩,
    ⟨wColl, wHdr 6, [1, 2, 3], by decide +kernel⟩⟩

/-- The hypotheses of the statement Locks can hold together. -/
theorem witness_Locks :
    (∃ (s : State) (n : Nat) (path : Path), (n < 256) ∧
    (s.reach path (0x6400 + n) 3 true = some 0) ∧
    (s.coll.quorum = true) ∧
    (s.lockServer = s.member) ∧
    ((s.lock n).state ≠ .held) ∧
    (s.voterCount ≤ 1) ∧
    (s.coll.grants.all (fun g => decide (g.lock ≠ n)) = true)) ∧
    (∃ (s : State) (n : Nat) (path : Path), (n < 256) ∧
    (s.reach path (0x6400 + n) 3 true = some 0) ∧
    (s.coll.quorum = true) ∧
    (s.lockServer = s.member) ∧
    ((s.lock n).state ≠ .held) ∧
    (1 < s.voterCount) ∧
    (s.coll.grants.all (fun g => decide (g.lock ≠ n)) = true)) ∧
    (∃ (s : State) (n : Nat) (path : Path), (n < 256) ∧
    (s.reach path (0x6400 + n) 3 true = some 0) ∧
    (s.coll.quorum = true) ∧
    (s.lockServer = s.member) ∧
    ((s.lock n).state = .held) ∧
    ((s.lock n).member = s.member) ∧
    ((s.lock n).sess = pathSess path) ∧
    (s.coll.grants.all (fun g => decide (g.lock ≠ n)) = true)) ∧
    (∃ (s : State) (n : Nat) (path : Path), (n < 256) ∧
    (s.reach path (0x6400 + n) 3 true = some 0) ∧
    (s.coll.quorum = true) ∧
    (s.lockServer = s.member) ∧
    (s.principalOf path = 0) ∧
    (s.coll.grants.all (fun g => decide (g.lock ≠ n)) = true)) ∧
    (∃ (s : State) (hdr : NqHeader) (m : LockMsg), (s.nqOk hdr = true) ∧
    (s.coll.quorum = true) ∧
    (s.lockServer = s.member) ∧
    (m.op = 1) ∧
    ((s.lock m.lock).state ≠ .held) ∧
    (s.coll.grants.all (fun g => decide (g.lock ≠ m.lock)) = true)) ∧
    (∃ (s : State) (hdr : NqHeader) (m : LockMsg), (s.nqOk hdr = true) ∧
    (s.coll.quorum = true) ∧
    (s.lockServer = s.member) ∧
    (m.op = 2) ∧
    (hdr.sender ≠ s.member) ∧
    ((s.voter hdr.sender).seq.all (fun q => decide (hdr.seq / 1099511627776 ≤ q / 1099511627776)) = true) ∧
    ((s.lock m.lock).state = .held) ∧
    ((s.lock m.lock).member = hdr.sender) ∧
    ((s.lock m.lock).sess = m.sess) ∧
    (s.coll.grants.all (fun g => decide (g.lock ≠ m.lock)) = true)) ∧
    (∃ (s : State) (hdr : NqHeader) (m : LockMsg), (s.nqOk hdr = true) ∧
    (m.op = 0)) ∧
    (∃ (s : State) (hdr : NqHeader) (m : LockMsg) (g : LockGrant) (path : Path), (s.nqOk hdr = true) ∧
    (m.op = 255) ∧
    (s.coll.grants = [g]) ∧
    (g.lock = m.lock) ∧
    (g.member = s.member) ∧
    (g.acks.contains hdr.sender = false) ∧
    (s.voterCount < 2 * (g.acks.length + 1)) ∧
    (s.coll.lockReqs.find? (fun q => decide (q.lock = m.lock) && decide (q.op = 1) && decide (pathSess q.path = g.sess)) = some ⟨m.lock, 1, path, none⟩)) ∧
    (∃ (s : State) (hdr : NqHeader) (m : LockMsg) (path : Path), (s.nqOk hdr = true) ∧
    (m.op ≠ 0) ∧
    (m.op ≠ 255) ∧
    (s.coll.lockReqs.find? (fun q => decide (q.lock = m.lock) && decide (q.op = m.op) && decide (pathSess q.path = m.sess)) = some ⟨m.lock, m.op, path, none⟩)) ∧
    (∃ (s : State) (m n : Nat), (s.coll.quorum = true) ∧
    ((s.lock n).state = .held) ∧
    ((s.lock n).member = m)) :=
  ⟨⟨(wColl.setCfg 0x7000 2 1).setLock 255 ⟨.broken, false, 2, 3, 0⟩, 255, .spi, by decide +kernel⟩,
    ⟨wColl.setLock 255 ⟨.broken, false, 2, 3, 0⟩, 255, .spi, by decide +kernel⟩,
    ⟨wColl.setLock 0 ⟨.held, true, 1, 1023, 0⟩, 0, .spi, by decide +kernel⟩,
    ⟨wColl.setLock 9 ⟨.held, true, 1, 5, 0⟩, 9, .can, by decide +kernel⟩,
    ⟨wColl, wHdr 6, wLock 1 0, by decide +kernel⟩,
    ⟨wColl.setLock 9 ⟨.held, true, 2, 44, 0⟩, wHdr 6, wLock 2 0, by decide +kernel⟩,
    ⟨wColl, wHdr 6, wLock 0 2, by decide +kernel⟩,
    ⟨wColl.modColl (fun c => { c with grants := [⟨9, State.reset.lock 9, 1, 1023, [1]⟩], lockReqs := [⟨9, 1, .spi, none⟩] }), wHdr 6, wLock 255 1, ⟨9, State.reset.lock 9, 1, 1023, [1]⟩, .spi, by decide +kernel⟩,
    ⟨wColl.modColl (fun c => { c with lockReqs := [⟨9, 1, .house 44, none⟩] }), wHdr 6, wLock 1 1, .house 44, by decide +kernel⟩,
    ⟨wColl.setLock 9 ⟨.held, true, 2, 5, 0⟩, 2, 9, by decide +kernel⟩⟩

/-- The hypotheses of the statement SdoTransfers can hold together. -/
theorem witness_SdoTransfers :
    (∃ (s : State) (q : SdoInit) (o : Obj), (Quiet s) ∧
    (MayWrite s .can q.index q.sub) ∧
    (Plain s .can q.index q.sub q.data o) ∧
    (s.coreServes = true) ∧
    (s.can.nmt ≠ .stopped) ∧
    (s.can.sdo = none) ∧
    (q.expedited = true) ∧
    (s.cfg 0x2011 4 ≠ 0) ∧
    (o.cls = some .i)) ∧
    (∃ (s : State) (q : SdoInit) (ab : Nat), (s.coreServes = true) ∧
    (s.can.nmt ≠ .stopped) ∧
    (s.can.sdo = none) ∧
    (ab ≠ 0) ∧
    (s.reach .can q.index q.sub true = some ab)) ∧
    (∃ (s : State) (q : SdoInit), (Quiet s) ∧
    (MayWrite s .can q.index q.sub) ∧
    (s.coreServes = true) ∧
    (s.can.nmt ≠ .stopped) ∧
    (s.can.sdo = none) ∧
    (q.expedited = false) ∧
    ((q.size = none ∨ q.size = fixedLen q.index q.sub))) ∧
    (∃ (s : State) (idx sub : Nat), (s.coreServes = true) ∧
    (s.can.nmt ≠ .stopped) ∧
    (s.can.sdo = none) ∧
    (s.reach .can idx sub false = some 0) ∧
    (1 ≤ (s.readObj 0 idx sub).length) ∧
    ((s.readObj 0 idx sub).length ≤ 4)) ∧
    (∃ (s : State) (x : SdoXfer) (d : Bytes), (Quiet s) ∧
    (s.coreServes = true) ∧
    (s.pathOn .can = true) ∧
    (s.can.nmt ≠ .stopped) ∧
    (s.can.sdo = some x) ∧
    (x.upload = false) ∧
    (x.block = false) ∧
    (x.size = none) ∧
    (1 ≤ d.length) ∧
    (d.length ≤ 7)) ∧
    (∃ (s : State) (x : SdoXfer), (Quiet s) ∧
    (s.coreServes = true) ∧
    (s.pathOn .can = true) ∧
    (s.can.nmt ≠ .stopped) ∧
    (s.can.sdo = some x) ∧
    (x.upload = true) ∧
    (x.block = false) ∧
    (7 < x.data.length)) ∧
    (∃ (s : State) (x : SdoXfer) (_d : Bytes), (Quiet s) ∧
    (s.coreServes = true) ∧
    (s.pathOn .can = true) ∧
    (s.can.nmt ≠ .stopped) ∧
    (s.can.sdo = some x) ∧
    (x.upload = false) ∧
    (x.block = true) ∧
    (x.lastSeen = false) ∧
    (x.seqno < 126)) ∧
    (∃ (s : State) (x : SdoXfer), (s.can.sdo = some x) ∧
    (s.can.nmt ≠ .stopped)) ∧
    (∃ (s : State) (x : SdoXfer), (s.coreServes = true) ∧
    (s.pathOn .can = false) ∧
    (s.can.nmt ≠ .stopped) ∧
    (s.can.sdo = some x)) ∧
    (∃ (s : State), (s.coreServes = true) ∧
    (s.can.nmt ≠ .stopped)) :=
  ⟨⟨wCan .preop, ⟨0x1017, 0, true, false, none, [0x10, 0x27]⟩, wObj 0x1017 0, by constructor <;> decide +kernel, by constructor <;> decide +kernel, by constructor <;> decide +kernel, by decide +kernel⟩,
    ⟨wCan .preop, ⟨0x1018, 1, true, false, none, [1]⟩, 0x06010002, by decide +kernel⟩,
    ⟨wCan .operational, ⟨0x2205, 1, false, true, some 32, []⟩, by constructor <;> decide +kernel, by constructor <;> decide +kernel, by decide +kernel⟩,
    ⟨wCan .preop, 0x1017, 0, by decide +kernel⟩,
    ⟨(wCan .preop).modCan (fun c => { c with sdo := some wXfer }), wXfer, [1, 2, 3, 4, 5, 6, 7], by constructor <;> decide +kernel, by decide +kernel⟩,
    ⟨(wCan .preop).modCan (fun c => { c with sdo := some { wXfer with upload := true } }), { wXfer with upload := true }, by constructor <;> decide +kernel, by decide +kernel⟩,
    ⟨(wCan .preop).modCan (fun c => { c with sdo := some { wXfer with block := true, seqno := 125 } }), { wXfer with block := true, seqno := 125 }, [1, 2], by constructor <;> decide +kernel, by decide +kernel⟩,
    ⟨(wCan .preop).modCan (fun c => { c with sdo := some wXfer }), wXfer, by decide +kernel⟩,
    ⟨((wCan .preop).setCfg 0x2011 1 0).modCan (fun c => { c with sdo := some wXfer }), wXfer, by decide +kernel⟩,
    ⟨(wCan .preop).modCan (fun c => { c with sdo := some wXfer }), by decide +kernel⟩⟩

/-- The hypotheses of the statement CanServices can hold together. -/
theorem witness_CanServices :
    (∃ (s : State) (c n : Nat), (s.coreServes = true) ∧
    ((n = 0 ∨ n = s.nodeId)) ∧
    ((c = 1 ∨ c = 2 ∨ c = 128))) ∧
    (∃ (s : State), (s.coreServes = true) ∧
    (s.cfg 0x1017 0 ≠ 0)) ∧
    (∃ (s : State) (n : Nat), (1 ≤ n) ∧
    (n ≤ 4) ∧
    (s.tpdoOn n = true) ∧
    (s.cfg (0x17FF + n) 5 ≠ 0) ∧
    ((s.tpdoOf n).inhibit = false)) ∧
    (∃ (s : State) (n : Nat), (1 ≤ n) ∧
    (n ≤ 4) ∧
    (s.tpdoOn n = true) ∧
    (s.cfg (0x17FF + n) 5 ≠ 0) ∧
    ((s.tpdoOf n).inhibit = true)) ∧
    (∃ (s : State) (n : Nat), (1 ≤ n) ∧
    (n ≤ 4) ∧
    (s.tpdoOn n = true) ∧
    (s.cfg (0x17FF + n) 2 = 0xFE) ∧
    ((s.tpdoOf n).inhibit = false) ∧
    ((s.tpdoOf n).last ≠ []) ∧
    ((s.tpdoOf n).last ≠ s.tpdoData n)) ∧
    (∃ (s : State) (n : Nat), (1 ≤ n) ∧
    (n ≤ 4) ∧
    (s.tpdoOn n = true) ∧
    ((s.tpdoOf n).held = true)) ∧
    (∃ (s : State) (path : Path) (h : HeldXfer), (s.cat.held.find? (fun h => decide (h.path = path)) = some h)) :=
  ⟨⟨wCan .preop, 128, 0, by decide +kernel⟩,
    ⟨(wCan .stopped).setCfg 0x1017 0 1000, by decide +kernel⟩,
    ⟨wTpdo, 1, by decide +kernel⟩,
    ⟨wTpdo.setTpdo 1 ⟨true, false, []⟩, 1, by decide +kernel⟩,
    ⟨(wTpdo.setCfg 0x1800 2 0xFE).setTpdo 1 ⟨false, false, [1]⟩, 1, by decide +kernel⟩,
    ⟨wTpdo.setTpdo 1 ⟨true, true, []⟩, 1, by decide +kernel⟩,
    ⟨wRun.modCat (fun c => { c with held := [⟨.spi, 0x2703, 1, [1]⟩] }), .spi, ⟨.spi, 0x2703, 1, [1]⟩, by decide +kernel⟩⟩

/-- The hypotheses of the statement RecordPaths can hold together. -/
theorem witness_RecordPaths :
    (∃ (s : State) (d : Bytes) (u : State) (x : Bytes), (s.spiServes = true) ∧
    (s.board.rspReady = false) ∧
    (s.board.reqBusy = false) ∧
    (s.doRecord .spi d = some (u, x)) ∧
    (s.lockWaits u = false)) ∧
    (∃ (s : State) (_d : Bytes), (Quiet s) ∧
    (s.spiServes = true) ∧
    (s.board.rspReady = true)) ∧
    (∃ (s : State) (n : Nat), (s.spiServes = true) ∧
    (s.board.rspReady = true) ∧
    (s.board.rsp.length ≤ n)) ∧
    (∃ (s : State) (_n : Nat), (s.spiServes = true)) ∧
    (∃ (s : State) (_n : Nat), (s.spiServes = true)) ∧
    (∃ (s : State) (d : Bytes) (u : State) (x : Bytes), (s.svc.data = true) ∧
    ((s.board.svcQueue.filter (·.1)).length < 8) ∧
    (s.doRecord .svc d = some (u, x)) ∧
    (s.lockWaits u = false)) ∧
    (∃ (s : State) (_d : Bytes), (s.svc.data = true) ∧
    (s.spiServes = true) ∧
    (8 ≤ (s.board.svcQueue.filter (·.1)).length)) ∧
    (∃ (s : State) (e : Bool × Bytes) (l : List (Bool × Bytes)), (s.board.svcQueue = e :: l) ∧
    (slice e.2 0 1 ≠ [0xFF])) :=
  ⟨⟨wRun, wRead, ((wRun.doRecord .spi wRead).getD (wRun, [])).1, ((wRun.doRecord .spi wRead).getD (wRun, [])).2, by decide +kernel⟩,
    ⟨wRun.modBoard (fun b => { b with rspReady := true }), wRead, by constructor <;> decide +kernel, by decide +kernel⟩,
    ⟨wRun.modBoard (fun b => { b with rspReady := true, rsp := [1, 2] }), 2, by decide +kernel⟩,
    ⟨wRun, 3, by decide +kernel⟩,
    ⟨wRun, 0x77, by decide +kernel⟩,
    ⟨wSvc 7, wRead, (((wSvc 7).doRecord .svc wRead).getD (wRun, [])).1, (((wSvc 7).doRecord .svc wRead).getD (wRun, [])).2, by decide +kernel⟩,
    ⟨wSvc 8, wRead, by decide +kernel⟩,
    ⟨wRun.modBoard (fun b => { b with svcQueue := [(true, [0, 1]), (true, [0, 2])] }), (true, [0, 1]), [(true, [0, 2])], by decide +kernel⟩⟩

/-- The hypotheses of the statement CatalogueItems can hold together. -/
theorem witness_CatalogueItems :
    (∃ (s : State) (r : Rec) (d : Bytes) (more : Bool), (Accepted s r 16) ∧
    (Quiet s) ∧
    ((itemOf s r 0x40).f 8 2 ≤ 1024) ∧
    ((s.arrive r 0x40).reach (catPath s r) ((itemOf s r 0x40).f 0 2) ((itemOf s r 0x40).f 2 1) false = some 0) ∧
    ((s.arrive r 0x40).readAt (catPath s r) ((itemOf s r 0x40).f 0 2) ((itemOf s r 0x40).f 2 1) ((itemOf s r 0x40).f 4 4) ((itemOf s r 0x40).f 8 2) = (0, d, more))) ∧
    (∃ (s : State) (r : Rec) (ab : Nat), (Accepted s r 16) ∧
    (Quiet s) ∧
    (ab ≠ 0) ∧
    (s.reach (catPath s r) ((itemOf s r 0x40).f 0 2) ((itemOf s r 0x40).f 2 1) false = some ab)) ∧
    (∃ (s : State) (r : Rec) (idx sub : Nat) (d : Bytes) (o : Obj), (Accepted s r 16) ∧
    (Quiet s) ∧
    (MayWrite s (catPath s r) idx sub) ∧
    (Plain (s.arrive r 0x41) (catPath s r) idx sub d o) ∧
    (s.cfg 0x2011 4 ≠ 0) ∧
    (o.cls = some .i) ∧
    (r.body.length = 16 + d.length) ∧
    (r.body.drop 16 = d) ∧
    ((itemOf s r 0x41).f 0 2 = idx) ∧
    ((itemOf s r 0x41).f 2 1 = sub) ∧
    ((itemOf s r 0x41).f 4 4 = 0) ∧
    ((itemOf s r 0x41).f 8 2 = d.length)) ∧
    (∃ (s : State) (r : Rec) (idx sub : Nat) (d : Bytes) (o : Obj), (Accepted s r 16) ∧
    (Quiet s) ∧
    (MayWrite s (catPath s r) idx sub) ∧
    (Plain (s.arrive r 0x41) (catPath s r) idx sub d o) ∧
    (s.cfg 0x2011 4 ≠ 0) ∧
    ((o.cls = some .s ∨ o.cls = some .e)) ∧
    (r.body.length = 16 + d.length) ∧
    (r.body.drop 16 = d) ∧
    ((itemOf s r 0x41).f 0 2 = idx) ∧
    ((itemOf s r 0x41).f 2 1 = sub) ∧
    ((itemOf s r 0x41).f 4 4 = 0) ∧
    ((itemOf s r 0x41).f 8 2 = d.length)) :=
  ⟨⟨wHouse, wCat 0x1017 0 2 [], [0xE8, 3], false, by constructor <;> decide +kernel, by constructor <;> decide +kernel, by decide +kernel⟩,
    ⟨wHouse, wCat 0x3FFF 0 2 [], 0x06020000, by constructor <;> decide +kernel, by constructor <;> decide +kernel, by decide +kernel⟩,
    ⟨wHouse, wCat 0x1017 0 2 [0x10, 0x27], 0x1017, 0, [0x10, 0x27], wObj 0x1017 0, by constructor <;> decide +kernel, by constructor <;> decide +kernel, by constructor <;> decide +kernel, by constructor <;> decide +kernel, by decide +kernel⟩,
    ⟨wHouse, wCat 0x2200 5 2 [0, 0x10], 0x2200, 5, [0, 0x10], wObj 0x2200 5, by constructor <;> decide +kernel, by constructor <;> decide +kernel, by constructor <;> decide +kernel, by constructor <;> decide +kernel, by decide +kernel⟩⟩

/-- The hypotheses of the statement RegisterAccess can hold together. -/
theorem witness_RegisterAccess :
    (∃ (_s : State) (_a _n : Nat), (True)) ∧
    (∃ (_s : State) (_a : Nat), (True)) ∧
    (∃ (s : State) (p : Nat), (Quiet s) ∧
    (portOk p = true) ∧
    (s.coreServes = true) ∧
    (s.boot.phase = .service) ∧
    (s.flt.injArmed = false) ∧
    (s.regs.parBad.contains (0xFF040 + p * 4096) = false)) ∧
    (∃ (s : State) (p : Nat) (_v : Word), (Quiet s) ∧
    (portOk p = true) ∧
    (s.coreServes = true) ∧
    (s.boot.phase = .service)) ∧
    (∃ (s : State) (p : Nat) (_v _w : Word) (_c : Nat), (Quiet s) ∧
    (portOk p = true) ∧
    (s.coreServes = true) ∧
    (s.boot.phase = .service)) ∧
    (∃ (s : State) (_v : Word), (Quiet s) ∧
    (s.coreServes = true) ∧
    (s.boot.phase = .service)) ∧
    (∃ (s : State) (v : Word), (Quiet s) ∧
    (s.coreServes = true) ∧
    (s.boot.phase = .service) ∧
    (v.getLsbD 0 = true)) :=
  ⟨⟨wRun, 0x100004, 2, by decide +kernel⟩,
    ⟨wRun, 0x108, by decide +kernel⟩,
    ⟨wRun.modUsb 96 (fun u => { u with replays := 3, exhausted := 2 }), 96, by constructor <;> decide +kernel, by decide +kernel⟩,
    ⟨wRun.modUsb 1 (fun u => { u with evt := 0xFFF }), 1, 5, by constructor <;> decide +kernel, by decide +kernel⟩,
    ⟨wRun.modUsb 96 (fun u => { u with evt := 0xFFF }), 96, 5, 0x801, 3, by constructor <;> decide +kernel, by decide +kernel⟩,
    ⟨wColl, 1, by constructor <;> decide +kernel, by decide +kernel⟩,
    ⟨wColl.modColl (fun c => { c with quorumLost := true, digestMm := true }), 1, by constructor <;> decide +kernel, by decide +kernel⟩⟩

/-- The hypotheses of the statement CustodianWrites can hold together. -/
theorem witness_CustodianWrites :
    (∃ (s : State) (a : Nat) (_v : Word), (s.coreServes = true) ∧
    (s.boot.phase = .service) ∧
    ((a = 0x10000 ∨ a = 0x10004)) ∧
    (s.regs.custBusy = false)) ∧
    (∃ (s : State) (a : Nat) (_v : Word), (s.coreServes = true) ∧
    (s.boot.phase = .service) ∧
    ((a = 0x10000 ∨ a = 0x10004)) ∧
    (s.regs.custBusy = true)) ∧
    (∃ (s : State) (v : Word), (s.regs.custWrite = some (0x10004, v))) ∧
    (∃ (s : State) (v : Word), (s.regs.custWrite = some (0x10000, v))) :=
  ⟨⟨wRun, 0x10004, 9, by decide +kernel⟩,
    ⟨wRun.modRegs (fun r => { r with custBusy := true }), 0x10000, 9, by decide +kernel⟩,
    ⟨wRun.modRegs (fun r => { r with custBusy := true, custWrite := some (0x10004, 77) }), 77, by decide +kernel⟩,
    ⟨wRun.modRegs (fun r => { r with custBusy := true, custWrite := some (0x10000, 0xFF) }), 0xFF, by decide +kernel⟩⟩

/-- The hypotheses of the statement GuardedPairs can hold together. -/
theorem witness_GuardedPairs :
    (∃ (s : State) (a : Nat) (_v : Word), (Quiet s) ∧
    (s.coreServes = true) ∧
    (s.boot.phase = .service) ∧
    (s.regs.gWait = none) ∧
    (a % 4 = 0) ∧
    (0x20000 ≤ a) ∧
    (a < 0x30000)) ∧
    (∃ (s : State), (Quiet s) ∧
    (s.coreServes = true) ∧
    (s.boot.phase = .service) ∧
    (s.regs.gWait = some (0x20400, 1)) ∧
    (s.injectOk = true)) ∧
    (∃ (s : State) (a b : Nat) (v w : Word), (Quiet s) ∧
    (s.coreServes = true) ∧
    (s.boot.phase = .service) ∧
    (s.regs.gWait = some (b, w)) ∧
    (guardX a = guardX b) ∧
    (a ≠ b) ∧
    (v ≠ ~~~w) ∧
    (a % 4 = 0) ∧
    (0x20000 ≤ a) ∧
    (a < 0x30000)) ∧
    (∃ (s : State) (a b : Nat) (_v w : Word), (Quiet s) ∧
    (s.coreServes = true) ∧
    (s.boot.phase = .service) ∧
    (s.regs.gWait = some (b, w)) ∧
    ((guardX a ≠ guardX b ∨ a = b)) ∧
    (a % 4 = 0) ∧
    (0x20000 ≤ a) ∧
    (a < 0x30000)) ∧
    (∃ (s : State) (b : Nat) (w : Word), (s.regs.gWait = some (b, w))) ∧
    (∃ (s : State), (s.coreServes = true) ∧
    (s.boot.phase = .service) ∧
    (s.injectOk = true)) ∧
    (∃ (s : State), (s.coreServes = true) ∧
    (s.boot.phase = .service) ∧
    (s.injectOk = false)) :=
  ⟨⟨wServ, 0x2FFFC, 1, by constructor <;> decide +kernel, by decide +kernel⟩,
    ⟨(wServ.modRegs (fun r => { r with gWait := some (0x20400, 1) })).modFlt (fun f => { f with injBits := 1 }), by constructor <;> decide +kernel, by decide +kernel⟩,
    ⟨wServ.modRegs (fun r => { r with gWait := some (0x28200, 1) }), 0x20200, 0x28200, 1, 1, by constructor <;> decide +kernel, by decide +kernel⟩,
    ⟨wServ.modRegs (fun r => { r with gWait := some (0x28200, 1) }), 0x20000, 0x28200, 1, 1, by constructor <;> decide +kernel, by decide +kernel⟩,
    ⟨wServ.modRegs (fun r => { r with gWait := some (0x28200, 1) }), 0x28200, 1, by decide +kernel⟩,
    ⟨wServ.modFlt (fun f => { f with injBits := 1 }), by decide +kernel⟩,
    ⟨wServ.modFlt (fun f => { f with injBits := 3 }), by decide +kernel⟩⟩

/-- The hypotheses of the statement VotedViews can hold together. -/
theorem witness_VotedViews :
    (∃ (s : State) (p : Nat), (portOk p = true) ∧
    (s.inService = true) ∧
    (s.coreServes = true) ∧
    (s.boot.phase = .service) ∧
    (s.flt.injArmed = false) ∧
    (s.regs.parBad.contains (0xFFF00 + p * 4096) = false)) ∧
    (∃ (s : State) (p : Nat) (_v : Word), (portOk p = true) ∧
    (s.inService = true) ∧
    (s.coreServes = true) ∧
    (s.boot.phase = .service)) ∧
    (∃ (s : State) (p : Nat) (_v : Word), (portOk p = true) ∧
    (s.inService = false) ∧
    (s.boot.phase = .recovery)) ∧
    (∃ (s : State) (p : Nat) (v : Word), (portOk p = true) ∧
    (s.inService = false) ∧
    (s.boot.phase = .recovery) ∧
    (s.flt.injArmed = false) ∧
    (SMap.get 0 s.regs.vote0 p = v) ∧
    (SMap.get 0 s.regs.vote1 p = v) ∧
    (SMap.get 0 s.regs.vote2 p = v)) ∧
    (∃ (s : State), (s.inService = false) ∧
    (s.boot.started = true)) :=
  ⟨⟨wServ, 96, by decide +kernel⟩,
    ⟨wServ, 1, 5, by decide +kernel⟩,
    ⟨State.reset.modBoot (fun b => { b with phase := .recovery }), 96, 0x1234FF03, by decide +kernel⟩,
    ⟨State.reset.modBoot (fun b => { b with phase := .recovery }), 1, 0, by decide +kernel⟩,
    ⟨State.reset.modBoot (fun b => { b with started := true }), by decide +kernel⟩⟩

/-- The hypotheses of the statement ClockEvents can hold together. -/
theorem witness_ClockEvents :
    (∃ (s : State) (q : PllId), ((s.pll q).state = .starting) ∧
    ((q = .core ∨ s.awaits .core = false))) ∧
    (∃ (s : State) (q : PllId), ((s.pll q).state = .starting) ∧
    ((s.pll q).restarts < 2) ∧
    ((q = .core ∨ s.awaits .core = false))) ∧
    (∃ (s : State) (q : PllId), ((s.pll q).state = .locked)) ∧
    (∃ (s : State) (q : PllId), (q ∈ usbPlls) ∧
    (((s.pll q).state = .starting ∨ (s.pll q).state = .locked)) ∧
    (s.pllNeeded q = false)) ∧
    (∃ (s : State), (s.clk.refEth = true) ∧
    ((s.pll .core).alt = false) ∧
    (((s.pll .core).state = .locked ∨ (s.pll .core).state = .starting))) ∧
    (∃ (s : State), (s.clk.refEth = true) ∧
    ((s.pll .core).alt = true)) ∧
    (∃ (s : State), (s.inService = true) ∧
    (s.clk.refEth = true) ∧
    ((s.pll .core).alt = false) ∧
    ((s.pll .core).state = .locked)) ∧
    (∃ (s : State), (s.boot.strapNoxo = false) ∧
    (s.clk.xo32Ok = true)) ∧
    (∃ (s : State), (s.boot.strapNoxo = false)) ∧
    (∃ (s : State) (_v : Word), (s.coreServes = true) ∧
    (s.boot.phase = .service)) ∧
    (∃ (s : State) (n : Nat), (Quiet s) ∧
    (1 ≤ n) ∧
    (n ≤ 7) ∧
    (s.linkLive n = true) ∧
    (s.flt.injArmed = false)) ∧
    (∃ (s : State) (n : Nat), (Quiet s) ∧
    (5 ≤ n) ∧
    (n ≤ 7) ∧
    ((s.dieLink n).retraining = true) ∧
    ((s.dieLink n).lost = false)) ∧
    (∃ (s : State) (n : Nat), (1 ≤ n) ∧
    (n ≤ 4) ∧
    ((s.dieLink n).retraining = true) ∧
    ((s.dieLink n).lost = false)) ∧
    (∃ (s : State) (n : Nat), (1 ≤ n) ∧
    (n ≤ 4) ∧
    ((s.dieLink n).retraining = true) ∧
    ((s.dieLink n).lost = false) ∧
    ((s.dieLink n).held = [])) ∧
    (∃ (s : State) (n : Nat), (Quiet s) ∧
    (1 ≤ n) ∧
    (n ≤ 7) ∧
    ((s.dieLink n).retraining = true) ∧
    ((s.dieLink n).lost = false) ∧
    ((s.dieLink n).fails = 0)) ∧
    (∃ (s : State) (n : Nat), (1 ≤ n) ∧
    (n ≤ 7) ∧
    ((s.dieLink n).retraining = true) ∧
    ((s.dieLink n).lost = false) ∧
    ((s.dieLink n).fails = 1) ∧
    ((s.dieLink n).held = [])) :=
  ⟨⟨wServ.setPll (.gallery 12) ⟨.starting, 1, false⟩, .gallery 12, by decide +kernel⟩,
    ⟨wServ.setPll .core ⟨.starting, 1, false⟩, .core, by decide +kernel⟩,
    ⟨wServ.setPll (.gen2 4) ⟨.locked, 0, false⟩, .gen2 4, by decide +kernel⟩,
    ⟨wServ.setPll (.gen1 1) ⟨.locked, 0, false⟩, .gen1 1, by decide +kernel⟩,
    ⟨(wServ.setPll .core ⟨.locked, 0, false⟩).modClk (fun c => { c with refEth := true }), by decide +kernel⟩,
    ⟨(wServ.setPll .core ⟨.locked, 0, true⟩).modClk (fun c => { c with refEth := true }), by decide +kernel⟩,
    ⟨(wServ.setPll .core ⟨.locked, 0, false⟩).modClk (fun c => { c with refEth := true }), by decide +kernel⟩,
    ⟨wServ.modClk (fun c => { c with xo32Ok := true, rc32 := false }), by decide +kernel⟩,
    ⟨wServ, by decide +kernel⟩,
    ⟨wServ.modClk (fun c => { c with evt := 7, evtCause := 2 }), 3, by decide +kernel⟩,
    ⟨wServ.setPll .core ⟨.locked, 0, false⟩, 7, by constructor <;> decide +kernel, by decide +kernel⟩,
    ⟨wServ.setDieLink 7 ⟨0, true, 1, false, 0, false, []⟩, 7, by constructor <;> decide +kernel, by decide +kernel⟩,
    ⟨wServ.setDieLink 4 ⟨0, true, 1, false, 0, false, []⟩, 4, by decide +kernel⟩,
    ⟨wServ.setDieLink 4 ⟨0, true, 1, false, 0, false, []⟩, 4, by decide +kernel⟩,
    ⟨wServ.setDieLink 1 ⟨0, true, 0, false, 0, false, []⟩, 1, by constructor <;> decide +kernel, by decide +kernel⟩,
    ⟨wServ.setDieLink 5 ⟨0, true, 1, false, 0, false, []⟩, 5, by decide +kernel⟩⟩

/-- The hypotheses of the statement ResetsAndStartUp can hold together. -/
theorem witness_ResetsAndStartUp :
    (∃ (s : State) (x : Straps), (x.test = false) ∧
    (x.stages.all (fun e => decide (e.2 ≠ 0)) = true) ∧
    (s.boot.resetLow = false)) ∧
    (∃ (s : State) (_x : Straps), (UnitsOk s) ∧
    ((∀ p ∈ allPorts, (s.getPwr p).stageMax ≠ 0)) ∧
    (s.dps.pgMain = true) ∧
    (s.boot.strapTest = false) ∧
    (s.boot.resetLow = false)) ∧
    (∃ (s : State), (UnitsOk s) ∧
    ((∀ p ∈ allPorts, (s.getPwr p).stageMax ≠ 0)) ∧
    (s.dps.pgMain = true) ∧
    (s.boot.strapTest = false) ∧
    (s.boot.resetLow = false)) ∧
    (∃ (s : State) (_x : Straps), (s.dps.pgMain = true) ∧
    (s.boot.strapTest = false)) ∧
    (∃ (s : State), (s.boot.inReset = true)) ∧
    (∃ (_s : State) (_b : Bool), (True)) ∧
    (∃ (s : State), (s.dps.state = .waking) ∧
    (s.dps.fromState = .shelf) ∧
    (s.dps.pgMain = false)) :=
  ⟨⟨State.reset, ⟨[(96, 20000)], false, false, false, false⟩, by decide +kernel⟩,
    ⟨wPd.modDps (fun d => { d with pgMain := true }), ⟨[], false, true, false, false⟩, by decide +kernel⟩,
    ⟨wPd.modDps (fun d => { d with pgMain := true }), by decide +kernel⟩,
    ⟨wPd.modDps (fun d => { d with pgMain := true }), ⟨[(96, 20000)], false, false, false, false⟩, by decide +kernel⟩,
    ⟨State.reset.modBoot (fun b => { b with inReset := true, resetLow := true }), by decide +kernel⟩,
    ⟨wPd, true, by decide +kernel⟩,
    ⟨State.reset.modDps (fun d => { d with state := .waking, fromState := .shelf, mainEn := true, pgMain := false }), by decide +kernel⟩⟩

/-- The hypotheses of the statement ImagesAndKeys can hold together. -/
theorem witness_ImagesAndKeys :
    (∃ (s : State) (path : Path) (d : Bytes), (MayWrite s path 0x2701 1) ∧
    (s.cat.flashFail = false) ∧
    (d.length ≤ 8388608)) ∧
    (∃ (s : State) (path : Path), (MayWrite s path 0x2701 3)) ∧
    (∃ (s : State) (path : Path), (MayWrite s path 0x2700 4)) ∧
    (∃ (s : State) (path : Path) (d : Bytes), (MayWrite s path 0x2703 1) ∧
    (s.cat.held = []) ∧
    (s.boot.identity = true) ∧
    (d.length = 32)) ∧
    (∃ (s : State) (n : Nat) (path : Path) (d : Bytes), (MayWrite s path (keyObject n).1 (keyObject n).2) ∧
    (n ≤ 65) ∧
    (s.cat.held = []) ∧
    (s.dbg.lock ≠ 2) ∧
    (d.length = 32)) ∧
    (∃ (s : State) (n : Nat) (path : Path) (d : Bytes), (MayWrite s path (keyObject n).1 (keyObject n).2) ∧
    (n ≤ 65) ∧
    (s.cat.held = []) ∧
    (s.dbg.lock = 2) ∧
    (d.length = 32)) :=
  ⟨⟨wRun, .spi, [1, 2, 3], by constructor <;> decide +kernel, by decide +kernel⟩,
    ⟨wRun, .svc, by constructor <;> decide +kernel⟩,
    ⟨wRun.modBoot (fun b => { b with imageRollback := 63 }), .spi, by constructor <;> decide +kernel⟩,
    ⟨wRun.modBoot (fun b => { b with identity := true }), .can, zeros 32, by constructor <;> decide +kernel, by decide +kernel⟩,
    ⟨wRun, 65, .spi, List.replicate 32 7, by constructor <;> decide +kernel, by decide +kernel⟩,
    ⟨wRun.modDbg (fun d => { d with lock := 2 }), 64, .spi, List.replicate 32 7, by constructor <;> decide +kernel, by decide +kernel⟩⟩

/-- The hypotheses of the statement DebugAccess can hold together. -/
theorem witness_DebugAccess :
    (∃ (s : State) (v : Word), (s.coreServes = true) ∧
    (s.boot.phase = .service) ∧
    (s.inService = true) ∧
    (s.dbg.lock = 0) ∧
    (v ≠ 0) ∧
    (v.toNat < 4)) ∧
    (∃ (s : State) (v : Word), (s.coreServes = true) ∧
    (s.boot.phase = .service) ∧
    (s.inService = true) ∧
    (s.dbg.lock = 0) ∧
    (v ≠ 0) ∧
    (v.toNat < 4)) ∧
    (∃ (s : State), (s.coreServes = true) ∧
    (s.boot.phase = .service) ∧
    (s.inService = true) ∧
    (s.dbg.lock = 2)) ∧
    (∃ (s : State) (v : Word), (s.coreServes = true) ∧
    (s.boot.phase = .service) ∧
    ((4 ≤ v.toNat ∨ s.inService = false ∨ s.dbg.lock = 1 ∨ s.dbg.lock = 3 ∨ (s.dbg.lock = 2 ∧ v ≠ 0) ∨ (s.dbg.lock = 0 ∧ v = 0)))) ∧
    (∃ (s : State), (s.dbg.lock = 1) ∧
    (s.tenants.all (fun e => decide (e.2.loan = .idle)) = true) ∧
    (s.sess.all (fun e => decide (e.2.state = .closed)) = true)) ∧
    (∃ (_s : State), (True)) ∧
    (∃ (_s : State), (True)) ∧
    (∃ (s : State), (s.dps.vbat = true)) ∧
    (∃ (s : State), (s.dps.vbat = true)) :=
  ⟨⟨wServ, 3, by decide +kernel⟩,
    ⟨wServ, 1, by decide +kernel⟩,
    ⟨wServ.modDbg (fun d => { d with lock := 2, jtag := true }), by decide +kernel⟩,
    ⟨wServ, 4, by decide +kernel⟩,
    ⟨wServ.modDbg (fun d => { d with lock := 1, asked := 2 }), by decide +kernel⟩,
    ⟨wServ, by decide +kernel⟩,
    ⟨wServ.modDbg (fun d => { d with lock := 2, jtag := true }), by decide +kernel⟩,
    ⟨wServ, by decide +kernel⟩,
    ⟨wServ, by decide +kernel⟩⟩

/-- The hypotheses of the statement FaultSlots can hold together. -/
theorem witness_FaultSlots :
    (∃ (s : State) (n : Nat), (Quiet s) ∧
    (n < 32) ∧
    ((s.slot n).state = .armed) ∧
    ((s.slot n).cls ≠ 3) ∧
    ([0x02, 0x03, 0x12, 0x23, 0x31, 0x33, 0x3D, 0x3F].contains (s.slot n).source = false)) ∧
    (∃ (s : State) (n : Nat), (n < 32) ∧
    ((s.slot n).state = .armed)) ∧
    (∃ (s : State) (a b n : Nat), (Quiet s) ∧
    ((List.range 32).find? (fun n => (s.slot n).isHeld && decide ((s.slot n).source = a) && decide ((s.slot n).inst = b)) = some n)) ∧
    (∃ (s : State) (n : Nat), (Quiet s) ∧
    (n < 32) ∧
    ((s.slot n).isHeld = true) ∧
    (s.flt.heldSlots = [s.slot n]) ∧
    (s.can.nmt ≠ .stopped) ∧
    (bitOf (s.cfg 0x1014 0) 31 = false) ∧
    (s.can.emcyInhibit = false)) ∧
    (∃ (s : State) (path : Path), (Quiet s) ∧
    (MayWrite s path 0x2502 2) ∧
    (NoResult s) ∧
    (s.flt.safeStop = true) ∧
    (s.flt.stopBy.any (fun c => s.flt.holds c.1 c.2 || s.flt.causes.contains c) = false)) ∧
    (∃ (s : State) (v : Int), (Quiet s) ∧
    (v ≤ s.thermalAt 0x3D)) ∧
    (∃ (s : State) (g : Nat) (v : Int), (Quiet s) ∧
    (1 ≤ g) ∧
    (g ≤ 4) ∧
    (v ≤ s.thermalAt 0x3D)) ∧
    (∃ (s : State) (v : Int), (s.inService = true) ∧
    (s.thermalAt 0x3E < v) ∧
    (s.flt.thermal.contains (0x3E, 0) = false)) ∧
    (∃ (s : State), (Quiet s) ∧
    (s.noSlot (s.recOf 0x3F 0) = false)) ∧
    (∃ (s : State), (s.flt.curRestart = true)) ∧
    (∃ (s : State), (Quiet s) ∧
    (s.flt.curRestart = true)) ∧
    (∃ (_s : State), (True)) ∧
    (∃ (s : State) (d : Bytes) (l : List Bytes), (s.can.emcyQueue = d :: l) ∧
    (s.can.nmt ≠ .stopped) ∧
    (d.length = 6)) ∧
    (∃ (s : State) (path : Path), (MayWrite s path 0x1003 0)) :=
  ⟨⟨wServ.setSlot 31 { Slot.reset with state := .armed, cls := 2, source := 0x28, inst := 8 }, 31, by constructor <;> decide +kernel, by decide +kernel⟩,
    ⟨wServ.setSlot 31 { Slot.reset with state := .armed, cls := 3, source := 0x0C }, 31, by decide +kernel⟩,
    ⟨wServ.setSlot 3 { Slot.reset with state := .armed, cls := 2, source := 0x31, inst := 9 }, 0x31, 9, 3, by constructor <;> decide +kernel, by decide +kernel⟩,
    ⟨wServ.setSlot 3 { Slot.reset with state := .escalated, cls := 2, source := 0x31, inst := 9 }, 3, by constructor <;> decide +kernel, by decide +kernel⟩,
    ⟨wServ.modFlt (fun f => { f with safeStop := true, stopBy := [(0x0C, 0)] }), .spi, by constructor <;> decide +kernel, by constructor <;> decide +kernel, by decide +kernel⟩,
    ⟨wServ, wServ.thermalAt 0x3D, by constructor <;> decide +kernel, by decide +kernel⟩,
    ⟨wServ.modFlt (fun f => { f with thermal := [(0x3C, 4)] }), 4, wServ.thermalAt 0x3C - 24, by constructor <;> decide +kernel, by decide +kernel⟩,
    ⟨wServ, 10000, by decide +kernel⟩,
    ⟨wServ, by constructor <;> decide +kernel, by decide +kernel⟩,
    ⟨wServ.modFlt (fun f => { f with curRestart := true }), by decide +kernel⟩,
    ⟨(wServ.modFlt (fun f => { f with curRestart := true })).modGals 12 (fun x => { x with frozenCur := true }), by constructor <;> decide +kernel, by decide +kernel⟩,
    ⟨wServ.modFlt (fun f => { f with minRun := true }), by decide +kernel⟩,
    ⟨wServ.modCan (fun c => { c with emcyQueue := [[1, 2, 3, 4, 5, 6], [2]] }), [1, 2, 3, 4, 5, 6], [[2]], by decide +kernel⟩,
    ⟨wServ.modCan (fun c => { c with history := [5] }), .spi, by constructor <;> decide +kernel⟩⟩

/-- The hypotheses of the statement StateRequests can hold together. -/
theorem witness_StateRequests :
    (∃ (s : State) (n : Nat) (path : Path), (MayWrite s path 0x2100 1) ∧
    (s.dps.state = .run) ∧
    (1 ≤ n) ∧
    (n ≤ 3) ∧
    (s.guards (pwrOf n) (match path with | .house _ => true | _ => false) = 0)) ∧
    (∃ (s : State) (n : Nat) (path : Path), (Quiet s) ∧
    (MayWrite s path 0x2100 1) ∧
    (s.dps.state = .run) ∧
    (1 ≤ n) ∧
    (n ≤ 3) ∧
    (s.guards (pwrOf n) (match path with | .house _ => true | _ => false) ≠ 0)) ∧
    (∃ (s : State) (v : PwrState), (s.dps.request = some v) ∧
    ((s.dps.state = .run ∨ s.dps.state = .drowse)) ∧
    (s.guards v s.dps.requestHouse = 0)) ∧
    (∃ (s : State), (s.dps.state = .run) ∧
    (s.cfg 0x2100 2 ≠ 0) ∧
    (s.cfg 0x2100 1 = 0) ∧
    (s.dps.request = none) ∧
    (s.guards .drowse false = 0)) ∧
    (∃ (s : State), (s.dps.state = .settling) ∧
    (s.settleReady = true) ∧
    (s.dps.latch = []) ∧
    (s.dps.request = none)) ∧
    (∃ (s : State), (s.dps.state = .settling) ∧
    (s.settleReady = true) ∧
    (s.dps.latch ≠ [])) :=
  ⟨⟨wRun, 1, .spi, by constructor <;> decide +kernel, by decide +kernel⟩,
    ⟨wTree, 1, .spi, by constructor <;> decide +kernel, by constructor <;> decide +kernel, by decide +kernel⟩,
    ⟨wRun.modDps (fun d => { d with state := .drowse, request := some .shelf }), .shelf, by decide +kernel⟩,
    ⟨wRun.setCfg 0x2100 2 10, by decide +kernel⟩,
    ⟨wRun.modDps (fun d => { d with state := .settling, target := .dormant, settle := settleSteps .run .dormant }), by decide +kernel⟩,
    ⟨wRun.modDps (fun d => { d with state := .settling, target := .drowse, settle := settleSteps .run .drowse, latch := [⟨7, 0, 0⟩] }), by decide +kernel⟩⟩

/-- The hypotheses of the statement WakesAndDomains can hold together. -/
theorem witness_WakesAndDomains :
    (∃ (s : State), ((s.dps.state = .drowse ∨ s.dps.state = .dormant ∨ s.dps.state = .shelf)) ∧
    (s.dps.latch.length < 32)) ∧
    (∃ (s : State), ((s.dps.state = .settling ∨ s.dps.state = .waking)) ∧
    (s.dps.latch.length < 32)) ∧
    (∃ (s : State), (s.regs.custAlarm ≠ 0) ∧
    ((s.dps.state = .drowse ∨ s.dps.state = .dormant ∨ s.dps.state = .shelf))) ∧
    (∃ (s : State), ((s.dps.state = .dormant ∨ s.dps.state = .shelf)) ∧
    (bitOf s.regs.custWakeEn.toNat 5 = true)) ∧
    (∃ (s : State), (s.dps.state = .dormant) ∧
    (bitOf s.regs.custWakeEn.toNat 4 = true)) ∧
    (∃ (s : State), (s.awaits .core = true)) ∧
    (∃ (s : State) (d : Domain), (s.awaits d = true) ∧
    (d ≠ .core) ∧
    (d ≠ .pgMain) ∧
    (s.dps.fromState ≠ .shelf) ∧
    ((s.domainUp d).domainsDone = true) ∧
    (s.dps.domainsFailed.contains .core = false)) ∧
    (∃ (s : State) (d : Domain), (s.awaits d = true) ∧
    (s.dps.retried.contains d = false)) ∧
    (∃ (s : State) (d : Domain), (s.awaits d = true) ∧
    (s.dps.retried.contains d = true) ∧
    (d ≠ .pgMain)) ∧
    (∃ (s : State), (s.awaits .pgMain = true) ∧
    (s.dps.retried.contains .pgMain = true)) ∧
    (∃ (s : State), (s.dps.state ≠ .shelf)) ∧
    (∃ (s : State) (_n : Nat), (s.dps.state = .run)) :=
  ⟨⟨wRun.modDps (fun d => { d with state := .shelf }), by decide +kernel⟩,
    ⟨wRun.modDps (fun d => { d with state := .settling }), by decide +kernel⟩,
    ⟨(wRun.modDps (fun d => { d with state := .dormant })).modRegs (fun r => { r with custAlarm := 4 }), by decide +kernel⟩,
    ⟨(wRun.modDps (fun d => { d with state := .shelf })).modRegs (fun r => { r with custWakeEn := 0x20 }), by decide +kernel⟩,
    ⟨(wRun.modDps (fun d => { d with state := .dormant })).modRegs (fun r => { r with custWakeEn := 0x10 }), by decide +kernel⟩,
    ⟨wWake .dormant [], by decide +kernel⟩,
    ⟨wWake .drowse [.portA], .portB, by decide +kernel⟩,
    ⟨wWake .dormant [], .core, by decide +kernel⟩,
    ⟨(wWake .drowse [.portA]).modDps (fun d => { d with retried := [.portB] }), .portB, by decide +kernel⟩,
    ⟨(wWake .shelf []).modDps (fun d => { d with retried := [.pgMain] }), by decide +kernel⟩,
    ⟨wRun, by decide +kernel⟩,
    ⟨wRun, 723, by decide +kernel⟩⟩

/-- The hypotheses of the statement VaultItems can hold together. -/
theorem witness_VaultItems :
    (∃ (s : State) (r : Rec) (a n : Nat), (Taken s r 16) ∧
    (Quiet s) ∧
    (s.dps.state = .run) ∧
    ((s.getTenants (owner s r)).loan ≠ .paused) ∧
    ((itemOf s r 0x60).f 0 8 = a) ∧
    ((itemOf s r 0x60).f 8 4 = n) ∧
    (1 ≤ n) ∧
    (n ≤ 1024) ∧
    (s.inAllot (owner s r) a n = true) ∧
    (s.badDrive (s.parts (owner s r) a n) = false) ∧
    (s.vault.cmds.length < 60000)) ∧
    (∃ (s : State) (r : Rec) (a n : Nat), (Taken s r 16) ∧
    (Quiet s) ∧
    (s.dps.state = .run) ∧
    ((s.getTenants (owner s r)).loan ≠ .paused) ∧
    ((itemOf s r 0x61).f 0 8 = a) ∧
    ((itemOf s r 0x61).f 8 4 = n) ∧
    (1 ≤ n) ∧
    (n ≤ 1024) ∧
    (s.inAllot (owner s r) a n = true)) ∧
    (∃ (s : State) (r : Rec), (Taken s r 0) ∧
    (Quiet s) ∧
    (s.dps.state = .run) ∧
    ((s.getTenants (owner s r)).loan ≠ .paused) ∧
    (s.vault.enabled = true)) ∧
    (∃ (s : State) (r : Rec) (a n : Nat), (Taken s r 12) ∧
    (Quiet s) ∧
    (s.dps.state = .run) ∧
    ((s.getTenants (owner s r)).loan ≠ .paused) ∧
    ((itemOf s r 0x63).f 0 8 = a) ∧
    ((itemOf s r 0x63).f 8 4 = n) ∧
    (a % 256 = 0) ∧
    (n % 256 = 0) ∧
    (s.inAllot (owner s r) a n = true) ∧
    (s.badDrive (s.parts (owner s r) a n) = false) ∧
    ((∀ x ∈ s.parts (owner s r) a n, s.regionOfKey (s.physOf x.1) = some x.1))) ∧
    (∃ (s : State) (r : Rec), (Taken s r 8) ∧
    (Quiet s) ∧
    ((itemOf s r 0x64).f 0 1 ≤ 7) ∧
    ((itemOf s r 0x64).f 4 4 = 352)) :=
  ⟨⟨wVault, wRec (natBE 8 256 ++ natBE 4 2 ++ zeros 4), 256, 2, by refine ⟨⟨?_, ?_, ?_, ?_, ?_, ?_, ?_, ?_⟩, ?_, ?_⟩ <;> decide +kernel, by constructor <;> decide +kernel, by decide +kernel⟩,
    ⟨wVault, wRec (natBE 8 511 ++ natBE 4 1 ++ zeros 4), 511, 1, by refine ⟨⟨?_, ?_, ?_, ?_, ?_, ?_, ?_, ?_⟩, ?_, ?_⟩ <;> decide +kernel, by constructor <;> decide +kernel, by decide +kernel⟩,
    ⟨wVault, wRec [], by refine ⟨⟨?_, ?_, ?_, ?_, ?_, ?_, ?_, ?_⟩, ?_, ?_⟩ <;> decide +kernel, by constructor <;> decide +kernel, by decide +kernel⟩,
    ⟨wVault, wRec (natBE 8 0 ++ natBE 4 512), 0, 512, by refine ⟨⟨?_, ?_, ?_, ?_, ?_, ?_, ?_, ?_⟩, ?_, ?_⟩ <;> decide +kernel, by constructor <;> decide +kernel, by decide +kernel⟩,
    ⟨wVault, wRec (natBE 4 0x07000000 ++ natBE 4 352), by refine ⟨⟨?_, ?_, ?_, ?_, ?_, ?_, ?_, ?_⟩, ?_, ?_⟩ <;> decide +kernel, by constructor <;> decide +kernel, by decide +kernel⟩⟩

/-- The hypotheses of the statement DriveCommands can hold together. -/
theorem witness_DriveCommands :
    (∃ (s : State) (_d : DriveReps), (Quiet s) ∧
    (s.inService = true) ∧
    (s.dps.state = .run) ∧
    (s.vault.enabled = false) ∧
    (s.vault.enabling = false)) ∧
    (∃ (s : State) (_d : DriveReps), (Quiet s) ∧
    (s.inService = true) ∧
    (s.dps.state = .run) ∧
    (s.vault.enabled = false) ∧
    (s.vault.enabling = false) ∧
    (s.vault.written = []) ∧
    (s.clearing = false)) ∧
    (∃ (s : State) (n : Nat) (c : Nvme), (Quiet s) ∧
    (s.vault.cmds = [(n, c)]) ∧
    (c.issued = true) ∧
    (c.op = 5) ∧
    (c.item = none) ∧
    (c.chan = none) ∧
    (c.job = none) ∧
    (s.vault.enabling = true)) ∧
    (∃ (s : State) (path : Path), (Quiet s) ∧
    (MayWrite s path 0x2300 2)) ∧
    (∃ (s : State) (n : Nat) (c : Nvme), (Quiet s) ∧
    (s.cmd? n = some c) ∧
    (c.op = 1)) ∧
    (∃ (s : State) (n : Nat) (c : Nvme), (Quiet s) ∧
    (s.cmd? n = some c) ∧
    (c.retried = false) ∧
    (s.flt.safeStop = false)) ∧
    (∃ (s : State) (n : Nat) (c : Nvme), (Quiet s) ∧
    (s.cmd? n = some c) ∧
    (c.item = none) ∧
    ((s.drive c.drive).timeouts = 0)) ∧
    (∃ (s : State) (n : Nat) (c : Nvme), (Quiet s) ∧
    (s.cmd? n = some c) ∧
    (s.vault.cmds.all (fun e => decide (e.2.item = none)) = true) ∧
    (s.noSlot (s.recOf 0x28 c.drive) = false) ∧
    (1 ≤ (s.drive c.drive).timeouts) ∧
    ((s.drive c.drive).up = true) ∧
    ((s.drive c.drive).failed = false)) ∧
    (∃ (s : State) (n : Nat), (Quiet s) ∧
    (1 ≤ n) ∧
    (n ≤ 8) ∧
    (s.vault.cmds.all (fun e => decide (e.2.item = none)) = true) ∧
    (s.noSlot (s.recOf 0x28 n) = false) ∧
    ((s.drive n).up = true) ∧
    ((s.drive n).failed = false)) ∧
    (∃ (s : State) (n : Nat), (Quiet s) ∧
    (1 ≤ n) ∧
    (n ≤ 8) ∧
    (s.vault.cmds.all (fun e => decide (e.2.item = none)) = true) ∧
    (s.noSlot (s.recOf 0x28 n) = false) ∧
    ((s.drive n).up = true) ∧
    ((s.drive n).failed = false)) :=
  ⟨⟨wServ.setCfg 0x2300 1 3, [⟨8, [⟨1, true, 2⟩]⟩], by constructor <;> decide +kernel, by decide +kernel⟩,
    ⟨wServ.setCfg 0x2300 1 3, [⟨8, [⟨1, true, 2⟩]⟩], by constructor <;> decide +kernel, by decide +kernel⟩,
    ⟨(wCmd 5).modVault (fun v => { v with enabled := false, enabling := true }), 3, wNvme 5, by constructor <;> decide +kernel, by decide +kernel⟩,
    ⟨wVault, .spi, by constructor <;> decide +kernel, by constructor <;> decide +kernel⟩,
    ⟨wCmd 1, 3, wNvme 1, by constructor <;> decide +kernel, by decide +kernel⟩,
    ⟨wCmd 0, 3, wNvme 0, by constructor <;> decide +kernel, by decide +kernel⟩,
    ⟨wCmd 0, 3, wNvme 0, by constructor <;> decide +kernel, by decide +kernel⟩,
    ⟨(wCmd 1).setDrive 1 ⟨true, false, 1⟩, 3, wNvme 1, by constructor <;> decide +kernel, by decide +kernel⟩,
    ⟨wVault, 1, by constructor <;> decide +kernel, by decide +kernel⟩,
    ⟨wVault, 1, by constructor <;> decide +kernel, by decide +kernel⟩⟩

/-- The hypotheses of the statement FanoutJobs can hold together. -/
theorem witness_FanoutJobs :
    (∃ (s : State) (r : Rec), (Taken s r 32) ∧
    (Quiet s) ∧
    (s.dps.state = .run) ∧
    ((s.getTenants (owner s r)).loan ≠ .paused) ∧
    ((itemOf s r 0x65).f 0 1 ≤ 7) ∧
    ((s.jobOf (keyOf s r) (itemOf s r 0x65)).tmpl ≠ []) ∧
    ((s.jobOf (keyOf s r) (itemOf s r 0x65)).targets ≠ []) ∧
    ((s.jobOf (keyOf s r) (itemOf s r 0x65)).targets.length ≤ 256) ∧
    (32 + 32 * (s.jobOf (keyOf s r) (itemOf s r 0x65)).targets.length ≤ r.body.length) ∧
    ((s.jobOf (keyOf s r) (itemOf s r 0x65)).blocks ≠ 0) ∧
    (2 ≤ (s.jobOf (keyOf s r) (itemOf s r 0x65)).window) ∧
    (((s.jobOf (keyOf s r) (itemOf s r 0x65)).coll = true ∨ (s.jobOf (keyOf s r) (itemOf s r 0x65)).jobId = 0)) ∧
    (((s.jobOf (keyOf s r) (itemOf s r 0x65)).upstream = true ∨ s.inAllot (owner s r) (s.jobOf (keyOf s r) (itemOf s r 0x65)).tlba (s.jobOf (keyOf s r) (itemOf s r 0x65)).blocks = true)) ∧
    ((s.jobOf (keyOf s r) (itemOf s r 0x65)).targets.findSome? (s.targetRefusal (s.jobOf (keyOf s r) (itemOf s r 0x65))) = none) ∧
    (((s.jobOf (keyOf s r) (itemOf s r 0x65)).targets.flatMap (fun t => t.pipes.eraseDups)).eraseDups.length = ((s.jobOf (keyOf s r) (itemOf s r 0x65)).targets.flatMap (fun t => t.pipes.eraseDups)).length) ∧
    (s.poolHas (s.jobOf (keyOf s r) (itemOf s r 0x65)).winKib = true)) ∧
    (∃ (s : State) (r : Rec) (n : Nat), (Taken s r 8) ∧
    (Quiet (s.modVault (fun v => { v with jobs := [] }))) ∧
    (s.vault.jobs.all (fun e => !e.2.active) = true) ∧
    (s.jobSlot (owner s r) ((itemOf s r 0x66).f 0 6) = some n)) ∧
    (∃ (s : State) (r : Rec) (n : Nat) (i : Item), (Taken s r 8) ∧
    (s.jobSlot (owner s r) ((itemOf s r 0x67).f 0 6) = some n) ∧
    ((s.job n).active = true) ∧
    (s.item? (s.job n).item = some i) ∧
    (s.inProgress (s.job n).item i = true) ∧
    (i.cause = none)) ∧
    (∃ (s : State) (j n : Nat) (d : Bytes), (j < 16) ∧
    (s.inExchange j n = true) ∧
    ((s.job j).statusOk ((s.job j).target n) d = true) ∧
    (((s.job j).target n).state ≠ .verifying)) ∧
    (∃ (s : State) (j n : Nat), (j < 16) ∧
    (s.inExchange j n = true) ∧
    (((s.job j).target n).retries < s.cfg 0x2305 0)) ∧
    (∃ (s : State) (j n : Nat), (j < 16) ∧
    (s.inExchange j n = true) ∧
    (s.cfg 0x2305 0 ≤ ((s.job j).target n).retries)) ∧
    (∃ (s : State) (j n : Nat) (_d : Bytes), (j < 16) ∧
    (s.inExchange j n = true) ∧
    (((s.job j).target n).state = .verifying) ∧
    (((s.job j).target n).repairing = false) ∧
    ((s.job j).tf 5 1 ≠ 0)) ∧
    (∃ (s : State) (j : Nat), (j < 16) ∧
    ((s.job j).active = false)) :=
  ⟨⟨wFan, wFanRec, by refine ⟨⟨?_, ?_, ?_, ?_, ?_, ?_, ?_, ?_⟩, ?_, ?_⟩ <;> decide +kernel, by constructor <;> decide +kernel, by decide +kernel⟩,
    ⟨wVault.setJob 3 { Job.reset with taken := true, principal := 1, acc := 77 }, wRec (natBE 6 77 ++ zeros 2), 3, by refine ⟨⟨?_, ?_, ?_, ?_, ?_, ?_, ?_, ?_⟩, ?_, ?_⟩ <;> decide +kernel, by constructor <;> decide +kernel, by decide +kernel⟩,
    ⟨wJob .streaming, wRec (natBE 6 77 ++ zeros 2), 15, wJobItem, by refine ⟨⟨?_, ?_, ?_, ?_, ?_, ?_, ?_, ?_⟩, ?_, ?_⟩ <;> decide +kernel, by decide +kernel⟩,
    ⟨wJob .streaming, 15, 0, [9], by decide +kernel⟩,
    ⟨wJob .streaming, 15, 0, by decide +kernel⟩,
    ⟨(wJob .streaming).setCfg 0x2305 0 0, 15, 0, by decide +kernel⟩,
    ⟨wJob .verifying, 15, 0, [1, 2], by decide +kernel⟩,
    ⟨wVault.setJob 0 { Job.reset with taken := true }, 0, by decide +kernel⟩⟩

/-- The hypotheses of the statement Captures can hold together. -/
theorem witness_Captures :
    (∃ (s : State) (r : Rec) (n : Nat), (Taken s r 24) ∧
    (Quiet s) ∧
    (NoResult s) ∧
    (s.dps.state = .run) ∧
    ((s.getTenants (owner s r)).loan ≠ .paused) ∧
    ((itemOf s r 0x68).f 0 4 % 1048576 = n) ∧
    (s.holdsPipe (owner s r) n = true) ∧
    ((s.getPipes n).state = .opened) ∧
    ((s.getPipes n).typ ≠ 0) ∧
    ((s.getPipes n).dirIn = true) ∧
    ((s.getPipes n).heldBy = .none) ∧
    ((itemOf s r 0x68).f 20 2 ≠ 0) ∧
    ((itemOf s r 0x68).f 20 2 ≤ 1024) ∧
    ((itemOf s r 0x68).f 16 4 ≠ 0) ∧
    ((itemOf s r 0x68).f 16 4 % (itemOf s r 0x68).f 20 2 = 0) ∧
    ((if (s.getPipes n).typ = 1 then 1 ≤ (itemOf s r 0x68).f 22 2 ∧ (itemOf s r 0x68).f 22 2 ≤ 1024 else (itemOf s r 0x68).f 22 2 = 0)) ∧
    ((if (s.getPipes n).stream = 0 then (itemOf s r 0x68).f 4 2 = 0 else 1 ≤ (itemOf s r 0x68).f 4 2 ∧ (itemOf s r 0x68).f 4 2 ≤ (s.getPipes n).stream)) ∧
    (s.inAllot (owner s r) ((itemOf s r 0x68).f 8 8) ((itemOf s r 0x68).f 16 4) = true)) ∧
    (∃ (s : State) (r : Rec) (c : Capt), (Taken s r 8) ∧
    (s.vault.captures = [c]) ∧
    (c.principal = owner s r) ∧
    (c.acc = (itemOf s r 0x69).f 0 6) ∧
    ((s.getItems c.item).op = 0x68) ∧
    ((s.getItems c.item).stage = 1)) :=
  ⟨⟨wCapt, wRec (natBE 4 12289 ++ zeros 4 ++ natBE 8 0 ++ natBE 4 4 ++ natBE 2 2 ++ zeros 2), 12289, by refine ⟨⟨?_, ?_, ?_, ?_, ?_, ?_, ?_, ?_⟩, ?_, ?_⟩ <;> decide +kernel, by constructor <;> decide +kernel, by decide +kernel⟩,
    ⟨wCapture, wRec (natBE 6 77 ++ zeros 2), wCaptOf, by refine ⟨⟨?_, ?_, ?_, ?_, ?_, ?_, ?_, ?_⟩, ?_, ?_⟩ <;> decide +kernel, by decide +kernel⟩⟩

/-- The hypotheses of the statement MoverChannels can hold together. -/
theorem witness_MoverChannels :
    (∃ (s : State) (c : Nat), (Quiet (s.modMov (fun m => { m with chans := [] }))) ∧
    (s.coreServes = true) ∧
    (s.boot.phase = .service) ∧
    (16 ≤ c) ∧
    (c < 32) ∧
    ((s.chan c).state = .idle) ∧
    (s.regs.parBad = []) ∧
    (s.flt.injArmed = false)) ∧
    (∃ (s : State) (c : Nat), (Quiet (s.modMov (fun m => { m with chans := [] }))) ∧
    (s.coreServes = true) ∧
    (s.boot.phase = .service) ∧
    (16 ≤ c) ∧
    (c < 32) ∧
    ((s.chan c).state = .halted) ∧
    (0x20 ≤ (s.chan c).cause)) ∧
    (∃ (s : State) (c : Nat), (Quiet (s.modMov (fun m => { m with chans := [] }))) ∧
    (s.coreServes = true) ∧
    (s.boot.phase = .service) ∧
    (16 ≤ c) ∧
    (c < 32) ∧
    ((s.chan c).state = .halted) ∧
    (ctl (s.chan c).desc 10 = true)) ∧
    (∃ (s : State) (c : Nat), (Quiet (s.modMov (fun m => { m with chans := [] }))) ∧
    (s.coreServes = true) ∧
    (s.boot.phase = .service) ∧
    (16 ≤ c) ∧
    (c < 32) ∧
    ((s.chan c).state = .running)) ∧
    (∃ (s : State) (c : Nat), (Quiet (s.modMov (fun m => { m with chans := [] }))) ∧
    (c < 32) ∧
    ((s.chan c).state = .stopping)) ∧
    (∃ (s : State) (c a b n x y : Nat) (_d : Bytes), (Quiet (s.modMov (fun m => { m with chans := [] }))) ∧
    (c < 32) ∧
    ((s.chan c).moving = true) ∧
    ((s.chan c).unitCfg = none) ∧
    ((s.chan c).got = []) ∧
    ((s.chan c).bytes = 0) ∧
    (s.flt.injArmed = false) ∧
    (srcSide (s.chan c).desc = (0, a, n, x, 1)) ∧
    (dstSide (s.chan c).desc = (0, b, n, y, 1)) ∧
    (a + n ≤ s.areaSize) ∧
    (b + n ≤ s.areaSize) ∧
    ((b + n ≤ (s.chan c).cur ∨ (s.chan c).cur + 64 ≤ b)) ∧
    (ctl (s.chan c).desc 10 = true)) ∧
    (∃ (s : State) (c : Nat) (_e : BusErr), (Quiet (s.modMov (fun m => { m with chans := [] }))) ∧
    (c < 32) ∧
    ((s.chan c).state = .running)) ∧
    (∃ (s : State) (c : Nat) (d : Bytes), (Quiet (s.modMov (fun m => { m with chans := [] }))) ∧
    (c < 32) ∧
    ((s.chan c).moving = true) ∧
    ((srcSide (s.chan c).desc).1 = 2) ∧
    (d.length < sideTotal (srcSide (s.chan c).desc)) ∧
    (ctl (s.chan c).desc 9 = true)) :=
  ⟨⟨wServ, 16, by constructor <;> decide +kernel, by decide +kernel⟩,
    ⟨wServ.setChan 31 { Chan.reset with state := .halted, cause := 0x21 }, 31, by constructor <;> decide +kernel, by decide +kernel⟩,
    ⟨wServ.setChan 16 { Chan.reset with state := .halted, cause := 0x21, desc := wDesc }, 16, by constructor <;> decide +kernel, by decide +kernel⟩,
    ⟨wServ.setChan 16 { Chan.reset with state := .running, desc := wDesc }, 16, by constructor <;> decide +kernel, by decide +kernel⟩,
    ⟨wServ.setChan 0 { Chan.reset with state := .stopping, stopCause := 2 }, 0, by constructor <;> decide +kernel, by decide +kernel⟩,
    ⟨wArea, 16, 256, 512, 4, 0, 0, [], by constructor <;> decide +kernel, by decide +kernel⟩,
    ⟨wArea, 16, ⟨0x11, 258, false, 0, 0⟩, by constructor <;> decide +kernel, by decide +kernel⟩,
    ⟨wServ.setChan 16 { Chan.reset with state := .running, desc := wPipeDesc }, 16, [1], by constructor <;> decide +kernel, by decide +kernel⟩⟩

/-- The hypotheses of the statement UnitsScansAndMemories can hold together. -/
theorem witness_UnitsScansAndMemories :
    (∃ (s : State) (n c : Nat), (Quiet (s.modMov (fun m => { m with chans := [] }))) ∧
    (n < 16) ∧
    ((s.unit n).busy = false) ∧
    (s.scanWaits n = false) ∧
    (s.unitNext n = some c) ∧
    (checkUnit (s.chan c).desc = n) ∧
    (ctl (s.chan c).desc 11 = true) ∧
    (s.regs.parBad = []) ∧
    (s.flt.injArmed = false)) ∧
    (∃ (s : State) (a : Nat) (_w : Word), (s.coreServes = true) ∧
    (s.boot.phase = .service) ∧
    (0x380000 ≤ a) ∧
    (a ≤ 0x3BFFFF) ∧
    (a % 4 = 0) ∧
    (s.windowAt a + 4 ≤ s.areaSize)) ∧
    (∃ (s : State) (a : Nat), (s.coreServes = true) ∧
    (s.boot.phase = .service) ∧
    (0x380000 ≤ a) ∧
    (a ≤ 0x3BFFFF) ∧
    (a % 4 = 0)) ∧
    (∃ (s : State) (w : Word), (Quiet s) ∧
    (s.coreServes = true) ∧
    (s.boot.phase = .service) ∧
    (s.mov.scanBusy = false) ∧
    (s.regs.parBad = []) ∧
    (s.flt.injArmed = false) ∧
    (bitOf w.toNat 0 = true) ∧
    (8 ≤ bitsOf w.toNat 2 4) ∧
    ((s.unit (bitsOf w.toNat 2 4)).cfg.ok = true) ∧
    ((s.unit (bitsOf w.toNat 2 4)).cfg.locator ≠ 1) ∧
    (bitOf w.toNat 1 = false)) ∧
    (∃ (s : State) (w : Word), (Quiet s) ∧
    (s.coreServes = true) ∧
    (s.boot.phase = .service) ∧
    (s.mov.scanBusy = false) ∧
    (s.regs.parBad = []) ∧
    (s.flt.injArmed = false) ∧
    (bitOf w.toNat 0 = true) ∧
    (bitsOf w.toNat 2 4 < 8)) ∧
    (∃ (s : State), (Quiet s) ∧
    (s.mov.scanBusy = true) ∧
    (s.scanWaits s.mov.scanUnit = false) ∧
    (s.mov.scanKind = false) ∧
    (s.chanCmds 32 = false)) ∧
    (∃ (s : State) (_a : Nat), (Quiet s) ∧
    (s.flt.injArmed = false)) ∧
    (∃ (s : State) (a : Nat), (Quiet s) ∧
    (s.flt.injArmed = false) ∧
    (s.mem.uncValid = false) ∧
    ((s.getPipes (a / 64)).state = .free)) ∧
    (∃ (s : State) (r : Region), (s.mem.zeroing.contains r = true)) :=
  ⟨⟨wServ.setChan 16 { Chan.reset with state := .running, waitUnit := true, desc := wUnitDesc }, 8, 16, by constructor <;> decide +kernel, by decide +kernel⟩,
    ⟨wServ, 0x3BFFFC, 0x12345678, by decide +kernel⟩,
    ⟨wServ, 0x380000, by decide +kernel⟩,
    ⟨wServ, 0x61, by constructor <;> decide +kernel, by decide +kernel⟩,
    ⟨wServ, 0x11, by constructor <;> decide +kernel, by decide +kernel⟩,
    ⟨(wServ.modMov (fun m => { m with scanBusy := true, scanUnit := 15, scanLen := 4 })).setUnit 15 { CheckUnit.reset with busy := true }, by constructor <;> decide +kernel, by decide +kernel⟩,
    ⟨wServ, 64, by constructor <;> decide +kernel, by decide +kernel⟩,
    ⟨wServ, 67108863, by constructor <;> decide +kernel, by decide +kernel⟩,
    ⟨wServ.modMem (fun m => { m with zeroing := [⟨1, 5, 64⟩] }), ⟨1, 5, 64⟩, by decide +kernel⟩⟩

/-- The hypotheses of the statement StepTakesFront can hold together. -/
theorem witness_StepTakesFront :
    (∃ (s : State) (c : Instr) (l : List Instr), (s.pending = c :: l)) ∧
    (∃ (s : State), (s.pending = [])) :=
  ⟨⟨{ State.reset with pending := [.scanComplete] }, .scanComplete, [], by decide +kernel⟩,
    ⟨State.reset, by decide +kernel⟩⟩

/-- The hypotheses of the statement StepKeepsForm can hold together. -/
theorem witness_StepKeepsForm :
    (∃ (s t : State), (step s = .next t) ∧
    (MemoriesOk s) ∧
    (UnitsOk s)) :=
  ⟨wPipe, wPipe.tick, rfl, by decide +kernel⟩

/-- The hypotheses of the statement PassKeepsTheRest can hold together. -/
theorem witness_PassKeepsTheRest :
    (∃ (s : State), (Quiet s)) :=
  ⟨wRun, by constructor <;> decide +kernel⟩

/-- The hypotheses of the statement OtherPortsKept can hold together. -/
theorem witness_OtherPortsKept :
    (∃ (s t : State) (p q l : Nat) (off : Int) (x y : CcPin) (h v : Word) (k : CableCaps) (m : Option Nat) (b : Bool) (c : Instr), (c ∈ [.recoveryWindowExpiry p, .idleSuspendExpiry p, .l1IdleExpiry ⟨p, m⟩, .rdOnOneCc p x y, .rdLost p, .unattachedDrainDone p, .vconnFault p, .discoverIdentityInterval p, .cableIdentityReceived p h v k, .bc12PrimaryDetection p, .rpCurrentAdjustExpiry p, .eprModeEnter p, .getSourceCap p, .offsetMeasurement p, .offsetMeasurementEnd p off, .prechargeDone p, .rampSafePoint p, .retryClearExpiry p, .u1U2InactivityTimeout p b, .deviceInitiatedLinkEntry p l]) ∧
    (exec c s = .next t) ∧
    (q ≠ p)) ∧
    (∃ (s t : State) (p q a : Nat) (c : Instr), (c ∈ [.setAddressRecoveryExpiry p, .addressRelease p a]) ∧
    (exec c s = .next t) ∧
    (q ≠ p) ∧
    (NoResult s) ∧
    ((s.getGals (galOf p)).npWaiting = [])) :=
  ⟨⟨wServ, wServ.modProt 96 (fun r => { r with measuring := true }), 96, 1, 2, 0, .bare, .bare, 0, 0, ⟨false, false, false, false, false, false⟩, none, false, .offsetMeasurement 96, by simp, rfl, by decide +kernel⟩,
    ⟨wServ, wServ, 96, 1, 3, .addressRelease 96 3, by simp, rfl, by decide +kernel⟩⟩

/-- The hypotheses of the statement StoresTouchTheirBytes can hold together. -/
theorem witness_StoresTouchTheirBytes :
    (∃ (_s : State) (_a _k : Nat) (_w : Word), (True)) ∧
    (∃ (s : State) (_a _k : Nat), (s.flt.injArmed = false)) ∧
    (∃ (s : State) (_c _k : Nat) (_d : Bytes), (s.flt.injArmed = false)) ∧
    (∃ (_s : State) (_c : Nat) (_d : Bytes), (True)) ∧
    (∃ (s : State) (n _k : Nat) (c : Nvme) (_ok : Bool), (s.cmd? n = some c)) ∧
    (∃ (s : State) (o _k : Nat) (_d : Bytes) (path : Path), (MayWrite s path 0x2701 1) ∧
    (o ≠ 0)) :=
  ⟨⟨wServ, 0x380000, 4, 7, by decide +kernel⟩,
    ⟨wServ, 0x380000, 4, by decide +kernel⟩,
    ⟨wArea, 16, 256, [], by decide +kernel⟩,
    ⟨wArea, 16, [], by decide +kernel⟩,
    ⟨wCmd 1, 3, 0, wNvme 1, true, by decide +kernel⟩,
    ⟨wRun, 1, 0, [], .spi, by constructor <;> decide +kernel, by decide +kernel⟩⟩

/-- The hypotheses of the statement VotedViewsInService can hold together. -/
theorem witness_VotedViewsInService :
    (∃ (s : State) (a : Nat), ((viewAt a).isSome = true) ∧
    (s.inService = true) ∧
    (s.coreServes = true) ∧
    (s.boot.phase = .service)) ∧
    (∃ (s : State) (a : Nat) (_v : Word), ((viewAt a).isSome = true) ∧
    (s.inService = true) ∧
    (s.coreServes = true) ∧
    (s.boot.phase = .service)) :=
  ⟨⟨wServ.modRegs (fun r => { r with parBad := [0x180] }), 0x180, by decide +kernel⟩,
    ⟨wServ, 0x15FF00, 5, by decide +kernel⟩⟩

/-- The hypotheses of the statement CustodianWriteDropped can hold together. -/
theorem witness_CustodianWriteDropped :
    (∃ (s : State) (a : Nat) (_v : Word), (s.inService = true) ∧
    (s.coreServes = true) ∧
    (s.boot.phase = .service) ∧
    ((a = 0x10000 ∨ a = 0x10004)) ∧
    (s.regs.custBusy = true)) :=
  ⟨wServ.modRegs (fun r => { r with custBusy := true }), 0x10004, 9, by decide +kernel⟩

/-- The hypotheses of the statement OffsetOutOfRange can hold together. -/
theorem witness_OffsetOutOfRange :
    (∃ (s : State) (p : Nat) (off : Int), (portOk p = true) ∧
    (s.inService = true) ∧
    ((off < -400 ∨ 400 < off))) :=
  ⟨wServ, 96, -401, by decide +kernel⟩

end Sys2Proof.Tests
end

section
/-!
PROOFS. Register accesses: where the registers of a port block lie, what a read or a write of one does, what a write of one bit of the
Collection's status does, and that the pass after a command leaves them and the outputs (00 R9; 02 R62, R67, R74; 03 R110; 06 R200).
-/
namespace Sys2Proof
open Machine

/-! ### Updates that keep quiet -/

theorem Quiet.modRegs {s : State} (h : Quiet s) (f : Regs → Regs) : Quiet (s.modRegs f) :=
  Eff.of_quiet h (State.modRegs_eff s f) (by decide)

theorem Quiet.modColl {s : State} (h : Quiet s) (f : Coll → Coll) : Quiet (s.modColl f) :=
  Eff.of_quiet h (State.modColl_eff s f) (by decide)

theorem Quiet.parityFresh {s : State} (h : Quiet s) (a : Nat) : Quiet (s.parityFresh a) := by
  unfold State.parityFresh State.causeOff
  split
  · exact (h.modRegs _).modFlt _ fun _ => rfl
  · exact h

theorem Quiet.portPut {s : State} (h : Quiet s) (p off v : Nat) : Quiet (s.portPut p off v) := by
  unfold State.portPut
  split
  · exact h.modUsb _ _ fun _ => rfl
  · exact h.modUsb _ _ fun _ => rfl
  · exact h.modPwr _ _
  · exact h.modPwr _ _
  · exact h.modProt _ _
  · exact h.modProt _ _
  · exact h

end Sys2Proof

namespace Sys2Proof.Machine

/-! ### Addresses (02 R67, R74) -/

/-- A register of a port block lies at its offset from the start of that block. -/
theorem portAt_block {a p off : Nat} (hp : portOk p = true) (ho : off < 0x1000) (ha : a = 0xFF000 + p * 0x1000 + off) :
    portAt a = some (p, off) := by
  obtain ⟨h1, h2⟩ : 1 ≤ p ∧ p ≤ 96 := by simpa [portOk] using hp
  have hdiv : (a - 0x100000) / 0x1000 + 1 = p := by omega
  have hmod : (a - 0x100000) % 0x1000 = off := by omega
  unfold portAt bankAt
  rw [if_pos (by omega), Option.map_some, hdiv, hmod]

theorem range_of_portAt {a : Nat} {x : Nat × Nat} (h : portAt a = some x) : 0x100000 ≤ a ∧ a < 0x160000 := by
  unfold portAt bankAt at h
  split at h
  · omega
  · cases h

theorem bankAt_eq_none {base size n a : Nat} (h : a < base) : bankAt base size n a = none :=
  if_neg fun k => Nat.not_le_of_lt h k.1

theorem aliasAt_eq_none {a : Nat} (h : a < 0xE00000) : aliasAt a = none :=
  if_neg fun k => Nat.not_le_of_lt h k.1

/-- Of a port block, only the word at 0xF00 is a voted view (02 R77). -/
theorem viewAt_port {a p off : Nat} (h : portAt a = some (p, off)) (hv : off ≠ 0xF00) : viewAt a = none := by
  have := range_of_portAt h
  unfold viewAt
  rw [if_neg (by omega), h]
  split
  · rename_i e
    cases e
    exact absurd rfl hv
  · rfl

/-! ### The pass after an access -/

/-- An output of a command is still there after the pass that follows it. -/
theorem State.mem_sent_settle {s : State} {x : Sent} (h : x ∈ s.sent) : x ∈ s.settle.sent :=
  s.settle_eff.grows.subset h

theorem State.getUsb_settle_quiet {s : State} (h : Quiet s) (p : Nat) : s.settle.getUsb p = s.getUsb p := by
  unfold State.getUsb
  rw [(State.settle_eff_quiet h).usb (by decide)]

theorem State.coll_settle_quiet {s : State} (h : Quiet s) : s.settle.coll = s.coll :=
  (State.settle_eff_quiet h).coll (by decide)

/-! ### Which accesses are served, and fresh parity -/

/-- In normal service with the core up, every register access is served (15 R391; 17 R433). -/
theorem State.regServes_of_service {s : State} (hc : s.coreServes = true) (hb : s.boot.phase = .service) (a : Nat) (write : Bool) :
    s.regServes a write = true := by
  unfold State.regServes
  rw [hb]
  exact hc

theorem State.boardRead_served {s : State} (hc : s.coreServes = true) (hb : s.boot.phase = .service) (a : Nat) :
    s.boardRead a = s.regRead a :=
  if_pos (State.regServes_of_service hc hb a false)

theorem State.boardWrite_served {s : State} (hc : s.coreServes = true) (hb : s.boot.phase = .service) (a : Nat) (v : Word) :
    s.boardWrite a v = s.regWrite a v :=
  if_pos (State.regServes_of_service hc hb a true)

theorem State.coreServes_congr {s t : State} (hb : t.boot = s.boot) (hd : t.dps = s.dps) : t.coreServes = s.coreServes := by
  unfold State.coreServes
  rw [hb, hd]

@[simp] theorem State.parityFresh_boot (s : State) (a : Nat) : (s.parityFresh a).boot = s.boot := (s.parityFresh_eff a).boot (by decide)

@[simp] theorem State.parityFresh_dps (s : State) (a : Nat) : (s.parityFresh a).dps = s.dps := (s.parityFresh_eff a).dps (by decide)

@[simp] theorem State.parityFresh_coll (s : State) (a : Nat) : (s.parityFresh a).coll = s.coll := (s.parityFresh_eff a).coll (by decide)

@[simp] theorem State.parityFresh_getUsb (s : State) (a p : Nat) : (s.parityFresh a).getUsb p = s.getUsb p := by
  unfold State.getUsb
  rw [(s.parityFresh_eff a).usb (by decide)]

/-- No check finds a mismatch where none is latched for the register and no injection is armed (02 R75). -/
theorem State.parityCheck_clean {s : State} {a : Nat} (hi : s.flt.injArmed = false) (hp : s.regs.parBad.contains a = false) :
    s.parityCheck a = s := by
  have hf : s.parityFails a = false := by
    unfold State.parityFails State.injectsAt
    rw [hi, hp]
    simp
  unfold State.parityCheck
  rw [if_neg (by simp [hf])]

/-! ### Registers of a port block (06 R200) -/

theorem State.regVal_port {s : State} {a p off : Nat} (h : portAt a = some (p, off)) (h4 : a % 4 = 0) : s.regVal a = s.portReg p off := by
  have := range_of_portAt h
  unfold State.regVal
  rw [if_neg (by omega), if_neg (by omega), if_neg (by omega), if_pos (by omega), h]

/-- A read clears a word of a port block as its unit does. -/
theorem State.clearWord_port {s : State} {a : Nat} {x : Nat × Nat} (h : portAt a = some x) : s.clearWord a = s.clearUnit a := by
  have := range_of_portAt h
  unfold State.clearWord
  split
  case h_7 => rw [bankAt_eq_none (by omega), bankAt_eq_none (by omega)]
  all_goals omega

theorem State.clearUnit_replays {s : State} {a p : Nat} (h : portAt a = some (p, 0x040)) :
    s.clearUnit a = s.modUsb p (fun u => { u with replays := 0, exhausted := 0 }) := by
  simp only [State.clearUnit, h]

/-- A read of a port register whose parity is good gives its value and clears what reading it clears. -/
theorem State.regRead_port {s : State} {a p off : Nat} (h : portAt a = some (p, off)) (h4 : a % 4 = 0) (hv : off ≠ 0xF00)
    (hi : s.flt.injArmed = false) (hp : s.regs.parBad.contains a = false) :
    s.regRead a = (s.clearUnit a, BitVec.ofNat 32 (s.portReg p off)) := by
  have := range_of_portAt h
  unfold State.regRead
  rw [if_neg (by omega), aliasAt_eq_none (by omega)]
  simp only [State.parityCheck_clean hi hp, viewAt_port h hv, State.regVal_port h h4, State.clearWord_port h]
  rw [if_neg (by omega), if_neg (by omega)]

/-- A write of a port register stores fresh parity and does what the register's write does. -/
theorem State.regWrite_port {s : State} {a p off : Nat} (h : portAt a = some (p, off)) (h4 : a % 4 = 0) (hv : off ≠ 0xF00) (v : Word) :
    s.regWrite a v = (s.parityFresh a).portPut p off v.toNat := by
  have := range_of_portAt h
  unfold State.regWrite State.plainPut
  rw [if_neg (by omega), aliasAt_eq_none (by omega), viewAt_port h hv, h]
  simp only
  rw [if_neg (by omega), if_neg (by omega), if_neg (by omega), if_neg (by omega)]

/-- A served write of a port register. -/
theorem State.boardWrite_port {s : State} {a p off : Nat} (hc : s.coreServes = true) (hb : s.boot.phase = .service)
    (h : portAt a = some (p, off)) (h4 : a % 4 = 0) (hv : off ≠ 0xF00) (v : Word) :
    s.boardWrite a v = (s.parityFresh a).portPut p off v.toNat := by
  rw [State.boardWrite_served hc hb, State.regWrite_port h h4 hv]

@[simp] theorem State.portPut_boot (s : State) (p off v : Nat) : (s.portPut p off v).boot = s.boot :=
  (s.portPut_eff p off v).boot (by decide)

@[simp] theorem State.portPut_dps (s : State) (p off v : Nat) : (s.portPut p off v).dps = s.dps :=
  (s.portPut_eff p off v).dps (by decide)

/-- PORT_EVT is W1C. -/
theorem State.portPut_evt (s : State) (p v : Nat) :
    (s.portPut p 0x004 v).getUsb p = { s.getUsb p with evt := w1c (s.getUsb p).evt v } :=
  State.getUsb_modUsb_same _ _ _

/-- PORT_IRQ_EN is RW. -/
theorem State.portPut_irqEn (s : State) (p v : Nat) :
    (s.portPut p 0x008 v).getUsb p = { s.getUsb p with irqEn := BitVec.ofNat 12 v } :=
  State.getUsb_modUsb_same _ _ _

/-! ### Single bits of the Collection's status (02 R74; 03 R110) -/

/-- A flag of a word of flags is the bit at its place. -/
theorem testBit_flagBits (l : List Bool) (i : Nat) : (flagBits l).testBit i = l.getD i false := by
  induction l generalizing i with
  | nil => simp [flagBits]
  | cons b l ih =>
    have hb : b2n b < 2 := by cases b <;> decide
    cases i with
    | zero =>
      rw [Nat.testBit_zero, flagBits, Nat.add_mul_mod_self_left]
      cases b <;> rfl
    | succ i =>
      have hhalf : flagBits (b :: l) / 2 = flagBits l := by rw [flagBits]; omega
      rw [Nat.testBit_succ, hhalf, ih, List.getD_cons_succ]

/-- What lies above the low byte of a word leaves the bits of the low byte. -/
theorem testBit_add_mul_256 (x y : Nat) {i : Nat} (hi : i < 8) : (x + y * 256).testBit i = x.testBit i := by
  have hmod : (x + y * 256) % 2 ^ 8 = x % 2 ^ 8 := by omega
  have hlow : ∀ z, (z % 2 ^ 8).testBit i = z.testBit i := fun z => by rw [Nat.testBit_mod_two_pow, decide_eq_true hi, Bool.true_and]
  rw [← hlow, hmod, hlow]

theorem State.collStat_irqEn (s : State) : (s.regVal 0x300).testBit 6 = s.coll.irqEn := by
  have hr : s.regVal 0x300 = flagBits [s.coll.quorum, (s.voter 0).heard && s.isVoter 0, s.coll.quorumLost, s.coll.digestMm,
      s.coll.leaseExp, s.coll.lockBroken, s.coll.irqEn, s.coll.epochFailed] +
      ((s.lockServer - 1) % 16 + s.quorumSet % 65536 * 256) * 256 := by
    rw [Nat.add_mul, Nat.mul_assoc, ← Nat.add_assoc]
    rfl
  rw [hr, testBit_add_mul_256 _ _ (by decide), testBit_flagBits]
  rfl

/-- IRQ_EN is the one bit that a write of the Collection's status keeps. -/
theorem State.collStat_kept (s : State) : s.regVal 0x300 &&& rwBits 0x300 = b2n s.coll.irqEn * 64 := by
  have hm : rwBits 0x300 = 2 ^ 6 := rfl
  rw [hm, Nat.and_two_pow, State.collStat_irqEn]
  cases s.coll.irqEn <;> rfl

theorem State.aliasPut_irqEn (s : State) (v : Word) :
    s.aliasPut 0x300 6 v = (s.parityFresh 0x300).hubPut 0x300 (BitVec.ofNat 32 (b2n (v.getLsbD 0) * 64)) := by
  have hk := State.collStat_kept (s.parityFresh 0x300)
  have hview : viewAt 0x300 = none := by decide
  have hrw : bitOf (rwBits 0x300) 6 = true := by decide
  unfold State.aliasPut
  simp only [hk, hview, hrw, if_true]
  cases (s.parityFresh 0x300).coll.irqEn <;> cases v.getLsbD 0 <;> rfl

theorem State.aliasPut_quorumLost (s : State) {v : Word} (hv : v.getLsbD 0 = true) :
    s.aliasPut 0x300 2 v = (s.parityFresh 0x300).hubPut 0x300 (BitVec.ofNat 32 (b2n s.coll.irqEn * 64 + 4)) := by
  have hk := State.collStat_kept (s.parityFresh 0x300)
  have hview : viewAt 0x300 = none := by decide
  have hrw : bitOf (rwBits 0x300) 2 = false := by decide
  unfold State.aliasPut
  simp only [hk, hview, hrw, hv, State.parityFresh_coll]
  rfl

/-- What a write of the Collection's status does to the Collection. -/
def Coll.written (w : Nat) (c : Coll) : Coll :=
  { c with
    quorumLost := w1cFlag c.quorumLost w 2, digestMm := w1cFlag c.digestMm w 3, leaseExp := w1cFlag c.leaseExp w 4
    lockBroken := w1cFlag c.lockBroken w 5, irqEn := bitOf w 6, epochFailed := w1cFlag c.epochFailed w 7 }

theorem State.hubPut_collStat (s : State) (v : Word) : s.hubPut 0x300 v = s.modColl (Coll.written v.toNat) := rfl

/-- With no W1C bit written, only IRQ_EN takes a value. -/
theorem Coll.written_irqEn (b : Bool) (c : Coll) : Coll.written (BitVec.ofNat 32 (b2n b * 64)).toNat c = { c with irqEn := b } := by
  cases b <;> simp [Coll.written, w1cFlag, bitOf, b2n]

/-- With QUORUM_LOST written and IRQ_EN as it is, only QUORUM_LOST changes. -/
theorem Coll.written_quorumLost (c : Coll) :
    Coll.written (BitVec.ofNat 32 (b2n c.irqEn * 64 + 4)).toNat c = { c with quorumLost := false } := by
  cases c.irqEn <;> simp [Coll.written, w1cFlag, bitOf, b2n]

/-- The pass after a write of the Collection's status leaves the Collection as the write made it. -/
theorem State.collStat_written {s : State} (h : Quiet s) (v : Word) :
    ((s.parityFresh 0x300).hubPut 0x300 v).settle.coll = Coll.written v.toNat s.coll := by
  rw [State.hubPut_collStat, State.coll_settle_quiet ((h.parityFresh 0x300).modColl _), State.modColl_coll,
    State.parityFresh_coll]

end Sys2Proof.Machine

namespace Sys2Proof
open Machine

theorem Gives.intro {c : Instr} {s t : State} {P : State → Prop} (h : exec c s = .next t) (hp : P t) : Gives c s P := ⟨t, h, hp⟩

/-! ### The accesses of the register space -/

theorem spiRegisterRead_word (s : State) (a n : Nat) :
    Gives (.spiRegisterRead a 1 n) s (fun t => Sent.spi (natLE 4 (s.boardRead a).2.toNat) ∈ t.sent) :=
  Gives.intro rfl (State.mem_sent_settle (by simp [State.spiRead]))

theorem registerReadClear_answer (s : State) (a : Nat) :
    Gives (.registerReadClear a) s (fun t => Sent.reg a (s.boardRead a).2 ∈ t.sent) :=
  Gives.intro rfl (State.mem_sent_settle (by simp [State.wordRead]))

section
variable {s : State} {a p : Nat} (q : Quiet s) (hc : s.coreServes = true) (hb : s.boot.phase = .service)
include q hc hb

theorem registerReadClear_replays (h : portAt a = some (p, 0x040)) (h4 : a % 4 = 0) (hi : s.flt.injArmed = false)
    (hp : s.regs.parBad.contains a = false) :
    Gives (.registerReadClear a) s (fun t =>
      Sent.reg a (BitVec.ofNat 32 ((s.getUsb p).replays.toNat + (s.getUsb p).exhausted.toNat * 65536)) ∈ t.sent ∧
      (t.getUsb p).replays = 0 ∧ (t.getUsb p).exhausted = 0) := by
  have hr := (State.boardRead_served hc hb a).trans (State.regRead_port h h4 (by decide) hi hp)
  refine Gives.intro (t := (s.wordRead a).settle) rfl ?_
  unfold State.wordRead
  rw [hr]
  have hq : Quiet ((s.clearUnit a).emit (.reg a (BitVec.ofNat 32 (s.portReg p 0x040)))) := by
    rw [Quiet.emit, State.clearUnit_replays h]
    exact q.modUsb _ _ fun _ => rfl
  refine ⟨State.mem_sent_settle (by simp [State.portReg]), ?_⟩
  rw [State.getUsb_settle_quiet hq, State.getUsb_emit, State.clearUnit_replays h, State.getUsb_modUsb_same]
  exact ⟨rfl, rfl⟩

theorem registerWrite_portEvents (h : portAt a = some (p, 0x004)) (h4 : a % 4 = 0) (v : Word) :
    Gives (.registerWrite a v) s (fun t => (t.getUsb p).evt = w1c (s.getUsb p).evt v.toNat) := by
  refine Gives.intro (t := (s.boardWrite a v).settle) rfl ?_
  rw [State.boardWrite_port hc hb h h4 (by decide), State.getUsb_settle_quiet ((q.parityFresh a).portPut _ _ _), State.portPut_evt,
    State.parityFresh_getUsb]

/-- A burst of two words from a port's events goes on to its interrupt enables (02 R62). -/
theorem spiRegisterWrite_portEvents (h : portAt a = some (p, 0x004)) (h' : portAt (a + 4) = some (p, 0x008)) (h4 : a % 4 = 0)
    (v w : Word) (c : Nat) :
    Gives (.spiRegisterWrite a [v, w] c) s (fun t => (t.getUsb p).evt = w1c (s.getUsb p).evt v.toNat ∧
      (t.getUsb p).irqEn = BitVec.ofNat 12 w.toNat) := by
  refine Gives.intro (t := ((s.boardWrite a v).boardWrite (a + 4) w).settle) rfl ?_
  have h1 : s.boardWrite a v = (s.parityFresh a).portPut p 0x004 v.toNat := State.boardWrite_port hc hb h h4 (by decide) v
  have hc1 : (s.boardWrite a v).coreServes = true := (State.coreServes_congr (by simp [h1]) (by simp [h1])).trans hc
  have hb1 : (s.boardWrite a v).boot.phase = .service := by simpa [h1] using hb
  have hq1 : Quiet (s.boardWrite a v) := h1 ▸ (q.parityFresh a).portPut _ _ _
  rw [State.boardWrite_port hc1 hb1 h' (by omega) (by decide), State.getUsb_settle_quiet ((hq1.parityFresh _).portPut _ _ _),
    State.portPut_irqEn, State.parityFresh_getUsb, h1, State.portPut_evt, State.parityFresh_getUsb]
  exact ⟨rfl, rfl⟩

theorem bitAliasWrite_irqEn (v : Word) :
    Gives (.bitAliasWrite 0xE06018 v) s (fun t => t.coll = { s.coll with irqEn := v.getLsbD 0 }) := by
  have hw : s.boardWrite 0xE06018 v = s.aliasPut 0x300 6 v := State.boardWrite_served hc hb _ v
  refine Gives.intro (t := (s.boardWrite 0xE06018 v).settle) rfl ?_
  rw [hw, State.aliasPut_irqEn, State.collStat_written q, Coll.written_irqEn]

theorem bitAliasWrite_quorumLost {v : Word} (hv : v.getLsbD 0 = true) :
    Gives (.bitAliasWrite 0xE06008 v) s (fun t => t.coll = { s.coll with quorumLost := false }) := by
  have hw : s.boardWrite 0xE06008 v = s.aliasPut 0x300 2 v := State.boardWrite_served hc hb _ v
  refine Gives.intro (t := (s.boardWrite 0xE06008 v).settle) rfl ?_
  rw [hw, State.aliasPut_quorumLost s hv, State.collStat_written q, Coll.written_quorumLost]

end

/-- Settles O32: each access does what its register does, and the pass that follows leaves ports, Collection and outputs. -/
theorem registerAccess : Obligations.RegisterAccess := by
  unfold Obligations.RegisterAccess
  refine ⟨spiRegisterRead_word, registerReadClear_answer, ?_, ?_, ?_, ?_, ?_⟩
  · intro s p hp q hc hb hi hpar
    exact registerReadClear_replays q hc hb (portAt_block hp (by decide) (by omega)) (by omega) hi hpar
  · intro s p v hp q hc hb
    exact registerWrite_portEvents q hc hb (portAt_block hp (by decide) (by omega)) (by omega) v
  · intro s p v w c hp q hc hb
    exact spiRegisterWrite_portEvents q hc hb (portAt_block hp (by decide) (by omega)) (portAt_block hp (by decide) (by omega))
      (by omega) v w c
  · intro s v q hc hb
    exact bitAliasWrite_irqEn q hc hb v
  · intro s v q hc hb hv
    exact bitAliasWrite_quorumLost q hc hb hv

end Sys2Proof
end

section
/-!
PROOFS. A completion that is not the last record of its session: a house session that turns off the last upstream link raises the Serious
fault of that link's loss, and with every reaction slot held its escalation is delivered in the pass that follows the command, as an event
behind the completion (04 R117; 05 R155, R163; 16 R417, R420).
-/
namespace Sys2Proof
open Machine

/-- The last record of a session after an answered record is its completion, so it is no event. -/
theorem Completed.last_not_event {s t : State} {periodic : Bool} {n acc out det : Nat} {body : Bytes}
    (h : Completed s t periodic n acc out det body) : ((t.getSess n).waiting periodic).getLast?.map HubRec.isEvent = some false := by
  obtain ⟨q, isIn, moved, ps, fr, -, hq⟩ := h
  rw [hq, List.getLast?_append_of_ne_nil _ (by simp)]
  rfl

/-! ### A package with one link and no free reaction slot -/

/-- Every reaction slot armed, each for the fault of another port (16 R417). -/
def Machine.State.armAllSlots (s : State) : State :=
  (List.range 32).foldl (fun s n => s.setSlot n { Slot.reset with source := 0x31, inst := n + 1, state := .armed }) s

/-- A package in normal service and in Run, with house session 5 Open, upstream link 1 alone in Member and every slot armed. -/
def oneLinkSlotsFull : State :=
  (((((State.reset.modDps (fun d => { d with state := .run })).modBoot (fun b => { b with phase := .service })).modRegs
    (fun r => { r with inService := true })).modSess 5
    (fun x => { x with state := .opened, tenant := 0, block := 7, itemLimit := 4 })).setLink 1
    { Link.reset with state := .member }).armAllSlots

/-- The CAT_WRITE of 0 to the links-enabled object 0x2200:04 by session 5 (05 R153). -/
def linksOffRec : Rec where
  sess := 5
  acc := 7 * 4294967296
  deadline := 0
  body := natBE 2 0x2200 ++ natBE 1 4 ++ zeros 1 ++ zeros 4 ++ natBE 2 1 ++ zeros 6 ++ [0]

/-- The row of the links-enabled object. -/
def linksEnabledRow : Obj := ⟨0x2200, 0x2200, 4, 4, .u8, .rw, .no, some .i, .any, none, .nat 0xff⟩

theorem oneLinkSlotsFull_quiet : Quiet oneLinkSlotsFull := by
  constructor <;> decide +kernel

theorem linksOffRec_accepted : Accepted oneLinkSlotsFull linksOffRec 16 := by
  constructor <;> decide +kernel

theorem linksOffRec_mayWrite : MayWrite oneLinkSlotsFull (catPath oneLinkSlotsFull linksOffRec) 0x2200 4 := by
  constructor <;> decide +kernel

theorem linksOffRec_plain :
    Plain (oneLinkSlotsFull.arrive linksOffRec 0x41) (catPath oneLinkSlotsFull linksOffRec) 0x2200 4 [0] linksEnabledRow := by
  constructor <;> decide +kernel

/-- The escalation's event is the last record of the session once the command is over. -/
theorem linksOffRec_last_event :
    (((oneLinkSlotsFull.recCatWrite linksOffRec).settle.getSess linksOffRec.sess).waiting false).getLast?.map HubRec.isEvent =
      some true := by
  decide +kernel

/-- Refutes O31: where the write turns off the last upstream link and no reaction slot is free, the escalation owed for that link's loss is
delivered to the house session behind the completion, which then is not the session's last record. -/
theorem not_catalogueItems : ¬ Obligations.CatalogueItems := by
  unfold Obligations.CatalogueItems
  rintro ⟨-, -, immediate, -⟩
  obtain ⟨t, ht, -, answered⟩ := immediate oneLinkSlotsFull linksOffRec 0x2200 4 [0] linksEnabledRow linksOffRec_accepted
    oneLinkSlotsFull_quiet (by decide +kernel) linksOffRec_mayWrite linksOffRec_plain rfl (by decide) (by decide) (by decide) (by decide)
    (by decide) (by decide)
  have hstep : exec (.catWrite linksOffRec) oneLinkSlotsFull = .next (oneLinkSlotsFull.recCatWrite linksOffRec).settle := rfl
  rw [hstep, Host.Outcome.next.injEq] at ht
  subst ht
  have hlast := (Completed.last_not_event answered).symm.trans linksOffRec_last_event
  exact absurd hlast (by decide)

end Sys2Proof
end

section
/-!
PROOFS. The clocks: what locks, losses, stand-ins and the pass after a command do to the PLLs and to CLK_EVT (01 R29 to R39).
-/
namespace Sys2Proof.Machine

/-! ### The PLLs of a state -/

theorem State.pll_congr {s t : State} (h : t.clk.plls = s.clk.plls) (q : PllId) : t.pll q = s.pll q := by
  unfold State.pll
  rw [h]

theorem State.pll_of_clk {s t : State} (h : t.clk = s.clk) (q : PllId) : t.pll q = s.pll q := State.pll_congr (congrArg Clk.plls h) q

@[simp] theorem State.pll_setPll_same (s : State) (q : PllId) (v : Pll) : (s.setPll q v).pll q = v := SMap.get_put_same _ _ _

theorem State.pll_setPll_other (s : State) {q r : PllId} (v : Pll) (h : pllKey r ≠ pllKey q) : (s.setPll q v).pll r = s.pll r :=
  SMap.get_put_other _ _ h

/-- A PLL that a row of writes does not name keeps its state. -/
theorem State.pll_foldl_setPll_other {l : List PllId} {v : Pll} {q : PllId} (h : ∀ r ∈ l, pllKey r ≠ pllKey q) (s : State) :
    (l.foldl (fun s r => s.setPll r v) s).pll q = s.pll q := by
  induction l generalizing s with
  | nil => rfl
  | cons r l ih =>
    rw [List.foldl_cons, ih (fun x hx => h x (List.mem_cons_of_mem _ hx)), s.pll_setPll_other v (h r List.mem_cons_self).symm]

/-- A PLL at `v` stays there when others are set to `v`, or it itself. -/
theorem State.pll_foldl_setPll_at {l : List PllId} {v : Pll} {q : PllId} {s : State} (h : s.pll q = v) :
    (l.foldl (fun s r => s.setPll r v) s).pll q = v := by
  induction l generalizing s with
  | nil => exact h
  | cons r l ih =>
    refine ih ?_
    by_cases hk : pllKey q = pllKey r
    · unfold State.pll
      rw [hk]
      exact s.pll_setPll_same r v
    · rw [s.pll_setPll_other v hk, h]

/-- Every PLL that a row of writes names is as it was written. -/
theorem State.pll_foldl_setPll_mem {l : List PllId} {v : Pll} {q : PllId} (h : q ∈ l) (s : State) :
    (l.foldl (fun s r => s.setPll r v) s).pll q = v := by
  induction l generalizing s with
  | nil => cases h
  | cons r l ih =>
    rcases List.mem_cons.mp h with rfl | h
    · rw [List.foldl_cons]
      exact State.pll_foldl_setPll_at (s.pll_setPll_same q v)
    · exact ih h _

/-- A row of writes of PLLs changes nothing else of the clocks. -/
theorem State.clk_foldl_setPll (l : List PllId) (v : Pll) (s : State) :
    ∃ m, (l.foldl (fun s r => s.setPll r v) s).clk = { s.clk with plls := m } := by
  induction l generalizing s with
  | nil => exact ⟨s.clk.plls, rfl⟩
  | cons r l ih =>
    obtain ⟨m, hm⟩ := ih (s.setPll r v)
    exact ⟨m, hm⟩

@[simp] theorem State.pll_clkLost (s : State) (b : Nat) (q : PllId) : (s.clkLost b).pll q = s.pll q := rfl

/-! ### The pass after a command (01 R30, R31) -/

/-- The pass starts PLLs and leaves the rest of the clocks. -/
theorem State.pllPass_clk (s : State) : ∃ m, s.pllPass.clk = { s.clk with plls := m } := by
  unfold State.pllPass
  split
  · exact State.clk_foldl_setPll _ ⟨.starting, 0, false⟩ s
  · exact ⟨s.clk.plls, rfl⟩

/-- The pass leaves every PLL of which none that it may start has the key. -/
theorem State.pllPass_pll {s : State} {q : PllId}
    (h : ∀ r, (s.pll r).state = .stopped → (s.clk.refEth = true ∨ r = .pcie) → pllKey r ≠ pllKey q) : s.pllPass.pll q = s.pll q := by
  unfold State.pllPass
  split
  · refine State.pll_foldl_setPll_other (v := ⟨.starting, 0, false⟩) (fun r hr => ?_) s
    rw [List.mem_filter, Bool.and_eq_true, Bool.and_eq_true, Bool.or_eq_true, decide_eq_true_eq, decide_eq_true_eq] at hr
    obtain ⟨-, ⟨hstop, href⟩, -⟩ := hr
    exact h r hstop href
  · rfl

/-- The pass after a command reaches the clocks only where it judges the PLLs. -/
theorem State.settle_pllPass (s : State) : ∃ u : State, u.clk = s.clk ∧ s.settle.clk = u.pllPass.clk := by
  refine ⟨(times State.settleOnce 3 s.resumedPass).escOwed.freeRecalled, ?_, (State.guardPass_eff _).clk (by decide)⟩
  rw [(State.freeRecalled_eff _).clk (by decide), (State.escOwed_eff _).clk (by decide)]
  exact (Eff.times State.settleOnce_eff (Eff.refl _ _)).clk (by decide) |>.trans ((State.resumedPass_eff s).clk (by decide))

/-- Of the clocks, the pass after a command changes PLLs alone. -/
theorem State.settle_clk (s : State) : ∃ m, s.settle.clk = { s.clk with plls := m } := by
  obtain ⟨u, hu, ht⟩ := s.settle_pllPass
  obtain ⟨m, hm⟩ := u.pllPass_clk
  exact ⟨m, by rw [ht, hm, hu]⟩

@[simp] theorem State.settle_evt (s : State) : s.settle.clk.evt = s.clk.evt := by
  obtain ⟨m, h⟩ := s.settle_clk
  rw [h]

@[simp] theorem State.settle_refEth (s : State) : s.settle.clk.refEth = s.clk.refEth := by
  obtain ⟨m, h⟩ := s.settle_clk
  rw [h]

@[simp] theorem State.settle_coreAlt (s : State) : s.settle.clk.coreAlt = s.clk.coreAlt := by
  obtain ⟨m, h⟩ := s.settle_clk
  rw [h]

theorem State.settle_pll {s : State} {q : PllId}
    (h : ∀ r, (s.pll r).state = .stopped → (s.clk.refEth = true ∨ r = .pcie) → pllKey r ≠ pllKey q) : s.settle.pll q = s.pll q := by
  obtain ⟨u, hu, ht⟩ := s.settle_pllPass
  have hpll : ∀ r, u.pll r = s.pll r := State.pll_of_clk hu
  rw [State.pll_of_clk ht, ← hpll q]
  exact State.pllPass_pll (by simpa only [hpll, hu] using h)

/-- The pass after a command leaves a PLL that is not stopped. -/
theorem State.settle_pll_started {s : State} {q : PllId} (h : (s.pll q).state ≠ .stopped) : s.settle.pll q = s.pll q :=
  State.settle_pll fun r hstop _ hkey => h (by unfold State.pll at hstop ⊢; rwa [← hkey])

/-- Without REFCLK_ETH the pass after a command leaves every PLL but that of PCI Express (01 R36). -/
theorem State.settle_pll_noRef {s : State} {q : PllId} (href : s.clk.refEth = false) (hq : pllKey .pcie ≠ pllKey q) :
    s.settle.pll q = s.pll q :=
  State.settle_pll fun r _ h => by
    rcases h with h | rfl
    · simp [href] at h
    · exact hq

/-! ### What stands in for a lost clock (01 R33 to R35) -/

/-- The PLLs and CLK_EVT are as before. -/
structure ClocksKept (s t : State) : Prop where
  plls : t.clk.plls = s.clk.plls
  evt : t.clk.evt = s.clk.evt

theorem ClocksKept.of_clk {s t : State} (h : t.clk = s.clk) : ClocksKept s t := ⟨by rw [h], by rw [h]⟩

theorem ClocksKept.trans {s t u : State} (h : ClocksKept s t) (k : ClocksKept t u) : ClocksKept s u :=
  ⟨k.plls.trans h.plls, k.evt.trans h.evt⟩

/-- An operation that does not reach the clocks, after one that keeps PLLs and CLK_EVT. -/
theorem ClocksKept.eff {m : Nat} {s t u : State} (h : ClocksKept s t) (e : Eff m t u) (c : m.testBit 14 = false) : ClocksKept s u :=
  h.trans (.of_clk (e.clk c))

theorem ClocksKept.foldl {α : Type} {l : List α} {f : State → α → State} (h : ∀ s x, ClocksKept s (f s x)) (s : State) :
    ClocksKept s (l.foldl f s) := by
  induction l generalizing s with
  | nil => exact .of_clk rfl
  | cons x l ih => exact (h s x).trans (ih _)

theorem State.borrow_clocks (s : State) (g : Nat) : ClocksKept s (s.borrow g) := by
  have lend : ∀ (f : Clk → Clk), (f s.clk).plls = s.clk.plls ∧ (f s.clk).evt = s.clk.evt → ClocksKept s (s.modClk f) :=
    fun f h => ⟨h.1, h.2⟩
  unfold State.borrow
  split
  · split
    · exact .of_clk rfl
    · exact ((lend _ ⟨rfl, rfl⟩).eff (State.causeOn_eff ..) (by decide)).eff (State.note_eff ..) (by decide)
  · dsimp only
    split
    · exact lend _ ⟨rfl, rfl⟩
    · exact ((lend _ ⟨rfl, rfl⟩).eff (State.causeOn_eff ..) (by decide)).eff (State.raise_eff ..) (by decide)

theorem State.borrowAll_clocks (s : State) (w : Nat) : ClocksKept s (s.borrowAll w) := ClocksKept.foldl State.borrow_clocks s

theorem State.ownPll_clocks (s : State) (g : Nat) : ClocksKept s (s.ownPll g) :=
  ((⟨rfl, rfl⟩ : ClocksKept s (s.modClk _)).eff (State.causeOff_eff ..) (by decide)).eff (State.causeOff_eff ..) (by decide)

theorem State.clkBack_clocks (s : State) (b : Nat) : ClocksKept s (s.clkBack b) := ⟨rfl, rfl⟩

/-! ### Losses and locks (01 R32, R33, R39) -/

/-- A PLL that is out sets its event, and what follows leaves the PLLs and CLK_EVT. -/
theorem State.pllOut_clocks {s : State} {q : PllId} (hq : q ≠ .core) (h : ¬(evtBit q < 32 ∧ s.clkOut (evtBit q) = true)) :
    ClocksKept (s.clkLost (evtBit q)) (s.pllOut q) := by
  have self : ∀ b, ClocksKept (s.clkLost b) (s.clkLost b) := fun _ => .of_clk rfl
  unfold State.pllOut
  rw [if_neg h]
  cases q with
  | core => exact absurd rfl hq
  | upstream => exact (self 24).eff (State.upstreamOut_eff _) (by decide)
  | pcie =>
    exact (((self 25).eff (State.causeOn_eff ..) (by decide)).eff (State.raise_eff ..) (by decide)).trans
      (ClocksKept.foldl (fun s n => .of_clk ((s.driveFail_eff n).clk (by decide))) _)
  | gallery g => exact State.borrowAll_clocks _ _
  | gen1 w =>
    exact ((⟨rfl, rfl⟩ : ClocksKept (s.clkLost (15 + w)) ((s.clkLost (15 + w)).modClk _)).eff
      (State.causeOn_eff ..) (by decide)).eff (State.note_eff ..) (by decide)
  | gen2 w =>
    exact (((self (19 + w)).eff (State.causeOn_eff ..) (by decide)).eff (State.note_eff ..) (by decide)).eff
      (State.gen2Out_eff ..) (by decide)

theorem State.pllOut_plls (s : State) (q : PllId) : (s.pllOut q).clk.plls = s.clk.plls := by
  by_cases h : evtBit q < 32 ∧ s.clkOut (evtBit q) = true
  · unfold State.pllOut
    rw [if_pos h]
  · by_cases hq : q = .core
    · subst hq
      unfold State.pllOut
      rw [if_neg h]
    · exact (State.pllOut_clocks hq h).plls

/-- Setting one bit of a word sets it. -/
theorem bitOf_or_two_pow (e : Word) {b : Nat} (hb : b < 32) : bitOf (e ||| BitVec.ofNat 32 (2 ^ b)).toNat b = true := by
  have hbit : ∀ v, bitOf v b = v.testBit b := fun _ => Nat.testBit_eq_decide_div_mod_eq.symm
  have hlt : 2 ^ b < 2 ^ 32 := Nat.pow_lt_pow_right (by decide) hb
  rw [hbit, BitVec.toNat_or, Nat.testBit_or, BitVec.toNat_ofNat, Nat.mod_eq_of_lt hlt, Nat.testBit_two_pow_self, Bool.or_true]

theorem State.clkLost_evt (s : State) {b : Nat} (hb : b < 32) : bitOf (s.clkLost b).clk.evt.toNat b = true := bitOf_or_two_pow _ hb

/-- Of a PLL that is out, the event is set unless its cause persisted. -/
theorem State.pllOut_evt (s : State) {q : PllId} (hb : evtBit q < 32) :
    bitOf (s.pllOut q).clk.evt.toNat (evtBit q) = true ∨ s.clkOut (evtBit q) = true := by
  refine or_iff_not_imp_right.mpr fun h => ?_
  have hq : q ≠ .core := by rintro rfl; exact absurd hb (by decide)
  rw [(State.pllOut_clocks hq fun k => h k.2).evt, s.clkLost_evt hb]

/-- A PLL that locks is locked, and what follows leaves the PLLs. -/
theorem State.pllLocked_pll {s : State} {q : PllId} (h : (s.pll q).state = .starting) :
    (s.pllLocked q).pll q = ⟨.locked, 0, (s.pll q).alt⟩ := by
  suffices k : ClocksKept (s.setPll q ⟨.locked, 0, (s.pll q).alt⟩) (s.pllLocked q) by
    rw [State.pll_congr k.plls, State.pll_setPll_same]
  have back : ∀ t : State, ClocksKept t (if evtBit q < 32 then t.clkBack (evtBit q) else t) := fun t => by
    split
    · exact t.clkBack_clocks _
    · exact .of_clk rfl
  unfold State.pllLocked
  rw [if_neg (not_not.mpr h)]
  refine (back _).trans ?_
  dsimp only
  cases q with
  | core => exact .of_clk rfl
  | upstream => exact .of_clk ((State.applyLinkEnables_eff _).clk (by decide))
  | pcie => exact .of_clk ((State.causeOff_eff ..).clk (by decide))
  | gallery g => exact (State.ownPll_clocks _ g).trans (State.borrowAll_clocks _ _)
  | gen1 w => exact ClocksKept.eff (t := State.modClk _ _) ⟨rfl, rfl⟩ (State.causeOff_eff ..) (by decide)
  | gen2 w => exact .of_clk ((State.causeOff_eff ..).clk (by decide))

theorem State.pllLate_again {s : State} {q : PllId} (h : (s.pll q).state = .starting) (hr : (s.pll q).restarts < 2) :
    s.pllLate q = s.setPll q { s.pll q with restarts := (s.pll q).restarts + 1 } := by
  unfold State.pllLate
  simp only
  rw [if_neg (not_not.mpr h), if_pos hr]

theorem State.pllLoss_locked {s : State} {q : PllId} (h : (s.pll q).state = .locked) :
    s.pllLoss q = (s.setPll q ⟨.starting, 0, (s.pll q).alt⟩).pllOut q :=
  if_pos h

/-! ### The core PLL in a waking (15 R400) -/

theorem State.awaits_congr {s t : State} (h : t.dps = s.dps) (d : Domain) : t.awaits d = s.awaits d := by
  unfold State.awaits
  rw [h]

/-- Unless the core PLL has failed in a waking that awaits it, its end of starting leaves the clocks. -/
theorem State.coreWoken_clk {s : State} (h : (s.pll .core).state ≠ .failed ∨ s.awaits .core = false) : s.coreWoken.clk = s.clk := by
  unfold State.coreWoken
  split
  · rfl
  · split
    · exact (s.domainUp_eff .core).clk (by decide)
    · rw [if_neg (h.resolve_right ‹_›)]

/-- After a PLL's lock or restart, the waking and the pass leave that PLL. -/
theorem State.pll_woken_settle {s u : State} {q : PllId} (hq : q = .core ∨ s.awaits .core = false) (hd : u.dps = s.dps)
    (h : (u.pll q).state = .locked ∨ (u.pll q).state = .starting) : u.coreWoken.settle.pll q = u.pll q := by
  have hclk : u.coreWoken.clk = u.clk := State.coreWoken_clk <| by
    rcases hq with rfl | hq
    · left
      rcases h with h | h <;> rw [h] <;> decide
    · exact .inr ((State.awaits_congr hd .core).trans hq)
  have hpll : u.coreWoken.pll q = u.pll q := State.pll_of_clk hclk q
  rw [State.settle_pll_started, hpll]
  rw [hpll]
  rcases h with h | h <;> rw [h] <;> decide

/-! ### The loss of REFCLK_ETH (01 R36) -/

theorem State.inService_of_eff {m : Nat} {s t : State} (e : Eff m s t) (c : m.testBit 13 = false) : t.inService = s.inService := by
  unfold State.inService
  rw [e.regs c]

/-- REFCLK_ETH is gone, and with it the upstream and USB PLLs. -/
def State.ethOff (s : State) : State :=
  ((usbPlls.foldl State.pllStop ((s.modClk (fun c => { c with refEth := false })).pllStop .upstream)).clkLost 24).upstreamOut

theorem State.ethOff_clk (s : State) : s.ethOff.clk =
    ((usbPlls.foldl State.pllStop ((s.modClk (fun c => { c with refEth := false })).pllStop .upstream)).clkLost 24).clk :=
  (State.upstreamOut_eff _).clk (by decide)

@[simp] theorem State.ethOff_refEth (s : State) : s.ethOff.clk.refEth = false := by
  obtain ⟨m, hm⟩ := State.clk_foldl_setPll usbPlls ⟨.stopped, 0, false⟩
    ((s.modClk (fun c => { c with refEth := false })).pllStop .upstream)
  rw [State.ethOff_clk]
  exact congrArg Clk.refEth hm

theorem State.ethOff_inService (s : State) : s.ethOff.inService = s.inService := by
  have h : Eff 18074565 s s.ethOff :=
    (State.upstreamOut_eff _).by (by decide) <| (State.clkLost_eff ..).by (by decide) <|
      Eff.foldl (fun s q => (s.pllStop_eff q).mono (by decide)) <| (State.pllStop_eff ..).by (by decide) <|
        (s.modClk_eff _ ⟨rfl, rfl⟩).mono (by decide)
  exact State.inService_of_eff h (by decide)

theorem State.ethOff_pll (s : State) (q : PllId) : s.ethOff.pll q =
    (usbPlls.foldl State.pllStop ((s.modClk (fun c => { c with refEth := false })).pllStop .upstream)).pll q := by
  rw [State.pll_of_clk s.ethOff_clk, State.pll_clkLost]

theorem State.ethOff_usb (s : State) {q : PllId} (h : q ∈ usbPlls) : s.ethOff.pll q = ⟨.stopped, 0, false⟩ := by
  rw [State.ethOff_pll]
  exact State.pll_foldl_setPll_mem h _

theorem State.ethOff_upstream (s : State) : s.ethOff.pll .upstream = ⟨.stopped, 0, false⟩ := by
  rw [State.ethOff_pll]
  exact State.pll_foldl_setPll_at (State.pll_setPll_same _ .upstream _)

theorem State.ethOff_core (s : State) : s.ethOff.pll .core = s.pll .core := by
  have husb : ∀ r ∈ usbPlls, pllKey r ≠ pllKey .core := by decide
  rw [State.ethOff_pll]
  exact (State.pll_foldl_setPll_other husb _).trans (State.pll_setPll_other _ _ (by decide))

/-- With the core PLL on REFCLK_ETH, its loss moves that PLL to its alternate and is a Grave fault. -/
theorem State.refEthLost_onEth {s : State} (h : s.clk.refEth = true) (ha : (s.pll .core).alt = false)
    (hc : (s.pll .core).state = .locked ∨ (s.pll .core).state = .starting) :
    s.refEthLost = ((s.ethOff.setCorePll .starting true).causeOn 0x0C 0).raise 0x0C 0 := by
  unfold State.refEthLost
  rw [if_neg (by simp [h])]
  exact if_pos (by simp [ha, hc])

theorem State.refEthLost_onAlt {s : State} (h : s.clk.refEth = true) (ha : (s.pll .core).alt = true) : s.refEthLost = s.ethOff := by
  unfold State.refEthLost
  rw [if_neg (by simp [h])]
  exact if_neg (by simp [ha])

/-- The fault of the core PLL's reference and its reaction leave the clocks. -/
theorem State.refEthLost_onEth_clk {s : State} (h : s.clk.refEth = true) (ha : (s.pll .core).alt = false)
    (hc : (s.pll .core).state = .locked ∨ (s.pll .core).state = .starting) :
    s.refEthLost.clk = (s.ethOff.setCorePll .starting true).clk := by
  rw [State.refEthLost_onEth h ha hc, (State.raise_eff ..).clk (by decide), (State.causeOn_eff ..).clk (by decide)]

@[simp] theorem State.setCorePll_refEth (s : State) (st : PllState) (alt : Bool) :
    (s.setCorePll st alt).clk.refEth = s.clk.refEth := rfl

@[simp] theorem State.setCorePll_coreAlt (s : State) (st : PllState) (alt : Bool) : (s.setCorePll st alt).clk.coreAlt = alt := rfl

@[simp] theorem State.setCorePll_inService (s : State) (st : PllState) (alt : Bool) :
    (s.setCorePll st alt).inService = s.inService := rfl

theorem State.pll_setCorePll (s : State) (st : PllState) (alt : Bool) : (s.setCorePll st alt).pll .core = ⟨st, 0, alt⟩ :=
  s.pll_setPll_same .core _

theorem State.pll_setCorePll_other (s : State) (st : PllState) (alt : Bool) {q : PllId} (h : pllKey q ≠ pllKey .core) :
    (s.setCorePll st alt).pll q = s.pll q :=
  s.pll_setPll_other _ h

theorem usbPlls_keys {q : PllId} (h : q ∈ usbPlls) : pllKey q ≠ pllKey .core ∧ pllKey .pcie ≠ pllKey q := by
  have hall : ∀ r ∈ usbPlls, pllKey r ≠ pllKey .core ∧ pllKey .pcie ≠ pllKey r := by decide
  exact hall q h

/-! ### The crystal (01 R37 to R39) -/

theorem State.crystalLost_clk {s : State} (hn : s.boot.strapNoxo = false) (hx : s.clk.xo32Ok = true) :
    s.crystalLost.clk = ((s.modClk (fun c => { c with xo32Ok := false, rc32 := true })).clkLost 27).clk := by
  unfold State.crystalLost
  rw [if_neg (by simp [hn, hx]), (State.note_eff ..).clk (by decide), (State.causeOn_eff ..).clk (by decide)]

theorem State.crystalOn_clk {s : State} (hn : s.boot.strapNoxo = false) :
    s.crystalOn.clk = ((s.modClk (fun c => { c with xo32Ok := true, rc32 := false })).clkBack 27).clk := by
  unfold State.crystalOn
  rw [if_neg (by simp [hn]), (State.causeOff_eff ..).clk (by decide)]

end Sys2Proof.Machine
end

section
/-!
PROOFS. The die links: what the record of a fault and the reactions to it leave of them, and what errors, retrains and their results do to
a link (01 R21 to R25; 16 R409, R413 to R420).
-/
namespace Sys2Proof.Machine

/-! ### What a fault's record leaves of the faults (16 R415 to R420) -/

/-- The die links and the escalations owed are as before. -/
structure LinksKept (s t : State) : Prop where
  dieLinks : t.flt.dieLinks = s.flt.dieLinks
  escDue : t.flt.escDue = s.flt.escDue

theorem LinksKept.of_flt {s t : State} (h : t.flt = s.flt) : LinksKept s t := ⟨by rw [h], by rw [h]⟩

theorem LinksKept.trans {s t u : State} (h : LinksKept s t) (k : LinksKept t u) : LinksKept s u :=
  ⟨k.dieLinks.trans h.dieLinks, k.escDue.trans h.escDue⟩

/-- An operation that does not reach the faults, after one that keeps the die links. -/
theorem LinksKept.eff {m : Nat} {s t u : State} (h : LinksKept s t) (e : Eff m t u) (c : m.testBit 20 = false) : LinksKept s u :=
  h.trans (.of_flt (e.flt c))

theorem State.causeOn_links (s : State) (src inst : Nat) : LinksKept s (s.causeOn src inst) := by
  unfold State.causeOn
  split <;> exact ⟨rfl, rfl⟩

theorem State.deliver_links (s : State) (r : FltRec) (esc first : Bool) : LinksKept s (s.deliver r esc first) := by
  have told : ∀ f : Flt → Flt, (f s.flt).dieLinks = s.flt.dieLinks ∧ (f s.flt).escDue = s.flt.escDue → ∀ p n t,
      LinksKept s ((s.modFlt f).houseEvent 0x0102 p 0 n t) :=
    fun f h p n t => (⟨h.1, h.2⟩ : LinksKept s (s.modFlt f)).eff (State.houseEvent_eff ..) (by decide)
  unfold State.deliver
  dsimp only
  split
  · exact (told _ ⟨rfl, rfl⟩ ..).eff (State.emcy_eff ..) (by decide)
  · exact told _ ⟨rfl, rfl⟩ ..

theorem State.arm_links (s : State) (r : FltRec) : LinksKept s (s.arm r) := by
  unfold State.arm
  split
  · exact ⟨rfl, rfl⟩
  · split <;> exact ⟨rfl, rfl⟩

theorem State.collect_links (s : State) (r : FltRec) : LinksKept s (s.collect r) := by
  have latched : ∀ f : Flt → Flt, (f s.flt).dieLinks = s.flt.dieLinks ∧ (f s.flt).escDue = s.flt.escDue → ∀ b,
      LinksKept s (((s.modFlt f).arm r).deliver r false b) :=
    fun f h b => ((⟨h.1, h.2⟩ : LinksKept s (s.modFlt f)).trans (State.arm_links ..)).trans (State.deliver_links ..)
  unfold State.collect
  dsimp only
  split
  · exact (latched _ ⟨rfl, rfl⟩ _).trans ⟨rfl, rfl⟩
  · exact latched _ ⟨rfl, rfl⟩ _

theorem State.record_links (s : State) (r : FltRec) : LinksKept s (s.record r) := by
  have agg : LinksKept s (s.aggregate r) := ⟨rfl, rfl⟩
  unfold State.record
  dsimp only
  split
  · exact agg.trans (State.collect_links ..)
  · exact agg

/-- A Note or Minor fault takes no slot, so no escalation is owed for it. -/
theorem State.faultRec_minor {s : State} {r : FltRec} (h : r.cls < 2) : s.faultRec r = s.record r := by
  have hslot : s.noSlot r = false := by
    unfold State.noSlot
    simp [Nat.not_le_of_lt h]
  unfold State.faultRec
  simp [hslot]

theorem State.faultRec_dieLinks (s : State) (r : FltRec) : (s.faultRec r).flt.dieLinks = s.flt.dieLinks := by
  unfold State.faultRec
  dsimp only
  split <;> exact (State.record_links s r).dieLinks

/-! ### What the reactions to a fault leave (16 R409, R413) -/

/-- Package-safe-stop and its causes are all that package-safe-stop changes of the faults. -/
theorem State.safeStopNow_flt (s : State) (src inst : Nat) : (s.safeStopNow src inst).flt = { s.flt with
    safeStop := true, stopBy := if s.flt.stopBy.contains (src, inst) then s.flt.stopBy else s.flt.stopBy ++ [(src, inst)] } := by
  unfold State.safeStopNow
  rw [(State.causeItems_eff ..).flt (by decide), (State.chansStop_eff _).flt (by decide), (State.dropWaiting_eff _).flt (by decide)]
  rfl

theorem State.immediate_dieLinks (s : State) (src inst : Nat) : (s.immediate src inst).flt.dieLinks = s.flt.dieLinks := by
  unfold State.immediate
  split
  · rw [(Eff.foldl (fun s g => State.containGallery_eff s src inst g) (Eff.refl _ s)).flt (by decide)]
  · split
    · rw [(Eff.foldl (fun s p => State.containPort_eff s src inst p) (Eff.refl _ s)).flt (by decide)]
    · split
      · rw [State.safeStopNow_flt]
      · rfl

theorem State.raise_dieLinks (s : State) (src inst : Nat) : (s.raise src inst).flt.dieLinks = s.flt.dieLinks := by
  have hrec : (s.fault src inst).flt.dieLinks = s.flt.dieLinks := s.faultRec_dieLinks _
  unfold State.raise
  dsimp only
  split
  · rw [State.immediate_dieLinks, hrec]
  · exact hrec

/-- In normal service the loss of the core PLL's reference puts package-safe-stop in force (16 R413 0x0C). -/
theorem State.raise_coreRef_safeStop {s : State} (h : s.inService = true) (inst : Nat) : (s.raise 0x0C inst).flt.safeStop = true := by
  have hs : (s.fault 0x0C inst).inService = true := (State.inService_of_eff (s.fault_eff 0x0C inst) (by decide)).trans h
  have hi : (s.fault 0x0C inst).immediate 0x0C inst = (s.fault 0x0C inst).safeStopNow 0x0C inst := rfl
  unfold State.raise
  dsimp only
  rw [if_pos hs, hi, State.safeStopNow_flt]

/-! ### Die links (01 R21 to R25) -/

@[simp] theorem State.dieLink_modDie (s : State) (n : Nat) (f : DieLink → DieLink) : (s.modDie n f).dieLink n = f (s.dieLink n) :=
  SMap.get_put_same _ _ _

@[simp] theorem State.dieLink_setDieLink (s : State) (n : Nat) (v : DieLink) : (s.setDieLink n v).dieLink n = v := SMap.get_put_same _ _ _

theorem State.dieLink_congr {s t : State} (h : t.flt.dieLinks = s.flt.dieLinks) (n : Nat) : t.dieLink n = s.dieLink n := by
  unfold State.dieLink
  rw [h]

theorem State.dieLink_settle_quiet {s : State} (h : Quiet s) (n : Nat) : s.settle.dieLink n = s.dieLink n :=
  State.dieLink_congr (by rw [(State.settle_eff_quiet h).flt (by decide)]) n

theorem State.linkError_live {s : State} {n : Nat} (hl : s.linkLive n = true) (hi : s.flt.injArmed = false) :
    s.linkError n = s.modDie n DieLink.unitError := by
  have hi' : (s.modDie n DieLink.unitError).flt.injArmed = false := hi
  unfold State.linkError State.injectLink
  rw [if_pos hl, if_neg (by simp [hi'])]

/-- On a link that sends units, an error is repeated, and the fifth in a row retrains the link (01 R21, R22). -/
theorem DieLink.unitError_live {l : DieLink} (hr : l.retraining = false) (hl : l.lost = false) :
    if l.repeats < 4 then l.unitError.repeats = l.repeats + 1 else l.unitError.retraining = true ∧ l.unitError.repeats = 0 := by
  have hu : l.unitError = if l.repeats < 4 then { l with repeats := l.repeats + 1 } else { l with repeats := 0, retraining := true } :=
    if_neg (by simp [hr, hl])
  by_cases h : l.repeats < 4
  · rw [if_pos h, hu, if_pos h]
  · rw [if_neg h, hu, if_neg h]
    exact ⟨rfl, rfl⟩

theorem State.linkLive_idle {s : State} {n : Nat} (h : s.linkLive n = true) :
    (s.dieLink n).retraining = false ∧ (s.dieLink n).lost = false := by
  simp only [State.linkLive, Bool.and_eq_true, Bool.not_eq_true'] at h
  exact ⟨h.2, h.1.2⟩

section
variable {s : State} {n : Nat} (hr : (s.dieLink n).retraining = true) (hl : (s.dieLink n).lost = false)
include hr hl

/-- A retrain that succeeds ends, and is recorded as a Minor fault (01 R22). -/
theorem State.retrained_ok : s.retrained n true =
    (s.modDie n (fun l => { l with retraining := false, fails := 0, injected := false })).record
      { (s.modDie n (fun l => { l with retraining := false, fails := 0, injected := false })).recOf 0x01 n with
        injected := (s.dieLink n).injected } := by
  have hminor : fltClass 0x01 < 2 := by decide
  unfold State.retrained
  dsimp only
  rw [if_neg (by simp [hr]), if_pos rfl, if_neg (by simp [hl])]
  exact State.faultRec_minor hminor

theorem State.retrained_ok_dieLink :
    (s.retrained n true).dieLink n = { s.dieLink n with retraining := false, fails := 0, injected := false } := by
  rw [State.retrained_ok hr hl, State.dieLink_congr (State.record_links ..).dieLinks, State.dieLink_modDie]

/-- The first retrain that fails is followed by another (01 R22). -/
theorem State.retrained_fail (hf : (s.dieLink n).fails = 0) :
    s.retrained n false = s.modDie n (fun l => { l with fails := l.fails + 1 }) := by
  unfold State.retrained
  dsimp only
  rw [if_neg (by simp [hr]), if_neg (by simp), if_neg (by simp [hl]), if_pos (by omega)]

/-- The second retrain that fails in succession loses the link (01 R23). -/
theorem State.retrained_lost (hf : (s.dieLink n).fails = 1) :
    s.retrained n false = (s.modDie n (fun l => { l with fails := 0 })).linkLost n := by
  unfold State.retrained
  dsimp only
  rw [if_neg (by simp [hr]), if_neg (by simp), if_neg (by simp [hl]), if_neg (by omega)]

end

theorem State.linkLost_dieLink (s : State) (n : Nat) :
    (s.linkLost n).dieLink n = { s.dieLink n with lost := true, retraining := false } := by
  have frozen : ∀ t : State, ((sentryGals n).foldl State.freezeLink t).flt = t.flt := fun t =>
    (Eff.foldl State.freezeLink_eff (Eff.refl _ t)).flt (by decide)
  have hlinks : (s.linkLost n).flt.dieLinks = (s.modDie n (fun l => { l with lost := true, retraining := false })).flt.dieLinks := by
    unfold State.linkLost
    dsimp only
    rw [State.raise_dieLinks, (State.causeOn_links ..).dieLinks]
    split
    · rw [frozen]
    · rfl
  rw [State.dieLink_congr hlinks, State.dieLink_modDie]

/-- A sentry or Custodian link holds no results, and a link that retrains lets none through. -/
theorem State.linkFlow_none {s : State} {n : Nat} (h : (s.dieLink n).retraining = true ∨ 4 < n) : s.linkFlow n = s := if_pos h

/-- With no result waiting, the traffic of a link's ports leaves the link itself (01 R22). -/
theorem State.linkFlow_dieLink {s : State} {n : Nat} (h : (s.dieLink n).held = []) : (s.linkFlow n).dieLink n = s.dieLink n := by
  unfold State.linkFlow
  dsimp only
  split
  · rfl
  · have served : ∀ (l : List Nat) (t : State), (l.foldl State.serve t).flt = t.flt := fun l t =>
      (Eff.foldl State.serve_eff (Eff.refl _ t)).flt (by decide)
    rw [h, List.foldl_nil, State.dieLink_congr (congrArg Flt.dieLinks (served _ _)), State.dieLink_setDieLink, ← h]

end Sys2Proof.Machine

namespace Sys2Proof
open Machine

/-- A fault that is only recorded leaves a quiet state quiet. -/
theorem Quiet.record {s : State} (h : Quiet s) (r : FltRec) : Quiet (s.record r) := by
  have e := s.record_eff r
  obtain ⟨h1, h2, h3, h4, h5, h6, h7, h11, h8, h9, h10⟩ := h
  have hv := e.vault (by decide)
  have ht := e.tenants (by decide)
  exact ⟨by rw [hv, h1], by rw [hv, h2], by rw [hv, h3], by rw [e.mov (by decide), h4], by rw [(s.record_links r).escDue, h5],
    by rw [e.items (by decide), h6], by rw [ht, h7], by rw [ht, h11],
    by unfold State.getUsb State.getTenants at *; rw [e.usb (by decide), ht]; exact h8,
    by rw [e.dps (by decide), h9], by rw [e.dps (by decide), h10]⟩

theorem Quiet.modDie {s : State} (h : Quiet s) (n : Nat) (f : DieLink → DieLink) : Quiet (s.modDie n f) := by
  unfold State.modDie State.setDieLink
  exact h.modFlt _ fun _ => rfl

end Sys2Proof
end

section
/-!
PROOFS. The commands of the clocks and of the die links (01 R21 to R39; 16 R409).
-/
namespace Sys2Proof
open Machine

theorem OwnEffect.intro {c : Instr} {s u : State} {P : State → Prop} (h : exec c s = .next u.settle) (hp : P u) : OwnEffect c s P :=
  fun t ht => by
    rw [h, Host.Outcome.next.injEq] at ht
    exact ⟨u, .inr ht.symm, hp⟩

/-! ### The commands of the clocks -/

theorem pllLock_locks {s : State} {q : PllId} (h : (s.pll q).state = .starting) (hq : q = .core ∨ s.awaits .core = false) :
    Gives (.pllLock q) s (fun t => t.pll q = ⟨.locked, 0, (s.pll q).alt⟩) := by
  have hu := State.pllLocked_pll h
  refine Gives.intro (t := (s.pllLocked q).coreWoken.settle) rfl ?_
  rw [State.pll_woken_settle hq ((s.pllLocked_eff q).dps (by decide)) (.inl (by rw [hu])), hu]

theorem pllLockTimeout_restarts {s : State} {q : PllId} (h : (s.pll q).state = .starting) (hr : (s.pll q).restarts < 2)
    (hq : q = .core ∨ s.awaits .core = false) :
    Gives (.pllLockTimeout q) s (fun t => t.pll q = { s.pll q with restarts := (s.pll q).restarts + 1 }) := by
  have hu : (s.pllLate q).pll q = { s.pll q with restarts := (s.pll q).restarts + 1 } := by
    rw [State.pllLate_again h hr, State.pll_setPll_same]
  refine Gives.intro (t := (s.pllLate q).coreWoken.settle) rfl ?_
  rw [State.pll_woken_settle hq (by rw [State.pllLate_again h hr]; rfl) (.inr (by rw [hu]; exact h)), hu]

theorem pllLossOfLock_restarts {s : State} {q : PllId} (h : (s.pll q).state = .locked) :
    Gives (.pllLossOfLock q) s (fun t => (t.pll q).state = .starting ∧
      (evtBit q < 32 → bitOf t.clk.evt.toNat (evtBit q) = true ∨ s.clkOut (evtBit q) = true)) := by
  have hu : (s.pllLoss q).pll q = ⟨.starting, 0, (s.pll q).alt⟩ := by
    rw [State.pllLoss_locked h, State.pll_congr (State.pllOut_plls _ _), State.pll_setPll_same]
  refine Gives.intro (t := (s.pllLoss q).settle) rfl ⟨?_, fun hb => ?_⟩
  · rw [State.settle_pll_started (by simp [hu]), hu]
  · rw [State.settle_evt, State.pllLoss_locked h]
    exact State.pllOut_evt _ hb

theorem pllStopDelayExpiry_stops {s : State} {q : PllId} (hq : q ∈ usbPlls)
    (h : (s.pll q).state = .starting ∨ (s.pll q).state = .locked) (hn : s.pllNeeded q = false) :
    Gives (.pllStopDelayExpiry q) s (fun t => (t.pll q).state = .stopped) := by
  have hu : s.pllIdle q = s.pllStop q := if_pos (by simpa [hq, hn] using h)
  refine Gives.intro (t := s.pllIdle q) rfl ?_
  rw [hu, State.pllStop, State.pll_setPll_same]

theorem refclkEthLoss_onEth {s : State} (h : s.clk.refEth = true) (ha : (s.pll .core).alt = false)
    (hc : (s.pll .core).state = .locked ∨ (s.pll .core).state = .starting) :
    Gives .refclkEthLoss s (fun t => t.clk.refEth = false ∧ t.pll .core = ⟨.starting, 0, true⟩ ∧ t.clk.coreAlt = true ∧
      (t.pll .upstream).state = .stopped ∧ (∀ q ∈ usbPlls, (t.pll q).state = .stopped)) := by
  have hclk := State.refEthLost_onEth_clk h ha hc
  have hpll : ∀ q, s.refEthLost.pll q = (s.ethOff.setCorePll .starting true).pll q := State.pll_of_clk hclk
  have href : s.refEthLost.clk.refEth = false := by
    rw [hclk, State.setCorePll_refEth, State.ethOff_refEth]
  refine Gives.intro (t := s.refEthLost.settle) rfl ⟨?_, ?_, ?_, ?_, fun q hq => ?_⟩
  · rw [State.settle_refEth, href]
  · rw [State.settle_pll_noRef href (by decide), hpll, State.pll_setCorePll]
  · rw [State.settle_coreAlt, hclk, State.setCorePll_coreAlt]
  · rw [State.settle_pll_noRef href (by decide), hpll, State.pll_setCorePll_other _ _ _ (by decide), State.ethOff_upstream]
  · obtain ⟨hcore, hpcie⟩ := usbPlls_keys hq
    rw [State.settle_pll_noRef href hpcie, hpll, State.pll_setCorePll_other _ _ _ hcore, State.ethOff_usb _ hq]

theorem refclkEthLoss_onAlt {s : State} (h : s.clk.refEth = true) (ha : (s.pll .core).alt = true) :
    Gives .refclkEthLoss s (fun t => t.clk.refEth = false ∧ t.pll .core = s.pll .core ∧ (t.pll .upstream).state = .stopped ∧
      (∀ q ∈ usbPlls, (t.pll q).state = .stopped)) := by
  have href := s.ethOff_refEth
  refine Gives.intro (t := s.refEthLost.settle) rfl ?_
  rw [State.refEthLost_onAlt h ha]
  refine ⟨?_, ?_, ?_, fun q hq => ?_⟩
  · rw [State.settle_refEth, href]
  · rw [State.settle_pll_noRef href (by decide), State.ethOff_core]
  · rw [State.settle_pll_noRef href (by decide), State.ethOff_upstream]
  · rw [State.settle_pll_noRef href (usbPlls_keys hq).2, State.ethOff_usb _ hq]

theorem refclkEthLoss_safeStop {s : State} (hs : s.inService = true) (h : s.clk.refEth = true) (ha : (s.pll .core).alt = false)
    (hc : (s.pll .core).state = .locked) : OwnEffect .refclkEthLoss s (fun u => u.flt.safeStop = true) := by
  refine OwnEffect.intro (u := s.refEthLost) rfl ?_
  have hserv : ((s.ethOff.setCorePll .starting true).causeOn 0x0C 0).inService = true := by
    rw [State.inService_of_eff (State.causeOn_eff ..) (by decide), State.setCorePll_inService, State.ethOff_inService, hs]
  rw [State.refEthLost_onEth h ha (.inl hc), State.raise_coreRef_safeStop hserv]

theorem crystalFailure_onRc {s : State} (hn : s.boot.strapNoxo = false) (hx : s.clk.xo32Ok = true) :
    Gives .crystalFailure s (fun t => t.clk.rc32 = true ∧ t.clk.xo32Ok = false ∧ bitOf t.clk.evt.toNat 27 = true) := by
  refine Gives.intro (t := s.crystalLost) rfl ?_
  rw [State.crystalLost_clk hn hx]
  exact ⟨rfl, rfl, State.clkLost_evt _ (by decide)⟩

theorem crystalRunning_onCrystal {s : State} (hn : s.boot.strapNoxo = false) :
    Gives .crystalRunning s (fun t => t.clk.rc32 = false ∧ t.clk.xo32Ok = true) := by
  refine Gives.intro (t := s.crystalOn) rfl ?_
  rw [State.crystalOn_clk hn]
  exact ⟨rfl, rfl⟩

theorem clkEvtClear_ended {s : State} (hc : s.coreServes = true) (hb : s.boot.phase = .service) (v : Word) :
    Gives (.clkEvtClear v) s (fun t => t.clk.evt = s.clk.evt &&& ~~~(v &&& ~~~s.clk.evtCause)) := by
  have hserved : s.boardDoes (fun s => s.clkClear v) = s.clkClear v := if_pos (State.regServes_of_service hc hb 0 true)
  refine Gives.intro (t := s.boardDoes (fun s => s.clkClear v)) rfl ?_
  rw [hserved]
  rfl

/-! ### The commands of the die links -/

section
variable {s : State} {n : Nat} (h1 : 1 ≤ n) (h7 : n ≤ 7)
include h1 h7

theorem exec_linkUnitError : exec (.linkUnitError n) s = .next (s.linkError n).settle := if_pos (by simp [h1, h7])

theorem exec_linkRetrainDone (ok : Bool) : exec (.linkRetrainDone n ok) s = .next ((s.retrained n ok).linkFlow n).settle :=
  if_pos (by simp [h1, h7])

theorem linkUnitError_repeats (q : Quiet s) (hl : s.linkLive n = true) (hi : s.flt.injArmed = false) :
    Gives (.linkUnitError n) s (fun t => if (s.dieLink n).repeats < 4 then (t.dieLink n).repeats = (s.dieLink n).repeats + 1
      else (t.dieLink n).retraining = true ∧ (t.dieLink n).repeats = 0) := by
  obtain ⟨hr, hlost⟩ := State.linkLive_idle hl
  refine Gives.intro (exec_linkUnitError h1 h7) ?_
  rw [State.linkError_live hl hi, State.dieLink_settle_quiet (q.modDie _ _), State.dieLink_modDie]
  exact DieLink.unitError_live hr hlost

theorem linkRetrainDone_leaves (ok : Bool) :
    Gives (.linkRetrainDone n ok) s (fun t => t.boot = s.boot ∧ t.upl = s.upl ∧ t.board = s.board) := by
  refine Gives.intro (exec_linkRetrainDone h1 h7 ok) ⟨?_, ?_, ?_⟩
  · rw [(State.settle_eff _).boot (by decide), (State.linkFlow_eff _ _).boot (by decide), (State.retrained_eff _ _ _).boot (by decide)]
  · rw [(State.settle_eff _).upl (by decide), (State.linkFlow_eff _ _).upl (by decide), (State.retrained_eff _ _ _).upl (by decide)]
  · rw [(State.settle_eff _).board (by decide), (State.linkFlow_eff _ _).board (by decide), (State.retrained_eff _ _ _).board (by decide)]

variable (hr : (s.dieLink n).retraining = true) (hl : (s.dieLink n).lost = false)
include hr hl

theorem linkRetrainDone_ends (q : Quiet s) (h5 : 5 ≤ n) :
    Gives (.linkRetrainDone n true) s (fun t => (t.dieLink n).retraining = false ∧ (t.dieLink n).fails = 0) := by
  have hq : Quiet (s.retrained n true) := by
    rw [State.retrained_ok hr hl]
    exact (q.modDie _ _).record _
  refine Gives.intro (exec_linkRetrainDone h1 h7 true) ?_
  rw [State.linkFlow_none (.inr h5), State.dieLink_settle_quiet hq, State.retrained_ok_dieLink hr hl]
  exact ⟨rfl, rfl⟩

theorem linkRetrainDone_ends_own (hh : (s.dieLink n).held = []) :
    OwnEffect (.linkRetrainDone n true) s (fun u => (u.dieLink n).retraining = false ∧ (u.dieLink n).fails = 0) := by
  have hd := State.retrained_ok_dieLink hr hl
  refine OwnEffect.intro (exec_linkRetrainDone h1 h7 true) ?_
  rw [State.linkFlow_dieLink (by rw [hd]; exact hh), hd]
  exact ⟨rfl, rfl⟩

theorem linkRetrainDone_goes_on (q : Quiet s) (hf : (s.dieLink n).fails = 0) :
    Gives (.linkRetrainDone n false) s (fun t => (t.dieLink n).retraining = true ∧ (t.dieLink n).fails = 1) := by
  refine Gives.intro (exec_linkRetrainDone h1 h7 false) ?_
  rw [State.retrained_fail hr hl hf, State.linkFlow_none (.inl (by rw [State.dieLink_modDie]; exact hr)),
    State.dieLink_settle_quiet (q.modDie _ _), State.dieLink_modDie]
  exact ⟨hr, by rw [hf]⟩

theorem linkRetrainDone_loses (hf : (s.dieLink n).fails = 1) (hh : (s.dieLink n).held = []) :
    OwnEffect (.linkRetrainDone n false) s (fun u => (u.dieLink n).lost = true ∧ (u.dieLink n).retraining = false) := by
  have hd : (s.retrained n false).dieLink n = { s.dieLink n with fails := 0, lost := true, retraining := false } := by
    rw [State.retrained_lost hr hl hf, State.linkLost_dieLink, State.dieLink_modDie]
  refine OwnEffect.intro (exec_linkRetrainDone h1 h7 false) ?_
  rw [State.linkFlow_dieLink (by rw [hd]; exact hh), hd]
  exact ⟨rfl, rfl⟩

end

/-- Settles O36: each command changes its PLL, clock or die link as its rule says, and neither the faults it raises nor the pass that
follows undoes that. -/
theorem clockEvents : Obligations.ClockEvents := by
  unfold Obligations.ClockEvents
  refine ⟨fun _ _ => pllLock_locks, fun _ _ => pllLockTimeout_restarts, fun _ _ => pllLossOfLock_restarts,
    fun _ _ => pllStopDelayExpiry_stops, fun _ => refclkEthLoss_onEth, fun _ => refclkEthLoss_onAlt, fun _ => refclkEthLoss_safeStop,
    fun _ => crystalFailure_onRc, fun _ => crystalRunning_onCrystal, fun _ v hc hb => clkEvtClear_ended hc hb v,
    fun _ _ => linkUnitError_repeats, ?_, ?_, ?_, ?_, ?_⟩
  · intro s n h5 h7 q hr hl
    exact linkRetrainDone_ends (by omega) h7 hr hl q h5
  · intro s n h1 h4 _ _
    exact linkRetrainDone_leaves h1 (by omega) true
  · intro s n h1 h4 hr hl hh
    exact linkRetrainDone_ends_own h1 (by omega) hr hl hh
  · intro s n h1 h7 q hr hl hf
    exact linkRetrainDone_goes_on h1 h7 hr hl q hf
  · intro s n h1 h7 hr hl hf hh
    exact linkRetrainDone_loses h1 h7 hr hl hf hh

end Sys2Proof
end

section
/-!
PROOFS. What a command itself may change: the effect of the operation it is (Laws/Effects.lean) against its row of the table of frames
(Safety/Frames.lean).
-/
namespace Sys2Proof
open Machine

/-- The bit of a group in the mask of an effect. -/
def Group.bit : Group → Nat
  | .usb => 0 | .pwr => 1 | .prot => 2 | .ft => 3 | .fifo => 4 | .gals => 5 | .pipes => 6 | .items => 7 | .sess => 8 | .tenants => 9
  | .cat => 10 | .can => 11 | .board => 12 | .regs => 13 | .clk => 14 | .upl => 15 | .ptp => 16 | .coll => 17 | .dps => 18 | .svc => 19
  | .flt => 20 | .boot => 21 | .dbg => 22 | .mem => 23 | .vault => 24 | .mov => 25 | .time => 26 | .data => 27 | .area => 28 | .imgs => 29

theorem Group.bit_inj {g h : Group} (e : g.bit = h.bit) : g = h := by
  cases g <;> cases h <;> first | rfl | exact absurd e (by decide)

/-- A mask without the bit of a group. -/
def Group.clear (m : Nat) (g : Group) : Nat := m ^^^ (m &&& 2 ^ g.bit)

theorem Group.testBit_clear {g h : Group} (hg : g ≠ h) (m : Nat) : (h.clear m).testBit g.bit = m.testBit g.bit := by
  have hb : (2 ^ h.bit).testBit g.bit = false := Nat.testBit_two_pow_of_ne fun e => hg (Group.bit_inj e.symm)
  rw [Group.clear, Nat.testBit_xor, Nat.testBit_and, hb, Bool.and_false, Bool.xor_false]

/-- The bits of a mask that stand for none of the groups of a list. -/
def bitsBeyond (m : Nat) (l : List Group) : Nat := l.foldl (fun m g => g.clear m) m

theorem testBit_bitsBeyond {g : Group} {l : List Group} (hg : g ∉ l) (m : Nat) : (bitsBeyond m l).testBit g.bit = m.testBit g.bit := by
  induction l generalizing m with
  | nil => rfl
  | cons h l ih =>
    rw [List.mem_cons, not_or] at hg
    exact (ih hg.2 _).trans (Group.testBit_clear hg.1 m)

/-- A group whose bit the mask of an effect lacks is the same before and after. -/
theorem Machine.Eff.same {m : Nat} {s t : State} (h : Eff m s t) : ∀ g : Group, m.testBit g.bit = false → g.Same s t
  | .usb => h.usb | .pwr => h.pwr | .prot => h.prot | .ft => h.ft | .fifo => h.fifo | .gals => h.gals | .pipes => h.pipes
  | .items => h.items | .sess => h.sess | .tenants => h.tenants | .cat => h.cat | .can => h.can | .board => h.board | .regs => h.regs
  | .clk => h.clk | .upl => h.upl | .ptp => h.ptp | .coll => h.coll | .dps => h.dps | .svc => h.svc | .flt => h.flt | .boot => h.boot
  | .dbg => h.dbg | .mem => h.mem | .vault => h.vault | .mov => h.mov | .time => h.time | .data => h.data | .area => h.area
  | .imgs => h.imgs

theorem Machine.Covers.or_left (a b : Nat) : Covers a (a ||| b) := by
  unfold Covers
  rw [← Nat.or_assoc, Nat.or_self]

theorem Machine.Covers.or_right (a b : Nat) : Covers b (a ||| b) := by
  unfold Covers
  rw [Nat.or_left_comm, Nat.or_self]

/-- One operation after another changes what either changes. -/
theorem Machine.Eff.after {a b : Nat} {s t u : State} (k : Eff b t u) (h : Eff a s t) : Eff (a ||| b) s u :=
  (h.mono (.or_left a b)).trans (k.mono (.or_right a b))

/-- A message to the SDO server changes what its service does, and the power state by a wake. -/
theorem Machine.Eff.sdoServed {m : Nat} {f : State → State} (h : ∀ s, Eff m s (f s)) (s : State) :
    Eff (262144 ||| m) s (s.sdoServed f) :=
  State.sdoServed_eff (.or_left _ m) s f fun s => (h s).mono (.or_right _ m)

/-- What board firmware does changes what it does where it is served, and the power state by a wake. -/
theorem Machine.Eff.boardDoes {m : Nat} {f : State → State} (h : ∀ s, Eff m s (f s)) (s : State) :
    Eff (262144 ||| m) s (s.boardDoes f) :=
  State.boardDoes_eff (.or_left _ m) s f fun s => (h s).mono (.or_right _ m)

/-- A command to a channel changes what it does, and the power state by a wake. -/
theorem Machine.Eff.chanCommand {m : Nat} {f : State → Nat → State} (h : ∀ s c, Eff m s (f s c)) (s : State) (c : Nat) :
    Eff (262144 ||| m) s (s.chanCommand c f) :=
  State.chanCommand_eff (.or_left _ m) s c f fun s c => (h s c).mono (.or_right _ m)

/-- A Nerquelu message changes what it does, and the Collection. -/
theorem Machine.Eff.nqTake {m : Nat} {f : State → State} (h : ∀ s, Eff m s (f s)) (s : State) (hdr : NqHeader) :
    Eff (131072 ||| m) s (s.nqTake hdr f) :=
  State.nqTake_eff (.or_left _ m) s hdr f fun s => (h s).mono (.or_right _ m)

/-- What a command itself does leaves every group it is not listed with as it was. -/
def KeepsRest (c : Instr) : Prop := ∀ s, OwnEffect c s (fun u => ∀ g, g ∉ mayChange c → g.Same s u)

theorem onUnit_eq_next {b : Bool} {k : String} {n : Nat} {s t : State} (h : onUnit b k n s = .next t) : t = s := by
  unfold onUnit at h
  split at h
  · exact (Host.Outcome.next.inj h).symm
  · cases h

section
variable {c : Instr} {f : State → State} {m : Nat}

theorem keepsRest_of_eff {s t u : State} (ht : t = u ∨ t = u.settle) (e : Eff m s u) (hm : bitsBeyond m (mayChange c) = 0) :
    ∃ v, (t = v ∨ t = v.settle) ∧ ∀ g, g ∉ mayChange c → g.Same s v :=
  ⟨u, ht, fun g hg => e.same g (by rw [← testBit_bitsBeyond hg, hm, Nat.zero_testBit])⟩

/-- A command that no pass follows. -/
theorem KeepsRest.next (h : ∀ s, exec c s = .next (f s)) (e : ∀ s, Eff m s (f s)) (hm : bitsBeyond m (mayChange c) = 0) :
    KeepsRest c := fun s t ht => by
  rw [h, Host.Outcome.next.injEq] at ht
  exact keepsRest_of_eff (.inl ht.symm) (e s) hm

/-- A command that the pass follows. -/
theorem KeepsRest.pass (h : ∀ s, exec c s = .next (f s).settle) (e : ∀ s, Eff m s (f s)) (hm : bitsBeyond m (mayChange c) = 0) :
    KeepsRest c := fun s t ht => by
  rw [h, Host.Outcome.next.injEq] at ht
  exact keepsRest_of_eff (.inr ht.symm) (e s) hm

variable {b : Bool} {k : String} {n : Nat}

/-- A command of one unit that no pass follows. -/
theorem KeepsRest.unit (h : ∀ s, exec c s = onUnit b k n (f s)) (e : ∀ s, Eff m s (f s)) (hm : bitsBeyond m (mayChange c) = 0) :
    KeepsRest c := fun s t ht => by
  rw [h] at ht
  exact keepsRest_of_eff (.inl (onUnit_eq_next ht)) (e s) hm

/-- A command of one unit that the pass follows. -/
theorem KeepsRest.unitPass (h : ∀ s, exec c s = onUnit b k n (f s).settle) (e : ∀ s, Eff m s (f s))
    (hm : bitsBeyond m (mayChange c) = 0) : KeepsRest c := fun s t ht => by
  rw [h] at ht
  exact keepsRest_of_eff (.inr (onUnit_eq_next ht)) (e s) hm

end

/-- The pass follows the expiry of a U3 exit only where the link is degraded (06 R193). -/
theorem keepsRest_u3ExitTimeout (p : Nat) : KeepsRest (.u3ExitTimeout p) := fun s t ht => by
  have ht := onUnit_eq_next (b := portOk p) (k := "port") (n := p) ht
  split at ht
  · exact keepsRest_of_eff (.inr ht) (s.degraded_eff p) rfl
  · exact keepsRest_of_eff (.inl ht) (.refl 0 s) rfl

/-- What each command itself does has the effect of the operation it is, and that reaches only the groups of its row. -/
theorem keepsRest (c : Instr) : KeepsRest c := by
  cases c with
  | sdoInitiateDownload _ => exact .pass (fun _ => rfl) (Eff.sdoServed fun s => s.sdoDownload_eff ..) rfl
  | sdoInitiateUpload _ _ _ => exact .pass (fun _ => rfl) (Eff.sdoServed fun s => s.sdoUpload_eff ..) rfl
  | sdoSegment _ => exact .pass (fun _ => rfl) (Eff.sdoServed fun s => State.sdoGoes_eff rfl s _ fun s => s.sdoSegment_eff ..) rfl
  | sdoBlockSegment _ =>
    exact .pass (fun _ => rfl) (Eff.sdoServed fun s => State.sdoGoes_eff rfl s _ fun s => s.sdoBlock_eff ..) rfl
  | sdoProtocolTimedOut => exact .next (fun _ => rfl) (fun s => s.sdoLate_eff ..) rfl
  | nmtCommand _ _ => exact .next (fun _ => rfl) (fun s => s.nmt_eff ..) rfl
  | canHeartbeat => exact .next (fun _ => rfl) (fun s => s.heartbeat_eff ..) rfl
  | tpdoEventTimerExpiry _ => exact .unit (fun _ => rfl) (fun s => s.tpdoTimer_eff ..) rfl
  | tpdoChangeCompare _ => exact .unit (fun _ => rfl) (fun s => s.tpdoCompare_eff ..) rfl
  | tpdoInhibitTimeEnd _ => exact .unit (fun _ => rfl) (fun s => s.tpdoFree_eff ..) rfl
  | heldTransferTimeout _ => exact .next (fun _ => rfl) (fun s => s.heldLate_eff ..) rfl
  | spiRegisterRead _ _ _ => exact .pass (fun _ => rfl) (fun s => s.spiRead_eff ..) rfl
  | spiRegisterWrite _ _ _ => exact .pass (fun _ => rfl) (fun s => s.spiWrite_eff ..) rfl
  | spiCatalogueRequest _ => exact .pass (fun _ => rfl) (fun s => s.spiRequest_eff ..) rfl
  | spiCatalogueResponse _ => exact .next (fun _ => rfl) (fun s => s.spiResponse_eff ..) rfl
  | spiStatus _ => exact .next (fun _ => rfl) (fun s => s.spiStatus_eff ..) rfl
  | spiUnknownOpcode _ => exact .next (fun _ => rfl) (fun s => s.spiUnknown_eff ..) rfl
  | servicePortRequest _ => exact .pass (fun _ => rfl) (fun s => s.svcAsk_eff ..) rfl
  | servicePortResponseRead => exact .next (fun _ => rfl) (fun s => s.svcRead_eff ..) rfl
  | registerWrite _ _ => exact .pass (fun _ => rfl) (fun s => s.boardWrite_eff ..) rfl
  | registerReadClear _ => exact .pass (fun _ => rfl) (fun s => s.wordRead_eff ..) rfl
  | bitAliasWrite _ _ => exact .pass (fun _ => rfl) (fun s => .ite (s.boardWrite_eff ..) (.refl ..)) rfl
  | rwpWrite _ _ => exact .next (fun _ => rfl) (Eff.boardDoes fun s => s.rwp_eff ..) rfl
  | rwpWriteAbsorbed => exact .next (fun _ => rfl) (fun s => s.absorbed_eff ..) rfl
  | guardedWrite _ _ => exact .pass (fun _ => rfl) (fun s => .ite (s.guarded_eff ..) (s.unserved_eff.mono rfl)) rfl
  | guardedPairTimeout => exact .next (fun _ => rfl) (fun s => s.guardLate_eff ..) rfl
  | rvAccess _ _ => exact .next (fun _ => rfl) (fun s => s.viewAccess_eff ..) rfl
  | normalServiceEntry => exact .pass (fun _ => rfl) (fun s => s.enterService_eff ..) rfl
  | clkEvtClear _ => exact .next (fun _ => rfl) (Eff.boardDoes fun s => s.clkClear_eff ..) rfl
  | linkUnitError _ => exact .unitPass (fun _ => rfl) (fun s => s.linkError_eff ..) rfl
  | linkRetrainDone link ok =>
    exact .unitPass (fun _ => rfl) (fun s => ((s.retrained link ok).linkFlow_eff link).after (s.retrained_eff link ok)) rfl
  | pllLock pll => exact .pass (fun _ => rfl) (fun s => (s.pllLocked pll).coreWoken_eff.after (s.pllLocked_eff pll)) rfl
  | pllLockTimeout pll => exact .pass (fun _ => rfl) (fun s => (s.pllLate pll).coreWoken_eff.after (s.pllLate_eff pll)) rfl
  | pllLossOfLock _ => exact .pass (fun _ => rfl) (fun s => s.pllLoss_eff ..) rfl
  | pllStopDelayExpiry _ => exact .next (fun _ => rfl) (fun s => s.pllIdle_eff ..) rfl
  | refclkEthLoss => exact .pass (fun _ => rfl) (fun s => s.refEthLost_eff ..) rfl
  | crystalFailure => exact .next (fun _ => rfl) (fun s => s.crystalLost_eff ..) rfl
  | loanGrant _ _ => exact .unitPass (fun _ => rfl) (fun s => s.write_eff ..) rfl
  | loanChange _ _ => exact .unitPass (fun _ => rfl) (fun s => s.write_eff ..) rfl
  | loanEnd _ _ => exact .unitPass (fun _ => rfl) (fun s => s.write_eff ..) rfl
  | loanResume _ _ => exact .unitPass (fun _ => rfl) (fun s => s.write_eff ..) rfl
  | lastItemEnded _ => exact .unitPass (fun _ => rfl) (fun s => s.loanIdle_eff ..) rfl
  | leaseExpiry _ => exact .unitPass (fun _ => rfl) (fun s => s.leaseOver_eff ..) rfl
  | nerqueluHeartbeatSend => exact .next (fun _ => rfl) (fun s => s.beat.progressAll_eff.after s.beat_eff) rfl
  | heartbeatReceived _ _ _ => exact .next (fun _ => rfl) (fun s => Eff.nqTake (fun s => s.beatSeen_eff ..) s _) rfl
  | quorumWindowExpiry _ => exact .next (fun _ => rfl) (fun s => s.unheard_eff ..) rfl
  | epochAdvanceRequest _ => exact .next (fun _ => rfl) (fun s => s.write_eff ..) rfl
  | epochPropose _ _ => exact .next (fun _ => rfl) (fun s => Eff.nqTake (fun s => s.proposed_eff ..) s _) rfl
  | epochAccept _ _ => exact .next (fun _ => rfl) (fun s => Eff.nqTake (fun s => s.acceptSeen_eff ..) s _) rfl
  | epochAdvanceTimeout => exact .next (fun _ => rfl) (fun s => s.epochLate_eff ..) rfl
  | lockAcquire _ _ => exact .unit (fun _ => rfl) (fun s => s.lockVia_eff ..) rfl
  | lockRelease _ _ => exact .unit (fun _ => rfl) (fun s => s.lockVia_eff ..) rfl
  | lockBreak _ _ => exact .unit (fun _ => rfl) (fun s => s.lockVia_eff ..) rfl
  | lockRequestMessage _ _ => exact .next (fun _ => rfl) (fun s => Eff.nqTake (fun s => s.lockServe_eff ..) s _) rfl
  | lockAnswerMessage _ _ => exact .next (fun _ => rfl) (fun s => Eff.nqTake (fun s => s.lockSeen_eff ..) s _) rfl
  | lockOwnerLostExpiry _ => exact .next (fun _ => rfl) (fun s => s.lockLost_eff ..) rfl
  | upstreamLinksEnabledWrite _ _ => exact .pass (fun _ => rfl) (fun s => s.write_eff ..) rfl
  | upstreamTrainingDone _ => exact .unit (fun _ => rfl) (fun s => s.trainingDone_eff ..) rfl
  | upstreamTrainingFail _ => exact .unit (fun _ => rfl) (fun s => s.trainingFail_eff ..) rfl
  | probationExpiry _ => exact .unit (fun _ => rfl) (fun s => s.probationEnd_eff ..) rfl
  | upstreamLinkFault _ => exact .unitPass (fun _ => rfl) (fun s => s.linkFault_eff ..) rfl
  | allDownHoldExpiry => exact .pass (fun _ => rfl) (fun s => s.allDownEnd_eff ..) rfl
  | isaixFrameSend _ => exact .unitPass (fun _ => rfl) (fun s => s.frameSend_eff ..) rfl
  | isaixDataFrame _ => exact .pass (fun _ => rfl) (fun s => s.dataFrame_eff ..) rfl
  | isaixAckFrame _ => exact .pass (fun _ => rfl) (fun s => s.ackFrame_eff ..) rfl
  | isaixProbeFrame _ => exact .pass (fun _ => rfl) (fun s => s.probeFrame_eff ..) rfl
  | ackDelayExpiry _ => exact .unitPass (fun _ => rfl) (fun s => s.ackDelayEnd_eff ..) rfl
  | reorderAllowanceExpiry _ _ => exact .unitPass (fun _ => rfl) (fun s => s.reorderEnd_eff ..) rfl
  | retransmissionTimeout _ => exact .unitPass (fun _ => rfl) (fun s => s.rtoEnd_eff ..) rfl
  | ptpSync _ => exact .next (fun _ => rfl) (fun s => s.syncSeen_eff ..) rfl
  | ptpDelayResponse _ => exact .next (fun _ => rfl) (fun s => s.delayMeasured_eff ..) rfl
  | syncTimeout => exact .next (fun _ => rfl) (fun s => s.syncLost_eff ..) rfl
  | ppsOutSecond => exact .next (fun _ => rfl) (fun s => s.ppsRise_eff ..) rfl
  | ppsOutWidthEnd => exact .next (fun _ => rfl) (fun s => s.ppsFall_eff ..) rfl
  | ppsInEdge _ => exact .next (fun _ => rfl) (fun s => s.ppsEdge_eff ..) rfl
  | openSession _ => exact .pass (fun _ => rfl) (fun s => s.openReq_eff ..) rfl
  | confirm _ => exact .pass (fun _ => rfl) (fun s => s.confirmed_eff ..) rfl
  | openTimeout _ => exact .unit (fun _ => rfl) (fun s => s.giveUp_eff ..) rfl
  | closeDrain _ => exact .pass (fun _ => rfl) (fun s => .ite (s.sessionFrame_eff ..) (.refl ..)) rfl
  | closeAbort _ => exact .pass (fun _ => rfl) (fun s => .ite (s.sessionFrame_eff ..) (.refl ..)) rfl
  | sessionReset _ _ => exact .pass (fun _ => rfl) (fun s => s.sessReset_eff ..) rfl
  | sessionEndingComplete _ => exact .unitPass (fun _ => rfl) (fun s => s.endingDone_eff ..) rfl
  | vbusOn _ => exact .pass (fun _ => rfl) (fun s => s.recVbusOn_eff ..) rfl
  | vbusOff _ => exact .pass (fun _ => rfl) (fun s => s.recVbusOff_eff ..) rfl
  | portReset _ => exact .pass (fun _ => rfl) (fun s => s.recPortReset_eff ..) rfl
  | suspendTree _ => exact .pass (fun _ => rfl) (fun s => s.recSuspendTree_eff ..) rfl
  | resumeTree _ => exact .pass (fun _ => rfl) (fun s => s.recResumeTree_eff ..) rfl
  | disable _ => exact .pass (fun _ => rfl) (fun s => s.recDisable_eff ..) rfl
  | portStatus _ => exact .next (fun _ => rfl) (fun s => s.recPortStatus_eff ..) rfl
  | pipeOpen _ => exact .pass (fun _ => rfl) (fun s => s.recPipeOpen_eff ..) rfl
  | pipeClose _ => exact .pass (fun _ => rfl) (fun s => s.recPipeClose_eff ..) rfl
  | pipeResync _ => exact .pass (fun _ => rfl) (fun s => s.recPipeResync_eff ..) rfl
  | pipeAbort _ => exact .pass (fun _ => rfl) (fun s => s.recPipeAbort_eff ..) rfl
  | transfer _ => exact .pass (fun _ => rfl) (fun s => s.recTransfer_eff ..) rfl
  | outData _ => exact .pass (fun _ => rfl) (fun s => s.outMore_eff ..) rfl
  | catRead _ => exact .pass (fun _ => rfl) (fun s => s.recCatRead_eff ..) rfl
  | catWrite _ => exact .pass (fun _ => rfl) (fun s => s.recCatWrite_eff ..) rfl
  | vhostStop _ => exact .pass (fun _ => rfl) (fun s => s.recVhostStop_eff ..) rfl
  | vhostStart _ => exact .pass (fun _ => rfl) (fun s => s.recVhostStart_eff ..) rfl
  | unknownCommandRecord _ _ => exact .pass (fun _ => rfl) (fun s => s.recUnknownCommandRecord_eff ..) rfl
  | deadlineExpiry _ _ => exact .pass (fun _ => rfl) (fun s => s.deadline_eff ..) rfl
  | vbusGood p => exact .unitPass (fun _ => rfl) (fun s => ((s.portGood p).vconnApply_eff p).after (s.portGood_eff p)) rfl
  | portVbusOff _ => exact .unitPass (fun _ => rfl) (fun s => s.portOff_eff ..) rfl
  | connect _ _ => exact .unitPass (fun _ => rfl) (fun s => s.portConnect_eff ..) rfl
  | connectionConfirmed _ => exact .unitPass (fun _ => rfl) (fun s => s.portConfirmed_eff ..) rfl
  | portDisconnect _ => exact .unitPass (fun _ => rfl) (fun s => s.disconnected_eff ..) rfl
  | pollingTimeout _ => exact .unitPass (fun _ => rfl) (fun s => s.pollTimeout_eff ..) rfl
  | portResetEnd _ _ => exact .unitPass (fun _ => rfl) (fun s => s.resetEnd_eff ..) rfl
  | resetRecoveryExpiry _ => exact .unitPass (fun _ => rfl) (fun s => s.resetRecovered_eff ..) rfl
  | deviceResetRequest _ _ _ =>
    exact .unitPass (fun _ => rfl) (fun s => State.viaWrite_eff rfl s _ _ _ _ fun s => s.resetDevice_eff ..) rfl
  | enumerationRequestComplete _ _ => exact .unitPass (fun _ => rfl) (fun s => s.enumReq_eff ..) rfl
  | setAddressRecoveryExpiry _ => exact .unit (fun _ => rfl) (fun s => s.addressSettled_eff ..) rfl
  | addressRelease _ _ => exact .unit (fun _ => rfl) (fun s => s.addressFree_eff ..) rfl
  | externalHubStatusChange _ _ _ _ => exact .unitPass (fun _ => rfl) (fun s => s.hubChange_eff ..) rfl
  | superspeedRecovery _ _ => exact .unitPass (fun _ => rfl) (fun s => s.recovery_eff ..) rfl
  | recoveryWindowExpiry _ => exact .unit (fun _ => rfl) (fun s => s.modUsb_eff ..) rfl
  | restoreRequestComplete _ _ => exact .unitPass (fun _ => rfl) (fun s => s.restoreReq_eff ..) rfl
  | restoreWindowExpiry _ => exact .unitPass (fun _ => rfl) (fun s => s.restWindow_eff ..) rfl
  | restoreTimeout _ => exact .unitPass (fun _ => rfl) (fun s => s.restLate_eff ..) rfl
  | suspendEntryDone _ => exact .unit (fun _ => rfl) (fun s => s.suspendDone_eff ..) rfl
  | idleSuspendExpiry _ => exact .unit (fun _ => rfl) (fun s => s.idleSuspend_eff ..) rfl
  | suspendCurrentCheck _ _ => exact .unitPass (fun _ => rfl) (fun s => s.suspChecked_eff ..) rfl
  | resumeSignallingDone _ => exact .unitPass (fun _ => rfl) (fun s => s.resumed_eff ..) rfl
  | u3ExitTimeout p => exact keepsRest_u3ExitTimeout p
  | remoteWake _ _ => exact .unitPass (fun _ => rfl) (fun s => s.wakeSeen_eff ..) rfl
  | l1IdleExpiry _ => exact .unit (fun _ => rfl) (fun s => s.l1Idle_eff ..) rfl
  | quarantineRelease _ _ =>
    exact .unitPass (fun _ => rfl) (fun s => State.viaWrite_eff rfl s _ _ _ _ fun s => s.releaseAsked_eff ..) rfl
  | microframeBoundary _ => exact .unitPass (fun _ => rfl) (fun s => s.microframe_eff ..) rfl
  | transactionComplete pipe res =>
    exact .unitPass (fun _ => rfl) (fun s => ((s.ctxUse pipe).xactEnd_eff pipe res).after (s.ctxUse_eff pipe)) rfl
  | interfaceMapReadComplete _ _ _ => exact .unitPass (fun _ => rfl) (fun s => s.mapDone_eff ..) rfl
  | erdy _ _ => exact .unitPass (fun _ => rfl) (fun s => s.erdy_eff ..) rfl
  | pipeFree _ => exact .unitPass (fun _ => rfl) (fun s => s.freePipe_eff ..) rfl
  | pipeViewSelect _ => exact .unit (fun _ => rfl) (fun s => s.viewPipe_eff ..) rfl
  | vaultEnable _ => exact .pass (fun _ => rfl) (fun s => s.vaultEnabled_eff ..) rfl
  | vaultDisable _ => exact .pass (fun _ => rfl) (fun s => s.write_eff ..) rfl
  | vaultRead _ => exact .pass (fun _ => rfl) (fun s => s.recVaultRead_eff ..) rfl
  | vaultWrite _ => exact .pass (fun _ => rfl) (fun s => s.recVaultWrite_eff ..) rfl
  | vaultFlush _ => exact .pass (fun _ => rfl) (fun s => s.recVaultFlush_eff ..) rfl
  | vaultDeallocate _ => exact .pass (fun _ => rfl) (fun s => s.recVaultDeallocate_eff ..) rfl
  | nvmeCommandComplete _ _ => exact .pass (fun _ => rfl) (fun s => s.nvmeDone_eff ..) rfl
  | nvmeCommandTimeout _ => exact .pass (fun _ => rfl) (fun s => s.nvmeLate_eff ..) rfl
  | templateLoad _ => exact .pass (fun _ => rfl) (fun s => s.recTemplateLoad_eff ..) rfl
  | fanoutStart _ => exact .pass (fun _ => rfl) (fun s => s.recFanoutStart_eff ..) rfl
  | fanoutStatus _ => exact .pass (fun _ => rfl) (fun s => s.recFanoutStatus_eff ..) rfl
  | fanoutCancel _ => exact .pass (fun _ => rfl) (fun s => s.recFanoutCancel_eff ..) rfl
  | exchangeStatus _ _ _ => exact .unitPass (fun _ => rfl) (fun s => s.statusSeen_eff ..) rfl
  | statusPhaseTimeout _ _ => exact .unitPass (fun _ => rfl) (fun s => s.statusLate_eff ..) rfl
  | verifyReadComplete _ _ _ => exact .unitPass (fun _ => rfl) (fun s => s.verifySeen_eff ..) rfl
  | jobResultRetentionExpiry _ => exact .unitPass (fun _ => rfl) (fun s => s.jobFree_eff ..) rfl
  | fanoutProgress _ _ => exact .next (fun _ => rfl) (fun s => Eff.nqTake (fun s => s.jobView_eff ..) s _) rfl
  | captureStart _ => exact .pass (fun _ => rfl) (fun s => s.recCaptureStart_eff ..) rfl
  | captureStop _ => exact .pass (fun _ => rfl) (fun s => s.recCaptureStop_eff ..) rfl
  | go _ => exact .unitPass (fun _ => rfl) (fun s => Eff.chanCommand (fun s c => s.chanGo_eff c) s _) rfl
  | resume _ => exact .unitPass (fun _ => rfl) (fun s => Eff.chanCommand (fun s c => s.chanResume_eff c) s _) rfl
  | skip _ => exact .unitPass (fun _ => rfl) (fun s => Eff.chanCommand (fun s c => s.chanSkip_eff c) s _) rfl
  | stop _ => exact .unitPass (fun _ => rfl) (fun s => Eff.chanCommand (fun s c => s.chanStop_eff c) s _) rfl
  | descriptorEnd _ _ => exact .unitPass (fun _ => rfl) (fun s => s.descriptorEnd_eff ..) rfl
  | moverBusError _ _ => exact .unitPass (fun _ => rfl) (fun s => s.busError_eff ..) rfl
  | pipeShortEnd _ _ => exact .unitPass (fun _ => rfl) (fun s => s.shortEnd_eff ..) rfl
  | stoppingComplete _ => exact .unitPass (fun _ => rfl) (fun s => s.chanStopped_eff ..) rfl
  | checkUnitFree _ => exact .unitPass (fun _ => rfl) (fun s => s.unitFree_eff ..) rfl
  | moverWindowAccess _ _ => exact .next (fun _ => rfl) (Eff.boardDoes fun s => s.windowAccess_eff ..) rfl
  | scanGo _ => exact .pass (fun _ => rfl) (Eff.boardDoes fun s => s.scanGo_eff ..) rfl
  | scanComplete => exact .pass (fun _ => rfl) (fun s => s.scanDone_eff ..) rfl
  | scrubPass _ => exact .pass (fun _ => rfl) (fun s => s.scrubPass_eff ..) rfl
  | regionZeroingDone _ => exact .pass (fun _ => rfl) (fun s => s.zeroed_eff ..) rfl
  | rdOnOneCc _ _ _ => exact .unit (fun _ => rfl) (fun s => s.ccPins_eff ..) rfl
  | ccAttachDebounceExpiry _ => exact .unit (fun _ => rfl) (fun s => s.ccAttached_eff ..) rfl
  | rdLost _ => exact .unit (fun _ => rfl) (fun s => s.rdLost_eff ..) rfl
  | ccDetachDebounceExpiry _ => exact .unitPass (fun _ => rfl) (fun s => s.ccLost_eff ..) rfl
  | unattachedDrainDone _ => exact .unit (fun _ => rfl) (fun s => s.ccDrained_eff ..) rfl
  | vconnFault _ => exact .unit (fun _ => rfl) (fun s => s.vconnFault_eff ..) rfl
  | discoverIdentityInterval _ => exact .unit (fun _ => rfl) (fun s => s.discover_eff ..) rfl
  | cableIdentityReceived _ _ _ _ => exact .unit (fun _ => rfl) (fun s => s.cableRead_eff ..) rfl
  | bc12PrimaryDetection _ => exact .unit (fun _ => rfl) (fun s => s.bcDetected_eff ..) rfl
  | rpCurrentAdjustExpiry _ => exact .unit (fun _ => rfl) (fun s => s.rpAdjusted_eff ..) rfl
  | sourceCapabilitiesInterval _ _ => exact .unit (fun _ => rfl) (fun s => s.capsDue_eff ..) rfl
  | pdRequest _ _ => exact .unit (fun _ => rfl) (fun s => s.pdRequest_eff ..) rfl
  | eprModeEnter _ => exact .unit (fun _ => rfl) (fun s => s.eprEnter_eff ..) rfl
  | eprKeepalive _ => exact .unit (fun _ => rfl) (fun s => .ite (s.pdAnswer_eff ..) (.refl ..)) rfl
  | getSourceCap _ => exact .unit (fun _ => rfl) (fun s => s.capsAsked_eff ..) rfl
  | getStatus _ => exact .unit (fun _ => rfl) (fun s => s.pdAnswer_eff ..) rfl
  | getRevision _ => exact .unit (fun _ => rfl) (fun s => s.pdAnswer_eff ..) rfl
  | prSwap _ => exact .unit (fun _ => rfl) (fun s => s.pdAnswer_eff ..) rfl
  | drSwap _ => exact .unit (fun _ => rfl) (fun s => s.pdAnswer_eff ..) rfl
  | vconnSwap _ => exact .unit (fun _ => rfl) (fun s => s.pdAnswer_eff ..) rfl
  | frSwap _ => exact .unit (fun _ => rfl) (fun s => s.pdAnswer_eff ..) rfl
  | structuredVdm _ => exact .unit (fun _ => rfl) (fun s => s.pdAnswer_eff ..) rfl
  | psRdy _ => exact .unit (fun _ => rfl) (fun s => s.psRdy_eff ..) rfl
  | ppsKeepaliveTimeout _ => exact .unitPass (fun _ => rfl) (fun s => s.keepLost_eff ..) rfl
  | eprKeepaliveTimeout _ => exact .unitPass (fun _ => rfl) (fun s => s.keepLost_eff ..) rfl
  | hardReset _ _ => exact .unitPass (fun _ => rfl) (fun s => s.hardReset_eff ..) rfl
  | hardResetRecoveryExpiry _ => exact .unit (fun _ => rfl) (fun s => s.hardRecovered_eff ..) rfl
  | renegotiationNoRequestExpiry _ => exact .unitPass (fun _ => rfl) (fun s => s.noRequest_eff ..) rfl
  | statusWordPoll _ _ =>
    exact .unitPass (fun _ => rfl) (fun s => (State.tripWake_eff ..).after ((State.stageEvent_eff ..).after (s.pmbus_eff ..))) rfl
  | smbalert _ _ =>
    exact .unitPass (fun _ => rfl) (fun s => (State.tripWake_eff ..).after ((State.stageEvent_eff ..).after (s.pmbus_eff ..))) rfl
  | stageWarningClearExpiry _ => exact .unit (fun _ => rfl) (fun s => s.warnClear_eff ..) rfl
  | pmbusBusHeldLow _ => exact .unitPass (fun _ => rfl) (fun s => s.busHeld_eff ..) rfl
  | pmbusSegmentRecovered _ => exact .unit (fun _ => rfl) (fun s => s.busFreed_eff ..) rfl
  | galleryPowerSum _ => exact .unit (fun _ => rfl) (fun s => s.powerSum_eff ..) rfl
  | raiseSlot _ => exact .unit (fun _ => rfl) (fun s => s.raiseSlot_eff ..) rfl
  | servicePortFastDomainOn => exact .next (fun _ => rfl) (fun s => s.svcDomain_eff ..) rfl
  | servicePortFastDomainOff => exact .next (fun _ => rfl) (fun s => s.svcDomain_eff ..) rfl
  | servicePortRpSeen => exact .next (fun _ => rfl) (fun s => s.svcSink_eff ..) rfl
  | servicePortRdSeen => exact .next (fun _ => rfl) (fun s => s.svcSrc_eff ..) rfl
  | servicePortRoleToggle => exact .next (fun _ => rfl) (fun s => s.svcToggle_eff ..) rfl
  | servicePortVbusLoss => exact .next (fun _ => rfl) (fun s => .ite (s.svcOff_eff ..) (.refl ..)) rfl
  | servicePortRdLost => exact .next (fun _ => rfl) (fun s => .ite (s.svcOff_eff ..) (.refl ..)) rfl
  | currentSample _ _ _ => exact .unitPass (fun _ => rfl) (fun s => (State.tripWake_eff ..).after (s.sample_eff ..)) rfl
  | fastTrip _ => exact .unitPass (fun _ => rfl) (fun s => (State.tripWake_eff ..).after (s.fastTrip_eff ..)) rfl
  | offsetMeasurement _ => exact .unit (fun _ => rfl) (fun s => s.measure_eff ..) rfl
  | offsetMeasurementEnd _ _ => exact .unit (fun _ => rfl) (fun s => s.measured_eff ..) rfl
  | prechargeDone _ => exact .unit (fun _ => rfl) (fun s => s.precharged_eff ..) rfl
  | rampSafePoint _ => exact .unit (fun _ => rfl) (fun s => s.safePoint_eff ..) rfl
  | vbusSettleExpiry _ => exact .unitPass (fun _ => rfl) (fun s => s.settled_eff ..) rfl
  | rampTimeout _ => exact .unitPass (fun _ => rfl) (fun s => (State.tripWake_eff ..).after (s.rampLate_eff ..)) rfl
  | vbusDrained _ => exact .unitPass (fun _ => rfl) (fun s => (State.tripWake_eff ..).after (s.drainedVbus_eff ..)) rfl
  | drainTimeout _ => exact .unitPass (fun _ => rfl) (fun s => (State.tripWake_eff ..).after (s.stuckOn_eff ..)) rfl
  | retryOffTimeExpiry _ _ => exact .unitPass (fun _ => rfl) (fun s => (State.tripWake_eff ..).after (s.retry_eff ..)) rfl
  | retryClearExpiry _ => exact .unit (fun _ => rfl) (fun s => s.retryCleared_eff ..) rfl
  | requestedStateWrite _ _ => exact .pass (fun _ => rfl) (fun s => s.write_eff ..) rfl
  | entryGuardClear => exact .pass (fun _ => rfl) (fun s => s.guardsClear_eff ..) rfl
  | drowseIdleExpiry => exact .pass (fun _ => rfl) (fun s => s.drowseIdle_eff ..) rfl
  | settlingDone => exact .pass (fun _ => rfl) (fun s => s.settlingDone_eff ..) rfl
  | pgMainLost => exact .next (fun _ => rfl) (fun s => s.pgLost_eff ..) rfl
  | wakeNFall => exact .next (fun _ => rfl) (fun s => s.wake_eff ..) rfl
  | alarmExpiry => exact .next (fun _ => rfl) (fun s => s.alarm_eff ..) rfl
  | servicePortVbusWake => exact .next (fun _ => rfl) (fun s => s.wake_eff ..) rfl
  | dormantAccessWake => exact .next (fun _ => rfl) (fun s => s.dormantAccess_eff ..) rfl
  | domainPowerGood _ => exact .pass (fun _ => rfl) (fun s => s.powerGood_eff ..) rfl
  | powerGoodTimeout _ => exact .pass (fun _ => rfl) (fun s => s.powerLate_eff ..) rfl
  | coreVoltageUpdate _ => exact .next (fun _ => rfl) (fun s => s.coreUpdate_eff ..) rfl
  | reactionTimeExpiry _ => exact .unitPass (fun _ => rfl) (fun s => s.reactionEnd_eff ..) rfl
  | faultAcknowledge _ _ => exact .pass (fun _ => rfl) (fun s => s.ack_eff ..) rfl
  | safeStopRelease _ => exact .pass (fun _ => rfl) (fun s => s.write_eff ..) rfl
  | junctionTemperatureReading _ _ => exact .unitPass (fun _ => rfl) (fun s => s.reading_eff ..) rfl
  | curatorWatchdogExpiry => exact .pass (fun _ => rfl) (fun s => s.curatorLost_eff ..) rfl
  | errOutNMinimumExpiry => exact .next (fun _ => rfl) (fun s => s.modFlt_eff _) rfl
  | emcyInhibitExpiry => exact .next (fun _ => rfl) (fun s => s.emcyDue_eff ..) rfl
  | errorHistoryClear _ => exact .next (fun _ => rfl) (fun s => s.write_eff ..) rfl
  | injectionArm _ => exact .next (fun _ => rfl) (Eff.boardDoes fun s => s.guardDone_eff ..) rfl
  | coldStart _ => exact .next (fun _ => rfl) (fun s => s.coldStart_eff ..) rfl
  | mainEnPowerGoodTimeout => exact .pass (fun _ => rfl) (fun s => s.mainLate_eff ..) rfl
  | warmReset _ => exact .next (fun _ => rfl) (fun s => s.warmReset_eff ..) rfl
  | resetNLow _ => exact .next (fun _ => rfl) (fun s => s.resetFall_eff ..) rfl
  | resetNRise => exact .next (fun _ => rfl) (fun s => s.resetRise_eff ..) rfl
  | resetRequest => exact .next (fun _ => rfl) (fun s => s.requestReset_eff ..) rfl
  | custodianReset _ => exact .next (fun _ => rfl) (fun s => s.custodianReset_eff ..) rfl
  | imageWrite _ _ _ => exact .next (fun _ => rfl) (fun s => State.viaWrite_eff rfl s _ _ _ _ fun s => s.writeAt_eff ..) rfl
  | imageVerify _ => exact .next (fun _ => rfl) (fun s => s.write_eff ..) rfl
  | rollbackCommit _ => exact .next (fun _ => rfl) (fun s => s.write_eff ..) rfl
  | attestationNonce _ _ => exact .next (fun _ => rfl) (fun s => s.write_eff ..) rfl
  | transportKeyWrite _ _ _ => exact .next (fun _ => rfl) (fun s => s.write_eff ..) rfl
  | debugRequest _ => exact .pass (fun _ => rfl) (Eff.boardDoes fun s => s.debugReq_eff ..) rfl
  | erasingComplete => exact .pass (fun _ => rfl) (fun s => s.eraseDone_eff ..) rfl
  | crystalRunning => exact .next (fun _ => rfl) (fun s => s.crystalOn_eff ..) rfl
  | controllerFatalStatus _ => exact .unitPass (fun _ => rfl) (fun s => s.driveFail_eff ..) rfl
  | driveLinkDown _ => exact .unitPass (fun _ => rfl) (fun s => s.driveFail_eff ..) rfl
  | curatorRestartTimeout => exact .next (fun _ => rfl) (fun s => s.curatorAgain_eff ..) rfl
  | restartedCuratorRuns => exact .pass (fun _ => rfl) (fun s => s.curatorRuns_eff ..) rfl
  | u1U2InactivityTimeout _ _ => exact .unit (fun _ => rfl) (fun s => s.uIdle_eff ..) rfl
  | deviceInitiatedLinkEntry _ _ => exact .unit (fun _ => rfl) (fun s => s.devicePm_eff ..) rfl
  | servicePortSourceCapabilities _ => exact .next (fun _ => rfl) (fun s => s.svcRequest_eff ..) rfl
  | servicePortDrSwapAnswer _ => exact .next (fun _ => rfl) (fun s => s.svcSwapped_eff ..) rfl
  | sdoAbortTransferRequest => exact .next (fun _ => rfl) (Eff.sdoServed fun s => s.sdoClose_eff) rfl
  | jtagInstruction _ => exact .next (fun _ => rfl) (fun s => s.tap_eff ..) rfl
  | vddStbyLoss => exact .next (fun _ => rfl) (fun s => s.standby_eff ..) rfl
  | vddStbyReturn => exact .next (fun _ => rfl) (fun s => s.standby_eff ..) rfl

/-- Settles O54: by cases on the command, with the effect of the operation it is. -/
theorem commandsKeepTheRest : Obligations.CommandsKeepTheRest := fun s c => keepsRest c s

end Sys2Proof
end

section
/-!
PROOFS. Custodian registers, guarded pairs and voted views: what their writes leave of the register space, and how the collector counts
the faults they raise (02 R70 to R79; 16 R420, R425, R426).
-/
namespace Sys2Proof.Machine

/-! ### How the collector counts an occurrence (16 R420) -/

/-- One occurrence of a class is counted, and its bit is pending. -/
structure Counted (c : Nat) (s t : State) : Prop where
  total : t.flt.total = bumpAt c 0xFFFFFFFF s.flt.total
  pending : t.flt.pending = s.flt.pending ||| BitVec.ofNat 4 (2 ^ c)

theorem Counted.eff {c m : Nat} {s t u : State} (h : Counted c s t) (e : Eff m t u) (hm : m.testBit 20 = false) : Counted c s u :=
  ⟨by rw [e.flt hm, h.total], by rw [e.flt hm, h.pending]⟩

theorem State.deliver_counted (s : State) (r : FltRec) (esc first : Bool) : Counted r.cls s (s.deliver r esc first) := by
  have told : ∀ p n t, Counted r.cls s ((s.modFlt (fun f => { f with
      cnt := bumpAt r.cls 255 f.cnt, total := bumpAt r.cls 0xFFFFFFFF f.total
      pending := f.pending ||| BitVec.ofNat 4 (2 ^ r.cls) })).houseEvent 0x0102 p 0 n t) :=
    fun p n t => Counted.eff ⟨rfl, rfl⟩ (State.houseEvent_eff ..) (by decide)
  unfold State.deliver
  dsimp only
  split
  · exact (told ..).eff (State.emcy_eff ..) (by decide)
  · exact told ..

/-- An occurrence of class Note or Minor arms no slot and is counted once. -/
theorem State.collect_counted {s : State} {r : FltRec} (h : r.cls < 2) : Counted r.cls s (s.collect r) := by
  have harm : ∀ u : State, u.arm r = u := fun u => if_pos (.inl h)
  have latched : ∀ f : Flt → Flt, (f s.flt).total = s.flt.total ∧ (f s.flt).pending = s.flt.pending → ∀ b,
      Counted r.cls s ((s.modFlt f).deliver r false b) := fun f hf b => by
    obtain ⟨ht, hp⟩ := State.deliver_counted (s.modFlt f) r false b
    exact ⟨by rw [ht, State.modFlt_flt, hf.1], by rw [hp, State.modFlt_flt, hf.2]⟩
  unfold State.collect
  dsimp only
  rw [harm, if_neg (Nat.not_le_of_lt h)]
  exact latched _ ⟨rfl, rfl⟩ _

theorem State.note_counted {s : State} (hs : s.inService = true) {src : Nat} (h : fltClass src < 2) (inst : Nat) :
    Counted (fltClass src) s (s.note src inst) := by
  have hserv : (s.aggregate (s.recOf src inst)).inService = true := hs
  obtain ⟨ht, hp⟩ := State.collect_counted (s := s.aggregate (s.recOf src inst)) (r := s.recOf src inst) h
  unfold State.note State.record
  dsimp only
  rw [if_pos hserv]
  exact ⟨ht, hp⟩

@[simp] theorem State.note_regs (s : State) (src inst : Nat) : (s.note src inst).regs = s.regs :=
  (s.note_eff src inst).regs (by decide)

theorem State.settle_regs_quiet {s : State} (h : Quiet s) : s.settle.regs = s.regs :=
  (State.settle_eff_quiet h).regs (by decide)

theorem State.settle_flt_quiet {s : State} (h : Quiet s) : s.settle.flt = s.flt :=
  (State.settle_eff_quiet h).flt (by decide)

/-! ### Board firmware's writes that are served -/

theorem State.boardDoes_served {s : State} (hc : s.coreServes = true) (hb : s.boot.phase = .service) (f : State → State) :
    s.boardDoes f = f s :=
  if_pos (State.regServes_of_service hc hb 0 true)

/-! ### Posted writes to the Custodian (02 R70, R71) -/

/-- The two registers that take posted writes. -/
abbrev Posted (a : Nat) : Prop := a = 0x10000 ∨ a = 0x10004

/-- A posted write while BUSY is dropped, named and noted. -/
theorem State.rwp_busy {s : State} {a : Nat} (ha : Posted a) (h : s.regs.custBusy = true) (v : Word) :
    s.rwp a v = (s.modRegs (fun r => { r with
      writeLost := true, lostAddr := if r.writeLost then r.lostAddr else BitVec.ofNat 16 a })).note 0x10 0 := by
  unfold State.rwp
  rw [if_neg (by unfold Posted at ha; omega), if_pos h]

theorem State.rwp_free {s : State} {a : Nat} (ha : Posted a) (h : s.regs.custBusy = false) (v : Word) :
    s.rwp a v = s.modRegs (fun r => { r with custBusy := true, custWrite := some (a, v) }) := by
  unfold State.rwp
  rw [if_neg (by unfold Posted at ha; omega), if_neg (by simp [h])]

/-- A write of the wake enables absorbed: the value takes effect, and the mirrors are refreshed. -/
theorem State.absorbed_wakeEn {s : State} {v : Word} (h : s.regs.custWrite = some (0x10000, v)) :
    s.absorbed = (((s.modRegs (fun r => { r with custBusy := false, custWrite := none })).modRegs
      (fun r => { r with custWakeEn := v &&& 0x3F })).setEff 0x2100 3 (natLE 1 (v.toNat % 64))).refreshMirrors := by
  unfold State.absorbed
  rw [h]
  rfl

/-- A write of the alarm absorbed: the value takes effect, and the mirrors are refreshed. -/
theorem State.absorbed_alarm {s : State} {v : Word} (h : s.regs.custWrite = some (0x10004, v)) :
    s.absorbed = (((s.modRegs (fun r => { r with custBusy := false, custWrite := none })).modRegs
      (fun r => { r with custAlarm := v, alarmEdges := 0 })).setEff 0x2100 4 (natLE 4 v.toNat)).refreshMirrors := by
  unfold State.absorbed
  rw [h]
  rfl

/-- The Custodian's registers read from their mirrors (00 R9; 02 R70). -/
theorem State.regVal_wakeEn (s : State) : s.regVal 0x10000 = s.regs.mWakeEn.toNat := rfl

theorem State.regVal_alarm (s : State) : s.regVal 0x10004 = s.regs.mAlarm.toNat := rfl

/-! ### Guarded pairs (02 R72; 16 R425, R426) -/

/-- An address of the guarded block. -/
abbrev InGuarded (a : Nat) : Prop := a % 4 = 0 ∧ 0x20000 ≤ a ∧ a < 0x30000

section
variable {s : State} {a : Nat} (ha : InGuarded a) (v : Word)
include ha

theorem State.guarded_first (h : s.regs.gWait = none) : s.guarded a v = s.modRegs (fun r => { r with gWait := some (a, v) }) := by
  unfold State.guarded
  rw [if_neg (by unfold InGuarded at ha; omega), h]

variable {b : Nat} {w : Word} (h : s.regs.gWait = some (b, w))
include h

/-- The second write of a pair, by what it is to the first. -/
theorem State.guarded_second : s.guarded a v =
    if guardX a ≠ guardX b ∨ a = b then s.guardDrop (guardX b) 3
    else if v ≠ ~~~w then s.guardDrop (guardX b) 1 else s.guardDone (guardX b) (if b < 0x28000 then w else v) := by
  unfold State.guarded
  rw [if_neg (by unfold InGuarded at ha; omega), h]

theorem State.guarded_other (hx : guardX a ≠ guardX b ∨ a = b) : s.guarded a v = s.guardDrop (guardX b) 3 := by
  rw [State.guarded_second ha v h, if_pos hx]

theorem State.guarded_value (hx : guardX a = guardX b) (hab : a ≠ b) (hv : v ≠ ~~~w) : s.guarded a v = s.guardDrop (guardX b) 1 := by
  rw [State.guarded_second ha v h, if_neg (by simp [hx, hab]), if_pos hv]

theorem State.guarded_pair (hx : guardX a = guardX b) (hab : a ≠ b) (hv : v = ~~~w) :
    s.guarded a v = s.guardDone (guardX b) (if b < 0x28000 then w else v) := by
  rw [State.guarded_second ha v h, if_neg (by simp [hx, hab]), if_neg (by simp [hv])]

end

/-- A dropped pair sets MISMATCH, LAST_ADDR and one cause bit, and waits no more. -/
theorem State.guardDrop_regs (s : State) (x cause : Nat) : (s.guardDrop x cause).regs = { s.regs with
    gWait := none, gMismatch := true, gLast := BitVec.ofNat 16 x, gValue := s.regs.gValue || decide (cause = 1)
    gTime := s.regs.gTime || decide (cause = 2), gInter := s.regs.gInter || decide (cause = 3) } :=
  State.note_regs ..

/-- The pair of 1 at the arming address. -/
theorem State.guardDone_arm (s : State) : s.guardDone 0x20400 1 = (s.modRegs (fun r => { r with gWait := none })).injectArm := rfl

theorem State.injectArm_flt (s : State) : s.injectArm.flt = if s.injectOk then { s.flt with injArmed := true }
    else { s.flt with injRefused := true } := rfl

/-- What waits of a guarded pair is no part of what arms an injection. -/
theorem State.injectOk_modRegs {s : State} {f : Regs → Regs} (h : (f s.regs).inService = s.regs.inService) :
    (s.modRegs f).injectOk = s.injectOk := by
  unfold State.injectOk State.inService
  rw [State.modRegs_flt, State.modRegs_regs, h]

end Sys2Proof.Machine

namespace Sys2Proof
open Machine

/-! ### Updates that keep quiet -/

theorem Quiet.note {s : State} (h : Quiet s) (src inst : Nat) : Quiet (s.note src inst) := h.record _

theorem Quiet.guardDrop {s : State} (h : Quiet s) (x cause : Nat) : Quiet (s.guardDrop x cause) := (h.modRegs _).note _ _

theorem Quiet.injectArm {s : State} (h : Quiet s) : Quiet s.injectArm :=
  h.modFlt _ fun f => by split <;> rfl

/-! ### The commands -/

section
variable {s : State} (hc : s.coreServes = true) (hb : s.boot.phase = .service)
include hc hb

theorem rwpWrite_free {a : Nat} (ha : Posted a) (h : s.regs.custBusy = false) (v : Word) :
    Gives (.rwpWrite a v) s (fun t => t.regs = { s.regs with custBusy := true, custWrite := some (a, v) }) := by
  refine Gives.intro (t := s.boardDoes (fun s => s.rwp a v)) rfl ?_
  rw [State.boardDoes_served hc hb, State.rwp_free ha h, State.modRegs_regs]

theorem rwpWrite_busy {a : Nat} (ha : Posted a) (h : s.regs.custBusy = true) (v : Word) :
    Gives (.rwpWrite a v) s (fun t => t.regs = { s.regs with
      writeLost := true, lostAddr := if s.regs.writeLost then s.regs.lostAddr else BitVec.ofNat 16 a }) := by
  refine Gives.intro (t := s.boardDoes (fun s => s.rwp a v)) rfl ?_
  rw [State.boardDoes_served hc hb, State.rwp_busy ha h, State.note_regs, State.modRegs_regs]

theorem guardedWrite_gives {a : Nat} {v : Word} {P : State → Prop} (h : P (s.guarded a v).settle) : Gives (.guardedWrite a v) s P := by
  refine Gives.intro (t := (if s.regServes a true then s.guarded a v else s.unserved).settle) rfl ?_
  rwa [if_pos (State.regServes_of_service hc hb a true)]

theorem injectionArm_gives {P : State → Prop} (h : P (s.guardDone 0x20400 1)) : Gives (.injectionArm 1) s P := by
  refine Gives.intro (t := s.boardDoes (fun s => s.guardDone 0x20400 1)) rfl ?_
  rwa [State.boardDoes_served hc hb]

end

theorem rwpWriteAbsorbed_wakeEn {s : State} {v : Word} (h : s.regs.custWrite = some (0x10000, v)) :
    Gives .rwpWriteAbsorbed s (fun t => t.regs.custBusy = false ∧ t.regs.custWrite = none ∧ t.regs.custWakeEn = v &&& 0x3F ∧
      t.regVal 0x10000 = (v &&& 0x3F).toNat) := by
  refine Gives.intro (t := s.absorbed) rfl ?_
  rw [State.regVal_wakeEn, State.absorbed_wakeEn h]
  exact ⟨rfl, rfl, rfl, rfl⟩

theorem rwpWriteAbsorbed_alarm {s : State} {v : Word} (h : s.regs.custWrite = some (0x10004, v)) :
    Gives .rwpWriteAbsorbed s (fun t => t.regs.custBusy = false ∧ t.regs.custWrite = none ∧ t.regs.custAlarm = v ∧
      t.regVal 0x10004 = v.toNat) := by
  refine Gives.intro (t := s.absorbed) rfl ?_
  rw [State.regVal_alarm, State.absorbed_alarm h]
  exact ⟨rfl, rfl, rfl, rfl⟩

/-- Settles O33: a posted write waits, is dropped or is absorbed as the state of BUSY says. -/
theorem custodianWrites : Obligations.CustodianWrites := by
  unfold Obligations.CustodianWrites
  exact ⟨fun _ _ v hc hb ha h => rwpWrite_free hc hb ha h v, fun _ _ v hc hb ha h => rwpWrite_busy hc hb ha h v,
    fun _ _ h => rwpWriteAbsorbed_alarm h, fun _ _ h => rwpWriteAbsorbed_wakeEn h⟩

/-- Settles O59: the write in hand stays, the first address dropped is kept, and the collector counts a Note. -/
theorem custodianWriteDropped : Obligations.CustodianWriteDropped := by
  unfold Obligations.CustodianWriteDropped
  intro s a v hs hc hb ha h
  refine Gives.intro (t := s.boardDoes (fun s => s.rwp a v)) rfl ?_
  rw [State.boardDoes_served hc hb, State.rwp_busy ha h]
  have hn := State.note_counted (s := s.modRegs (fun r => { r with
    writeLost := true, lostAddr := if r.writeLost then r.lostAddr else BitVec.ofNat 16 a })) hs (src := 0x10) (by decide) 0
  refine ⟨State.note_regs .., hn.total, ?_⟩
  have hbit : (BitVec.ofNat 4 (2 ^ fltClass 0x10)).getLsbD 0 = true := by decide
  rw [hn.pending, BitVec.getLsbD_or, hbit, Bool.or_true]

section
variable {s : State} (q : Quiet s) (hc : s.coreServes = true) (hb : s.boot.phase = .service)
include q hc hb

/-- A pair dropped by a second write leaves the registers as the drop made them. -/
theorem guardedWrite_drops {a x cause : Nat} {v : Word} (h : s.guarded a v = s.guardDrop x cause) :
    Gives (.guardedWrite a v) s (fun t => t.regs = (s.guardDrop x cause).regs) := by
  refine guardedWrite_gives hc hb ?_
  rw [h, State.settle_regs_quiet (q.guardDrop _ _)]

theorem guardedWrite_first {a : Nat} (ha : InGuarded a) (v : Word) (h : s.regs.gWait = none) :
    Gives (.guardedWrite a v) s (fun t => t.regs = { s.regs with gWait := some (a, v) }) := by
  refine guardedWrite_gives hc hb ?_
  rw [State.guarded_first ha v h, State.settle_regs_quiet (q.modRegs _), State.modRegs_regs]

/-- The complement of a pending 1 at the arming address arms the injection that the registers select (16 R426). -/
theorem guardedWrite_arms (h : s.regs.gWait = some (0x20400, 1)) (hi : s.injectOk = true) :
    Gives (.guardedWrite 0x28400 0xFFFFFFFE) s (fun t => t.regs.gWait = none ∧ t.flt.injArmed = true) := by
  have hpair : s.guarded 0x28400 0xFFFFFFFE = s.guardDone 0x20400 1 :=
    State.guarded_pair (a := 0x28400) (by decide) _ h (by decide) (by decide) (by decide)
  have hok : (s.modRegs (fun r => { r with gWait := none })).injectOk = true := (State.injectOk_modRegs rfl).trans hi
  have hq : Quiet (s.modRegs (fun r => { r with gWait := none })).injectArm := (q.modRegs _).injectArm
  refine guardedWrite_gives hc hb ?_
  rw [hpair, State.guardDone_arm, State.settle_regs_quiet hq, State.settle_flt_quiet hq, State.injectArm_flt, if_pos hok]
  exact ⟨rfl, rfl⟩

theorem guardedWrite_value {a b : Nat} {v w : Word} (ha : InGuarded a) (h : s.regs.gWait = some (b, w)) (hx : guardX a = guardX b)
    (hab : a ≠ b) (hv : v ≠ ~~~w) :
    Gives (.guardedWrite a v) s (fun t => t.regs = { s.regs with
      gWait := none, gMismatch := true, gLast := BitVec.ofNat 16 (guardX b), gValue := true }) := by
  have hd := guardedWrite_drops q hc hb (State.guarded_value ha v h hx hab hv)
  simpa [State.guardDrop_regs] using hd

theorem guardedWrite_other {a b : Nat} {w : Word} (ha : InGuarded a) (v : Word) (h : s.regs.gWait = some (b, w))
    (hx : guardX a ≠ guardX b ∨ a = b) :
    Gives (.guardedWrite a v) s (fun t => t.regs = { s.regs with
      gWait := none, gMismatch := true, gLast := BitVec.ofNat 16 (guardX b), gInter := true }) := by
  have hd := guardedWrite_drops q hc hb (State.guarded_other ha v h hx)
  simpa [State.guardDrop_regs] using hd

end

theorem guardedPairTimeout_late {s : State} {b : Nat} {w : Word} (h : s.regs.gWait = some (b, w)) :
    Gives .guardedPairTimeout s (fun t => t.regs = { s.regs with
      gWait := none, gMismatch := true, gLast := BitVec.ofNat 16 (guardX b), gTime := true }) := by
  have hl : s.guardLate = s.guardDrop (guardX b) 2 := by
    unfold State.guardLate
    rw [h]
  refine Gives.intro (t := s.guardLate) rfl ?_
  simp [hl, State.guardDrop_regs]

theorem injectionArm_arms {s : State} (hc : s.coreServes = true) (hb : s.boot.phase = .service) :
    Gives (.injectionArm 1) s (fun t => t.regs.gWait = none ∧
      t.flt = if s.injectOk then { s.flt with injArmed := true } else { s.flt with injRefused := true }) := by
  refine injectionArm_gives hc hb ?_
  rw [State.guardDone_arm, State.injectArm_flt, State.injectOk_modRegs rfl]
  exact ⟨rfl, rfl⟩

/-- Settles O34: the second write of a pair, by what it is to the first, and the pair of 1 by whether an injection may be armed. -/
theorem guardedPairs : Obligations.GuardedPairs := by
  unfold Obligations.GuardedPairs
  refine ⟨?_, ?_, ?_, ?_, fun s b w h => guardedPairTimeout_late h, ?_, ?_⟩
  · intro s a v q hc hb h h4 hlo hhi
    exact guardedWrite_first q hc hb ⟨h4, hlo, hhi⟩ v h
  · intro s q hc hb h hi
    exact guardedWrite_arms q hc hb h hi
  · intro s a b v w q hc hb h hx hab hv h4 hlo hhi
    exact guardedWrite_value q hc hb ⟨h4, hlo, hhi⟩ h hx hab hv
  · intro s a b v w q hc hb h hx h4 hlo hhi
    exact guardedWrite_other q hc hb ⟨h4, hlo, hhi⟩ v h hx
  · intro s hc hb hi
    simpa [hi] using injectionArm_arms hc hb
  · intro s hc hb hi
    simpa [hi] using injectionArm_arms hc hb

end Sys2Proof
end

section
/-!
PROOFS. What the switch of a port, the reactions to faults, the items that wait and the pass after a command leave as they were: the bit
IN_SERVICE and the effective values of every object that is applied neither with a port's VBUS nor with its contract (00 R10; 02 R78; 14
R378 to R384; 16 R407 to R417).
-/
namespace Sys2Proof.Machine

/-- IN_SERVICE and the effective values of the objects that are not of class V or C are as before. -/
structure Steady (s t : State) : Prop where
  inService : t.regs.inService = s.regs.inService
  effective : ∀ k, clsOf (k / 256) (k % 256) ≠ some .v → clsOf (k / 256) (k % 256) ≠ some .c →
    SMap.get none t.cat.eff k = SMap.get none s.cat.eff k

theorem Steady.refl (s : State) : Steady s s := ⟨rfl, fun _ _ _ => rfl⟩

theorem Steady.trans {s t u : State} (h : Steady s t) (k : Steady t u) : Steady s u :=
  ⟨k.inService.trans h.inService, fun n hv hc => (k.effective n hv hc).trans (h.effective n hv hc)⟩

/-- An operation that reaches neither the register space nor the Catalogue. -/
theorem Eff.steady {m : Nat} {s t : State} (e : Eff m s t) (hm : (m.testBit 10 || m.testBit 13) = false) : Steady s t := by
  obtain ⟨hc, hr⟩ := Bool.or_eq_false_iff.mp hm
  exact ⟨by rw [e.regs hr], fun k _ _ => by rw [e.cat hc]⟩

theorem Steady.eff {m : Nat} {s t u : State} (h : Steady s t) (e : Eff m t u) (hm : (m.testBit 10 || m.testBit 13) = false) : Steady s u :=
  h.trans (e.steady hm)

theorem Steady.foldl {α : Type} {f : State → α → State} (h : ∀ s x, Steady s (f s x)) (l : List α) (s : State) : Steady s (l.foldl f s) := by
  induction l generalizing s with
  | nil => exact .refl s
  | cons x l ih => exact (h s x).trans (ih _)

theorem Steady.then_foldl {α : Type} {f : State → α → State} {s t : State} (h : Steady s t) (hf : ∀ s x, Steady s (f s x)) (l : List α) :
    Steady s (l.foldl f t) :=
  h.trans (.foldl hf l t)

theorem Steady.ite {s a b : State} {c : Prop} [Decidable c] (h : Steady s a) (k : Steady s b) : Steady s (if c then a else b) := by
  split <;> assumption

/-! ### The values that take effect with VBUS or a contract -/

theorem State.setEff_steady {s : State} {k : Nat} (b : Bytes)
    (h : clsOf (k / 256) (k % 256) = some .v ∨ clsOf (k / 256) (k % 256) = some .c) : Steady s (s.setEff (k / 256) (k % 256) b) := by
  refine ⟨rfl, fun j hv hc => ?_⟩
  have hk : objKey (k / 256) (k % 256) = k := Nat.div_add_mod' k 256
  have hj : j ≠ k := by
    rintro rfl
    exact h.elim hv hc
  unfold State.setEff
  rw [State.modCat_cat, hk]
  exact SMap.get_put_other _ _ hj

theorem State.setPend_steady (s : State) (idx sub : Nat) (v : Option PendVal) : Steady s (s.setPend idx sub v) := ⟨rfl, fun _ _ _ => rfl⟩

theorem State.applyWhere_steady (s : State) {p : Nat → Nat → Bool}
    (h : ∀ i j, p i j = true → clsOf i j = some .v ∨ clsOf i j = some .c) : Steady s (s.applyWhere p) := by
  refine Steady.foldl (fun s e => ?_) _ s
  split
  · next hp =>
    split
    · exact (State.setEff_steady _ (h _ _ hp)).trans (State.setPend_steady ..)
    · exact .refl _
  · exact .refl _

theorem clsOf_of_portCls {cl : Cls} {q i j : Nat} (h : portCls cl q i j = true) : clsOf i j = some cl := by
  simp only [portCls, Bool.and_eq_true, decide_eq_true_eq] at h
  exact h.2

theorem State.applyV_steady (s : State) (p : Nat) : Steady s (s.applyV p) :=
  s.applyWhere_steady fun _ _ h => .inl (clsOf_of_portCls h)

theorem State.applyC_steady (s : State) (p : Nat) : Steady s (s.applyC p) :=
  s.applyWhere_steady fun _ _ h => .inr (clsOf_of_portCls h)

/-! ### The voted fields of a port (02 R77) -/

theorem State.modVote_steady (s : State) (k : Nat) (f : Word → Word) : Steady s (s.modVote k f) := ⟨rfl, fun _ _ _ => rfl⟩

theorem State.setAllowed_steady (s : State) (p : Nat) (b : Bool) : Steady s (s.setAllowed p b) :=
  ((State.modProt_eff ..).steady rfl).trans (.ite ((State.modUsb_eff ..).steady rfl) (State.modVote_steady ..))

theorem State.setVconnAllowed_steady (s : State) (p : Nat) (b : Bool) : Steady s (s.setVconnAllowed p b) :=
  .ite ((State.modPwr_eff ..).steady rfl) (State.modVote_steady ..)

theorem State.setFast_steady (s : State) (p : Nat) : Steady s (s.setFast p) :=
  (Steady.ite (.refl s) ((State.modProt_eff ..).steady rfl)).trans (.ite (.refl _) (State.modVote_steady ..))

theorem State.takeV_steady (s : State) (p : Nat) : Steady s (s.takeV p) :=
  ((s.applyV_steady p).trans (.ite (.refl _) (State.setVconnAllowed_steady ..))).trans (.ite (.refl _) (State.setFast_steady ..))

theorem State.takeC_steady (s : State) (p : Nat) : Steady s (s.takeC p) :=
  (s.applyC_steady p).trans (.ite ((State.leaveQueue_eff ..).steady rfl) (.refl _))

/-! ### The switch of a port -/

theorem State.startDrain_steady (s : State) (p : Nat) : Steady s (s.startDrain p) :=
  ((State.modProt_eff ..).steady rfl).trans (State.setAllowed_steady ..)

theorem State.toOff_steady (s : State) (p : Nat) : Steady s (s.toOff p) :=
  (((((((State.modProt_eff ..).steady rfl).trans (State.setAllowed_steady ..)).trans (State.takeV_steady ..)).eff (State.portOff_eff ..)
    rfl).eff (State.offDone_eff ..) rfl).eff (State.onDone_eff ..) rfl)

/-- Requests to switch off join before they act. -/
theorem State.joined_steady (s : State) (p : Nat) (k : Option Nat) : Steady s ((s.onDone p 0).joinOff p k) :=
  ((State.onDone_eff ..).steady rfl).eff (State.joinOff_eff ..) rfl

theorem State.swOff_steady (s : State) (p : Nat) (k : Option Nat) : Steady s (s.swOff p k) := by
  have settled : Steady s ((s.onDone p 0).finishO k 0 0) := ((State.onDone_eff ..).steady rfl).eff (State.finishO_eff ..) rfl
  unfold State.swOff
  dsimp only
  split
  · exact (State.holdReq_eff ..).steady rfl
  · cases (s.getProt p).sw with
    | off => exact settled
    | locked => exact settled
    | ramping => exact (s.joined_steady p k).eff (State.modProt_eff ..) rfl
    | on => exact (((State.joinOff_eff ..).steady rfl).trans (State.startDrain_steady ..)).eff (State.modProt_eff ..) rfl
    | draining => exact (s.joined_steady p k).eff (State.modProt_eff ..) rfl
    | cooling => exact (s.joined_steady p k).trans (State.toOff_steady ..)

theorem State.withholdOff_steady (s : State) (p : Nat) (k : Option Nat) : Steady s (s.withholdOff p k) :=
  .ite ((State.holdReq_eff ..).steady rfl) (((State.withhold_eff ..).steady rfl).trans (State.swOff_steady ..))

theorem State.swDetach_steady (s : State) (p : Nat) : Steady s (s.swDetach p) :=
  .ite ((State.holdReq_eff ..).steady rfl) (.ite (State.toOff_steady ..) (.ite ((State.modProt_eff ..).steady rfl) (State.swOff_steady ..)))

theorem State.startRamp_steady (s : State) (p : Nat) : Steady s (s.startRamp p) :=
  (((State.setVout_eff ..).steady rfl).eff (State.modProt_eff ..) rfl).trans (State.setAllowed_steady ..)

theorem State.swOn_steady (s : State) (p : Nat) (k : Option Nat) : Steady s (s.swOn p k) := by
  have waits : Steady s (if (s.getProt p).offPend then s.offDone p 0 else s) := .ite ((State.offDone_eff ..).steady rfl) (.refl s)
  unfold State.swOn
  dsimp only
  split
  · exact (State.holdReq_eff ..).steady rfl
  · cases (s.getProt p).sw with
    | on => exact (State.finishO_eff ..).steady rfl
    | locked => exact (State.finishO_eff ..).steady rfl
    | off => exact .ite ((State.joinOn_eff ..).steady rfl) (((State.joinOn_eff ..).steady rfl).trans (State.startRamp_steady ..))
    | ramping => exact waits.eff (State.joinOn_eff ..) rfl
    | draining => exact (waits.eff (State.joinOn_eff ..) rfl).trans (.ite (.refl _) ((State.modProt_eff ..).steady rfl))
    | cooling => exact (State.joinOn_eff ..).steady rfl

/-! ### Contracts, detaches and the items of a port -/

theorem State.enterAttached_steady (s : State) (p : Nat) (k : Option Nat) : Steady s (s.enterAttached p k) :=
  ((((State.modPwr_eff ..).steady rfl).eff (State.joinQueue_eff ..) rfl).eff (State.typeC_eff ..) rfl).trans (State.swOn_steady ..)

theorem State.ccDetach_steady (s : State) (p : Nat) : Steady s (s.ccDetach p) :=
  .ite ((((((State.pwrEvent_eff ..).steady rfl).eff (State.vconnOff_eff ..) rfl).eff (State.endContract_eff ..) rfl).eff
    (State.leaveQueue_eff ..) rfl).eff (State.modPwr_eff ..) rfl |>.trans (State.swDetach_steady ..)) (.refl s)

theorem State.ccReplay_steady (s : State) (p : Nat) : Steady s (s.ccReplay p) :=
  .ite ((State.ccAttach_eff ..).steady rfl) (State.ccDetach_steady ..)

theorem State.vbusOn_steady (s : State) (k p : Nat) : Steady s (s.vbusOn k p) :=
  .ite ((State.finish_eff ..).steady rfl) (.ite (State.swOn_steady ..) ((s.takeC_steady p).trans
    (.ite (State.enterAttached_steady ..) ((State.finish_eff ..).steady rfl))))

theorem State.vbusOff_steady (s : State) (k p : Nat) : Steady s (s.vbusOff k p) :=
  .ite ((State.finish_eff ..).steady rfl) (.ite (State.withholdOff_steady ..) ((State.finish_eff ..).steady rfl))

/-- What is done only while a loan is not *Paused* (03 R91). -/
theorem State.unlessPaused_steady {s : State} (k : Nat) {f : State → State} (h : Steady s (f s)) : Steady s (s.unlessPaused k f) :=
  .ite ((State.modTenants_eff ..).steady rfl) h

theorem State.runItem_steady (s : State) (k : Nat) (i : Item) : Steady s (s.runItem k i) := by
  have action : Steady s (if i.f 1 1 = 1 then s.vbusOn k i.port else if i.f 1 1 = 2 then s.vbusOff k i.port
      else if i.f 1 1 = 3 then s.askReset i.port (some k) else if i.f 1 1 = 4 then s.askSuspend k i.port
      else if i.f 1 1 = 5 then s.askResume k i.port else s.askDisable k i.port) :=
    .ite (State.vbusOn_steady ..) (.ite (State.vbusOff_steady ..) (.ite ((State.askReset_eff ..).steady rfl)
      (.ite ((State.askSuspend_eff ..).steady rfl) (.ite ((State.askResume_eff ..).steady rfl) ((State.askDisable_eff ..).steady rfl)))))
  have moved : Steady s (((s.doTransfer k i).itemWake (s.getPipes (i.f 0 4 % 1048576)).port).serve (s.getPipes (i.f 0 4 % 1048576)).port) :=
    (((State.doTransfer_eff ..).steady rfl).eff (State.itemWake_eff ..) rfl).eff (State.serve_eff ..) rfl
  exact .ite action (.ite moved (.ite ((State.doVaultRead_eff ..).steady rfl) (.ite ((State.doVaultWrite_eff ..).steady rfl)
    (.ite ((State.doVaultFlush_eff ..).steady rfl) (.ite ((State.doVaultDealloc_eff ..).steady rfl)
      (.ite ((State.doFanout_eff ..).steady rfl) (.ite ((State.doCapture_eff ..).steady rfl) (.refl s))))))))

theorem State.heldRun_steady (s : State) (k : Nat) : Steady s (s.heldRun k) := by
  unfold State.heldRun
  cases s.item? k with
  | none => exact .refl s
  | some i => exact .ite (State.runItem_steady ..) (State.unlessPaused_steady _ (State.runItem_steady ..))

theorem State.replayWake_steady (s : State) (w : Wake) : Steady s (s.replayWake w) :=
  .ite ((State.remoteWaken_eff ..).steady rfl) (.ite (State.ccReplay_steady ..) (.ite ((State.portGone_eff ..).steady rfl) (.refl s)))

/-! ### The reactions to faults -/

theorem State.containPort_steady (s : State) (src inst p : Nat) : Steady s (s.containPort src inst p) :=
  (((State.portContain_eff ..).steady rfl).eff (State.leaveQueue_eff ..) rfl).trans (.ite (State.withholdOff_steady ..) (.refl _))

theorem State.containGallery_steady (s : State) (src inst g : Nat) : Steady s (s.containGallery src inst g) :=
  .foldl (fun s p => s.containPort_steady src inst p) _ s

theorem State.immediate_steady (s : State) (src inst : Nat) : Steady s (s.immediate src inst) :=
  .ite (.foldl (fun s g => s.containGallery_steady src inst g) _ s) (.ite (.foldl (fun s p => s.containPort_steady src inst p) _ s)
    (.ite ((State.safeStopNow_eff ..).steady rfl) (.refl s)))

theorem State.raise_steady (s : State) (src inst : Nat) : Steady s (s.raise src inst) :=
  ((State.fault_eff ..).steady rfl).trans (.ite (State.immediate_steady ..) (.refl _))

theorem State.escalate_steady (s : State) (src inst cls : Nat) : Steady s (s.escalate src inst cls) := by
  have stopped : Steady s (s.safeStopNow src inst) := (State.safeStopNow_eff ..).steady rfl
  have suspended : Steady s ((s.flt.uncLoans.filter (fun e => decide (e.1 = inst))).foldl (fun s e => s.suspendLoan src inst e.2) s) :=
    .foldl (fun _ _ => (State.suspendLoan_eff ..).steady rfl) _ s
  unfold State.escalate
  exact .ite stopped (.ite stopped (.ite (s.containPort_steady src inst inst) (.ite (s.containGallery_steady src inst inst)
    (.ite suspended (.refl s)))))

/-- An escalation that is owed acts and is delivered. -/
theorem State.owed_steady (s : State) (r : FltRec) : Steady s ((s.escalate r.source r.inst r.cls).deliverEsc r) := by
  have told : Steady (s.escalate r.source r.inst r.cls) ((s.escalate r.source r.inst r.cls).deliverEsc r) :=
    Eff.steady (State.deliverEsc_eff _ r) rfl
  exact (s.escalate_steady r.source r.inst r.cls).trans told

theorem State.escOwed_steady (s : State) : Steady s s.escOwed := by
  have cleared : Steady s (s.modFlt (fun f => { f with escDue := [] })) := ⟨rfl, fun _ _ _ => rfl⟩
  unfold State.escOwed
  exact Steady.then_foldl cleared State.owed_steady _

theorem State.collected_steady (s : State) (r : FltRec) : Steady s ((s.collect r).immediate r.source r.inst) :=
  ((s.collect_eff r).steady rfl).trans (State.immediate_steady ..)

theorem State.takeRecs_steady (s : State) : Steady s s.takeRecs := by
  have unpinned : Steady s (s.modFlt (fun f => { f with pinHold := false })) := ⟨rfl, fun _ _ _ => rfl⟩
  unfold State.takeRecs
  dsimp only
  refine Steady.then_foldl (Steady.then_foldl unpinned ?_ _) ?_ _
  · exact State.collected_steady
  · exact fun s c => s.raise_steady c.1 c.2

/-! ### The pass after a command -/

theorem State.resumedPass_steady (s : State) : Steady s s.resumedPass :=
  .foldl (fun _ _ => ((State.modTenants_eff ..).steady rfl).trans (.foldl State.heldRun_steady _ _)) _ s

theorem State.settle_steady (s : State) : Steady s s.settle := by
  have rounds : Steady s.resumedPass (times State.settleOnce 3 s.resumedPass) :=
    (((State.settleOnce_eff _).steady rfl).eff (State.settleOnce_eff _) rfl).eff (State.settleOnce_eff _) rfl
  exact ((((s.resumedPass_steady.trans rounds).trans (State.escOwed_steady _)).eff (State.freeRecalled_eff _) rfl).eff
    (State.pllPass_eff _) rfl).eff (State.guardPass_eff _) rfl

/-! ### Parity (02 R75, R76) -/

theorem State.modRegs_steady {s : State} {f : Regs → Regs} (h : (f s.regs).inService = s.regs.inService) : Steady s (s.modRegs f) :=
  ⟨h, fun _ _ _ => rfl⟩

theorem State.parityHit_steady (s : State) (a : Nat) : Steady s (s.parityHit a) := by
  unfold State.parityHit
  dsimp only
  exact ((State.modRegs_steady rfl).eff (State.causeOn_eff ..) rfl).eff (State.fault_eff ..) rfl

theorem State.parityUse_steady (s : State) (a : Nat) : Steady s (s.parityUse a) := by
  have fired : ∀ u : State, Steady u (((u.modFlt (fun f => { f with injArmed := false, injFired := true, injNow := true })).parityHit
      a).causeOff 0x12 (regDie a) |>.modFlt (fun f => { f with injNow := false })) := fun u =>
    ((((State.modFlt_eff ..).steady rfl).trans (State.parityHit_steady ..)).eff (State.causeOff_eff ..) rfl).eff (State.modFlt_eff ..) rfl
  exact .ite (.refl s) ((Steady.ite (State.parityHit_steady ..) (.refl s)).trans (.ite (fired _) (.refl _)))

theorem State.parityCritical_steady (s : State) (a : Nat) : Steady s (s.parityCritical a) := by
  unfold State.parityCritical
  split
  · exact (State.modDbg_eff ..).steady rfl
  · exact ((State.modUsb_eff ..).steady rfl).trans (State.containPort_steady ..)
  · exact .refl s

theorem State.parityCheck_steady (s : State) (a : Nat) : Steady s (s.parityCheck a) :=
  .ite ((s.parityUse_steady a).trans (State.parityCritical_steady ..)) (.refl s)

end Sys2Proof.Machine
end

section
/-!
PROOFS. Voted views in and before normal service, and what the entry to it leaves of the phase, the debug lock and the power state (02
R77 to R79; 15 R398, R402; 17 R433).
-/
namespace Sys2Proof.Machine

/-! ### The addresses of voted views (02 R77) -/

theorem viewAt_portBlock {p : Nat} (hp : portOk p = true) : viewAt (0xFFF00 + p * 4096) = some p := by
  have h : portAt (0xFFF00 + p * 4096) = some (p, 0xF00) := portAt_block hp (by decide) (by omega)
  have := range_of_portAt h
  unfold viewAt
  rw [if_neg (by omega), h]
  rfl

theorem offset_of_portAt {a p off : Nat} (h : portAt a = some (p, off)) : (a - 0x100000) % 0x1000 = off := by
  unfold portAt bankAt at h
  split at h
  · exact (Prod.mk.inj (Option.some.inj h)).2
  · cases h

/-- The address of a voted view is a word of its own: the debug lock's, or one of a port block at 0xF00. -/
theorem range_of_viewAt {a k : Nat} (h : viewAt a = some k) : a % 4 = 0 ∧ a < 0xE00000 ∧ a ≠ 0x184 := by
  unfold viewAt at h
  split at h
  · omega
  · split at h
    · next p hp =>
      have hr := range_of_portAt hp
      have hoff := offset_of_portAt hp
      clear h hp
      omega
    · cases h

/-! ### Outputs -/

theorem State.mem_sent_emit (s : State) (o : Sent) : o ∈ (s.emit o).sent := List.mem_append_right _ (List.mem_singleton_self _)

/-! ### Reads and writes of voted views (02 R77, R79) -/

section
variable {s : State} {a k : Nat} (h : viewAt a = some k)
include h

theorem State.regRead_view : s.regRead a = (((s.parityCheck a).rvRead k).1, BitVec.ofNat 32 ((s.parityCheck a).rvRead k).2) := by
  obtain ⟨h4, hr, hl⟩ := range_of_viewAt h
  unfold State.regRead
  rw [if_neg (by omega), aliasAt_eq_none hr]
  simp only [if_neg hl, h]

theorem State.regWrite_view (v : Word) : s.regWrite a v = s.rvWrite k v := by
  obtain ⟨h4, hr, -⟩ := range_of_viewAt h
  unfold State.regWrite
  rw [if_neg (by omega), aliasAt_eq_none hr, h]

theorem State.viewAccess_read : s.viewAccess a none = s.wordRead a := by
  simp [State.viewAccess, h]

theorem State.viewAccess_write (v : Word) : s.viewAccess a (some v) = s.boardWrite a v := by
  simp [State.viewAccess, h]

end

/-- In recovery every register access is served (17 R441). -/
theorem State.boardRead_recovery {s : State} (h : s.boot.phase = .recovery) (a : Nat) : s.boardRead a = s.regRead a :=
  if_pos (by unfold State.regServes; rw [h])

theorem State.boardWrite_recovery {s : State} (h : s.boot.phase = .recovery) (a : Nat) (v : Word) : s.boardWrite a v = s.regWrite a v :=
  if_pos (by unfold State.regServes; rw [h])

theorem State.rvRead_service {s : State} (h : s.inService = true) (k : Nat) :
    s.rvRead k = (s.modRegs (fun r => { r with rvInService := true }), 0) := if_pos h

theorem State.rvWrite_service {s : State} (h : s.inService = true) (k : Nat) (v : Word) :
    s.rvWrite k v = s.modRegs (fun r => { r with rvInService := true }) := if_pos h

theorem State.rvWrite_recovery {s : State} (h : s.inService = false) (k : Nat) (v : Word) :
    s.rvWrite k v = s.modVote k (fun _ => v &&& viewMask k) := if_neg (by simp [h])

/-- A check of parity, whatever it finds, leaves normal service. -/
theorem State.inService_parityCheck (s : State) (a : Nat) : (s.parityCheck a).inService = s.inService :=
  (s.parityCheck_steady a).inService

theorem State.parityCheck_recovery {s : State} (h : s.inService = false) (a : Nat) : s.parityCheck a = s := by
  simp [State.parityCheck, State.parityFails, h]

theorem State.injectVote_unarmed {s : State} (h : s.flt.injArmed = false) (k : Nat) : s.injectVote k = s := by
  simp [State.injectVote, h]

/-! ### Copies that agree, and copies rewritten (02 R77) -/

@[simp] theorem majority3_self (v : Word) : majority3 v v v = v := by simp [majority3]

section
variable {s : State} {k : Nat} {v : Word} (h0 : SMap.get 0 s.regs.vote0 k = v) (h1 : SMap.get 0 s.regs.vote1 k = v)
  (h2 : SMap.get 0 s.regs.vote2 k = v)
include h0 h1 h2

theorem State.voted_agree : s.voted k = v := by
  unfold State.voted
  rw [h0, h1, h2, majority3_self]

theorem State.disagree_agree : s.disagree k = 0 := by
  unfold State.disagree
  rw [State.voted_agree h0 h1 h2, h0, h1, h2]
  simp

/-- Copies that agree need no correction. -/
theorem State.vote_agree : s.vote k = s := by
  unfold State.vote
  rw [State.disagree_agree h0 h1 h2]
  exact if_pos (by decide)

end

/-- A write of all three copies. -/
theorem State.modVote_copies (s : State) (k : Nat) (v : Word) : SMap.get 0 (s.modVote k (fun _ => v)).regs.vote0 k = v ∧
    SMap.get 0 (s.modVote k (fun _ => v)).regs.vote1 k = v ∧ SMap.get 0 (s.modVote k (fun _ => v)).regs.vote2 k = v :=
  ⟨SMap.get_put_same .., SMap.get_put_same .., SMap.get_put_same ..⟩

/-- A correction keeps every voted value. -/
@[simp] theorem State.voted_vote (s : State) (k j : Nat) : (s.vote k).voted j = s.voted j := by
  unfold State.vote
  dsimp only
  split
  · rfl
  · obtain ⟨h0, h1, h2⟩ := s.modVote_copies k (s.voted k)
    by_cases hj : j = k
    · subst hj
      exact State.voted_agree (s := (s.modVote j _).modRegs _) h0 h1 h2
    · unfold State.voted State.modVote
      simp only [State.modRegs_regs, SMap.get_put_other _ _ hj]

theorem State.voted_votes (l : List Nat) (s : State) (k : Nat) : (l.foldl State.vote s).voted k = s.voted k := by
  induction l generalizing s with
  | nil => rfl
  | cons j l ih => rw [List.foldl_cons, ih, State.voted_vote]

/-! ### What the entry to normal service keeps once the bit is set (02 R78) -/

/-- Normal service, the phase, that start-up is done, and the debug lock's state are as before. -/
structure ServiceKept (s t : State) : Prop where
  inService : t.regs.inService = s.regs.inService
  phase : t.boot.phase = s.boot.phase
  started : t.boot.started = s.boot.started
  lock : t.dbg.lock = s.dbg.lock

theorem ServiceKept.trans {s t u : State} (h : ServiceKept s t) (k : ServiceKept t u) : ServiceKept s u :=
  ⟨k.inService.trans h.inService, k.phase.trans h.phase, k.started.trans h.started, k.lock.trans h.lock⟩

theorem ServiceKept.refl (s : State) : ServiceKept s s := ⟨rfl, rfl, rfl, rfl⟩

theorem ServiceKept.ite {s a b : State} {c : Prop} [Decidable c] (h : ServiceKept s a) (k : ServiceKept s b) :
    ServiceKept s (if c then a else b) := by
  split <;> assumption

theorem ServiceKept.foldl {α : Type} {f : State → α → State} (h : ∀ s x, ServiceKept s (f s x)) (l : List α) (s : State) :
    ServiceKept s (l.foldl f s) := by
  induction l generalizing s with
  | nil => exact .refl s
  | cons x l ih => exact (h s x).trans (ih _)

/-- An operation that leaves IN_SERVICE and reaches neither the boot nor the debug lock. -/
theorem Steady.serviceKept {m : Nat} {s t : State} (h : Steady s t) (e : Eff m s t) (hm : (m.testBit 21 || m.testBit 22) = false) :
    ServiceKept s t := by
  obtain ⟨hb, hd⟩ := Bool.or_eq_false_iff.mp hm
  exact ⟨h.inService, by rw [e.boot hb], by rw [e.boot hb], by rw [e.dbg hd]⟩

theorem Eff.serviceKept {m : Nat} {s t : State} (e : Eff m s t) (hm : (m.testBit 13 || (m.testBit 21 || m.testBit 22)) = false) :
    ServiceKept s t := by
  obtain ⟨hr, hm⟩ := Bool.or_eq_false_iff.mp hm
  obtain ⟨hb, hd⟩ := Bool.or_eq_false_iff.mp hm
  exact ⟨by rw [e.regs hr], by rw [e.boot hb], by rw [e.boot hb], by rw [e.dbg hd]⟩

theorem State.flash_serviceKept (s : State) (f : FlashCfg → FlashCfg) : ServiceKept s (s.flash f) := by
  unfold State.flash
  dsimp only
  split
  · exact ⟨rfl, rfl, rfl, rfl⟩
  · exact .ite ⟨rfl, rfl, rfl, rfl⟩ ⟨rfl, rfl, rfl, rfl⟩

theorem State.adopt_serviceKept (s : State) (e : Word) : ServiceKept s (s.adopt e) := by
  have stored : ServiceKept s (if e = s.coll.epoch then s else (s.modColl (fun c => { c with
      epoch := e, acceptedFor := none, accepts := [], proposing := false })).flash (fun f => { f with epoch := e })) :=
    .ite (.refl s) (((s.modColl_eff _).serviceKept rfl).trans (State.flash_serviceKept ..))
  exact (stored.trans ((State.takeKey_eff _).serviceKept rfl)).trans ((State.applyE_eff _).serviceKept rfl)

theorem State.settleQuorum_serviceKept (s : State) : ServiceKept s s.settleQuorum := by
  have adopted : ServiceKept s ((s.modColl (fun c => { c with quorum := true })).adopt s.topEpoch) :=
    ((s.modColl_eff _).serviceKept rfl).trans (State.adopt_serviceKept ..)
  exact .ite (.ite (.refl s) ((State.loseQuorum_eff s).serviceKept rfl))
    (.ite (.ite adopted (adopted.trans ((State.loseQuorum_eff _).serviceKept rfl))) (.refl s))

theorem State.takeRecs_serviceKept (s : State) : ServiceKept s s.takeRecs :=
  s.takeRecs_steady.serviceKept s.takeRecs_eff rfl

theorem State.settle_serviceKept (s : State) : ServiceKept s s.settle :=
  s.settle_steady.serviceKept s.settle_eff rfl

/-! ### *Run* begins, and the pass after it keeps it (15 R398, R402) -/

theorem State.dpsEvent_state (s : State) (b : BitVec 4) : (s.dpsEvent b).dps.state = s.dps.state := by
  unfold State.dpsEvent
  dsimp only
  split
  · rfl
  · rw [(State.houseEvent_eff ..).dps (by decide), State.modDps_dps]

theorem State.guardPass_state (s : State) : s.guardPass.dps.state = s.dps.state := by
  have told : ∀ b : BitVec 6, (if b = s.dps.blocked then s else if s.dps.request.isSome
      then (s.modDps (fun d => { d with blocked := b })).dpsEvent 8 else s.modDps (fun d => { d with blocked := b })).dps.state =
      s.dps.state := fun b => by
    split
    · rfl
    · split
      · rw [State.dpsEvent_state, State.modDps_dps]
      · rfl
  exact told _

theorem State.settle_state (s : State) : s.settle.dps.state = s.dps.state := by
  have rounds : Eff 462556151 s.resumedPass (times State.settleOnce 3 s.resumedPass) :=
    ((State.settleOnce_eff _).trans (State.settleOnce_eff _)).trans (State.settleOnce_eff _)
  unfold State.settle
  rw [State.guardPass_state, (State.pllPass_eff _).dps rfl, (State.freeRecalled_eff _).dps rfl, (State.escOwed_eff _).dps rfl,
    rounds.dps rfl, (State.resumedPass_eff s).dps rfl]

/-- What waking from *Dormant* does for the times before *Run* begins (15 R402). -/
def State.dormantTimes (s : State) : State :=
  ((s.modClk (fun c => { c with hubTime := BitVec.ofNat 64 s.wokenTime })).syncLost).restartTimebases.freshPass

/-- *Run* with the latch and the held accesses taken out of the power state (15 R398, R402, R403). -/
def State.runState (s : State) : State :=
  ((s.modDps (fun d => { d with
    state := .run, target := .run, request := none, blocked := 0, latch := [], latchOvf := false, heldAcc := []
    assist := decide (d.coreMv < 750), writeAssist := decide (d.coreMv < 720) })).setEff 0x2100 1 [0]).dpsEvent 2

/-- What *Run* replays and issues as it begins. -/
def State.runReplay (s : State) (latch : List Wake) (held : List Nat) : State :=
  let s := held.foldl State.heldRun (latch.foldl State.replayWake s)
  if s.locked .upstream then s.applyLinkEnables else s

/-- The entry to *Run* by its parts. -/
theorem State.enterRun_eq (s : State) : s.enterRun =
    (if s.dps.fromState = .dormant then s.dormantTimes else s).runState.runReplay
      (if s.dps.fromState = .dormant then s.dormantTimes else s).dps.latch
      (if s.dps.fromState = .dormant then s.dormantTimes else s).dps.heldAcc := by
  unfold State.enterRun
  simp only [decide_eq_true_eq]
  rfl

theorem State.dormantTimes_serviceKept (s : State) : ServiceKept s s.dormantTimes := by
  have restored : ServiceKept s (s.modClk (fun c => { c with hubTime := BitVec.ofNat 64 s.wokenTime })) := ⟨rfl, rfl, rfl, rfl⟩
  have lost := restored.trans ((State.syncLost_eff _).serviceKept rfl)
  have restarted := lost.trans ((State.restartTimebases_eff _).serviceKept rfl)
  exact restarted.trans ((State.freshPass_eff _).serviceKept rfl)

theorem State.runState_serviceKept (s : State) : ServiceKept s s.runState := by
  have begun : ServiceKept s (s.modDps (fun d => { d with
      state := .run, target := .run, request := none, blocked := 0, latch := [], latchOvf := false, heldAcc := []
      assist := decide (d.coreMv < 750), writeAssist := decide (d.coreMv < 720) })) := ⟨rfl, rfl, rfl, rfl⟩
  have read := begun.trans ((State.setEff_eff _ 0x2100 1 [0]).serviceKept rfl)
  exact read.trans ((State.dpsEvent_eff _ 2).serviceKept rfl)

theorem State.runState_state (s : State) : s.runState.dps.state = .run := State.dpsEvent_state ..

theorem State.runReplay_serviceKept (s : State) (latch : List Wake) (held : List Nat) : ServiceKept s (s.runReplay latch held) := by
  have woken : ServiceKept s (latch.foldl State.replayWake s) :=
    .foldl (fun s w => (s.replayWake_steady w).serviceKept (s.replayWake_eff w) rfl) latch s
  have issued := woken.trans (.foldl (fun s k => (s.heldRun_steady k).serviceKept (s.heldRun_eff k) rfl) held _)
  exact .ite (issued.trans ((State.applyLinkEnables_eff _).serviceKept rfl)) issued

theorem State.runReplay_state (s : State) (latch : List Wake) (held : List Nat) : (s.runReplay latch held).dps.state = s.dps.state := by
  have woken : Eff 16787439 s (latch.foldl State.replayWake s) := .foldl State.replayWake_eff (.refl ..)
  have issued : Eff 159393791 _ (held.foldl State.heldRun (latch.foldl State.replayWake s)) := .foldl State.heldRun_eff (.refl ..)
  unfold State.runReplay
  dsimp only
  split
  · rw [(State.applyLinkEnables_eff _).dps rfl, issued.dps rfl, woken.dps rfl]
  · rw [issued.dps rfl, woken.dps rfl]

theorem State.enterRun_serviceKept (s : State) : ServiceKept s s.enterRun := by
  have restored : ServiceKept s (if s.dps.fromState = .dormant then s.dormantTimes else s) := .ite s.dormantTimes_serviceKept (.refl s)
  rw [State.enterRun_eq]
  exact (restored.trans (State.runState_serviceKept _)).trans (State.runReplay_serviceKept ..)

theorem State.enterRun_state (s : State) : s.enterRun.dps.state = .run := by
  rw [State.enterRun_eq, State.runReplay_state, State.runState_state]

/-! ### The entry to normal service (02 R78; 17 R433) -/

/-- The voted values copied, and the phase begun: what the collector and the units then act on. -/
def State.serviceBegun (s : State) : State :=
  (s.copyVotes.modRegs (fun r => { r with inService := true, voterNote := false })).modBoot
    (fun b => { b with phase := .service, inReset := false, started := false })

/-- What the entry does from the collector's records to the quorum; `note` is whether a Note of the voters is owed. -/
def State.unitsServed (s : State) (note : Bool) : State :=
  let s := allGals.foldl State.thaw s.takeRecs
  let s := if note then s.note 0x13 0 else s
  let s := s.modMem (fun m => { m with running := true, passFrom := s.clk.usCount })
  let s := allPorts.foldl (fun s p => if (s.getProt p).sw = .on then s.portGood p else s) s
  let s := if s.clk.refEth then s.pllStart .upstream else s
  s.settleQuorum

theorem State.enterService_eq {s : State} (h : s.inService = false) (hb : s.boot.started = true) :
    s.enterService = (s.serviceBegun.unitsServed (s.regs.voterNote || s.copyVotes.regs.voterNote)).enterRun := by
  unfold State.enterService State.serviceBegun State.unitsServed
  rw [if_neg (by simp [h, hb])]

theorem State.unitsServed_serviceKept (s : State) (note : Bool) : ServiceKept s (s.unitsServed note) := by
  have powered : ∀ (s : State) (p : Nat), ServiceKept s (if (s.getProt p).sw = .on then s.portGood p else s) := fun s p =>
    .ite ((s.portGood_eff p).serviceKept rfl) (.refl s)
  unfold State.unitsServed
  dsimp only
  refine .trans ?_ (State.settleQuorum_serviceKept _)
  refine .trans ?_ (.ite ((State.pllStart_eff ..).serviceKept rfl) (.refl _))
  refine .trans ?_ (.foldl powered _ _)
  refine .trans ?_ ((State.modMem_eff ..).serviceKept rfl)
  refine .trans ?_ (.ite ((State.note_eff ..).serviceKept rfl) (.refl _))
  exact s.takeRecs_serviceKept.trans (.foldl (fun s g => (s.thaw_eff g).serviceKept rfl) _ _)

/-- The debug lock is taken from its voted value; what is copied for the ports leaves it. -/
theorem State.copyVotes_lock (s : State) : s.copyVotes.dbg.lock = (s.voted 0).toNat % 4 := by
  have copied : ∀ s p, Eff 7 s ((((s : State).modUsb p (fun u => { u with
      vbusAllowedReg := bitOf (s.voted p).toNat 0, loanOwner := bitsOf (s.voted p).toNat 8 7 })).modPwr p (fun x => { x with
      vconnAllowed := bitOf (s.voted p).toNat 1 })).modProt p (fun x => { x with sentryFast := bitsOf (s.voted p).toNat 16 16 })) :=
    fun s p => .by (State.modProt_eff ..) (by decide) (.by (State.modPwr_eff ..) (by decide) (.by (State.modUsb_eff ..) (by decide) (.refl _ _)))
  have ports := Eff.foldl copied (.refl 7 (((0 :: allPorts).foldl State.vote s).modDbg (fun d => { d with
    lock := (((0 :: allPorts).foldl State.vote s).voted 0).toNat % 4 }))) (l := allPorts)
  unfold State.copyVotes
  rw [ports.dbg rfl, State.modDbg_dbg, State.voted_votes]

end Sys2Proof.Machine

namespace Sys2Proof
open Machine

section
variable {s : State} (hs : s.inService = true) (hc : s.coreServes = true) (hb : s.boot.phase = .service)
include hs hc hb

/-- A voted view in normal service: a read answers 0, whatever its parity. -/
theorem rvAccess_readsZero {a : Nat} (h : (viewAt a).isSome = true) :
    Gives (.rvAccess a none) s (fun t => Sent.reg a 0 ∈ t.sent ∧ t.regs.rvInService = true) := by
  obtain ⟨k, hk⟩ := Option.isSome_iff_exists.mp h
  refine Gives.intro (t := s.viewAccess a none) rfl ?_
  rw [State.viewAccess_read hk]
  unfold State.wordRead
  rw [State.boardRead_served hc hb, State.regRead_view hk, State.rvRead_service ((s.inService_parityCheck a).trans hs)]
  exact ⟨State.mem_sent_emit .., rfl⟩

theorem rvAccess_writeIgnored {a : Nat} (h : (viewAt a).isSome = true) (v : Word) :
    Gives (.rvAccess a (some v)) s (fun t => t = { s with regs := { s.regs with rvInService := true } }) := by
  obtain ⟨k, hk⟩ := Option.isSome_iff_exists.mp h
  refine Gives.intro (t := s.viewAccess a (some v)) rfl ?_
  rw [State.viewAccess_write hk, State.boardWrite_served hc hb, State.regWrite_view hk, State.rvWrite_service hs]
  rfl

end

/-- Settles O58: both accesses meet the view before anything that waits at its address. -/
theorem votedViewsInService : Obligations.VotedViewsInService := by
  unfold Obligations.VotedViewsInService
  exact ⟨fun _ _ h hs hc hb => rvAccess_readsZero hs hc hb h, fun _ _ v h hs hc hb => rvAccess_writeIgnored hs hc hb h v⟩

section
variable {s : State} {p : Nat} (hp : portOk p = true) (hs : s.inService = false) (hb : s.boot.phase = .recovery)
include hp hs hb

theorem rvAccess_storesCopies (v : Word) : Gives (.rvAccess (0xFFF00 + p * 4096) (some v)) s (fun t =>
    SMap.get 0 t.regs.vote0 p = (v &&& viewMask p) ∧ SMap.get 0 t.regs.vote1 p = (v &&& viewMask p) ∧
    SMap.get 0 t.regs.vote2 p = (v &&& viewMask p)) := by
  refine Gives.intro (t := s.viewAccess (0xFFF00 + p * 4096) (some v)) rfl ?_
  rw [State.viewAccess_write (viewAt_portBlock hp), State.boardWrite_recovery hb, State.regWrite_view (viewAt_portBlock hp),
    State.rvWrite_recovery hs]
  exact s.modVote_copies p _

theorem rvAccess_readsVoted {v : Word} (hi : s.flt.injArmed = false) (h0 : SMap.get 0 s.regs.vote0 p = v)
    (h1 : SMap.get 0 s.regs.vote1 p = v) (h2 : SMap.get 0 s.regs.vote2 p = v) :
    Gives (.rvAccess (0xFFF00 + p * 4096) none) s (fun t => Sent.reg (0xFFF00 + p * 4096) v ∈ t.sent ∧ t.regs.vote0 = s.regs.vote0) := by
  have hr : s.rvRead p = (s, v.toNat) := by
    unfold State.rvRead
    rw [if_neg (by simp [hs]), State.injectVote_unarmed hi, State.vote_agree h0 h1 h2]
    dsimp only
    rw [State.voted_agree h0 h1 h2]
  refine Gives.intro (t := s.viewAccess (0xFFF00 + p * 4096) none) rfl ?_
  rw [State.viewAccess_read (viewAt_portBlock hp)]
  unfold State.wordRead
  rw [State.boardRead_recovery hb, State.regRead_view (viewAt_portBlock hp), State.parityCheck_recovery hs, hr, BitVec.ofNat_toNat,
    BitVec.setWidth_eq]
  exact ⟨State.mem_sent_emit .., rfl⟩

end

theorem normalServiceEntry_runs {s : State} (hs : s.inService = false) (hb : s.boot.started = true) :
    Gives .normalServiceEntry s (fun t => t.regs.inService = true ∧ t.boot.phase = .service ∧ t.dps.state = .run ∧
      t.boot.started = false ∧ t.dbg.lock = (s.voted 0).toNat % 4) := by
  have kept : ServiceKept s.serviceBegun s.enterService.settle := by
    rw [State.enterService_eq hs hb]
    exact ((State.unitsServed_serviceKept ..).trans (State.enterRun_serviceKept _)).trans (State.settle_serviceKept _)
  have run : s.enterService.settle.dps.state = .run := by
    rw [State.settle_state, State.enterService_eq hs hb, State.enterRun_state]
  exact Gives.intro (t := s.enterService.settle) rfl
    ⟨kept.inService, kept.phase, run, kept.started, kept.lock.trans s.copyVotes_lock⟩

/-- Settles O35: the views in normal service and in recovery, and the entry to normal service by what its steps keep. -/
theorem votedViews : Obligations.VotedViews := by
  unfold Obligations.VotedViews
  refine ⟨fun s p hp hs hc hb _ _ => ?_, fun s p v hp hs hc hb => ?_, fun s p v hp hs hb => rvAccess_storesCopies hp hs hb v,
    fun s p v hp hs hb hi h0 h1 h2 => rvAccess_readsVoted hp hs hb hi h0 h1 h2, fun s hs hb => normalServiceEntry_runs hs hb⟩
  · exact rvAccess_readsZero hs hc hb (by rw [viewAt_portBlock hp]; rfl)
  · obtain ⟨t, he, rfl⟩ := rvAccess_writeIgnored hs hc hb (by rw [viewAt_portBlock hp]; rfl) v
    exact Gives.intro he rfl

end Sys2Proof
end

section
/-!
PROOFS. The record paths of the board: the mailbox of the SPI target and the queue of the service port (02 R61 to R66).
-/
namespace Sys2Proof.Machine

/-! ### What the pass after a command and a closed house path leave of the board -/

@[simp] theorem State.settle_board (s : State) : s.settle.board = s.board := s.settle_eff.board (by decide)

@[simp] theorem State.housePathOff_board (s : State) (path : Path) : (s.housePathOff path).board = s.board :=
  (s.housePathOff_eff path).board (by decide)

/-! ### A record performed (02 R64, R65) -/

/-- A record that no lock server has to answer: its response is put as it is. -/
theorem State.recordOf_answered {s u : State} {path : Path} {d x : Bytes} (h : s.doRecord path d = some (u, x))
    (hw : s.lockWaits u = false) (put : State → Bool → Bytes → State) : s.recordOf path d put = (put u false x).housePathOff path := by
  unfold State.recordOf
  simp [h, hw]

/-! ### The SPI target, while it is served (02 R61, R63) -/

section
variable {s : State} (h : s.spiServes = true)
include h

theorem State.spiRequest_idle (hr : s.board.rspReady = false) (hq : s.board.reqBusy = false) (d : Bytes) :
    s.spiRequest d = s.recordOf .spi d (fun s waits d => s.modBoard (fun b => { b with rsp := d, rspReady := !waits, reqBusy := waits })) := by
  unfold State.spiRequest
  rw [if_neg (by simp [h]), if_neg (by simp [hr, hq])]

theorem State.spiRequest_overrun (hr : s.board.rspReady = true) (d : Bytes) :
    s.spiRequest d = s.modBoard (fun b => { b with overrun := true }) := by
  unfold State.spiRequest
  rw [if_neg (by simp [h]), if_pos (by simp [hr])]

/-- A response transaction that reads the whole record. -/
theorem State.spiResponse_whole (hr : s.board.rspReady = true) {n : Nat} (hn : s.board.rsp.length ≤ n) :
    s.spiResponse n = (s.emit (.spi ((padTo n s.board.rsp).take n))).modBoard (fun b => { b with rspReady := false }) := by
  unfold State.spiResponse
  rw [if_neg (by simp [h]), if_pos hr]
  exact if_pos hn

end

/-! ### The service port (02 R66) -/

section
variable {s : State} (h : s.svc.data = true)
include h

theorem State.svcAsk_room (hl : (s.board.svcQueue.filter (·.1)).length < 8) (d : Bytes) : s.svcAsk d =
    s.recordOf .svc d (fun s _ d => s.modBoard (fun b => { b with svcQueue := b.svcQueue ++ [(true, d)] })) := by
  unfold State.svcAsk
  rw [if_neg (by simp [h])]
  exact if_neg (Nat.not_le_of_lt hl)

theorem State.svcAsk_full (hs : s.spiServes = true) (hl : 8 ≤ (s.board.svcQueue.filter (·.1)).length) (d : Bytes) : s.svcAsk d =
    s.modBoard (fun b => { b with svcQueue := b.svcQueue ++ [(false, respRec 1 (leNat (slice d 1 1)) (leNat (slice d 2 2))
      (leNat (slice d 4 1)) (b2n (s.pendOf (leNat (slice d 2 2)) (leNat (slice d 4 1))).isSome) 0x08000021 [])] }) := by
  unfold State.svcAsk
  rw [if_neg (by simp [h])]
  exact (if_pos hl).trans (if_pos hs)

end

theorem State.svcRead_ready {s : State} {e : Bool × Bytes} {l : List (Bool × Bytes)} (h : s.board.svcQueue = e :: l)
    (he : slice e.2 0 1 ≠ [0xFF]) : s.svcRead = (s.emit (.svc e.2)).modBoard (fun b => { b with svcQueue := l }) := by
  unfold State.svcRead
  rw [h]
  exact if_neg he

end Sys2Proof.Machine

namespace Sys2Proof
open Machine

theorem Quiet.modBoard {s : State} (h : Quiet s) (f : Board → Board) : Quiet (s.modBoard f) :=
  Eff.of_quiet h (s.modBoard_eff f) (by decide)

section
variable {s : State} (h : s.spiServes = true)
include h

theorem spiCatalogueRequest_ready {d x : Bytes} {u : State} (hr : s.board.rspReady = false) (hq : s.board.reqBusy = false)
    (hd : s.doRecord .spi d = some (u, x)) (hw : s.lockWaits u = false) :
    Gives (.spiCatalogueRequest d) s (fun t => t.board.rsp = x ∧ t.board.rspReady = true ∧ t.board.reqBusy = false) := by
  refine Gives.intro (t := (s.spiRequest d).settle) rfl ?_
  rw [State.settle_board, State.spiRequest_idle h hr hq, State.recordOf_answered hd hw, State.housePathOff_board, State.modBoard_board]
  exact ⟨rfl, rfl, rfl⟩

theorem spiCatalogueRequest_overruns (q : Quiet s) (hr : s.board.rspReady = true) (d : Bytes) :
    Gives (.spiCatalogueRequest d) s (fun t => t.board = { s.board with overrun := true } ∧ t.cat = s.cat) := by
  refine Gives.intro (t := (s.spiRequest d).settle) rfl ?_
  rw [State.spiRequest_overrun h hr, (State.settle_eff_quiet (q.modBoard _)).cat (by decide), State.settle_board]
  exact ⟨rfl, rfl⟩

theorem spiCatalogueResponse_whole (hr : s.board.rspReady = true) {n : Nat} (hn : s.board.rsp.length ≤ n) :
    Gives (.spiCatalogueResponse n) s (fun t => Sent.spi ((padTo n s.board.rsp).take n) ∈ t.sent ∧ t.board.rspReady = false) := by
  refine Gives.intro (t := s.spiResponse n) rfl ?_
  rw [State.spiResponse_whole h hr hn]
  exact ⟨State.mem_sent_emit .., rfl⟩

theorem spiStatus_answers (n : Nat) :
    Gives (.spiStatus n) s (fun t => Sent.spi (List.replicate n (BitVec.ofNat 8 s.board.stat)) ∈ t.sent) := by
  refine Gives.intro (t := s.spiStatus n) rfl ?_
  unfold State.spiStatus
  rw [if_pos h]
  exact State.mem_sent_emit ..

theorem spiUnknownOpcode_badOp (op : Nat) : Gives (.spiUnknownOpcode op) s (fun t => t.board = { s.board with badOp := true }) := by
  refine Gives.intro (t := s.spiUnknown) rfl ?_
  unfold State.spiUnknown
  rw [if_pos h, State.modBoard_board]

end

section
variable {s : State} (h : s.svc.data = true)
include h

theorem servicePortRequest_queued {d x : Bytes} {u : State} (hl : (s.board.svcQueue.filter (·.1)).length < 8)
    (hd : s.doRecord .svc d = some (u, x)) (hw : s.lockWaits u = false) :
    Gives (.servicePortRequest d) s (fun t => t.board.svcQueue = u.board.svcQueue ++ [(true, x)]) := by
  refine Gives.intro (t := (s.svcAsk d).settle) rfl ?_
  rw [State.settle_board, State.svcAsk_room h hl, State.recordOf_answered hd hw, State.housePathOff_board, State.modBoard_board]

theorem servicePortRequest_refused (hs : s.spiServes = true) (hl : 8 ≤ (s.board.svcQueue.filter (·.1)).length) (d : Bytes) :
    Gives (.servicePortRequest d) s (fun t => t.board.svcQueue = s.board.svcQueue ++ [(false,
      respRec 1 (leNat (slice d 1 1)) (leNat (slice d 2 2)) (leNat (slice d 4 1))
        (b2n (s.pendOf (leNat (slice d 2 2)) (leNat (slice d 4 1))).isSome) 0x08000021 [])]) := by
  refine Gives.intro (t := (s.svcAsk d).settle) rfl ?_
  rw [State.settle_board, State.svcAsk_full h hs hl, State.modBoard_board]

end

theorem servicePortResponseRead_oldest {s : State} {e : Bool × Bytes} {l : List (Bool × Bytes)} (h : s.board.svcQueue = e :: l)
    (he : slice e.2 0 1 ≠ [0xFF]) :
    Gives .servicePortResponseRead s (fun t => t.board.svcQueue = l ∧ Sent.svc e.2 ∈ t.sent) := by
  refine Gives.intro (t := s.svcRead) rfl ?_
  rw [State.svcRead_ready h he]
  exact ⟨rfl, State.mem_sent_emit ..⟩

/-- Settles O30: the mailbox by what it holds, the queue by its length, and the pass after each leaves the board. -/
theorem recordPaths : Obligations.RecordPaths := by
  unfold Obligations.RecordPaths
  exact ⟨fun _ _ _ _ h hr hq hd hw => spiCatalogueRequest_ready h hr hq hd hw,
    fun _ d q h hr => spiCatalogueRequest_overruns h q hr d,
    fun _ _ h hr hn => spiCatalogueResponse_whole h hr hn,
    fun _ n h => spiStatus_answers h n,
    fun _ n h => spiUnknownOpcode_badOp h n,
    fun _ _ _ _ h hl hd hw => servicePortRequest_queued h hl hd hw,
    fun _ d h hs hl => servicePortRequest_refused h hs hl d,
    fun _ _ _ h he => servicePortResponseRead_oldest h he⟩

end Sys2Proof
end

section
/-!
PROOFS. NMT, the heartbeat, the TPDOs and the timeout of a held transfer (02 R53 to R59, R489).
-/
namespace Sys2Proof.Machine

/-! ### The state of a TPDO (02 R58, R59) -/

@[simp] theorem State.tpdoOf_setTpdo (s : State) (n : Nat) (v : Tpdo) : (s.setTpdo n v).tpdoOf n = v := SMap.get_put_same ..

@[simp] theorem State.tpdoOn_setTpdo (s : State) (n : Nat) (v : Tpdo) (k : Nat) : (s.setTpdo n v).tpdoOn k = s.tpdoOn k := rfl

/-- The frame of TPDO `n` with its mapped values of this moment. -/
def State.tpdoFrame (s : State) (n : Nat) : Sent :=
  .can (s.cfg (0x17FF + n) 1 % 2048) (padTo (canLen (s.tpdoData n).length) (s.tpdoData n))

/-- No value that a read of an object returns is part of a TPDO's own state. -/
@[simp] theorem State.tpdoFrame_setTpdo (s : State) (n : Nat) (v : Tpdo) (k : Nat) : (s.setTpdo n v).tpdoFrame k = s.tpdoFrame k := rfl

/-! ### What the sending of a TPDO does -/

section
variable (s : State) (n : Nat)

theorem State.tpdoFrame_mem_tpdoOut : s.tpdoFrame n ∈ (s.tpdoOut n).sent := State.mem_sent_emit ..

theorem State.tpdoOf_tpdoOut : (s.tpdoOut n).tpdoOf n =
    { s.tpdoOf n with held := false, inhibit := decide (s.cfg (0x17FF + n) 3 ≠ 0) } := SMap.get_put_same ..

variable {s n} (h : s.tpdoOn n = true)
include h

theorem State.tpdoDue_free (hi : (s.tpdoOf n).inhibit = false) : s.tpdoDue n = s.tpdoOut n := by
  unfold State.tpdoDue
  rw [if_neg (by simp [h]), if_neg (by simp [hi])]

theorem State.tpdoDue_inhibited (hi : (s.tpdoOf n).inhibit = true) : s.tpdoDue n = s.setTpdo n { s.tpdoOf n with held := true } := by
  unfold State.tpdoDue
  rw [if_neg (by simp [h]), if_pos hi]

end

theorem State.tpdoTimer_due {s : State} {n : Nat} (h : s.cfg (0x17FF + n) 5 ≠ 0) : s.tpdoTimer n = s.tpdoDue n := if_neg h

/-- The comparison finds a change. -/
theorem State.tpdoCompare_changed {s : State} {n : Nat} (h : (s.tpdoOf n).last ≠ s.tpdoData n) (he : (s.tpdoOf n).last ≠ [])
    (ht : s.cfg (0x17FF + n) 2 = 0xFE) : s.tpdoCompare n = (s.setTpdo n { s.tpdoOf n with last := s.tpdoData n }).tpdoDue n :=
  if_pos ⟨h, he, ht⟩

theorem State.tpdoFree_held {s : State} {n : Nat} (h : (s.tpdoOf n).held = true) (ho : s.tpdoOn n = true) :
    s.tpdoFree n = (s.setTpdo n { s.tpdoOf n with inhibit := false, held := false }).tpdoOut n :=
  if_pos ⟨h, ho⟩

/-! ### NMT, the heartbeat and held transfers -/

/-- Start, stop and enter Pre-operational, to this node or to all. -/
theorem State.nmt_served {s : State} (hc : s.coreServes = true) {c n : Nat} (hn : n = 0 ∨ n = s.nodeId) (h : c = 1 ∨ c = 2 ∨ c = 128) :
    s.nmt c n = s.modCan (fun x => { x with nmt := if c = 1 then .operational else if c = 2 then .stopped else .preop }) := by
  unfold State.nmt
  rw [if_neg (by simp [hc]), if_neg (by omega)]
  obtain rfl | rfl | rfl := h <;> rfl

theorem State.heartbeat_served {s : State} (hc : s.coreServes = true) (h : s.cfg 0x1017 0 ≠ 0) :
    s.heartbeat = s.emit (.can (0x700 + s.nodeId) (natLE 1 (nmtCode s.can.nmt))) := if_pos ⟨hc, h⟩

theorem State.heldLate_found {s : State} {path : Path} {h : HeldXfer} (hf : s.cat.held.find? (fun h => decide (h.path = path)) = some h) :
    s.heldLate path = (s.dropHeld path h.index h.sub).emit (.answer path h.index h.sub 0x05040000) := by
  unfold State.heldLate
  rw [hf]

/-- A dropped transfer is held no more. -/
theorem State.not_mem_dropHeld (s : State) (h : HeldXfer) : h ∉ (s.dropHeld h.path h.index h.sub).cat.held := by
  simp [State.dropHeld]

/-- A command of a TPDO that there is. -/
theorem onUnit_tpdo {n : Nat} (h1 : 1 ≤ n) (h4 : n ≤ 4) (s : State) :
    onUnit (decide (1 ≤ n) && decide (n ≤ 4)) "TPDO" n s = .next s := by
  unfold onUnit
  simp [h1, h4]

end Sys2Proof.Machine

namespace Sys2Proof
open Machine

section
variable {s : State} {n : Nat} (h1 : 1 ≤ n) (h4 : n ≤ 4) (ho : s.tpdoOn n = true)
include h1 h4 ho

theorem tpdoEventTimerExpiry_sends (ht : s.cfg (0x17FF + n) 5 ≠ 0) (hi : (s.tpdoOf n).inhibit = false) :
    Gives (.tpdoEventTimerExpiry n) s (fun t => s.tpdoFrame n ∈ t.sent ∧ (t.tpdoOf n).inhibit = decide (s.cfg (0x17FF + n) 3 ≠ 0)) := by
  refine Gives.intro (onUnit_tpdo h1 h4 (s.tpdoTimer n)) ?_
  rw [State.tpdoTimer_due ht, State.tpdoDue_free ho hi, State.tpdoOf_tpdoOut]
  exact ⟨State.tpdoFrame_mem_tpdoOut s n, rfl⟩

theorem tpdoEventTimerExpiry_holds (ht : s.cfg (0x17FF + n) 5 ≠ 0) (hi : (s.tpdoOf n).inhibit = true) :
    Gives (.tpdoEventTimerExpiry n) s (fun t => (t.tpdoOf n).held = true ∧ t.sent = s.sent) := by
  refine Gives.intro (onUnit_tpdo h1 h4 (s.tpdoTimer n)) ?_
  rw [State.tpdoTimer_due ht, State.tpdoDue_inhibited ho hi, State.tpdoOf_setTpdo]
  exact ⟨rfl, rfl⟩

theorem tpdoChangeCompare_sends (ht : s.cfg (0x17FF + n) 2 = 0xFE) (hi : (s.tpdoOf n).inhibit = false) (he : (s.tpdoOf n).last ≠ [])
    (hd : (s.tpdoOf n).last ≠ s.tpdoData n) :
    Gives (.tpdoChangeCompare n) s (fun t => (t.tpdoOf n).last = s.tpdoData n ∧ s.tpdoFrame n ∈ t.sent) := by
  have hfree : ((s.setTpdo n { s.tpdoOf n with last := s.tpdoData n }).tpdoOf n).inhibit = false := by rw [State.tpdoOf_setTpdo, hi]
  refine Gives.intro (onUnit_tpdo h1 h4 (s.tpdoCompare n)) ?_
  rw [State.tpdoCompare_changed hd he ht, State.tpdoDue_free ((State.tpdoOn_setTpdo ..).trans ho) hfree, State.tpdoOf_tpdoOut, State.tpdoOf_setTpdo]
  exact ⟨rfl, by simpa using State.tpdoFrame_mem_tpdoOut (s.setTpdo n _) n⟩

theorem tpdoInhibitTimeEnd_sends (hh : (s.tpdoOf n).held = true) :
    Gives (.tpdoInhibitTimeEnd n) s (fun t => (t.tpdoOf n).held = false ∧ s.tpdoFrame n ∈ t.sent) := by
  refine Gives.intro (onUnit_tpdo h1 h4 (s.tpdoFree n)) ?_
  rw [State.tpdoFree_held hh ho, State.tpdoOf_tpdoOut]
  exact ⟨rfl, by simpa using State.tpdoFrame_mem_tpdoOut (s.setTpdo n _) n⟩

end

theorem nmtCommand_enters {s : State} {c n : Nat} (hc : s.coreServes = true) (hn : n = 0 ∨ n = s.nodeId) (h : c = 1 ∨ c = 2 ∨ c = 128) :
    Gives (.nmtCommand c n) s (fun t => t.can.nmt = if c = 1 then .operational else if c = 2 then .stopped else .preop) := by
  refine Gives.intro (t := s.nmt c n) rfl ?_
  rw [State.nmt_served hc hn h, State.modCan_can]

theorem canHeartbeat_sent {s : State} (hc : s.coreServes = true) (h : s.cfg 0x1017 0 ≠ 0) :
    Gives .canHeartbeat s (fun t => Sent.can (0x700 + s.nodeId) (natLE 1 (nmtCode s.can.nmt)) ∈ t.sent) := by
  refine Gives.intro (t := s.heartbeat) rfl ?_
  rw [State.heartbeat_served hc h]
  exact State.mem_sent_emit ..

theorem heldTransferTimeout_drops {s : State} {path : Path} {h : HeldXfer}
    (hf : s.cat.held.find? (fun h => decide (h.path = path)) = some h) :
    Gives (.heldTransferTimeout path) s (fun t => h ∉ t.cat.held ∧ t.cat.eff = s.cat.eff ∧ t.cat.pend = s.cat.pend ∧
      Sent.answer path h.index h.sub 0x05040000 ∈ t.sent) := by
  obtain rfl : h.path = path := by simpa using List.find?_some hf
  refine Gives.intro (t := s.heldLate h.path) rfl ?_
  rw [State.heldLate_found hf]
  exact ⟨s.not_mem_dropHeld h, rfl, rfl, State.mem_sent_emit ..⟩

/-- Settles O29: each service by its one case, a TPDO by whether its inhibit time runs. -/
theorem canServices : Obligations.CanServices := by
  unfold Obligations.CanServices
  exact ⟨fun _ _ _ hc hn h => nmtCommand_enters hc hn h, fun _ hc h => canHeartbeat_sent hc h,
    fun _ _ h1 h4 ho ht hi => tpdoEventTimerExpiry_sends h1 h4 ho ht hi,
    fun _ _ h1 h4 ho ht hi => tpdoEventTimerExpiry_holds h1 h4 ho ht hi,
    fun _ _ h1 h4 ho ht hi he hd => tpdoChangeCompare_sends h1 h4 ho ht hi he hd,
    fun _ _ h1 h4 ho hh => tpdoInhibitTimeEnd_sends h1 h4 ho hh, fun _ _ _ hf => heldTransferTimeout_drops hf⟩

end Sys2Proof
end

section
/-!
PROOFS. The lock requests that wait are no part of what upstream links do as they are switched on and off, nor of what an immediate write
does beside taking effect (03 R103; 04 R114 to R117).
-/
namespace Sys2Proof.Machine

/-! ### Lock requests that wait, while links are taken up and down (03 R103; 04 R114 to R117) -/

/-- The lock requests that wait are the same. -/
structure ReqsKept (s t : State) : Prop where
  lockReqs : t.coll.lockReqs = s.coll.lockReqs

theorem ReqsKept.refl (s : State) : ReqsKept s s := ⟨rfl⟩

theorem Eff.reqsKept {m : Nat} {s t : State} (e : Eff m s t) (hm : m.testBit 17 = false) : ReqsKept s t := by
  exact ⟨by rw [e.coll hm]⟩

theorem ReqsKept.trans {s t u : State} (h : ReqsKept s t) (k : ReqsKept t u) : ReqsKept s u :=
  ⟨k.lockReqs.trans h.lockReqs⟩

theorem ReqsKept.foldl {α : Type} {f : State → α → State} (h : ∀ s x, ReqsKept s (f s x)) (l : List α) (s : State) :
    ReqsKept s (l.foldl f s) := by
  induction l generalizing s with
  | nil => exact .refl s
  | cons x l ih => exact (h s x).trans (ih _)

theorem ReqsKept.ite {s a b : State} {c : Prop} [Decidable c] (h : ReqsKept s a) (k : ReqsKept s b) : ReqsKept s (if c then a else b) := by
  split <;> assumption

theorem State.collEvent_reqsKept (s : State) {f : Coll → Coll} (h : (f s.coll).lockReqs = s.coll.lockReqs) : ReqsKept s (s.collEvent f) := by
  have noted : ReqsKept s (s.modColl f) := ⟨h⟩
  exact .ite noted (noted.trans ((State.houseEvent_eff ..).reqsKept rfl))

theorem State.lockTell_reqsKept (s : State) (n : Nat) : ReqsKept s (s.lockTell n) := by
  have sent : ∀ (s : State) (m : Nat), ReqsKept s (s.nqSend m 5 (natBE 1 0 ++ s.lockBody n)) := fun _ _ => ⟨rfl⟩
  exact .foldl sent _ s

theorem State.freeLocks_reqsKept (s : State) (n : Nat) (broken : Bool) : ReqsKept s (s.freeLocks n broken) := by
  have freed : ∀ (s : State) (l : Nat), ReqsKept s (s.setLock l
    (if broken then { s.lock l with state := .broken } else { s.lock l with state := .free, afterBreak := false })) := fun _ _ => ⟨rfl⟩
  unfold State.freeLocks
  dsimp only
  refine .ite (.trans ?_ (State.collEvent_reqsKept _ rfl)) ?_ <;>
    exact ((ReqsKept.foldl freed _ s).trans (.foldl (fun s l => s.lockTell_reqsKept l) _ _)).trans ⟨rfl⟩

theorem State.endSession_reqsKept (s : State) (n det reason : Nat) (loss broken : Bool) :
    ReqsKept s (s.endSession n det reason loss broken) := by
  unfold State.endSession
  dsimp only
  refine .trans ?_ ((State.settleWaits_eff _).reqsKept rfl)
  refine .trans ?_ (State.freeLocks_reqsKept ..)
  refine .trans ?_ ((State.dropFrames_eff ..).reqsKept rfl)
  refine .trans ?_ (.foldl (fun s k => (s.endCause_eff det k).reqsKept rfl) _ _)
  exact .trans (t := s.modSess n _) ⟨rfl⟩ (.foldl (fun _ _ => (State.toLedger_eff ..).reqsKept rfl) _ _)

theorem State.wrapClose_reqsKept (s : State) (n : Nat) : ReqsKept s (s.wrapClose n) := s.endSession_reqsKept n 0x32 0x02 false false

theorem State.resend_reqsKept (s : State) (n q : Nat) : ReqsKept s (s.resend n q) := by
  unfold State.resend
  split
  · refine .ite (s.wrapClose_reqsKept n) ?_
    dsimp only
    refine .trans ?_ ((State.modTenants_eff _ _ _).reqsKept rfl)
    refine .trans ?_ ((State.modSess_eff _ _ _).reqsKept rfl)
    exact (State.sendFrame_eff ..).reqsKept rfl
  · exact ⟨rfl⟩

theorem State.leaveSpray_reqsKept (s : State) (m : Nat) : ReqsKept s (s.leaveSpray m) := by
  have moved : ReqsKept s (((s.link m).queue.map (·.2)).foldl (fun s f => s.queueFrame f)
      ((s.setLink m { s.link m with queue := [] }).movePtp)) :=
    .trans (.trans (t := s.setLink m { s.link m with queue := [] }) ⟨rfl⟩ ((State.movePtp_eff _).reqsKept rfl))
      (.foldl (fun _ _ => (State.queueFrame_eff ..).reqsKept rfl) _ _)
  unfold State.leaveSpray
  dsimp only
  refine moved.trans (.ite ?_ ?_)
  · exact ((((State.upEvent_eff ..).reqsKept rfl).trans ((State.causeOn_eff ..).reqsKept rfl)).trans
      ((State.fault_eff ..).reqsKept rfl)).trans ((State.holdSessions_eff _).reqsKept rfl)
  · exact .foldl (fun _ _ => .foldl (fun _ _ => State.resend_reqsKept ..) _ _) _ _

theorem State.applyLinkEnables_reqsKept (s : State) : ReqsKept s s.applyLinkEnables := by
  refine .foldl (fun s m => ?_) _ s
  split
  · exact .ite ((State.train_eff ..).reqsKept rfl) (.refl s)
  · exact ⟨rfl⟩
  · exact ⟨rfl⟩
  · exact .trans (t := s.setLink m _) ⟨rfl⟩ (State.leaveSpray_reqsKept ..)
  · exact ⟨rfl⟩

/-- What an immediate write does beside taking effect asks for no lock. -/
theorem State.afterI_reqsKept (s : State) (idx sub : Nat) : ReqsKept s (s.afterI idx sub) := by
  unfold State.afterI
  split
  · exact ⟨rfl⟩
  · exact ⟨rfl⟩
  · exact ⟨rfl⟩
  · exact s.applyLinkEnables_reqsKept
  · exact s.movePtp_eff.reqsKept rfl
  · exact .foldl (fun s p => (s.serve_eff p).reqsKept rfl) _ s
  · exact (s.setFast_eff _).reqsKept rfl
  · exact ⟨rfl⟩

end Sys2Proof.Machine
end

section
/-!
PROOFS. The SDO server: what an expedited download of an immediate object leaves, and the frames of the one transfer (02 R46, R55 to R57,
R488).
-/
namespace Sys2Proof.Machine

/-! ### Rows of the object tables, and keys of objects (02 R41) -/

theorem findRow_mem {idx sub : Nat} {l : List Obj} {o : Obj} (h : findRow idx sub l = some o) : o ∈ l ∧ sub ≤ o.subHi := by
  induction l with
  | nil => cases h
  | cons x l ih =>
    unfold findRow at h
    split at h
    · cases h
      exact ⟨List.mem_cons_self .., by omega⟩
    · exact ⟨List.mem_cons_of_mem _ (ih h).1, (ih h).2⟩

theorem objTable_subHi : objTable.all (fun o => decide (o.subHi < 256)) = true := by decide +kernel

/-- The subindex of an object is a byte. -/
theorem sub_lt_of_findRow {idx sub : Nat} {o : Obj} (h : findRow idx sub objTable = some o) : sub < 256 := by
  obtain ⟨hm, hs⟩ := findRow_mem h
  have := of_decide_eq_true (List.all_eq_true.mp objTable_subHi o hm)
  omega

theorem objKey_div {idx sub : Nat} (h : sub < 256) : objKey idx sub / 256 = idx := by unfold objKey; omega

theorem objKey_mod {idx sub : Nat} (h : sub < 256) : objKey idx sub % 256 = sub := by unfold objKey; omega

/-! ### Effective values (00 R10) -/

/-- An effective value rests on what is stored for the object, on the node-ID and on the base MAC address. -/
theorem State.cfgB_congr {s t : State} {idx sub : Nat}
    (h : SMap.get none t.cat.eff (objKey idx sub) = SMap.get none s.cat.eff (objKey idx sub))
    (hn : t.nodeId = s.nodeId) (hm : t.boot.mac = s.boot.mac) : t.cfgB idx sub = s.cfgB idx sub := by
  unfold State.cfgB
  rw [h, hn, hm]

theorem State.nodeId_congr {s t : State} (h : SMap.get none t.cat.eff (objKey 0x2010 1) = SMap.get none s.cat.eff (objKey 0x2010 1)) :
    t.nodeId = s.nodeId := by
  unfold State.nodeId
  rw [h]

theorem State.nodeId_cat {s t : State} (h : t.cat = s.cat) : t.nodeId = s.nodeId := State.nodeId_congr (by rw [h])

theorem State.cfgB_cat {s t : State} (h : t.cat = s.cat) (hm : t.boot.mac = s.boot.mac) (idx sub : Nat) : t.cfgB idx sub = s.cfgB idx sub :=
  State.cfgB_congr (by rw [h]) (State.nodeId_cat h) hm

/-- The node-ID is of class B. -/
theorem clsOf_nodeId : clsOf (objKey 0x2010 1 / 256) (objKey 0x2010 1 % 256) = some .b := by decide +kernel

theorem Steady.nodeId {s t : State} (h : Steady s t) : t.nodeId = s.nodeId :=
  State.nodeId_congr (h.effective _ (by rw [clsOf_nodeId]; decide) (by rw [clsOf_nodeId]; decide))

/-- The pass after a command leaves the effective value of an immediate object. -/
theorem State.cfgB_settle {idx sub : Nat} (hs : sub < 256) (h : clsOf idx sub = some .i) (s : State) :
    s.settle.cfgB idx sub = s.cfgB idx sub := by
  have hk : clsOf (objKey idx sub / 256) (objKey idx sub % 256) = some .i := by rw [objKey_div hs, objKey_mod hs, h]
  exact State.cfgB_congr (s.settle_steady.effective _ (by rw [hk]; decide) (by rw [hk]; decide)) s.settle_steady.nodeId
    s.settle_eff.fuses.mac

section
variable {s : State} {idx sub i j : Nat} (d : Bytes)

theorem State.eff_setEff_other (h : objKey i j ≠ objKey idx sub) :
    SMap.get none (s.setEff idx sub d).cat.eff (objKey i j) = SMap.get none s.cat.eff (objKey i j) :=
  SMap.get_put_other _ _ h

theorem State.nodeId_setEff (h : objKey 0x2010 1 ≠ objKey idx sub) : (s.setEff idx sub d).nodeId = s.nodeId :=
  State.nodeId_congr (State.eff_setEff_other d h)

theorem State.cfgB_setEff_other (h : objKey i j ≠ objKey idx sub) (hn : objKey 0x2010 1 ≠ objKey idx sub) :
    (s.setEff idx sub d).cfgB i j = s.cfgB i j :=
  State.cfgB_congr (State.eff_setEff_other d h) (State.nodeId_setEff d hn) rfl

/-- A stored value is the effective one, the default's among them. -/
theorem State.cfgB_setEff_same (hn : objKey 0x2010 1 ≠ objKey idx sub) : (s.setEff idx sub d).cfgB idx sub = d := by
  have stored : SMap.get none (s.setEff idx sub d).cat.eff (objKey idx sub) =
      if d = objDefault s.nodeId s.boot.mac idx sub then none else some d := SMap.get_put_same ..
  have hmac : (s.setEff idx sub d).boot.mac = s.boot.mac := rfl
  unfold State.cfgB
  rw [stored, State.nodeId_setEff d hn, hmac]
  by_cases h : d = objDefault s.nodeId s.boot.mac idx sub
  · rw [if_pos h]
    exact h.symm
  · rw [if_neg h]

end

/-! ### A whole value written to an immediate object (00 R10; 02 R46, R488) -/

/-- What a write of an immediate object stores and does beside. -/
def State.immediateWrite (s : State) (idx sub : Nat) (d : Bytes) : State := (s.setEff idx sub d).afterI idx sub

theorem State.immediateWrite_cat (s : State) (idx sub : Nat) (d : Bytes) : (s.immediateWrite idx sub d).cat = (s.setEff idx sub d).cat :=
  (State.afterI_eff ..).cat (by decide)

theorem State.immediateWrite_boot (s : State) (idx sub : Nat) (d : Bytes) : (s.immediateWrite idx sub d).boot = s.boot :=
  (State.afterI_eff ..).boot (by decide)

theorem State.lockWaits_immediateWrite (s : State) (idx sub : Nat) (d : Bytes) : s.lockWaits (s.immediateWrite idx sub d) = false := by
  have kept : (s.immediateWrite idx sub d).coll.lockReqs = s.coll.lockReqs := ((s.setEff idx sub d).afterI_reqsKept idx sub).lockReqs
  unfold State.lockWaits
  rw [kept]
  exact decide_eq_false (Nat.lt_irrefl _)

end Sys2Proof.Machine

namespace Sys2Proof
open Machine

section
variable {s : State} {path : Path} {idx sub : Nat} {d : Bytes} {o : Obj} (p : Plain s path idx sub d o) (hc : o.cls = some .i)
include p hc

theorem Plain.clsOf : clsOf idx sub = some .i := by
  unfold Machine.clsOf
  rw [p.row, Option.bind_some, hc]

theorem Plain.store : s.store path idx sub d = (s.immediateWrite idx sub d, 0) := by
  unfold State.store
  rw [p.act, p.key, p.clsOf hc]
  exact congrArg (·, 0) (if_neg fun h => p.own.1 h.1)

theorem Plain.writeWhole : s.writeWhole path o idx sub d = (s.immediateWrite idx sub d, 0) := by
  unfold State.writeWhole
  rw [if_pos p.numeric, p.unmasked]
  simp [p.value, p.checks, p.store hc]

theorem Plain.writeAt (hf : s.heldElsewhere path idx sub = false) : s.writeAt path idx sub 0 d = (s.immediateWrite idx sub d, 0) := by
  unfold State.writeAt
  rw [p.row]
  simp [hf, p.numeric, p.size, p.writeWhole hc]

theorem Plain.sdoWrite (hp : path = .can) (hf : s.heldElsewhere path idx sub = false) :
    s.sdoWrite idx sub d = (s.immediateWrite idx sub d, 0) := by
  subst hp
  have hl : fixedLen idx sub = some d.length := by
    unfold fixedLen
    rw [p.row, Option.bind_some, p.size]
  unfold State.sdoWrite
  rw [hl]
  exact (if_neg (by simp)).trans (p.writeAt hc hf)

/-- Neither the node-ID nor a path switch is an immediate object that such a write reaches. -/
theorem Plain.key_ne {i j : Nat} (hi : Machine.clsOf i j ≠ some .i ∨ i = 0x2011) (hj : j < 256) : objKey i j ≠ objKey idx sub := by
  have hs := sub_lt_of_findRow p.row
  intro h
  have hii : i = idx := by rw [← objKey_div (idx := i) hj, h, objKey_div hs]
  have hjj : j = sub := by rw [← objKey_mod (idx := i) hj, h, objKey_mod hs]
  subst hii hjj
  exact hi.elim (fun k => k (p.clsOf hc)) p.own.2.1

theorem Plain.nodeId_key : objKey 0x2010 1 ≠ objKey idx sub :=
  p.key_ne hc (.inl (by decide +kernel)) (by decide)

theorem Plain.nodeId_write : (s.immediateWrite idx sub d).nodeId = s.nodeId :=
  (State.nodeId_cat (s.immediateWrite_cat idx sub d)).trans (State.nodeId_setEff d (p.nodeId_key hc))

theorem Plain.cfgB_write : (s.immediateWrite idx sub d).cfgB idx sub = d :=
  (State.cfgB_cat (s.immediateWrite_cat idx sub d) (by rw [s.immediateWrite_boot]; rfl) idx sub).trans
    (State.cfgB_setEff_same d (p.nodeId_key hc))

/-- The switch of the house path stays. -/
theorem Plain.housePath_write : (s.immediateWrite idx sub d).cfg 0x2011 4 = s.cfg 0x2011 4 := by
  unfold State.cfg
  rw [State.cfgB_cat (s.immediateWrite_cat idx sub d) (by rw [s.immediateWrite_boot]; rfl),
    State.cfgB_setEff_other d (p.key_ne hc (.inr rfl) (by decide)) (p.nodeId_key hc)]

end

end Sys2Proof

namespace Sys2Proof.Machine

theorem State.housePathOff_on {s : State} (h : s.cfg 0x2011 4 ≠ 0) (path : Path) : s.housePathOff path = s := if_neg h

/-! ### The frames of the SDO server (02 R55 to R57) -/

/-- A frame of the server with its 8 bytes. -/
def State.sdoFrame (s : State) (d : Bytes) : Sent := .can (0x580 + s.nodeId) (padTo 8 d)

theorem State.sdoFrame_mem (s : State) (d : Bytes) : s.sdoFrame d ∈ (s.sdoSend d).sent := State.mem_sent_emit ..

/-- The frame that aborts a transfer. -/
def State.sdoAbortFrame (s : State) (idx sub ab : Nat) : Sent := s.sdoFrame (natLE 1 0x80 ++ natLE 2 idx ++ natLE 1 sub ++ natLE 4 ab)

theorem State.sdoAbortFrame_mem (s : State) (idx sub : Nat) {ab : Nat} (h : ab ≠ 0) :
    s.sdoAbortFrame idx sub ab ∈ (s.sdoDone idx sub ab).sent := by
  unfold State.sdoDone
  rw [if_neg h]
  exact s.sdoFrame_mem _

theorem State.sdoAbort_none {s : State} (h : s.can.sdo = none) (ab : Nat) : s.sdoAbort ab = s := by
  unfold State.sdoAbort
  rw [h]

theorem State.sdoAbort_some {s : State} {x : SdoXfer} (h : s.can.sdo = some x) (ab : Nat) :
    s.sdoAbort ab = s.sdoClose.sdoDone x.index x.sub ab := by
  unfold State.sdoAbort
  rw [h]

theorem State.sdoServed_on {s : State} (hc : s.coreServes = true) (hn : s.can.nmt ≠ .stopped) (f : State → State) : s.sdoServed f = f s := by
  unfold State.sdoServed
  rw [if_neg (by simp [hc]), if_neg hn]

theorem State.sdoGoes_on {s : State} (h : s.pathOn .can = true) (f : State → State) : s.sdoGoes f = f s := if_pos h

theorem State.sdoGoes_off {s : State} (h : s.pathOn .can = false) {x : SdoXfer} (hx : s.can.sdo = some x) (f : State → State) :
    s.sdoGoes f = s.sdoClose.sdoDone x.index x.sub 0x08000021 := by
  unfold State.sdoGoes
  rw [if_neg (by simp [h]), hx]
  exact State.sdoAbort_some hx _

section
variable {s : State} (hx : s.can.sdo = none) {idx sub : Nat} {write : Bool} (f : State → State)
include hx

theorem State.sdoInitiate_goes (h : s.reach .can idx sub write = some 0) : s.sdoInitiate idx sub write f = f s := by
  unfold State.sdoInitiate
  rw [State.sdoAbort_none hx]
  dsimp only
  rw [h]
  rfl

theorem State.sdoInitiate_refused {ab : Nat} (hab : ab ≠ 0) (h : s.reach .can idx sub write = some ab) :
    s.sdoInitiate idx sub write f = s.sdoDone idx sub ab := by
  unfold State.sdoInitiate
  rw [State.sdoAbort_none hx]
  dsimp only
  rw [h]
  cases ab with
  | zero => exact absurd rfl hab
  | succ n => rfl

end

/-- An expedited download's write of an immediate object: it is confirmed at once. -/
theorem State.sdoStore_immediate {s : State} {idx sub : Nat} {d : Bytes} {o : Obj} (p : Plain s .can idx sub d o) (hc : o.cls = some .i)
    (hf : s.heldElsewhere .can idx sub = false) (hh : s.cfg 0x2011 4 ≠ 0) (ok : Bytes) :
    s.sdoStore idx sub d ok = (s.immediateWrite idx sub d).sdoSend ok := by
  have hon : ((s.immediateWrite idx sub d).sdoSend ok).cfg 0x2011 4 ≠ 0 := by
    rw [← p.housePath_write hc] at hh
    exact hh
  unfold State.sdoStore
  rw [p.sdoWrite hc rfl hf]
  simp only [s.lockWaits_immediateWrite]
  exact State.housePathOff_on hon _

/-- The answer to a download that opens a transfer, by blocks of 127 segments or segment by segment (02 R55). -/
def downloadAnswer (q : SdoInit) : Bytes :=
  if q.block then natLE 1 0xA4 ++ (natLE 2 q.index ++ natLE 1 q.sub) ++ natLE 4 127
  else natLE 1 0x60 ++ (natLE 2 q.index ++ natLE 1 q.sub)

/-! ### What each message of the open transfer does (02 R55 to R57) -/

section
variable {s : State} {x : SdoXfer} (hx : s.can.sdo = some x)
include hx

/-- A segment that is added to a download. -/
theorem State.sdoSegment_down {d : Bytes} (hu : x.upload = false) (hb : x.block = false) (hz : x.size = none) (h1 : 1 ≤ d.length)
    (h7 : d.length ≤ 7) : s.sdoSegment (.down x.toggle false d) =
      (s.sdoKeep { x with data := x.data ++ d, toggle := !x.toggle }).sdoSend (natLE 1 (0x20 + b2n x.toggle * 16)) := by
  have hok : ¬(x.upload = true ∨ x.block = true ∨ x.toggle ≠ x.toggle ∨ d.length = 0 ∨ 7 < d.length) := by
    simp only [hu, hb, Bool.false_eq_true, ne_eq, not_true_eq_false, false_or]
    omega
  unfold State.sdoSegment
  rw [hx]
  dsimp only
  rw [if_neg hok, hz]
  rfl

/-- A request segment with more than its 7 bytes left of an upload. -/
theorem State.sdoSegment_up (hu : x.upload = true) (hb : x.block = false) (hl : 7 < x.data.length) : s.sdoSegment (.up x.toggle) =
    (s.sdoKeep { x with data := x.data.drop 7, toggle := !x.toggle }).sdoSend (natLE 1 (b2n x.toggle * 16) ++ x.data.take 7) := by
  have hok : ¬(x.upload = false ∨ x.block = true ∨ x.toggle ≠ x.toggle) := by simp [hu, hb]
  have hlast : decide (x.data.length ≤ 7) = false := decide_eq_false (by omega)
  have h7 : (x.data.take 7).length = 7 := by rw [List.length_take]; omega
  unfold State.sdoSegment
  rw [hx]
  dsimp only
  rw [if_neg hok, hlast, h7]
  rfl

/-- A segment of a block below its last that is added to a download. -/
theorem State.sdoBlock_down {d : Bytes} (hu : x.upload = false) (hb : x.block = true) (hl : x.lastSeen = false) (hq : x.seqno < 126) :
    s.sdoBlock (.down (x.seqno + 1) false d) = s.sdoKeep { x with data := x.data ++ padTo 7 (d.take 7), seqno := x.seqno + 1 } := by
  have hok : ¬(x.upload = true ∨ x.block = false) := by simp [hu, hb]
  have hseq : ¬(x.lastSeen = true ∨ x.seqno + 1 ≠ x.seqno + 1 ∨ 127 < x.seqno + 1) := by
    simp only [hl, Bool.false_eq_true, ne_eq, not_true_eq_false, false_or]
    omega
  have hend : ¬(false = true ∨ x.seqno + 1 = 127) := by
    simp only [Bool.false_eq_true, false_or]
    omega
  unfold State.sdoBlock
  rw [hx]
  dsimp only
  rw [if_neg hok, if_neg hseq, if_neg hend, if_neg hend, hl]

end

end Sys2Proof.Machine

namespace Sys2Proof
open Machine

theorem Quiet.sdoKeep {s : State} (h : Quiet s) (x : SdoXfer) : Quiet (s.sdoKeep x) :=
  Eff.of_quiet h (s.modCan_eff _) (by decide)

theorem Quiet.sdoSend {s : State} (h : Quiet s) (d : Bytes) : Quiet (s.sdoSend d) := (Quiet.emit _).mpr h

theorem Quiet.settle_can {s : State} (h : Quiet s) : s.settle.can = s.can := (State.settle_eff_quiet h).can (by decide)

section
variable {s : State} (hc : s.coreServes = true) (hn : s.can.nmt ≠ .stopped)
include hc hn

/-- A message that the server takes, with the pass after it. -/
theorem sdoInitiateDownload_gives {q : SdoInit} {P : State → Prop} (h : P (s.sdoDownload q).settle) : Gives (.sdoInitiateDownload q) s P := by
  refine Gives.intro (t := (s.sdoServed (fun s => s.sdoDownload q)).settle) rfl ?_
  rwa [State.sdoServed_on hc hn]

theorem sdoInitiateUpload_gives {idx sub : Nat} {block : Option Nat} {P : State → Prop} (h : P (s.sdoUpload idx sub block).settle) :
    Gives (.sdoInitiateUpload idx sub block) s P := by
  refine Gives.intro (t := (s.sdoServed (fun s => s.sdoUpload idx sub block)).settle) rfl ?_
  rwa [State.sdoServed_on hc hn]

theorem sdoSegment_gives {seg : SdoSeg} {P : State → Prop} (h : P (s.sdoGoes (fun s => s.sdoSegment seg)).settle) :
    Gives (.sdoSegment seg) s P := by
  refine Gives.intro (t := (s.sdoServed (fun s => s.sdoGoes (fun s => s.sdoSegment seg))).settle) rfl ?_
  rwa [State.sdoServed_on hc hn]

theorem sdoBlockSegment_gives {seg : SdoBlock} {P : State → Prop} (h : P (s.sdoGoes (fun s => s.sdoBlock seg)).settle) :
    Gives (.sdoBlockSegment seg) s P := by
  refine Gives.intro (t := (s.sdoServed (fun s => s.sdoGoes (fun s => s.sdoBlock seg))).settle) rfl ?_
  rwa [State.sdoServed_on hc hn]

section
variable (hx : s.can.sdo = none)
include hx

/-- An expedited download of an immediate object: the value is effective, and the download confirmed. -/
theorem sdoInitiateDownload_immediate {q : SdoInit} {o : Obj} (he : q.expedited = true) (hh : s.cfg 0x2011 4 ≠ 0)
    (hw : MayWrite s .can q.index q.sub) (p : Plain s .can q.index q.sub q.data o) (hi : o.cls = some .i) :
    Gives (.sdoInitiateDownload q) s (fun t => t.cfgB q.index q.sub = q.data ∧
      s.sdoFrame (natLE 1 0x60 ++ natLE 2 q.index ++ natLE 1 q.sub) ∈ t.sent) := by
  have stored : s.sdoDownload q = (s.immediateWrite q.index q.sub q.data).sdoSend (natLE 1 0x60 ++ (natLE 2 q.index ++ natLE 1 q.sub)) := by
    unfold State.sdoDownload
    rw [State.sdoInitiate_goes hx _ hw.reach]
    exact (if_pos he).trans (State.sdoStore_immediate p hi hw.free hh _)
  refine sdoInitiateDownload_gives hc hn ?_
  rw [stored]
  constructor
  · rw [State.cfgB_settle (sub_lt_of_findRow p.row) (p.clsOf hi)]
    exact p.cfgB_write hi
  · have frame := State.sdoFrame_mem (s.immediateWrite q.index q.sub q.data) (natLE 1 0x60 ++ (natLE 2 q.index ++ natLE 1 q.sub))
    unfold State.sdoFrame at frame ⊢
    rw [p.nodeId_write hi, ← List.append_assoc] at frame
    rw [← List.append_assoc]
    exact State.mem_sent_settle frame

theorem sdoInitiateDownload_refused {q : SdoInit} {ab : Nat} (hab : ab ≠ 0) (h : s.reach .can q.index q.sub true = some ab) :
    Gives (.sdoInitiateDownload q) s (fun t => s.sdoAbortFrame q.index q.sub ab ∈ t.sent) := by
  refine sdoInitiateDownload_gives hc hn ?_
  unfold State.sdoDownload
  rw [State.sdoInitiate_refused hx _ hab h]
  exact State.mem_sent_settle (s.sdoAbortFrame_mem _ _ hab)

/-- A download that is not expedited opens a transfer, where its size is the object's or not stated. -/
theorem sdoInitiateDownload_opens {q : SdoInit} (k : Quiet s) (he : q.expedited = false) (hw : MayWrite s .can q.index q.sub)
    (hz : q.size = none ∨ q.size = fixedLen q.index q.sub) :
    Gives (.sdoInitiateDownload q) s (fun t => t.can.sdo = some ⟨q.index, q.sub, false, q.block, [], false, 0, false, q.size⟩) := by
  have opened : s.sdoDownload q =
      (s.sdoKeep ⟨q.index, q.sub, false, q.block, [], false, 0, false, q.size⟩).sdoSend (downloadAnswer q) := by
    unfold State.sdoDownload
    rw [State.sdoInitiate_goes hx _ hw.reach]
    dsimp only
    rw [if_neg (by simp [he]), if_neg (by simp [hw.free])]
    refine if_neg ?_
    rcases hz with h | h
    · rw [h]
      exact Bool.false_ne_true
    · rw [h]
      cases fixedLen q.index q.sub with
      | none => exact Bool.false_ne_true
      | some n => simp
  refine sdoInitiateDownload_gives hc hn ?_
  rw [opened, Quiet.settle_can ((k.sdoKeep _).sdoSend _)]
  rfl

/-- An upload of 1 to 4 bytes is answered with them. -/
theorem sdoInitiateUpload_expedited {idx sub : Nat} (h : s.reach .can idx sub false = some 0) (h1 : 1 ≤ (s.readObj 0 idx sub).length)
    (h4 : (s.readObj 0 idx sub).length ≤ 4) : Gives (.sdoInitiateUpload idx sub none) s (fun t =>
      s.sdoFrame (natLE 1 (0x43 + (4 - (s.readObj 0 idx sub).length) * 4) ++ natLE 2 idx ++ natLE 1 sub ++ s.readObj 0 idx sub) ∈ t.sent) := by
  have sent : s.sdoUpload idx sub none = s.sdoSend
      (natLE 1 (0x43 + (4 - (s.readObj 0 idx sub).length) * 4) ++ (natLE 2 idx ++ natLE 1 sub) ++ s.readObj 0 idx sub) := by
    unfold State.sdoUpload
    rw [State.sdoInitiate_goes hx _ h]
    exact if_pos ⟨h1, h4⟩
  refine sdoInitiateUpload_gives hc hn ?_
  rw [sent, ← List.append_assoc]
  exact State.mem_sent_settle (s.sdoFrame_mem _)

end

section
variable {x : SdoXfer} (hx : s.can.sdo = some x)
include hx

theorem sdoSegment_disabled (hp : s.pathOn .can = false) (seg : SdoSeg) :
    Gives (.sdoSegment seg) s (fun t => s.sdoAbortFrame x.index x.sub 0x08000021 ∈ t.sent) := by
  refine sdoSegment_gives hc hn ?_
  rw [State.sdoGoes_off hp hx]
  exact State.mem_sent_settle (s.sdoClose.sdoAbortFrame_mem _ _ (by decide))

variable (k : Quiet s) (hp : s.pathOn .can = true)
include k hp

theorem sdoSegment_adds {d : Bytes} (hu : x.upload = false) (hb : x.block = false) (hz : x.size = none) (h1 : 1 ≤ d.length)
    (h7 : d.length ≤ 7) : Gives (.sdoSegment (.down x.toggle false d)) s (fun t =>
      t.can.sdo = some { x with data := x.data ++ d, toggle := !x.toggle } ∧ s.sdoFrame (natLE 1 (0x20 + b2n x.toggle * 16)) ∈ t.sent) := by
  refine sdoSegment_gives hc hn ?_
  rw [State.sdoGoes_on hp, State.sdoSegment_down hx hu hb hz h1 h7]
  refine ⟨?_, State.mem_sent_settle (State.sdoFrame_mem (s.sdoKeep _) _)⟩
  rw [Quiet.settle_can ((k.sdoKeep _).sdoSend _)]
  rfl

theorem sdoSegment_sends (hu : x.upload = true) (hb : x.block = false) (hl : 7 < x.data.length) :
    Gives (.sdoSegment (.up x.toggle)) s (fun t => t.can.sdo = some { x with data := x.data.drop 7, toggle := !x.toggle } ∧
      s.sdoFrame (natLE 1 (b2n x.toggle * 16) ++ x.data.take 7) ∈ t.sent) := by
  refine sdoSegment_gives hc hn ?_
  rw [State.sdoGoes_on hp, State.sdoSegment_up hx hu hb hl]
  refine ⟨?_, State.mem_sent_settle (State.sdoFrame_mem (s.sdoKeep _) _)⟩
  rw [Quiet.settle_can ((k.sdoKeep _).sdoSend _)]
  rfl

theorem sdoBlockSegment_adds {d : Bytes} (hu : x.upload = false) (hb : x.block = true) (hl : x.lastSeen = false) (hq : x.seqno < 126) :
    Gives (.sdoBlockSegment (.down (x.seqno + 1) false d)) s (fun t =>
      t.can.sdo = some { x with data := x.data ++ padTo 7 (d.take 7), seqno := x.seqno + 1 }) := by
  refine sdoBlockSegment_gives hc hn ?_
  rw [State.sdoGoes_on hp, State.sdoBlock_down hx hu hb hl hq, Quiet.settle_can (k.sdoKeep _)]
  rfl

end

theorem sdoAbortTransferRequest_closes : Gives .sdoAbortTransferRequest s (fun t => t.can.sdo = none) := by
  refine Gives.intro (t := s.sdoServed State.sdoClose) rfl ?_
  rw [State.sdoServed_on hc hn]
  rfl

end

/-- No segment in time: the transfer ends with its abort, and the Catalogue stays. -/
theorem sdoProtocolTimedOut_aborts {s : State} {x : SdoXfer} (hx : s.can.sdo = some x) (hn : s.can.nmt ≠ .stopped) :
    Gives .sdoProtocolTimedOut s (fun t => t.can.sdo = none ∧ t.cat = s.cat ∧ s.sdoAbortFrame x.index x.sub 0x05040000 ∈ t.sent) := by
  have late : s.sdoLate = s.sdoClose.sdoDone x.index x.sub 0x05040000 := (if_neg hn).trans (State.sdoAbort_some hx _)
  refine Gives.intro (t := s.sdoLate) rfl ?_
  rw [late]
  exact ⟨rfl, rfl, s.sdoClose.sdoAbortFrame_mem _ _ (by decide)⟩

/-- Settles O28: each message by what the one transfer holds; an immediate value stands over the pass that follows. -/
theorem sdoTransfers : Obligations.SdoTransfers := by
  unfold Obligations.SdoTransfers
  exact ⟨fun _ _ _ _ hc hn hx he hh hw p hi => sdoInitiateDownload_immediate hc hn hx he hh hw p hi,
    fun _ _ _ hc hn hx hab h => sdoInitiateDownload_refused hc hn hx hab h,
    fun _ _ k hc hn hx he hw hz => sdoInitiateDownload_opens hc hn hx k he hw hz,
    fun _ _ _ hc hn hx h h1 h4 => sdoInitiateUpload_expedited hc hn hx h h1 h4,
    fun _ _ _ k hc hp hn hx hu hb hz h1 h7 => sdoSegment_adds hc hn hx k hp hu hb hz h1 h7,
    fun _ _ k hc hp hn hx hu hb hl => sdoSegment_sends hc hn hx k hp hu hb hl,
    fun _ _ _ k hc hp hn hx hu hb hl hq => sdoBlockSegment_adds hc hn hx k hp hu hb hl hq,
    fun _ _ hx hn => sdoProtocolTimedOut_aborts hx hn,
    fun _ _ hc hp hn hx => sdoSegment_disabled hc hn hx hp _,
    fun _ hc hn => sdoAbortTransferRequest_closes hc hn⟩

end Sys2Proof
end

section
/-!
PROOFS. What lock messages and their answers leave of the Collection, settings under the effects of operations, and writes of the objects
that ask the hub to act (02 R46; 03 R83, R97, R102).
-/
namespace Sys2Proof.Machine

/-! ### Settings, where the Catalogue stays (00 R10) -/

section
variable {m : Nat} {s t : State} (e : Eff m s t) (hc : m.testBit 10 = false)
include e hc

theorem Eff.cfg (idx sub : Nat) : t.cfg idx sub = s.cfg idx sub :=
  congrArg leNat (State.cfgB_cat (e.cat hc) e.fuses.mac idx sub)

theorem Eff.voterCount : t.voterCount = s.voterCount := by unfold State.voterCount; rw [e.cfg hc, e.cfg hc]

theorem Eff.member : t.member = s.member := e.cfg hc ..

theorem Eff.voterList : t.voterList = s.voterList := by
  unfold State.voterList State.others
  rw [e.cfg hc, e.cfg hc, e.member hc]

end

/-! ### Nerquelu messages sent (03 R96, R97) -/

theorem toldTo_mono {s t : State} {m typ : Nat} {body : Bytes} (g : s.sent <+: t.sent) (h : toldTo s m typ body = true) :
    toldTo t m typ body = true :=
  List.any_eq_true.mpr ((List.any_eq_true.mp h).imp fun _ hx => ⟨g.subset hx.1, hx.2⟩)

theorem toldTo_nqSend (s : State) (m typ : Nat) (body : Bytes) : toldTo (s.nqSend m typ body) m typ body = true :=
  List.any_eq_true.mpr ⟨_, State.mem_sent_emit .., by simp⟩

theorem toldTo_foldl_nqSend {l : List Nat} {m : Nat} (h : m ∈ l) (typ : Nat) (body : Bytes) (s : State) :
    toldTo (l.foldl (fun s m => s.nqSend m typ body) s) m typ body = true := by
  induction l generalizing s with
  | nil => cases h
  | cons v l ih =>
    rcases List.mem_cons.mp h with rfl | h
    · have rest : Eff 131072 (s.nqSend m typ body) (l.foldl (fun s m => s.nqSend m typ body) (s.nqSend m typ body)) :=
        .foldl (fun s x => State.nqSend_eff s x typ body) (.refl ..)
      exact toldTo_mono rest.grows (toldTo_nqSend ..)
    · exact ih h _

theorem toldTo_nqAll {s : State} {m : Nat} (h : m ∈ s.voterList) (typ : Nat) (body : Bytes) : toldTo (s.nqAll typ body) m typ body = true :=
  toldTo_foldl_nqSend h typ body s

/-! ### What lock messages and their answers leave of the Collection (03 R103, R106) -/

/-- The Collection beside the count of the messages sent, the requests and acquires that wait, and the locks. -/
def Coll.standing (c : Coll) : Coll := { c with seqOut := 0, lockReqs := [], grants := [], locks := [] }

/-- Only messages were counted, requests and acquires ended or began to wait, and locks changed hands. -/
structure StandingKept (s t : State) : Prop where
  coll : t.coll.standing = s.coll.standing

theorem StandingKept.refl (s : State) : StandingKept s s := ⟨rfl⟩

theorem StandingKept.trans {s t u : State} (h : StandingKept s t) (k : StandingKept t u) : StandingKept s u := ⟨k.coll.trans h.coll⟩

theorem StandingKept.foldl {α : Type} {f : State → α → State} (h : ∀ s x, StandingKept s (f s x)) (l : List α) (s : State) :
    StandingKept s (l.foldl f s) := by
  induction l generalizing s with
  | nil => exact .refl s
  | cons x l ih => exact (h s x).trans (ih _)

theorem Eff.standingKept {m : Nat} {s t : State} (e : Eff m s t) (hm : m.testBit 17 = false) : StandingKept s t :=
  ⟨congrArg Coll.standing (e.coll hm)⟩

theorem State.nqSend_standing (s : State) (m typ : Nat) (body : Bytes) : StandingKept s (s.nqSend m typ body) := ⟨rfl⟩

theorem State.setLock_standing (s : State) (n : Nat) (l : Lock) : StandingKept s (s.setLock n l) := ⟨rfl⟩

theorem State.nqAll_standing (s : State) (typ : Nat) (body : Bytes) : StandingKept s (s.nqAll typ body) :=
  .foldl (fun s m => s.nqSend_standing m typ body) _ s

theorem State.lockAnswered_standing (s : State) (n op sess : Nat) (ab : Word) : StandingKept s (s.lockAnswered n op sess ab) := by
  unfold State.lockAnswered
  split
  case h_2 => exact .refl s
  case h_1 q _ =>
    refine .trans (t := s.modColl (fun c => { c with lockReqs := c.lockReqs.erase q })) ⟨rfl⟩ ?_
    dsimp only
    split
    · exact (State.finishB_eff ..).standingKept rfl
    · exact ((State.lateRsp_eff ..).trans (Eff.mono (State.emit_eff ..) (by decide))).standingKept rfl

theorem State.lockReply_standing (s : State) (n op m sess ab : Nat) : StandingKept s (s.lockReply n op m sess ab) := by
  unfold State.lockReply
  split
  · exact s.lockAnswered_standing ..
  · exact s.nqSend_standing ..

theorem State.dropGrants_standing (s : State) (n : Nat) : StandingKept s (s.dropGrants n) :=
  .trans (t := s.modColl (fun c => { c with grants := c.grants.filter (fun g => decide (g.lock ≠ n)) })) ⟨rfl⟩
    (.foldl (fun s (g : LockGrant) => s.lockReply_standing n 1 g.member g.sess 0x08000022) _ _)

theorem State.undoGrants_standing (s : State) : StandingKept s s.undoGrants := by
  have undone : ∀ (s : State) (g : LockGrant), StandingKept s ((s.setLock g.lock g.old).dropGrants g.lock) := fun s g =>
    (s.setLock_standing g.lock g.old).trans (State.dropGrants_standing _ g.lock)
  exact .foldl undone _ s

theorem State.rebooted_standing (s : State) (m seq : Nat) : StandingKept s (s.rebooted m seq) := by
  unfold State.rebooted
  split
  · split
    · exact .foldl (fun s n => s.setLock_standing n _) _ s
    · exact .refl s
  · exact .refl s

/-! ### Writes of the objects that ask the hub to act (02 R46) -/

/-- A value of a request object is answered with what the request comes to. -/
theorem State.writeAt_act {s : State} {path : Path} {idx sub : Nat} {d : Bytes} {o : Obj} {r : State × Nat}
    (hr : findRow idx sub objTable = some o) (hn : o.ty.numeric = true) (hl : o.ty.size = some d.length) (hm : o.mask = none)
    (hv : o.vset.check (leNat d) = 0) (hc : s.numCheck (s.principalOf path) idx sub (leNat d) = 0)
    (hf : s.heldElsewhere path idx sub = false) (ha : s.actWrite path idx sub (leNat d) d = some r) :
    s.writeAt path idx sub 0 d = r := by
  have stored : s.store path idx sub d = r := by unfold State.store; rw [ha]
  have whole : s.writeWhole path o idx sub d = r := by
    unfold State.writeWhole
    rw [if_pos hn, hm]
    simp [hv, hc, stored]
  unfold State.writeAt
  rw [hr]
  simp [hf, hn, hl, whole]

theorem State.write_served {s : State} {path : Path} {idx sub : Nat} (h : MayWrite s path idx sub) (d : Bytes) :
    s.write path idx sub d = (s.writeAt path idx sub 0 d).1.emit (.answer path idx sub (s.writeAt path idx sub 0 d).2) := by
  unfold State.write State.viaWrite
  rw [h.reach]
  rfl

end Sys2Proof.Machine
end

section
/-!
PROOFS. Heartbeats, the quorum window, proposals, accepts and progress messages of the Collection (03 R97 to R102; 10 R299).
-/
namespace Sys2Proof.Machine

/-! ### A message received (03 R97) -/

/-- The state in which a message that was accepted is acted on: its SEQUENCE taken, and the locks of a sender that was reset broken. -/
def State.seqTaken (s : State) (h : NqHeader) : State :=
  let u := if h.sender = 0 then s else s.rebooted h.sender h.seq
  u.setVoter h.sender { u.voter h.sender with seq := some h.seq }

theorem State.nqTake_accepted {s : State} {h : NqHeader} (ok : s.nqOk h = true) (f : State → State) : s.nqTake h f = f (s.seqTaken h) := if_pos ok

theorem State.nqTake_discarded {s : State} {h : NqHeader} (ok : s.nqOk h = false) (f : State → State) :
    s.nqTake h f = s.modColl (fun c => { c with discarded := satAdd c.discarded 1 }) := if_neg (by simp [ok])

section
variable (s : State) (h : NqHeader)

theorem State.seqTaken_eff : Eff 131072 s (s.seqTaken h) := by
  unfold State.seqTaken
  dsimp only
  exact Eff.trans (.ite (.refl ..) (s.rebooted_eff ..)) (State.setVoter_eff ..)

theorem State.seqTaken_standing : (s.seqTaken h).coll.standing =
    { s.coll.standing with voters := SMap.put Voter.reset s.coll.voters h.sender { s.voter h.sender with seq := some h.seq } } := by
  have kept : ∀ u, StandingKept s u → (u.setVoter h.sender { u.voter h.sender with seq := some h.seq }).coll.standing =
      { s.coll.standing with voters := SMap.put Voter.reset s.coll.voters h.sender { s.voter h.sender with seq := some h.seq } } := by
    intro u k
    have hv : u.coll.voters = s.coll.voters := (congrArg Coll.voters k.coll :)
    have hu : u.voter h.sender = s.voter h.sender := congrArg (SMap.get Voter.reset · h.sender) hv
    rw [← k.coll, hu.symm, ← hv]
    rfl
  unfold State.seqTaken
  refine kept _ ?_
  split
  · exact .refl s
  · exact s.rebooted_standing ..

@[simp] theorem State.seqTaken_epoch : (s.seqTaken h).coll.epoch = s.coll.epoch := (congrArg Coll.epoch (s.seqTaken_standing h) :)

@[simp] theorem State.seqTaken_quorum : (s.seqTaken h).coll.quorum = s.coll.quorum := (congrArg Coll.quorum (s.seqTaken_standing h) :)

@[simp] theorem State.seqTaken_acceptedFor : (s.seqTaken h).coll.acceptedFor = s.coll.acceptedFor := (congrArg Coll.acceptedFor (s.seqTaken_standing h) :)

@[simp] theorem State.seqTaken_accepts : (s.seqTaken h).coll.accepts = s.coll.accepts := (congrArg Coll.accepts (s.seqTaken_standing h) :)

@[simp] theorem State.seqTaken_voter_seq : ((s.seqTaken h).voter h.sender).seq = some h.seq := by
  have hv := congrArg (fun c : Coll => (SMap.get Voter.reset c.voters h.sender).seq) (s.seqTaken_standing h)
  simpa [State.voter, Coll.standing] using hv

@[simp] theorem State.seqTaken_member : (s.seqTaken h).member = s.member := (s.seqTaken_eff h).member rfl

@[simp] theorem State.seqTaken_voterCount : (s.seqTaken h).voterCount = s.voterCount := (s.seqTaken_eff h).voterCount rfl

@[simp] theorem State.seqTaken_voterList : (s.seqTaken h).voterList = s.voterList := (s.seqTaken_eff h).voterList rfl

end

/-! ### Voters and events (03 R98, R110) -/

@[simp] theorem State.collEvent_coll (s : State) (f : Coll → Coll) : (s.collEvent f).coll = f s.coll := by
  unfold State.collEvent
  dsimp only
  split
  · rfl
  · exact (State.houseEvent_eff ..).coll rfl

@[simp] theorem State.voter_setVoter_same (s : State) (m : Nat) (v : Voter) : (s.setVoter m v).voter m = v := SMap.get_put_same ..

theorem State.voter_congr {s t : State} (h : t.coll.voters = s.coll.voters) (m : Nat) : t.voter m = s.voter m :=
  congrArg (SMap.get Voter.reset · m) h

/-- A digest compared changes nothing of what was heard of a voter but the count of differences. -/
theorem State.digestSeen_voter (s : State) (m : Nat) (e : Word) (d : Bytes) :
    ∃ k, (s.digestSeen m e d).voter m = { s.voter m with mismatches := k } := by
  unfold State.digestSeen
  dsimp only
  split
  · exact ⟨_, rfl⟩
  split
  · exact ⟨_, s.voter_setVoter_same m _⟩
  split
  · exact ⟨_, s.voter_setVoter_same m _⟩
  split
  · refine ⟨_, (State.voter_congr (s := s.setVoter m { s.voter m with mismatches := min ((s.voter m).mismatches + 1) 3 }) ?_ m).trans
      (s.voter_setVoter_same m _)⟩
    rw [(State.note_eff ..).coll rfl, State.collEvent_coll]
    rfl
  · exact ⟨_, s.voter_setVoter_same m _⟩

/-! ### Epochs and quorum (03 R98 to R102) -/

/-- The Collection as an epoch is adopted, beside the working copy of its key. -/
def Coll.adopted (e : Word) (c : Coll) : Coll :=
  if e = c.epoch then c else { c with epoch := e, acceptedFor := none, accepts := [], proposing := false }

theorem State.adopt_coll (s : State) (e : Word) : ∃ k, (s.adopt e).coll = { s.coll.adopted e with key := k } := by
  have took : ∀ u : State, ∃ k, u.takeKey.applyE.coll = { u.coll with key := k } := by
    intro u
    rw [u.takeKey.applyE_eff.coll rfl]
    unfold State.takeKey
    split
    · exact ⟨_, rfl⟩
    · exact ⟨_, rfl⟩
  unfold State.adopt
  obtain ⟨k, hk⟩ := took (if e = s.coll.epoch then s
    else (s.modColl (fun c => { c with epoch := e, acceptedFor := none, accepts := [], proposing := false })).flash
      (fun f => { f with epoch := e }))
  refine ⟨k, hk.trans ?_⟩
  unfold Coll.adopted
  split
  · rfl
  · rw [(State.flash_eff ..).coll rfl]
    rfl

@[simp] theorem State.adopt_epoch (s : State) (e : Word) : (s.adopt e).coll.epoch = e := by
  obtain ⟨k, hk⟩ := s.adopt_coll e
  rw [hk]
  unfold Coll.adopted
  split <;> simp [*]

@[simp] theorem State.adopt_voters (s : State) (e : Word) : (s.adopt e).coll.voters = s.coll.voters := by
  obtain ⟨k, hk⟩ := s.adopt_coll e
  rw [hk]
  unfold Coll.adopted
  split <;> rfl

@[simp] theorem State.adopt_quorum (s : State) (e : Word) : (s.adopt e).coll.quorum = s.coll.quorum := by
  obtain ⟨k, hk⟩ := s.adopt_coll e
  rw [hk]
  unfold Coll.adopted
  split <;> rfl

/-- A loss of quorum ends it, keeps its moment and sets QUORUM_LOST. -/
theorem State.loseQuorum_standing (s : State) :
    s.loseQuorum.coll.standing = { s.coll.standing with quorum := false, tQ := s.now, quorumLost := true } := by
  unfold State.loseQuorum
  rw [State.collEvent_coll]
  have kept := (s.modColl (fun c => { c with quorum := false, tQ := s.now })).undoGrants_standing.coll
  exact congrArg (fun c : Coll => { c with quorumLost := true }) kept

@[simp] theorem State.loseQuorum_voters (s : State) : s.loseQuorum.coll.voters = s.coll.voters := (congrArg Coll.voters s.loseQuorum_standing :)

@[simp] theorem State.loseQuorum_epoch (s : State) : s.loseQuorum.coll.epoch = s.coll.epoch := (congrArg Coll.epoch s.loseQuorum_standing :)

theorem State.settleQuorum_voters (s : State) : s.settleQuorum.coll.voters = s.coll.voters := by
  unfold State.settleQuorum
  split
  · split <;> simp
  · split
    · dsimp only
      split <;> simp [State.modColl]
    · rfl

/-- While quorum is held, its count changes no epoch. -/
theorem State.settleQuorum_epoch {s : State} (h : s.coll.quorum = true) : s.settleQuorum.coll.epoch = s.coll.epoch := by
  unfold State.settleQuorum
  rw [if_pos h]
  split <;> simp

theorem State.settleQuorum_lost {s : State} (h : s.coll.quorum = true) (hm : s.majority = false) : s.settleQuorum = s.loseQuorum := by
  unfold State.settleQuorum
  rw [if_pos h, if_neg (by simp [hm])]

/-! ### Accepts (03 R102) -/

/-- An accept is sent to every other voter, whatever it completes. -/
theorem State.acceptEpoch_told {s : State} {m : Nat} (h : m ∈ s.voterList) : toldTo s.acceptEpoch m 3 (natBE 4 (s.coll.epoch + 1).toNat) = true :=
  toldTo_mono (State.countAccepts_eff _).grows (toldTo_nqAll (s := s.modColl _) h ..)

theorem State.countAccepts_epoch {s : State} (h : s.coll.quorum = true) :
    s.countAccepts.coll.epoch = if s.voterCount < 2 * s.coll.accepts.length then s.coll.epoch + 1 else s.coll.epoch := by
  unfold State.countAccepts
  split
  · rw [State.settleQuorum_epoch (by simpa using h), State.adopt_epoch]
  · rfl

end Sys2Proof.Machine

namespace Sys2Proof
open Machine

/-! ### Heartbeats and the quorum window (03 R97, R98) -/

theorem nerqueluHeartbeatSend_told (s : State) :
    Gives .nerqueluHeartbeatSend s (fun t => ∀ m ∈ s.voterList, toldTo t m 1 (s.digest ++ natBE 4 s.quorumSet) = true) :=
  .intro (t := s.beat.progressAll) rfl fun _ hm => toldTo_mono (State.progressAll_eff _).grows (toldTo_nqAll hm ..)

/-- What a heartbeat tells of its sender stands when quorum and the epoch have followed it. -/
theorem Machine.State.beatSeen_voter (s : State) (h : NqHeader) (d : Bytes) (q : Word) :
    ∃ k, (s.beatSeen h d q).voter h.sender = { s.voter h.sender with
      heard := true, names := bitOf q.toNat (s.member - 1), epoch := h.epoch, lastHeard := s.now, quorum := bitOf q.toNat 31
      mismatches := k } := by
  unfold State.beatSeen
  dsimp only
  obtain ⟨k, hk⟩ := (s.setVoter h.sender { s.voter h.sender with
    heard := true, names := bitOf q.toNat (s.member - 1), epoch := h.epoch, lastHeard := s.now,
    quorum := bitOf q.toNat 31 }).digestSeen_voter h.sender h.epoch d
  refine ⟨k, (State.voter_congr (State.settleQuorum_voters _) _).trans (.trans ?_ (hk.trans ?_))⟩
  · split
    · exact State.voter_congr (State.adopt_voters ..) _
    · rfl
  · rw [State.voter_setVoter_same]

theorem heartbeatReceived_heard {s : State} {hdr : NqHeader} (ok : s.nqOk hdr = true) (d : Bytes) (q : Word) :
    Gives (.heartbeatReceived hdr d q) s (fun t => (t.voter hdr.sender).heard = true ∧ (t.voter hdr.sender).seq = some hdr.seq ∧
      (t.voter hdr.sender).epoch = hdr.epoch ∧ (t.voter hdr.sender).names = bitOf q.toNat (s.member - 1)) := by
  refine .intro rfl ?_
  rw [State.nqTake_accepted ok]
  obtain ⟨k, hk⟩ := (s.seqTaken hdr).beatSeen_voter hdr d q
  simp [hk]

theorem heartbeatReceived_discarded {s : State} {hdr : NqHeader} (ok : s.nqOk hdr = false) (d : Bytes) (q : Word) :
    Gives (.heartbeatReceived hdr d q) s (fun t => t.coll = { s.coll with discarded := satAdd s.coll.discarded 1 }) :=
  .intro rfl (by rw [State.nqTake_discarded ok]; rfl)

section
variable {s : State} {m : Nat} (hh : (s.voter m).heard = true)
include hh

theorem quorumWindowExpiry_unheard : Gives (.quorumWindowExpiry m) s (fun t => (t.voter m).heard = false ∧ (t.voter m).names = false) := by
  refine .intro rfl ?_
  unfold State.unheard
  rw [if_pos hh, State.voter_congr (State.settleQuorum_voters _), State.voter_setVoter_same]
  exact ⟨rfl, rfl⟩

theorem quorumWindowExpiry_lost (hq : s.coll.quorum = true)
    (hm : (s.setVoter m { s.voter m with heard := false, names := false }).majority = false) :
    Gives (.quorumWindowExpiry m) s (fun t => t.coll.quorum = false ∧ t.coll.quorumLost = true ∧ t.coll.tQ = s.now) := by
  refine .intro rfl ?_
  unfold State.unheard
  rw [if_pos hh, State.settleQuorum_lost (s := s.setVoter m _) hq hm]
  have lost := State.loseQuorum_standing (s.setVoter m { s.voter m with heard := false, names := false })
  exact ⟨(congrArg Coll.quorum lost :), (congrArg Coll.quorumLost lost :), (congrArg Coll.tQ lost :)⟩

end

/-! ### Proposals and accepts (03 R102) -/

/-- The row of the epoch advance request. -/
def epochAdvanceRow : Obj := ⟨0x7005, 0x7005, 0, 0, .u8, .w, .no, some .i, .only 1, none, .nat 0⟩

theorem Machine.State.propose_quorum {s : State} (hq : s.coll.quorum = true) : s.propose =
    (((s.modColl (fun c => { c with proposing := true })).nqAll 2 (natBE 4 (s.coll.epoch + 1).toNat)).acceptEpoch, 0) :=
  if_neg (by simp [hq])

theorem Machine.State.write_epochAdvance {s : State} {path : Path} (hw : MayWrite s path 0x7005 0) :
    s.write path 0x7005 0 [1] = s.propose.1.emit (.answer path 0x7005 0 s.propose.2) := by
  have row : findRow 0x7005 0 objTable = some epochAdvanceRow := by decide +kernel
  have asked : s.actWrite path 0x7005 0 1 [1] = some s.propose := rfl
  rw [State.write_served hw, State.writeAt_act row rfl rfl rfl rfl rfl hw.free asked]

theorem epochAdvanceRequest_proposes {s : State} {path : Path} (hw : MayWrite s path 0x7005 0) (hq : s.coll.quorum = true) :
    Gives (.epochAdvanceRequest path) s (fun t => Sent.answer path 0x7005 0 0 ∈ t.sent ∧
      (∀ m ∈ s.voterList, toldTo t m 2 (natBE 4 (s.coll.epoch + 1).toNat) = true)) := by
  refine .intro rfl ?_
  rw [State.write_epochAdvance hw, State.propose_quorum hq]
  dsimp only
  refine ⟨State.mem_sent_emit .., fun m hm => ?_⟩
  refine toldTo_mono (State.emit_eff ..).grows (toldTo_mono (State.acceptEpoch_eff _).grows ?_)
  exact toldTo_nqAll (s := s.modColl (fun c => { c with proposing := true })) hm ..

theorem epochPropose_accepted {s : State} {hdr : NqHeader} (ok : s.nqOk hdr = true) (hq : s.coll.quorum = true)
    (ha : s.coll.acceptedFor ≠ some (s.coll.epoch + 1)) :
    Gives (.epochPropose hdr (s.coll.epoch + 1)) s (fun t =>
      ∀ m ∈ s.voterList, toldTo t m 3 (natBE 4 (s.coll.epoch + 1).toNat) = true) := by
  refine .intro rfl fun m hm => ?_
  rw [State.nqTake_accepted ok]
  unfold State.proposed_
  rw [if_pos ⟨(s.seqTaken_quorum hdr).trans hq, by rw [s.seqTaken_epoch], by rwa [s.seqTaken_acceptedFor]⟩, ← s.seqTaken_epoch hdr]
  exact State.acceptEpoch_told (by simpa using hm)

theorem epochAccept_counted {s : State} {hdr : NqHeader} (ok : s.nqOk hdr = true) (hq : s.coll.quorum = true)
    (ha : s.coll.accepts.contains hdr.sender = false) :
    Gives (.epochAccept hdr (s.coll.epoch + 1)) s (fun t =>
      t.coll.epoch = if s.voterCount < 2 * (s.coll.accepts.length + 1) then s.coll.epoch + 1 else s.coll.epoch) := by
  refine .intro rfl ?_
  rw [State.nqTake_accepted ok]
  unfold State.acceptSeen
  have held : ((s.seqTaken hdr).modColl (fun c => { c with accepts := c.accepts ++ [hdr.sender] })).coll.quorum = true :=
    (s.seqTaken_quorum hdr).trans hq
  rw [if_pos ⟨by rw [s.seqTaken_epoch], by rwa [s.seqTaken_accepts]⟩, State.countAccepts_epoch held]
  have count : ((s.seqTaken hdr).modColl (fun c => { c with accepts := c.accepts ++ [hdr.sender] })).voterCount = s.voterCount :=
    s.seqTaken_voterCount hdr
  rw [count]
  simp [State.modColl]

theorem epochAdvanceTimeout_fails {s : State} (h : s.coll.proposing = true) :
    Gives .epochAdvanceTimeout s (fun t => t.coll.proposing = false ∧ t.coll.epochFailed = true) := by
  refine .intro rfl ?_
  unfold State.epochLate
  rw [if_pos h, State.collEvent_coll]
  exact ⟨rfl, rfl⟩

/-! ### Progress messages (10 R299) -/

theorem fanoutProgress_kept {s : State} {hdr : NqHeader} (ok : s.nqOk hdr = true) (b : Bytes) :
    Gives (.fanoutProgress hdr b) s (fun t => SMap.get [] t.coll.jobViews hdr.sender = b) := by
  refine .intro rfl ?_
  rw [State.nqTake_accepted ok]
  unfold State.jobView
  dsimp only
  split
  · rw [(State.note_eff ..).coll rfl, (State.vaultEvent_eff ..).coll rfl]
    exact SMap.get_put_same ..
  · exact SMap.get_put_same ..

/-- Settles O26: what a message leaves of the Collection, and what was sent before it stays sent. -/
theorem collectionMessages : Obligations.CollectionMessages := by
  unfold Obligations.CollectionMessages
  exact ⟨nerqueluHeartbeatSend_told, fun _ _ d q ok => heartbeatReceived_heard ok d q,
    fun _ _ d q ok => heartbeatReceived_discarded ok d q, fun _ _ hh => quorumWindowExpiry_unheard hh,
    fun _ _ hh hq hm => quorumWindowExpiry_lost hh hq hm, fun _ _ hw hq => epochAdvanceRequest_proposes hw hq,
    fun _ _ ok hq ha => epochPropose_accepted ok hq ha, fun _ _ ok hq ha => epochAccept_counted ok hq ha,
    fun _ h => epochAdvanceTimeout_fails h, fun _ _ b ok _ => fanoutProgress_kept ok b⟩

end Sys2Proof
end

section
/-!
PROOFS. Loans while items and sessions end: with no job, capture or mover channel in hand, what the hub does then leaves the state and the
terms of every loan, and the ports on loan (03 R87, R90; 05 R145 to R149).
-/
namespace Sys2Proof.Machine

/-! ### States without jobs, captures and channels -/

/-- No job, capture or mover channel is in hand and no item, hold or fault asks for more than that items end: what a quiet state says, beside
items with a cause and ports of a recalled set. -/
structure Calm (s : State) : Prop where
  ended : s.vault.ended = []
  jobs : s.vault.jobs = []
  captures : s.vault.captures = []
  chans : s.mov.chans = []
  owed : s.flt.escDue = []
  items : ∀ e ∈ s.items, e.2.op < 0x60 ∧ e.2.principal ≠ hubPrincipal
  waits : ∀ e ∈ s.tenants, e.2.stopWait = none ∧ e.2.heldItems = []
  request : s.dps.request = none
  blocked : s.dps.blocked = 0

theorem Calm.of_quiet {s : State} (q : Quiet s) : Calm s where
  ended := q.ended
  jobs := q.jobs
  captures := q.captures
  chans := q.chans
  owed := q.owed
  items e he := by
    have h := List.all_eq_true.mp q.items e he
    simp only [Bool.and_eq_true, decide_eq_true_eq] at h
    exact ⟨h.1.1.2, h.1.2⟩
  waits e he := ⟨of_decide_eq_true (List.all_eq_true.mp q.stops e he), of_decide_eq_true (List.all_eq_true.mp q.paused e he)⟩
  request := q.request
  blocked := q.blocked

/-- What a loan is, beside what ended items, sessions and regions leave with its tenant. -/
def Tenant.standing (x : Tenant) : Tenant :=
  { x with ledger := [], ledgerResv := [], discLedger := 0, extents := [], stopWait := none }

/-- No loan changed, no port went on or off loan, and nothing came in hand beside items. -/
structure LoansKept (s t : State) : Prop where
  calm : Calm s → Calm t
  terms : ∀ n, n ≠ 0 → (t.getTenants n).standing = (s.getTenants n).standing
  owner : ∀ p, (t.getUsb p).loanOwner = (s.getUsb p).loanOwner

theorem LoansKept.refl (s : State) : LoansKept s s := ⟨id, fun _ _ => rfl, fun _ => rfl⟩

theorem LoansKept.trans {s t u : State} (h : LoansKept s t) (k : LoansKept t u) : LoansKept s u :=
  ⟨k.calm ∘ h.calm, fun n hn => (k.terms n hn).trans (h.terms n hn), fun p => (k.owner p).trans (h.owner p)⟩

theorem LoansKept.foldl {α : Type} {f : State → α → State} (h : ∀ s x, LoansKept s (f s x)) (l : List α) (s : State) :
    LoansKept s (l.foldl f s) := by
  induction l generalizing s with
  | nil => exact .refl s
  | cons x l ih => exact (h s x).trans (ih _)

theorem LoansKept.ite {s a b : State} {c : Prop} [Decidable c] (h : LoansKept s a) (k : LoansKept s b) : LoansKept s (if c then a else b) := by
  split <;> assumption

theorem Calm.eff {m : Nat} {s t : State} (h : Calm s) (e : Eff m s t) (c : m &&& 0x3140280 = 0) : Calm t := by
  have b : ∀ i, (0x3140280 : Nat).testBit i = true → m.testBit i = false := by
    intro i hi
    have := congrArg (Nat.testBit · i) c
    simpa [hi] using this
  obtain ⟨h1, h2, h3, h4, h5, h6, h7, h8, h9⟩ := h
  rw [← e.vault (b _ rfl)] at h1 h2 h3
  rw [← e.mov (b _ rfl)] at h4
  rw [← e.flt (b _ rfl)] at h5
  rw [← e.items (b _ rfl)] at h6
  rw [← e.tenants (b _ rfl)] at h7
  rw [← e.dps (b _ rfl)] at h8 h9
  exact ⟨h1, h2, h3, h4, h5, h6, h7, h8, h9⟩

theorem Eff.loansKept {m : Nat} {s t : State} (e : Eff m s t) (c : m &&& 0x3140281 = 0) : LoansKept s t := by
  have b : ∀ i, (0x3140281 : Nat).testBit i = true → m.testBit i = false := by
    intro i hi
    have := congrArg (Nat.testBit · i) c
    simpa [hi] using this
  have c' : m &&& 0x3140280 = 0 := by
    have : (0x3140280 : Nat) = 0x3140281 &&& 0x3140280 := rfl
    rw [this, ← Nat.and_assoc, c, Nat.zero_and]
  refine ⟨fun h => h.eff e c', fun n _ => ?_, fun p => ?_⟩
  · unfold State.getTenants
    rw [e.tenants (b _ rfl)]
  · unfold State.getUsb
    rw [e.usb (b _ rfl)]

/-! ### Updates of single units -/

section
variable (s : State) (k : Nat)

theorem State.modUsb_loansKept {f : PortUsb → PortUsb} (hf : ∀ u, (f u).loanOwner = u.loanOwner := by exact fun _ => rfl) :
    LoansKept s (s.modUsb k f) := by
  refine ⟨fun h => h.eff (s.modUsb_eff k f) rfl, fun _ _ => rfl, fun p => ?_⟩
  by_cases hp : p = k
  · rw [hp, State.getUsb_modUsb_same, hf]
  · rw [State.getUsb_modUsb_other _ _ _ hp]

theorem Calm.tenant {s : State} (h : Calm s) (n : Nat) : (s.getTenants n).stopWait = none ∧ (s.getTenants n).heldItems = [] := by
  rcases SMap.get_mem (d := Tenant.reset) s.tenants n with hm | hm
  · exact h.waits _ hm
  · unfold State.getTenants
    rw [hm]
    exact ⟨rfl, rfl⟩

theorem Calm.modTenants {s : State} (h : Calm s) {f : Tenant → Tenant}
    (hs : ∀ x, (f x).stopWait = x.stopWait ∨ (f x).stopWait = none := by exact fun _ => .inl rfl)
    (hh : ∀ x, (f x).heldItems = x.heldItems := by exact fun _ => rfl) : Calm (s.modTenants k f) := by
  refine ⟨h.ended, h.jobs, h.captures, h.chans, h.owed, h.items, fun e he => ?_, h.request, h.blocked⟩
  rcases SMap.mem_put (d := Tenant.reset) he with hm | ⟨rfl, -⟩
  · exact h.waits e hm
  · have stopped := hs (s.getTenants k)
    rw [(h.tenant k).1, or_self] at stopped
    exact ⟨stopped, (hh _).trans (h.tenant k).2⟩

theorem State.modTenants_loansKept {f : Tenant → Tenant} (ht : ∀ x, (f x).standing = x.standing := by exact fun _ => rfl)
    (hs : ∀ x, (f x).stopWait = x.stopWait ∨ (f x).stopWait = none := by exact fun _ => .inl rfl) : LoansKept s (s.modTenants k f) := by
  refine ⟨fun h => h.modTenants k hs fun x => (congrArg Tenant.heldItems (ht x) :), fun n _ => ?_, fun _ => rfl⟩
  by_cases hk : n = k
  · rw [hk, State.getTenants_modTenants_same, ht]
  · rw [State.getTenants_modTenants_other _ _ _ hk]

theorem State.modVault_loansKept {f : Vault → Vault}
    (hf : ∀ v, (f v).ended = v.ended ∧ (f v).jobs = v.jobs ∧ (f v).captures = v.captures := by exact fun _ => ⟨rfl, rfl, rfl⟩) :
    LoansKept s (s.modVault f) := by
  refine ⟨fun h => ?_, fun _ _ => rfl, fun _ => rfl⟩
  obtain ⟨he, hj, hc⟩ := hf s.vault
  exact ⟨he.trans h.ended, hj.trans h.jobs, hc.trans h.captures, h.chans, h.owed, h.items, h.waits, h.request, h.blocked⟩

theorem State.setItems_loansKept {i : Item} (hi : Calm s → i.op < 0x60 ∧ i.principal ≠ hubPrincipal) : LoansKept s (s.setItems k i) := by
  refine ⟨fun h => ⟨h.ended, h.jobs, h.captures, h.chans, h.owed, fun e he => ?_, h.waits, h.request, h.blocked⟩, fun _ _ => rfl, fun _ => rfl⟩
  rcases SMap.mem_put (d := Item.reset) he with hm | ⟨rfl, -⟩
  · exact h.items e hm
  · exact hi h

theorem Calm.item {s : State} (h : Calm s) (k : Nat) : (s.getItems k).op < 0x60 ∧ (s.getItems k).principal ≠ hubPrincipal := by
  rcases SMap.get_mem (d := Item.reset) s.items k with hm | hm
  · exact h.items _ hm
  · unfold State.getItems
    rw [hm]
    decide

/-- An item keeps its opcode and its principal. -/
theorem State.modItems_loansKept {f : Item → Item}
    (hf : ∀ i, (f i).op = i.op ∧ (f i).principal = i.principal := by exact fun _ => ⟨rfl, rfl⟩) :
    LoansKept s (s.modItems k f) := by
  refine s.setItems_loansKept k fun h => ?_
  rw [(hf _).1, (hf _).2]
  exact h.item k

end

/-! ### Items that end (05 R155, R159) -/

theorem State.dropItem_loansKept (s : State) (k : Nat) (i : Item) : LoansKept s (s.dropItem k i) := by
  unfold State.dropItem
  refine (s.setItems_loansKept k (i := Item.reset) fun _ => by decide).trans ?_
  dsimp only
  have unqueued : LoansKept (s.setItems k Item.reset) (match i.pipe with
      | some n => (s.setItems k Item.reset).unqueue n k
      | none => s.setItems k Item.reset) := by
    split
    · exact (State.unqueue_eff ..).loansKept rfl
    · exact .refl _
  refine unqueued.trans (.ite (.refl _) ?_)
  exact .trans (State.modUsb_loansKept ..) ((State.modProt_eff ..).loansKept rfl)

theorem State.toLedger_loansKept (s : State) (n t : Nat) (e : LedgerEntry) : LoansKept s (s.toLedger n t e) :=
  .trans (s.modTenants_loansKept t) ((State.modSess_eff ..).loansKept rfl)

theorem State.finishB_loansKept (s : State) (k out det : Nat) (body : Bytes) : LoansKept s (s.finishB k out det body) := by
  unfold State.finishB
  split
  case h_1 => exact .refl s
  case h_2 i hi =>
    have dropped := s.dropItem_loansKept k i
    dsimp only
    split
    · rename_i hub
      refine ⟨fun h => absurd hub ?_, dropped.terms, dropped.owner⟩
      rw [← State.getItems_of_item? hi]
      exact (h.item k).2
    · refine dropped.trans (.ite ?_ (State.toLedger_loansKept ..))
      exact (State.modSess_eff ..).loansKept rfl

theorem State.finish_loansKept (s : State) (k out det : Nat) : LoansKept s (s.finish k out det) := s.finishB_loansKept k out det []

theorem State.clearTt_loansKept (s : State) (n : Nat) : LoansKept s (s.clearTt n) := by
  unfold State.clearTt
  exact .ite (State.modUsb_loansKept ..) (.refl s)

theorem State.giveUpSplit_loansKept (s : State) (out k : Nat) (i : Item) : LoansKept s (s.giveUpSplit out k i) := by
  unfold State.giveUpSplit State.dropSplit
  split
  · refine .ite (.ite ?_ (.refl s)) (.refl s)
    exact (s.clearTt_loansKept _).trans ((State.modPipes_eff ..).loansKept rfl)
  · exact .refl s

theorem State.causeItem_loansKept (s : State) (out det k : Nat) : LoansKept s (s.causeItem out det k) := by
  unfold State.causeItem
  split
  · exact .refl s
  · refine (s.giveUpSplit_loansKept ..).trans (.ite ?_ (State.finish_loansKept ..))
    exact State.modItems_loansKept ..

theorem State.causeItems_loansKept (s : State) (out det : Nat) (ks : List Nat) : LoansKept s (s.causeItems out det ks) :=
  .foldl (fun s k => s.causeItem_loansKept out det k) ks s

theorem State.endCause_loansKept (s : State) (det k : Nat) : LoansKept s (s.endCause det k) := by
  unfold State.endCause
  have caused : LoansKept s (s.modItems k (fun i => { i with cause := some (bestCause i.cause (0x07, det)) })) :=
    s.modItems_loansKept k
  dsimp only
  split
  · exact caused.trans (State.giveUpSplit_loansKept ..)
  · exact caused

/-! ### Items that wait for others (05 R147, R149, R151; 07 R210) -/

theorem State.settleEnding_loansKept (s : State) : LoansKept s s.settleEnding := by
  refine .foldl (fun s e => .ite (.refl s) (.foldl (fun s k => ?_) _ s)) _ s
  split
  · split
    · exact .ite (.refl s) (s.finish_loansKept ..)
    · exact .refl s
  · exact .refl s

theorem State.settleCloses_loansKept (s : State) : LoansKept s s.settleCloses :=
  .foldl (fun s _ => .ite (.refl s) (s.finish_loansKept ..)) _ s

theorem State.settleStops_loansKept (s : State) : LoansKept s s.settleStops := by
  have stopped : ∀ (s : State) (t : Nat), LoansKept s (s.modTenants t (fun x => { x with stopWait := none })) := fun s t =>
    s.modTenants_loansKept t (hs := fun _ => .inr rfl)
  refine .foldl (fun s e => ?_) _ s
  split
  · exact .ite (.ite ((s.finish_loansKept ..).trans (stopped ..)) (.refl s)) (stopped ..)
  · exact .refl s

theorem State.settleWaits_loansKept (s : State) : LoansKept s s.settleWaits :=
  (s.settleEnding_loansKept.trans (State.settleCloses_loansKept _)).trans (State.settleStops_loansKept _)

/-! ### The pass after a command, in a calm state -/

/-- A round of the pass does no more than that items which waited end. -/
theorem State.settleOnce_calm {s : State} (h : Calm s) : s.settleOnce = s.settleWaits := by
  have none_of : ∀ p : Nat → Item → Bool, (∀ k i, i.op < 0x60 → p k i = false) → s.itemsWhere p = [] := fun p hp =>
    congrArg _ (List.filter_eq_nil_iff.mpr fun e he => by simp [hp e.1 e.2 (h.items e he).1])
  have h1 : s.hubEnds = s := by
    have emptied : s.modVault (fun v => { v with ended := [] }) = s := by rw [← h.ended]; rfl
    unfold State.hubEnds
    simp only [h.ended, List.foldl_nil, emptied]
  have h2 : s.jobPass = s := by unfold State.jobPass; rw [h.jobs]; rfl
  have h3 : s.captPass = s := by unfold State.captPass; rw [h.captures]; rfl
  have h4 : s.vaultPass = s := by
    unfold State.vaultPass
    rw [none_of _ fun k i hi => by simp; omega]
    rfl
  have h5 : s.templatePass = s := by
    unfold State.templatePass
    rw [none_of _ fun k i hi => by simp; omega]
    rfl
  have h6 : s.chanPass = s := by unfold State.chanPass; rw [h.chans]; rfl
  unfold State.settleOnce
  rw [h1, h2, h3, h4, h5, h6]

/-- What a pass rests on: the rounds leave every loan, and of the state beside items, sessions and ports only what they may. -/
theorem State.settleRounds_calm {s : State} (h : Calm s) (n : Nat) :
    LoansKept s (times State.settleOnce n s) ∧ (times State.settleOnce n s).coll = s.coll := by
  induction n generalizing s with
  | zero => exact ⟨.refl s, rfl⟩
  | succ n ih =>
    have round := State.settleWaits_loansKept s
    obtain ⟨rest, coll⟩ := ih (round.calm h)
    rw [times, State.settleOnce_calm h]
    exact ⟨round.trans rest, coll.trans (s.settleWaits_eff.coll rfl)⟩

theorem State.setOwner_owner (s : State) (n : Nat) (ps : List Nat) (p : Nat) :
    ((s.setOwner n ps).getUsb p).loanOwner = if p ∈ ps then n else (s.getUsb p).loanOwner := by
  unfold State.setOwner
  induction ps generalizing s with
  | nil => simp
  | cons q ps ih =>
    rw [List.foldl_cons, ih]
    by_cases hp : p = q
    · subst hp
      simp
    · simp [hp, State.getUsb_modUsb_other]

/-- A port is freed where its recall has ended: it lies outside its tenant's set. -/
theorem State.freeRecalled_owner (s : State) (p : Nat) :
    (s.freeRecalled.getUsb p).loanOwner = (s.getUsb p).loanOwner ∨ ((s.getUsb p).loanOwner ≠ 0 ∧ (s.freeRecalled.getUsb p).loanOwner = 0 ∧
      bitOf (s.getTenants (s.getUsb p).loanOwner).ports.toNat (p - 1) = false) := by
  unfold State.freeRecalled
  generalize allPorts = l
  induction l generalizing s with
  | nil => exact .inl rfl
  | cons q l ih =>
    rw [List.foldl_cons]
    dsimp only
    split
    · exact ih s
    · rename_i stays
      simp only [not_or, Bool.not_eq_true] at stays
      obtain ⟨owned, -, bit, -⟩ := stays
      by_cases hp : p = q
      · subst hp
        have freed : ((s.setOwner 0 [p]).getUsb p).loanOwner = 0 := by simp [State.setOwner_owner]
        rcases ih (s.setOwner 0 [p]) with h | ⟨h, -⟩
        · exact .inr ⟨owned, h.trans freed, bit⟩
        · exact absurd freed h
      · have other : ((s.setOwner 0 [q]).getUsb p).loanOwner = (s.getUsb p).loanOwner := by simp [State.setOwner_owner, hp]
        have terms : (s.setOwner 0 [q]).getTenants = s.getTenants := rfl
        have h := ih (s.setOwner 0 [q])
        rwa [other, terms] at h

/-- What the pass after a command does to loans in a calm state: ports outside their tenant's set go back to the operator. -/
structure Settled (s t : State) : Prop where
  terms : ∀ n, n ≠ 0 → (t.getTenants n).standing = (s.getTenants n).standing
  owner : ∀ p, (t.getUsb p).loanOwner = (s.getUsb p).loanOwner ∨ ((s.getUsb p).loanOwner ≠ 0 ∧ (t.getUsb p).loanOwner = 0 ∧
    bitOf (s.getTenants (s.getUsb p).loanOwner).ports.toNat (p - 1) = false)
  coll : t.coll = s.coll

/-- A port of its tenant's set stays on loan. -/
theorem Settled.owner_of_ports {s t : State} (h : Settled s t) {p n : Nat} (ho : (s.getUsb p).loanOwner = n)
    (hb : bitOf (s.getTenants n).ports.toNat (p - 1) = true) : (t.getUsb p).loanOwner = n := by
  rcases h.owner p with k | ⟨-, -, k⟩
  · exact k.trans ho
  · rw [ho, hb] at k
    cases k

theorem State.guardPass_calm {s : State} (h : Calm s) : s.guardPass = s := by
  unfold State.guardPass
  rw [h.request]
  simp [h.blocked]

theorem State.freeRecalled_settled (s : State) : Settled s s.freeRecalled where
  terms n _ := by unfold State.getTenants; rw [s.freeRecalled_eff.tenants rfl]
  owner := s.freeRecalled_owner
  coll := s.freeRecalled_eff.coll rfl

theorem LoansKept.settled {s t u : State} (h : LoansKept s t) (k : Settled t u) (hc : t.coll = s.coll) : Settled s u where
  terms n hn := (k.terms n hn).trans (h.terms n hn)
  owner p := by
    rcases k.owner p with e | ⟨ho, hz, hb⟩
    · exact .inl (e.trans (h.owner p))
    · rw [h.owner p] at ho hb
      have ports : (t.getTenants (s.getUsb p).loanOwner).ports = (s.getTenants (s.getUsb p).loanOwner).ports :=
        (congrArg Tenant.ports (h.terms _ ho) :)
      exact .inr ⟨ho, hz, ports ▸ hb⟩
  coll := k.coll.trans hc

theorem Settled.eff {m : Nat} {s t u : State} (h : Settled s t) (e : Eff m t u) (hu : m.testBit 0 = false) (ht : m.testBit 9 = false)
    (hc : m.testBit 17 = false) : Settled s u where
  terms n hn := by unfold State.getTenants; rw [e.tenants ht]; exact h.terms n hn
  owner p := by unfold State.getUsb; rw [e.usb hu]; exact h.owner p
  coll := (e.coll hc).trans h.coll

theorem State.resumedPass_calm {s : State} (h : Calm s) : s.resumedPass = s := by
  unfold State.resumedPass
  rw [List.filter_eq_nil_iff.mpr fun e he => by simp [(h.waits e he).2]]
  rfl

theorem State.escOwed_calm {s : State} (h : Calm s) : s.escOwed = s := by
  have emptied : s.modFlt (fun f => { f with escDue := [] }) = s := by rw [← h.owed]; rfl
  unfold State.escOwed
  simp only [h.owed, List.foldl_nil, emptied]

theorem State.settle_calm {s : State} (h : Calm s) : Settled s s.settle := by
  obtain ⟨rounds, coll⟩ := State.settleRounds_calm h 3
  have calm := rounds.calm h
  have freed : Calm (times State.settleOnce 3 s).freeRecalled.pllPass :=
    (calm.eff (State.freeRecalled_eff _) rfl).eff (State.pllPass_eff _) rfl
  unfold State.settle
  rw [State.resumedPass_calm h, State.escOwed_calm calm, State.guardPass_calm freed]
  exact (rounds.settled (State.freeRecalled_settled _) coll).eff (State.pllPass_eff _) rfl rfl rfl

end Sys2Proof.Machine
end

section
/-!
PROOFS. A port served while no result of a split waits: transactions and requests start, and no item ends (07 R222; 08 R238, R242).
-/
namespace Sys2Proof

/-! ### Results of splits that wait -/

section
open Machine
variable {s : State} (h : NoResult s)
include h

theorem NoResult.eff {m : Nat} {t : State} (e : Eff m s t) (c : m.testBit 6 = false) : NoResult t := by
  unfold NoResult
  rw [e.pipes c]
  exact h

theorem NoResult.wireRes (n : Nat) : (s.getPipes n).wireRes = none := by
  rcases SMap.get_mem (d := Pipe.reset) s.pipes n with hm | hm
  · exact of_decide_eq_true (List.all_eq_true.mp h _ hm)
  · unfold State.getPipes
    rw [hm]
    rfl

theorem NoResult.setPipes (n : Nat) {x : Pipe} (hx : x.wireRes = none) : NoResult (s.setPipes n x) := by
  refine List.all_eq_true.mpr fun e he => ?_
  rcases SMap.mem_put (d := Pipe.reset) he with hm | ⟨rfl, -⟩
  · exact List.all_eq_true.mp h e hm
  · exact decide_eq_true hx

theorem NoResult.modPipes (n : Nat) {f : Pipe → Pipe} (hf : ∀ x, (f x).wireRes = x.wireRes) : NoResult (s.modPipes n f) :=
  h.setPipes n ((hf _).trans (h.wireRes n))

theorem NoResult.when {t : State} {c : Prop} [Decidable c] (k : NoResult s → NoResult t) : NoResult (if c then t else s) := by
  split
  exacts [k h, h]

end

namespace Machine

/-! ### What the scheduler starts -/

/-- Transactions and requests started: no result of a split waits, and only ports, galleries and pipes changed. -/
structure Started (s t : State) : Prop where
  noResult : NoResult t
  eff : Eff 97 s t

section
variable {s : State} (h : NoResult s)
include h

theorem Started.refl : Started s s := ⟨h, .refl ..⟩

theorem State.sendAsk_started (p : Nat) : Started s (s.sendAsk p) := by
  refine ⟨?_, s.sendAsk_eff p⟩
  unfold State.sendAsk
  dsimp only
  split
  · exact h
  · refine NoResult.eff (NoResult.setPipes (h.when fun k => k.eff (State.npTake_eff ..) rfl) _ ?_)
      ((State.modUsb_eff ..).trans (.mono (State.emit_eff ..) (by decide))) rfl
    split <;> rfl

theorem State.startXact_started (n st b : Nat) : Started s (s.startXact n st b) := by
  refine ⟨?_, s.startXact_eff n st b⟩
  have used : ∀ b, NoResult (s.useBus n st b) := fun b => h.eff (s.useBus_eff n st b) rfl
  unfold State.startXact
  dsimp only
  refine NoResult.when ?_ fun k => k.eff (State.npTake_eff ..) rfl
  refine NoResult.when ?_ fun k => k.eff (State.modUsb_eff ..) rfl
  refine NoResult.when ?_ fun k => k.modPipes _ fun _ => by rfl
  exact (used _).modPipes _ fun _ => by rfl

theorem State.issue_started (p n st b : Nat) : Started s (s.issue p n st b) := by
  have used : ∀ k, NoResult (s.useBus n k b) := fun k => h.eff (s.useBus_eff n k b) rfl
  have went : ∀ k f, Eff 97 s ((s.useBus n k b).modPipes n f) := fun k f =>
    (Eff.mono (s.useBus_eff n k b) (by decide)).trans (.mono (State.modPipes_eff ..) (by decide))
  unfold State.issue
  split
  · exact State.sendAsk_started h p
  split
  · exact ⟨(used 6).modPipes _ fun _ => rfl, went 6 _⟩
  split
  · rw [h.wireRes n]
    exact ⟨(used 4).modPipes _ fun _ => rfl, went 4 _⟩
  · exact State.startXact_started h n st b

end

theorem Started.trans {s t u : State} (h : Started s t) (k : Started t u) : Started s u := ⟨k.noResult, h.eff.trans k.eff⟩

theorem Started.foldl {α : Type} {f : State → α → State} (hf : ∀ s x, NoResult s → Started s (f s x)) (l : List α) {s : State}
    (h : NoResult s) : Started s (l.foldl f s) := by
  induction l generalizing s with
  | nil => exact .refl h
  | cons x l ih => exact (hf s x h).trans (ih (hf s x h).noResult)

theorem State.schedule_started (p f : Nat) {s : State} (h : NoResult s) : Started s (s.schedule p f) := by
  induction f generalizing s with
  | zero => exact .refl h
  | succ f ih =>
    rw [State.schedule]
    split
    · exact .refl h
    dsimp only
    split
    · refine .foldl (fun s r h => ?_) _ h
      split
      · exact ⟨h.eff (State.npWait_eff ..) rfl, .mono (State.npWait_eff ..) (by decide)⟩
      · exact .refl h
    · exact (State.issue_started h ..).trans (ih (State.issue_started h ..).noResult)

theorem State.serve_started (p : Nat) {s : State} (h : NoResult s) : Started s (s.serve p) := by
  have own := State.schedule_started p (s.runs p) h
  unfold State.serve
  dsimp only
  split
  · exact own
  · exact own.trans (.foldl (fun s q h => State.schedule_started q (s.runs q) h) _ own.noResult)

end Machine

end Sys2Proof
end

section
/-!
PROOFS. The actions on a loan, the end of a lease and the end of a loan's last item (03 R83 to R95, R99; 16 R412).
-/
namespace Sys2Proof.Machine

/-! ### What goes with a port or a session leaves loans as they are (03 R85, R90; 05 R145, R160) -/

section
variable (s : State)

theorem State.closeAll_loansKept (out det : Nat) (ns : List Nat) : LoansKept s (s.closeAll out det ns) := by
  refine .foldl (fun s n => .ite ?_ (.refl s)) ns s
  exact .trans ((State.modGroup_eff ..).loansKept rfl) (State.causeItems_loansKept ..)

theorem State.recallPort_loansKept (t p : Nat) : LoansKept s (s.recallPort t p) :=
  ((s.causeItems_loansKept ..).trans (State.closeAll_loansKept ..)).trans ((State.dropPend_eff ..).loansKept rfl)

theorem State.deliverLedger_loansKept (t : Nat) : LoansKept s (s.deliverLedger t) := by
  have delivered : ∀ (s : State) (n b : Nat), LoansKept s (s.deliverBlock n t b) := fun s n b =>
    .trans (s.modTenants_loansKept t) (((State.modSess_eff ..).trans (State.sessEvent_eff ..)).loansKept rfl)
  unfold State.deliverLedger
  split
  · exact .refl s
  · exact .foldl (fun s b => .ite (.refl s) (delivered ..)) _ s

theorem State.renewHouse_loansKept (t : Nat) : LoansKept s (s.renewHouse t) :=
  .ite ⟨fun h => h.modTenants 0,
    fun _ hn => congrArg Tenant.standing (State.getTenants_modTenants_other _ _ _ hn), fun _ => rfl⟩ (.refl s)

theorem State.closeSession_loansKept (n : Nat) : LoansKept s (s.closeSession n) := by
  unfold State.closeSession
  refine .trans (.trans ?_ (State.deliverLedger_loansKept ..)) (State.renewHouse_loansKept ..)
  refine .trans (.trans ?_ ((State.modMem_eff ..).loansKept rfl)) ((State.modSess_eff ..).loansKept rfl)
  exact .ite (s.modTenants_loansKept _) ((State.modMem_eff ..).loansKept rfl)

theorem State.giveUp_loansKept (n : Nat) : LoansKept s (s.giveUp n) := .ite (s.closeSession_loansKept n) (.refl s)

theorem State.endSession_loansKept (n det reason : Nat) (loss broken : Bool) : LoansKept s (s.endSession n det reason loss broken) := by
  unfold State.endSession
  refine .trans ?_ (State.settleWaits_loansKept _)
  refine .trans (.trans ?_ ((State.dropFrames_eff ..).loansKept rfl)) ((State.freeLocks_eff ..).loansKept rfl)
  refine .trans ?_ (.foldl (fun s k => s.endCause_loansKept det k) _ _)
  exact .trans ((State.modSess_eff ..).loansKept rfl) (.foldl (fun s e => s.toLedger_loansKept ..) _ _)

theorem State.freeBlock_loansKept (t b : Nat) : LoansKept s (s.freeBlock t b) := by
  unfold State.freeBlock
  split
  · exact .trans (s.modTenants_loansKept t) ((State.modMem_eff ..).loansKept rfl)
  · exact .refl s

theorem State.dropLedger_loansKept (t : Nat) : LoansKept s (s.dropLedger t) := by
  unfold State.dropLedger
  refine .trans ?_ (State.modTenants_loansKept _ t)
  exact .foldl (fun s (b : Nat × Nat) => s.freeBlock_loansKept t b.1) _ s

/-! ### Allotments (10 R275, R280) -/

theorem State.nvmePump_loansKept (n : Nat) : LoansKept s (s.nvmePump n) := by
  induction n generalizing s with
  | zero => exact .refl s
  | succ n ih =>
    refine .ite (.refl s) ?_
    split
    · exact .trans (.trans s.modVault_loansKept ((State.emit_eff ..).loansKept rfl)) (ih _)
    · exact .refl s

theorem State.nvme_loansKept (c : Nvme) (fua : Bool) : LoansKept s (s.nvme c fua) := by
  refine .ite (.refl s) (.ite ?_ ?_)
  · exact .trans s.modVault_loansKept ((State.emit_eff ..).loansKept rfl)
  · exact .trans s.modVault_loansKept (State.nvmePump_loansKept ..)

theorem State.clearExts_loansKept (l : List (Nat × Nat)) (item : Option Nat) : LoansKept s (s.clearExts l item) := by
  unfold State.clearExts
  dsimp only
  exact .trans s.modVault_loansKept (.foldl (fun s _ => s.nvme_loansKept ..) _ _)

theorem State.setAllot_loansKept {t : Nat} (ht : t ≠ 0) (mib : Nat) : LoansKept s (s.setAllot t mib).1 := by
  have put : ∀ (s : State) (e : List (Nat × Nat)), LoansKept s (s.modTenants t (fun x => { x with extents := e })) := fun s _ =>
    s.modTenants_loansKept t
  unfold State.setAllot
  simp only [ht, if_false]
  split
  · exact .refl s
  split
  · split
    · split
      · exact .refl s
      · exact put ..
    · exact .refl s
  split
  · exact .refl s
  · exact (s.clearExts_loansKept ..).trans (put ..)

end

end Sys2Proof.Machine
end

section
/-!
PROOFS. What a grant, a change, a recall, a resume, the end of a lease and the end of a loan's last item do to the loan, before the pass
that follows (03 R83 to R95, R99; 16 R412).
-/
namespace Sys2Proof.Machine

theorem tenantOk_ne_zero {n : Nat} (h : tenantOk n = true) : n ≠ 0 := by
  simp only [tenantOk, Bool.and_eq_true, decide_eq_true_eq] at h
  omega

/-! ### Terms in force (03 R83, R87) -/

/-- A tenant with every proposed term in force. -/
def Tenant.withTerms (s : State) (n : Nat) (x : Tenant) : Tenant :=
  { x with
    ports := BitVec.ofNat 96 (s.cfg 0x6001 n), power := s.cfg 0x6002 n, periodic := s.cfg 0x6003 n, vaultMib := s.cfg 0x6004 n,
    share := s.cfg 0x6005 n }

theorem bitOf_eq_testBit (v n : Nat) : bitOf v n = v.testBit n := by
  unfold bitOf
  rw [Nat.testBit_eq_decide_div_mod_eq]

/-- A port of a proposed set is a port of the set once it is in force. -/
theorem bitOf_ports_of_proposed {s : State} {n p : Nat} (h : p ∈ s.proposed n) :
    bitOf (BitVec.ofNat 96 (s.cfg 0x6001 n)).toNat (p - 1) = true := by
  obtain ⟨hp, hb⟩ := List.mem_filter.mp h
  have hlt : p - 1 < 96 := by simp [allPorts] at hp; omega
  rw [bitOf_eq_testBit, BitVec.toNat_ofNat, Nat.testBit_mod_two_pow, decide_eq_true hlt, Bool.true_and, ← bitOf_eq_testBit]
  exact hb

/-- Every proposed term is in force, the proposed ports are on loan, and nothing came in hand. -/
structure InForce (s : State) (n : Nat) (t : State) : Prop where
  calm : Calm s → Calm t
  terms : (t.getTenants n).standing = ((s.getTenants n).withTerms s n).standing
  owner : ∀ p ∈ s.proposed n, (t.getUsb p).loanOwner = n

theorem State.applyTerms_inForce (s : State) {n : Nat} (hn : n ≠ 0) : InForce s n (s.applyTerms n) := by
  have kept := s.setAllot_loansKept hn (s.cfg 0x6004 n)
  have cfg : ∀ i j, (s.setAllot n (s.cfg 0x6004 n)).1.cfg i j = s.cfg i j := (s.setAllot_eff ..).cfg rfl
  have proposed : ∀ f, ((s.setAllot n (s.cfg 0x6004 n)).1.modTenants n f).proposed n = s.proposed n := fun _ => congrArg portsOfSet (cfg ..)
  unfold State.applyTerms
  dsimp only
  rw [proposed]
  simp only [cfg]
  refine ⟨fun h => Calm.eff (m := 1) ((kept.calm h).modTenants n) (State.setOwner_eff ..) rfl, ?_, fun p hp => ?_⟩
  · unfold State.getTenants
    rw [(State.setOwner_eff ..).tenants rfl]
    refine (congrArg Tenant.standing (State.getTenants_modTenants_same ..)).trans ?_
    exact congrArg (Tenant.withTerms s n) (kept.terms n hn)
  · rw [State.setOwner_owner, if_pos hp]

/-! ### What the actions do to the loan (03 R83, R85, R90; 16 R412) -/

theorem State.loanTo_tenants (s : State) (n : Nat) (l : LoanState) : (s.loanTo n l).tenants = (s.modTenants n (fun x => { x with loan := l })).tenants :=
  (State.tenantEvent_eff ..).tenants rfl

theorem State.loanTo_tenant (s : State) (n : Nat) (l : LoanState) : (s.loanTo n l).getTenants n = { s.getTenants n with loan := l } :=
  (congrArg (SMap.get Tenant.reset · n) (s.loanTo_tenants n l)).trans (State.getTenants_modTenants_same ..)

theorem Calm.loanTo {s : State} (h : Calm s) (n : Nat) (l : LoanState) : Calm (s.loanTo n l) :=
  Calm.eff (m := 256) (h.modTenants n) (State.tenantEvent_eff ..) rfl

theorem State.loanTo_usb (s : State) (n : Nat) (l : LoanState) : (s.loanTo n l).usb = s.usb := (State.tenantEvent_eff ..).usb rfl

/-- A loan as a grant makes it. -/
def Tenant.granted (x : Tenant) : Tenant :=
  { x with generation := x.generation + 1, nextBlock := 0, stopped := false, stopWait := none, pausedBy := [], lastRefusal := 0, loan := .active }

/-- The state a grant leaves. -/
def State.granted (s : State) (n : Nat) : State :=
  ((s.applyTerms n).modTenants n (fun x => { x with
    generation := x.generation + 1, nextBlock := 0, stopped := false, stopWait := none, pausedBy := [], lastRefusal := 0 })).loanTo n .active

theorem State.grant_idle {s : State} {n : Nat} (hl : (s.getTenants n).loan = .idle) (hc : s.termsCheck n false = 0) :
    s.grant n = (s.granted n, 0) := by
  unfold State.grant
  rw [if_neg (by simp [hl])]
  simp only [hc]
  rfl

section
variable {s : State} {n : Nat} (hn : n ≠ 0)
include hn

theorem State.granted_calm (h : Calm s) : Calm (s.granted n) :=
  (Calm.modTenants n ((s.applyTerms_inForce hn).calm h) (hs := fun _ => .inr rfl)).loanTo n .active

theorem State.granted_terms : ((s.granted n).getTenants n).standing = ((s.getTenants n).withTerms s n).granted.standing := by
  unfold State.granted
  rw [State.loanTo_tenant, State.getTenants_modTenants_same]
  exact congrArg (fun x : Tenant => x.granted.standing) (s.applyTerms_inForce hn).terms

theorem State.granted_owner {p : Nat} (hp : p ∈ s.proposed n) : ((s.granted n).getUsb p).loanOwner = n := by
  unfold State.granted State.getUsb
  rw [State.loanTo_usb]
  exact (s.applyTerms_inForce hn).owner p hp

end

/-- The ports that leave a loan as it changes (03 R85). -/
def State.leaving (s : State) (n : Nat) : List Nat :=
  (portsOfSet (s.getTenants n).ports.toNat).filter (fun p => !((s.proposed n).contains p))

/-- The state a change leaves. -/
def State.changed (s : State) (n : Nat) : State := ((s.leaving n).foldl (fun s p => s.recallPort n p) (s.applyTerms n)).freeRecalled

theorem State.change_active {s : State} {n : Nat} (hl : (s.getTenants n).loan = .active) (hc : s.termsCheck n true = 0) :
    s.change n = (s.changed n, 0) := by
  unfold State.change
  rw [if_neg (by simp [hl])]
  simp only [hc]
  rfl

theorem State.changed_inForce (s : State) {n : Nat} (hn : n ≠ 0) : InForce s n (s.changed n) := by
  have applied := s.applyTerms_inForce hn
  have recalled : LoansKept (s.applyTerms n) ((s.leaving n).foldl (fun s p => s.recallPort n p) (s.applyTerms n)) :=
    .foldl (fun s p => s.recallPort_loansKept n p) _ _
  have freed := State.freeRecalled_settled ((s.leaving n).foldl (fun s p => s.recallPort n p) (s.applyTerms n))
  have terms := (recalled.terms n hn).trans applied.terms
  refine ⟨fun h => (recalled.calm (applied.calm h)).eff (State.freeRecalled_eff _) rfl, (freed.terms n hn).trans terms, fun p hp => ?_⟩
  refine freed.owner_of_ports ((recalled.owner p).trans (applied.owner p hp)) ?_
  have ports := (congrArg Tenant.ports terms :)
  exact (congrArg (fun b : BitVec 96 => bitOf b.toNat (p - 1)) ports).trans (bitOf_ports_of_proposed hp)

/-- A recall: the loan is Recalling, and its items end. -/
structure Recalling (s : State) (n : Nat) (t : State) : Prop where
  calm : Calm s → Calm t
  loan : (t.getTenants n).loan = .recalling
  coll : t.coll = s.coll

theorem State.recall_recalling (s : State) {n : Nat} (hn : n ≠ 0) : Recalling s n (s.recall n) := by
  have ended : LoansKept (s.loanTo n .recalling) (s.recall n) := State.causeItems_loansKept ..
  refine ⟨fun h => ended.calm (h.loanTo n _), ?_, ?_⟩
  · exact (congrArg Tenant.loan (ended.terms n hn) :).trans (congrArg Tenant.loan (s.loanTo_tenant n _))
  · unfold State.recall
    rw [(State.causeItems_eff ..).coll rfl]
    exact (State.tenantEvent_eff ..).coll rfl

theorem State.endLoan_held {s : State} {n : Nat} (hl : (s.getTenants n).loan = .active ∨ (s.getTenants n).loan = .paused) :
    s.endLoan n = (s.recall n, 0) := by
  unfold State.endLoan
  rcases hl with h | h <;> rw [h]

/-- The state a resume leaves. -/
def State.unpaused (s : State) (n : Nat) : State :=
  let s := (s.modTenants n (fun x => { x with pausedBy := [] })).loanTo n .active
  (portsOfSet (s.getTenants n).ports.toNat).foldl State.serve s

theorem State.resumeLoan_paused {s : State} {n : Nat} (hl : (s.getTenants n).loan = .paused) (hf : s.faultsHandled n = true) :
    s.resumeLoan n = (s.unpaused n, 0) := by
  unfold State.resumeLoan
  rw [hl]
  exact if_pos hf

section
variable {s : State} {n : Nat} (h : NoResult s)
include h

theorem State.unpaused_started : Started ((s.modTenants n (fun x => { x with pausedBy := [] })).loanTo n .active) (s.unpaused n) :=
  .foldl (fun _ p h => State.serve_started p h) _ (NoResult.eff (m := 768) h (.trans (.mono (State.modTenants_eff ..) (by decide)) (State.loanTo_eff ..)) rfl)

theorem State.unpaused_calm (c : Calm s) : Calm (s.unpaused n) :=
  ((c.modTenants n).loanTo n .active).eff (State.unpaused_started h).eff rfl

theorem State.unpaused_tenant : (s.unpaused n).getTenants n = { s.getTenants n with pausedBy := [], loan := .active } := by
  unfold State.getTenants
  rw [(State.unpaused_started h).eff.tenants rfl]
  refine (State.loanTo_tenant _ n .active).trans ?_
  rw [State.getTenants_modTenants_same]
  rfl

end

/-! ### The end of a lease and of the last item (03 R90, R95, R99) -/

theorem State.locksLost_leaseExp (s : State) (t : Nat) : (s.locksLost t).coll.leaseExp = s.coll.leaseExp := by
  have broken : ∀ l : List Nat, StandingKept s (l.foldl (fun s n => s.setLock n { s.lock n with state := .broken }) s) := fun l =>
    .foldl (fun s n => s.setLock_standing n _) l s
  unfold State.locksLost
  dsimp only
  split
  · exact (congrArg Coll.leaseExp (broken _).coll :)
  · rw [State.collEvent_coll]
    exact (congrArg Coll.leaseExp (broken _).coll :)

theorem State.leaseOver_recalls {s : State} {n : Nat} (hn : n ≠ 0) (hl : (s.getTenants n).loan = .active ∨ (s.getTenants n).loan = .paused) :
    (Calm s → Calm (s.leaseOver n)) ∧ ((s.leaseOver n).getTenants n).loan = .recalling ∧ (s.leaseOver n).coll.leaseExp = true := by
  have house : ∃ u, LoansKept s u ∧ s.leaseOver n = (match (u.getTenants n).loan with
      | .active | .paused => ((u.collEvent (fun c => { c with leaseExp := true })).locksLost n).recall n
      | _ => u) := ⟨_, .ite (.refl s) ((s.locksLost_eff 0).loansKept rfl), rfl⟩
  obtain ⟨u, kept, lease⟩ := house
  have loan : (u.getTenants n).loan = (s.getTenants n).loan := (congrArg Tenant.loan (kept.terms n hn) :)
  have told : LoansKept u ((u.collEvent (fun c => { c with leaseExp := true })).locksLost n) :=
    .trans ((State.collEvent_eff ..).loansKept rfl) ((State.locksLost_eff ..).loansKept rfl)
  have recalled := ((u.collEvent (fun c => { c with leaseExp := true })).locksLost n).recall_recalling hn
  have recalls : s.leaseOver n = ((u.collEvent (fun c => { c with leaseExp := true })).locksLost n).recall n := by
    rw [lease, loan]
    rcases hl with h | h <;> rw [h]
  rw [recalls]
  refine ⟨fun h => recalled.calm (told.calm (kept.calm h)), recalled.loan, ?_⟩
  rw [recalled.coll, State.locksLost_leaseExp, State.collEvent_coll]

/-- A tenant without a loan's ports and terms. -/
def Tenant.cleared (x : Tenant) : Tenant :=
  { x with ports := 0, power := 0, periodic := 0, vaultMib := 0, share := 0, extents := [], pausedBy := [], stopped := false }

/-- The state in which the terms of an ended loan are about to be cleared: its sessions ended, its ledger, pipes and memory released. -/
def State.released (s : State) (n : Nat) : State :=
  let ps := portsOfSet (s.getTenants n).ports.toNat
  let s := s.loanTo n .idle
  let s := (s.openingSess n).foldl (fun s k => s.giveUp k) s
  let s := (s.liveSess n).foldl (fun s k => s.endSession k 0x32 1 false false) s
  let s := s.dropLedger n
  let s := s.closeAll 0x0B 0 (s.pipesWhere (fun x => decide (x.tenant = n) && !x.streamCtx))
  let s := ps.foldl (fun s p => s.dropPend n p) s
  (s.clearExts (s.getTenants n).extents none).dropTemplates n

theorem State.released_loansKept (s : State) (n : Nat) : LoansKept (s.loanTo n .idle) (s.released n) := by
  unfold State.released
  refine .trans (.trans ?_ (State.clearExts_loansKept ..)) (State.modVault_loansKept _)
  refine .trans ?_ (.foldl (fun s p => (s.dropPend_eff n p).loansKept rfl) _ _)
  refine .trans (.trans ?_ (State.dropLedger_loansKept ..)) (State.closeAll_loansKept ..)
  exact .trans (.foldl (fun s k => s.giveUp_loansKept k) _ _) (.foldl (fun s k => s.endSession_loansKept ..) _ _)

/-- A loan whose last item has ended: Idle, its terms cleared, its ports the operator's. -/
theorem State.loanIdle_ended {s : State} {n : Nat} (hl : (s.getTenants n).loan = .recalling) (hi : s.tenantItems n = []) :
    s.loanIdle n = ((s.released n).modTenants n Tenant.cleared).setOwner 0
      (allPorts.filter (fun p => decide ((((s.released n).modTenants n Tenant.cleared).getUsb p).loanOwner = n))) :=
  if_neg (by simp [hl, hi])

section
variable {s : State} {n : Nat} (hn : n ≠ 0) (hl : (s.getTenants n).loan = .recalling) (hi : s.tenantItems n = [])
include hl hi

theorem State.loanIdle_calm (h : Calm s) : Calm (s.loanIdle n) := by
  rw [State.loanIdle_ended hl hi]
  exact Calm.eff (m := 1) (((s.released_loansKept n).calm (h.loanTo n .idle)).modTenants n) (State.setOwner_eff ..) rfl

include hn

theorem State.loanIdle_terms : ((s.loanIdle n).getTenants n).standing = ({ s.getTenants n with loan := .idle } : Tenant).cleared.standing := by
  rw [State.loanIdle_ended hl hi]
  unfold State.getTenants
  rw [(State.setOwner_eff ..).tenants rfl]
  refine (congrArg Tenant.standing (State.getTenants_modTenants_same ..)).trans ?_
  have kept := (s.released_loansKept n).terms n hn
  rw [State.loanTo_tenant] at kept
  exact congrArg Tenant.cleared kept

theorem State.loanIdle_owner {p : Nat} (hp : p ∈ allPorts) : ((s.loanIdle n).getUsb p).loanOwner ≠ n := by
  rw [State.loanIdle_ended hl hi, State.setOwner_owner]
  split
  · exact hn.symm
  · rename_i h
    intro ho
    exact h (List.mem_filter.mpr ⟨hp, decide_eq_true ho⟩)

end

end Sys2Proof.Machine
end

section
/-!
PROOFS. The loan actions of R90 from the write of the request object to the pass that follows, the end of a lease and the end of a loan's
last item (03 R83, R87, R90, R99).
-/
namespace Sys2Proof
open Machine

theorem Machine.Tenant.fields_of_standing {x y : Tenant} (h : x.standing = y.standing) :
    x.loan = y.loan ∧ x.ports = y.ports ∧ x.power = y.power ∧ x.periodic = y.periodic ∧ x.vaultMib = y.vaultMib ∧ x.share = y.share ∧
      x.generation = y.generation ∧ x.lastResult = y.lastResult ∧ x.pausedBy = y.pausedBy :=
  ⟨(congrArg Tenant.loan h :), (congrArg Tenant.ports h :), (congrArg Tenant.power h :), (congrArg Tenant.periodic h :),
    (congrArg Tenant.vaultMib h :), (congrArg Tenant.share h :), (congrArg Tenant.generation h :), (congrArg Tenant.lastResult h :),
    (congrArg Tenant.pausedBy h :)⟩

/-! ### The write of the request object and the pass that follows (02 R46; 03 R83) -/

/-- The row of the loan request objects. -/
def loanRequestRow : Obj := ⟨0x6007, 0x6007, 1, 64, .u8, .w, .no, some .i, .ranges [(1, 4, 1)], none, .nat 0⟩

theorem findRow_loanRequest {n : Nat} (h : tenantOk n = true) : findRow 0x6007 n objTable = some loanRequestRow := by
  have rows : ∀ n < 65, tenantOk n = true → findRow 0x6007 n objTable = some loanRequestRow := by decide +kernel
  refine rows n ?_ h
  simp only [tenantOk, Bool.and_eq_true, decide_eq_true_eq] at h
  omega

/-- The state an action leaves, its result recorded as 0 and answered 0, before the pass. -/
def Machine.State.acted (g : State) (n : Nat) (path : Path) : State :=
  (g.modTenants n (fun x => { x with lastResult := 0 })).emit (.answer path 0x6007 n 0)

section
variable {s g : State} {n : Nat} {path : Path}

theorem Machine.State.write_loanRequest (ht : tenantOk n = true) (hw : MayWrite s path 0x6007 n) {b : Byte} {a : Nat} (hb : leNat [b] = a)
    (ha : loanRequestRow.vset.check a = 0) (hr : s.loanAction n a = recordAction n (g, 0)) : s.write path 0x6007 n [b] = g.acted n path := by
  have asked : s.actWrite path 0x6007 n (leNat [b]) [b] = some (s.loanAction n (leNat [b])) := rfl
  have written := State.writeAt_act (findRow_loanRequest ht) rfl rfl rfl (hb ▸ ha) rfl hw.free asked
  rw [State.write_served hw, written, hb, hr]
  rfl

/-- An action that comes to 0, from the write of its object to the pass. -/
theorem loanAction_gives {c : Instr} {b : Byte} {a : Nat} {P : State → Prop} (ht : tenantOk n = true) (hw : MayWrite s path 0x6007 n)
    (hb : leNat [b] = a) (ha : loanRequestRow.vset.check a = 0) (hr : s.loanAction n a = recordAction n (g, 0))
    (hc : exec c s = onUnit (tenantOk n) "tenant" n (s.write path 0x6007 n [b]).settle) (hp : P (g.acted n path).settle) : Gives c s P := by
  refine .intro (hc.trans ?_) hp
  rw [State.write_loanRequest ht hw hb ha hr, ht]
  rfl

theorem Machine.State.acted_tenant : (g.acted n path).getTenants n = { g.getTenants n with lastResult := 0 } :=
  State.getTenants_modTenants_same g n (fun x => { x with lastResult := 0 })

theorem Machine.State.acted_settled (h : Calm g) : Settled (g.acted n path) (g.acted n path).settle :=
  State.settle_calm (Calm.eff (m := 0) (h.modTenants n) (State.emit_eff ..) rfl)

theorem Machine.State.acted_answered : Sent.answer path 0x6007 n 0 ∈ (g.acted n path).settle.sent := State.mem_sent_settle (State.mem_sent_emit ..)

/-- After the pass the tenant stands as the action left it, with its result recorded. -/
theorem Machine.State.acted_terms (hn : n ≠ 0) (h : Calm g) {x : Tenant} (hx : (g.getTenants n).standing = x.standing) :
    ((g.acted n path).settle.getTenants n).standing = ({ x with lastResult := 0 } : Tenant).standing := by
  refine ((State.acted_settled h).terms n hn).trans ?_
  rw [State.acted_tenant]
  exact congrArg (fun x : Tenant => ({ x with lastResult := 0 } : Tenant)) hx

/-- A port of its tenant's set stays on loan through the pass. -/
theorem Machine.State.acted_owner (h : Calm g) {p : Nat} (ho : (g.getUsb p).loanOwner = n)
    (hb : bitOf (g.getTenants n).ports.toNat (p - 1) = true) : ((g.acted n path).settle.getUsb p).loanOwner = n := by
  refine (State.acted_settled h).owner_of_ports ho ?_
  rwa [State.acted_tenant]

/-! ### The actions (03 R83, R85, R90; 16 R412) -/

section
variable (ht : tenantOk n = true) (q : Quiet s) (hw : MayWrite s path 0x6007 n)
include ht q hw

theorem loanGrant_active (hl : (s.getTenants n).loan = .idle) (hc : s.termsCheck n false = 0) :
    Gives (.loanGrant n path) s (fun t => (t.getTenants n).loan = .active ∧
      (t.getTenants n).ports = BitVec.ofNat 96 (s.cfg 0x6001 n) ∧ (t.getTenants n).power = s.cfg 0x6002 n ∧
      (t.getTenants n).periodic = s.cfg 0x6003 n ∧ (t.getTenants n).vaultMib = s.cfg 0x6004 n ∧
      (t.getTenants n).share = s.cfg 0x6005 n ∧
      (t.getTenants n).generation = (s.getTenants n).generation + 1 ∧ (t.getTenants n).lastResult = 0 ∧
      (∀ p ∈ s.proposed n, (t.getUsb p).loanOwner = n) ∧ Sent.answer path 0x6007 n 0 ∈ t.sent) := by
  have hn := tenantOk_ne_zero ht
  have calm := State.granted_calm hn (.of_quiet q)
  have granted := State.granted_terms (s := s) hn
  refine loanAction_gives ht hw (b := 1) (a := 1) rfl rfl (congrArg (recordAction n) (State.grant_idle hl hc)) rfl ?_
  have terms := State.acted_terms (path := path) hn calm granted
  obtain ⟨loan, ports, power, periodic, vaultMib, share, generation, result, -⟩ := Tenant.fields_of_standing terms
  refine ⟨loan, ports, power, periodic, vaultMib, share, generation, result, fun p hp => ?_, State.acted_answered⟩
  refine State.acted_owner calm (State.granted_owner hn hp) ?_
  obtain ⟨-, ports, -⟩ := Tenant.fields_of_standing granted
  rw [ports]
  exact bitOf_ports_of_proposed hp

theorem loanChange_active (hl : (s.getTenants n).loan = .active) (hc : s.termsCheck n true = 0) :
    Gives (.loanChange n path) s (fun t => (t.getTenants n).loan = .active ∧
      (t.getTenants n).ports = BitVec.ofNat 96 (s.cfg 0x6001 n) ∧ (t.getTenants n).power = s.cfg 0x6002 n ∧
      (t.getTenants n).periodic = s.cfg 0x6003 n ∧ (t.getTenants n).vaultMib = s.cfg 0x6004 n ∧
      (t.getTenants n).share = s.cfg 0x6005 n ∧ (t.getTenants n).lastResult = 0 ∧
      (∀ p ∈ s.proposed n, (t.getUsb p).loanOwner = n) ∧ Sent.answer path 0x6007 n 0 ∈ t.sent) := by
  have hn := tenantOk_ne_zero ht
  have changed := s.changed_inForce hn
  have calm := changed.calm (.of_quiet q)
  refine loanAction_gives ht hw (b := 2) (a := 2) rfl rfl (congrArg (recordAction n) (State.change_active hl hc)) rfl ?_
  have terms := State.acted_terms (path := path) hn calm changed.terms
  obtain ⟨loan, ports, power, periodic, vaultMib, share, -, result, -⟩ := Tenant.fields_of_standing terms
  refine ⟨loan.trans hl, ports, power, periodic, vaultMib, share, result, fun p hp => ?_, State.acted_answered⟩
  refine State.acted_owner calm (changed.owner p hp) ?_
  obtain ⟨-, ports, -⟩ := Tenant.fields_of_standing changed.terms
  rw [ports]
  exact bitOf_ports_of_proposed hp

theorem loanEnd_recalling (hl : (s.getTenants n).loan = .active ∨ (s.getTenants n).loan = .paused) :
    Gives (.loanEnd n path) s (fun t => (t.getTenants n).loan = .recalling ∧ (t.getTenants n).lastResult = 0 ∧
      Sent.answer path 0x6007 n 0 ∈ t.sent) := by
  have hn := tenantOk_ne_zero ht
  have recalled := s.recall_recalling hn
  refine loanAction_gives ht hw (b := 3) (a := 3) rfl rfl (congrArg (recordAction n) (State.endLoan_held hl)) rfl ?_
  have terms := State.acted_terms (path := path) hn (recalled.calm (.of_quiet q)) rfl
  obtain ⟨loan, -, -, -, -, -, -, result, -⟩ := Tenant.fields_of_standing terms
  exact ⟨loan.trans recalled.loan, result, State.acted_answered⟩

theorem loanResume_active (hr : NoResult s) (hl : (s.getTenants n).loan = .paused) (hf : s.faultsHandled n = true) :
    Gives (.loanResume n path) s (fun t => (t.getTenants n).loan = .active ∧ (t.getTenants n).pausedBy = [] ∧
      (t.getTenants n).lastResult = 0 ∧ Sent.answer path 0x6007 n 0 ∈ t.sent) := by
  have hn := tenantOk_ne_zero ht
  refine loanAction_gives ht hw (b := 4) (a := 4) rfl rfl (congrArg (recordAction n) (State.resumeLoan_paused hl hf)) rfl ?_
  have terms := State.acted_terms (path := path) hn (State.unpaused_calm hr (.of_quiet q))
    (congrArg Tenant.standing (State.unpaused_tenant hr))
  obtain ⟨loan, -, -, -, -, -, -, result, paused⟩ := Tenant.fields_of_standing terms
  exact ⟨loan, paused, result, State.acted_answered⟩

end

end

/-! ### The ends of a lease and of a recalled loan (03 R90, R99) -/

section
variable {s : State} {n : Nat} (ht : tenantOk n = true) (q : Quiet s)
include ht q

theorem leaseExpiry_recalling (hl : (s.getTenants n).loan = .active ∨ (s.getTenants n).loan = .paused) :
    Gives (.leaseExpiry n) s (fun t => (t.getTenants n).loan = .recalling ∧ t.coll.leaseExp = true) := by
  have hn := tenantOk_ne_zero ht
  obtain ⟨calm, loan, lease⟩ := State.leaseOver_recalls hn hl
  have settled := State.settle_calm (calm (.of_quiet q))
  refine .intro (t := (s.leaseOver n).settle) (if_pos ht) ⟨?_, ?_⟩
  · exact (Tenant.fields_of_standing (settled.terms n hn)).1.trans loan
  · rw [settled.coll, lease]

theorem lastItemEnded_idle (hl : (s.getTenants n).loan = .recalling) (hi : s.tenantItems n = []) :
    Gives (.lastItemEnded n) s (fun t => (t.getTenants n).loan = .idle ∧ (t.getTenants n).ports = 0 ∧ (t.getTenants n).power = 0 ∧
      (t.getTenants n).periodic = 0 ∧ (t.getTenants n).vaultMib = 0 ∧ (t.getTenants n).share = 0 ∧
      (∀ p ∈ allPorts, (t.getUsb p).loanOwner ≠ n)) := by
  have hn := tenantOk_ne_zero ht
  have settled := State.settle_calm (State.loanIdle_calm hl hi (.of_quiet q))
  have terms := (settled.terms n hn).trans (State.loanIdle_terms hn hl hi)
  obtain ⟨loan, ports, power, periodic, vaultMib, share, -⟩ := Tenant.fields_of_standing terms
  refine .intro (t := (s.loanIdle n).settle) (if_pos ht) ⟨loan, ports, power, periodic, vaultMib, share, fun p hp => ?_⟩
  rcases settled.owner p with h | ⟨-, h, -⟩
  · rw [h]
    exact State.loanIdle_owner hn hl hi hp
  · rw [h]
    exact hn.symm

end

/-- Settles O25: an action leaves a calm state, and the pass that follows ends items but changes no loan. -/
theorem loanActions : Obligations.LoanActions := by
  unfold Obligations.LoanActions
  exact ⟨fun _ _ _ ht q hw hl hc => loanGrant_active ht q hw hl hc, fun _ _ _ ht q hw hl hc => loanChange_active ht q hw hl hc,
    fun _ _ _ ht q hw hl => loanEnd_recalling ht q hw hl, fun _ _ _ ht q hr hw hl hf => loanResume_active ht q hw hr hl hf,
    fun _ _ ht q hl => leaseExpiry_recalling ht q hl, fun _ _ ht q hl hi => lastItemEnded_idle ht q hl hi⟩

end Sys2Proof
end

section
/-!
PROOFS. The lock server's answer to an acquire in a state whose lock map lists one lock twice (03 R103, R104).
-/
namespace Sys2Proof
open Machine

/-! ### A lock listed as Free and, further on, as held by a member that has been reset -/

/-- Member 1 of a Collection of two, with quorum and as lock server: the map of locks lists lock 0 as Free and once more as Held by
member 2, whose last SEQUENCE was of boot 0. -/
def lockListedTwice : State :=
  (State.reset.setEff 0x7000 2 [2]).modColl (fun c => { c with
    quorum := true, key := some [1], voters := [(2, { Voter.reset with seq := some 0 })]
    locks := [(0, Lock.reset), (0, { Lock.reset with state := .held, member := 2 })] })

/-- A message of member 2 with the first SEQUENCE of its next boot (03 R96). -/
def rebootedHeader : NqHeader where
  sender := 2
  epoch := 0
  seq := 1099511627776
  tagOk := true

/-- Member 2 acquires lock 0 for its session 3. -/
def acquireOfLock0 : LockMsg where
  lock := 0
  op := 1
  member := 2
  sess := 3
  tenant := 0
  epoch := 0
  status := 0
  state := 0
  afterBreak := false

/-- The reset of member 2 breaks the lock it is listed to hold, which is the one it then acquires. -/
theorem acquireOfLock0_afterBreak :
    ((lockListedTwice.nqTake rebootedHeader (fun s => s.lockServe 2 acquireOfLock0)).lock 0).afterBreak = true := by
  decide +kernel

/-- Refutes O27: nothing bars a map that lists a lock twice. Where its first entry is Free and a second one is Held by a member whose
SEQUENCE shows a new boot, the message of that member first breaks the lock (R104), so its acquire of a lock that was Free sets
AFTER_BREAK. -/
theorem not_locks : ¬ Obligations.Locks := by
  unfold Obligations.Locks
  rintro ⟨-, -, -, -, acquire, -⟩
  obtain ⟨t, ht, hlock, -⟩ := acquire lockListedTwice rebootedHeader acquireOfLock0 (by decide +kernel) rfl (by decide +kernel) rfl
    (by decide +kernel) rfl
  have hstep : exec (.lockRequestMessage rebootedHeader acquireOfLock0) lockListedTwice =
      .next (lockListedTwice.nqTake rebootedHeader (fun s => s.lockServe 2 acquireOfLock0)) := rfl
  rw [hstep, Host.Outcome.next.injEq] at ht
  subst ht
  have hfree : (lockListedTwice.lock acquireOfLock0.lock).state ≠ .broken := by decide +kernel
  have hbreak := congrArg Lock.afterBreak hlock
  rw [decide_eq_false hfree] at hbreak
  exact absurd (acquireOfLock0_afterBreak.symm.trans hbreak) (by decide)

end Sys2Proof
end

section
/-!
PROOFS. The release of a translator buffer's turn to another port, after the end of a SET_ADDRESS recovery (06 R177; 08 R240).
-/
namespace Sys2Proof
open Machine

/-! ### A Registrar's context that holds the hub pipe of another port -/

/-- An enumeration at the end of its SET_ADDRESS recovery, of a device at FS (06 R177). -/
def recoveringEnum : Enum where
  parent := 0
  parentPort := 0
  depth := 1
  speed := .fs
  prev := 0
  addr := 1
  step := .recovery
  tries := 0
  desc := []
  serial := []
  ports := 0
  multiTt := false
  think := 0

/-- The interrupt pipe to an external hub on port 2 (06 R179). -/
def hubPipeOfPort2 : Pipe :=
  { Pipe.reset with state := .opened, typ := 3, cls := 1, port := 2, address := 1, tenant := 127, speed := 3, maxPacket := 1 }

/-- Port 1 at FS with all the translator buffers it may hold, port 2 at HS; the hub pipe of port 2 lies in context 0, which is the
Registrar's context of port 1 (07 R201). -/
def contextOfPort1AtPort2 : State :=
  (((State.reset.modUsb 1 (fun u => { u with state := .enabled, speed := .fs, enums := [recoveringEnum] })).modUsb 2
    (fun u => { u with state := .enabled, speed := .hs, busLeft := 125000 })).modGals 1
    (fun g => { g with npHeld := [(1, 96), (1, 97), (1, 98), (1, 99)] })).setPipes 0 hubPipeOfPort2

/-- The request for the descriptor finds no buffer and waits in context 0; port 2 is served as the port of that context. -/
theorem addressSettled_serves_port2 : ((contextOfPort1AtPort2.addressSettled 1).getUsb 2).inFlight = [0] := by decide +kernel

/-- Refutes O56: nothing bars a pipe of another port from the Registrar's context of port 1. There the request that follows the recovery
finds no buffer and waits, and port 2 of the same gallery is served in its place: it starts a transaction of its hub pipe. -/
theorem not_otherPortsKept : ¬ Obligations.OtherPortsKept := by
  unfold Obligations.OtherPortsKept
  rintro ⟨-, kept⟩
  have hstep : exec (.setAddressRecoveryExpiry 1) contextOfPort1AtPort2 = .next (contextOfPort1AtPort2.addressSettled 1) := rfl
  obtain ⟨husb, -⟩ := kept contextOfPort1AtPort2 _ 1 2 0 _ (by decide) (by decide +kernel) (by decide +kernel) List.mem_cons_self hstep
  have hsame := congrArg PortUsb.inFlight husb
  rw [addressSettled_serves_port2] at hsame
  exact absurd hsame (by decide +kernel)

end Sys2Proof
end

section
/-!
PROOFS. PTP time, the path delay and PPS: what steps of hub time, offsets counted and the entry to holdover leave of the PTP state (04 R133,
R135; 09 R256 to R258).
-/
-- As in the laws of records: one proof at a time, as the stacks of waiting threads count as memory of the check.
set_option Elab.async false
namespace Sys2Proof.Machine

section
variable (s : State)

theorem State.ftEvent_ptp (p : Nat) (b : BitVec 4) : (s.ftEvent p b).ptp = { s.ptp with evt := s.ptp.evt ||| b } := by
  unfold State.ftEvent
  dsimp only
  split
  · rfl
  · rw [(State.houseEvent_eff ..).ptp rfl]
    rfl

theorem State.stepHub_ptp (d : Int) : (s.stepHub d).ptp = { s.ptp with evt := s.ptp.evt ||| 4 } := by
  unfold State.stepHub
  rw [(State.stepAll_eff ..).ptp rfl, State.ftEvent_ptp]
  rfl

theorem State.countGood_offset (off : Int) : (s.countGood off).ptp.offset = s.ptp.offset := by
  unfold State.countGood
  extract_lets good
  split
  · rw [State.ftEvent_ptp]
    rfl
  · rfl

/-- The offset register takes the offset of a Sync, in every stage of its servo (09 R256, R257). -/
theorem State.sync_offset (off : Int) : (s.sync off).ptp.offset = satInt32 off := by
  unfold State.sync
  dsimp only
  split
  case isTrue => rfl
  case isFalse =>
    split
    case isTrue =>
      split
      · rw [State.countGood_offset]
        rfl
      · rw [State.stepHub_ptp]
        rfl
    case isFalse =>
      split
      · rw [State.stepHub_ptp]
        rfl
      · rw [State.countGood_offset]
        rfl

theorem State.ppsFall_low : s.ppsFall.ptp.ppsOut = false := by
  unfold State.ppsFall
  split
  case isTrue => rfl
  case isFalse low => exact Bool.eq_false_of_not_eq_true low

/-- Holdover with PPS_OUT low (04 R135; 09 R258). -/
theorem State.enterHoldover_ptp : s.enterHoldover.ptp.state = 2 ∧ s.enterHoldover.ptp.ppsOut = false := by
  unfold State.enterHoldover
  rw [(State.note_eff ..).ptp rfl, State.ftEvent_ptp]
  exact ⟨rfl, s.ppsFall_low⟩

end

end Sys2Proof.Machine

namespace Sys2Proof
open Machine

section
variable {s : State}

theorem ptpSync_offset {v : PtpVia} (h : s.ptpOk v 319 = true) (off : Int) :
    Gives (.ptpSync ⟨v, off⟩) s (fun t => t.ptp.offset = satInt32 off ∧ Sent.ptp v.link v.domain 319 ∈ t.sent) := by
  have seen : s.syncSeen v off = ((s.sync off).modPtp (fun p => { p with asked := true })).emit (.ptp v.link v.domain 319) := if_pos h
  refine .intro (t := s.syncSeen v off) rfl ?_
  rw [seen]
  exact ⟨s.sync_offset off, State.mem_sent_emit ..⟩

theorem ptpDelayResponse_measures {v : PtpVia} (h : s.ptpOk v 320 = true) (ha : s.ptp.asked = true) (d : Nat) :
    Gives (.ptpDelayResponse ⟨v, d⟩) s (fun t => t.ptp.pathDelay = some d) := by
  have measured : s.delayMeasured v d = s.modPtp (fun p => { p with pathDelay := some d, asked := false }) := if_pos (by rw [h, ha]; rfl)
  refine .intro (t := s.delayMeasured v d) rfl ?_
  rw [measured]
  rfl

theorem syncTimeout_holdover (h : s.ptp.state = 1 ∨ (s.ptp.state = 0 ∧ s.ptp.first = false)) :
    Gives .syncTimeout s (fun t => t.ptp.state = 2 ∧ t.ptp.ppsOut = false) := by
  have lost : s.syncLost = s.enterHoldover.modPtp (fun p => { p with good := 0 }) := if_pos h
  refine .intro (t := s.syncLost) rfl ?_
  rw [lost]
  exact s.enterHoldover_ptp

theorem ppsOutSecond_rises (h : s.ptp.state = 1) :
    Gives .ppsOutSecond s (fun t => t.ptp.ppsOut = true ∧ Sent.pin 1 0 true ∈ t.sent) := by
  have rises : s.ppsRise = (s.modPtp (fun p => { p with ppsOut := true })).emit (.pin 1 0 true) := if_pos h
  refine .intro (t := s.ppsRise) rfl ?_
  rw [rises]
  exact ⟨rfl, State.mem_sent_emit ..⟩

theorem ppsOutWidthEnd_falls (h : s.ptp.ppsOut = true) :
    Gives .ppsOutWidthEnd s (fun t => t.ptp.ppsOut = false ∧ Sent.pin 1 0 false ∈ t.sent) := by
  have falls : s.ppsFall = (s.modPtp (fun p => { p with ppsOut := false })).emit (.pin 1 0 false) := if_pos h
  refine .intro (t := s.ppsFall) rfl ⟨s.ppsFall_low, ?_⟩
  rw [falls]
  exact State.mem_sent_emit ..

theorem ppsInEdge_stamps {since : Nat} (he : s.cfg 0x2204 4 = 1) (hs : 500000000 ≤ since) :
    Gives (.ppsInEdge since) s (fun t => t.ptp.ppsStamp = s.clk.hubTime) := by
  have stamps : s.ppsEdge since = s.modPtp (fun p => { p with ppsStamp := s.clk.hubTime }) := if_pos ⟨he, hs⟩
  refine .intro (t := s.ppsEdge since) rfl ?_
  rw [stamps]
  rfl

end

/-- Settles O24: each message, timeout and edge by the case of its guard; a Sync by what its servo leaves of the offset register. -/
theorem ptpAndPps : Obligations.PtpAndPps := by
  unfold Obligations.PtpAndPps
  exact ⟨fun _ _ off h => ptpSync_offset h off, fun _ _ d h ha => ptpDelayResponse_measures h ha d, fun _ h => syncTimeout_holdover h,
    fun _ h => ppsOutSecond_rises h, fun _ h => ppsOutWidthEnd_falls h, fun _ _ he hs => ppsInEdge_stamps he hs⟩

end Sys2Proof
end

section
/-!
PROOFS. What an operation leaves of a view of the state, and what the links do as frames, sessions and other links go: their states and the
upstream mode (04 R114 to R117).
-/
set_option Elab.async false
namespace Sys2Proof.Machine

/-! ### Views of the state that an operation leaves as they are -/

/-- A view of the state is the same after an operation as before it. -/
structure Kept {α : Type} (view : State → α) (s t : State) : Prop where
  same : view t = view s

section
variable {α : Type} {view : State → α} {s t u : State}

theorem Kept.refl (s : State) : Kept view s s := ⟨rfl⟩

theorem Kept.trans (h : Kept view s t) (k : Kept view t u) : Kept view s u := ⟨k.same.trans h.same⟩

theorem Kept.ite {c : Prop} [Decidable c] (h : Kept view s t) (k : Kept view s u) : Kept view s (if c then t else u) := by
  split <;> assumption

theorem Kept.foldl {β : Type} {f : State → β → State} (h : ∀ s x, Kept view s (f s x)) (l : List β) (s : State) :
    Kept view s (l.foldl f s) := by
  induction l generalizing s with
  | nil => exact .refl s
  | cons x l ih => exact (h s x).trans (ih _)

/-- What rests on a view is kept with it. -/
theorem Kept.map {β : Type} {coarser : State → β} (g : α → β) (hg : ∀ s, coarser s = g (view s)) (h : Kept view s t) : Kept coarser s t :=
  ⟨by rw [hg, hg, h.same]⟩

end

/-! ### The states of the links -/

/-- The upstream mode and the states of the links. -/
def State.linkView (s : State) : Bool × (Nat → LinkState) := (s.upl.mode, fun m => (s.link m).state)

theorem Kept.linkState {s t : State} (h : Kept State.linkView s t) (m : Nat) : (t.link m).state = (s.link m).state :=
  congrFun (congrArg Prod.snd h.same) m

theorem Eff.linksKept {m : Nat} {s t : State} (e : Eff m s t) (hm : m.testBit 15 = false) : Kept State.linkView s t := by
  refine ⟨?_⟩
  unfold State.linkView State.link
  rw [e.upl hm]

theorem Eff.cfgB {m : Nat} {s t : State} (e : Eff m s t) (hm : m.testBit 10 = false) (idx sub : Nat) : t.cfgB idx sub = s.cfgB idx sub :=
  State.cfgB_cat (e.cat hm) e.fuses.mac idx sub

theorem State.link_setLink_same (s : State) (m : Nat) (l : Link) : (s.setLink m l).link m = l := SMap.get_put_same ..

theorem State.link_setLink_other (s : State) {m k : Nat} (l : Link) (h : k ≠ m) : (s.setLink m l).link k = s.link k := SMap.get_put_other _ _ h

section
variable (s : State)

theorem State.modUpl_linksKept {f : Upl → Upl} (h : ∀ u, (f u).links = u.links ∧ (f u).mode = u.mode := by exact fun _ => ⟨rfl, rfl⟩) :
    Kept State.linkView s (s.modUpl f) := by
  obtain ⟨links, mode⟩ := h s.upl
  have state : ∀ m, (s.modUpl f).link m = s.link m := fun m => congrArg (SMap.get Link.reset · m) links
  exact ⟨Prod.ext mode (funext fun m => congrArg Link.state (state m))⟩

theorem State.setLink_linksKept (m : Nat) (l : Link) (h : l.state = (s.link m).state := by rfl) : Kept State.linkView s (s.setLink m l) := by
  refine ⟨Prod.ext rfl (funext fun k => ?_)⟩
  by_cases hk : k = m
  · subst hk
    exact (congrArg Link.state (s.link_setLink_same k l)).trans h
  · exact congrArg Link.state (s.link_setLink_other l hk)

/-! ### Frames and sessions leave the links' states (04 R115; 05 R148) -/

theorem State.onLink_linksKept (m : Nat) (f : OutFrame) : Kept State.linkView s (s.onLink m f) := by
  unfold State.onLink
  have turned : Kept State.linkView s ((s.modUpl (fun u => { u with rrNext := m % 8 + 1 })).modSess f.sess (Session.sentOn m s.now f)) :=
    s.modUpl_linksKept.trans ((State.modSess_eff ..).linksKept rfl)
  have state := (turned.linkState m).symm
  dsimp only
  refine turned.trans (.ite (.trans ?_ ((State.wire_eff ..).linksKept rfl)) ?_) <;>
    exact State.setLink_linksKept _ m _ state

theorem State.queueFrame_linksKept (f : OutFrame) : Kept State.linkView s (s.queueFrame f) := by
  unfold State.queueFrame
  split
  · exact s.onLink_linksKept ..
  · exact s.modUpl_linksKept

theorem State.flushBacklog_linksKept (k : Nat) : Kept State.linkView s (State.flushBacklog k s) := by
  induction k generalizing s with
  | zero => exact .refl s
  | succ k ih =>
    rw [State.flushBacklog]
    split
    · exact (s.modUpl_linksKept.trans (State.onLink_linksKept ..)).trans (ih _)
    · exact .refl s

theorem State.sendFrame_linksKept (n typ seq : Nat) (retx : Bool) (payload : Bytes) :
    Kept State.linkView s (s.sendFrame n typ seq retx payload) :=
  .trans ((State.modSess_eff ..).linksKept rfl) (State.queueFrame_linksKept ..)

theorem State.dropFrames_linksKept (n : Nat) : Kept State.linkView s (s.dropFrames n) := by
  unfold State.dropFrames
  refine .trans (.foldl (fun s m => ?_) _ s) (State.modUpl_linksKept _)
  exact s.setLink_linksKept m _

theorem State.endSession_linksKept (n det reason : Nat) (loss broken : Bool) : Kept State.linkView s (s.endSession n det reason loss broken) := by
  unfold State.endSession
  refine .trans ?_ ((State.settleWaits_eff _).linksKept rfl)
  refine .trans (.trans ?_ (State.dropFrames_linksKept ..)) ((State.freeLocks_eff ..).linksKept rfl)
  refine .trans ?_ (.foldl (fun s k => (s.endCause_eff det k).linksKept rfl) _ _)
  exact .trans ((State.modSess_eff ..).linksKept rfl) (.foldl (fun _ _ => (State.toLedger_eff ..).linksKept rfl) _ _)

theorem State.resend_linksKept (n q : Nat) : Kept State.linkView s (s.resend n q) := by
  unfold State.resend
  split
  case h_1 =>
    refine .ite (s.endSession_linksKept ..) ?_
    dsimp only
    refine .trans (.trans ?_ ((State.modSess_eff ..).linksKept rfl)) ((State.modTenants_eff ..).linksKept rfl)
    exact s.sendFrame_linksKept ..
  case h_2 => exact .refl s

theorem State.upEvent_linksKept (b : BitVec 19) : Kept State.linkView s (s.upEvent b) := by
  unfold State.upEvent
  exact .ite s.modUpl_linksKept (s.modUpl_linksKept.trans ((State.houseEvent_eff ..).linksKept rfl))

/-! ### Links that enter and leave the spray set (04 R114 to R117, R134) -/

theorem State.movePtp_linksKept : Kept State.linkView s s.movePtp := by
  unfold State.movePtp
  dsimp only
  have had : Kept State.linkView s (if s.isMember s.ptpChoice then s.modUpl (fun u => { u with ptpHad := true }) else s) :=
    .ite s.modUpl_linksKept (.refl s)
  have moved := had.trans (State.modUpl_linksKept _ (f := fun u => { u with ptpLink := s.ptpChoice }))
  have afresh := moved.trans ((State.modPtp_eff _ (fun p => { p with pathDelay := none, asked := false, good := 0 })).linksKept rfl)
  have told := Kept.ite (c := s.isMember s.upl.ptpLink = true) afresh (afresh.trans (State.upEvent_linksKept _ 0x20000))
  refine .ite had (.ite (.ite ?_ told) moved)
  exact told.trans ((State.enterHoldover_eff _).linksKept rfl)

theorem State.leaveSpray_linksKept (m : Nat) : Kept State.linkView s (s.leaveSpray m) := by
  have moved : Kept State.linkView s (((s.link m).queue.map (·.2)).foldl (fun s f => s.queueFrame f)
      ((s.setLink m { s.link m with queue := [] }).movePtp)) :=
    ((s.setLink_linksKept m _).trans (State.movePtp_linksKept _)).trans (.foldl (fun s f => s.queueFrame_linksKept f) _ _)
  unfold State.leaveSpray
  dsimp only
  refine moved.trans (.ite ?_ (.foldl (fun _ _ => .foldl (fun _ _ => State.resend_linksKept ..) _ _) _ _))
  refine .trans (.trans ?_ ((State.fault_eff ..).linksKept rfl)) ((State.holdSessions_eff _).linksKept rfl)
  exact .trans (State.upEvent_linksKept ..) ((State.causeOn_eff ..).linksKept rfl)

theorem State.joinSpray_state (m : Nat) : ((s.joinSpray m).link m).state = .member := by
  have joined : Kept State.linkView (s.setLink m { Link.reset with state := .member }) (s.joinSpray m) :=
    .trans (.trans ((State.upEvent_linksKept ..).trans (State.movePtp_linksKept _))
      (.trans ((State.causeOff_eff ..).linksKept rfl) ((State.resumeSessions_eff _).linksKept rfl))) (State.flushBacklog_linksKept ..)
  rw [joined.linkState, State.link_setLink_same]

theorem State.train_state (m : Nat) : ((s.train m).link m).state = .training :=
  congrArg Link.state (s.link_setLink_same m { s.link m with state := .training, txq := 0 })

end

/-! ### Links switched on and off by the links-enabled object (04 R114, R136) -/

/-- What the enable bits do to one link. -/
def State.applyLinkEnable (s : State) (m : Nat) : State :=
  match (s.link m).state, s.linkEnabled m with
  | .off, true => if s.locked .upstream then s.train m else s
  | .training, false | .probation, false => s.setLink m Link.reset
  | .member, false => (s.setLink m { s.link m with state := .off, txq := 0 }).leaveSpray m
  | _, _ => s

theorem State.applyLinkEnables_eq (s : State) : s.applyLinkEnables = [1, 2, 3, 4, 5, 6, 7, 8].foldl State.applyLinkEnable s := rfl

section
variable (s : State) (m : Nat)

theorem State.applyLinkEnable_eff : Eff 18058181 s (s.applyLinkEnable m) := by
  have put : ∀ l, Eff 18058181 s (s.setLink m l) := fun l => (s.setLink_eff m l).mono (by decide)
  unfold State.applyLinkEnable
  split
  · exact .ite ((s.train_eff m).mono (by decide)) (.refl ..)
  · exact put _
  · exact put _
  · exact (put _).trans (State.leaveSpray_eff ..)
  · exact .refl ..

/-- A link that is not enabled is Off. -/
theorem State.applyLinkEnable_off (h : s.linkEnabled m = false) : ((s.applyLinkEnable m).link m).state = .off := by
  unfold State.applyLinkEnable
  rw [h]
  cases hs : (s.link m).state with
  | off => exact hs
  | training => exact congrArg Link.state (s.link_setLink_same ..)
  | probation => exact congrArg Link.state (s.link_setLink_same ..)
  | member =>
    refine ((State.leaveSpray_linksKept _ m).linkState m).trans ?_
    exact congrArg Link.state (s.link_setLink_same ..)

/-- Other links and the mode stay. -/
theorem State.applyLinkEnable_other : (s.applyLinkEnable m).upl.mode = s.upl.mode ∧
    ∀ k, k ≠ m → ((s.applyLinkEnable m).link k).state = (s.link k).state := by
  have put : ∀ (l : Link) k, k ≠ m → ((s.setLink m l).link k).state = (s.link k).state :=
    fun l k h => congrArg Link.state (s.link_setLink_other l h)
  unfold State.applyLinkEnable
  split
  · split
    · exact ⟨rfl, put _⟩
    · exact ⟨rfl, fun _ _ => rfl⟩
  · exact ⟨rfl, put _⟩
  · exact ⟨rfl, put _⟩
  · have left := (s.setLink m { s.link m with state := .off, txq := 0 }).leaveSpray_linksKept m
    exact ⟨(congrArg Prod.fst left.same :), fun k h => (left.linkState k).trans (put _ k h)⟩
  · exact ⟨rfl, fun _ _ => rfl⟩

theorem State.applyLinkEnable_enabled (k : Nat) : (s.applyLinkEnable m).linkEnabled k = s.linkEnabled k := by
  unfold State.linkEnabled
  rw [(s.applyLinkEnable_other m).1, (s.applyLinkEnable_eff m).cfg rfl]

end

/-- Links taken one after another: one that is not enabled is Off where it is among them or was Off before. -/
theorem State.foldl_applyLinkEnable_off {m : Nat} (l : List Nat) {s : State} (h : s.linkEnabled m = false)
    (hm : m ∈ l ∨ (s.link m).state = .off) : ((l.foldl State.applyLinkEnable s).link m).state = .off := by
  induction l generalizing s with
  | nil => simpa using hm
  | cons k l ih =>
    refine ih ((s.applyLinkEnable_enabled k m).trans h) ?_
    by_cases hk : m = k
    · subst hk
      exact .inr (s.applyLinkEnable_off m h)
    · rw [(s.applyLinkEnable_other k).2 m hk]
      simpa [hk] using hm

theorem State.applyLinkEnables_off {s : State} {m : Nat} (h : s.linkEnabled m = false) (hm : m ∈ [1, 2, 3, 4, 5, 6, 7, 8]) :
    ((s.applyLinkEnables).link m).state = .off := by
  rw [State.applyLinkEnables_eq]
  exact State.foldl_applyLinkEnable_off _ h (.inl hm)

end Sys2Proof.Machine

namespace Sys2Proof
open Machine

/-! ### The commands of a link (04 R112 to R114) -/

theorem gives_onUnit {c : Instr} {s t : State} {ok : Bool} {k : String} {n : Nat} {P : State → Prop} (hc : exec c s = onUnit ok k n t)
    (hk : ok = true) (hp : P t) : Gives c s P :=
  .intro (hc.trans (if_pos hk)) hp

section
variable {s : State} {m : Nat} (hm : linkOk m = true)
include hm

theorem upstreamTrainingDone_probation {b : Bool} (ht : (s.link m).state = .training) (hb : s.negotiates = false ∨ b = true) :
    Gives (.upstreamTrainingDone ⟨m, b⟩) s (fun t => (t.link m).state = .probation) := by
  have done : s.trainingDone m b = s.setLink m { s.link m with state := .probation } :=
    if_pos ⟨ht, fun hn => hb.resolve_left (by simp [hn])⟩
  refine gives_onUnit (t := s.trainingDone m b) rfl hm ?_
  rw [done, State.link_setLink_same]

theorem upstreamTrainingDone_stays (ht : (s.link m).state = .training) (hn : s.negotiates = true) :
    Gives (.upstreamTrainingDone ⟨m, false⟩) s (fun t => (t.link m).state = .training) := by
  have stays : s.trainingDone m false = s := if_neg (by simp [hn])
  refine gives_onUnit (t := s.trainingDone m false) rfl hm ?_
  rw [stays, ht]

theorem upstreamTrainingFail_counts (ht : (s.link m).state = .training) : Gives (.upstreamTrainingFail m) s
    (fun t => (t.link m).state = .training ∧ t.upl.trainFails = satAdd s.upl.trainFails 1) := by
  have fails : s.trainingFail m = (s.modUpl (fun u => { u with trainFails := satAdd u.trainFails 1 })).train m := if_pos ht
  refine gives_onUnit (t := s.trainingFail m) rfl hm ?_
  rw [fails]
  exact ⟨State.train_state .., rfl⟩

theorem probationExpiry_member (hp : (s.link m).state = .probation) :
    Gives (.probationExpiry m) s (fun t => (t.link m).state = .member) := by
  have joins : s.probationEnd m = s.joinSpray m := if_pos hp
  refine gives_onUnit (t := s.probationEnd m) rfl hm ?_
  rw [joins, State.joinSpray_state]

theorem upstreamLinkFault_training (h : (s.link m).state = .probation ∨ (s.link m).state = .member) :
    Gives (.upstreamLinkFault m) s (fun t => (t.link m).state = .training) := by
  have trains : ((s.linkFault m).link m).state = .training := by
    unfold State.linkFault
    rcases h with h | h <;> rw [h] <;> dsimp only
    · exact s.train_state m
    · have left : Kept State.linkView (s.train m)
          ((((s.train m).upEvent (BitVec.ofNat 19 (2 ^ (m - 1)))).fault 0x18 m).leaveSpray m) :=
        .trans ((State.upEvent_linksKept ..).trans ((State.fault_eff ..).linksKept rfl)) (State.leaveSpray_linksKept ..)
      rw [left.linkState, State.train_state]
  refine gives_onUnit (t := (s.linkFault m).settle) rfl hm ?_
  rw [((State.settle_eff _).linksKept rfl).linkState, trains]

end

/-! ### The write of the links-enabled object (04 R114, R136) -/

theorem linksEnabled_plain {s : State} {path : Path} {v : Nat} : Plain s path 0x2200 4 (natLE 1 v) linksEnabledRow where
  row := by decide +kernel
  numeric := rfl
  size := rfl
  unmasked := rfl
  value := rfl
  checks := rfl
  act := rfl
  key := rfl
  own := by decide

theorem leNat_natLE_byte {v : Nat} (h : v ≤ 255) : leNat (natLE 1 v) = v := by
  simp [natLE, leNat]
  omega

theorem upstreamLinksEnabledWrite_off {s : State} {v : Nat} {path : Path} (hw : MayWrite s path 0x2200 4) (hv : v ≤ 255) :
    Gives (.upstreamLinksEnabledWrite v path) s (fun t => Sent.answer path 0x2200 4 0 ∈ t.sent ∧ t.cfg 0x2200 4 = v ∧
      (∀ m ∈ [1, 2, 3, 4, 5, 6, 7, 8], bitOf v (m - 1) = false → (t.link m).state = .off)) := by
  have plain : Plain s path 0x2200 4 (natLE 1 v) linksEnabledRow := linksEnabled_plain
  have written : s.write path 0x2200 4 (natLE 1 v) = (s.immediateWrite 0x2200 4 (natLE 1 v)).emit (.answer path 0x2200 4 0) := by
    rw [State.write_served hw, plain.writeAt rfl hw.free]
  refine .intro (t := (s.write path 0x2200 4 (natLE 1 v)).settle) rfl ?_
  rw [written]
  refine ⟨State.mem_sent_settle (State.mem_sent_emit ..), ?_, fun m hm hb => ?_⟩
  · unfold State.cfg
    rw [State.cfgB_settle (by decide) (plain.clsOf rfl), (State.emit_eff (s.immediateWrite 0x2200 4 (natLE 1 v)) _).cfgB rfl,
      plain.cfgB_write rfl, leNat_natLE_byte hv]
  · have applied : s.immediateWrite 0x2200 4 (natLE 1 v) = (s.setEff 0x2200 4 (natLE 1 v)).applyLinkEnables := rfl
    rw [((State.settle_eff _).linksKept rfl).linkState, ((State.emit_eff ..).linksKept rfl).linkState, applied]
    refine State.applyLinkEnables_off ?_ hm
    have reads : (s.setEff 0x2200 4 (natLE 1 v)).cfg 0x2200 4 = v := by
      unfold State.cfg
      rw [State.cfgB_setEff_same _ (plain.nodeId_key rfl), leNat_natLE_byte hv]
    unfold State.linkEnabled
    rw [reads, hb]
    split
    · by_cases h1 : m = 1
      · subst h1
        rw [hb, Bool.and_false]
      · rw [decide_eq_false h1, Bool.false_and]
    · rfl

end Sys2Proof
end

section
/-!
PROOFS. Sessions while others end: what the ends of items, of sessions and the pass after a command leave of a session, and sessions lost
when every link stays down (04 R117; 05 R145 to R149, R163).
-/
set_option Elab.async false
namespace Sys2Proof.Machine

/-! ### Views of the sessions -/

/-- A view of every session. -/
def State.sessView {α : Type} (g : Session → α) (s : State) : Nat → α := fun n => g (s.getSess n)

section
variable {α : Type} {g : Session → α} {s t : State}

theorem Kept.sess (h : Kept (State.sessView g) s t) (n : Nat) : g (t.getSess n) = g (s.getSess n) := congrFun h.same n

theorem Eff.sessKept {m : Nat} (e : Eff m s t) (hm : m.testBit 8 = false) : Kept (State.sessView g) s t := by
  refine ⟨?_⟩
  unfold State.sessView State.getSess
  rw [e.sess hm]

theorem State.modSess_kept (s : State) (n : Nat) {f : Session → Session} (hf : ∀ x, g (f x) = g x := by exact fun _ => rfl) :
    Kept (State.sessView g) s (s.modSess n f) := by
  refine ⟨funext fun k => ?_⟩
  unfold State.sessView
  by_cases hk : k = n
  · rw [hk, State.getSess_modSess_same, hf]
  · rw [State.getSess_modSess_other _ _ _ hk]

theorem State.modSessWhere_kept {f : Session → Session} (hf : ∀ x, g (f x) = g x) (s : State) (p : Nat → Session → Bool) :
    Kept (State.sessView g) s (s.modSessWhere p f) := by
  unfold State.modSessWhere
  exact .foldl (fun s (e : Nat × Session) => .ite (s.modSess_kept e.1 hf) (.refl s)) _ s

end

/-! ### Items that end, and what ends with a session (05 R145 to R149) -/

/-- A session beside its queues of records, the events it lost and the items it counts as it ends. -/
def Session.standing (x : Session) : Session := { x with ended := 0, txQueue := [], perQueue := [], evLost := 0 }

theorem Kept.sessState {s t : State} (h : Kept (State.sessView Session.standing) s t) (n : Nat) :
    (t.getSess n).state = (s.getSess n).state := (congrArg Session.state (h.sess n) :)

theorem Session.push_standing (r : HubRec) (x : Session) : (x.push r).standing = x.standing := by
  unfold Session.push
  split <;> rfl

theorem Session.pushItem_standing (periodic : Bool) (r : HubRec) (x : Session) : (x.pushItem periodic r).standing = x.standing := by
  cases periodic
  · exact x.push_standing r
  · rfl

section
variable (s : State)

theorem State.houseEvent_standing (code port device param time : Nat) :
    Kept (State.sessView Session.standing) s (s.houseEvent code port device param time) :=
  s.modSessWhere_kept (fun _ => Session.push_standing ..) _

theorem State.toLedger_standing (n t : Nat) (e : LedgerEntry) : Kept (State.sessView Session.standing) s (s.toLedger n t e) := by
  unfold State.toLedger
  exact .trans ((s.modTenants_eff ..).sessKept rfl) (State.modSess_kept ..)

theorem State.finishB_standing (k out det : Nat) (body : Bytes) : Kept (State.sessView Session.standing) s (s.finishB k out det body) := by
  unfold State.finishB
  split
  case h_1 => exact .refl s
  case h_2 i _ =>
    refine .trans ((s.dropItem_eff k i).sessKept rfl) (.ite ((State.modVault_eff _ _ rfl).sessKept rfl) (.ite ?_ (State.toLedger_standing ..)))
    exact State.modSess_kept _ _ fun _ => Session.pushItem_standing ..

theorem State.finish_standing (k out det : Nat) : Kept (State.sessView Session.standing) s (s.finish k out det) := s.finishB_standing k out det []

theorem State.settleEnding_standing : Kept (State.sessView Session.standing) s s.settleEnding := by
  refine .foldl (fun s e => .ite (.refl s) (.foldl (fun s k => ?_) _ s)) _ s
  split
  · split
    · exact .ite (.refl s) (s.finish_standing ..)
    · exact .refl s
  · exact .refl s

theorem State.settleCloses_standing : Kept (State.sessView Session.standing) s s.settleCloses :=
  .foldl (fun s _ => .ite (.refl s) (s.finish_standing ..)) _ s

theorem State.settleStops_standing : Kept (State.sessView Session.standing) s s.settleStops := by
  have stopped : ∀ (s : State) (t : Nat), Kept (State.sessView Session.standing) s (s.modTenants t (fun x => { x with stopWait := none })) :=
    fun s t => (s.modTenants_eff t _).sessKept rfl
  refine .foldl (fun s e => ?_) _ s
  split
  · exact .ite (.ite ((s.finish_standing ..).trans (stopped ..)) (.refl s)) (stopped ..)
  · exact .refl s

theorem State.settleWaits_standing : Kept (State.sessView Session.standing) s s.settleWaits :=
  (s.settleEnding_standing.trans (State.settleCloses_standing _)).trans (State.settleStops_standing _)

theorem State.freeLocks_standing (n : Nat) (broken : Bool) : Kept (State.sessView Session.standing) s (s.freeLocks n broken) := by
  have told : ∀ (s : State) (f : Coll → Coll), Kept (State.sessView Session.standing) s (s.collEvent f) := fun s f =>
    .ite ((s.modColl_eff f).sessKept rfl) (((s.modColl_eff f).sessKept rfl).trans (State.houseEvent_standing ..))
  unfold State.freeLocks
  dsimp only
  refine .ite (.trans ?_ (told ..)) ?_ <;>
    refine .trans (.trans (.foldl (fun s l => ?_) _ s) (.foldl (fun s l => (s.lockTell_eff l).sessKept rfl) _ _))
      ((State.modColl_eff ..).sessKept rfl) <;>
    exact (State.setLock_eff ..).sessKept rfl

/-! ### The end of a session (05 R145, R148) -/

/-- A session as its end takes it to Ending. -/
def Session.toEnding (loss : Bool) (reason : Nat) (x : Session) : Session :=
  { x with
    state := .ending, lossEnd := loss, reason := reason, ended := 0, txQueue := [], perQueue := [], replay := [], rxBuf := [],
    ledgerWait := [], evLost := 0, pathEnd := false, stallSpanNow := false, stallBufNow := false, stallWinNow := false }

/-- A session taken to Ending: every session stands as it is put, beside the records, events and items that its end leaves in queues. -/
theorem State.endSession_standing (n det reason : Nat) (loss broken : Bool) :
    Kept (State.sessView Session.standing) (s.modSess n (Session.toEnding loss reason)) (s.endSession n det reason loss broken) := by
  have caused : ∀ (s : State) (k : Nat), Kept (State.sessView Session.standing) s (s.endCause det k) := fun s k =>
    (s.endCause_eff det k).sessKept rfl
  unfold State.endSession Session.toEnding
  refine .trans ?_ (State.settleWaits_standing _)
  refine .trans (.trans ?_ ((State.dropFrames_eff ..).sessKept rfl)) (State.freeLocks_standing ..)
  exact .trans (.foldl (fun s e => s.toLedger_standing ..) _ _) (.foldl caused _ _)

/-- The session is Ending, and one that was stays it. -/
theorem State.endSession_ending {k n : Nat} (h : k = n ∨ (s.getSess k).state = .ending) (det reason : Nat) (loss broken : Bool) :
    ((s.endSession n det reason loss broken).getSess k).state = .ending := by
  rw [(s.endSession_standing n det reason loss broken).sessState]
  by_cases hk : k = n
  · rw [hk, State.getSess_modSess_same]
    rfl
  · rw [State.getSess_modSess_other _ _ _ hk]
    exact h.resolve_left hk

/-- Sessions lost one after another are Ending, and one that was stays it. -/
theorem State.foldl_loseSession_ending {n : Nat} (l : List Nat) {s : State} (h : n ∈ l ∨ (s.getSess n).state = .ending) :
    ((l.foldl (fun s n => s.loseSession n) s).getSess n).state = .ending := by
  induction l generalizing s with
  | nil => simpa using h
  | cons k l ih =>
    rw [List.foldl_cons]
    refine ih ?_
    rcases h with h | h
    · rcases List.mem_cons.mp h with rfl | h
      · exact .inr (s.endSession_ending (.inl rfl) ..)
      · exact .inl h
    · exact .inr (s.endSession_ending (.inr h) ..)

end

/-- A Held session is listed. -/
theorem State.mem_held {s : State} {n : Nat} (h : (s.getSess n).state = .held) :
    n ∈ (s.sess.filter (fun e => decide (e.2.state = .held))).map (·.1) := by
  rcases SMap.get_mem (d := Session.reset) s.sess n with hm | hm
  · exact List.mem_map.mpr ⟨_, List.mem_filter.mpr ⟨hm, decide_eq_true h⟩, rfl⟩
  · unfold State.getSess at h
    rw [hm] at h
    cases h

/-! ### The pass after a command, in a calm state -/

theorem State.settleRounds_standing {s : State} (h : Calm s) (n : Nat) :
    Kept (State.sessView Session.standing) s (times State.settleOnce n s) := by
  induction n generalizing s with
  | zero => exact .refl s
  | succ n ih =>
    rw [times, State.settleOnce_calm h]
    exact s.settleWaits_standing.trans (ih (s.settleWaits_loansKept.calm h))

/-- In a calm state the pass only ends items, so every session stands as it did. -/
theorem State.settle_standing {s : State} (h : Calm s) : Kept (State.sessView Session.standing) s s.settle := by
  have calm := (State.settleRounds_calm h 3).1.calm h
  have freed : Calm (times State.settleOnce 3 s).freeRecalled.pllPass :=
    (calm.eff (State.freeRecalled_eff _) rfl).eff (State.pllPass_eff _) rfl
  unfold State.settle
  rw [State.resumedPass_calm h, State.escOwed_calm calm, State.guardPass_calm freed]
  exact ((State.settleRounds_standing h 3).trans ((State.freeRecalled_eff _).sessKept rfl)).trans ((State.pllPass_eff _).sessKept rfl)

end Sys2Proof.Machine

namespace Sys2Proof
open Machine

/-- Every Held session is lost (04 R117). -/
theorem allDownHoldExpiry_ending {s : State} {n : Nat} (q : Quiet s) (hm : s.members = []) (hh : (s.getSess n).state = .held) :
    Gives .allDownHoldExpiry s (fun t => (t.getSess n).state = .ending) := by
  have lost : s.allDownEnd = ((s.sess.filter (fun e => decide (e.2.state = .held))).map (·.1)).foldl (fun s n => s.loseSession n) s := if_pos hm
  have kept : LoansKept s s.allDownEnd := by
    rw [lost]
    exact .foldl (fun s n => s.endSession_loansKept ..) _ s
  have settled := State.settle_standing (kept.calm (.of_quiet q))
  refine .intro (t := s.allDownEnd.settle) rfl ?_
  rw [settled.sessState, lost]
  exact State.foldl_loseSession_ending _ (.inl (State.mem_held hh))

/-- Settles O21: what a command puts a link in stands over the frames and sessions that move with it, and so does a session's end. -/
theorem upstreamLinkStates : Obligations.UpstreamLinkStates := by
  unfold Obligations.UpstreamLinkStates
  exact ⟨fun _ _ _ hm ht hb => upstreamTrainingDone_probation hm ht hb, fun _ _ hm ht hn => upstreamTrainingDone_stays hm ht hn,
    fun _ _ hm ht => upstreamTrainingFail_counts hm ht, fun _ _ hm hp => probationExpiry_member hm hp,
    fun _ _ hm h => upstreamLinkFault_training hm h, fun _ _ q hm hh => allDownHoldExpiry_ending q hm hh,
    fun _ _ _ _ hw _ hv => upstreamLinksEnabledWrite_off hw hv⟩

end Sys2Proof
end

section
/-!
PROOFS. Frames sent: what a frame, an acknowledgement and a retransmission leave of the counters of a session (04 R124 to R130).
-/
set_option Elab.async false
namespace Sys2Proof.Machine

/-! ### Counters of a session -/

/-- The numbers of the frames and items of a session, and its retransmission timeout. -/
def Session.counters (x : Session) : Session :=
  { Session.reset with
    expect := x.expect, txNext := x.txNext, rxNext := x.rxNext, txc := x.txc, rxTxc := x.rxTxc, unacked := x.unacked, rto := x.rto,
    rtoCount := x.rtoCount, retx := x.retx }

theorem Session.fields_of_counters {x y : Session} (h : x.counters = y) :
    x.txNext = y.txNext ∧ x.txc = y.txc ∧ x.unacked = y.unacked ∧ x.retx = y.retx := by
  subst h
  exact ⟨rfl, rfl, rfl, rfl⟩

/-- What frames that are sent leave of a session's counters: what was received, and the retransmission timeout. -/
def Session.beside (x : Session) : Session :=
  { Session.reset with expect := x.expect, rxNext := x.rxNext, rxTxc := x.rxTxc, rto := x.rto, rtoCount := x.rtoCount }

theorem Session.fields_of_beside {x y : Session} (h : x.beside = y.beside) :
    x.expect = y.expect ∧ x.rxNext = y.rxNext ∧ x.rxTxc = y.rxTxc ∧ x.rto = y.rto ∧ x.rtoCount = y.rtoCount :=
  ⟨(congrArg Session.expect h :), (congrArg Session.rxNext h :), (congrArg Session.rxTxc h :), (congrArg Session.rto h :),
    (congrArg Session.rtoCount h :)⟩

section
variable {α : Type} {g : Session → α} {s t : State}

theorem Kept.of_counters (h : Kept (State.sessView Session.counters) s t) : Kept (State.sessView Session.beside) s t :=
  h.map (fun v n => (v n).beside) fun _ => rfl

theorem Kept.of_standing (h : Kept (State.sessView Session.standing) s t) (hg : ∀ x, g x.standing = g x) : Kept (State.sessView g) s t :=
  h.map (fun (v : Nat → Session) n => g (v n)) fun s => funext fun n => (hg (s.getSess n)).symm

/-- What a session's queues and counts of lost events have no part in stands over the pass in a calm state. -/
theorem State.settle_kept (h : Calm s) (hg : ∀ x, g x.standing = g x := by exact fun _ => rfl) : Kept (State.sessView g) s s.settle :=
  (State.settle_standing h).of_standing hg

theorem State.endSession_kept (s : State) (n det reason : Nat) (loss broken : Bool) (hg : ∀ x, g x.standing = g x := by exact fun _ => rfl)
    (he : ∀ x, g (x.toEnding loss reason) = g x := by exact fun _ => rfl) :
    Kept (State.sessView g) s (s.endSession n det reason loss broken) :=
  (s.modSess_kept n he).trans ((s.endSession_standing n det reason loss broken).of_standing hg)

/-- What the stall causes and their counts have no part in stands as the conditions are evaluated. -/
theorem State.restall_kept (s : State) (n : Nat)
    (hg : ∀ (x : Session) (a b c : BitVec 32) (p q r : Bool), g { x with
      stallSpan := a, stallBuf := b, stallWin := c, stallSpanNow := p, stallBufNow := q, stallWinNow := r } = g x := by
        exact fun _ _ _ _ _ _ _ => rfl) : Kept (State.sessView g) s (s.restall n) := by
  unfold State.restall
  dsimp only
  refine .ite (.trans ?_ ((State.modTenants_eff ..).sessKept rfl)) ?_ <;> exact s.modSess_kept n fun _ => hg ..

end

/-! ### Calm states, while frames are sent -/

section
variable {s : State} (h : Calm s)
include h

theorem Calm.settle : Calm s.settle := by
  have calm := (State.settleRounds_calm h 3).1.calm h
  have freed : Calm (times State.settleOnce 3 s).freeRecalled.pllPass :=
    (calm.eff (State.freeRecalled_eff _) rfl).eff (State.pllPass_eff _) rfl
  unfold State.settle
  rwa [State.resumedPass_calm h, State.escOwed_calm calm, State.guardPass_calm freed]

theorem Calm.foldl {α : Type} {f : State → α → State} (hf : ∀ s x, Calm s → Calm (f s x)) (l : List α) : Calm (l.foldl f s) := by
  induction l generalizing s with
  | nil => exact h
  | cons x l ih => exact ih (hf s x h)

theorem Calm.modSess (n : Nat) (f : Session → Session) : Calm (s.modSess n f) := h.eff (s.modSess_eff n f) rfl

theorem Calm.restall (n : Nat) : Calm (s.restall n) := by
  unfold State.restall
  dsimp only
  split
  · exact (h.modSess ..).modTenants _
  · exact h.modSess ..

theorem Calm.sendFrame (n typ seq : Nat) (retx : Bool) (payload : Bytes) : Calm (s.sendFrame n typ seq retx payload) :=
  h.eff (s.sendFrame_eff n typ seq retx payload) rfl

theorem Calm.endSession (n det reason : Nat) (loss broken : Bool) : Calm (s.endSession n det reason loss broken) :=
  (s.endSession_loansKept n det reason loss broken).calm h

theorem Calm.sendAck (n : Nat) : Calm (s.sendAck n) := by
  unfold State.sendAck
  split
  · exact h.endSession ..
  · exact h.sendFrame ..

theorem Calm.resend (n q : Nat) : Calm (s.resend n q) := by
  unfold State.resend
  split
  · split
    · exact h.endSession ..
    · exact ((h.sendFrame ..).modSess ..).modTenants _
  · exact h

theorem Calm.endPath (n : Nat) : Calm (s.endPath n) := by
  unfold State.endPath
  dsimp only
  split
  · exact h.endSession ..
  · exact h

end

/-! ### What frames sent do to the counters (04 R124, R126, R129, R130) -/

/-- A session once a frame has taken the next TXC and acknowledged what was received. -/
def Session.withFrame (x : Session) : Session := { x with txc := x.txc + 1, unacked := 0 }

/-- A session once a DATA frame has taken the next SEQ, and the next TXC with it. -/
def Session.withData (x : Session) : Session := { x.withFrame with txNext := (x.txNext + 1) % 16777216 }

/-- A session once a frame has been sent again and counted. -/
def Session.withResent (x : Session) : Session := { x.withFrame with retx := satAdd x.retx 1 }

theorem Session.sentOn_counters (m now : Nat) (f : OutFrame) (x : Session) : (x.sentOn m now f).counters = x.counters := by
  unfold Session.sentOn
  split <;> rfl

section
variable (s : State) (n : Nat)

theorem State.queueFrame_counters (f : OutFrame) : Kept (State.sessView Session.counters) s (s.queueFrame f) := by
  have sent : ∀ m, Kept (State.sessView Session.counters) s (s.onLink m f) := fun m => by
    unfold State.onLink
    dsimp only
    refine .trans (t := (s.modUpl (fun u => { u with rrNext := m % 8 + 1 })).modSess f.sess (Session.sentOn m s.now f)) ?_ ?_
    · exact .trans ((s.modUpl_eff _).sessKept rfl) (State.modSess_kept _ _ fun _ => Session.sentOn_counters ..)
    · exact .ite (.trans ((State.setLink_eff ..).sessKept rfl) ((State.wire_eff ..).sessKept rfl)) ((State.setLink_eff ..).sessKept rfl)
  unfold State.queueFrame
  split
  · exact sent _
  · exact (s.modUpl_eff _).sessKept rfl

theorem State.sendFrame_counters (typ seq : Nat) (retx : Bool) (payload : Bytes) :
    ((s.sendFrame n typ seq retx payload).getSess n).counters = (s.getSess n).counters.withFrame := by
  unfold State.sendFrame
  dsimp only
  rw [(State.queueFrame_counters ..).sess n, State.getSess_modSess_same]
  rfl

theorem State.sendFrame_beside (typ seq : Nat) (retx : Bool) (payload : Bytes) :
    Kept (State.sessView Session.beside) s (s.sendFrame n typ seq retx payload) := by
  unfold State.sendFrame
  exact .trans (s.modSess_kept n) (State.queueFrame_counters ..).of_counters

theorem State.sendData_counters : ((s.sendData n).getSess n).counters = (s.getSess n).counters.withData := by
  have reported : ∀ (u : State) (time : Nat), Kept (State.sessView Session.counters) u (u.modSess n (Session.reportLost time)) :=
    fun u time => u.modSess_kept n fun x => by
      unfold Session.reportLost
      split <;> rfl
  unfold State.sendData
  dsimp only
  rw [(reported ..).sess n, State.sendFrame_counters, State.getSess_modSess_same]
  rfl

theorem State.sendAck_counters (h : (s.getSess n).wraps = false) : ((s.sendAck n).getSess n).counters = (s.getSess n).counters.withFrame := by
  unfold State.sendAck
  rw [if_neg (by simp [h]), State.sendFrame_counters]

theorem State.sendAck_beside : Kept (State.sessView Session.beside) s (s.sendAck n) := by
  unfold State.sendAck
  exact .ite (s.endSession_kept ..) (s.sendFrame_beside ..)

/-- A frame of the replay buffer that is sent again is counted. -/
theorem State.resend_counters {q : Nat} (hq : (s.getSess n).replay.any (fun e => decide (e.seq = q)) = true)
    (hw : (s.getSess n).wraps = false) : ((s.resend n q).getSess n).counters = (s.getSess n).counters.withResent := by
  unfold State.resend
  split
  case h_1 r _ =>
    have sent := s.sendFrame_counters n 1 q true (r.recs.flatMap HubRec.encode)
    rw [if_neg (by simp [hw])]
    dsimp only
    rw [State.getSess_modTenants, State.getSess_modSess_same]
    exact congrArg (fun x : Session => { x with retx := satAdd x.retx 1 }) sent
  case h_2 none =>
    obtain ⟨e, he, hs⟩ := List.any_eq_true.mp hq
    exact absurd hs (List.find?_eq_none.mp none e he)

theorem State.resend_beside (q : Nat) : Kept (State.sessView Session.beside) s (s.resend n q) := by
  unfold State.resend
  split
  · refine .ite (s.endSession_kept ..) ?_
    dsimp only
    refine .trans (.trans (s.sendFrame_beside ..) (State.modSess_kept ..)) ((State.modTenants_eff ..).sessKept rfl)
  · exact .refl s

end

end Sys2Proof.Machine

namespace Sys2Proof
open Machine

/-! ### The commands of a session's timers and turns (04 R126, R129, R130; 07 R231) -/

section
variable {s : State} {n : Nat} (hn : n < 1024) (q : Quiet s) (ho : (s.getSess n).state = .opened)
include hn q ho

theorem isaixFrameSend_counts (hq : (s.getSess n).wants = true) (hw : (s.getSess n).wraps = false)
    (hs : ((s.restall n).getSess n).stalled = false) (ht : (s.restall n).myTurn n = true) (hl : (s.restall n).sprayLink ≠ none) :
    Gives (.isaixFrameSend n) s (fun t => (t.getSess n).txNext = ((s.getSess n).txNext + 1) % 16777216 ∧
      (t.getSess n).txc = (s.getSess n).txc + 1) := by
  have sent : s.frameSend n = (((((s.restall n).charge n).sendData n).restall n).dropDeficit).endPath n := by
    unfold State.frameSend
    dsimp only
    rw [if_pos ⟨.inl ho, hq⟩, if_neg (by simp [hw]), if_neg (by simp [hs, ht, hl])]
  have charged : Kept (State.sessView Session.counters) s ((s.restall n).charge n) :=
    (s.restall_kept n).trans ((State.charge_eff ..).sessKept rfl)
  have after : Kept (State.sessView Session.counters) (((s.restall n).charge n).sendData n) (s.frameSend n) := by
    rw [sent]
    refine .trans (.trans ?_ ((State.dropDeficit_eff _).sessKept rfl)) (.ite (State.endSession_kept ..) (.refl _))
    exact State.restall_kept ..
  have calm : Calm (s.frameSend n) := by
    have charged : Calm ((s.restall n).charge n) := ((Calm.of_quiet q).restall n).eff (State.charge_eff ..) rfl
    have data : Calm (((s.restall n).charge n).sendData n) := charged.eff (State.sendData_eff ..) rfl
    rw [sent]
    exact ((data.restall n).eff (State.dropDeficit_eff _) rfl).endPath n
  have counts := ((after.trans (State.settle_kept calm)).sess n).trans (State.sendData_counters ..)
  rw [charged.sess n] at counts
  obtain ⟨next, txc, -⟩ := Session.fields_of_counters counts
  exact gives_onUnit (t := (s.frameSend n).settle) rfl (decide_eq_true hn) ⟨next, txc⟩

theorem ackDelayExpiry_acks (hu : (s.getSess n).unacked ≠ 0) (hw : (s.getSess n).wraps = false) :
    Gives (.ackDelayExpiry n) s (fun t => (t.getSess n).unacked = 0 ∧ (t.getSess n).txc = (s.getSess n).txc + 1) := by
  have acks : s.ackDelayEnd n = s.sendAck n := if_pos ⟨.inl ho, hu⟩
  have counts := ((State.settle_kept ((Calm.of_quiet q).sendAck n)).sess n).trans (s.sendAck_counters n hw)
  obtain ⟨-, txc, unacked, -⟩ := Session.fields_of_counters counts
  refine gives_onUnit (t := (s.ackDelayEnd n).settle) rfl (decide_eq_true hn) ?_
  rw [acks]
  exact ⟨unacked, txc⟩

theorem reorderAllowanceExpiry_resends {e : Nat} (hl : laterSacked (s.getSess n).peerSacks e = true)
    (hr : (s.getSess n).replay.any (fun r => decide (r.seq = e)) = true) (hw : (s.getSess n).wraps = false) :
    Gives (.reorderAllowanceExpiry n e) s (fun t => (t.getSess n).retx = satAdd (s.getSess n).retx 1) := by
  have resends : s.reorderEnd n e = s.resend n e := if_pos ⟨.inl ho, hl, hr⟩
  have counts := ((State.settle_kept ((Calm.of_quiet q).resend n e)).sess n).trans (s.resend_counters n hr hw)
  obtain ⟨-, -, -, retx⟩ := Session.fields_of_counters counts
  refine gives_onUnit (t := (s.reorderEnd n e).settle) rfl (decide_eq_true hn) ?_
  rw [resends]
  exact retx

theorem retransmissionTimeout_doubles (hr : (s.getSess n).replay ≠ []) (hc : (s.getSess n).rtoCount + 1 < s.cfg 0x2203 4) :
    Gives (.retransmissionTimeout n) s (fun t => (t.getSess n).rtoCount = (s.getSess n).rtoCount + 1 ∧
      (t.getSess n).rto = min 100000 (2 * max (s.getSess n).rto (s.cfg 0x2203 3))) := by
  obtain ⟨r, l, hr⟩ := List.exists_cons_of_ne_nil hr
  have doubles : s.rtoEnd n = (s.modSess n (fun x => { x with
      rtoCount := x.rtoCount + 1, rto := min 100000 (2 * max x.rto (s.cfg 0x2203 3)) })).resend n r.seq := by
    unfold State.rtoEnd
    dsimp only
    rw [hr]
    dsimp only
    rw [if_pos (.inl ho), if_neg (by omega)]
  have calm := ((Calm.of_quiet q).modSess n (fun x => { x with
    rtoCount := x.rtoCount + 1, rto := min 100000 (2 * max x.rto (s.cfg 0x2203 3)) })).resend n r.seq
  have counts := ((State.resend_beside ..).trans (State.settle_kept calm)).sess n
  rw [State.getSess_modSess_same] at counts
  obtain ⟨-, -, -, rto, count⟩ := Session.fields_of_beside counts
  refine gives_onUnit (t := (s.rtoEnd n).settle) rfl (decide_eq_true hn) ?_
  rw [doubles]
  exact ⟨count, rto⟩

end

end Sys2Proof
end

section
/-!
PROOFS. Frames received: what a header, the frame next in sequence and a record without a command leave of a session (04 R122, R128 to
R131; 05 R152, R153, R156).
-/
set_option Elab.async false
namespace Sys2Proof.Machine

/-! ### Sessions as frames arrive -/

/-- What the sequence of a session takes a frame by, and the TXC accepted last. -/
def Session.intake (x : Session) : Session :=
  { Session.reset with
    state := x.state, block := x.block, expect := x.expect, rxNext := x.rxNext, rxTxc := x.rxTxc, rxBuf := x.rxBuf, bufKib := x.bufKib }

/-- The fields of a session that every accepted frame of it carries (04 R121). -/
def Session.headed (f : Frame) (x : Session) : Session :=
  { x with
    rxTxc := some f.txc, tsRecent := f.tsval, peer := f.via.src, peerPort := f.via.srcPort,
    window := if f.ackValid then f.window else x.window, peerSacks := if f.sacks = [] then x.peerSacks else f.sacks.take 4 }

/-- A session once the next frame of its sequence has been taken (04 R131). -/
def Session.withNext (x : Session) : Session := { x with rxNext := (x.rxNext + 1) % 16777216, unacked := x.unacked + 1 }

/-- A session once a record of the accession index it expected has been taken (05 R156). -/
def Session.withRecord (x : Session) : Session := { x with expect := x.expect + 1, gapTold := false }

theorem Session.fields_of_intake {x y : Session} (h : x.intake = y) :
    x.state = y.state ∧ x.block = y.block ∧ x.expect = y.expect ∧ x.rxNext = y.rxNext ∧ x.rxTxc = y.rxTxc ∧ x.rxBuf = y.rxBuf ∧
      x.bufKib = y.bufKib := by
  subst h
  exact ⟨rfl, rfl, rfl, rfl, rfl, rfl, rfl⟩

theorem Session.sample_intake (r : Nat) (x : Session) : (x.sample r).intake = x.intake := by
  unfold Session.sample
  split <;> rfl

/-! ### The header of a frame (04 R121, R128, R130) -/

theorem Calm.freeBlock {s : State} (h : Calm s) (t block : Nat) : Calm (s.freeBlock t block) := by
  unfold State.freeBlock
  split
  · exact (h.modTenants t).eff (State.modMem_eff ..) rfl
  · exact h

theorem State.drained_opened {s : State} {n : Nat} (ho : (s.getSess n).state = .opened) : s.drained n = s := if_neg (by simp [ho])

/-- An acknowledgement taken by an Open session: frames leave its replay buffer and blocks of its principal's ledger are freed. -/
theorem State.takeAck_opened {s : State} {n : Nat} (ho : (s.getSess n).state = .opened) (a : Nat) :
    s.takeAck n a = s ∨ ∃ (f : Session → Session) (t : Nat) (l : List (Nat × Nat)),
      s.takeAck n a = l.foldl (fun s w => s.freeBlock t w.1) (s.modSess n f) ∧ ∀ x, (f x).intake = x.intake := by
  have freed : ∀ (s : State) (l : List (Nat × Nat)) (t : Nat),
      Kept (State.sessView Session.state) s (l.foldl (fun s w => s.freeBlock t w.1) s) := fun s l t =>
    .foldl (fun s w => (s.freeBlock_eff t w.1).sessKept rfl) l s
  unfold State.takeAck
  dsimp only
  split
  · exact .inl rfl
  · refine .inr ⟨_, _, _, State.drained_opened ?_, fun _ => rfl⟩
    rw [(freed ..).sess n, State.getSess_modSess_same]
    exact ho

theorem State.takeAck_intake {s : State} {n : Nat} (ho : (s.getSess n).state = .opened) (a : Nat) :
    Kept (State.sessView Session.intake) s (s.takeAck n a) := by
  obtain e | ⟨f, t, l, e, hf⟩ := State.takeAck_opened ho a <;> rw [e]
  · exact .refl s
  · exact .trans (s.modSess_kept n hf) (.foldl (fun s w => (s.freeBlock_eff t w.1).sessKept rfl) l _)

theorem Calm.takeAck {s : State} (h : Calm s) {n : Nat} (ho : (s.getSess n).state = .opened) (a : Nat) : Calm (s.takeAck n a) := by
  obtain e | ⟨f, t, l, e, -⟩ := State.takeAck_opened ho a <;> rw [e]
  · exact h
  · exact (h.modSess n f).foldl (fun s w h => h.freeBlock t w.1) l

theorem Calm.resendSacked {s : State} (h : Calm s) (n : Nat) : Calm (s.resendSacked n) := h.foldl (fun _ _ h => h.resend ..) _

theorem State.resendSacked_beside (s : State) (n : Nat) : Kept (State.sessView Session.beside) s (s.resendSacked n) :=
  .foldl (fun s _ => s.resend_beside ..) _ s

/-- The round-trip time that the time stamps of a frame show is measured. -/
def State.takeEcho (s : State) (f : Frame) : State :=
  if (s.getSess f.sess).replay = [] ∨ f.tsecr = 0 then s else s.modSess f.sess (Session.sample (s.clk.usCount - f.tsecr).toNat)

/-- The header of a frame, before the frames that its SACK blocks show overtaken are sent again. -/
def State.takeAcked (s : State) (f : Frame) : State :=
  let s := s.modSess f.sess (Session.headed f)
  if f.ackValid then ((s.takeEcho f).takeAck f.sess f.ack).restall f.sess else s.restall f.sess

theorem State.takeHeader_eq (s : State) (f : Frame) :
    s.takeHeader f = if f.ackValid = true ∧ f.sacks ≠ [] then (s.takeAcked f).resendSacked f.sess else s.takeAcked f := by
  unfold State.takeHeader State.takeAcked State.takeEcho Session.headed
  cases f.ackValid <;> cases f.sacks <;> simp

theorem State.takeEcho_intake (s : State) (f : Frame) : Kept (State.sessView Session.intake) s (s.takeEcho f) :=
  .ite (.refl s) (s.modSess_kept _ fun x => x.sample_intake _)

theorem Calm.takeEcho {s : State} (h : Calm s) (f : Frame) : Calm (s.takeEcho f) := by
  unfold State.takeEcho
  split
  · exact h
  · exact h.modSess ..

section
variable {s : State} {f : Frame} (ho : (s.getSess f.sess).state = .opened)
include ho

theorem State.takeEcho_headed_opened : (((s.modSess f.sess (Session.headed f)).takeEcho f).getSess f.sess).state = .opened := by
  rw [(Session.fields_of_intake ((State.takeEcho_intake ..).sess f.sess)).1, State.getSess_modSess_same]
  exact ho

theorem State.takeAcked_intake : Kept (State.sessView Session.intake) (s.modSess f.sess (Session.headed f)) (s.takeAcked f) := by
  unfold State.takeAcked
  refine .ite (.trans ?_ (State.restall_kept ..)) (State.restall_kept ..)
  exact (State.takeEcho_intake ..).trans (State.takeAck_intake (State.takeEcho_headed_opened ho) f.ack)

theorem Calm.takeAcked (h : Calm s) : Calm (s.takeAcked f) := by
  have headed := h.modSess f.sess (Session.headed f)
  unfold State.takeAcked
  dsimp only
  split
  · exact ((headed.takeEcho f).takeAck (State.takeEcho_headed_opened ho) f.ack).restall f.sess
  · exact headed.restall f.sess

theorem Calm.takeHeader (h : Calm s) : Calm (s.takeHeader f) := by
  rw [State.takeHeader_eq]
  split
  · exact (Calm.takeAcked ho h).resendSacked f.sess
  · exact Calm.takeAcked ho h

theorem State.takeAcked_rxTxc : ((s.takeAcked f).getSess f.sess).rxTxc = some f.txc := by
  obtain ⟨-, -, -, -, txc, -⟩ := Session.fields_of_intake ((State.takeAcked_intake ho).sess f.sess)
  rw [txc, State.getSess_modSess_same]
  rfl

/-- An accepted frame's TXC is the one accepted last, whatever else the frame brings. -/
theorem State.takeHeader_rxTxc : ((s.takeHeader f).getSess f.sess).rxTxc = some f.txc := by
  rw [State.takeHeader_eq]
  split
  · obtain ⟨-, -, txc, -⟩ := Session.fields_of_beside (((s.takeAcked f).resendSacked_beside f.sess).sess f.sess)
    exact txc.trans (State.takeAcked_rxTxc ho)
  · exact State.takeAcked_rxTxc ho

/-- A frame without an acknowledgement: what its session sent and its state stand as they did. -/
theorem State.takeHeader_unacknowledged (ha : f.ackValid = false) :
    ((s.takeHeader f).getSess f.sess).txc = (s.getSess f.sess).txc ∧ ((s.takeHeader f).getSess f.sess).state = .opened := by
  have header : s.takeHeader f = s.takeAcked f := by rw [State.takeHeader_eq, if_neg (by simp [ha])]
  have plain : s.takeAcked f = (s.modSess f.sess (Session.headed f)).restall f.sess := if_neg (by simp [ha])
  have txc : Kept (State.sessView Session.txc) s (s.takeHeader f) := by
    rw [header, plain]
    refine .trans ?_ (State.restall_kept ..)
    exact s.modSess_kept f.sess
  refine ⟨txc.sess f.sess, ?_⟩
  rw [header, (Session.fields_of_intake ((State.takeAcked_intake ho).sess f.sess)).1, State.getSess_modSess_same]
  exact ho

/-- A frame without SACK blocks: the sequence of its session stands as it did. -/
theorem State.takeHeader_intake (hs : f.sacks = []) :
    ((s.takeHeader f).getSess f.sess).intake = ((s.getSess f.sess).headed f).intake := by
  rw [State.takeHeader_eq, if_neg (by simp [hs]), (State.takeAcked_intake ho).sess f.sess, State.getSess_modSess_same]

end

/-! ### A record without a command (05 R153, R156, R159) -/

/-- The state with other ended transfers of the hub. -/
def State.withEnded (s : State) (l : List (Nat × (Nat × Nat) × Bytes × Item)) : State := s.modVault (fun v => { v with ended := l })

section
variable {s : State} (h : Calm s) (l : List (Nat × (Nat × Nat) × Bytes × Item))
include h

theorem State.withEnded_nil : s.withEnded [] = s := by
  rw [← h.ended]
  rfl

/-- Ended transfers that no job, capture or channel waits for leave no trace. -/
theorem State.hubEnds_withEnded : (s.withEnded l).hubEnds = s := by
  have job : ∀ n out det, s.jobPipeEnd n out det = s := fun n out det => by
    unfold State.jobPipeEnd State.tgtOfPipe
    rw [h.jobs]
    rfl
  have capture : ∀ k out det i, s.captEnded k out det i = s := fun k out det i => by
    unfold State.captEnded State.capt?
    rw [h.captures]
    rfl
  have channel : ∀ c n out, s.chanPipeEnd c n out = s := fun c n out => by
    have idle : s.chan c = Chan.reset := by
      unfold State.chan
      rw [h.chans]
      rfl
    exact if_pos (by rw [idle]; decide)
  have emptied : (s.withEnded l).modVault (fun v => { v with ended := [] }) = s := State.withEnded_nil h
  unfold State.hubEnds
  dsimp only
  rw [emptied]
  refine List.foldlRecOn (motive := fun t => t = s) _ _ rfl fun t ht e _ => ?_
  subst ht
  split
  · exact job ..
  · exact capture ..
  · exact channel ..
  · rfl

theorem State.settle_withEnded : (s.withEnded l).settle = s.settle := by
  have own : s.hubEnds = s := by simpa only [State.withEnded_nil h] using State.hubEnds_withEnded h []
  have round : (s.withEnded l).settleOnce = s.settleOnce := by
    unfold State.settleOnce
    rw [State.hubEnds_withEnded h l, own]
  have resumed : (s.withEnded l).resumedPass = s.withEnded l := by
    unfold State.resumedPass
    rw [List.filter_eq_nil_iff.mpr fun e he => by simp [(h.waits e he).2]]
    rfl
  have rounds : times State.settleOnce 3 (s.withEnded l) = times State.settleOnce 3 s := congrArg (times State.settleOnce 2) round
  unfold State.settle
  rw [resumed, State.resumedPass_calm h, rounds]

end

theorem State.items_dropped {s : State} {k : Nat} {i : Item} {e : Nat × Item} (he : e ∈ ((s.setItems k i).setItems k Item.reset).items) :
    e ∈ s.items := by
  obtain ⟨hm, hk⟩ := SMap.mem_put_default (d := Item.reset) he
  rcases SMap.mem_put (d := Item.reset) hm with h | ⟨rfl, -⟩
  · exact h
  · exact absurd rfl hk

theorem Calm.dropped {s : State} (h : Calm s) (k : Nat) (i : Item) : Calm ((s.setItems k i).setItems k Item.reset) :=
  ⟨h.ended, h.jobs, h.captures, h.chans, h.owed, fun e he => h.items e (State.items_dropped he), h.waits, h.request, h.blocked⟩

/-- An item without a pipe and a port that ends as it is taken: its session takes its completion or its principal's ledger does, and the pass
that follows finds a calm state. -/
theorem State.finish_taken {s : State} (h : Calm s) {k : Nat} {i : Item} (hi : i ≠ Item.reset) (hp : i.pipe = none) (hq : i.port = 0)
    (out det : Nat) :
    ∃ t, Calm t ∧ Kept (State.sessView Session.standing) s t ∧ ((s.setItems k i).finish k out det).settle = t.settle := by
  have dropped : (s.setItems k i).dropItem k i = (s.setItems k i).setItems k Item.reset := by
    unfold State.dropItem
    rw [hp]
    exact if_pos hq
  have calm := h.dropped k i
  have kept : Kept (State.sessView Session.standing) s ((s.setItems k i).setItems k Item.reset) := ⟨rfl⟩
  unfold State.finish State.finishB
  rw [State.item?_setItems hi]
  dsimp only
  rw [dropped]
  split
  · exact ⟨_, calm, kept, State.settle_withEnded calm _⟩
  · split
    · exact ⟨_, calm.modSess .., kept.trans (State.modSess_kept _ _ fun _ => Session.pushItem_standing ..), rfl⟩
    · exact ⟨_, (State.toLedger_loansKept ..).calm calm, kept.trans (State.toLedger_standing ..), rfl⟩

theorem State.earlyEnd_unknown (s : State) (i : Item) : ∃ c, s.earlyEnd i false false true 0 = some c := by
  unfold State.earlyEnd
  simp only [if_true]
  split
  · exact ⟨_, rfl⟩
  · split <;> exact ⟨_, rfl⟩

/-- A record of the index expected that no command has the opcode of. -/
theorem State.recUnknown_settle {s : State} (h : Calm s) {r : Rec} (ho : (s.getSess r.sess).state = .opened)
    (hb : r.acc / 4294967296 = (s.getSess r.sess).block) (he : r.acc % 4294967296 = (s.getSess r.sess).expect) (op : Nat) :
    ∃ t, Calm t ∧ Kept (State.sessView Session.standing) (s.modSess r.sess Session.withRecord) t ∧
      (s.recUnknownCommandRecord op r).settle = t.settle := by
  unfold State.recUnknownCommandRecord State.takeRec
  rw [if_neg (by simp [ho]), if_neg (by simp [hb, he])]
  dsimp only
  obtain ⟨c, hc⟩ := State.earlyEnd_unknown _ _
  rw [hc]
  refine State.finish_taken (h.modSess ..) (fun e => ?_) rfl rfl ..
  have op : 256 + op = 0 := congrArg Item.op e
  omega

/-! ### The frame next in sequence (04 R131; 05 R152) -/

theorem splitRecs_one {b : Bytes} (hl : b.length = 16) (hz : beNat (slice b 2 2) = 0) :
    splitRecs (b.length / 16) b = [(beNat (slice b 0 1), beNat (slice b 4 6), beNat (slice b 12 4), slice b 16 0)] := by
  rw [hl, splitRecs, if_neg (by omega)]
  simp only [hz]
  rfl

theorem State.serveRec_unknown (s : State) (r : Rec) : s.serveRec 0x7F r = s.recUnknownCommandRecord 0x7F r := rfl

/-- A payload of one record without a command: the session's index goes on, and the pass that follows finds a calm state. -/
theorem State.serveAll_unknown {s : State} (h : Calm s) {n : Nat} {b : Bytes} (ho : (s.getSess n).state = .opened) (hl : b.length = 16)
    (hc : beNat (slice b 0 1) = 0x7F) (hz : beNat (slice b 2 2) = 0)
    (hb : beNat (slice b 4 6) / 4294967296 = (s.getSess n).block) (he : beNat (slice b 4 6) % 4294967296 = (s.getSess n).expect) :
    Calm (s.serveAll n b) ∧ ((s.serveAll n b).getSess n).expect = (s.getSess n).expect + 1 := by
  obtain ⟨t, calm, taken, settled⟩ :=
    State.recUnknown_settle h (r := ⟨n, beNat (slice b 4 6), beNat (slice b 12 4), slice b 16 0⟩) ho hb he 0x7F
  have served : s.serveAll n b = t.settle := by
    rw [← settled]
    unfold State.serveAll
    rw [splitRecs_one hl hz, hc, List.foldl_cons, List.foldl_nil, State.serveRec_unknown]
  rw [served]
  have kept : Kept (State.sessView Session.expect) (s.modSess n Session.withRecord) t.settle :=
    (taken.trans (State.settle_kept calm)).of_standing fun _ => rfl
  refine ⟨calm.settle, ?_⟩
  rw [kept.sess n, State.getSess_modSess_same]
  rfl

theorem Session.takes_of_opened {x : Session} (ho : x.state = .opened) : x.takes = true := by
  unfold Session.takes
  rw [ho]
  rfl

theorem State.ackNow_beside (s : State) (n : Nat) : Kept (State.sessView Session.beside) s (s.ackNow n) :=
  .ite ((s.restall_kept n).trans (State.sendAck_beside ..)) (.refl s)

theorem Calm.ackNow {s : State} (h : Calm s) (n : Nat) : Calm (s.ackNow n) := by
  unfold State.ackNow
  split
  · exact (h.restall n).sendAck n
  · exact h

theorem State.ackNow_counters {s : State} {n : Nat} (ho : (s.getSess n).state = .opened) (hw : (s.getSess n).wraps = false) :
    ((s.ackNow n).getSess n).counters = (s.getSess n).counters.withFrame := by
  have same : ((s.restall n).getSess n).counters = (s.getSess n).counters := (s.restall_kept n).sess n
  unfold State.ackNow
  rw [if_pos (Session.takes_of_opened ho), State.sendAck_counters _ _ ((congrArg Session.wraps same).trans hw), same]

/-- The frame next in sequence where none waits: what it carries reaches the virtual host, and the second one is acknowledged. -/
theorem State.takeSeq_next {s : State} {f : Frame} (hq : f.seq = (s.getSess f.sess).rxNext) (hb : (s.getSess f.sess).rxBuf = [])
    (hp : f.payload.length ≤ (s.getSess f.sess).bufKib * 1024) :
    s.takeSeq f = if 2 ≤ ((s.inOrder f.sess f.typ f.payload).getSess f.sess).unacked then (s.inOrder f.sess f.typ f.payload).ackNow f.sess
      else s.inOrder f.sess f.typ f.payload := by
  have next : seqDiff f.seq (s.getSess f.sess).rxNext = 0 := by
    unfold seqDiff
    omega
  have space : (s.getSess f.sess).space = (s.getSess f.sess).bufKib := by
    unfold Session.space
    rw [hb]
    rfl
  unfold State.takeSeq
  dsimp only
  rw [if_neg (by simp [next, hb]), space, if_neg (by omega), if_pos hq, hb]
  rfl

/-- A frame of an Open session that passes its checks there. -/
theorem State.frameOk_opened {s : State} {f : Frame} {typ : Nat} (ok : s.frameOk f typ [.opened] = true) :
    (s.getSess f.sess).state = .opened ∧ f.typ = typ ∧ s.frameOk f typ [.opened, .draining] = true := by
  unfold State.frameOk at ok ⊢
  dsimp only at ok ⊢
  simp only [Bool.and_eq_true, decide_eq_true_eq, List.contains_cons, List.contains_nil, Bool.or_false, beq_iff_eq, Bool.or_eq_true] at ok ⊢
  obtain ⟨⟨⟨⟨⟨⟨⟨version, typ⟩, number⟩, opened⟩, tenant⟩, tag⟩, txc⟩, size⟩ := ok
  exact ⟨opened, typ, ⟨⟨⟨⟨⟨⟨version, typ⟩, number⟩, .inl opened⟩, tenant⟩, tag⟩, txc⟩, size⟩

section
variable {s : State} {f : Frame} (hv : s.arrives f.via = true)
include hv

/-- A DATA frame next in sequence: its header, then its records, then an acknowledgement where one is due. -/
theorem State.dataFrame_next (ok : s.frameOk f 1 [.opened] = true) (hq : f.seq = (s.getSess f.sess).rxNext)
    (hb : (s.getSess f.sess).rxBuf = []) (hs : f.sacks = []) (hp : f.payload.length ≤ (s.getSess f.sess).bufKib * 1024) {u : State}
    (hu : u = ((s.takeHeader f).modSess f.sess Session.withNext).serveAll f.sess f.payload) :
    s.dataFrame f = if 2 ≤ (u.getSess f.sess).unacked then u.ackNow f.sess else u := by
  subst hu
  obtain ⟨opened, typ, both⟩ := State.frameOk_opened ok
  obtain ⟨state, -, -, next, -, buf, kib⟩ := Session.fields_of_intake (State.takeHeader_intake opened hs)
  unfold State.dataFrame State.takeFrame
  rw [if_neg (by simp [hv]), if_pos both]
  dsimp only
  rw [if_pos (Session.takes_of_opened (state.trans opened)), State.takeSeq_next (hq.trans next.symm) (buf.trans hb) (kib ▸ hp), typ]
  rfl

end

end Sys2Proof.Machine

namespace Sys2Proof
open Machine

/-! ### The commands of received frames (04 R121, R122, R129, R131) -/

section
variable {s : State} {f : Frame} (q : Quiet s) (hv : s.arrives f.via = true)
include q hv

section
variable (ok : s.frameOk f 1 [.opened] = true) (hq : f.seq = (s.getSess f.sess).rxNext) (hb : (s.getSess f.sess).rxBuf = []) (hs : f.sacks = [])
include ok hq hb hs

omit q in
/-- What follows the records of a DATA frame leaves what was received. -/
theorem isaixDataFrame_serves (hp : f.payload.length ≤ (s.getSess f.sess).bufKib * 1024) {u : State}
    (hu : ((s.takeHeader f).modSess f.sess Session.withNext).serveAll f.sess f.payload = u) (calm : Calm u) {P : State → Prop}
    (h : ∀ t, (t.getSess f.sess).beside = (u.getSess f.sess).beside → P t) : Gives (.isaixDataFrame f) s P := by
  refine .intro (t := (s.dataFrame f).settle) rfl (h _ ?_)
  rw [State.dataFrame_next hv ok hq hb hs hp hu.symm]
  split
  · exact ((u.ackNow_beside f.sess).trans (State.settle_kept (calm.ackNow f.sess))).sess f.sess
  · exact (State.settle_kept calm).sess f.sess

theorem isaixDataFrame_empty (hp : f.payload = []) : Gives (.isaixDataFrame f) s (fun t =>
    (t.getSess f.sess).rxNext = ((s.getSess f.sess).rxNext + 1) % 16777216 ∧ (t.getSess f.sess).rxTxc = some f.txc) := by
  have opened := (State.frameOk_opened ok).1
  obtain ⟨-, -, -, next, txc, -⟩ := Session.fields_of_intake (State.takeHeader_intake opened hs)
  refine isaixDataFrame_serves hv ok hq hb hs (by simp [hp]) (u := (s.takeHeader f).modSess f.sess Session.withNext) (by rw [hp]; rfl)
    ((Calm.takeHeader opened (.of_quiet q)).modSess ..) fun t ht => ?_
  rw [State.getSess_modSess_same] at ht
  obtain ⟨-, rxNext, rxTxc, -⟩ := Session.fields_of_beside ht
  exact ⟨rxNext.trans (congrArg (fun n => (n + 1) % 16777216) next), rxTxc.trans txc⟩

theorem isaixDataFrame_record (hk : 1 ≤ (s.getSess f.sess).bufKib) (hl : f.payload.length = 16) (hc : beNat (slice f.payload 0 1) = 0x7F)
    (hz : beNat (slice f.payload 2 2) = 0) (hblk : beNat (slice f.payload 4 6) / 4294967296 = (s.getSess f.sess).block)
    (hx : beNat (slice f.payload 4 6) % 4294967296 = (s.getSess f.sess).expect) :
    Gives (.isaixDataFrame f) s (fun t => (t.getSess f.sess).expect = (s.getSess f.sess).expect + 1) := by
  have opened := (State.frameOk_opened ok).1
  obtain ⟨state, block, expect, -⟩ := Session.fields_of_intake (State.takeHeader_intake opened hs)
  have next : ((s.takeHeader f).modSess f.sess Session.withNext).getSess f.sess = ((s.takeHeader f).getSess f.sess).withNext :=
    State.getSess_modSess_same ..
  obtain ⟨calm, counted⟩ := State.serveAll_unknown ((Calm.takeHeader opened (.of_quiet q)).modSess f.sess Session.withNext)
    (by rw [next]; exact state.trans opened) hl hc hz (by rw [next]; exact hblk.trans block.symm) (by rw [next]; exact hx.trans expect.symm)
  refine isaixDataFrame_serves hv ok hq hb hs (by omega) rfl calm fun t ht => ?_
  rw [(Session.fields_of_beside ht).1, counted, next]
  exact congrArg (· + 1) expect

end

theorem isaixAckFrame_accepted (ok : s.frameOk f 2 [.opened] = true) (hp : f.payload = []) :
    Gives (.isaixAckFrame f) s (fun t => (t.getSess f.sess).rxTxc = some f.txc) := by
  obtain ⟨opened, -, both⟩ := State.frameOk_opened ok
  have taken : s.ackFrame f = s.takeHeader f := by
    unfold State.ackFrame
    rw [if_neg (by simp [hv]), if_pos (by simp [both, hp])]
  refine .intro (t := (s.ackFrame f).settle) rfl ?_
  rw [taken]
  have kept : Kept (State.sessView Session.rxTxc) (s.takeHeader f) (s.takeHeader f).settle :=
    State.settle_kept (Calm.takeHeader opened (.of_quiet q))
  exact (kept.sess f.sess).trans (State.takeHeader_rxTxc opened)

theorem isaixProbeFrame_answered (ok : s.frameOk f 3 [.opened] = true) (hp : f.payload = []) (ha : f.ackValid = false)
    (hw : (s.getSess f.sess).wraps = false) : Gives (.isaixProbeFrame f) s (fun t => (t.getSess f.sess).rxTxc = some f.txc ∧
      (t.getSess f.sess).unacked = 0 ∧ (t.getSess f.sess).txc = (s.getSess f.sess).txc + 1) := by
  obtain ⟨opened, -, both⟩ := State.frameOk_opened ok
  have answered : s.probeFrame f = (s.takeHeader f).ackNow f.sess := by
    unfold State.probeFrame
    rw [if_neg (by simp [hv]), if_pos (by simp [both, hp])]
  obtain ⟨same, state⟩ := State.takeHeader_unacknowledged opened ha
  have settled := State.settle_kept (g := Session.counters) ((Calm.takeHeader opened (.of_quiet q)).ackNow f.sess)
  have room : ((s.takeHeader f).getSess f.sess).wraps = false := by
    unfold Session.wraps
    rw [same]
    exact hw
  have sent := (settled.sess f.sess).trans (State.ackNow_counters state room)
  obtain ⟨-, txc, unacked, -⟩ := Session.fields_of_counters sent
  have beside := ((State.ackNow_beside (s.takeHeader f) f.sess).trans settled.of_counters).sess f.sess
  obtain ⟨-, -, rxTxc, -⟩ := Session.fields_of_beside beside
  refine .intro (t := (s.probeFrame f).settle) rfl ?_
  rw [answered]
  exact ⟨rxTxc.trans (State.takeHeader_rxTxc opened), unacked, txc.trans (congrArg (· + 1) same)⟩

end

/-- Settles O22: a session's counters move where a frame is sent or taken, and stand over whatever goes with it. -/
theorem framesOfSessions : Obligations.FramesOfSessions := by
  unfold Obligations.FramesOfSessions
  exact ⟨fun _ _ _ hn q ho hq hw hu hs ht hl => isaixFrameSend_counts hn q ho hq hw (hu ▸ hs) (hu ▸ ht) (hu ▸ hl),
    fun _ _ q hv ok hq hb hs hp => isaixDataFrame_empty q hv ok hq hb hs hp,
    fun _ _ q hv ok hq hb hs hk hl hc hz hblk hx => isaixDataFrame_record q hv ok hq hb hs hk hl hc hz hblk hx,
    fun _ _ q hv ok hp => isaixAckFrame_accepted q hv ok hp,
    fun _ _ q hv ok hp ha hw => isaixProbeFrame_answered q hv ok hp ha hw,
    fun _ _ hn q ho hu hw => ackDelayExpiry_acks hn q ho hu hw,
    fun _ _ _ hn q ho hl hr hw => reorderAllowanceExpiry_resends hn q ho hl hr hw,
    fun _ _ hn q ho hr hc => retransmissionTimeout_doubles hn q ho hr hc⟩

end Sys2Proof
end

section
/-!
PROOFS. A TRANSFER on a stream whose context lies where the Registrar keeps its control context of the same port (07 R201, R209, R222, R228).
-/
namespace Sys2Proof
open Machine

/-! ### A stream context among the Registrar's contexts -/

/-- Bulk pipe 12288 of the operator on port 1, with one stream (07 R204). -/
def streamedPipe : Pipe := { Pipe.reset with state := .opened, typ := 2, port := 1, stream := 1 }

/-- House session 5 Open in Run, and port 1 Enabled with one request of the Registrar to its device. The context of the pipe's stream is
context 0, which is the Registrar's context of port 1 (07 R201). -/
def streamInContextOfPort1 : State :=
  ((((State.reset.modSess 5 (fun x => { x with state := .opened, itemLimit := 1 })).setPipes 12288 streamedPipe).setPipes 0
    { streamedPipe with streamCtx := true, link := 12288 }).modUsb 1
    (fun u => { u with state := .enabled, speed := .hs, requests := [(1, zeros 8, 0)] })).modDps (fun d => { d with state := .run })

/-- A TRANSFER of no bytes on stream 1 of pipe 12288 (05 R153). -/
def streamTransferRec : Rec where
  sess := 5
  acc := 0
  deadline := 0
  body := natBE 4 12288 ++ natBE 2 1 ++ zeros 22

theorem streamInContextOfPort1_quiet : Quiet streamInContextOfPort1 := by
  constructor <;> decide +kernel

theorem streamTransferRec_taken : Taken streamInContextOfPort1 streamTransferRec 28 where
  toAccepted := by constructor <;> decide +kernel
  running := by decide +kernel
  safe := by decide +kernel

/-- The Registrar's request goes out as the port is served, and leaves its context, the stream's, free and empty. -/
theorem streamTransferRec_queue : ((streamInContextOfPort1.recTransfer streamTransferRec).settle.getPipes
    (streamInContextOfPort1.queueOf 12288 (beNat (slice streamTransferRec.body 4 2)))).queue = [] := by
  decide +kernel

/-- Refutes O3: nothing bars a stream's context from the Registrar's contexts. There the service of the port that follows a TRANSFER sends a
request that waited, and the context is written anew with it, without the item that has just joined its queue. -/
theorem not_transfersQueue : ¬ Obligations.TransfersQueue := by
  unfold Obligations.TransfersQueue
  rintro ⟨queued, -⟩
  obtain ⟨t, ht, mem, -⟩ := queued streamInContextOfPort1 streamTransferRec 12288 streamInContextOfPort1_quiet streamTransferRec_taken
    (by decide +kernel) rfl (by decide +kernel) (by decide +kernel) (by decide +kernel) (by decide +kernel)
  have hstep : exec (.transfer streamTransferRec) streamInContextOfPort1 =
      .next (streamInContextOfPort1.recTransfer streamTransferRec).settle := rfl
  rw [hstep, Host.Outcome.next.injEq] at ht
  subst ht
  rw [streamTransferRec_queue] at mem
  cases mem

end Sys2Proof
end

section
/-!
PROOFS. A DISABLE whose completion is not the last record of its session: a state that lists the session twice, Open and further on Ending,
and a transfer in progress on the Registrar's control context (05 R147, R155, R159; 06 R182, R183; 07 R201).
-/
namespace Sys2Proof
open Machine

/-- The accession number of a completion. -/
def Machine.HubRec.completed? : HubRec → Option Nat
  | .completion _ _ acc _ _ _ _ _ _ => some acc
  | _ => none

/-- The last record of a session after an answered record names that record's item. -/
theorem Completed.last_acc {s t : State} {periodic : Bool} {n acc out det : Nat} {body : Bytes}
    (h : Completed s t periodic n acc out det body) :
    ((t.getSess n).waiting periodic).getLast?.bind HubRec.completed? = some acc := by
  obtain ⟨q, isIn, moved, ps, fr, -, hq⟩ := h
  rw [hq, List.getLast?_append_of_ne_nil _ (by simp)]
  rfl

/-! ### A session listed as Open and, further on, as Ending -/

/-- House session 5, Open with room for two items. -/
def openSession5 : Session := { Session.reset with state := .opened, itemLimit := 2 }

/-- An open TRANSFER of session 5 with ACCESSION 9, on context 0. -/
def itemOnContext0 : Item := { Item.reset with sess := 5, acc := 9, op := 0x30, pipe := some 0 }

/-- In Run, port 1 Enabled with one request of the Registrar to its device; the transfer is in progress on context 0, the Registrar's
context of port 1. The map of sessions lists session 5 as Open and once more as Ending. -/
def sessionListedTwice : State :=
  let s := (((State.reset.setItems (itemKey 0 9) itemOnContext0).setPipes 0
    { Pipe.reset with state := .opened, typ := 2, port := 1, inXact := true, queue := [itemKey 0 9] }).modUsb 1
    (fun u => { u with state := .enabled, speed := .hs, requests := [(1, zeros 8, 0)] })).modDps (fun d => { d with state := .run })
  { s with sess := [(5, openSession5), (5, { openSession5 with state := .ending })] }

/-- A PORT_ACTION DISABLE of port 1 (05 R153). -/
def disableOfPort1Rec : Rec where
  sess := 5
  acc := 0
  deadline := 0
  body := [1, 6] ++ zeros 6

theorem sessionListedTwice_quiet : Quiet sessionListedTwice := by
  constructor <;> decide +kernel

theorem disableOfPort1Rec_taken : Taken sessionListedTwice disableOfPort1Rec 8 where
  toAccepted := by constructor <;> decide +kernel
  running := by decide +kernel
  safe := by decide +kernel

/-- The last record is the completion of the transfer, not that of the DISABLE. -/
theorem disableOfPort1Rec_last_acc :
    (((sessionListedTwice.recDisable disableOfPort1Rec).settle.getSess disableOfPort1Rec.sess).waiting false).getLast?.bind
      HubRec.completed? = some 9 := by
  decide +kernel

/-- Refutes O8: nothing bars a map that lists a session twice, nor an item of a tenant on the Registrar's context. The DISABLE gives the
transfer a cause while it is in progress; its context is then freed with the Registrar's requests, so the transfer is in progress no
more, and the pass that follows ends it for the Ending entry, into the Open one, behind the completion of the DISABLE. -/
theorem not_portActionRecords : ¬ Obligations.PortActionRecords := by
  unfold Obligations.PortActionRecords
  rintro ⟨-, -, -, -, disable, -⟩
  obtain ⟨t, ht, -, answered⟩ := disable sessionListedTwice disableOfPort1Rec 1 sessionListedTwice_quiet disableOfPort1Rec_taken rfl
    (by decide +kernel) (by decide +kernel) (by decide +kernel) (by decide +kernel) (by decide +kernel) (by decide +kernel)
    (by decide +kernel) (by decide +kernel)
  have hstep : exec (.disable disableOfPort1Rec) sessionListedTwice = .next (sessionListedTwice.recDisable disableOfPort1Rec).settle := rfl
  rw [hstep, Host.Outcome.next.injEq] at ht
  subst ht
  have hlast := (Completed.last_acc answered).symm.trans disableOfPort1Rec_last_acc
  exact absurd hlast (by decide)

end Sys2Proof
end

section
/-!
PROOFS. Records that are served while nothing else waits: the item of a record stays open and its session keeps what it had queued until its
completion is formed, which then is the last record of the session (05 R153, R155).
-/
set_option Elab.async false
namespace Sys2Proof.Machine

/-! ### A record being served -/

/-- The item of a record of a command that is no transfer. -/
structure Item.OfRec (i : Item) (r : Rec) : Prop where
  sess : i.sess = r.sess
  acc : i.acc = r.acc
  principal : i.principal ≤ 64
  command : i.op ≠ 0
  noTransfer : i.op ≠ 0x30

/-- Record `r`, which arrived in `s`, is being served in `u`: its item is open, its session is live with all it had queued, and nothing else
waits. -/
structure Serving (s : State) (r : Rec) (u : State) : Prop where
  quiet : Quiet u
  item : ∃ i, u.item? (keyOf s r) = some i ∧ i.OfRec r
  live : (u.getSess r.sess).live = true
  queued : (s.getSess r.sess).txQueue <+: (u.getSess r.sess).txQueue

theorem State.item?_modItems {s : State} {k : Nat} {f : Item → Item} {i : Item} (h : s.item? k = some i) (hf : f i ≠ Item.reset) :
    (s.modItems k f).item? k = some (f i) := by
  unfold State.modItems
  rw [State.getItems_of_item? h]
  exact State.item?_setItems hf

theorem State.getPipes_settle_quiet {s : State} (h : Quiet s) (n : Nat) : s.settle.getPipes n = s.getPipes n := by
  unfold State.getPipes
  rw [(State.settle_eff_quiet h).pipes rfl]

theorem State.periodicItem_of_op (s : State) {i : Item} (h : i.op ≠ 0x30) : s.periodicItem i = false := by
  unfold State.periodicItem
  rw [decide_eq_false h, Bool.false_and]

theorem Session.live_of_opened {x : Session} (h : x.state = .opened) : x.live = true := by
  unfold Session.live
  rw [h]
  rfl

section
variable {s : State} {r : Rec} {u v : State}

theorem Serving.arrive {m op : Nat} (q : Quiet s) (a : Accepted s r m) (ho : op < 0x60 := by decide) (h0 : op ≠ 0 := by decide)
    (ht : op ≠ 0x30 := by decide) : Serving s r (s.arrive r op) where
  quiet := Quiet.arrive q r op ho a.tenant
  item := ⟨itemOf s r op, State.arrive_item? s r op h0, rfl, rfl, a.tenant, h0, ht⟩
  live := by
    rw [State.arrive_sess]
    exact Session.live_of_opened a.opened
  queued := by rw [State.arrive_sess]

section
variable (h : Serving s r u)
include h

/-- What leaves items, sessions and all that may wait leaves a record being served. -/
theorem Serving.eff {m : Nat} (e : Eff m u v) (c : m &&& 0x3140381 = 0) : Serving s r v := by
  have bit : ∀ i, (0x3140381 : Nat).testBit i = true → m.testBit i = false := by
    intro i hi
    have := congrArg (Nat.testBit · i) c
    simpa [hi] using this
  have quiet : m &&& 0x3140281 = 0 := by
    have : (0x3140281 : Nat) = 0x3140381 &&& 0x3140281 := rfl
    rw [this, ← Nat.and_assoc, c, Nat.zero_and]
  have sess : v.getSess r.sess = u.getSess r.sess := congrArg (SMap.get Session.reset · r.sess) (e.sess (bit _ rfl))
  refine ⟨Eff.of_quiet h.quiet e quiet, ?_, sess ▸ h.live, sess ▸ h.queued⟩
  unfold State.item?
  rw [e.items (bit _ rfl)]
  exact h.item

theorem Serving.modTenants (n : Nat) {f : Tenant → Tenant}
    (hf : ∀ x, (f x).stopWait = x.stopWait ∧ (f x).heldItems = x.heldItems ∧ (f x).ports = x.ports := by exact fun _ => ⟨rfl, rfl, rfl⟩) :
    Serving s r (u.modTenants n f) :=
  ⟨h.quiet.modTenants n f hf, h.item, h.live, h.queued⟩

/-- A command notes something in its record's item. -/
theorem Serving.modItem {f : Item → Item} (hf : ∀ i, (f i).sess = i.sess ∧ (f i).acc = i.acc ∧ (f i).principal = i.principal ∧
      (f i).op = i.op ∧ (f i).cause = i.cause := by exact fun _ => ⟨rfl, rfl, rfl, rfl, rfl⟩)
    (hw : ∀ i, i.closes = [] → (f i).closes = [] := by exact fun _ h => h) : Serving s r (u.modItems (keyOf s r) f) := by
  obtain ⟨i, open_, owns⟩ := h.item
  obtain ⟨sess, acc, principal, op, -⟩ := hf i
  refine ⟨h.quiet.modItems _ f fun j ⟨closes, code, owner, cause⟩ => ?_, ⟨f i, State.item?_modItems open_ fun e => ?_, ?_⟩,
    h.live, h.queued⟩
  · obtain ⟨-, -, principal, op, same⟩ := hf j
    exact ⟨hw j closes, op ▸ code, principal ▸ owner, same.trans cause⟩
  · exact owns.command (op.symm.trans (congrArg Item.op e))
  · exact ⟨sess.trans owns.sess, acc.trans owns.acc, principal ▸ owns.principal, op ▸ owns.command, op ▸ owns.noTransfer⟩

/-- The completion of the record's item is the last record of its session. -/
theorem Serving.finish (out det : Nat) (body : Bytes) :
    Quiet (u.finishB (keyOf s r) out det body) ∧ Answered s (u.finishB (keyOf s r) out det body) r out det body := by
  obtain ⟨i, open_, owns⟩ := h.item
  have cause : i.cause = none := State.getItems_of_item? open_ ▸ (h.quiet.item _).2.2.2
  have aperiodic := u.periodicItem_of_op owns.noTransfer
  exact ⟨h.quiet.finishB .., Answered.finishB open_ ⟨owns.sess, owns.acc, owns.principal, cause, aperiodic⟩ h.live h.queued⟩

/-- It stays that over the pass that follows. -/
theorem Serving.answered (out det : Nat) (body : Bytes) : Answered s (u.finishB (keyOf s r) out det body).settle r out det body :=
  Answered.settle (h.finish out det body).2 (h.finish out det body).1

end

end

end Sys2Proof.Machine
end

section
/-!
PROOFS. Pipes that are closed, aborted and resynchronised by their owner (05 R153; 07 R209, R210, R213, R215).
-/
set_option Elab.async false
namespace Sys2Proof.Machine

/-! ### Views of the pipes -/

/-- A view of every pipe context. -/
def State.pipeView {α : Type} (g : Pipe → α) (s : State) : Nat → α := fun n => g (s.getPipes n)

section
variable {α : Type} {g : Pipe → α} {s t : State}

theorem Kept.pipe (h : Kept (State.pipeView g) s t) (n : Nat) : g (t.getPipes n) = g (s.getPipes n) := congrFun h.same n

theorem Eff.pipesKept {m : Nat} (e : Eff m s t) (hm : m.testBit 6 = false) : Kept (State.pipeView g) s t := by
  refine ⟨?_⟩
  unfold State.pipeView State.getPipes
  rw [e.pipes hm]

theorem State.modPipes_kept (s : State) (n : Nat) {f : Pipe → Pipe} (hf : ∀ x, g (f x) = g x := by exact fun _ => rfl) :
    Kept (State.pipeView g) s (s.modPipes n f) := by
  refine ⟨funext fun k => ?_⟩
  unfold State.pipeView
  by_cases hk : k = n
  · rw [hk, State.getPipes_modPipes_same, hf]
  · rw [State.getPipes_modPipes_other _ _ _ hk]

theorem State.modGroup_kept (s : State) (n : Nat) {f : Pipe → Pipe} (hf : ∀ x, g (f x) = g x := by exact fun _ => rfl) :
    Kept (State.pipeView g) s (s.modGroup n f) :=
  .foldl (fun s m => s.modPipes_kept m hf) _ s

/-- What a change of a pipe and its stream contexts sets, it leaves set at the pipe. -/
theorem State.modGroup_sets (s : State) (n : Nat) {f : Pipe → Pipe} {c : α} (hf : ∀ x, g (f x) = c := by exact fun _ => rfl) :
    g ((s.modGroup n f).getPipes n) = c := by
  unfold State.modGroup State.group
  rw [List.foldl_cons]
  refine List.foldlRecOn (motive := fun t : State => g (t.getPipes n) = c) _ _ ?_ fun t ht m _ => ?_
  · rw [State.getPipes_modPipes_same, hf]
  · by_cases hm : n = m
    · rw [hm, State.getPipes_modPipes_same, hf]
    · rw [State.getPipes_modPipes_other _ _ _ hm, ht]

end

/-! ### An item that ends, and its pipe (07 R209, R215) -/

/-- A pipe beside its queue and the progress of its item. -/
def Pipe.lasting (x : Pipe) : Pipe := { x with queue := [], itemDone := 0, replays := 0 }

theorem Pipe.takeOwed_state (x : Pipe) : x.takeOwed.state = x.state := by
  unfold Pipe.takeOwed
  split
  · rfl
  · split
    · split <;> rfl
    · rfl

theorem Pipe.takeOwed_none {x : Pipe} (h : x.resyncOwed = none) : x.takeOwed = x := by
  unfold Pipe.takeOwed
  rw [h]
  split <;> rfl

section
variable (s : State)

theorem State.unqueue_state (n k : Nat) : Kept (State.pipeView Pipe.state) s (s.unqueue n k) := by
  unfold State.unqueue State.takeResync
  dsimp only
  refine .ite (.trans ?_ (.ite (.refl _) (State.modPipes_kept _ _ Pipe.takeOwed_state))) ?_ <;> exact s.modPipes_kept n

theorem State.takeResync_none {m : Nat} (h : (s.getPipes m).resyncOwed = none) (n : Nat) : (s.takeResync n).getPipes m = s.getPipes m := by
  unfold State.takeResync
  split
  · rfl
  · by_cases hm : m = n
    · subst hm
      rw [State.getPipes_modPipes_same, Pipe.takeOwed_none h]
    · exact State.getPipes_modPipes_other _ _ _ hm

/-- Where no resynchronisation is owed, an item that leaves a queue takes nothing of its pipe with it. -/
theorem State.unqueue_lasting {m : Nat} (h : (s.getPipes m).resyncOwed = none) (n k : Nat) :
    ((s.unqueue n k).getPipes m).lasting = (s.getPipes m).lasting := by
  unfold State.unqueue
  split
  · have filtered : Kept (State.pipeView Pipe.lasting) s
        (s.modPipes n (fun x => { x with queue := x.queue.filter (· ≠ k), itemDone := 0, replays := 0 })) := s.modPipes_kept n
    dsimp only
    rw [State.takeResync_none _ ((congrArg Pipe.resyncOwed (filtered.pipe m) :).trans h), filtered.pipe]
  · exact (s.modPipes_kept (g := Pipe.lasting) n).pipe m

/-- What an item that ends may do to a pipe, it does as it leaves a queue. -/
theorem State.finishB_pipe {P : Pipe → Prop} {m k : Nat} (h : P (s.getPipes m))
    (hq : ∀ n, P (((s.setItems k Item.reset).unqueue n k).getPipes m)) (out det : Nat) (body : Bytes) :
    P ((s.finishB k out det body).getPipes m) := by
  have dropped : ∀ i, P ((s.dropItem k i).getPipes m) := by
    intro i
    unfold State.dropItem
    cases i.pipe <;> dsimp only <;> split
    · exact h
    · exact h
    · exact hq _
    · exact hq _
  unfold State.finishB
  split
  · exact h
  · dsimp only
    split
    · exact dropped _
    · split <;> exact dropped _

theorem State.finishB_pipe_state (m k out det : Nat) (body : Bytes) :
    ((s.finishB k out det body).getPipes m).state = (s.getPipes m).state :=
  s.finishB_pipe (P := fun x => x.state = (s.getPipes m).state) rfl (fun n => (State.unqueue_state (s.setItems k Item.reset) n k).pipe m) ..

theorem State.finishB_pipe_lasting {m : Nat} (h : (s.getPipes m).resyncOwed = none) (k out det : Nat) (body : Bytes) :
    ((s.finishB k out det body).getPipes m).lasting = (s.getPipes m).lasting :=
  s.finishB_pipe (P := fun x => x.lasting = (s.getPipes m).lasting) rfl
    (fun n => State.unqueue_lasting (s.setItems k Item.reset) (m := m) h n k) ..

end

/-! ### Pipes closed and aborted without queued items (07 R209, R210) -/

theorem State.causeItems_nil (s : State) (out det : Nat) : s.causeItems out det [] = s := rfl

theorem State.closing_idle {s : State} {n : Nat} (served : (s.getPipes n).state = .opened ∨ (s.getPipes n).state = .halted)
    (empty : s.groupItems n = []) (out det : Nat) : s.closing out det n = s.modGroup n (fun x => { x with state := .closing }) := by
  unfold State.closing
  dsimp only
  rw [if_pos served, empty, State.causeItems_nil]

theorem State.holdsPipe_served {s : State} {t n : Nat} (h : s.holdsPipe t n = true) :
    ((s.getPipes n).state = .opened ∨ (s.getPipes n).state = .halted) ∧ (s.getPipes n).streamCtx = false := by
  unfold State.holdsPipe at h
  simp only [Bool.and_eq_true, Bool.or_eq_true, decide_eq_true_eq, Bool.not_eq_true'] at h
  obtain ⟨⟨⟨-, served⟩, -⟩, parent⟩ := h
  exact ⟨served, parent⟩

section
variable {s : State} {k n : Nat} {i : Item} (hn : i.f 0 4 % 1048576 = n) (hh : s.holdsPipe i.principal n = true)
include hn hh

theorem State.doPipeClose_idle (he : s.groupItems n = []) : s.doPipeClose k i =
    ((s.modItems k (fun i => { i with pipe := some n, closes := [] })).modGroup n (fun x => { x with state := .closing })).finish k 0 0 := by
  unfold State.doPipeClose
  dsimp only
  rw [hn, if_pos hh, he, if_pos rfl, State.closing_idle]
  exacts [(State.holdsPipe_served hh).1, he]

theorem State.doPipeAbort_idle (he : s.groupItems n = []) : s.doPipeAbort k i =
    (s.modItems k (fun i => { i with pipe := some n, closes := [] })).finish k 0 0 := by
  unfold State.doPipeAbort
  dsimp only
  rw [hn, if_pos hh, he, if_pos rfl, State.causeItems_nil]

theorem State.doPipeResync_held : s.doPipeResync k i =
    ((s.modItems k (fun i => { i with pipe := some n })).resync n (i.f 4 1)).finish k 0 0 := by
  unfold State.doPipeResync
  dsimp only
  rw [hn, if_pos hh]

end

/-! ### Resynchronisation (07 R213, R215) -/

/-- What says which contexts a pipe's group holds, and whether a transaction of a context is in progress or to be re-issued. -/
def Pipe.standing (x : Pipe) : Bool × Nat × Bool := (x.streamCtx, x.link, x.pending)

theorem State.mem_streamsOf {s : State} {n m : Nat} :
    m ∈ s.streamsOf n ↔ ∃ x, (m, x) ∈ s.pipes ∧ x.streamCtx = true ∧ x.link = n := by
  unfold State.streamsOf
  simp

theorem State.modPipes_streams {s : State} {k n m : Nat} {f : Pipe → Pipe} (hf : ∀ x, (f x).standing = x.standing)
    (h : m ∈ (s.modPipes k f).streamsOf n) : m ∈ s.streamsOf n := by
  obtain ⟨x, hx, stream, link⟩ := State.mem_streamsOf.mp h
  rcases SMap.mem_put (d := Pipe.reset) (m := s.pipes) (k := k) (v := f (s.getPipes k)) hx with old | ⟨e, -⟩
  · exact State.mem_streamsOf.mpr ⟨x, old, stream, link⟩
  · obtain ⟨rfl, rfl⟩ := Prod.mk.inj e
    have same := hf (s.getPipes m)
    have stream' : (s.getPipes m).streamCtx = true := (congrArg Prod.fst same).symm.trans stream
    have link' : (s.getPipes m).link = n := (congrArg (·.2.1) same).symm.trans link
    rcases SMap.get_mem (d := Pipe.reset) s.pipes m with mem | reset
    · exact State.mem_streamsOf.mpr ⟨_, mem, stream', link'⟩
    · have : s.getPipes m = Pipe.reset := reset
      rw [this] at stream'
      cases stream'

theorem State.groupPending_eq_false {s : State} {n : Nat} :
    s.groupPending n = false ↔ ∀ m ∈ n :: s.streamsOf n, (s.getPipes m).pending = false := by
  unfold State.groupPending State.group
  rw [List.any_eq_false]
  simp

theorem State.modGroup_idle {s : State} {n : Nat} (h : s.groupPending n = false) (k : Nat) {f : Pipe → Pipe}
    (hf : ∀ x, (f x).standing = x.standing := by exact fun _ => rfl) : (s.modGroup k f).groupPending n = false := by
  rw [State.groupPending_eq_false] at h ⊢
  have streams : ∀ m, m ∈ (s.modGroup k f).streamsOf n → m ∈ s.streamsOf n :=
    List.foldlRecOn (motive := fun t : State => ∀ m, m ∈ t.streamsOf n → m ∈ s.streamsOf n) _ _ (fun _ h => h)
      fun _ ht _ _ m hm => ht m (State.modPipes_streams hf hm)
  intro m hm
  have same : ((s.modGroup k f).getPipes m).pending = (s.getPipes m).pending :=
    congrArg (·.2.2) ((s.modGroup_kept (g := Pipe.standing) k hf).pipe m)
  rw [same]
  exact h m ((List.mem_cons.mp hm).elim (fun e => e ▸ List.mem_cons_self) fun hs => List.mem_cons_of_mem _ (streams m hs))

/-- What a resynchronisation leaves, before it is told (07 R213, R215). -/
def State.resynced (s : State) (n v : Nat) : State :=
  let t := s.modGroup n (fun x => { x with state := .opened, haltCause := false })
  if t.groupPending n then t.modPipes n (fun x => { x with resyncOwed := some v })
  else if (s.getPipes n).super then t.modPipes n (fun x => { x with seq := BitVec.ofNat 5 v, resyncOwed := none })
  else t.modPipes n (fun x => { x with toggle := decide (v % 2 = 1), resyncOwed := none })

theorem State.resync_eq {s : State} {n : Nat} (h : (s.getPipes n).state = .opened ∨ (s.getPipes n).state = .halted) (v : Nat) :
    ∃ word, s.resync n v = (s.resynced n v).resyncEvent n word := ⟨_, if_pos h⟩

theorem State.resynced_eff (s : State) (n v : Nat) : Eff 64 s (s.resynced n v) := by
  unfold State.resynced
  dsimp only
  split
  · exact .trans (s.modGroup_eff ..) (State.modPipes_eff ..)
  · split <;> exact .trans (s.modGroup_eff ..) (State.modPipes_eff ..)

theorem State.resynced_opened (s : State) (n v : Nat) : ((s.resynced n v).getPipes n).state = .opened := by
  have opened : ((s.modGroup n (fun x => { x with state := .opened, haltCause := false })).getPipes n).state = .opened :=
    s.modGroup_sets (g := Pipe.state) n
  unfold State.resynced
  dsimp only
  split
  · rw [State.getPipes_modPipes_same]
    exact opened
  · split <;> rw [State.getPipes_modPipes_same] <;> exact opened

/-- With no transaction of its group in progress or to be re-issued, the value is set at once and none is owed. -/
theorem State.resynced_idle {s : State} {n : Nat} (h : s.groupPending n = false) (v : Nat) :
    ((s.resynced n v).getPipes n).resyncOwed = none ∧
    ((s.getPipes n).super = true → ((s.resynced n v).getPipes n).seq = BitVec.ofNat 5 v) ∧
    ((s.getPipes n).super = false → ((s.resynced n v).getPipes n).toggle = decide (v % 2 = 1)) := by
  unfold State.resynced
  dsimp only
  rw [State.modGroup_idle h n, if_neg Bool.false_ne_true]
  cases (s.getPipes n).super
  case true => simp
  case false => simp

theorem Session.push_queue (r : HubRec) (x : Session) : x.txQueue <+: (x.push r).txQueue := by
  unfold Session.push
  split
  · exact List.prefix_refl _
  · exact List.prefix_append ..

/-- An event of a port is put at the end of queues, and of sessions it changes nothing else but what they count as lost. -/
theorem Serving.portEvent {s u : State} {r : Rec} (h : Serving s r u) (p code device param : Nat) (body : Bytes) :
    Serving s r (u.portEvent p code device param body) := by
  have e := u.portEvent_eff p code device param body
  have standing : Kept (State.sessView Session.standing) u (u.portEvent p code device param body) := by
    unfold State.portEvent
    exact u.modSessWhere_kept (Session.push_standing _) _
  refine ⟨Eff.of_quiet h.quiet e rfl, ?_, ?_, ?_⟩
  · unfold State.item?
    rw [e.items rfl]
    exact h.item
  · unfold Session.live
    rw [standing.sessState]
    exact h.live
  · refine List.foldlRecOn (motive := fun t : State => (s.getSess r.sess).txQueue <+: (t.getSess r.sess).txQueue) _ _ h.queued ?_
    intro t ht e _
    dsimp only
    split
    · by_cases hm : r.sess = e.1
      · rw [hm, State.getSess_modSess_same]
        exact (hm ▸ ht).trans (Session.push_queue ..)
      · rw [State.getSess_modSess_other _ _ _ hm]
        exact ht
    · exact ht

/-! ### The records (05 R153) -/

section
variable {s : State} {r : Rec} {n : Nat} (q : Quiet s) (hn : beNat (slice r.body 0 4) % 1048576 = n) (hh : s.holdsPipe (owner s r) n = true)
include q hn hh

theorem State.pipeClose_completes (a : Accepted s r 8) (he : s.groupItems n = []) :
    Gives (.pipeClose r) s (fun t => (t.getPipes n).state = .closing ∧ Answered s t r 0 0 []) := by
  let noted := (s.arrive r 0x21).modItems (keyOf s r) (fun i => { i with pipe := some n, closes := [] })
  let u := noted.modGroup n (fun x => { x with state := .closing })
  have serving : Serving s r u := ((Serving.arrive q a).modItem (hw := fun _ _ => rfl)).eff (State.modGroup_eff ..) rfl
  obtain ⟨quiet, answered⟩ := serving.finish 0 0 []
  have run : s.recPipeClose r = u.finishB (keyOf s r) 0 0 [] :=
    (State.takeRec_accepted a 0x21 true false _ (.inl rfl) (.inl rfl)).trans (State.doPipeClose_idle hn hh he)
  refine .intro (t := (s.recPipeClose r).settle) rfl ?_
  rw [run]
  refine ⟨?_, Answered.settle answered quiet⟩
  rw [State.getPipes_settle_quiet quiet, State.finishB_pipe_state]
  exact State.modGroup_sets (g := Pipe.state) _ n

theorem State.pipeAbort_completes (a : Taken s r 8) (he : s.groupItems n = []) :
    Gives (.pipeAbort r) s (fun t => (t.getPipes n).state = (s.getPipes n).state ∧ Answered s t r 0 0 []) := by
  let u := (s.arrive r 0x23).modItems (keyOf s r) (fun i => { i with pipe := some n, closes := [] })
  have serving : Serving s r u := (Serving.arrive q a.toAccepted).modItem (hw := fun _ _ => rfl)
  obtain ⟨quiet, answered⟩ := serving.finish 0 0 []
  have run : s.recPipeAbort r = u.finishB (keyOf s r) 0 0 [] :=
    (State.takeRec_taken a 0x23 ..).trans (State.doPipeAbort_idle hn hh he)
  refine .intro (t := (s.recPipeAbort r).settle) rfl ?_
  rw [run]
  refine ⟨?_, Answered.settle answered quiet⟩
  rw [State.getPipes_settle_quiet quiet, State.finishB_pipe_state]
  rfl

theorem State.pipeResync_completes (a : Taken s r 8) :
    Gives (.pipeResync r) s (fun t => (t.getPipes n).state = .opened ∧ Answered s t r 0 0 [] ∧
      (s.groupPending n = false → (s.getPipes n).super = true →
        (t.getPipes n).seq = BitVec.ofNat 5 (beNat (slice r.body 4 1))) ∧
      (s.groupPending n = false → (s.getPipes n).super = false →
        (t.getPipes n).toggle = decide (beNat (slice r.body 4 1) % 2 = 1))) := by
  let v := beNat (slice r.body 4 1)
  let w := (s.arrive r 0x22).modItems (keyOf s r) (fun i => { i with pipe := some n })
  obtain ⟨word, told⟩ := State.resync_eq (s := w) (State.holdsPipe_served hh).1 v
  let u := (w.resynced n v).resyncEvent n word
  have serving : Serving s r u := (((Serving.arrive q a.toAccepted).modItem).eff (w.resynced_eff n v) rfl).portEvent ..
  have resynced : u.getPipes n = (w.resynced n v).getPipes n := ((State.portEvent_eff ..).pipesKept (g := id) rfl).pipe n
  obtain ⟨quiet, answered⟩ := serving.finish 0 0 []
  have run : s.recPipeResync r = u.finishB (keyOf s r) 0 0 [] :=
    ((State.takeRec_taken a 0x22 ..).trans (State.doPipeResync_held hn hh)).trans (congrArg (State.finish · (keyOf s r) 0 0) told)
  have lasting (h : s.groupPending n = false) : ((u.finishB (keyOf s r) 0 0 []).getPipes n).lasting = (u.getPipes n).lasting :=
    State.finishB_pipe_lasting _ (resynced ▸ (State.resynced_idle (s := w) h v).1) ..
  refine .intro (t := (s.recPipeResync r).settle) rfl ?_
  rw [run, State.getPipes_settle_quiet quiet]
  refine ⟨?_, Answered.settle answered quiet, fun idle super => ?_, fun idle super => ?_⟩
  · rw [State.finishB_pipe_state, resynced]
    exact w.resynced_opened n v
  · refine (congrArg Pipe.seq (lasting idle)).trans ?_
    rw [resynced]
    exact (State.resynced_idle (s := w) idle v).2.1 super
  · refine (congrArg Pipe.toggle (lasting idle)).trans ?_
    rw [resynced]
    exact (State.resynced_idle (s := w) idle v).2.2 super

end

end Sys2Proof.Machine

namespace Sys2Proof
open Machine

/-- Settles O1: the record's item alone is in the way of nothing, and an item that ends changes of a pipe only what it owed. -/
theorem pipeRecordsComplete : Obligations.PipeRecordsComplete := by
  unfold Obligations.PipeRecordsComplete
  exact ⟨fun _ _ _ q a hn hh he => State.pipeClose_completes q hn hh a he, fun _ _ _ q a hn hh he => State.pipeAbort_completes q hn hh a he,
    fun _ _ _ q a hn hh => State.pipeResync_completes q hn hh a⟩

end Sys2Proof
end

section
/-!
PROOFS. A pipe that is opened: its contexts, its reservation and its record's completion (05 R153; 07 R202, R206 to R209).
-/
set_option Elab.async false
namespace Sys2Proof.Machine

/-- What a fold that writes contexts writes into each holds of a context it writes, as of one of which it held before. -/
theorem State.foldl_setPipes_sets {α : Type} {P : Pipe → Prop} {m : Nat} (ctx : α → Nat) {v : α → Pipe} (hv : ∀ a, P (v a))
    (l : List α) (s : State) (h : P (s.getPipes m) ∨ m ∈ l.map ctx) : P ((l.foldl (fun s a => s.setPipes (ctx a) (v a)) s).getPipes m) := by
  induction l generalizing s with
  | nil => exact h.resolve_right List.not_mem_nil
  | cons a l ih =>
    refine ih _ ?_
    by_cases hm : m = ctx a
    · rw [hm, State.getPipes_setPipes_same]
      exact .inl (hv a)
    · rw [State.getPipes_setPipes_other _ _ _ hm]
      exact h.imp id fun hl => (List.mem_cons.mp hl).resolve_left hm

theorem State.writePipe_opened (s : State) {x : Pipe} (h : x.state = .opened) {ctxs : List Nat} {m : Nat} (hm : m ∈ ctxs) :
    ((s.writePipe ctxs x).getPipes m).state = .opened := by
  cases ctxs with
  | nil => cases hm
  | cons n streams =>
    unfold State.writePipe
    refine State.foldl_setPipes_sets (P := fun y => y.state = .opened) Prod.fst (fun _ => rfl) _ _ ?_
    rw [List.zipIdx_map_fst]
    refine (List.mem_cons.mp hm).imp_left fun e => ?_
    rw [e, State.getPipes_setPipes_same]
    exact h

theorem State.placements_state {s : State} {x c : Pipe} (h : c ∈ s.placements x) : c.state = x.state := by
  unfold State.placements at h
  dsimp only at h
  obtain ⟨phase, -, hc⟩ := List.mem_filterMap.mp h
  split at hc
  · split at hc
    · cases hc
      rfl
    · obtain ⟨off, -, rfl⟩ := Option.map_eq_some_iff.mp hc
      rfl
  · split at hc
    · split at hc <;> cases hc
      rfl
    · cases hc
      rfl

theorem State.admitPipe_state (s : State) (x : Pipe) : (s.admitPipe x).2.state = x.state := by
  unfold State.admitPipe
  dsimp only
  split
  · rfl
  · rename_i c found
    split
    · rfl
    · split
      · rfl
      · have placed : c.state = x.state := State.placements_state (List.mem_of_find?_eq_some found)
        exact placed

/-- Nothing refuses the pipe that the item of a PIPE_OPEN describes. -/
structure State.MayOpen (s : State) (i : Item) (p a : Nat) (d : Device) : Prop where
  device : handleOf (i.f 0 2) = some (p, a)
  port : s.holdsPort i.principal p = true
  known : (s.getUsb p).device? a = some d
  addressed : a ≠ 0
  noHub : d.isHub = false
  typ : i.f 3 1 ≤ 3
  zeroBits : bitsOf (i.f 2 1) 4 3 = 0
  rules : pipeRules (s.pipeOf i p a d) (i.f 10 2) = true
  fresh : s.hasPipe (s.pipeOf i p a d) = false
  free : 1 + i.f 10 2 ≤ s.ctxFree
  quota : i.principal = 0 ∨ s.ctxHeld i.principal + 1 + i.f 10 2 ≤ s.cfg 0x6014 i.principal
  admitted : (s.pipeOf i p a d).reserved = true → (s.admitPipe (s.pipeOf i p a d)).1 = 0

theorem State.doPipeOpen_opens {s : State} {i : Item} {p a : Nat} {d : Device} (h : s.MayOpen i p a d) (k : Nat) :
    ∃ x : Pipe, x.state = .opened ∧ s.doPipeOpen k i = (s.writePipe (s.freeCtx 12288 (1 + i.f 10 2)) x).finishB k 0 0
      (natBE 4 ((s.freeCtx 12288 (1 + i.f 10 2)).headD 0) ++ zeros 4) := by
  have within : ¬ (3 < i.f 3 1 ∨ bitsOf (i.f 2 1) 4 3 ≠ 0 ∨ pipeRules (s.pipeOf i p a d) (i.f 10 2) = false ∨
      s.hasPipe (s.pipeOf i p a d) = true) := by
    rw [h.rules, h.fresh, h.zeroBits]
    have := h.typ
    simp
    omega
  have quota : ¬ (i.principal ≠ 0 ∧ s.cfg 0x6014 i.principal < s.ctxHeld i.principal + 1 + i.f 10 2) := by
    have := h.quota
    omega
  unfold State.doPipeOpen
  simp only [h.device, h.port, h.known]
  rw [if_neg nofun, if_neg (by simp [h.addressed, h.noHub]), if_neg within, if_neg (Nat.not_lt.mpr h.free), if_neg quota]
  by_cases reserved : (s.pipeOf i p a d).reserved = true
  · refine ⟨(s.admitPipe (s.pipeOf i p a d)).2, State.admitPipe_state .., ?_⟩
    rw [if_pos reserved, if_neg (not_not.mpr (h.admitted reserved))]
  · refine ⟨s.pipeOf i p a d, rfl, ?_⟩
    rw [if_neg reserved, if_neg (not_not.mpr rfl)]

theorem State.pipeOpen_completes {s : State} {r : Rec} {p a : Nat} {d : Device} (q : Quiet s) (taken : Taken s r 16)
    (h : s.MayOpen (itemOf s r 0x20) p a d) :
    Gives (.pipeOpen r) s (fun t =>
      (∀ n ∈ s.freeCtx 12288 (1 + beNat (slice r.body 10 2)), (t.getPipes n).state = .opened) ∧
      Answered s t r 0 0 (natBE 4 ((s.freeCtx 12288 (1 + beNat (slice r.body 10 2))).headD 0) ++ zeros 4)) := by
  let w := s.arrive r 0x20
  let ctxs := s.freeCtx 12288 (1 + beNat (slice r.body 10 2))
  let body := natBE 4 (ctxs.headD 0) ++ zeros 4
  have same : w.MayOpen (itemOf s r 0x20) p a d := ⟨h.device, h.port, h.known, h.addressed, h.noHub, h.typ, h.zeroBits, h.rules, h.fresh,
    h.free, h.quota, h.admitted⟩
  obtain ⟨x, opened, run⟩ := State.doPipeOpen_opens same (keyOf s r)
  have serving : Serving s r (w.writePipe ctxs x) := (Serving.arrive q taken.toAccepted).eff (State.writePipe_eff ..) rfl
  obtain ⟨quiet, answered⟩ := serving.finish 0 0 body
  have served : s.recPipeOpen r = (w.writePipe ctxs x).finishB (keyOf s r) 0 0 body := (State.takeRec_taken taken 0x20 ..).trans run
  refine .intro (t := (s.recPipeOpen r).settle) rfl ?_
  rw [served]
  refine ⟨fun n hn => ?_, Answered.settle answered quiet⟩
  rw [State.getPipes_settle_quiet quiet, State.finishB_pipe_state]
  exact w.writePipe_opened opened hn

end Sys2Proof.Machine

namespace Sys2Proof
open Machine

/-- Settles O2: every test a PIPE_OPEN is put to passes, and a placement differs from the pipe in what it places alone. -/
theorem pipeOpenCompletes : Obligations.PipeOpenCompletes := by
  unfold Obligations.PipeOpenCompletes
  intro s r p a d x q taken device port known addressed noHub hx typ zeroBits rules fresh free quota admitted
  subst hx
  exact State.pipeOpen_completes q taken
    ⟨device, port, known, addressed, noHub, typ, zeroBits, rules, fresh, free, quota, admitted⟩

end Sys2Proof
end

section
/-!
PROOFS. The virtual host of a principal that is stopped and started, and records that no command has the opcode of (05 R151, R153, R155).
-/
set_option Elab.async false
namespace Sys2Proof.Machine

/-! ### A tenant that waits for items to end -/

theorem SMap.put_put {α : Type} [DecidableEq α] {d a b : α} (ha : a ≠ d) (hb : b ≠ d) (m : SMap α) (k : Nat) :
    SMap.put d (SMap.put d m k a) k b = SMap.put d m k b := by
  induction m with
  | nil => simp [SMap.put, ha, hb]
  | cons e m ih =>
    obtain ⟨j, w⟩ := e
    by_cases before : k < j
    · simp [SMap.put, before, ha, hb]
    · by_cases same : k = j
      · simp [SMap.put, same, ha, hb]
      · simp [SMap.put, before, same, ih]

/-- Of the entries that a test passes over, the one put in is all it finds. -/
theorem SMap.filter_put {α : Type} [DecidableEq α] {d v : α} {m : SMap α} {k : Nat} {p : Nat × α → Bool} (hv : v ≠ d)
    (hp : p (k, v) = true) (hm : ∀ e ∈ m, p e = false) : (SMap.put d m k v).filter p = [(k, v)] := by
  have none : m.filter p = [] := List.filter_eq_nil_iff.mpr fun e he => by simp [hm e he]
  induction m with
  | nil => simp [SMap.put, hv, hp]
  | cons e m ih =>
    obtain ⟨j, w⟩ := e
    have rest : ∀ e ∈ m, p e = false := fun e he => hm e (List.mem_cons_of_mem _ he)
    have noneRest : m.filter p = [] := List.filter_eq_nil_iff.mpr fun e he => by simp [rest e he]
    by_cases before : k < j
    · simp only [SMap.put, before, if_true, hv, if_false]
      rw [List.filter_cons_of_pos hp, none]
    · by_cases same : k = j
      · subst same
        simp only [SMap.put, before, if_true, hv, if_false]
        rw [List.filter_cons_of_pos hp, noneRest]
      · simp only [SMap.put, before, same, if_false]
        rw [List.filter_cons_of_neg (by simp [hm (j, w)]), ih rest noneRest]

theorem State.modTenants_modTenants (s : State) (t : Nat) (f g : Tenant → Tenant) (hf : f (s.getTenants t) ≠ Tenant.reset)
    (hg : g (f (s.getTenants t)) ≠ Tenant.reset) : (s.modTenants t f).modTenants t g = s.modTenants t (fun x => g (f x)) := by
  have twice : SMap.put Tenant.reset (SMap.put Tenant.reset s.tenants t (f (s.getTenants t))) t (g (f (s.getTenants t))) =
      SMap.put Tenant.reset s.tenants t (g (f (s.getTenants t))) := SMap.put_put hf hg ..
  rw [State.modTenants, State.getTenants_modTenants_same]
  unfold State.modTenants State.setTenants
  dsimp only
  rw [twice]

theorem State.settleEnding_uncaused {s : State} (h : ∀ k i, s.item? k = some i → i.cause = none) : s.settleEnding = s := by
  refine List.foldl_same fun e => ?_
  dsimp only
  split
  · rfl
  · refine List.foldl_same fun k => ?_
    cases hi : s.item? k with
    | none => rfl
    | some i => simp only [h k i hi]

/-- A round of the pass in a state that differs from a quiet one in what its tenants wait for. -/
theorem State.settleOnce_tenants {s : State} (h : Quiet s) (t : Nat) (f : Tenant → Tenant) :
    (s.modTenants t f).settleOnce = (s.modTenants t f).settleStops := by
  let u := s.modTenants t f
  have none_of : ∀ p : Nat → Item → Bool, (∀ k i, i.op < 0x60 → p k i = false) → u.itemsWhere p = [] := fun p hp =>
    congrArg _ (List.filter_none h.items fun e he => hp e.1 e.2 (by simp at he; exact he.1.1.2))
  have ends : u.hubEnds = u := by
    have emptied : u.modVault (fun v => { v with ended := [] }) = u := by
      unfold u
      rw [← show (s.modTenants t f).vault.ended = [] from h.ended]
      rfl
    unfold State.hubEnds
    simp only [show u.vault.ended = [] from h.ended, List.foldl_nil, emptied]
  have jobs : u.jobPass = u := by
    unfold State.jobPass
    rw [show u.vault.jobs = [] from h.jobs]
    rfl
  have captures : u.captPass = u := by
    unfold State.captPass
    rw [show u.vault.captures = [] from h.captures]
    rfl
  have vault : u.vaultPass = u := by
    unfold State.vaultPass
    rw [none_of _ fun k i hi => by simp; omega]
    rfl
  have templates : u.templatePass = u := by
    unfold State.templatePass
    rw [none_of _ fun k i hi => by simp; omega]
    rfl
  have channels : u.chanPass = u := by
    unfold State.chanPass
    rw [show u.mov.chans = [] from h.chans]
    rfl
  have ending : u.settleEnding = u := State.settleEnding_uncaused fun k i hi => State.getItems_of_item? hi ▸ (h.item k).2.2.2
  have closes : u.settleCloses = u := by
    unfold State.settleCloses
    rw [List.filter_none (l := u.items) h.items fun e he => by simp_all]
    rfl
  unfold State.settleOnce State.settleWaits
  rw [ends, jobs, captures, vault, templates, channels, ending, closes]

theorem State.resumedPass_tenants {s : State} (h : Quiet s) (t : Nat) {f : Tenant → Tenant} (hf : ∀ x, (f x).heldItems = x.heldItems) :
    (s.modTenants t f).resumedPass = s.modTenants t f := by
  have own : (s.getTenants t).heldItems = [] := by
    rcases SMap.get_mem (d := Tenant.reset) s.tenants t with mem | reset
    · exact of_decide_eq_true (List.all_eq_true.mp h.paused _ mem)
    · exact congrArg Tenant.heldItems reset
  have none : ∀ e ∈ (s.modTenants t f).tenants, e.2.heldItems = [] := by
    intro e he
    rcases SMap.mem_put (d := Tenant.reset) he with old | ⟨rfl, -⟩
    · exact of_decide_eq_true (List.all_eq_true.mp h.paused e old)
    · exact (hf _).trans own
  unfold State.resumedPass
  rw [List.filter_eq_nil_iff.mpr fun e he => by simp [none e he]]
  rfl

/-! ### Items without a pipe and a port -/

theorem State.dropItem_apart (s : State) (k : Nat) {i : Item} (pipe : i.pipe = none) (port : i.port = 0) :
    s.dropItem k i = s.setItems k Item.reset := by
  unfold State.dropItem
  rw [pipe]
  exact if_pos port

section
variable {s : State} {k : Nat} {i : Item} (hi : s.item? k = some i) (pipe : i.pipe = none) (port : i.port = 0)
  (hub : i.principal ≠ hubPrincipal) (live : (s.getSess i.sess).live = true) (out det : Nat)
include hi pipe port hub live

/-- The end of such an item, into a live session, leaves what tenants hold. -/
theorem State.finish_tenants : (s.finish k out det).tenants = s.tenants := by
  unfold State.finish State.finishB
  rw [hi]
  dsimp only
  rw [State.dropItem_apart _ _ pipe port, if_neg hub, if_pos live]
  rfl

theorem State.finish_modTenants (t : Nat) (f : Tenant → Tenant) :
    (s.modTenants t f).finish k out det = (s.finish k out det).modTenants t f := by
  have item : (s.modTenants t f).item? k = some i := hi
  have live' : ((s.modTenants t f).getSess i.sess).live = true := live
  unfold State.finish State.finishB
  rw [item, hi]
  dsimp only
  rw [State.dropItem_apart _ _ pipe port, State.dropItem_apart _ _ pipe port, if_neg hub, if_neg hub, if_pos live, if_pos live']
  rfl

end

/-! ### VHOST_STOP of a principal without other items (05 R151) -/

/-- A tenant as it waits for item `k` to end, and as it has been waited for. -/
def Tenant.stopping (k : Nat) (x : Tenant) : Tenant := { x with stopped := true, stopWait := some k }

def Tenant.stop (x : Tenant) : Tenant := { x with stopped := true }

theorem Tenant.ne_reset_of_stopped {x : Tenant} (h : x.stopped = true) : x ≠ Tenant.reset := by
  rintro rfl
  cases h

section
variable {s : State} (h : Quiet s) {k : Nat} {i : Item} (hi : s.item? k = some i) (pipe : i.pipe = none) (port : i.port = 0)
  (live : (s.getSess i.sess).live = true) (t : Nat)
include h

theorem State.stopWait_quiet : (s.getTenants t).stopWait = none := by
  rcases SMap.get_mem (d := Tenant.reset) s.tenants t with mem | reset
  · exact of_decide_eq_true (List.all_eq_true.mp h.stops _ mem)
  · exact congrArg Tenant.stopWait reset

include hi pipe port live

theorem State.settleStops_stopping :
    (s.modTenants t (Tenant.stopping k)).settleStops = (s.finish k 0 0).modTenants t Tenant.stop := by
  let v := (s.getTenants t).stopping k
  have item : (s.modTenants t (Tenant.stopping k)).item? k = some i := hi
  have held : (s.modTenants t (Tenant.stopping k)).hasItem k = true := by
    obtain ⟨e, found, -⟩ := Option.map_eq_some_iff.mp hi
    exact List.any_eq_true.mpr ⟨e, List.mem_of_find?_eq_some found, by simpa using List.find?_some found⟩
  have waits : (s.modTenants t (Tenant.stopping k)).tenants.filter (fun e => decide (e.2.stopWait ≠ none)) = [(t, v)] :=
    SMap.filter_put (Tenant.ne_reset_of_stopped rfl) (by simp [Tenant.stopping]) fun e he => by
      simpa using of_decide_eq_true (List.all_eq_true.mp h.stops e he)
  have nothing : i.closes = [] := State.getItems_of_item? hi ▸ (h.item k).1
  have hub : i.principal ≠ hubPrincipal := State.getItems_of_item? hi ▸ (h.item k).2.2.1
  have after : ((s.finish k 0 0).getTenants t).stopWait = none := by
    unfold State.getTenants
    rw [State.finish_tenants hi pipe port hub live]
    exact State.stopWait_quiet h t
  unfold State.settleStops
  rw [waits, List.foldl_cons, List.foldl_nil]
  dsimp only [v, Tenant.stopping]
  rw [if_pos held, item, if_pos (by simp [nothing]), State.finish_modTenants hi pipe port hub live, State.modTenants_modTenants]
  · unfold State.modTenants Tenant.stop Tenant.stopping
    dsimp only
    rw [← after]
  · exact Tenant.ne_reset_of_stopped rfl
  · exact Tenant.ne_reset_of_stopped rfl

theorem State.settle_stopping :
    (s.modTenants t (Tenant.stopping k)).settle = ((s.finish k 0 0).modTenants t Tenant.stop).settle := by
  have quiet : Quiet ((s.finish k 0 0).modTenants t Tenant.stop) := (h.finishB ..).modTenants t _ fun _ => ⟨rfl, rfl, rfl⟩
  have round : (s.modTenants t (Tenant.stopping k)).settleOnce = (s.finish k 0 0).modTenants t Tenant.stop :=
    (State.settleOnce_tenants h ..).trans (State.settleStops_stopping h hi pipe port live t)
  have rounds : times State.settleOnce 3 (s.modTenants t (Tenant.stopping k)) =
      times State.settleOnce 3 ((s.finish k 0 0).modTenants t Tenant.stop) :=
    congrArg (times State.settleOnce 2) (round.trans (State.settleOnce_quiet quiet).symm)
  unfold State.settle
  rw [State.resumedPass_tenants (f := Tenant.stopping k) h t fun _ => rfl, State.resumedPass_quiet quiet, rounds]

end

/-! ### The records (05 R151, R153) -/

theorem State.getTenants_settle_quiet {s : State} (h : Quiet s) (t : Nat) : s.settle.getTenants t = s.getTenants t := by
  unfold State.getTenants
  rw [(State.settle_eff_quiet h).tenants rfl]

section
variable {s : State} {r : Rec}

/-- The record of a principal without open items finds its own item alone. -/
theorem State.tenantItems_arrive (h : s.tenantItems (owner s r) = []) (op : Nat) :
    ((s.arrive r op).tenantItems (owner s r)).filter (fun j => decide (j ≠ keyOf s r)) = [] := by
  rw [List.filter_eq_nil_iff]
  intro k hk
  obtain ⟨e, he, rfl⟩ := List.mem_map.mp hk
  obtain ⟨mem, owned⟩ := List.mem_filter.mp he
  rcases SMap.mem_put (d := Item.reset) (m := s.items) mem with old | ⟨rfl, -⟩
  · have : e.1 ∈ s.tenantItems (owner s r) := List.mem_map_of_mem (List.mem_filter.mpr ⟨old, owned⟩)
    rw [h] at this
    cases this
  · simp

/-- A record that one of the tests of every record ends. -/
theorem State.takeRec_early {n op out det : Nat} {served start unknown : Bool} (a : Accepted s r n)
    (early : (s.arrive r op).earlyEnd (itemOf s r op) served start unknown n = some (out, det)) (run : State → Nat → Item → State) :
    s.takeRec op r served start unknown n run = (s.arrive r op).finish (keyOf s r) out det := by
  unfold State.takeRec
  rw [if_neg (by simp [a.opened]), if_neg (by simp [a.block, a.expect])]
  simp only [State.arrive, keyOf, itemOf, owner] at early ⊢
  rw [early]

section
variable (q : Quiet s)
include q

theorem State.vhostStop_completes (a : Taken s r 0) (h : s.tenantItems (owner s r) = []) :
    Gives (.vhostStop r) s (fun t => (t.getTenants (owner s r)).stopped = true ∧ Answered s t r 0 0 []) := by
  let t := owner s r
  let k := keyOf s r
  let u := (s.arrive r 0x50).modItems k (fun i => { i with closes := [] })
  have serving : Serving s r u := (Serving.arrive q a.toAccepted).modItem (hw := fun _ _ => rfl)
  have item : u.item? k = some { itemOf s r 0x50 with closes := [] } :=
    State.item?_modItems (State.arrive_item? s r 0x50 (by decide)) fun e => by cases congrArg Item.op e
  obtain ⟨quiet, answered⟩ := serving.finish 0 0 []
  let w := (u.finish k 0 0).modTenants t Tenant.stop
  have quiet' : Quiet w := quiet.modTenants t _ fun _ => ⟨rfl, rfl, rfl⟩
  have run : s.recVhostStop r = u.modTenants t (Tenant.stopping k) := by
    refine (State.takeRec_taken a 0x50 ..).trans ?_
    unfold State.vhostStop
    dsimp only
    rw [show (itemOf s r 0x50).principal = owner s r from rfl, State.tenantItems_arrive h]
    rfl
  have settled : (s.recVhostStop r).settle = w.settle :=
    (congrArg State.settle run).trans (State.settle_stopping serving.quiet item rfl rfl serving.live t)
  have answered' : Answered s w r 0 0 [] := answered
  refine .intro (t := (s.recVhostStop r).settle) rfl ?_
  rw [settled]
  refine ⟨?_, Answered.settle answered' quiet'⟩
  rw [State.getTenants_settle_quiet quiet', State.getTenants_modTenants_same]
  rfl

theorem State.vhostStart_completes (a : Accepted s r 0) (safe : s.flt.safeStop = false) :
    Gives (.vhostStart r) s (fun t => (t.getTenants (owner s r)).stopped = false ∧ Answered s t r 0 0 []) := by
  let u := (s.arrive r 0x51).modTenants (owner s r) (fun x => { x with stopped := false })
  have serving : Serving s r u := (Serving.arrive q a).modTenants _
  have run : s.recVhostStart r = u.finishB (keyOf s r) 0 0 [] :=
    State.takeRec_accepted a 0x51 false true _ (.inr safe) (.inr (.inl rfl))
  have hub : owner s r ≠ hubPrincipal := Nat.ne_of_lt (Nat.lt_of_le_of_lt a.tenant (by decide))
  obtain ⟨quiet, answered⟩ := serving.finish 0 0 []
  refine .intro (t := (s.recVhostStart r).settle) rfl ?_
  rw [run]
  refine ⟨?_, Answered.settle answered quiet⟩
  rw [State.getTenants_settle_quiet quiet]
  have kept : (u.finishB (keyOf s r) 0 0 []).tenants = u.tenants :=
    State.finish_tenants (s := u) (State.arrive_item? s r 0x51 (by decide)) rfl rfl hub serving.live 0 0
  unfold State.getTenants
  rw [kept]
  exact congrArg Tenant.stopped (State.getTenants_modTenants_same ..)

theorem State.unknownRecord_refused (a : Accepted s r 0) (safe : s.flt.safeStop = false) (op : Nat) :
    Gives (.unknownCommandRecord op r) s (fun t => Answered s t r 0x0C 0x02 []) := by
  let u := s.arrive r (256 + op)
  have safe' : u.flt.safeStop = false := safe
  have loan : (u.getTenants (itemOf s r (256 + op)).principal).loan ≠ .recalling := a.loan
  have early : u.earlyEnd (itemOf s r (256 + op)) false false true 0 = some (0x0C, 0x02) := by
    unfold State.earlyEnd
    dsimp only
    rw [if_neg (by simp [safe']), if_neg loan, if_pos rfl]
  have run : s.recUnknownCommandRecord op r = u.finishB (keyOf s r) 0x0C 0x02 [] := State.takeRec_early a early _
  have item : u.item? (keyOf s r) = some (itemOf s r (256 + op)) := State.arrive_item? s r (256 + op) (by omega)
  have hub : (itemOf s r (256 + op)).principal ≠ hubPrincipal := Nat.ne_of_lt (Nat.lt_of_le_of_lt a.tenant (by decide))
  have live : (u.getSess r.sess).live = true := by
    rw [State.arrive_sess]
    exact Session.live_of_opened a.opened
  have noTransfer : (itemOf s r (256 + op)).op ≠ 0x30 := show 256 + op ≠ 0x30 by omega
  have answered : Answered s (u.finishB (keyOf s r) 0x0C 0x02 []) r 0x0C 0x02 [] :=
    Answered.finishB item ⟨rfl, rfl, a.tenant, rfl, u.periodicItem_of_op noTransfer⟩ live (by rw [State.arrive_sess])
  refine .intro (t := (s.recUnknownCommandRecord op r).settle) rfl ?_
  rw [run]
  exact Answered.settle answered ((Quiet.arrived q r (256 + op)).finishB' 0x0C 0x02 [] item hub)

end

end

end Sys2Proof.Machine

namespace Sys2Proof
open Machine

/-- Settles O4: the item of a VHOST_STOP waits for no other, so the first round of the pass ends it. -/
theorem virtualHostRecords : Obligations.VirtualHostRecords := by
  unfold Obligations.VirtualHostRecords
  exact ⟨fun _ _ q a h => State.vhostStop_completes q a h, fun _ _ q a safe => State.vhostStart_completes q a safe,
    fun _ op _ q a safe => State.unknownRecord_refused q a safe op⟩

end Sys2Proof
end

section
/-!
PROOFS. The owner of a port switches its VBUS on and off (05 R153; 13 R342, R344; 14 R378, R384, R490).
-/
set_option Elab.async false
namespace Sys2Proof.Machine

/-! ### The switch of a port while its sentry link is up (14 R378, R384) -/

theorem State.getProt_setAllowed (s : State) (p : Nat) (b : Bool) :
    (s.setAllowed p b).getProt p = { s.getProt p with vbusAllowed := b } := by
  unfold State.setAllowed
  dsimp only
  split
  · rw [State.getProt_modUsb, State.getProt_modProt_same]
  · unfold State.modVote
    rw [State.getProt_modRegs, State.getProt_modProt_same]

theorem State.setAllowed_quiet {s : State} (h : Quiet s) (p : Nat) (b : Bool) : Quiet (s.setAllowed p b) := by
  unfold State.setAllowed
  dsimp only
  split
  · exact (h.modProt ..).modUsb _ _ fun _ => rfl
  · exact Eff.of_quiet (h.modProt ..) (State.modVote_eff ..) rfl

theorem State.startRamp_quiet {s : State} (h : Quiet s) (p : Nat) : Quiet (s.startRamp p) :=
  State.setAllowed_quiet ((Eff.of_quiet h (s.setVout_eff ..) rfl).modProt ..) p true

theorem State.startDrain_quiet {s : State} (h : Quiet s) (p : Nat) : Quiet (s.startDrain p) :=
  State.setAllowed_quiet (h.modProt ..) p false

theorem State.startRamp_prot (s : State) (p : Nat) :
    ((s.startRamp p).getProt p).sw = .ramping ∧ ((s.startRamp p).getProt p).rampPhase = .offset := by
  unfold State.startRamp
  rw [State.getProt_setAllowed, State.getProt_modProt_same]
  exact ⟨rfl, rfl⟩

theorem State.startDrain_prot (s : State) (p : Nat) : ((s.startDrain p).getProt p).sw = .draining := by
  unfold State.startDrain
  rw [State.getProt_setAllowed, State.getProt_modProt_same]

section
variable {s : State} {p : Nat} (link : s.linkHeld p = false) (k : Nat)
include link

theorem State.swOn_on (on : (s.getProt p).sw = .on) : s.swOn p (some k) = s.finish k 0 0 := by
  unfold State.swOn
  dsimp only
  rw [link, on]
  rfl

theorem State.swOn_off (off : (s.getProt p).sw = .off) (calm : (s.getPwr p).inHardReset = false) :
    s.swOn p (some k) = (s.joinOn p (some k)).startRamp p := by
  unfold State.swOn
  dsimp only
  rw [link, off, calm]
  rfl

theorem State.swOff_on (on : (s.getProt p).sw = .on) :
    s.swOff p (some k) = ((s.joinOff p (some k)).startDrain p).modProt p (fun r => { r with offPend := r.tripSeq }) := by
  unfold State.swOff
  dsimp only
  rw [link, on]
  rfl

theorem State.withholdOff_link (k : Option Nat) : s.withholdOff p k = (s.withhold p).swOff p k := by
  unfold State.withholdOff
  rw [link]
  rfl

end

theorem State.withhold_cc {s : State} {p : Nat} (h : (s.getPwr p).cc = .attached) : ((s.withhold p).getPwr p).cc = .withheld := by
  have off : ∀ u : State, (u.getPwr p).cc = .withheld → ((u.vconnOff p).getPwr p).cc = .withheld := by
    intro u hu
    unfold State.vconnOff
    split
    · rw [State.getPwr_emit, State.getPwr_modPwr_same]
      exact hu
    · exact hu
  unfold State.withhold State.leaveQueue State.endContract
  rw [if_pos h, State.getPwr_modGals, State.getPwr_modPwr_same]
  refine off _ ?_
  rw [State.getPwr_modPwr_same]

theorem State.getProt_settle_quiet {s : State} (h : Quiet s) (p : Nat) : s.settle.getProt p = s.getProt p := by
  unfold State.getProt
  rw [(State.settle_eff_quiet h).prot rfl]

theorem State.getPwr_settle_quiet {s : State} (h : Quiet s) (p : Nat) : s.settle.getPwr p = s.getPwr p := by
  unfold State.getPwr
  rw [(State.settle_eff_quiet h).pwr rfl]

/-! ### The item of a PORT_ACTION (05 R153; 03 R91) -/

/-- The state in which the item of a PORT_ACTION is open, with its port noted. -/
def State.acting (s : State) (r : Rec) (p : Nat) : State := (s.arrive r 0x10).modItems (keyOf s r) (fun i => { i with port := p })

section
variable {s : State} {r : Rec} {p : Nat}

theorem Serving.acting (q : Quiet s) (a : Taken s r 8) (p : Nat) : Serving s r (s.acting r p) := (Serving.arrive q a.toAccepted).modItem

/-- What every PORT_ACTION of a loan in force that names its action's row and a port of its principal does. -/
theorem State.takeRec_portAction {action : Nat} (a : Taken s r 8) (awake : (s.getTenants (owner s r)).loan ≠ .paused)
    (hp : beNat (slice r.body 0 1) = p) (listed : beNat (slice r.body 1 1) = action) (holds : s.holdsPort (owner s r) p = true)
    (f : State → Nat → Nat → State) :
    s.takeRec 0x10 r false false false 8 (fun s k i => s.portAction k i action (fun s p => s.unlessPaused k (f · k p))) =
      f (s.acting r p) (keyOf s r) p := by
  have item : (s.acting r p).getItems (keyOf s r) = { itemOf s r 0x10 with port := p } :=
    State.getItems_of_item? (State.item?_modItems (State.arrive_item? s r 0x10 (by decide)) fun e => by cases congrArg Item.op e)
  have awake' : ((s.acting r p).getTenants ((s.acting r p).getItems (keyOf s r)).principal).loan ≠ .paused := by
    rw [item]
    exact awake
  have holds' : (s.arrive r 0x10).holdsPort (itemOf s r 0x10).principal p ≠ false := by
    rw [show (s.arrive r 0x10).holdsPort (itemOf s r 0x10).principal p = true from holds]
    nofun
  refine (State.takeRec_taken a 0x10 ..).trans ?_
  unfold State.portAction
  dsimp only
  rw [show (itemOf s r 0x10).f 0 1 = p from hp, if_neg (not_not.mpr (show (itemOf s r 0x10).f 1 1 = action from listed)), if_neg holds']
  exact if_neg awake'

section
variable (a : Taken s r 8) (awake : (s.getTenants (owner s r)).loan ≠ .paused) (hp : beNat (slice r.body 0 1) = p)
  (holds : s.holdsPort (owner s r) p = true)
include a awake hp holds

/-! ### VBUS_ON -/

section
variable (listed : beNat (slice r.body 1 1) = 1) (attached : (s.getPwr p).cc = .attached)
  (free : (s.getUsb p).state ≠ .quarantined) (budget : s.budget p ≠ 0)
include listed attached free budget

theorem State.recVbusOn_attached : s.recVbusOn r = (s.acting r p).swOn p (some (keyOf s r)) := by
  have cc : ((s.acting r p).getPwr p).cc = .attached := attached
  refine (State.takeRec_portAction a awake hp listed holds State.vbusOn).trans ?_
  unfold State.vbusOn
  dsimp only
  rw [if_neg, if_pos cc]
  rintro (⟨h, -⟩ | h | h)
  exacts [h cc, free h, budget h]

variable (q : Quiet s) (link : s.linkHeld p = false)
include q link

theorem State.vbusOn_completes (on : (s.getProt p).sw = .on) : Gives (.vbusOn r) s (fun t => Answered s t r 0 0 []) := by
  refine .intro (t := (s.recVbusOn r).settle) rfl ?_
  rw [State.recVbusOn_attached a awake hp holds listed attached free budget, State.swOn_on (s := s.acting r p) link _ on]
  exact (Serving.acting q a p).answered 0 0 []

theorem State.vbusOn_ramps (off : (s.getProt p).sw = .off) (calm : (s.getPwr p).inHardReset = false) :
    Gives (.vbusOn r) s (fun t => (t.getProt p).sw = .ramping ∧ (t.getProt p).rampPhase = .offset) := by
  have quiet : Quiet (((s.acting r p).joinOn p (some (keyOf s r))).startRamp p) :=
    State.startRamp_quiet ((Serving.acting q a p).quiet.modProt ..) p
  refine .intro (t := (s.recVbusOn r).settle) rfl ?_
  rw [State.recVbusOn_attached a awake hp holds listed attached free budget, State.swOn_off (s := s.acting r p) link _ off calm,
    State.getProt_settle_quiet quiet]
  exact State.startRamp_prot ..

end

/-! ### VBUS_OFF -/

section
variable (listed : beNat (slice r.body 1 1) = 2)
include listed

theorem State.recVbusOff_eq : s.recVbusOff r = (s.acting r p).vbusOff (keyOf s r) p :=
  State.takeRec_portAction a awake hp listed holds State.vbusOff

variable (q : Quiet s)
include q

theorem State.vbusOff_completes (withheld : (s.getPwr p).cc = .withheld) : Gives (.vbusOff r) s (fun t => Answered s t r 0 0 []) := by
  have run : s.recVbusOff r = (s.acting r p).finishB (keyOf s r) 0 0 [] :=
    (State.recVbusOff_eq a awake hp holds listed).trans (if_pos withheld)
  refine .intro (t := (s.recVbusOff r).settle) rfl ?_
  rw [run]
  exact (Serving.acting q a p).answered 0 0 []

theorem State.vbusOff_drains (link : s.linkHeld p = false) (attached : (s.getPwr p).cc = .attached) (on : (s.getProt p).sw = .on) :
    Gives (.vbusOff r) s (fun t => (t.getPwr p).cc = .withheld ∧ (t.getProt p).sw = .draining) := by
  have attached' : ((s.acting r p).getPwr p).cc = .attached := attached
  let u := (s.acting r p).withhold p
  have prot : u.getProt p = s.getProt p := congrArg (SMap.get PortProt.reset · p) ((State.withhold_eff (s.acting r p) p).prot rfl)
  have link' : u.linkHeld p = false := by
    unfold State.linkHeld
    rw [prot]
    exact link
  let v := ((u.joinOff p (some (keyOf s r))).startDrain p).modProt p (fun r => { r with offPend := r.tripSeq })
  have run : s.recVbusOff r = v := by
    refine (State.recVbusOff_eq a awake hp holds listed).trans ?_
    unfold State.vbusOff
    dsimp only
    rw [if_neg (by rw [attached']; nofun), if_pos attached', State.withholdOff_link (s := s.acting r p) link]
    exact State.swOff_on link' _ (prot ▸ on)
  have pwr : v.getPwr p = u.getPwr p :=
    congrArg (SMap.get PortPwr.reset · p) ((State.startDrain_eff (u.joinOff p (some (keyOf s r))) p).pwr rfl)
  have quiet : Quiet v :=
    (State.startDrain_quiet ((Eff.of_quiet (Serving.acting q a p).quiet (State.withhold_eff ..) rfl).modProt ..) p).modProt ..
  refine .intro (t := (s.recVbusOff r).settle) rfl ?_
  rw [run, State.getPwr_settle_quiet quiet, State.getProt_settle_quiet quiet, pwr, State.getProt_modProt_same]
  exact ⟨State.withhold_cc attached, State.startDrain_prot ..⟩

end

end

end

end Sys2Proof.Machine

namespace Sys2Proof
open Machine

/-- Settles O7: what the switch of a port does on a request of its owner follows from its state, and leaves nothing for the pass. -/
theorem portPowerRecords : Obligations.PortPowerRecords := by
  unfold Obligations.PortPowerRecords
  exact ⟨fun _ _ _ q a awake hp listed holds link attached free budget on =>
      State.vbusOn_completes a awake hp holds listed attached free budget q link on,
    fun _ _ _ q a awake hp listed holds link attached free budget off calm =>
      State.vbusOn_ramps a awake hp holds listed attached free budget q link off calm,
    fun _ _ _ q a awake hp listed holds withheld => State.vbusOff_completes a awake hp holds listed q withheld,
    fun _ _ _ q a awake hp listed holds link attached on => State.vbusOff_drains a awake hp holds listed q link attached on⟩

end Sys2Proof
end

section
/-!
PROOFS. Sessions that open, close and end (04 R119, R122; 05 R139 to R148).
-/
set_option Elab.async false
namespace Sys2Proof.Machine

theorem State.modSess_sets {α : Type} {g : Session → α} {c : α} (s : State) (n : Nat) {f : Session → Session}
    (hf : ∀ x, g (f x) = c := by exact fun _ => rfl) : g ((s.modSess n f).getSess n) = c := by
  rw [State.getSess_modSess_same, hf]

/-! ### A session that is Closed (05 R145, R160, R161) -/

section
variable (s : State)

/-- The ledger is delivered into queues of records. -/
theorem State.deliverLedger_standing (t : Nat) : Kept (State.sessView Session.standing) s (s.deliverLedger t) := by
  have delivered : ∀ (s : State) (n b : Nat), Kept (State.sessView Session.standing) s (s.deliverBlock n t b) := fun s n b =>
    .trans (.trans ((s.modTenants_eff ..).sessKept rfl) (State.modSess_kept ..)) (State.modSess_kept _ _ (Session.push_standing _))
  unfold State.deliverLedger
  split
  · exact .refl s
  · exact .foldl (fun s b => .ite (.refl s) (delivered ..)) _ s

theorem State.closeSession_closed (n : Nat) : ((s.closeSession n).getSess n).state = .closed := by
  have renewed : ∀ (s : State) (t : Nat), Kept (State.sessView Session.standing) s (s.renewHouse t) := fun s t =>
    .ite ((s.modTenants_eff ..).sessKept rfl) (.refl s)
  unfold State.closeSession
  dsimp only
  rw [((State.deliverLedger_standing ..).trans (renewed ..)).sessState, State.getSess_modSess_same]

theorem State.giveUp_closed {n : Nat} (h : (s.getSess n).state = .opening) : ((s.giveUp n).getSess n).state = .closed := by
  unfold State.giveUp
  rw [if_pos h]
  exact s.closeSession_closed n

end

/-! ### The header of a frame, where nothing waits to be acknowledged (04 R121, R130) -/

section
variable {s : State} {f : Frame} (ho : (s.getSess f.sess).state = .opened) (hr : (s.getSess f.sess).replay = [])
include ho hr

theorem State.takeAck_replay (a : Nat) : ((s.takeAck f.sess a).getSess f.sess).replay = [] := by
  have freed : ∀ {α : Type} {g : Session → α} (s : State) (l : List (Nat × Nat)) (t : Nat),
      Kept (State.sessView g) s (l.foldl (fun s w => s.freeBlock t w.1) s) := fun s l t =>
    .foldl (fun s w => (s.freeBlock_eff t w.1).sessKept rfl) l s
  unfold State.takeAck
  dsimp only
  split
  · exact hr
  · rw [State.drained_opened]
    · rw [(freed (g := Session.replay) ..).sess, State.getSess_modSess_same, hr]
      rfl
    · rw [(freed (g := Session.state) ..).sess, State.getSess_modSess_same]
      exact ho

theorem State.takeAcked_replay : ((s.takeAcked f).getSess f.sess).replay = [] := by
  have headed : ((s.modSess f.sess (Session.headed f)).getSess f.sess).replay = [] := by
    rw [State.getSess_modSess_same]
    exact hr
  have opened : ((s.modSess f.sess (Session.headed f)).getSess f.sess).state = .opened := by
    rw [State.getSess_modSess_same]
    exact ho
  have echo : (s.modSess f.sess (Session.headed f)).takeEcho f = s.modSess f.sess (Session.headed f) := if_pos (.inl headed)
  unfold State.takeAcked
  dsimp only
  split
  · rw [(State.restall_kept (g := Session.replay) ..).sess, echo]
    exact State.takeAck_replay opened headed f.ack
  · rw [(State.restall_kept (g := Session.replay) ..).sess]
    exact headed

/-- Without frames that wait for an acknowledgement, SACK blocks show none overtaken. -/
theorem State.takeHeader_intake_of_replay : ((s.takeHeader f).getSess f.sess).intake = ((s.getSess f.sess).headed f).intake := by
  have none : (s.takeAcked f).resendSacked f.sess = s.takeAcked f := by
    unfold State.resendSacked
    dsimp only
    rw [State.takeAcked_replay ho hr]
    rfl
  rw [State.takeHeader_eq, none, ite_self, (State.takeAcked_intake ho).sess f.sess, State.getSess_modSess_same]

end

/-- What an OPEN gives its session, beside a key and room. -/
def Session.allotted (x : Session) : SessState × Nat × Nat := (x.state, x.tenant, x.block)

theorem Session.fields_of_allotted {x : Session} {a : SessState} {t b : Nat} (h : x.allotted = (a, t, b)) :
    x.state = a ∧ x.tenant = t ∧ x.block = b := by
  simpa [Session.allotted] using h

/-! ### What opens and resets a session (05 R142, R144, R145) -/

theorem Calm.sendExchange {s : State} (h : Calm s) (q : OpenFrame) (payload : Bytes) : Calm (s.sendExchange q payload) := by
  unfold State.sendExchange
  exact (h.modTenants q.tenant).eff (State.queueFrame_eff ..) rfl

theorem Calm.openAt {s : State} (h : Calm s) (n : Nat) (f : OpenFrame) : Calm (s.openAt n f) := by
  have answered : ∀ b, Calm (s.tookFree.sendExchange f b) := fun b => (h.eff s.tookFree_eff rfl).sendExchange f b
  unfold State.openAt
  exact (((answered _).modTenants f.tenant).eff (State.modMem_eff ..) rfl).modSess ..

theorem State.resetAll_one {s : State} {t n : Nat} (one : n ≠ 0xFFFF) (owned : (s.getSess n).tenant = t) : s.resetAll t n = s.resetOne n := by
  unfold State.resetAll
  rw [if_neg one, if_pos owned]

end Sys2Proof.Machine

namespace Sys2Proof
open Machine

/-! ### OPEN and CONFIRM (05 R143 to R145) -/

theorem openSession_opens {s : State} {f : OpenFrame} {n : Nat} {u : State} (q : Quiet s) (hv : s.arrives f.via = true) (hl : s.dbg.lock ≠ 1)
    (ok : s.openOk f = true) (len : f.payload.length = 32) (op : f.payload.take 1 = [1])
    (hu : u = (s.modTenants f.tenant (fun x => { x with openTxc := some f.txc })).applyS f.tenant)
    (admitted : u.openStatus f.tenant (beNat (slice f.payload 1 1)) (beNat (slice f.payload 20 4)) = 0) (free : u.freeSess = some n) :
    Gives (.openSession f) s (fun t => (t.getSess n).state = .opening ∧ (t.getSess n).tenant = f.tenant ∧
      (t.getSess n).block = (s.getTenants f.tenant).nextBlock) := by
  have calm : Calm u := hu ▸ ((Calm.of_quiet q).modTenants f.tenant).eff (State.applyS_eff ..) rfl
  have opens : s.openReq f = u.openAt n f := by
    unfold State.openReq
    dsimp only
    rw [if_neg (by simp [hv, hl]), if_neg (by simp [ok]), if_neg (by simp [len, op]), ← hu, if_pos admitted, free]
  have next : (u.getTenants f.tenant).nextBlock = (s.getTenants f.tenant).nextBlock := by
    have same : u.getTenants f.tenant = (s.modTenants f.tenant (fun x => { x with openTxc := some f.txc })).getTenants f.tenant := by
      unfold State.getTenants
      rw [hu, (State.applyS_eff ..).tenants rfl]
    rw [same, State.getTenants_modTenants_same]
  have calm' : Calm (u.openAt n f) := calm.openAt n f
  have view : ((u.openAt n f).getSess n).allotted = (.opening, f.tenant, (s.getTenants f.tenant).nextBlock) := by
    rw [← next]
    exact State.modSess_sets _ n fun _ => rfl
  refine .intro (t := (s.openReq f).settle) rfl ?_
  rw [opens]
  have settled := ((State.settle_kept (g := Session.allotted) calm').sess n).trans view
  exact Session.fields_of_allotted settled

theorem confirm_opens {s : State} {f : Frame} (q : Quiet s) (hv : s.arrives f.via = true) (ok : s.frameOk f 4 [.opening] = true)
    (first : f.seq = 0) (op : f.payload.take 1 = [3]) (hr : (s.getSess f.sess).replay = []) :
    Gives (.confirm f) s (fun t => (t.getSess f.sess).state = .opened ∧ (t.getSess f.sess).rxNext = 1) := by
  let u := s.modSess f.sess (fun x => { x with
    state := .opened, rxNext := 1, stallSpan := 0, stallBuf := 0, stallWin := 0, retx := 0, heldPeak := 0 })
  let t := (u.getSess f.sess).tenant
  have now : u.getSess f.sess = { s.getSess f.sess with
      state := .opened, rxNext := 1, stallSpan := 0, stallBuf := 0, stallWin := 0, retx := 0, heldPeak := 0 } :=
    State.getSess_modSess_same ..
  have opened : (u.getSess f.sess).state = .opened := congrArg Session.state now
  have intake : ((u.takeHeader f).getSess f.sess).intake = ((u.getSess f.sess).headed f).intake :=
    State.takeHeader_intake_of_replay opened ((congrArg Session.replay now).trans hr)
  have calm : Calm ((u.takeHeader f).deliverLedger t) :=
    (State.deliverLedger_loansKept ..).calm (Calm.takeHeader opened ((Calm.of_quiet q).modSess ..))
  have confirms : s.confirmed f = (u.takeHeader f).deliverLedger t := by
    unfold State.confirmed
    rw [if_neg (by simp [hv]), if_pos (by simp [ok, first, op])]
  have kept := ((State.deliverLedger_standing (u.takeHeader f) t).of_standing (g := Session.intake) fun _ => rfl).trans (State.settle_kept calm)
  obtain ⟨state, -, -, next, -⟩ := Session.fields_of_intake ((kept.sess f.sess).trans intake)
  refine .intro (t := (s.confirmed f).settle) rfl ?_
  rw [confirms]
  exact ⟨state.trans opened, next.trans (congrArg Session.rxNext now)⟩

/-! ### Sessions given up, reset and closed (05 R142, R145) -/

theorem openTimeout_closes {s : State} {n : Nat} (hn : n < 1024) (h : (s.getSess n).state = .opening) :
    Gives (.openTimeout n) s (fun t => (t.getSess n).state = .closed) :=
  gives_onUnit (t := s.giveUp n) rfl (decide_eq_true hn) (s.giveUp_closed h)

theorem transportReset_closes {s : State} {f : Frame} {n : Nat} (q : Quiet s) (hv : s.arrives f.via = true)
    (ok : s.openOk (openPart f) = true) (len : f.payload.length = 8) (op : f.payload.take 1 = [5]) (hn : beNat (slice f.payload 2 2) = n)
    (one : n ≠ 0xFFFF) (owned : (s.getSess n).tenant = f.tenant) (h : (s.getSess n).state = .opening) :
    Gives (.sessionReset .transport f) s (fun t => (t.getSess n).state = .closed) := by
  let u := s.modTenants f.tenant (fun x => { x with openTxc := some f.txc })
  have opening : (u.getSess n).state = .opening := h
  have resets : s.sessReset .transport f = u.giveUp n := by
    have reset : u.resetAll f.tenant n = u.giveUp n := by
      rw [State.resetAll_one (s := u) one owned]
      unfold State.resetOne
      rw [opening]
    unfold State.sessReset State.exchangeReset
    dsimp only
    rw [if_neg (by simp [openPart, hv]), if_pos ok]
    exact (if_pos ⟨len, op⟩).trans (hn.symm ▸ reset)
  have calm : Calm (u.giveUp n) := (u.giveUp_loansKept n).calm ((Calm.of_quiet q).modTenants f.tenant)
  refine .intro (t := (s.sessReset .transport f).settle) rfl ?_
  rw [resets, (State.settle_standing calm).sessState]
  exact u.giveUp_closed opening

theorem sessionEndingComplete_closes {s : State} {n : Nat} (hn : n < 1024) (q : Quiet s) (h : (s.getSess n).state = .ending)
    (empty : s.sessItems n = []) : Gives (.sessionEndingComplete n) s (fun t => (t.getSess n).state = .closed) := by
  let u := s.sendClosed n (s.getSess n).reason (s.getSess n).ended
  have closes : s.endingDone n = u.closeSession n := if_pos ⟨h, empty⟩
  have calm : Calm (u.closeSession n) :=
    (u.closeSession_loansKept n).calm ((Calm.of_quiet q).eff (State.sendClosed_eff ..) rfl)
  refine gives_onUnit (t := (s.endingDone n).settle) rfl (decide_eq_true hn) ?_
  rw [closes, (State.settle_standing calm).sessState]
  exact u.closeSession_closed n

end Sys2Proof
end

section
/-!
PROOFS. SESSION frames under a session's key: CLOSE of either mode and RESET (04 R121, R131; 05 R142, R145 to R148).
-/
set_option Elab.async false
namespace Sys2Proof.Machine

/-! ### The SESSION frame next in sequence (04 R131; 05 R142) -/

/-- What a frame's header leaves of its session: its state, its principal and the TXC that it sends next. -/
def Session.bearing (x : Session) : SessState × Nat × Nat := (x.state, x.tenant, x.txc)

theorem Session.fields_of_bearing {x y : Session} (h : x.bearing = y.bearing) : x.state = y.state ∧ x.tenant = y.tenant ∧ x.txc = y.txc := by
  simpa [Session.bearing] using h

theorem Session.takes_iff {x : Session} : x.takes = true ↔ x.state = .opened ∨ x.state = .draining := by
  unfold Session.takes
  simp

theorem Session.takes_of_ending {x : Session} (h : x.state = .ending) : x.takes = false := by
  unfold Session.takes
  rw [h]
  rfl

/-- A frame of a session that takes frames in sequence, which passes its checks. -/
theorem State.frameOk_takes {s : State} {f : Frame} {typ : Nat} (ok : s.frameOk f typ [.opened, .draining] = true) :
    (s.getSess f.sess).takes = true ∧ f.typ = typ ∧ f.sess < 1024 := by
  unfold State.frameOk at ok
  dsimp only at ok
  simp only [Bool.and_eq_true, decide_eq_true_eq, List.contains_cons, List.contains_nil, Bool.or_false, beq_iff_eq, Bool.or_eq_true] at ok
  obtain ⟨⟨⟨⟨⟨⟨⟨-, typ⟩, number⟩, state⟩, -⟩, -⟩, -⟩, -⟩ := ok
  exact ⟨Session.takes_iff.mpr state, typ, number⟩

/-- The state in which the payload of a frame without an acknowledgement reaches the virtual host. -/
def State.reaching (s : State) (f : Frame) : State := (s.takeHeader f).modSess f.sess Session.withNext

section
variable {s : State} {f : Frame} (ha : f.ackValid = false)
include ha

theorem State.takeHeader_plain : s.takeHeader f = (s.modSess f.sess (Session.headed f)).restall f.sess := by
  rw [State.takeHeader_eq, if_neg (by simp [ha])]
  exact if_neg (by simp [ha])

theorem State.reaching_bearing : Kept (State.sessView Session.bearing) s (s.reaching f) := by
  unfold State.reaching
  rw [State.takeHeader_plain ha]
  refine .trans (.trans ?_ (State.restall_kept ..)) (State.modSess_kept ..)
  exact s.modSess_kept f.sess

theorem Calm.reaching (h : Calm s) : Calm (s.reaching f) := by
  unfold State.reaching
  rw [State.takeHeader_plain ha]
  exact ((h.modSess ..).restall _).modSess ..

theorem State.reaching_items : (s.reaching f).items = s.items := by
  unfold State.reaching
  rw [State.takeHeader_plain ha]
  exact ((State.restall_eff ..).items rfl).trans rfl

/-- A SESSION frame next in sequence: its header, then its record, then an acknowledgement where one is due. -/
theorem State.sessionFrame_next (hv : s.arrives f.via = true) (ok : s.frameOk f 4 [.opened, .draining] = true)
    (hq : f.seq = (s.getSess f.sess).rxNext) (hb : (s.getSess f.sess).rxBuf = []) (hl : f.payload.length = 8)
    (hk : 1 ≤ (s.getSess f.sess).bufKib) {u : State} (hu : u = (s.reaching f).sessRecord f.sess f.payload) :
    s.sessionFrame f = if 2 ≤ (u.getSess f.sess).unacked then u.ackNow f.sess else u := by
  subst hu
  obtain ⟨takes, typ, -⟩ := State.frameOk_takes ok
  have intake : ((s.takeHeader f).getSess f.sess).intake = ((s.getSess f.sess).headed f).intake := by
    rw [State.takeHeader_plain ha, (State.restall_kept (g := Session.intake) ..).sess, State.getSess_modSess_same]
  obtain ⟨state, -, -, next, -, buf, kib⟩ := Session.fields_of_intake intake
  have takes' : ((s.takeHeader f).getSess f.sess).takes = true := Session.takes_iff.mpr (state ▸ Session.takes_iff.mp takes)
  have fits : f.payload.length ≤ ((s.takeHeader f).getSess f.sess).bufKib * 1024 := by
    have same : ((s.takeHeader f).getSess f.sess).bufKib = (s.getSess f.sess).bufKib := kib
    omega
  unfold State.sessionFrame State.takeFrame
  rw [if_neg (by simp [hv]), if_pos ok]
  dsimp only
  rw [if_pos takes', State.takeSeq_next (hq.trans next.symm) (buf.trans hb) fits, typ]
  rfl

end

/-- A session that takes frames no more is not acknowledged. -/
theorem State.ackNow_ended {s : State} {n : Nat} (h : (s.getSess n).state = .ending) : s.ackNow n = s := by
  unfold State.ackNow
  rw [if_neg (by simp [Session.takes_of_ending h])]

theorem State.queueFrame_state (s : State) (f : OutFrame) : Kept (State.sessView Session.state) s (s.queueFrame f) := by
  have sent : ∀ m x, (Session.sentOn m s.now f x).state = x.state := fun m x => by
    unfold Session.sentOn
    split <;> rfl
  unfold State.queueFrame State.onLink
  split
  case h_1 m _ =>
    dsimp only
    refine .trans (t := (s.modUpl (fun u => { u with rrNext := m % 8 + 1 })).modSess f.sess (Session.sentOn m s.now f)) ?_ ?_
    · exact .trans ((s.modUpl_eff _).sessKept rfl) (State.modSess_kept _ _ (sent m))
    · exact .ite (.trans ((State.setLink_eff ..).sessKept rfl) ((State.wire_eff ..).sessKept rfl)) ((State.setLink_eff ..).sessKept rfl)
  case h_2 => exact (s.modUpl_eff _).sessKept rfl

/-- An acknowledgement that wraps no TXC leaves every session's state. -/
theorem State.ackNow_state {s : State} {n : Nat} (hw : (s.getSess n).wraps = false) : Kept (State.sessView Session.state) s (s.ackNow n) := by
  have room : ((s.restall n).getSess n).wraps = false := ((s.restall_kept (g := Session.wraps) n).sess n).trans hw
  unfold State.ackNow
  refine .ite ((s.restall_kept n).trans ?_) (.refl s)
  unfold State.sendAck State.sendFrame
  rw [if_neg (by simp [room])]
  exact .trans (State.modSess_kept ..) (State.queueFrame_state ..)

/-! ### The end of a session, and what waits in its queue (05 R145, R147, R148) -/

/-- A session that is Ending with nothing to send. -/
def Session.silent (x : Session) : Prop := x.state = .ending ∧ x.txQueue = []

section
variable {n : Nat} {s : State} (h : (s.getSess n).silent)
include h

theorem State.modSess_silent (k : Nat) {f : Session → Session} (hf : k = n → (f (s.getSess n)).silent) :
    ((s.modSess k f).getSess n).silent := by
  by_cases hk : n = k
  · subst hk
    rw [State.getSess_modSess_same]
    exact hf rfl
  · rw [State.getSess_modSess_other _ _ _ hk]
    exact h

theorem Eff.silent {m : Nat} {t : State} (e : Eff m s t) (hm : m.testBit 8 = false) : (t.getSess n).silent := by
  unfold State.getSess
  rw [e.sess hm]
  exact h

theorem State.toLedger_silent (k t : Nat) (e : LedgerEntry) : ((s.toLedger k t e).getSess n).silent :=
  State.modSess_silent (s := s.modTenants t _) h k fun _ => h

/-- The completion of an item of such a session goes to the ledger. -/
theorem State.finish_silent (k out det : Nat) : ((s.finish k out det).getSess n).silent := by
  have dropped : ∀ i, ((s.dropItem k i).getSess n).silent := fun i => Eff.silent h (s.dropItem_eff k i) rfl
  unfold State.finish State.finishB
  split
  case h_1 => exact h
  case h_2 i _ =>
    dsimp only
    split
    · exact dropped i
    · split
      case isTrue live =>
        refine State.modSess_silent (dropped i) _ fun own => ?_
        rw [own] at live
        unfold Session.live at live
        rw [h.1] at live
        cases live
      case isFalse => exact State.toLedger_silent (dropped i) ..

theorem State.foldl_silent {α : Type} {f : State → α → State}
    (hf : ∀ s x, (State.getSess s n).silent → ((f s x).getSess n).silent) (l : List α) : ((l.foldl f s).getSess n).silent :=
  List.foldlRecOn (motive := fun t : State => (t.getSess n).silent) l f h fun t ht x _ => hf t x ht

theorem State.settleEnding_silent : (s.settleEnding.getSess n).silent := by
  refine State.foldl_silent h (fun s e hs => ?_) _
  dsimp only
  split
  · exact hs
  · refine State.foldl_silent hs (fun s k hs => ?_) _
    split
    · split
      · split
        · exact hs
        · exact State.finish_silent hs ..
      · exact hs
    · exact hs

theorem State.settleCloses_silent : (s.settleCloses.getSess n).silent := by
  refine State.foldl_silent h (fun s e hs => ?_) _
  split
  · exact hs
  · exact State.finish_silent hs ..

theorem State.settleStops_silent : (s.settleStops.getSess n).silent := by
  refine State.foldl_silent h (fun s e hs => ?_) _
  split
  · split
    · split
      · exact State.finish_silent hs ..
      · exact hs
    · exact hs
  · exact hs

theorem State.settleWaits_silent : (s.settleWaits.getSess n).silent :=
  State.settleStops_silent (State.settleCloses_silent (State.settleEnding_silent h))

theorem State.freeLocks_silent (k : Nat) : ((s.freeLocks k false).getSess n).silent := by
  unfold State.freeLocks
  dsimp only
  rw [Bool.false_and, if_neg Bool.false_ne_true]
  refine Eff.silent ?_ (State.modColl_eff ..) rfl
  refine State.foldl_silent ?_ (fun s l hs => Eff.silent hs (s.lockTell_eff l) rfl) _
  exact State.foldl_silent h (fun s l hs => Eff.silent hs (s.setLock_eff ..) rfl) _

/-- The rounds of the pass end items, and what else the pass does stands apart from sessions. -/
theorem State.settle_silent (calm : Calm s) : (s.settle.getSess n).silent := by
  have rounds : ∀ (k : Nat) (s : State), Calm s → (s.getSess n).silent → ((times State.settleOnce k s).getSess n).silent := by
    intro k
    induction k with
    | zero => exact fun _ _ hs => hs
    | succ k ih =>
      intro s calm hs
      rw [times, State.settleOnce_calm calm]
      exact ih _ (s.settleWaits_loansKept.calm calm) (State.settleWaits_silent hs)
  have calm' := (State.settleRounds_calm calm 3).1.calm calm
  have freed : Calm (times State.settleOnce 3 s).freeRecalled.pllPass :=
    (calm'.eff (State.freeRecalled_eff _) rfl).eff (State.pllPass_eff _) rfl
  unfold State.settle
  rw [State.resumedPass_calm calm, State.escOwed_calm calm', State.guardPass_calm freed]
  exact Eff.silent (Eff.silent (rounds 3 s calm h) (State.freeRecalled_eff _) rfl) (State.pllPass_eff _) rfl

end

/-- A session that ends without a loss has nothing more to send; its completions are the ledger's. -/
theorem State.endSession_silent (s : State) (n det reason : Nat) : ((s.endSession n det reason false false).getSess n).silent := by
  unfold State.endSession
  dsimp only
  refine State.settleWaits_silent (State.freeLocks_silent (Eff.silent ?_ (State.dropFrames_eff ..) rfl) n)
  refine State.foldl_silent ?_ (fun s k hs => Eff.silent hs (s.endCause_eff det k) rfl) _
  refine State.foldl_silent ?_ (fun s e hs => State.toLedger_silent hs ..) _
  rw [State.getSess_modSess_same]
  exact ⟨rfl, rfl⟩

end Sys2Proof.Machine

namespace Sys2Proof
open Machine

/-! ### CLOSE and RESET (05 R142, R145, R147) -/

theorem take_one_of_take_two {α : Type} {b : List α} {x y : α} (h : b.take 2 = [x, y]) : b.take 1 = [x] := by
  have := congrArg (List.take 1) h
  rwa [List.take_take] at this

section
variable {s : State} {f : Frame} (q : Quiet s) (hv : s.arrives f.via = true) (hq : f.seq = (s.getSess f.sess).rxNext)
  (hb : (s.getSess f.sess).rxBuf = []) (ha : f.ackValid = false) (len : f.payload.length = 8) (hk : 1 ≤ (s.getSess f.sess).bufKib)
include q hv hq hb ha len hk

theorem closeDrain_drains (ok : s.frameOk f 4 [.opened] = true) (op : f.payload.take 2 = [4, 0]) (hw : (s.getSess f.sess).wraps = false)
    (items : s.sessItems f.sess ≠ []) : Gives (.closeDrain f) s (fun t => (t.getSess f.sess).state = .draining) := by
  obtain ⟨opened, -, both⟩ := State.frameOk_opened ok
  obtain ⟨state, -, txc⟩ := Session.fields_of_bearing ((State.reaching_bearing (s := s) ha).sess f.sess)
  let u := (s.reaching f).modSess f.sess (fun x => { x with state := .draining })
  have items' : u.sessItems f.sess ≠ [] := by
    unfold State.sessItems State.itemsWhere at items ⊢
    rwa [show u.items = s.items from State.reaching_items ha]
  have draining : (u.getSess f.sess).state = .draining := State.modSess_sets (g := Session.state) ..
  have room : (u.getSess f.sess).wraps = false := by
    rw [State.getSess_modSess_same]
    unfold Session.wraps at hw ⊢
    exact txc ▸ hw
  have record : (s.reaching f).sessRecord f.sess f.payload = u := by
    unfold State.sessRecord State.closeDrained State.drained
    rw [if_neg (by omega), if_pos op, if_pos (state.trans opened)]
    exact if_neg fun none => items' none.2.1
  have frame := State.sessionFrame_next ha hv both hq hb len hk record.symm
  have calm : Calm u := (Calm.reaching ha (.of_quiet q)).modSess ..
  refine .intro (t := (if f.payload.take 2 = [4, 0] then s.sessionFrame f else s).settle) rfl ?_
  rw [if_pos op, frame]
  split
  · rw [(State.settle_standing (calm.ackNow _)).sessState, (State.ackNow_state room).sess]
    exact draining
  · rw [(State.settle_standing calm).sessState]
    exact draining

section
variable (ok : s.frameOk f 4 [.opened, .draining] = true)
include ok

omit q in
/-- A record that ends the session is not acknowledged. -/
theorem sessionFrame_ends {u : State} (hu : u = (s.reaching f).sessRecord f.sess f.payload) (ended : (u.getSess f.sess).state = .ending) :
    s.sessionFrame f = u := by
  rw [State.sessionFrame_next ha hv ok hq hb len hk hu, State.ackNow_ended ended, ite_self]

theorem closeAbort_ends (op : f.payload.take 2 = [4, 1]) :
    Gives (.closeAbort f) s (fun t => (t.getSess f.sess).state = .ending ∧ (t.getSess f.sess).txQueue = []) := by
  obtain ⟨state, -, -⟩ := Session.fields_of_bearing ((State.reaching_bearing (s := s) ha).sess f.sess)
  let u := (s.reaching f).endSession f.sess 0x32 0 false false
  have silent : (u.getSess f.sess).silent := State.endSession_silent ..
  have record : (s.reaching f).sessRecord f.sess f.payload = u := by
    unfold State.sessRecord State.closeAborted
    rw [if_neg (by omega), if_neg (by simp [op]), if_pos op]
    exact if_pos (state ▸ Session.takes_iff.mp (State.frameOk_takes ok).1)
  have frame := sessionFrame_ends hv hq hb ha len hk ok record.symm silent.1
  refine .intro (t := (if f.payload.take 2 = [4, 1] then s.sessionFrame f else s).settle) rfl ?_
  rw [if_pos op, frame]
  exact State.settle_silent silent ((Calm.reaching ha (.of_quiet q)).endSession ..)

theorem sessionReset_ends (op : f.payload.take 1 = [5]) (own : beNat (slice f.payload 2 2) = f.sess) :
    Gives (.sessionReset .session f) s (fun t => (t.getSess f.sess).state = .ending) := by
  obtain ⟨state, -, -⟩ := Session.fields_of_bearing ((State.reaching_bearing (s := s) ha).sess f.sess)
  obtain ⟨takes, -, number⟩ := State.frameOk_takes ok
  let u := (s.reaching f).endSession f.sess 0x30 0x04 false true
  have ended : (u.getSess f.sess).state = .ending := State.endSession_ending _ (.inl rfl) ..
  have noClose : ∀ m, f.payload.take 2 ≠ [4, m] := fun m h => by
    have := (take_one_of_take_two h).symm.trans op
    simp at this
  have record : (s.reaching f).sessRecord f.sess f.payload = u := by
    unfold State.sessRecord
    rw [if_neg (by omega), if_neg (noClose 0), if_neg (noClose 1), if_pos op, own, State.resetAll_one (by omega) rfl]
    unfold State.resetOne
    rcases Session.takes_iff.mp takes with h | h <;> rw [state, h]
  have frame := sessionFrame_ends hv hq hb ha len hk ok record.symm ended
  have calm : Calm u := (Calm.reaching ha (.of_quiet q)).endSession ..
  refine .intro (t := (s.sessReset .session f).settle) rfl ?_
  rw [show s.sessReset .session f = u from (if_pos op).trans frame, (State.settle_standing calm).sessState]
  exact ended

end

end

/-- Settles O23: a record under a session's key moves the session's state, and what follows the record leaves it there. -/
theorem sessionLife : Obligations.SessionLife := by
  unfold Obligations.SessionLife
  exact ⟨fun _ _ _ _ q hv hl ok len op hu admitted free => openSession_opens q hv hl ok len op hu admitted free,
    fun _ _ q hv ok first op hr => confirm_opens q hv ok first op hr,
    fun _ _ hn h => openTimeout_closes hn h,
    fun _ _ q hv ok hq hb ha op len hk hw items => closeDrain_drains q hv hq hb ha len hk ok op hw items,
    fun _ _ q hv ok hq hb ha op len hk => closeAbort_ends q hv hq hb ha len hk ok op,
    fun _ _ q hv ok hq hb ha op len own hk => sessionReset_ends q hv hq hb ha len hk ok op own,
    fun _ _ _ q hv ok len op hn one owned h => transportReset_closes q hv ok len op hn one owned h,
    fun _ _ hn q h empty => sessionEndingComplete_closes hn q h empty⟩

end Sys2Proof
end

section
/-!
PROOFS. What operations leave of the ports: items that end, devices that leave, pipes that close, and the pass after a command in a calm
state (05 R155, R159; 06 R181, R183; 07 R201, R209).
-/
set_option Elab.async false
namespace Sys2Proof.Machine

/-! ### Views of the ports that an operation leaves -/

/-- An operation leaves a view of every port. A calm state stays calm, no result of a split comes to wait, what was sent stays sent, and no
request becomes deferred. -/
structure Leaves (g : PortUsb → PortUsb) (s t : State) : Prop where
  calm : Calm s → Calm t
  noResult : NoResult s → NoResult t
  grows : s.sent <+: t.sent
  port : ∀ p, g (t.getUsb p) = g (s.getUsb p)
  undeferred : ∀ p, (s.getUsb p).deferred = none → (t.getUsb p).deferred = none

section
variable {g k : PortUsb → PortUsb} {s t u : State}

theorem Leaves.refl (s : State) : Leaves g s s := ⟨id, id, List.prefix_refl _, fun _ => rfl, fun _ => id⟩

theorem Leaves.trans (h : Leaves g s t) (k : Leaves g t u) : Leaves g s u :=
  ⟨k.calm ∘ h.calm, k.noResult ∘ h.noResult, h.grows.trans k.grows, fun p => (k.port p).trans (h.port p),
    fun p => k.undeferred p ∘ h.undeferred p⟩

theorem Leaves.ite {c : Prop} [Decidable c] (h : Leaves g s t) (k : Leaves g s u) : Leaves g s (if c then t else u) := by
  split <;> assumption

theorem Leaves.foldl {α : Type} {f : State → α → State} (h : ∀ s x, Leaves g s (f s x)) (l : List α) (s : State) :
    Leaves g s (l.foldl f s) := by
  induction l generalizing s with
  | nil => exact .refl s
  | cons x l ih => exact (h s x).trans (ih _)

/-- What a view determines is left with it. -/
theorem Leaves.coarser (h : Leaves g s t) (hg : ∀ u, k (g u) = k u := by exact fun _ => rfl) : Leaves k s t :=
  ⟨h.calm, h.noResult, h.grows, fun p => by rw [← hg, h.port, hg], h.undeferred⟩

theorem Leaves.reads (h : Leaves g s t) {α : Type} (f : PortUsb → α) (p : Nat) (hf : ∀ u, f (g u) = f u := by exact fun _ => rfl) :
    f (t.getUsb p) = f (s.getUsb p) := by
  rw [← hf, h.port, hf]

theorem Leaves.sent (h : Leaves g s t) {x : Sent} (hx : x ∈ s.sent) : x ∈ t.sent := h.grows.subset hx

/-- An operation that reaches neither ports, pipes and items nor what a calm state speaks of. -/
theorem Eff.leaves {m : Nat} (e : Eff m s t) (c : m &&& 0x31402C1 = 0) : Leaves g s t := by
  have bit : ∀ i, (0x31402C1 : Nat).testBit i = true → m.testBit i = false := by
    intro i hi
    have := congrArg (Nat.testBit · i) c
    simpa [hi] using this
  have masked : m &&& 0x3140280 = 0 := by
    have : (0x3140280 : Nat) = 0x31402C1 &&& 0x3140280 := rfl
    rw [this, ← Nat.and_assoc, c, Nat.zero_and]
  have same : ∀ p, t.getUsb p = s.getUsb p := fun p => by
    unfold State.getUsb
    rw [e.usb (bit _ rfl)]
  exact ⟨fun h => h.eff e masked, fun h => h.eff e (bit _ rfl), e.grows, fun p => by rw [same], fun p => by rw [same]; exact id⟩

theorem Leaves.eff {m : Nat} (h : Leaves g s t) (e : Eff m t u) (c : m &&& 0x31402C1 = 0) : Leaves g s u := h.trans (e.leaves c)

end

section
variable {g : PortUsb → PortUsb} (s : State)

theorem State.modUsb_leaves (p : Nat) {f : PortUsb → PortUsb} (hg : ∀ u, g (f u) = g u := by exact fun _ => rfl)
    (hd : ∀ u, u.deferred = none → (f u).deferred = none := by exact fun _ => id) : Leaves g s (s.modUsb p f) := by
  refine ⟨fun h => h.eff (s.modUsb_eff p f) rfl, fun h => h.eff (s.modUsb_eff p f) rfl, List.prefix_refl _, fun q => ?_, fun q => ?_⟩
  · by_cases hq : q = p
    · rw [hq, State.getUsb_modUsb_same, hg]
    · rw [State.getUsb_modUsb_other _ _ _ hq]
  · by_cases hq : q = p
    · rw [hq, State.getUsb_modUsb_same]
      exact hd _
    · rw [State.getUsb_modUsb_other _ _ _ hq]
      exact id

theorem State.usbEvent_leaves (p : Nat) (b : BitVec 12) (hg : ∀ (u : PortUsb) e, g { u with evt := e } = g u := by exact fun _ _ => rfl) :
    Leaves g s (s.usbEvent p b) := s.modUsb_leaves p (fun u => hg u _)

theorem State.setPipes_leaves (n : Nat) {x : Pipe} (hx : x.wireRes = none) : Leaves g s (s.setPipes n x) :=
  ⟨fun h => h.eff (s.setPipes_eff n x) rfl, fun h => h.setPipes n hx, List.prefix_refl _, fun _ => rfl, fun _ => id⟩

theorem State.modPipes_leaves (n : Nat) {f : Pipe → Pipe} (hf : ∀ x, (f x).wireRes = x.wireRes := by exact fun _ => rfl) :
    Leaves g s (s.modPipes n f) :=
  ⟨fun h => h.eff (s.modPipes_eff n f) rfl, fun h => h.modPipes n hf, List.prefix_refl _, fun _ => rfl, fun _ => id⟩

theorem State.modGroup_leaves (n : Nat) {f : Pipe → Pipe} (hf : ∀ x, (f x).wireRes = x.wireRes := by exact fun _ => rfl) :
    Leaves g s (s.modGroup n f) := .foldl (fun s m => s.modPipes_leaves m hf) _ s

end

/-! ### Items that end (05 R155, R159) -/

/-- A port beside the items that its requests complete and the loan it is on. -/
def PortUsb.lasting (u : PortUsb) : PortUsb := { u with actionItem := none, resumeItems := [], deferred := none, loanOwner := 0 }

theorem Pipe.takeOwed_wireRes (x : Pipe) : x.takeOwed.wireRes = x.wireRes := by
  unfold Pipe.takeOwed
  split
  · rfl
  · split
    · split <;> rfl
    · rfl

section
variable {g : PortUsb → PortUsb} (s : State)

theorem State.unqueue_leaves (n k : Nat) : Leaves g s (s.unqueue n k) := by
  have owed : ∀ (s : State) m, Leaves g s (s.takeResync m) := fun s m => .ite (.refl s) (s.modPipes_leaves m Pipe.takeOwed_wireRes)
  exact .ite ((s.modPipes_leaves n).trans (owed ..)) (s.modPipes_leaves n)

theorem State.dropItem_leaves (k : Nat) (i : Item) : Leaves PortUsb.lasting s (s.dropItem k i) := by
  have dropped : Leaves PortUsb.lasting s (s.setItems k Item.reset) :=
    ⟨(s.setItems_loansKept k (i := Item.reset) fun _ => by decide).calm, id, List.prefix_refl _, fun _ => rfl, fun _ => id⟩
  have unqueued : Leaves PortUsb.lasting s (match i.pipe with
      | some n => (s.setItems k Item.reset).unqueue n k
      | none => s.setItems k Item.reset) := by
    split
    · exact dropped.trans (State.unqueue_leaves ..)
    · exact dropped
  unfold State.dropItem
  refine .ite unqueued ((unqueued.trans (State.modUsb_leaves _ _ (hd := ?_))).eff (State.modProt_eff ..) rfl)
  intro u none
  simp only [none, Option.map_none]

theorem State.toLedger_leaves (n t : Nat) (e : LedgerEntry) : Leaves g s (s.toLedger n t e) :=
  ⟨(s.toLedger_loansKept n t e).calm, id, List.prefix_refl _, fun _ => rfl, fun _ => id⟩

theorem State.finishB_leaves (k out det : Nat) (body : Bytes) : Leaves PortUsb.lasting s (s.finishB k out det body) := by
  have calm := (s.finishB_loansKept k out det body).calm
  unfold State.finishB at calm ⊢
  split
  case h_1 => exact .refl s
  case h_2 i hi =>
    have dropped := s.dropItem_leaves k i
    rw [hi] at calm
    dsimp only at calm ⊢
    split
    case isTrue hub =>
      rw [if_pos hub] at calm
      exact ⟨calm, dropped.noResult, dropped.grows, dropped.port, dropped.undeferred⟩
    case isFalse => exact dropped.trans (.ite ((State.modSess_eff ..).leaves rfl) (State.toLedger_leaves ..))

theorem State.finish_leaves (k out det : Nat) : Leaves PortUsb.lasting s (s.finish k out det) := s.finishB_leaves k out det []

theorem State.finishO_leaves (k : Option Nat) (out det : Nat) : Leaves PortUsb.lasting s (s.finishO k out det) := by
  cases k with
  | none => exact .refl s
  | some k => exact s.finish_leaves k out det

/-- A cause that is neither the owner's nor a deadline gives up no split, so it makes no request of the hub. -/
theorem State.causeItem_leaves {out : Nat} (ho : ¬(out = 0x07 ∨ out = 0x06)) (det k : Nat) :
    Leaves PortUsb.lasting s (s.causeItem out det k) := by
  unfold State.causeItem
  split
  · exact .refl s
  · rename_i i _
    have kept : s.giveUpSplit out k i = s := by
      unfold State.giveUpSplit
      split
      · exact if_neg fun h => ho h.1
      · rfl
    dsimp only
    rw [kept]
    refine .ite ⟨?_, id, List.prefix_refl _, fun _ => rfl, fun _ => id⟩ (s.finish_leaves ..)
    exact LoansKept.calm (s.modItems_loansKept k)

theorem State.causeItems_leaves {out : Nat} (ho : ¬(out = 0x07 ∨ out = 0x06)) (det : Nat) (ks : List Nat) :
    Leaves PortUsb.lasting s (s.causeItems out det ks) := .foldl (fun s k => s.causeItem_leaves ho det k) ks s

theorem State.endTree_leaves (p : Nat) {out : Nat} (det : Nat) (ho : ¬(out = 0x07 ∨ out = 0x06) := by decide) :
    Leaves PortUsb.lasting s (s.endTree p out det) := s.causeItems_leaves ho det _

theorem State.endDeferred_leaves (p out det : Nat) : Leaves PortUsb.lasting s (s.endDeferred p out det) := by
  unfold State.endDeferred
  dsimp only
  refine .trans ?_ (.foldl (fun s k => s.finish_leaves ..) _ _)
  exact .trans (.trans (s.modUsb_leaves p (hd := fun _ _ => rfl)) (State.finishO_leaves ..)) (State.finishO_leaves ..)

theorem State.actionDone_leaves (p : Nat) : Leaves PortUsb.lasting s (s.actionDone p) :=
  (s.modUsb_leaves p).trans (State.finishO_leaves ..)

theorem State.supersede_leaves (p : Nat) : Leaves PortUsb.lasting s (s.supersede p) :=
  ((s.modUsb_leaves p).trans (State.actionDone_leaves ..)).trans (.foldl (fun s _ => s.finish_leaves ..) _ _)

/-! ### The pass after a command, in a calm state (05 R147, R149, R151; 07 R210) -/

theorem State.settleWaits_leaves : Leaves PortUsb.lasting s s.settleWaits := by
  have ending : ∀ s : State, Leaves PortUsb.lasting s s.settleEnding := fun s => by
    refine .foldl (fun s e => .ite (.refl s) (.foldl (fun s k => ?_) _ s)) _ s
    split
    · split
      · exact .ite (.refl s) (s.finish_leaves ..)
      · exact .refl s
    · exact .refl s
  have closes : ∀ s : State, Leaves PortUsb.lasting s s.settleCloses := fun s =>
    .foldl (fun s _ => .ite (.refl s) (s.finish_leaves ..)) _ s
  have stopped : ∀ (s : State) (t : Nat), Leaves PortUsb.lasting s (s.modTenants t (fun x => { x with stopWait := none })) := fun s t =>
    ⟨(s.modTenants_loansKept t (hs := fun _ => .inr rfl)).calm, id, List.prefix_refl _, fun _ => rfl, fun _ => id⟩
  have stops : ∀ s : State, Leaves PortUsb.lasting s s.settleStops := fun s => by
    refine .foldl (fun s e => ?_) _ s
    split
    · exact .ite (.ite ((s.finish_leaves ..).trans (stopped ..)) (.refl s)) (stopped ..)
    · exact .refl s
  exact ((ending s).trans (closes _)).trans (stops _)

theorem State.freeRecalled_leaves : Leaves PortUsb.lasting s s.freeRecalled :=
  .foldl (fun s _ => .ite (.refl s) (.foldl (fun s p => s.modUsb_leaves p) _ s)) _ s

end

/-- The pass in a calm state: items that waited end, ports of a recalled set are freed and PLLs start. -/
theorem State.settle_of_calm {s : State} (h : Calm s) :
    s.settle = (s.settleWaits.settleWaits.settleWaits).freeRecalled.pllPass := by
  have ended : ∀ {s : State}, Calm s → Calm s.settleWaits := (State.settleWaits_leaves _).calm
  have rounds : times State.settleOnce 3 s = s.settleWaits.settleWaits.settleWaits := by
    simp only [times, State.settleOnce_calm h, State.settleOnce_calm (ended h), State.settleOnce_calm (ended (ended h))]
  have freed := ((ended (ended (ended h))).eff (State.freeRecalled_eff _) rfl).eff (State.pllPass_eff _) rfl
  unfold State.settle
  rw [State.resumedPass_calm h, rounds, State.escOwed_calm (ended (ended (ended h))), State.guardPass_calm freed]

theorem State.settle_leaves {s : State} (h : Calm s) : Leaves PortUsb.lasting s s.settle := by
  rw [State.settle_of_calm h]
  exact ((((s.settleWaits_leaves.trans (State.settleWaits_leaves _)).trans (State.settleWaits_leaves _)).trans
    (State.freeRecalled_leaves _)).eff (State.pllPass_eff _) rfl)

/-- The register space is as the command left it. -/
theorem State.settle_regs_calm {s : State} (h : Calm s) : s.settle.regs = s.regs := by
  rw [State.settle_of_calm h, (State.pllPass_eff _).regs rfl, (State.freeRecalled_eff _).regs rfl, (State.settleWaits_eff _).regs rfl,
    (State.settleWaits_eff _).regs rfl, (State.settleWaits_eff _).regs rfl]

end Sys2Proof.Machine
end

section
/-!
PROOFS. What the service of a port leaves of the ports while no result of a split waits, and that a request of the Registrar stays among
those of its port until it goes out or what waited for it ends (07 R201, R222, R230).
-/
set_option Elab.async false
namespace Sys2Proof.Machine

/-! ### The scheduler, while no result of a split waits (07 R222; 08 R238) -/

/-- A port beside its links' power state, its bus time and the turns and transactions of its scheduler. -/
def PortUsb.unissued (u : PortUsb) : PortUsb :=
  { u with linkpm := 0, busLeft := 0, rrCtl := 0, rrNext := 0, slots := 0, inFlight := [] }

/-- A port beside what its service changes: the requests of the Registrar with what each transaction changes. -/
def PortUsb.unserved (u : PortUsb) : PortUsb := { u.lasting.unissued with requests := [] }

section
variable {s : State}

theorem State.useBus_leaves (s : State) (n st b : Nat) : Leaves PortUsb.unissued s (s.useBus n st b) := by
  have slot : ∀ (s : State) p periodic, Leaves PortUsb.unissued s (s.takeSlot p periodic) := fun s p periodic =>
    .ite (s.modUsb_leaves p) ((State.modGals_eff ..).leaves rfl)
  exact ((s.modUsb_leaves _).trans (.ite (slot ..) (.refl _))).eff (State.emit_eff ..) rfl

theorem State.startXact_leaves (s : State) (n st b : Nat) : Leaves PortUsb.unissued s (s.startXact n st b) := by
  have flies : ∀ (s : State) (p : Nat), Leaves PortUsb.unissued s (s.modUsb p (fun u => { u with inFlight := u.inFlight ++ [n] })) :=
    fun s p => s.modUsb_leaves p
  unfold State.startXact
  dsimp only
  refine .trans ?_ (.ite ((State.npTake_eff ..).leaves rfl) (.refl _))
  refine .trans ?_ (.ite (flies ..) (.refl _))
  refine .trans ?_ (.ite (State.modPipes_leaves ..) (.refl _))
  exact (s.useBus_leaves ..).trans (State.modPipes_leaves ..)

/-- A transaction that is issued, beside a request of the Registrar, leaves the requests. -/
theorem State.issue_leaves (h : NoResult s) (p n b : Nat) {st : Nat} (hs : st ≠ 7) : Leaves PortUsb.unissued s (s.issue p n st b) := by
  unfold State.issue
  rw [if_neg hs]
  refine .ite ((s.useBus_leaves ..).trans (State.modPipes_leaves ..)) (.ite ?_ (s.startXact_leaves ..))
  rw [h.wireRes n]
  exact (s.useBus_leaves ..).trans (State.modPipes_leaves ..)

theorem State.sendAsk_leaves (s : State) (p : Nat) : Leaves PortUsb.unserved s (s.sendAsk p) := by
  unfold State.sendAsk
  dsimp only
  split
  · exact .refl s
  · refine Leaves.eff (.trans (.trans (.ite ((State.npTake_eff ..).leaves rfl) (.refl s)) (State.setPipes_leaves _ _ ?_))
      (State.modUsb_leaves ..)) (State.emit_eff ..) rfl
    split <;> rfl

/-- What npWait and the issue of each transaction keep, the service of a port keeps. -/
theorem State.serve_keeps {P : State → Prop} (wait : ∀ t p n, P t → P (t.npWait p n))
    (issue : ∀ t p n st b, NoResult t → P t → P (t.issue p n st b)) (h : NoResult s) (hp : P s) (p : Nat) : P (s.serve p) := by
  have run : ∀ f p t, NoResult t → P t → P (State.schedule t p f) := by
    intro f
    induction f with
    | zero => exact fun _ _ _ hp => hp
    | succ f ih =>
      intro p t h hp
      rw [State.schedule]
      split
      · exact hp
      dsimp only
      split
      · refine List.foldlRecOn (motive := P) _ _ hp fun t hp r _ => ?_
        split
        · exact wait _ _ _ hp
        · exact hp
      · exact ih _ _ (State.issue_started h ..).noResult (issue _ _ _ _ _ h hp)
  have own := run (s.runs p) p s h hp
  unfold State.serve
  dsimp only
  split
  · exact own
  · refine (List.foldlRecOn (motive := fun t => NoResult t ∧ P t) _ _ ⟨(State.schedule_started p _ h).noResult, own⟩
      fun t ht q _ => ?_).2
    exact ⟨(State.schedule_started q _ ht.1).noResult, run _ _ _ ht.1 ht.2⟩

theorem State.serve_leaves (h : NoResult s) (p : Nat) : Leaves PortUsb.unserved s (s.serve p) := by
  refine State.serve_keeps (P := Leaves PortUsb.unserved s) (fun _ _ _ k => k.eff (State.npWait_eff ..) rfl) ?_ h (.refl s) p
  intro t q n st b h k
  by_cases hs : st = 7
  · subst hs
    exact k.trans (t.sendAsk_leaves q)
  · exact k.trans (State.issue_leaves h q n b hs).coarser

end

/-! ### A request of the Registrar (07 R201, R230) -/

/-- The Registrar has asked for a request on a port: it is among those of the port, or went out where nothing waits for it. -/
def State.Asked (s : State) (p a : Nat) (setup : Bytes) (kind : Nat) : Prop :=
  (a, setup, kind) ∈ (s.getUsb p).requests ∨ (kind = 0 ∧ Sent.usb p a setup ∈ s.sent)

section
variable {s t : State} {p a kind : Nat} {setup : Bytes}

/-- A request that something waits for is still among those of its port. -/
theorem State.Asked.mem (h : s.Asked p a setup kind) (hk : kind ≠ 0) : (a, setup, kind) ∈ (s.getUsb p).requests :=
  h.resolve_right fun k => hk k.1

theorem State.Asked.of_requests (h : s.Asked p a setup kind) (hr : (a, setup, kind) ∈ (s.getUsb p).requests →
    (a, setup, kind) ∈ (t.getUsb p).requests) (hs : s.sent <+: t.sent) : t.Asked p a setup kind :=
  h.imp hr fun k => ⟨k.1, hs.subset k.2⟩

theorem State.Asked.leaves {g : PortUsb → PortUsb} (h : s.Asked p a setup kind) (k : Leaves g s t)
    (hg : ∀ u, (g u).requests = u.requests := by exact fun _ => rfl) : t.Asked p a setup kind :=
  h.of_requests (by rw [k.reads PortUsb.requests p hg]; exact id) k.grows

theorem State.ask_asked (s : State) (p a kind : Nat) (setup : Bytes) : (s.ask p a kind setup).Asked p a setup kind := by
  refine .inl ?_
  unfold State.ask
  rw [State.getUsb_modUsb_same]
  exact List.mem_append_right _ (List.mem_singleton.mpr rfl)

theorem State.Asked.ask (h : s.Asked p a setup kind) (q b k : Nat) (x : Bytes) : (s.ask q b k x).Asked p a setup kind := by
  refine h.of_requests (fun hm => ?_) (List.prefix_refl _)
  unfold State.ask
  by_cases hq : p = q
  · subst hq
    rw [State.getUsb_modUsb_same]
    exact List.mem_append_left _ hm
  · rwa [State.getUsb_modUsb_other _ _ _ hq]

/-- The request at the front goes out, and leaves those of the port where nothing waits for its end. -/
theorem State.sendAsk_front {q b k : Nat} {x : Bytes} {rest : List (Nat × Bytes × Nat)} (front : (s.getUsb q).requests = (b, x, k) :: rest) :
    (s.sendAsk q).usb = (s.modUsb q (fun u => { u with
      linkpm := 0, rrCtl := regCtx q, requests := if k = 0 then rest else u.requests })).usb ∧ Sent.usb q b x ∈ (s.sendAsk q).sent := by
  unfold State.sendAsk
  dsimp only
  rw [front]
  dsimp only
  refine ⟨?_, by simp⟩
  split <;> rfl

theorem State.Asked.sendAsk (h : s.Asked p a setup kind) (q : Nat) : (s.sendAsk q).Asked p a setup kind := by
  cases front : (s.getUsb q).requests with
  | nil =>
    have idle : s.sendAsk q = s := by
      unfold State.sendAsk
      dsimp only
      rw [front]
    rwa [idle]
  | cons e rest =>
    obtain ⟨b, x, k⟩ := e
    obtain ⟨usb, went⟩ := s.sendAsk_front front
    refine h.elim (fun hm => ?_) fun k => .inr ⟨k.1, (s.sendAsk_eff q).grows.subset k.2⟩
    unfold State.Asked State.getUsb
    rw [usb]
    change (_ ∈ ((s.modUsb q _).getUsb p).requests) ∨ _
    by_cases hq : p = q
    · subst hq
      rw [State.getUsb_modUsb_same]
      by_cases hk : k = 0
      · rw [front, List.mem_cons] at hm
        rcases hm with same | later
        · cases same
          exact .inr ⟨hk, went⟩
        · exact .inl (by rwa [if_pos hk])
      · exact .inl (by rwa [if_neg hk])
    · exact .inl (by rwa [State.getUsb_modUsb_other _ _ _ hq])

theorem State.Asked.serve (h : s.Asked p a setup kind) (n : NoResult s) (q : Nat) : (s.serve q).Asked p a setup kind := by
  refine State.serve_keeps (P := fun t => t.Asked p a setup kind) (fun _ _ _ k => k.leaves (g := id) ((State.npWait_eff ..).leaves rfl))
    ?_ n h q
  intro t r m st b n k
  by_cases hs : st = 7
  · subst hs
    exact k.sendAsk r
  · exact k.leaves (State.issue_leaves n r m b hs)

/-- The end of a request takes at most one request, of its kind, from those of the port. -/
theorem State.askDone_usb (s : State) (q k : Nat) : (s.askDone q k).usb = s.usb ∨ ∃ e : Nat × Bytes × Nat, e.2.2 = k ∧
    (s.askDone q k).usb = (s.modUsb q (fun u => { u with requests := (s.getUsb q).requests.erase e })).usb := by
  unfold State.askDone
  dsimp only
  split
  · exact .inl rfl
  · rename_i e found
    refine .inr ⟨e, by simpa using List.find?_some found, ?_⟩
    split <;> split <;> rfl

/-- The end of a request that something else waits for. -/
theorem State.Asked.askDone (h : s.Asked p a setup kind) {k : Nat} (hk : kind ≠ k) (q : Nat) : (s.askDone q k).Asked p a setup kind := by
  refine h.of_requests (fun hm => ?_) (s.askDone_eff q k).grows
  unfold State.getUsb at hm ⊢
  rcases s.askDone_usb q k with same | ⟨e, he, erased⟩
  · rwa [same]
  · rw [erased]
    change _ ∈ ((s.modUsb q _).getUsb p).requests
    by_cases hq : p = q
    · subst hq
      rw [State.getUsb_modUsb_same]
      exact (List.mem_erase_of_ne fun same => hk (by rw [← he, ← same])).mpr hm
    · rwa [State.getUsb_modUsb_other _ _ _ hq]

end

end Sys2Proof.Machine
end

section
/-!
PROOFS. A port that changes its state, and what the departure of devices and of a restore leaves of a port (06 R165, R181, R182, R188,
R189; 07 R201, R209, R211).
-/
set_option Elab.async false
namespace Sys2Proof.Machine

/-! ### Requests dropped (07 R201) -/

/-- A port beside the requests of the Registrar. -/
def PortUsb.requestless (u : PortUsb) : PortUsb := { u with requests := [] }

/-- A port beside the requests of the Registrar and the enumerations in hand. -/
def PortUsb.unasked (u : PortUsb) : PortUsb := { u with requests := [], enums := [] }

section
variable (s : State) (p : Nat)

theorem State.dropAsks_leaves : Leaves PortUsb.unasked s (s.dropAsks p) :=
  .ite (.refl s) ((((State.npGive_eff ..).leaves rfl).trans (State.modUsb_leaves ..)).trans (State.setPipes_leaves _ _ rfl))

/-- The requests of the port are cut to a list, with the control context idle where the one in progress is over. -/
theorem State.asksCut_leaves (c : Prop) [Decidable c] (l : List (Nat × Bytes × Nat)) : Leaves PortUsb.requestless s
    ((if c then (s.npGive p (regCtx p)).modPipes (regCtx p) (fun x => { x with inXact := false }) else s).modUsb p
      (fun u => { u with requests := l })) :=
  (Leaves.ite (((State.npGive_eff ..).leaves rfl).trans (State.modPipes_leaves ..)) (.refl s)).trans (State.modUsb_leaves ..)

theorem State.askDone_leaves (k : Nat) : Leaves PortUsb.requestless s (s.askDone p k) := by
  unfold State.askDone
  dsimp only
  split
  · exact .refl s
  · exact .ite ((s.asksCut_leaves ..).trans (State.setPipes_leaves _ _ rfl)) (s.asksCut_leaves ..)

theorem State.askGone_leaves (a : Nat) : Leaves PortUsb.requestless s (s.askGone p a) :=
  .ite (.refl s) (.ite ((s.asksCut_leaves ..).trans (State.setPipes_leaves _ _ rfl)) (s.asksCut_leaves ..))

/-! ### Devices that leave (06 R181; 07 R209, R211) -/

/-- A port beside its tree: what the departure of devices leaves. -/
def PortUsb.rooted (u : PortUsb) : PortUsb := { u.unserved with devices := [], heldAddrs := [], enums := [], evt := 0 }

theorem State.closeAll_leaves {out : Nat} (ho : ¬(out = 0x07 ∨ out = 0x06)) (det : Nat) (ns : List Nat) :
    Leaves PortUsb.lasting s (s.closeAll out det ns) :=
  .foldl (fun s n => .ite ((s.modGroup_leaves n).trans (State.causeItems_leaves _ ho ..)) (.refl s)) ns s

theorem State.deviceGone_leaves {out : Nat} (ho : ¬(out = 0x07 ∨ out = 0x06)) (det a : Nat) :
    Leaves PortUsb.rooted s (s.deviceGone p out det a) := by
  unfold State.deviceGone
  dsimp only
  refine .trans (.trans ?_ (State.askGone_leaves ..).coarser) (State.modUsb_leaves ..)
  exact .trans ((State.portEvent_eff ..).leaves rfl) (State.closeAll_leaves _ ho ..).coarser

theorem State.belowGone_leaves {out : Nat} (ho : ¬(out = 0x07 ∨ out = 0x06)) (det a : Nat) :
    Leaves PortUsb.rooted s (s.belowGone p out det a) := .foldl (fun s b => s.deviceGone_leaves p ho det b) _ s

theorem State.treeGone_leaves {out : Nat} (det : Nat) (ho : ¬(out = 0x07 ∨ out = 0x06) := by decide) :
    Leaves PortUsb.rooted s (s.treeGone p out det) := by
  unfold State.treeGone
  exact .trans (.trans (.foldl (fun s a => s.deviceGone_leaves p ho det a) _ s) (State.dropAsks_leaves ..).coarser) (State.modUsb_leaves ..)

theorem State.treeGone_devices (out det : Nat) : ((s.treeGone p out det).getUsb p).devices = [] := by
  unfold State.treeGone
  rw [State.getUsb_modUsb_same]

/-! ### Restores that end (06 R182, R189) -/

/-- A port whose restore has failed, while its items and devices have not yet gone. -/
def PortUsb.unrestored (u : PortUsb) : PortUsb :=
  { u with restore := none, hold := false, restoreDevs := [], restoresFailed := satAdd u.restoresFailed 1, fallback := false }

/-- A restore that fails: items end and devices leave once the failure is counted. -/
theorem State.restoreFail_leaves {r : Restore} (h : (s.getUsb p).restore = some r) :
    Leaves PortUsb.rooted (s.modUsb p PortUsb.unrestored) (s.restoreFail p) := by
  have ends : ∀ t : State, Leaves PortUsb.rooted t (((t.endTree p 0x0A 0).treeGone p 0x0A 0).usbEvent p 0x100) := fun t =>
    ((t.endTree_leaves p 0).coarser.trans (State.treeGone_leaves ..)).trans (State.usbEvent_leaves ..)
  have failed : ∀ t : State, Leaves PortUsb.rooted t (((t.endTree p 0x04 0x21).treeGone p 0x04 0x21).usbEvent p 0x100) := fun t =>
    ((t.endTree_leaves p 0x21).coarser.trans (State.treeGone_leaves ..)).trans (State.usbEvent_leaves ..)
  obtain ⟨trip, step⟩ := r
  unfold State.restoreFail
  rw [h]
  cases trip
  · exact failed _
  · exact ends _

theorem State.dropRestore_leaves : Leaves (fun u => { u with restore := none, hold := false, restoreDevs := [] }) s (s.dropRestore p) :=
  .ite (.refl s) (s.modUsb_leaves p)

/-! ### States of a port (06 R165, R182; 09 R260) -/

/-- A port beside what a change of its state may change. -/
def PortUsb.stateless (u : PortUsb) : PortUsb := { u.unasked with state := .unpowered, linkpm := 0, speed := .none, evt := 0 }

theorem State.timebase_leaves {g : PortUsb → PortUsb} (st : PortState) :
    Leaves g s (if st = .resetting ∨ st = .enabled ∨ st = .suspended then s.startTimebase p else s.stopTimebase p) :=
  .ite ((State.startTimebase_eff ..).leaves rfl) ((State.stopTimebase_eff ..).leaves rfl)

theorem State.toState_leaves (st : PortState) : Leaves PortUsb.stateless s (s.toState p st) := by
  have set : Leaves PortUsb.stateless s (s.modUsb p (fun u => { u with
      state := st, linkpm := if st = .suspended then u.linkpm else 0,
      speed := if st = .enabled ∨ st = .suspended ∨ st = .resetting ∨ st = .disabled then u.speed else .none })) := s.modUsb_leaves p
  unfold State.toState
  refine .ite (.refl s) (.trans (.trans ?_ (.ite (.refl _) (State.dropAsks_leaves ..).coarser)) (State.timebase_leaves ..))
  exact (set.trans (State.usbEvent_leaves ..)).eff (State.portEvent_eff ..) rfl

theorem State.toState_state (st : PortState) : ((s.toState p st).getUsb p).state = st := by
  unfold State.toState
  dsimp only
  split
  · assumption
  · rw [(State.timebase_leaves (g := id) ..).reads PortUsb.state p]
    have dropped : ∀ t : State, Leaves PortUsb.unasked t (if st = .enabled ∨ st = .suspended then t else t.dropAsks p) := fun t =>
      .ite (.refl t) (State.dropAsks_leaves ..)
    rw [(dropped _).reads PortUsb.state p, ((State.portEvent_eff ..).leaves (g := id) rfl).reads PortUsb.state p,
      (State.usbEvent_leaves (g := fun u => { u with evt := 0 }) ..).reads PortUsb.state p, State.getUsb_modUsb_same]

end

end Sys2Proof.Machine
end

section
/-!
PROOFS. VBUS, connections, resets and disconnections of a port (06 R167 to R175, R181, R182).
-/
set_option Elab.async false
namespace Sys2Proof.Machine

/-! ### A port without its tree, and one that enters a state (06 R181, R182, R183) -/

theorem Calm.modUsb {s : State} (h : Calm s) (p : Nat) (f : PortUsb → PortUsb) : Calm (s.modUsb p f) := h.eff (s.modUsb_eff p f) rfl

theorem PortUsb.fresh_state (u : PortUsb) : u.fresh.state = u.state := rfl

theorem PortUsb.fresh_devices (u : PortUsb) : u.fresh.devices = u.devices := rfl

theorem PortUsb.fresh_connKind (u : PortUsb) : u.fresh.connKind = .none := rfl

/-- A port whose items have ended with a code, whose devices are gone and whose link starts afresh. -/
def State.emptied (s : State) (p out : Nat) : State :=
  (((s.endTree p out 0).dropRestore p).treeGone p out 0).modUsb p PortUsb.fresh

/-- A port that enters a state in which no request of its owner waits. -/
def State.enters (s : State) (p : Nat) (st : PortState) (out det : Nat) : State := (s.toState p st).endDeferred p out det

section
variable {s : State} {p out : Nat}

theorem Calm.emptied (h : Calm s) (p : Nat) (ho : ¬(out = 0x07 ∨ out = 0x06) := by decide) : Calm (s.emptied p out) :=
  ((State.treeGone_leaves _ p 0 ho).calm ((State.dropRestore_leaves _ p).calm ((s.endTree_leaves p 0 ho).calm h))).modUsb ..

theorem State.emptied_state (s : State) (p : Nat) (ho : ¬(out = 0x07 ∨ out = 0x06) := by decide) :
    ((s.emptied p out).getUsb p).state = (s.getUsb p).state := by
  unfold State.emptied
  rw [State.getUsb_modUsb_same, PortUsb.fresh_state, (State.treeGone_leaves _ p 0 ho).reads PortUsb.state p,
    (State.dropRestore_leaves _ p).reads PortUsb.state p, (s.endTree_leaves p 0 ho).reads PortUsb.state p]

theorem State.emptied_fresh (s : State) (p out : Nat) :
    ((s.emptied p out).getUsb p).devices = [] ∧ ((s.emptied p out).getUsb p).connKind = .none := by
  unfold State.emptied
  rw [State.getUsb_modUsb_same, PortUsb.fresh_devices, State.treeGone_devices, PortUsb.fresh_connKind]
  exact ⟨rfl, rfl⟩

theorem Calm.toState (h : Calm s) (p : Nat) (st : PortState) : Calm (s.toState p st) := (s.toState_leaves p st).calm h

theorem Calm.enters (h : Calm s) (p : Nat) (st : PortState) (out det : Nat) : Calm (s.enters p st out det) :=
  (State.endDeferred_leaves ..).calm (h.toState p st)

/-- A port that has entered a state is in it, and is else as it was beside its link and the Registrar's work. -/
theorem State.enters_port (s : State) (p : Nat) (st : PortState) (out det : Nat) :
    ((s.enters p st out det).getUsb p).state = st ∧ ((s.enters p st out det).getUsb p).devices = (s.getUsb p).devices ∧
      ((s.enters p st out det).getUsb p).connKind = (s.getUsb p).connKind := by
  have ended : Leaves PortUsb.lasting (s.toState p st) (s.enters p st out det) := State.endDeferred_leaves ..
  have entered := s.toState_leaves p st
  exact ⟨(ended.reads PortUsb.state p).trans (s.toState_state p st), (ended.reads PortUsb.devices p).trans (entered.reads PortUsb.devices p),
    (ended.reads PortUsb.connKind p).trans (entered.reads PortUsb.connKind p)⟩

/-! ### The searches for a connection (06 R167; 13 R346, R350) -/

theorem State.search_sent (s : State) (p : Nat) :
    (if s.cfg 0x4016 p = 2 then Sent.bus p 11 0 else Sent.bus p 10 (s.getPwr p).pairs) ∈ (s.search p).sent := by
  unfold State.search
  split <;> simp

theorem State.portOff_off (h : (s.getUsb p).state ≠ .quarantined) : s.portOff p = (s.emptied p 0x0A).enters p .unpowered 0x0A 0 := by
  rw [← s.emptied_state (out := 0x0A) p] at h
  unfold State.portOff
  dsimp only
  exact if_neg h

theorem State.portGone_powered (h : (s.getUsb p).state = .powered) :
    s.portGone p = s.modUsb p (fun u => { u with connKind := .none, pullUp := .none, ssDisabled := false, cap := 7 }) := by
  unfold State.portGone
  dsimp only
  rw [h]

/-- A disconnection of a connected port, with what it leaves before the port is *Powered*. -/
theorem State.portGone_connected (h : (s.getUsb p).state = .attaching ∨ (s.getUsb p).state = .resetting ∨ (s.getUsb p).state = .enabled ∨
    (s.getUsb p).state = .suspended ∨ (s.getUsb p).state = .disabled) (calm : Calm s) :
    ∃ u, Calm u ∧ (u.getUsb p).connKind = .none ∧ s.portGone p = u.enters p .powered 0x09 0 := by
  have told : Calm (s.usbEvent p 4) := calm.modUsb ..
  unfold State.portGone
  dsimp only
  rcases h with h | h | h | h | h <;> rw [h] <;> dsimp only
  · exact ⟨_, told.modUsb .., by rw [State.getUsb_modUsb_same], rfl⟩
  all_goals exact ⟨_, told.emptied p, ((s.usbEvent p 4).emptied_fresh p 9).2, rfl⟩

end

/-! ### Resets that end (06 R174, R175, R182) -/

theorem State.applyDeferred_none {s : State} {p : Nat} (h : (s.getUsb p).deferred = none) : s.applyDeferred p = s := by
  unfold State.applyDeferred
  rw [h]

/-- A port on its way to *Enabled* at a mode, before the action in progress completes. -/
def State.enabling (s : State) (p : Nat) (sp : Speed) : State :=
  ((s.modUsb p (fun u => { u with resetKind := .none, resetTries := 0, speed := sp, timebaseFrom := true, linkpm := 0 })).toState p
    .enabled).modUsb p (fun u => { u with speed := sp })

theorem State.enabling_port (s : State) (p : Nat) (sp : Speed) :
    ((s.enabling p sp).getUsb p).state = .enabled ∧ ((s.enabling p sp).getUsb p).speed = sp := by
  unfold State.enabling
  rw [State.getUsb_modUsb_same]
  exact ⟨State.toState_state .., rfl⟩

theorem State.enterEnabled_undeferred {s : State} {p : Nat} {sp : Speed} (h : (s.getUsb p).deferred = none) :
    s.enterEnabled p sp = (s.enabling p sp).actionDone p := by
  have trained : ((s.modUsb p (fun u => { u with
      resetKind := .none, resetTries := 0, speed := sp, timebaseFrom := true, linkpm := 0 })).getUsb p).deferred = none := by
    rwa [State.getUsb_modUsb_same]
  have waits : ((s.enabling p sp).getUsb p).deferred = none := by
    unfold State.enabling
    rw [State.getUsb_modUsb_same]
    exact (State.toState_leaves ..).undeferred p trained
  have none : (((s.enabling p sp).actionDone p).getUsb p).deferred = none := (State.actionDone_leaves ..).undeferred p waits
  change (if (((s.enabling p sp).actionDone p).getUsb p).restore = .none then ((s.enabling p sp).actionDone p).applyDeferred p
    else (s.enabling p sp).actionDone p) = _
  rw [State.applyDeferred_none none, ite_self]

end Sys2Proof.Machine

namespace Sys2Proof
open Machine

/-- What holds after a command on a unit whose own effect leaves a calm state: whatever the pass that follows may not change. -/
theorem gives_settled {c : Instr} {s w u : State} {ok : Bool} {k : String} {n : Nat} {P : State → Prop}
    (hc : exec c s = onUnit ok k n w.settle) (hk : ok = true) (own : w = u) (calm : Calm u)
    (h : ∀ t, Leaves PortUsb.lasting u t → P t) : Gives c s P :=
  gives_onUnit hc hk (own ▸ h _ (State.settle_leaves calm))

section
variable {s : State} {p : Nat} (hp : portOk p = true) (q : Quiet s)
include hp q

theorem vbusGood_powers (h : (s.getUsb p).state = .unpowered) : Gives (.vbusGood p) s (fun t => (t.getUsb p).state = .powered ∧
    (if s.cfg 0x4016 p = 2 then Sent.bus p 11 0 else Sent.bus p 10 (s.getPwr p).pairs) ∈ t.sent) := by
  have good : s.portGood p = (s.toState p .powered).search p := by
    unfold State.portGood
    rw [h]
  have went := (s.toState p .powered).search_sent p
  rw [(s.toState_eff ..).cfg rfl, show (s.toState p .powered).getPwr p = s.getPwr p from
    congrArg (SMap.get PortPwr.reset · p) ((s.toState_eff ..).pwr rfl)] at went
  have applied : Leaves PortUsb.lasting ((s.toState p .powered).search p) ((s.portGood p).vconnApply p) := by
    rw [good]
    exact (State.vconnApply_eff ..).leaves rfl
  have searched : Leaves PortUsb.lasting (s.toState p .powered) ((s.toState p .powered).search p) := (State.search_eff ..).leaves rfl
  refine gives_settled rfl hp rfl ((searched.trans applied).calm ((Calm.of_quiet q).toState ..)) fun t kept => ?_
  refine ⟨?_, (applied.trans kept).sent went⟩
  rw [((searched.trans applied).trans kept).reads PortUsb.state p, State.toState_state]

theorem portVbusOff_unpowers (h : (s.getUsb p).state ≠ .quarantined) : Gives (.portVbusOff p) s (fun t =>
    (t.getUsb p).state = .unpowered ∧ (t.getUsb p).devices = []) := by
  obtain ⟨state, devices, -⟩ := (s.emptied p 0x0A).enters_port p .unpowered 0x0A 0
  have off := State.portOff_off h
  refine gives_settled rfl hp off (((Calm.of_quiet q).emptied p).enters ..)
    fun t kept => ?_
  rw [kept.reads PortUsb.state p, kept.reads PortUsb.devices p]
  exact ⟨state, devices.trans (s.emptied_fresh p 0x0A).1⟩

theorem connect_attaches {k : ConnKind} (h : (s.getUsb p).state = .powered) (dcp : s.cfg 0x4016 p ≠ 2) (hk : k ≠ .none)
    (hs : (s.getUsb p).ssDisabled = false) : Gives (.connect p k) s (fun t => (t.getUsb p).state = .attaching ∧ (t.getUsb p).connKind = k) := by
  obtain ⟨v, seen, calm⟩ : ∃ v, s.portConnect p k = (v.modUsb p (fun u => { u with connKind := k })).toState p .attaching ∧ Calm v := by
    unfold State.portConnect
    dsimp only
    rw [if_neg dcp, if_neg (by simp [hk, hs]), if_pos h]
    refine ⟨_, rfl, ?_⟩
    split
    · exact (Calm.of_quiet q).modUsb ..
    · exact .of_quiet q
  refine gives_settled rfl hp seen ((calm.modUsb ..).toState ..)
    fun t kept => ?_
  rw [kept.reads PortUsb.state p, kept.reads PortUsb.connKind p, State.toState_state, (State.toState_leaves ..).reads PortUsb.connKind p,
    State.getUsb_modUsb_same]
  exact ⟨rfl, rfl⟩

theorem connectionConfirmed_resets (h : (s.getUsb p).state = .attaching) : Gives (.connectionConfirmed p) s (fun t =>
    (t.getUsb p).state = .resetting ∧ Sent.bus p (if (s.getUsb p).connKind = .rxTerm then 6 else 3) (s.getUsb p).cap ∈ t.sent) := by
  let v := (s.usbEvent p 2).modUsb p (fun u => { u with resetTries := 0 })
  let kind : ResetKind := if (s.getUsb p).connKind = .rxTerm then .polling else .usb2
  have confirmed : s.portConfirmed p = (v.drive_ p kind).toState p .resetting := if_pos h
  have code : resetCode kind = if (s.getUsb p).connKind = .rxTerm then 6 else 3 := by
    unfold kind
    split <;> rfl
  have cap : (v.getUsb p).cap = (s.getUsb p).cap := by
    unfold v State.usbEvent
    rw [State.getUsb_modUsb_same, State.getUsb_modUsb_same]
  have driven : Calm (v.drive_ p kind) := ((((Calm.of_quiet q).modUsb ..).modUsb ..).modUsb ..).eff (State.emit_eff ..) rfl
  refine gives_settled rfl hp confirmed (driven.toState ..) fun t kept => ?_
  refine ⟨by rw [kept.reads PortUsb.state p, State.toState_state], kept.sent ((State.toState_leaves ..).sent ?_)⟩
  rw [← code, ← cap]
  unfold State.drive_
  simp

theorem portDisconnect_powered (run : s.dps.state = .run) (h1 : (s.getUsb p).state ≠ .unpowered) (h2 : (s.getUsb p).state ≠ .tripped)
    (h3 : (s.getUsb p).state ≠ .quarantined) : Gives (.portDisconnect p) s (fun t =>
      (t.getUsb p).state = .powered ∧ (t.getUsb p).connKind = .none) := by
  have gone : s.disconnected p = s.portGone p := if_pos run
  have calm : Calm s := .of_quiet q
  suffices h : Calm (s.portGone p) ∧ ((s.portGone p).getUsb p).state = .powered ∧ ((s.portGone p).getUsb p).connKind = .none by
    obtain ⟨calm, state, kind⟩ := h
    refine gives_settled rfl hp gone calm fun t kept => ?_
    rw [kept.reads PortUsb.state p, kept.reads PortUsb.connKind p]
    exact ⟨state, kind⟩
  by_cases h : (s.getUsb p).state = .powered
  · rw [State.portGone_powered h, State.getUsb_modUsb_same]
    exact ⟨calm.modUsb .., h, rfl⟩
  · obtain ⟨u, calm, kind, left⟩ := State.portGone_connected (s := s) (p := p)
      (by cases e : (s.getUsb p).state <;> simp_all) calm
    obtain ⟨state, -, same⟩ := u.enters_port p .powered 0x09 0
    rw [left]
    exact ⟨calm.enters .., state, same.trans kind⟩

theorem pollingTimeout_disables (h : (s.getUsb p).state = .resetting) (polls : (s.getUsb p).resetKind = .polling)
    (alone : (s.getUsb p).pullUp = .none) : Gives (.pollingTimeout p) s (fun t =>
      (t.getUsb p).state = .powered ∧ (t.getUsb p).ssDisabled = true) := by
  let v := s.modUsb p (fun u => { u with ssDisabled := true, resetKind := .none, connKind := .none })
  have late : s.pollTimeout p = v.toState p .powered := by
    unfold State.pollTimeout
    dsimp only
    rw [if_neg (by simp [h]), if_pos ⟨h, polls⟩, if_pos alone]
  refine gives_settled rfl hp late (((Calm.of_quiet q).modUsb ..).toState ..) fun t kept => ?_
  rw [kept.reads PortUsb.state p, kept.reads PortUsb.ssDisabled p, State.toState_state, (State.toState_leaves ..).reads PortUsb.ssDisabled p,
    State.getUsb_modUsb_same]
  exact ⟨rfl, rfl⟩

section
variable {sp : Speed} (h : (s.getUsb p).state = .resetting) (driven : (s.getUsb p).resetKind ≠ .none)
include h driven

theorem portResetEnd_enables (trained : s.trainedMode p sp ≠ .none) (undeferred : (s.getUsb p).deferred = none) :
    Gives (.portResetEnd p sp) s (fun t => (t.getUsb p).state = .enabled ∧ (t.getUsb p).speed = s.trainedMode p sp) := by
  let m := s.trainedMode p sp
  have ended : s.resetEnd p sp = (s.enabling p m).actionDone p := by
    unfold State.resetEnd
    dsimp only
    rw [if_neg driven, if_pos trained, if_pos h, State.enterEnabled_undeferred undeferred]
  have done := (s.enabling p m).actionDone_leaves p
  have calm : Calm (s.enabling p m) := (((Calm.of_quiet q).modUsb ..).toState ..).modUsb ..
  refine gives_settled rfl hp ended (done.calm calm) fun t kept => ?_
  rw [(done.trans kept).reads PortUsb.state p, (done.trans kept).reads PortUsb.speed p]
  exact s.enabling_port p m

theorem portResetEnd_again (untrained : s.trainedMode p sp = .none) (tries : (s.getUsb p).resetTries < 2) :
    Gives (.portResetEnd p sp) s (fun t => (t.getUsb p).state = .resetting ∧ (t.getUsb p).resetTries = (s.getUsb p).resetTries + 1) := by
  let again := (s.modUsb p (fun u => { u with resetTries := u.resetTries + 1 })).drive_ p
    (if (s.getUsb p).resetKind = .hot then .warm else (s.getUsb p).resetKind)
  have ended : s.resetEnd p sp = again := by
    unfold State.resetEnd
    dsimp only
    rw [if_neg driven, if_neg (not_not.mpr untrained), if_neg (by simp [h]), if_pos tries]
  have calm : Calm again := (((Calm.of_quiet q).modUsb ..).modUsb ..).eff (State.emit_eff ..) rfl
  refine gives_settled rfl hp ended calm fun t kept => ?_
  rw [kept.reads PortUsb.state p, kept.reads PortUsb.resetTries p]
  unfold again State.drive_
  rw [State.getUsb_emit, State.getUsb_modUsb_same, State.getUsb_modUsb_same]
  exact ⟨h, rfl⟩

end

end

/-- Settles O9: a port that enters its state keeps it while items and devices go with the old one, and the pass that follows ends items
alone. -/
theorem portConnectionEvents : Obligations.PortConnectionEvents := by
  unfold Obligations.PortConnectionEvents
  exact ⟨fun _ _ hp q h => vbusGood_powers hp q h, fun _ _ hp q h => portVbusOff_unpowers hp q h,
    fun _ _ _ hp q h dcp hk hs => connect_attaches hp q h dcp hk hs, fun _ _ hp q h => connectionConfirmed_resets hp q h,
    fun _ _ hp q run h1 h2 h3 => portDisconnect_powered hp q run h1 h2 h3,
    fun _ _ hp q h polls alone => pollingTimeout_disables hp q h polls alone,
    fun _ _ _ hp q h driven trained undeferred => portResetEnd_enables hp q h driven trained undeferred,
    fun _ _ _ hp q h driven untrained tries => portResetEnd_again hp q h driven untrained tries⟩

end Sys2Proof
end

section
/-!
PROOFS. The steps of the Registrar: the enumeration at the head of a port's work, the request each step makes, and what the Registrar's work
leaves of the ports (06 R176 to R180).
-/
set_option Elab.async false
namespace Sys2Proof.Machine

/-! ### The head of the work on a tree (06 R177) -/

/-- Where the first that a test finds is replaced by one that passes it too, that one is found. -/
theorem List.find?_replaced {α : Type} [DecidableEq α] {t : α → Bool} {l : List α} {x : α} {f : α → α} (found : l.find? t = some x)
    (passes : t (f x) = true) : (l.map (fun e => if e = x then f e else e)).find? t = some (f x) := by
  induction l with
  | nil => cases found
  | cons e l ih =>
    by_cases he : t e = true
    · rw [List.find?_cons_of_pos he, Option.some.injEq] at found
      subst found
      rw [List.map_cons, if_pos rfl, List.find?_cons_of_pos passes]
    · rw [List.find?_cons_of_neg he] at found
      have other : e ≠ x := fun same => he (same ▸ List.find?_some found)
      rw [List.map_cons, if_neg other, List.find?_cons_of_neg he, ih found]

/-- A port beside the enumerations in hand. -/
def PortUsb.enumless (u : PortUsb) : PortUsb := { u with enums := [] }

section
variable {s : State} {p : Nat} {e : Enum}

theorem State.modHead_leaves (s : State) (p : Nat) (f : Enum → Enum) : Leaves PortUsb.enumless s (s.modHead p f) := by
  unfold State.modHead
  split
  · exact s.modUsb_leaves p
  · exact .refl s

theorem State.modHead_enumHead (h : (s.getUsb p).enumHead = some e) {f : Enum → Enum} (hf : (f e).step ≠ .mapRead) :
    ((s.modHead p f).getUsb p).enumHead = some (f e) := by
  unfold State.modHead
  rw [h]
  dsimp only
  rw [State.getUsb_modUsb_same]
  exact List.find?_replaced h (by simp [hf])

/-- The head moves to a step, and the request of that step is sent. -/
theorem State.toStep_head (h : (s.getUsb p).enumHead = some e) {st : EnumStep} (hs : st ≠ .mapRead) :
    s.toStep p st = (s.modHead p (fun e => { e with step := st })).sendStep p { e with step := st } := by
  unfold State.toStep
  dsimp only
  rw [State.modHead_enumHead h hs]

/-! ### Requests that are made (06 R177, R178, R180) -/

theorem State.request_asked (n : NoResult s) (p a typ req value index len : Nat) : (s.request p a typ req value index len).Asked p a
    (natLE 1 typ ++ natLE 1 req ++ natLE 2 value ++ natLE 2 index ++ natLE 2 len) 1 :=
  (s.ask_asked ..).serve (n.eff (s.ask_eff ..) rfl) p

theorem State.tellHub_asked (n : NoResult s) (p a typ req value index : Nat) : (s.tellHub p a typ req value index).Asked p a
    (natLE 1 typ ++ natLE 1 req ++ natLE 2 value ++ natLE 2 index ++ zeros 2) 0 :=
  (s.ask_asked ..).serve (n.eff (s.ask_eff ..) rfl) p

end

/-! ### What the Registrar's work leaves (06 R176 to R180) -/

/-- A port beside the Registrar's work on it and its service. -/
def PortUsb.unworked (u : PortUsb) : PortUsb := { u.unserved with enums := [], evt := 0, devRefused := 0 }

/-- The Registrar goes on with its work: requests are added and enumerations move, and a request that was made stays so. -/
structure Works (s t : State) : Prop where
  leaves : Leaves PortUsb.unworked s t
  asked : ∀ {p a setup kind}, s.Asked p a setup kind → t.Asked p a setup kind

section
variable {s t u : State}

theorem Works.refl (s : State) : Works s s := ⟨.refl s, id⟩

theorem Works.trans (h : Works s t) (k : Works t u) : Works s u := ⟨h.leaves.trans k.leaves, k.asked ∘ h.asked⟩

theorem Works.ite {c : Prop} [Decidable c] (h : Works s t) (k : Works s u) : Works s (if c then t else u) := by
  split <;> assumption

theorem Works.noResult (h : Works s t) (n : NoResult s) : NoResult t := h.leaves.noResult n

theorem State.ask_works (s : State) (p a kind : Nat) (setup : Bytes) : Works s (s.ask p a kind setup) :=
  ⟨s.modUsb_leaves p, fun h => h.ask ..⟩

/-- What leaves the requests of the ports is no work on them. -/
theorem Leaves.works {g : PortUsb → PortUsb} (h : Leaves g s t) (hg : ∀ u, (g u).unworked = u.unworked := by exact fun _ => rfl)
    (hr : ∀ u, (g u).requests = u.requests := by exact fun _ => rfl) : Works s t :=
  ⟨h.coarser hg, fun k => k.leaves h hr⟩

theorem State.modHead_works (s : State) (p : Nat) (f : Enum → Enum) : Works s (s.modHead p f) := (s.modHead_leaves p f).works

section
variable (n : NoResult s)
include n

theorem State.serve_works (p : Nat) : Works s (s.serve p) := ⟨(State.serve_leaves n p).coarser, fun h => h.serve n p⟩

theorem State.asks_works (p a kind : Nat) (setup : Bytes) : Works s ((s.ask p a kind setup).serve p) :=
  (s.ask_works ..).trans (State.serve_works ((s.ask_works ..).noResult n) p)

theorem State.sendStep_works (p : Nat) (e : Enum) : Works s (s.sendStep p e) := by
  obtain ⟨parent, parentPort, depth, speed, prev, addr, step, tries, desc, serial, ports, multiTt, think⟩ := e
  cases step with
  | config l => cases l with
    | nil => exact .refl s
    | cons q l => exact State.asks_works n ..
  | recovery => exact .refl s
  | waitAddress => exact .refl s
  | queued => exact .refl s
  | _ => exact State.asks_works n ..

theorem State.toStep_works (p : Nat) (st : EnumStep) : Works s (s.toStep p st) := by
  have moved := s.modHead_works p (fun e => { e with step := st })
  unfold State.toStep
  dsimp only
  split
  · exact moved.trans (State.sendStep_works (moved.noResult n) ..)
  · exact moved

theorem State.giveAddress_works (p : Nat) (e : Enum) : Works s (s.giveAddress p e) := by
  have steps : ∀ (f : Enum → Enum) st, Works s ((s.modHead p f).toStep p st) := fun f st =>
    (s.modHead_works p f).trans (State.toStep_works ((s.modHead_works p f).noResult n) ..)
  unfold State.giveAddress
  refine .ite (steps ..) ?_
  split
  · exact steps ..
  · exact State.toStep_works n ..

theorem State.nextEnum_works (p : Nat) : Works s (s.nextEnum p) := by
  unfold State.nextEnum
  split
  · exact .ite (.ite (State.toStep_works n ..) (State.toStep_works n ..)) (.refl s)
  · exact .refl s

theorem State.queueEnum_works (p parent parentPort depth prev : Nat) (sp : Speed) :
    Works s (s.queueEnum p parent parentPort depth prev sp) := by
  have queued : ∀ e, Works s (s.modUsb p (fun u => { u with enums := u.enums ++ [e] })) := fun e =>
    (s.modUsb_leaves (g := PortUsb.enumless) p).works
  unfold State.queueEnum
  exact .ite ((queued _).trans (State.nextEnum_works ((queued _).noResult n) p)) (queued _)

theorem State.enumRoot_works (p : Nat) : Works s (s.enumRoot p) := by
  unfold State.enumRoot
  dsimp only
  split
  · have again := (s.modUsb_leaves (g := PortUsb.enumless) p (f := fun u => { u with
      enums := u.enums.map (fun e => if e.parent = 0 ∧ e.step ≠ .mapRead then { e with step := .queued, speed := (s.getUsb p).speed } else e) })).works
    exact again.trans (State.nextEnum_works (again.noResult n) p)
  · exact State.queueEnum_works n ..

end

end

end Sys2Proof.Machine
end

section
/-!
PROOFS. A request of the Registrar that goes out at once, and the first step of an enumeration (06 R174, R177; 07 R201, R222).
-/
set_option Elab.async false
namespace Sys2Proof.Machine

/-! ### A request that goes out at once (07 R201, R222) -/

section
variable {s : State} {p : Nat}

/-- On an idle bus that no pipe is on, the request of the Registrar is all that is ready. -/
theorem State.readyList_asks (asked : (s.getUsb p).requests ≠ []) (up : s.busUp p = true) (free : (s.getPipes (regCtx p)).inXact = false)
    (alone : s.pipes.all (fun e => decide (e.2.port ≠ p)) = true) : ∃ r, s.readyList p = [(4, r, regCtx p, 7, 0)] := by
  have none : s.pipes.filterMap (fun e =>
      if e.2.port = p ∧ e.2.registrarCtl = false then
        (s.ready e.1 e.2 (s.portCount p)).map (fun r => (e.2.step, s.rankOf (s.getUsb p) e.1 e.2 (s.portCount p), e.1, r.1, r.2))
      else none) = [] := by
    refine List.filterMap_eq_nil_iff.mpr fun e he => if_neg fun h => ?_
    exact absurd h.1 (of_decide_eq_true (List.all_eq_true.mp alone e he))
  have own : s.readyAsk p = [(4, afterKey (s.getUsb p).rrCtl (regCtx p) + 1, regCtx p, 7, 0)] :=
    if_neg (by simp [asked, up, free])
  refine ⟨afterKey (s.getUsb p).rrCtl (regCtx p) + 1, ?_⟩
  unfold State.readyList
  dsimp only
  rw [own, none]
  rfl

theorem State.schedule_sends {a k : Nat} {setup : Bytes} (front : (s.getUsb p).requests = [(a, setup, k)])
    (idle : (s.getUsb p).inFlight = []) (speed : (s.getUsb p).speed = .hs) (up : s.busUp p = true)
    (free : (s.getPipes (regCtx p)).inXact = false) (alone : s.pipes.all (fun e => decide (e.2.port ≠ p)) = true) (f : Nat) :
    Sent.usb p a setup ∈ (s.schedule p (f + 1)).sent := by
  obtain ⟨r, ready⟩ := State.readyList_asks (by simp [front]) up free alone
  have unbuffered : s.needsNp p (regCtx p) 7 = false := by simp [State.needsNp, speed]
  have went : Sent.usb p a setup ∈ (s.sendAsk p).sent := (s.sendAsk_front front).2
  rw [State.schedule, if_neg (not_not.mpr idle)]
  simp only [ready, unbuffered, Bool.not_false, Bool.true_or, List.filter_cons_of_pos, List.filter_nil, firstOf, State.issue, if_true]
  exact (State.schedule_eff _ p f).grows.subset went

theorem State.serve_sends {a k : Nat} {setup : Bytes} (front : (s.getUsb p).requests = [(a, setup, k)])
    (idle : (s.getUsb p).inFlight = []) (speed : (s.getUsb p).speed = .hs) (up : s.busUp p = true)
    (free : (s.getPipes (regCtx p)).inXact = false) (alone : s.pipes.all (fun e => decide (e.2.port ≠ p)) = true) :
    Sent.usb p a setup ∈ (s.serve p).sent := by
  have own := State.schedule_sends front idle speed up free alone (3 * s.pipes.length + (s.getUsb p).requests.length)
  unfold State.serve
  dsimp only
  split
  · exact own
  · exact List.foldlRecOn (motive := fun t : State => Sent.usb p a setup ∈ t.sent) _ _ own fun t ht q _ =>
      (State.schedule_eff t q _).grows.subset ht

end

/-! ### The first step of an enumeration (06 R174, R177) -/

/-- The enumeration of a root device of no known address. -/
def rootEnum (prev : Nat) (sp : Speed) : Enum :=
  { parent := 0, parentPort := 0, depth := 0, speed := sp, prev := prev, addr := 0, step := .queued, tries := 0, desc := [], serial := [],
    ports := 0, multiTt := false, think := 0 }

/-- The request for the first 8 bytes of the device descriptor. -/
def firstDescriptor : Bytes := [0x80, 0x06, 0x00, 0x01, 0x00, 0x00, 0x08, 0x00]

/-- A port with nothing being enumerated, once its reset recovery is over and its root device asks for its descriptor, before the scheduler
is run. -/
def State.asksFirst (s : State) (p : Nat) (e : Enum) : State :=
  (((s.modUsb p (fun u => { u with timebaseFrom := false })).modUsb p (fun u => { u with enums := u.enums ++ [e] })).modHead p
    (fun e => { e with step := .desc8 })).ask p 0 1 firstDescriptor

section
variable {s : State} {p : Nat}

theorem State.resetRecovered_asks (h : (s.getUsb p).state = .enabled) (trained : (s.getUsb p).timebaseFrom = true)
    (unrestored : (s.getUsb p).restore = none) (direct : (s.getUsb p).fallback = false) (free : (s.getUsb p).enums = []) :
    ∃ e : Enum, e.step ≠ .mapRead ∧ s.resetRecovered p = (s.asksFirst p e).serve p := by
  let v := s.modUsb p (fun u => { u with timebaseFrom := false })
  have port : v.getUsb p = { s.getUsb p with timebaseFrom := false } := State.getUsb_modUsb_same ..
  have recovered : s.resetRecovered p = v.enumRoot p := by
    unfold State.resetRecovered
    dsimp only
    rw [if_neg (by simp [h, trained]), unrestored]
    dsimp only
    rw [if_neg (show ¬(s.getUsb p).fallback = true by simp [direct])]
    exact if_pos (by rw [port]; exact h)
  let e := rootEnum (match (v.getUsb p).devices.find? (fun d => decide (d.parent = 0)) with
    | some d => d.addr
    | none => 0) (v.getUsb p).speed
  let w := v.modUsb p (fun u => { u with enums := u.enums ++ [e] })
  have listed : w.getUsb p = { s.getUsb p with timebaseFrom := false, enums := [e] } := by
    unfold w
    rw [State.getUsb_modUsb_same, port, free]
    rfl
  have head : (w.getUsb p).enumHead = some e := by
    rw [listed]
    rfl
  have idle : ((v.getUsb p).enumHead.isNone && decide ((w.getUsb p).restore = none)) = true := by
    rw [listed, port]
    simp [PortUsb.enumHead, free, unrestored]
  have root : v.enumRoot p = w.nextEnum p := by
    unfold State.enumRoot
    dsimp only
    rw [show (v.getUsb p).enums.find? (fun e => decide (e.parent = 0) && decide (e.step ≠ .mapRead)) = none by rw [port, free]; rfl]
    exact if_pos idle
  have next : w.nextEnum p = w.toStep p .desc8 := by
    unfold State.nextEnum
    rw [head]
    rfl
  refine ⟨e, nofun, ?_⟩
  rw [recovered, root, next, State.toStep_head (st := .desc8) head nofun]
  rfl

end

end Sys2Proof.Machine
end

section
/-!
PROOFS. Addresses and external hubs: the requests that are made, and the devices of a hub's port that leave (06 R177, R180, R181).
-/
set_option Elab.async false
namespace Sys2Proof.Machine

/-! ### Addresses (06 R177) -/

section
variable {s : State} {p : Nat} {e : Enum}

/-- A device without a previous address is given the lowest free one. -/
theorem State.giveAddress_asked (n : NoResult s) {a : Nat} (h : (s.getUsb p).enumHead = some e) (hs : e.step ≠ .mapRead) (new : e.prev = 0)
    (free : (s.getUsb p).freeAddr = some a) : (s.giveAddress p e).Asked p 0 ([0x00, 0x05] ++ natLE 2 a ++ [0, 0, 0, 0]) 1 := by
  have given : ((s.modHead p (fun e => { e with addr := a })).getUsb p).enumHead = some { e with addr := a } := State.modHead_enumHead h hs
  unfold State.giveAddress
  rw [if_neg (not_not.mpr new), free]
  dsimp only
  rw [State.toStep_head (st := .setAddress) given nofun]
  exact State.request_asked (Leaves.noResult (State.modHead_leaves ..) (Leaves.noResult (State.modHead_leaves ..) n)) ..

theorem State.toStep_desc18_asked (n : NoResult s) (h : (s.getUsb p).enumHead = some e) :
    (s.toStep p .desc18).Asked p e.addr [0x80, 0x06, 0x00, 0x01, 0x00, 0x00, 0x12, 0x00] 1 := by
  rw [State.toStep_head (st := .desc18) h nofun]
  exact State.request_asked ((s.modHead_leaves ..).noResult n) ..

theorem State.toStep_isochDelay_asked (n : NoResult s) (h : (s.getUsb p).enumHead = some e) :
    (s.toStep p .isochDelay).Asked p e.addr [0x00, 0x31, 0, 0, 0, 0, 0, 0] 1 := by
  rw [State.toStep_head (st := .isochDelay) h nofun]
  exact State.request_asked ((s.modHead_leaves ..).noResult n) ..

end

/-! ### External hubs (06 R180, R181) -/

section
variable {s : State} {p : Nat}

theorem State.tellHub_works (n : NoResult s) (a typ req value index : Nat) : Works s (s.tellHub p a typ req value index) :=
  State.asks_works n ..

/-- A device that is not admitted: its port is disabled, and it is counted. -/
theorem State.refused_works (s : State) (p : Nat) (f : PortUsb → Word) :
    Works s ((s.usbEvent p 0x800).modUsb p (fun u => { u with devRefused := f u })) :=
  ((s.usbEvent_leaves (g := fun u => { u with evt := 0 }) ..).works).trans
    ((State.modUsb_leaves (g := fun u => { u with devRefused := 0 }) ..).works)

theorem State.hubConnect_works (n : NoResult s) (hub : Device) (k : Nat) : Works s (s.hubConnect p hub k) := by
  have disabled : Works s (s.disableHubPort p hub.addr k) := State.tellHub_works n ..
  unfold State.hubConnect
  exact .ite (disabled.trans (State.refused_works _ p fun u => satAdd u.devRefused 1)) (.ite (.refl s) (State.queueEnum_works n ..))

theorem State.hubReset_works (n : NoResult s) (hub : Device) (k : Nat) (sp : Speed) : Works s (s.hubReset p hub k sp) := by
  have steps : ∀ (f : Enum → Enum) st, Works s ((s.modHead p f).toStep p st) := fun f st =>
    (s.modHead_works p f).trans (State.toStep_works ((s.modHead_works p f).noResult n) ..)
  unfold State.hubReset
  split
  · refine .ite ?_ (.refl s)
    dsimp only
    split <;> exact steps ..
  · exact .refl s

theorem deepestFirst_mem {l : List Device} {b : Nat} (h : b ∈ deepestFirst l) : ∃ d ∈ l, d.addr = b := by
  obtain ⟨d, hd, rfl⟩ := List.mem_map.mp h
  obtain ⟨k, -, hk⟩ := List.mem_flatMap.mp hd
  exact ⟨d, List.mem_of_mem_filter hk, rfl⟩

/-- The requests of a device that has left are taken from those of the port. -/
theorem State.askGone_usb (s : State) (q b : Nat) : (s.askGone q b).usb = s.usb ∨ (s.askGone q b).usb =
    (s.modUsb q (fun u => { u with requests := (s.getUsb q).requests.filter (fun e => decide (e.1 ≠ b)) })).usb := by
  unfold State.askGone
  dsimp only
  split
  · exact .inl rfl
  · refine .inr ?_
    split <;> split <;> rfl

theorem State.Asked.askGone {a b kind : Nat} {setup : Bytes} (h : s.Asked p a setup kind) (hb : b ≠ a) (q : Nat) :
    (s.askGone q b).Asked p a setup kind := by
  refine h.of_requests (fun hm => ?_) (s.askGone_eff q b).grows
  unfold State.getUsb at hm ⊢
  rcases s.askGone_usb q b with same | gone
  · rwa [same]
  · rw [gone]
    change _ ∈ ((s.modUsb q _).getUsb p).requests
    by_cases hq : p = q
    · subst hq
      rw [State.getUsb_modUsb_same]
      exact List.mem_filter.mpr ⟨hm, decide_eq_true hb.symm⟩
    · rwa [State.getUsb_modUsb_other _ _ _ hq]

theorem State.Asked.deviceGone {a b kind out : Nat} {setup : Bytes} (h : s.Asked p a setup kind) (hb : b ≠ a) (ho : ¬(out = 0x07 ∨ out = 0x06))
    (det : Nat) : (s.deviceGone p out det b).Asked p a setup kind := by
  have told : Leaves PortUsb.lasting s ((s.portEvent p 0x0003 (handle p b) 0 []).closeAll out det (s.devicePipes p b)) :=
    .trans ((State.portEvent_eff ..).leaves rfl) (State.closeAll_leaves _ ho ..)
  unfold State.deviceGone
  exact ((h.leaves told).askGone hb p).leaves (g := fun u => { u with devices := [], enums := [], heldAddrs := [] }) (State.modUsb_leaves ..)

/-- Where the devices below a hub's port have gone, a request to the hub itself is still among those of the port. -/
theorem State.Asked.belowGone {a b kind out : Nat} {setup : Bytes} (h : s.Asked p a setup kind)
    (apart : a ∉ belowOf (s.getUsb p).devices 6 [b]) (ho : ¬(out = 0x07 ∨ out = 0x06)) (det : Nat) :
    (s.belowGone p out det b).Asked p a setup kind := by
  refine List.foldlRecOn (motive := fun t : State => t.Asked p a setup kind) _ _ h fun t ht c hc => ht.deviceGone ?_ ho det
  obtain ⟨d, hd, rfl⟩ := deepestFirst_mem hc
  rintro rfl
  exact apart (List.contains_iff_mem.mp (List.mem_filter.mp hd).2)

/-- A port of an external hub whose device has left, while the devices have not yet gone: what was being enumerated there is dropped. -/
def State.hubCut (s : State) (p : Nat) (hub : Device) (k : Nat) : State :=
  (if ((s.getUsb p).enumHead.map fun e => decide (e.parent = hub.addr) && decide (e.parentPort = k)) = some true ∧
      (s.getUsb p).restore = none then s.askDone p 1 else s).modUsb p (fun u => { u with
    enums := u.enums.filter (fun e =>
      !(decide (e.parent = hub.addr) && decide (e.parentPort = k) && (decide (e.prev = 0) || decide (u.restore = none)))) })

/-- The Registrar goes on to the next enumeration of a port that is not being restored. -/
def State.nextFree (s : State) (p : Nat) : State := if (s.getUsb p).restore = none then s.nextEnum p else s

theorem State.nextFree_works (n : NoResult s) (p : Nat) : Works s (s.nextFree p) := .ite (State.nextEnum_works n p) (.refl s)

theorem State.hubCut_leaves (s : State) (p : Nat) (hub : Device) (k : Nat) : Leaves PortUsb.unasked s (s.hubCut p hub k) := by
  have done : ∀ (c : Prop) [Decidable c], Leaves PortUsb.unasked s (if c then s.askDone p 1 else s) := fun c _ =>
    .ite (s.askDone_leaves p 1).coarser (.refl s)
  exact (done _).trans (State.modUsb_leaves ..)

theorem State.Asked.hubCut {a : Nat} {setup : Bytes} (h : s.Asked p a setup 0) (hub : Device) (k : Nat) :
    (s.hubCut p hub k).Asked p a setup 0 := by
  have done : ∀ (c : Prop) [Decidable c], (if c then s.askDone p 1 else s).Asked p a setup 0 := fun c _ => by
    split
    · exact h.askDone (by decide) p
    · exact h
  exact (done _).leaves (g := PortUsb.enumless) (State.modUsb_leaves ..)

theorem State.hubGone_cases (s : State) (p : Nat) (hub : Device) (k : Nat) : ∃ v, s.hubGone p hub k = v.nextFree p ∧
    (v = s.hubCut p hub k ∨ ∃ d ∈ (s.getUsb p).devices, d.parent = hub.addr ∧
      v = ((s.hubCut p hub k).belowGone p 0x09 0 d.addr).deviceGone p 0x09 0 d.addr) := by
  refine ⟨_, rfl, ?_⟩
  split
  · rename_i d found
    have hd : d ∈ ((s.hubCut p hub k).getUsb p).devices := List.mem_of_find?_eq_some found
    have here := List.find?_some found
    rw [(s.hubCut_leaves p hub k).reads PortUsb.devices p] at hd
    rw [Bool.and_eq_true, decide_eq_true_eq] at here
    exact .inr ⟨d, hd, here.1, rfl⟩
  · exact .inl rfl

theorem Calm.hubGone (h : Calm s) (n : NoResult s) (hub : Device) (k : Nat) : Calm (s.hubGone p hub k) := by
  have cut := s.hubCut_leaves p hub k
  obtain ⟨v, gone, cases⟩ := s.hubGone_cases p hub k
  rw [gone]
  rcases cases with rfl | ⟨d, -, -, rfl⟩
  · exact (State.nextFree_works (cut.noResult n) p).leaves.calm (cut.calm h)
  · have left := (State.belowGone_leaves (s.hubCut p hub k) p (out := 0x09) (by decide) 0 d.addr).trans
      (State.deviceGone_leaves _ p (out := 0x09) (by decide) 0 d.addr)
    exact (State.nextFree_works (left.noResult (cut.noResult n)) p).leaves.calm (left.calm (cut.calm h))

/-- The devices at a port of a hub leave: a request to the hub itself is still made. -/
theorem State.Asked.hubGone (n : NoResult s) {hub : Device} {setup : Bytes} (k : Nat) (h : s.Asked p hub.addr setup 0)
    (apart : ∀ d ∈ (s.getUsb p).devices, d.parent = hub.addr → d.addr ≠ hub.addr ∧ hub.addr ∉ belowOf (s.getUsb p).devices 6 [d.addr]) :
    (s.hubGone p hub k).Asked p hub.addr setup 0 := by
  have cut := s.hubCut_leaves p hub k
  obtain ⟨v, gone, cases⟩ := s.hubGone_cases p hub k
  rw [gone]
  rcases cases with rfl | ⟨d, hd, below, rfl⟩
  · exact (State.nextFree_works (cut.noResult n) p).asked (h.hubCut ..)
  · obtain ⟨other, above⟩ := apart d hd below
    rw [← cut.reads PortUsb.devices p] at above
    have left := (State.belowGone_leaves (s.hubCut p hub k) p (out := 0x09) (by decide) 0 d.addr).trans
      (State.deviceGone_leaves _ p (out := 0x09) (by decide) 0 d.addr)
    exact (State.nextFree_works (left.noResult (cut.noResult n)) p).asked
      (((h.hubCut hub k).belowGone above (by decide) 0).deviceGone other (by decide) 0)

end

end Sys2Proof.Machine
end

section
/-!
PROOFS. The commands of an enumeration: recovery, requests that end, addresses, external hubs, interface maps and device resets (06 R174 to
R181; 07 R201, R214, R222).
-/
set_option Elab.async false
namespace Sys2Proof.Machine

/-! ### The first request of an enumeration (06 R177; 07 R222) -/

section
variable (s : State) (p : Nat) (e : Enum)

/-- What the first step of an enumeration leaves, before its request is made. -/
theorem State.desc8Step_leaves : Leaves (fun u => { u with timebaseFrom := false, enums := [] }) s
    (((s.modUsb p (fun u => { u with timebaseFrom := false })).modUsb p (fun u => { u with enums := u.enums ++ [e] })).modHead p
      (fun e => { e with step := .desc8 })) :=
  ((s.modUsb_leaves p).trans (State.modUsb_leaves ..)).trans (State.modHead_leaves ..).coarser

theorem State.desc8Step_trained : ((((s.modUsb p (fun u => { u with timebaseFrom := false })).modUsb p (fun u => { u with
    enums := u.enums ++ [e] })).modHead p (fun e => { e with step := .desc8 })).getUsb p).timebaseFrom = false := by
  rw [(State.modHead_leaves ..).reads PortUsb.timebaseFrom p, State.getUsb_modUsb_same, State.getUsb_modUsb_same]

theorem State.asksFirst_eff : Eff 1 s (s.asksFirst p e) :=
  (((s.modUsb_eff ..).trans (State.modUsb_eff ..)).trans (State.modHead_eff ..)).trans (State.ask_eff ..)

theorem State.asksFirst_port : ∃ u : PortUsb, (s.asksFirst p e).getUsb p = { u with requests := u.requests ++ [(0, firstDescriptor, 1)] } ∧
    { u with timebaseFrom := false, enums := [] } = { s.getUsb p with timebaseFrom := false, enums := [] } ∧ u.timebaseFrom = false :=
  ⟨_, State.getUsb_modUsb_same .., (s.desc8Step_leaves p e).port p, s.desc8Step_trained p e⟩

end

section
variable {s : State} {p : Nat}

/-- The bus of a port that asks for its first descriptor is up. -/
theorem State.asksFirst_busUp (e : Enum) (h : (s.getUsb p).state = .enabled) (speed : (s.getUsb p).speed ≠ .none)
    (ended : (s.getUsb p).resetKind = .none) (safe : s.flt.safeStop = false) (link : (s.dieLink (wingOf p)).retraining = false) :
    (s.asksFirst p e).busUp p = true := by
  obtain ⟨u, port, same, trained⟩ := s.asksFirst_port p e
  have flt : (s.asksFirst p e).flt = s.flt := (s.asksFirst_eff p e).flt rfl
  have state := congrArg PortUsb.state same
  have speed' := congrArg PortUsb.speed same
  have kind := congrArg PortUsb.resetKind same
  dsimp only at state speed' kind
  unfold State.dieLink at link
  unfold State.busUp State.dieLink
  rw [port, flt]
  simp [state, speed', kind, trained, h, speed, ended, safe, link]

end

/-! ### Accesses that a path reaches (02 R67) -/

theorem State.viaWrite_reached {s : State} {path : Path} {idx sub : Nat} (h : s.reach path idx sub true = some 0) (f : State → State × Nat) :
    s.viaWrite path idx sub f = (f s).1.emit (.answer path idx sub (f s).2) := by
  unfold State.viaWrite
  rw [h]
  rfl

/-! ### Interface maps and device resets (06 R174, R181; 07 R214) -/

section
variable {s : State} {p : Nat}

theorem State.mapDone_unrestored (h : (s.getUsb p).restore = none) (a : Nat) (m : IfMap) : s.mapDone p a m = s.mapRead p a m := by
  unfold State.mapDone
  rw [h]

/-- A port whose wait for an interface map has ended with the map, before the scheduler is run. -/
def State.mapped (s : State) (p a : Nat) (m : List EpDesc) : State :=
  ((s.askDone p 2).modUsb p (fun u => { u with
    enums := u.enums.filter (fun e => !(decide (e.step = .mapRead) && decide (e.addr = a))) })).modDevice p a (fun d => { d with map := m })

theorem State.mapped_leaves (s : State) (p a : Nat) (m : List EpDesc) :
    Leaves (fun u => { u with requests := [], enums := [], devices := [] }) s (s.mapped p a m) := by
  unfold State.mapped State.modDevice
  exact .trans (.trans (s.askDone_leaves p 2).coarser (State.modUsb_leaves ..)) (State.modUsb_leaves ..)

theorem State.mapped_port (s : State) (p a : Nat) (m : List EpDesc) : ((s.mapped p a m).getUsb p).mapPending a = false ∧
    ((s.mapped p a m).getUsb p).devices = (s.getUsb p).devices.map (fun d => if d.addr = a then { d with map := m } else d) := by
  unfold State.mapped State.modDevice
  rw [State.getUsb_modUsb_same, State.getUsb_modUsb_same]
  refine ⟨?_, congrArg _ ((s.askDone_leaves p 2).reads PortUsb.devices p)⟩
  refine List.any_eq_false.mpr fun e he => ?_
  have other := (List.mem_filter.mp he).2
  rw [Bool.not_eq_true'] at other
  exact Bool.eq_false_iff.mp other

theorem State.mapRead_pending {a : Nat} (h : (s.getUsb p).mapPending a = true) (m : IfMap) : s.mapRead p a m =
    (if m.isNone then (s.mapped p a (m.getD [])).modRegs (fun r => { r with psMapFail := true }) else s.mapped p a (m.getD [])).serve p := by
  unfold State.mapRead
  rw [if_neg (by simp [h])]
  cases m <;> rfl

theorem Calm.startReset (h : Calm s) (p : Nat) (k : Option Nat) : Calm (s.startReset p k) := by
  have below : ∀ (l : List Nat) (t : State), Calm t → Calm (l.foldl (fun s a => s.belowGone p 0x08 0 a) t) := fun l t =>
    (Leaves.foldl (g := PortUsb.rooted) (fun s a => s.belowGone_leaves p (by decide) 0 a) l t).calm
  have resynced : ∀ (l : List Nat) (t : State), Calm t → Calm (l.foldl (fun s n => s.resync n 0) t) := fun l t ht =>
    List.foldlRecOn (motive := Calm) l _ ht fun u hu n _ => hu.eff (u.resync_eff n 0) rfl
  unfold State.startReset
  refine .toState (.eff (.modUsb (.modUsb (resynced _ _ (below _ _ ?_)) ..) ..) (State.emit_eff ..) rfl) ..
  exact (State.endTree_leaves ..).calm ((State.supersede_leaves ..).calm h)

theorem State.startReset_state (s : State) (p : Nat) (k : Option Nat) : ((s.startReset p k).getUsb p).state = .resetting :=
  State.toState_state ..

/-- A reset of a root device of an *Enabled* port is a reset of the port. -/
theorem State.resetDevice_root {a : Nat} {d : Device} (hd : (s.getUsb p).device? a = some d) (root : d.parent = 0)
    (h : (s.getUsb p).state = .enabled) (direct : (s.getUsb p).fallback = false) : s.resetDevice p a = (s.startReset p none, 0) := by
  unfold State.resetDevice
  rw [hd]
  dsimp only
  rw [if_pos root]
  unfold State.askReset
  dsimp only
  rw [h]
  dsimp only
  rw [if_neg (by simp [direct])]

end

end Sys2Proof.Machine

namespace Sys2Proof
open Machine

section
variable {s : State} {p : Nat} (hp : portOk p = true)
include hp

section
variable (h : (s.getUsb p).state = .enabled) (trained : (s.getUsb p).timebaseFrom = true) (unrestored : (s.getUsb p).restore = none)
  (direct : (s.getUsb p).fallback = false) (none : (s.getUsb p).enums = [])
include h trained unrestored direct none

theorem resetRecoveryExpiry_requests (q : Quiet s) (n : NoResult s) : Gives (.resetRecoveryExpiry p) s (fun t =>
    (0, firstDescriptor, 1) ∈ (t.getUsb p).requests) := by
  obtain ⟨e, -, asks⟩ := State.resetRecovered_asks h trained unrestored direct none
  have made := s.asksFirst_eff p e
  have n : NoResult (s.asksFirst p e) := n.eff made rfl
  have asked : ((s.asksFirst p e).serve p).Asked p 0 firstDescriptor 1 := (State.ask_asked ..).serve n p
  exact gives_settled rfl hp asks ((State.serve_leaves n p).calm ((Calm.of_quiet q).eff made rfl)) fun t kept =>
    (asked.leaves kept).mem (by decide)

theorem resetRecoveryExpiry_sends (speed : (s.getUsb p).speed = .hs) (ended : (s.getUsb p).resetKind = .none)
    (safe : s.flt.safeStop = false) (link : (s.dieLink (wingOf p)).retraining = false) (first : (s.getUsb p).requests = [])
    (idle : (s.getUsb p).inFlight = []) (free : (s.getPipes (p - 1)).inXact = false)
    (alone : s.pipes.all (fun e => decide (e.2.port ≠ p)) = true) : Gives (.resetRecoveryExpiry p) s (fun t =>
      Sent.usb p 0 firstDescriptor ∈ t.sent) := by
  obtain ⟨e, -, asks⟩ := State.resetRecovered_asks h trained unrestored direct none
  obtain ⟨u, port, same, -⟩ := s.asksFirst_port p e
  have requests : u.requests = [] := (congrArg PortUsb.requests same).trans first
  have flying : u.inFlight = [] := (congrArg PortUsb.inFlight same).trans idle
  have fast : u.speed = .hs := (congrArg PortUsb.speed same).trans speed
  have pipes : (s.asksFirst p e).pipes = s.pipes := (s.asksFirst_eff p e).pipes rfl
  have up := State.asksFirst_busUp e h (by simp [speed]) ended safe link
  have went : Sent.usb p 0 firstDescriptor ∈ ((s.asksFirst p e).serve p).sent := by
    refine State.serve_sends (k := 1) (by rw [port, requests]; rfl) (by rw [port]; exact flying) (by rw [port]; exact fast) up ?_
      (by rwa [pipes])
    unfold State.getPipes at free ⊢
    rwa [pipes]
  exact gives_onUnit (t := (s.resetRecovered p).settle) rfl hp (State.mem_sent_settle (asks ▸ went))

end

theorem enumerationRequestComplete_addresses (q : Quiet s) (n : NoResult s) {e : Enum} {a : Nat} (data : Bytes)
    (h : (s.getUsb p).state = .enabled) (unrestored : (s.getUsb p).restore = none) (head : (s.getUsb p).enumHead = some e)
    (hs : e.step = .desc8) (new : e.prev = 0) (free : (s.getUsb p).freeAddr = some a) :
    Gives (.enumerationRequestComplete p (.ok data)) s (fun t => (0, [0x00, 0x05] ++ natLE 2 a ++ [0, 0, 0, 0], 1) ∈ (t.getUsb p).requests) := by
  have done := s.askDone_leaves p 1
  have n := done.noResult n
  have works := State.giveAddress_works n p e
  have goes : s.enumReq p (.ok data) = ((s.askDone p 1).giveAddress p e).serve p := by
    unfold State.enumReq
    rw [head]
    dsimp only
    rw [if_neg (by simp [h, unrestored])]
    unfold State.enumRes State.enumStep
    dsimp only
    rw [hs]
  have asked := State.giveAddress_asked n ((done.reads PortUsb.enumHead p).trans head) (by simp [hs]) new
    ((done.reads PortUsb.freeAddr p).trans free)
  have served := State.serve_leaves (works.noResult n) p
  exact gives_settled rfl hp goes (served.calm (works.leaves.calm (done.calm (.of_quiet q)))) fun t kept =>
    ((asked.serve (works.noResult n) p).leaves kept).mem (by decide)

theorem setAddressRecoveryExpiry_reads (n : NoResult s) {e : Enum} (h : (s.getUsb p).state = .enabled)
    (head : (s.getUsb p).enumHead = some e) (hs : e.step = .recovery) : Gives (.setAddressRecoveryExpiry p) s (fun t =>
      (e.addr, [0x80, 0x06, 0x00, 0x01, 0x00, 0x00, 0x12, 0x00], 1) ∈ (t.getUsb p).requests) := by
  have settled : s.addressSettled p = s.toStep p .desc18 := by
    unfold State.addressSettled
    rw [head]
    exact if_pos ⟨hs, h⟩
  exact gives_onUnit (t := s.addressSettled p) rfl hp (settled ▸ (State.toStep_desc18_asked n head).mem (by decide))

theorem addressRelease_frees (n : NoResult s) {a : Nat} (held : (s.getUsb p).heldAddrs.contains a = true)
    (idle : s.pipesWhere (fun x => decide (x.port = p) && decide (x.address = a) && decide (x.queue ≠ [])) = []) :
    Gives (.addressRelease p a) s (fun t => (t.getUsb p).heldAddrs.contains a = false) := by
  let v := s.modUsb p (fun u => { u with heldAddrs := u.heldAddrs.filter (· ≠ a) })
  have n : NoResult v := n.eff (s.modUsb_eff ..) rfl
  have works : Works v (s.addressFree p a) := by
    unfold State.addressFree
    dsimp only
    rw [if_neg (not_or.mpr ⟨not_not.mpr idle, by rw [held]; decide⟩)]
    split
    · exact .ite (State.giveAddress_works n ..) (.refl v)
    · exact .refl v
  refine gives_onUnit (t := s.addressFree p a) rfl hp ?_
  rw [works.leaves.reads PortUsb.heldAddrs p, State.getUsb_modUsb_same]
  simp

theorem externalHubStatusChange_acknowledges (q : Quiet s) (n : NoResult s) {a k : Nat} {d : Device} (c : HubChange)
    (h : (s.getUsb p).state = .enabled) (known : (s.getUsb p).device? a = some d) (hub : d.isHub = true)
    (apart : (s.getUsb p).devices.all (fun x => decide (x.parent ≠ a) ||
      (decide (x.addr ≠ a) && !((belowOf (s.getUsb p).devices 6 [x.addr]).contains a))) = true) :
    Gives (.externalHubStatusChange p a k c) s (fun t =>
      (a, [0x23, 0x01, (if c = .connect ∨ c = .disconnect then 16 else 20), 0] ++ natLE 2 k ++ [0, 0], 0) ∈ (t.getUsb p).requests ∨
      Sent.usb p a ([0x23, 0x01, (if c = .connect ∨ c = .disconnect then 16 else 20), 0] ++ natLE 2 k ++ [0, 0]) ∈ t.sent) := by
  obtain rfl : d.addr = a := of_decide_eq_true (List.find?_some (p := fun x : Device => decide (x.addr = a)) known)
  have told := fun v => State.tellHub_works (p := p) n d.addr 0x23 1 v k
  have asked := fun v => State.tellHub_asked n p d.addr 0x23 1 v k
  have calm : Calm s := .of_quiet q
  have changes : ∀ u : State, s.hubChange p d.addr k c = u → Calm u → u.Asked p d.addr
      ([0x23, 0x01, (if c = .connect ∨ c = .disconnect then 16 else 20), 0] ++ natLE 2 k ++ [0, 0]) 0 →
      Gives (.externalHubStatusChange p d.addr k c) s _ := fun u own calm asked =>
    gives_settled rfl hp own calm fun t kept => (asked.leaves kept).imp_right And.right
  unfold State.hubChange at changes
  rw [known] at changes
  dsimp only at changes
  rw [if_neg (by simp [hub, h])] at changes
  cases c with
  | connect =>
    have works := (told 16).trans (State.hubConnect_works (p := p) ((told 16).noResult n) d k)
    exact changes _ rfl (works.leaves.calm calm) ((State.hubConnect_works ((told 16).noResult n) d k).asked (asked 16))
  | resetDone sp =>
    have works := State.hubReset_works (p := p) ((told 20).noResult n) d k sp
    exact changes _ rfl (works.leaves.calm ((told 20).leaves.calm calm)) (works.asked (asked 20))
  | disconnect =>
    have n := (told 16).noResult n
    refine changes _ rfl (((told 16).leaves.calm calm).hubGone n d k) (State.Asked.hubGone n k (asked 16) ?_)
    rw [(told 16).leaves.reads PortUsb.devices p]
    intro x hx below
    simpa [below] using List.all_eq_true.mp apart x hx

theorem interfaceMapReadComplete_ends (q : Quiet s) (n : NoResult s) {a : Nat} (m : IfMap) (waits : (s.getUsb p).mapPending a = true)
    (unrestored : (s.getUsb p).restore = none) : Gives (.interfaceMapReadComplete p a m) s (fun t => (t.getUsb p).mapPending a = false ∧
      (m.isNone = true → t.regs.psMapFail = true) ∧
      (t.getUsb p).devices = (s.getUsb p).devices.map (fun d => if d.addr = a then { d with map := m.getD [] } else d)) := by
  let v := s.mapped p a (m.getD [])
  let w := if m.isNone then v.modRegs (fun r => { r with psMapFail := true }) else v
  have mapped := s.mapped_leaves p a (m.getD [])
  have recorded : Leaves id v w := .ite ((State.modRegs_eff ..).leaves rfl) (.refl v)
  have n : NoResult w := recorded.noResult (mapped.noResult n)
  have served := State.serve_leaves n p
  have ends : s.mapDone p a m = w.serve p := (State.mapDone_unrestored unrestored a m).trans (State.mapRead_pending waits m)
  have calm : Calm (w.serve p) := served.calm (recorded.calm (mapped.calm (.of_quiet q)))
  refine gives_onUnit (t := (s.mapDone p a m).settle) rfl hp ?_
  rw [ends]
  have kept := State.settle_leaves calm
  obtain ⟨pending, devices⟩ := s.mapped_port p a (m.getD [])
  refine ⟨?_, fun failed => ?_, ?_⟩
  · rw [kept.reads (PortUsb.mapPending · a) p, served.reads (PortUsb.mapPending · a) p, recorded.reads (PortUsb.mapPending · a) p]
    exact pending
  · rw [State.settle_regs_calm calm, (State.serve_started p n).eff.regs rfl]
    unfold w
    rw [if_pos failed]
    rfl
  · rw [kept.reads PortUsb.devices p, served.reads PortUsb.devices p, recorded.reads PortUsb.devices p]
    exact devices

theorem deviceResetRequest_resets (q : Quiet s) {a : Nat} {path : Path} {d : Device} (reached : s.reach path 0x4024 p true = some 0)
    (known : (s.getUsb p).device? a = some d) (root : d.parent = 0) (h : (s.getUsb p).state = .enabled)
    (direct : (s.getUsb p).fallback = false) : Gives (.deviceResetRequest p a path) s (fun t =>
      (t.getUsb p).state = .resetting ∧ Sent.answer path 0x4024 p 0 ∈ t.sent) := by
  have resets : s.viaWrite path 0x4024 p (State.resetDevice · p a) = (s.startReset p none).emit (.answer path 0x4024 p 0) := by
    rw [State.viaWrite_reached reached, State.resetDevice_root known root h direct]
  refine gives_settled rfl hp resets (((Calm.of_quiet q).startReset ..).eff (State.emit_eff ..) rfl) fun t kept => ?_
  refine ⟨?_, kept.sent (by simp)⟩
  rw [kept.reads PortUsb.state p, State.getUsb_emit, State.startReset_state]

end

/-- Settles O10: a request that the Registrar makes stays among those of its port through the service and the pass that follow, or goes
out. -/
theorem enumerationEvents : Obligations.EnumerationEvents := by
  unfold Obligations.EnumerationEvents
  exact ⟨fun _ _ hp q n h trained unrestored direct none => resetRecoveryExpiry_requests hp h trained unrestored direct none q n,
    fun _ _ hp _ h trained unrestored direct none speed ended safe link first idle free alone =>
      resetRecoveryExpiry_sends hp h trained unrestored direct none speed ended safe link first idle free alone,
    fun _ _ _ _ data hp q n h unrestored head hs new free => enumerationRequestComplete_addresses hp q n data h unrestored head hs new free,
    fun _ _ _ hp n h head hs => setAddressRecoveryExpiry_reads hp n h head hs,
    fun _ _ _ hp n held idle => addressRelease_frees hp n held idle,
    fun _ _ _ _ _ c hp q n h known hub apart => externalHubStatusChange_acknowledges hp q n c h known hub apart,
    fun _ _ _ m hp q n waits unrestored => interfaceMapReadComplete_ends hp q n m waits unrestored,
    fun _ _ _ _ _ hp q reached known root h direct => deviceResetRequest_resets hp q reached known root h direct⟩

end Sys2Proof
end

section
/-!
PROOFS. Recoveries, restores, their windows and quarantine (06 R182, R185, R188, R189, R193; 16 R411).
-/
set_option Elab.async false
namespace Sys2Proof.Machine

/-! ### A restore that is lost (06 R188, R189) -/

/-- What a port shows of a restore, with its state: the end of a restore leaves it once the failure is counted. -/
def PortUsb.outcome (u : PortUsb) : PortUsb :=
  { PortUsb.reset with state := u.state, restore := u.restore, restoresFailed := u.restoresFailed }

/-- A port whose restore has failed goes on: a request that waited applies, or ends with the port's session. -/
def State.restoreGone (s : State) (p : Nat) : State :=
  if (s.getUsb p).state = .enabled then
    if ((s.applyDeferred p).getUsb p).state = .enabled ∧ ((s.applyDeferred p).getUsb p).speed ≠ .none ∧
        ((s.applyDeferred p).getUsb p).resetKind = .none ∧ ((s.applyDeferred p).getUsb p).timebaseFrom = false then
      (s.applyDeferred p).enumRoot p
    else s.applyDeferred p
  else s.endDeferred p 0x0A 0

section
variable {s : State} {p : Nat}

theorem State.restoreGone_leaves (go : (s.getUsb p).state = .enabled → NoResult s ∧ (s.getUsb p).deferred = none) :
    Leaves PortUsb.outcome s (s.restoreGone p) := by
  unfold State.restoreGone
  split
  · rename_i h
    obtain ⟨n, none⟩ := go h
    rw [State.applyDeferred_none none]
    exact .ite (State.enumRoot_works n p).leaves.coarser (.refl s)
  · exact (s.endDeferred_leaves ..).coarser

theorem State.restoreLost_some {r : Restore} (h : (s.getUsb p).restore = some r) :
    s.restoreLost p = (if r.trip then (s.restoreFail p).endDeferred p 0x0A 0 else s.restoreFail p).restoreGone p := by
  unfold State.restoreLost
  rw [if_neg (by simp [h]), h]
  rfl

/-- A restore that is lost is over and counted as failed. -/
theorem State.restoreLost_leaves {r : Restore} (h : (s.getUsb p).restore = some r)
    (go : (s.getUsb p).state = .enabled → NoResult s ∧ (s.getUsb p).deferred = none) :
    Leaves PortUsb.outcome (s.modUsb p PortUsb.unrestored) (s.restoreLost p) := by
  have failed : Leaves PortUsb.outcome (s.modUsb p PortUsb.unrestored)
      (if r.trip then (s.restoreFail p).endDeferred p 0x0A 0 else s.restoreFail p) :=
    .ite ((s.restoreFail_leaves p h).coarser.trans (State.endDeferred_leaves ..).coarser) (s.restoreFail_leaves p h).coarser
  rw [State.restoreLost_some h]
  refine failed.trans (State.restoreGone_leaves fun enabled => ?_)
  rw [failed.reads PortUsb.state p, State.getUsb_modUsb_same] at enabled
  obtain ⟨n, none⟩ := go enabled
  refine ⟨failed.noResult (n.eff (s.modUsb_eff ..) rfl), failed.undeferred p ?_⟩
  rw [State.getUsb_modUsb_same]
  exact none

theorem Calm.restoreFail (h : Calm s) (p : Nat) : Calm (s.restoreFail p) := by
  cases r : (s.getUsb p).restore with
  | none =>
    unfold State.restoreFail
    rwa [r]
  | some r' => exact (s.restoreFail_leaves p r).calm (h.modUsb ..)

/-! ### Steps down that are not allowed (06 R186, R193) -/

theorem State.stepOk_never (h : s.cfg 0x4023 p = 0) (code : Nat) : s.stepOk p code = false := by
  unfold State.stepOk
  simp [h]

theorem State.degraded_never (h : (s.getUsb p).state = .suspended) (never : s.cfg 0x4023 p = 0) : s.degraded p = s.degradedOut p := by
  unfold State.degraded
  dsimp only
  rw [if_neg (by simp [h]), if_pos (State.stepOk_never never _)]

/-! ### Quarantine (06 R182; 16 R411) -/

theorem Calm.portRelease (h : Calm s) (p : Nat) : Calm (s.portRelease p) := by
  have gone : Calm ((s.treeGone p 0x09 0).modUsb p (fun u => { u.fresh with containedBy := none })) :=
    ((s.treeGone_leaves p 0).calm h).modUsb ..
  unfold State.portRelease
  dsimp only
  split
  · split
    · exact (gone.toState ..).eff (State.search_eff ..) rfl
    · exact gone.toState ..
  · exact h

theorem State.portRelease_state (s : State) (p : Nat) : ((s.portRelease p).getUsb p).state ≠ .quarantined := by
  unfold State.portRelease
  dsimp only
  split
  · split
    · rw [((State.search_eff ..).leaves (g := id) rfl).reads PortUsb.state p, State.toState_state]
      decide
    · rw [State.toState_state]
      decide
  · assumption

theorem Calm.releasePort (h : Calm s) (p : Nat) : Calm (s.releasePort p) := by
  unfold State.releasePort
  dsimp only
  split
  · exact (((h.eff (State.modProt_eff ..) rfl).eff (State.setAllowed_eff ..) rfl).eff (State.takeV_eff ..) rfl).portRelease p
  · exact h.portRelease p

theorem State.releasePort_state (s : State) (p : Nat) : ((s.releasePort p).getUsb p).state ≠ .quarantined :=
  State.portRelease_state _ p

theorem State.releaseAsked_released (safe : s.flt.safeStop = false)
    (gone : (s.getUsb p).containedBy.all (fun c => !(s.flt.causes.contains c) && !(s.flt.holds c.1 c.2)) = true) :
    s.releaseAsked p = (s.releasePort p, 0) := by
  unfold State.releaseAsked
  rw [safe]
  cases h : (s.getUsb p).containedBy with
  | none => rfl
  | some c =>
    rw [h, Option.all_some, Bool.and_eq_true, Bool.not_eq_true', Bool.not_eq_true'] at gone
    dsimp only
    rw [gone.1, gone.2]
    rfl

end

end Sys2Proof.Machine

namespace Sys2Proof
open Machine

section
variable {s : State} {p : Nat} (hp : portOk p = true)
include hp

theorem superspeedRecovery_counts (q : Quiet s) (h : (s.getUsb p).state = .enabled)
    (super : isSuper (speedCode (s.getUsb p).speed) = true) (below : (s.getUsb p).recWindow + 1 < s.cfg 0x402E p) :
    Gives (.superspeedRecovery p true) s (fun t => (t.getUsb p).recWindow = (s.getUsb p).recWindow + 1 ∧
      (t.getUsb p).recoveries = satAdd (s.getUsb p).recoveries 1) := by
  let v := (s.modUsb p (fun u => { u with recoveries := satAdd u.recoveries 1, recWindow := u.recWindow + 1 })).usbEvent p 0x20
  have eff : Eff 1 s v := (s.modUsb_eff ..).trans (State.modUsb_eff ..)
  have window : (v.getUsb p).recWindow = (s.getUsb p).recWindow + 1 := by
    unfold v State.usbEvent
    rw [State.getUsb_modUsb_same, State.getUsb_modUsb_same]
  have count : (v.getUsb p).recoveries = satAdd (s.getUsb p).recoveries 1 := by
    unfold v State.usbEvent
    rw [State.getUsb_modUsb_same, State.getUsb_modUsb_same]
  have counted : s.recovery p true = v := by
    unfold State.recovery
    dsimp only
    rw [if_neg (by simp [h, super]), if_pos rfl]
    refine if_neg fun late => ?_
    have reached : s.cfg 0x402E p ≤ (s.getUsb p).recWindow + 1 := by
      rw [← window, ← eff.cfg rfl]
      exact late.2
    omega
  refine gives_settled rfl hp counted ((Calm.of_quiet q).eff eff rfl) fun t kept => ?_
  rw [kept.reads PortUsb.recWindow p, kept.reads PortUsb.recoveries p]
  exact ⟨window, count⟩

theorem recoveryWindowExpiry_takes : Gives (.recoveryWindowExpiry p) s (fun t => (t.getUsb p).recWindow = (s.getUsb p).recWindow - 1) :=
  gives_onUnit (t := s.modUsb p (fun u => { u with recWindow := u.recWindow - 1 })) rfl hp (by rw [State.getUsb_modUsb_same])

theorem restoreRequestComplete_goesOn (q : Quiet s) (n : NoResult s) {b : Bool} {e : Enum} (data : Bytes)
    (h : (s.getUsb p).state = .enabled) (restoring : (s.getUsb p).restore = some ⟨b, .running⟩)
    (head : (s.getUsb p).enumHead = some e) (hs : e.step = .setSel) : Gives (.restoreRequestComplete p (.ok data)) s (fun t =>
      (e.addr, [0x00, 0x31, 0, 0, 0, 0, 0, 0], 1) ∈ (t.getUsb p).requests) := by
  have done := s.askDone_leaves p 1
  have n := done.noResult n
  have works := State.toStep_works n p .isochDelay
  have goes : s.restoreReq p (.ok data) = ((s.askDone p 1).toStep p .isochDelay).serve p := by
    unfold State.restoreReq
    rw [restoring, head]
    dsimp only
    rw [if_neg (not_not.mpr h)]
    unfold State.restoreRes State.restoreStep
    dsimp only
    rw [hs]
  have asked := State.toStep_isochDelay_asked n ((done.reads PortUsb.enumHead p).trans head)
  have served := State.serve_leaves (works.noResult n) p
  exact gives_settled rfl hp goes (served.calm (works.leaves.calm (done.calm (.of_quiet q)))) fun t kept =>
    ((asked.serve (works.noResult n) p).leaves kept).mem (by decide)

/-- A command whose own effect is that a restore is lost: the restore is over and counted as failed. -/
theorem gives_restoreLost {c : Instr} {w : State} {r : Restore} (q : Quiet s) (hc : exec c s = onUnit (portOk p) "port" p w.settle)
    (own : w = s.restoreLost p) (restoring : (s.getUsb p).restore = some r)
    (go : (s.getUsb p).state = .enabled → NoResult s ∧ (s.getUsb p).deferred = none) : Gives c s (fun t =>
      (t.getUsb p).restore = none ∧ (t.getUsb p).restoresFailed = satAdd (s.getUsb p).restoresFailed 1) := by
  have lost := State.restoreLost_leaves restoring go
  refine gives_settled hc hp own (lost.calm ((Calm.of_quiet q).modUsb ..)) fun t kept => ?_
  rw [kept.reads PortUsb.restore p, kept.reads PortUsb.restoresFailed p, lost.reads PortUsb.restore p, lost.reads PortUsb.restoresFailed p,
    State.getUsb_modUsb_same]
  exact ⟨rfl, rfl⟩

theorem restoreWindowExpiry_fails (q : Quiet s) {b : Bool} (h : (s.getUsb p).state = .powered)
    (restoring : (s.getUsb p).restore = some ⟨b, .connect⟩) : Gives (.restoreWindowExpiry p) s (fun t =>
      (t.getUsb p).restore = none ∧ (t.getUsb p).restoresFailed = satAdd (s.getUsb p).restoresFailed 1) := by
  have passed : s.restWindow p = s.restoreLost p := by
    unfold State.restWindow
    dsimp only
    rw [restoring]
    exact if_pos ⟨rfl, .inl h⟩
  exact gives_restoreLost hp q rfl passed restoring (by simp [h])

theorem restoreTimeout_fails (q : Quiet s) (n : NoResult s) {b : Bool} (restoring : (s.getUsb p).restore = some ⟨b, .running⟩)
    (undeferred : (s.getUsb p).deferred = none) : Gives (.restoreTimeout p) s (fun t =>
      (t.getUsb p).restore = none ∧ (t.getUsb p).restoresFailed = satAdd (s.getUsb p).restoresFailed 1) := by
  have late : s.restLate p = s.restoreLost p := by
    unfold State.restLate
    rw [restoring]
    rfl
  exact gives_restoreLost hp q rfl late restoring fun _ => ⟨n, undeferred⟩

theorem u3ExitTimeout_disables (q : Quiet s) (h : (s.getUsb p).state = .suspended) (resuming : (s.getUsb p).resuming = true)
    (super : isSuper (speedCode (s.getUsb p).speed) = true) (never : s.cfg 0x4023 p = 0) :
    Gives (.u3ExitTimeout p) s (fun t => (t.getUsb p).state = .disabled) := by
  let v := (((s.restoreFail p).endTree p 0x04 0x21).modUsb p PortUsb.quiet)
  have out : s.degraded p = v.enters p .disabled 0x04 0x21 := State.degraded_never h never
  have timedOut : exec (.u3ExitTimeout p) s = onUnit (portOk p) "port" p (s.degraded p).settle :=
    congrArg (onUnit (portOk p) "port" p) (if_pos ⟨resuming, super⟩)
  have calm : Calm v := ((State.endTree_leaves ..).calm ((Calm.of_quiet q).restoreFail p)).modUsb ..
  refine gives_settled timedOut hp out (calm.enters ..) fun t kept => ?_
  rw [kept.reads PortUsb.state p]
  exact (v.enters_port p .disabled 0x04 0x21).1

theorem quarantineRelease_releases (q : Quiet s) {path : Path} (reached : s.reach path 0x402D p true = some 0)
    (safe : s.flt.safeStop = false)
    (gone : (s.getUsb p).containedBy.all (fun c => !(s.flt.causes.contains c) && !(s.flt.holds c.1 c.2)) = true) :
    Gives (.quarantineRelease p path) s (fun t => (t.getUsb p).state ≠ .quarantined ∧ Sent.answer path 0x402D p 0 ∈ t.sent) := by
  have released : s.viaWrite path 0x402D p (State.releaseAsked · p) = (s.releasePort p).emit (.answer path 0x402D p 0) := by
    rw [State.viaWrite_reached reached, State.releaseAsked_released safe gone]
  refine gives_settled rfl hp released (((Calm.of_quiet q).releasePort p).eff (State.emit_eff ..) rfl) fun t kept => ?_
  refine ⟨?_, kept.sent (by simp)⟩
  rw [kept.reads PortUsb.state p, State.getUsb_emit]
  exact s.releasePort_state p

end

/-- Settles O11: a restore that is lost leaves the count of it, and a port that enters its state keeps it. -/
theorem restoreEvents : Obligations.RestoreEvents := by
  unfold Obligations.RestoreEvents
  exact ⟨fun _ _ hp q h super below => superspeedRecovery_counts hp q h super below, fun _ _ hp => recoveryWindowExpiry_takes hp,
    fun _ _ _ _ data hp q n h restoring head hs => restoreRequestComplete_goesOn hp q n data h restoring head hs,
    fun _ _ _ hp q h restoring => restoreWindowExpiry_fails hp q h restoring,
    fun _ _ _ hp q n restoring undeferred => restoreTimeout_fails hp q n restoring undeferred,
    fun _ _ hp q h resuming super never _ => u3ExitTimeout_disables hp q h resuming super never,
    fun _ _ _ hp q reached safe _ gone => quarantineRelease_releases hp q reached safe gone⟩

end Sys2Proof
end

section
/-!
PROOFS. Suspend, resume and the power states of a link (06 R191 to R197).
-/
set_option Elab.async false
namespace Sys2Proof.Machine

section
variable {s : State} {p : Nat}

/-! ### Suspend and resume (06 R191 to R195) -/

theorem State.driveResume_leaves (s : State) (p : Nat) :
    Leaves (fun u => { u with wakeInEntry := false, resuming := false, suspCheck := false }) s (s.driveResume p) := by
  unfold State.driveResume
  exact .ite (s.modUsb_leaves p) (.ite (.refl s) ((s.modUsb_leaves p).eff (State.emit_eff ..) rfl))

/-- Resume signalling starts on a suspended port that is neither entering suspend nor resuming. -/
theorem State.driveResume_signals (entered : (s.getUsb p).suspEntry = false) (idle : (s.getUsb p).resuming = false) :
    Sent.bus p 8 0 ∈ (s.driveResume p).sent := by
  unfold State.driveResume
  dsimp only
  rw [if_neg (by simp [entered]), if_neg (by simp [idle])]
  simp

theorem State.startSuspend_suspends (s : State) (p : Nat) (by_ : SuspBy) (k : Option Nat) :
    ((s.startSuspend p by_ k).getUsb p).state = .suspended ∧ ((s.startSuspend p by_ k).getUsb p).suspBy = by_ ∧
      Sent.bus p 7 0 ∈ (s.startSuspend p by_ k).sent := by
  unfold State.startSuspend
  refine ⟨?_, ?_, by simp⟩
  · rw [State.getUsb_emit, State.toState_state]
  · rw [State.getUsb_emit, (State.toState_leaves ..).reads PortUsb.suspBy p, State.getUsb_modUsb_same]

/-! ### The suspend current check (06 R192) -/

/-- A port whose suspend current has been read. -/
def State.currentRead (s : State) (p : Nat) (avg : Int) : State :=
  s.modUsb p (fun u => { u with suspCheck := false, suspCurrent := avg })

/-- A tree above its limit is marked noncompliant, and its owner and the house are told. -/
def State.currentOver (s : State) (p : Nat) (avg : Int) : State :=
  (((s.currentRead p avg).modUsb p (fun u => { u with noncompliant := true })).usbEvent p 0x200).portEvent p 0x0006 (handle p 0)
    (intBits 32 ((s.currentRead p avg).toMa p avg)) []

theorem State.currentRead_toMa (s : State) (p : Nat) (avg x : Int) : (s.currentRead p avg).toMa p x = s.toMa p x := by
  unfold State.toMa State.currentRead
  rw [(s.modUsb_eff ..).cfg rfl]

theorem State.currentRead_suspLimit (s : State) (p : Nat) (avg : Int) : (s.currentRead p avg).suspLimit p = s.suspLimit p := by
  unfold State.suspLimit State.currentRead
  rw [(s.modUsb_eff ..).cfg rfl, State.getUsb_modUsb_same]

theorem State.currentOver_cfg (s : State) (p : Nat) (avg : Int) (idx : Nat) : (s.currentOver p avg).cfg idx p = s.cfg idx p := by
  unfold State.currentOver State.usbEvent State.currentRead
  rw [(State.portEvent_eff ..).cfg rfl, (State.modUsb_eff ..).cfg rfl, (State.modUsb_eff ..).cfg rfl, (State.modUsb_eff ..).cfg rfl]

theorem Calm.currentOver (h : Calm s) (p : Nat) (avg : Int) : Calm (s.currentOver p avg) :=
  (((h.modUsb ..).modUsb ..).modUsb ..).eff (State.portEvent_eff ..) rfl

theorem State.currentOver_port (s : State) (p : Nat) (avg : Int) :
    ((s.currentOver p avg).getUsb p).noncompliant = true ∧ ((s.currentOver p avg).getUsb p).suspCheck = false := by
  unfold State.currentOver State.usbEvent State.currentRead
  rw [((State.portEvent_eff ..).leaves (g := id) rfl).reads PortUsb.noncompliant p,
    ((State.portEvent_eff ..).leaves (g := id) rfl).reads PortUsb.suspCheck p, State.getUsb_modUsb_same, State.getUsb_modUsb_same,
    State.getUsb_modUsb_same]
  exact ⟨rfl, rfl⟩

/-- Where VBUS stays on, the check marks a tree above its limit and clears the mark of one within it. -/
theorem State.suspChecked_marks {avg : Int} (h : (s.getUsb p).state = .suspended) (check : (s.getUsb p).suspCheck = true)
    (on : s.cfg 0x4028 p ≠ 1) : s.suspChecked p avg = if (s.suspLimit p : Int) < s.toMa p avg then s.currentOver p avg
      else (s.currentRead p avg).modUsb p (fun u => { u with noncompliant := false }) := by
  have limit := s.currentRead_suspLimit p avg
  have drawn := s.currentRead_toMa p avg avg
  have kept := s.currentOver_cfg p avg 0x4028
  unfold State.suspChecked
  dsimp only
  rw [if_pos ⟨h, check⟩]
  change (if ((s.currentRead p avg).suspLimit p : Int) < (s.currentRead p avg).toMa p avg then _ else _) = _
  rw [limit, drawn]
  refine ite_congr rfl (fun _ => ?_) fun _ => rfl
  exact if_neg fun off => on (kept.symm.trans off)

/-! ### Power states of a link (06 R196, R197) -/

theorem State.enterPm_enabled (h : (s.getUsb p).state = .enabled) (level : Nat) :
    s.enterPm p level = s.modUsb p (fun u => { u with linkpm := level }) := if_pos h

theorem State.enterPm_linkpm (h : (s.getUsb p).state = .enabled) (level : Nat) : ((s.enterPm p level).getUsb p).linkpm = level := by
  rw [State.enterPm_enabled h, State.getUsb_modUsb_same]

end

end Sys2Proof.Machine

namespace Sys2Proof
open Machine

section
variable {s : State} {p : Nat} (hp : portOk p = true)
include hp

theorem suspendEntryDone_enters (h : (s.getUsb p).state = .suspended) (entry : (s.getUsb p).suspEntry = true) :
    Gives (.suspendEntryDone p) s (fun t => (t.getUsb p).suspEntry = false ∧ (t.getUsb p).linkpm = 3) := by
  let v := s.modUsb p (fun u => { u with
    suspEntry := false, linkpm := 3, suspCheck := s.suspBound p && !(s.getUsb p).wakeInEntry, wakeInEntry := false })
  have done := v.actionDone_leaves p
  have left : Leaves (fun u => { u.lasting with wakeInEntry := false, resuming := false, suspCheck := false }) v (s.suspendDone p) := by
    unfold State.suspendDone
    dsimp only
    rw [if_pos ⟨h, entry⟩]
    exact .ite (done.coarser.trans (State.driveResume_leaves ..).coarser) done.coarser
  refine gives_onUnit (t := s.suspendDone p) rfl hp ?_
  rw [left.reads PortUsb.suspEntry p, left.reads PortUsb.linkpm p, State.getUsb_modUsb_same]
  exact ⟨rfl, rfl⟩

theorem idleSuspendExpiry_suspends (h : (s.getUsb p).state = .enabled) (direct : (s.getUsb p).fallback = false)
    (set : s.cfg 0x4026 p ≠ 0) (idle : s.treeItems p = [])
    (pipes : (s.portPipes p).all (fun n => decide ((s.getPipes n).typ ≠ 1) && decide ((s.getPipes n).typ ≠ 3)) = true) :
    Gives (.idleSuspendExpiry p) s (fun t => (t.getUsb p).state = .suspended ∧ (t.getUsb p).suspBy = .idle ∧ Sent.bus p 7 0 ∈ t.sent) := by
  have aperiodic : (s.portPipes p).any (fun n => decide ((s.getPipes n).typ = 1) || decide ((s.getPipes n).typ = 3)) = false :=
    List.any_eq_false.mpr fun n hn => by simpa using List.all_eq_true.mp pipes n hn
  have suspends : s.idleSuspend p = s.startSuspend p .idle none := if_pos ⟨h, direct, set, idle, aperiodic⟩
  exact gives_onUnit (t := s.idleSuspend p) rfl hp (suspends ▸ s.startSuspend_suspends p .idle none)

theorem suspendCurrentCheck_marks (q : Quiet s) (avg : Int) (h : (s.getUsb p).state = .suspended)
    (check : (s.getUsb p).suspCheck = true) (on : s.cfg 0x4028 p ≠ 1) : Gives (.suspendCurrentCheck p avg) s (fun t =>
      (t.getUsb p).noncompliant = decide ((s.suspLimit p : Int) < s.toMa p avg) ∧ (t.getUsb p).suspCheck = false) := by
  have calm : Calm s := .of_quiet q
  by_cases above : (s.suspLimit p : Int) < s.toMa p avg
  · refine gives_settled rfl hp ((State.suspChecked_marks h check on).trans (if_pos above)) (calm.currentOver p avg) fun t kept => ?_
    rw [kept.reads PortUsb.noncompliant p, kept.reads PortUsb.suspCheck p, decide_eq_true above]
    exact s.currentOver_port p avg
  · refine gives_settled rfl hp ((State.suspChecked_marks h check on).trans (if_neg above)) ((calm.modUsb ..).modUsb ..) fun t kept => ?_
    rw [kept.reads PortUsb.noncompliant p, kept.reads PortUsb.suspCheck p, decide_eq_false above, State.getUsb_modUsb_same]
    unfold State.currentRead
    rw [State.getUsb_modUsb_same]
    exact ⟨rfl, rfl⟩

theorem resumeSignallingDone_enables (q : Quiet s) (n : NoResult s) (h : (s.getUsb p).state = .suspended)
    (resuming : (s.getUsb p).resuming = true) : Gives (.resumeSignallingDone p) s (fun t =>
      (t.getUsb p).state = .enabled ∧ (t.getUsb p).resuming = false) := by
  let v := s.modUsb p (fun u => { u with resuming := false, suspBy := .none, suspCheck := false, linkpm := 0 })
  have done : s.resumed p = ((v.toState p .enabled).supersede p).serve p := if_pos ⟨h, resuming⟩
  have entered := v.toState_leaves p .enabled
  have ended := (v.toState p .enabled).supersede_leaves p
  have n : NoResult ((v.toState p .enabled).supersede p) := ended.noResult (entered.noResult (n.eff (s.modUsb_eff ..) rfl))
  have served := State.serve_leaves n p
  refine gives_settled rfl hp done (served.calm (ended.calm (entered.calm ((Calm.of_quiet q).modUsb ..)))) fun t kept => ?_
  rw [kept.reads PortUsb.state p, served.reads PortUsb.state p, ended.reads PortUsb.state p, State.toState_state,
    kept.reads PortUsb.resuming p, served.reads PortUsb.resuming p, ended.reads PortUsb.resuming p, entered.reads PortUsb.resuming p,
    State.getUsb_modUsb_same]
  exact ⟨rfl, rfl⟩

theorem remoteWake_resumes (a : Nat) (run : s.dps.state = .run) (h : (s.getUsb p).state = .suspended)
    (entered : (s.getUsb p).suspEntry = false) (idle : (s.getUsb p).resuming = false) :
    Gives (.remoteWake p a) s (fun t => Sent.bus p 8 0 ∈ t.sent) := by
  have told : Leaves (fun u => { u with evt := 0 }) s ((s.usbEvent p 0x400).portEvent p 0x0007 (handle p a) 0 []) :=
    (s.usbEvent_leaves ..).eff (State.portEvent_eff ..) rfl
  have seen : s.wakeSeen p a = ((s.usbEvent p 0x400).portEvent p 0x0007 (handle p a) 0 []).driveResume p :=
    (if_pos run).trans (if_pos h)
  have went := State.driveResume_signals ((told.reads PortUsb.suspEntry p).trans entered) ((told.reads PortUsb.resuming p).trans idle)
  exact gives_onUnit (t := (s.wakeSeen p a).settle) rfl hp (State.mem_sent_settle (seen ▸ went))

section
variable (h : (s.getUsb p).state = .enabled) (prompt : s.promptOpen p = false)
include h prompt

theorem l1IdleExpiry_enters (besl : Nat) (policy : bitOf (s.cfg 0x4029 p) 0 = true) (single : (s.getUsb p).devices.length = 1)
    (usb2 : isSuper (speedCode (s.getUsb p).speed) = false) (up : (s.getUsb p).linkpm = 0) (idle : s.treeItems p = []) :
    Gives (.l1IdleExpiry ⟨p, some besl⟩) s (fun t => (t.getUsb p).linkpm = 1 ∧ Sent.bus p 12 besl ∈ t.sent) := by
  have enters : s.l1Idle p (some besl) = (s.enterPm p 1).emit (.bus p 12 besl) :=
    (if_pos ⟨policy, single, usb2, up, idle, prompt⟩).trans (if_pos h)
  refine gives_onUnit (t := s.l1Idle p (some besl)) rfl hp (enters ▸ ⟨?_, by simp⟩)
  rw [State.getUsb_emit, State.enterPm_linkpm h]

theorem u1U2InactivityTimeout_enters (u2 : Bool) (policy : bitOf (s.cfg 0x4029 p) (if u2 then 2 else 1) = true)
    (set : s.cfg (if u2 then 0x402C else 0x402B) p ≠ 0) (super : isSuper (speedCode (s.getUsb p).speed) = true)
    (up : (s.getUsb p).linkpm < 2) : Gives (.u1U2InactivityTimeout p u2) s (fun t => (t.getUsb p).linkpm = if u2 then 2 else 1) := by
  have enters : s.uIdle p u2 = s.enterPm p (if u2 then 2 else 1) := if_pos ⟨policy, set, super, up, prompt⟩
  exact gives_onUnit (t := s.uIdle p u2) rfl hp (enters ▸ State.enterPm_linkpm h _)

theorem deviceInitiatedLinkEntry_enters {level : Nat} (least : 1 ≤ level) (most : level ≤ 3)
    (policy : bitOf (s.cfg 0x4029 p) (if level = 3 then 0 else level) = true)
    (link : isSuper (speedCode (s.getUsb p).speed) = decide (level ≠ 3)) :
    Gives (.deviceInitiatedLinkEntry p level) s (fun t => (t.getUsb p).linkpm = if level = 3 then 1 else level) := by
  have enters : s.devicePm p level = s.enterPm p (if level = 3 then 1 else level) := if_pos ⟨least, most, policy, link, prompt⟩
  exact gives_onUnit (t := s.devicePm p level) rfl hp (enters ▸ State.enterPm_linkpm h _)

end

end

/-- Settles O12: each of these events sets its fields at once, and what follows it ends items or serves the port alone. -/
theorem suspendEvents : Obligations.SuspendEvents := by
  unfold Obligations.SuspendEvents
  exact ⟨fun _ _ hp h entry => suspendEntryDone_enters hp h entry,
    fun _ _ hp h direct set idle pipes => idleSuspendExpiry_suspends hp h direct set idle pipes,
    fun _ _ avg hp q h check on => suspendCurrentCheck_marks hp q avg h check on,
    fun _ _ hp q n h resuming => resumeSignallingDone_enables hp q n h resuming,
    fun _ _ a hp _ run h entered idle => remoteWake_resumes hp a run h entered idle,
    fun _ _ besl hp h policy single usb2 up idle prompt => l1IdleExpiry_enters hp h prompt besl policy single usb2 up idle,
    fun _ _ u2 hp h policy set super up prompt => u1U2InactivityTimeout_enters hp h prompt u2 policy set super up,
    fun _ _ _ hp h least most policy link prompt => deviceInitiatedLinkEntry_enters hp h prompt least most policy link⟩

end Sys2Proof
end

section
/-!
PROOFS. A transfer whose transaction ends NAK on the Registrar's control context of its port (07 R201, R217, R222, R227).
-/
namespace Sys2Proof
open Machine

/-! ### A transfer in progress among the Registrar's contexts -/

/-- Port 1 Enabled with one request of the Registrar to its device. The open TRANSFER with ACCESSION 9 is in progress on context 0, which
is the Registrar's context of port 1 (07 R201). -/
def transferOnContext0 : State :=
  ((State.reset.setItems (itemKey 0 9) itemOnContext0).setPipes 0
    { Pipe.reset with state := .opened, typ := 2, port := 1, inXact := true, queue := [itemKey 0 9] }).modUsb 1
    (fun u => { u with state := .enabled, speed := .hs, requests := [(1, zeros 8, 0)] })

theorem transferOnContext0_quiet : Quiet transferOnContext0 := by
  constructor <;> decide +kernel

/-- The Registrar's request goes out as the port is served, and leaves its context, the transfer's, free and empty. -/
theorem transactionComplete_nak_transferOnContext0_queue :
    ((((transferOnContext0.ctxUse 0).xactEnd 0 .nak).settle).getPipes 0).queue = [] := by
  decide +kernel

/-- Refutes O5: nothing bars a tenant's pipe from the Registrar's contexts. There a transaction that ends NAK lets the port send a request of
the Registrar that waited, and the context is written anew with it, without the item in its queue. -/
theorem not_pipeEventsComplete : ¬ Obligations.PipeEventsComplete := by
  unfold Obligations.PipeEventsComplete
  rintro ⟨-, -, -, -, nak⟩
  obtain ⟨t, ht, -, hqueue, -⟩ := nak transferOnContext0 0 (itemKey 0 9) itemOnContext0 (by decide) transferOnContext0_quiet
    (by decide +kernel) (by decide +kernel) (by decide +kernel) (by decide +kernel) (by decide +kernel) rfl
  have hstep : exec (.transactionComplete 0 .nak) transferOnContext0 =
      .next ((transferOnContext0.ctxUse 0).xactEnd 0 .nak).settle := rfl
  rw [hstep, Host.Outcome.next.injEq] at ht
  subst ht
  rw [transactionComplete_nak_transferOnContext0_queue] at hqueue
  exact absurd hqueue (by decide +kernel)

end Sys2Proof
end

section
/-!
PROOFS. What the service of a port and the end of its transactions leave of a calm state (05 R155, R159; 07 R209 to R229; 08 R238 to
R242).
-/
namespace Sys2Proof.Machine

theorem Calm.ite {s t : State} {c : Prop} [Decidable c] (h : Calm s) (k : Calm t) : Calm (if c then s else t) := by
  split <;> assumption

section
variable {s : State} (h : Calm s)
include h

/-! ### Items that move and end -/

theorem Calm.finish (k out det : Nat) : Calm (s.finish k out det) := (s.finish_loansKept k out det).calm h

theorem Calm.modItems (k : Nat) {f : Item → Item}
    (hf : ∀ i, (f i).op = i.op ∧ (f i).principal = i.principal := by exact fun _ => ⟨rfl, rfl⟩) : Calm (s.modItems k f) :=
  (s.modItems_loansKept k hf).calm h

theorem Calm.isoPacket (k out bytes : Nat) : Calm (s.isoPacket k out bytes) := by
  have recorded := h.modItems k (f := fun i => { i with isoDone := i.isoDone ++ [(out, bytes)] })
  unfold State.isoPacket
  dsimp only
  split
  · exact .ite ((State.finishB_loansKept ..).calm recorded) recorded
  · exact recorded

theorem Calm.boundary (k : Nat) : Calm (s.boundary k) := by
  unfold State.boundary
  split
  · split
    · exact .ite h (h.finish ..)
    · exact h
  · exact h

theorem Calm.inArrived (k p : Nat) (d : Bytes) : Calm (s.inArrived k p d) := by
  unfold State.inArrived
  split
  · exact h
  · rename_i i _
    have moved := h.modItems k (f := fun i => { i with moved := i.moved + d.length })
    exact .ite (moved.modItems k) (.ite ((moved.modSess ..).eff (State.levels_eff ..) rfl) moved)

/-! ### The end of a transaction (07 R209 to R228) -/

theorem Calm.controlAck (n k : Nat) (i : Item) (b : Nat) : Calm (s.controlAck n k i b) := by
  unfold State.controlAck
  have setup := h.modItems k (f := fun i => { i with stage := nextStage i })
  refine .ite (setup.eff (State.modPipes_eff ..) rfl) (.ite ?_ ((h.finish ..).eff (State.statusDone_eff ..) rfl))
  refine Calm.modItems (Calm.modItems ?_ k) k fun i => ?_
  · exact (h.eff (State.advance_eff ..) rfl).eff (State.itemMoved_eff ..) rfl
  · split <;> exact ⟨rfl, rfl⟩

theorem Calm.outAck (n k b : Nat) : Calm (s.outAck n k b) := by
  have sent := ((h.eff (s.advance_eff n ((s.getPipes n).packets b)) rfl).eff (State.bump_eff _ n ((s.getPipes n).packets b)) rfl).modItems k
    (f := fun i => { i with moved := i.moved + b, outData := i.outData.drop b })
  have served := ((sent.eff (State.itemMoved_eff _ n b) rfl).eff (State.modPipes_eff _ n (fun x => { x with flow := .ready })) rfl).eff
    (State.serviceOver_eff _ n ((s.getPipes n).shortRun b)) rfl
  unfold State.outAck
  dsimp only
  split
  · exact .ite (served.finish ..) served
  · exact served

theorem Calm.inAck (n k : Nat) (d : Bytes) : Calm (s.inAck n k d) := by
  have arrived := ((h.eff (s.advance_eff n ((s.getPipes n).packets d.length)) rfl).eff
    (State.bump_eff _ n ((s.getPipes n).packets d.length)) rfl).inArrived k (s.getPipes n).port d
  have served := ((arrived.eff (State.itemMoved_eff _ n d.length) rfl).eff
    (State.modPipes_eff _ n (fun x => { x with flow := .ready })) rfl).eff
    (State.serviceOver_eff _ n ((s.getPipes n).shortRun d.length)) rfl
  unfold State.inAck
  dsimp only
  split
  · exact served
  · exact .ite (.ite (served.modItems k) served) (.ite (served.finish ..) (.ite (served.finish ..) served))

theorem Calm.xactError (n k : Nat) (i : Item) : Calm (s.xactError n k i) := by
  have spent := ((h.eff (s.clearTt_eff n) rfl).eff (State.halt_eff _ n true) rfl).eff (State.spent_eff _ (s.getPipes n).port) rfl
  exact .ite (h.isoPacket ..) (.ite (spent.finish ..)
    (.ite ((h.eff (State.modPipes_eff ..) rfl).boundary k) (h.eff (State.modPipes_eff ..) rfl)))

theorem Calm.xactStall (n k : Nat) : Calm (s.xactStall n k) :=
  .ite (h.finish ..) ((h.eff (State.halt_eff ..) rfl).finish ..)

theorem Calm.xactResult (n k : Nat) (i : Item) (b : Nat) (r : XactRes) : Calm (s.xactResult n k i b r) := by
  have repaired : Calm (s.repaired n) := h.eff (State.repaired_eff ..) rfl
  have served : Calm (s.served n) := h.eff (State.served_eff ..) rfl
  unfold State.xactResult
  cases r with
  | ack got =>
    refine .ite (repaired.eff (State.modPipes_eff ..) rfl) (.ite (repaired.controlAck ..) (.ite ?_ (repaired.outAck ..)))
    refine Calm.isoPacket (Calm.modItems ?_ k) ..
    exact (repaired.eff (State.served_eff ..) rfl).eff (State.itemMoved_eff ..) rfl
  | data q d =>
    refine .ite (.ite (served.isoPacket ..) ?_) (.ite ?_ (.ite h (.ite (h.finish ..) (repaired.inAck ..))))
    · exact ((served.inArrived ..).eff (State.itemMoved_eff ..) rfl).isoPacket ..
    · exact (repaired.finish ..).eff (State.statusDone_eff ..) rfl
  | nak => exact h.eff (State.xactWait_eff ..) rfl
  | nrdy => exact h.eff (State.xactWait_eff ..) rfl
  | stall => exact h.xactStall n k
  | error => exact h.xactError n k i
  | babble => exact .ite (served.isoPacket ..) (h.finish ..)
  | move stream => exact h.eff (State.streamMove_eff ..) rfl

theorem Calm.xactOver (n : Nat) (r : XactRes) : Calm (s.xactOver n r) := by
  have freed : ∀ (f : Pipe → Pipe) (g : PortUsb → PortUsb) (c : Prop) [Decidable c] (p : Nat),
      Calm (if c then ((s.modPipes n f).modUsb p g).npGive p n else (s.modPipes n f).modUsb p g) := fun f g c _ p =>
    have idle := (h.eff (s.modPipes_eff n f) rfl).modUsb p g
    .ite (idle.eff (State.npGive_eff ..) rfl) idle
  unfold State.xactOver
  dsimp only
  refine Calm.eff ?_ (State.takeResync_eff ..) rfl
  split
  · split
    · exact ((freed ..).xactResult ..).boundary _
    · exact freed ..
  · exact .ite ((freed ..).eff (State.hubPolled_eff ..) rfl) (freed ..)

/-! ### The scheduler (07 R222 to R226; 08 R238 to R242) -/

theorem Calm.issue (p n st b : Nat) : Calm (s.issue p n st b) := by
  have used : ∀ st, Calm (s.useBus n st b) := fun st => h.eff (s.useBus_eff n st b) rfl
  unfold State.issue
  refine .ite (h.eff (State.sendAsk_eff ..) rfl) (.ite ((used 6).eff (State.modPipes_eff ..) rfl)
    (.ite ?_ (h.eff (State.startXact_eff ..) rfl)))
  split
  · exact (used 4).xactOver ..
  · exact (used 4).eff (State.modPipes_eff ..) rfl

theorem Calm.schedule (p f : Nat) : Calm (s.schedule p f) := by
  induction f generalizing s with
  | zero => exact h
  | succ f ih =>
    rw [State.schedule]
    split
    · exact h
    · dsimp only
      split
      · exact h.foldl (fun t r ht => .ite (ht.eff (State.npWait_eff ..) rfl) ht) _
      · exact ih (h.issue ..)

theorem Calm.serve (p : Nat) : Calm (s.serve p) := by
  have own := h.schedule p (s.runs p)
  exact .ite own (own.foldl (fun t q ht => ht.schedule q (t.runs q)) _)

theorem Calm.missIso (k c f : Nat) : Calm (s.missIso k c f) := by
  induction f generalizing s with
  | zero => exact h
  | succ f ih =>
    rw [State.missIso]
    split
    · exact h
    · split
      · exact h
      · exact .ite (ih (h.isoPacket ..)) h

theorem Calm.openMicroframe (p : Nat) : Calm (s.openMicroframe p) := by
  have missed : Calm (s.missAll p (s.portCount p)) := h.foldl (fun t k ht => ht.missIso k ..) _
  exact (((missed.eff (State.closeServices_eff ..) rfl).eff (State.modFt_eff ..) rfl).modUsb ..).serve p

end

end Sys2Proof.Machine
end

section
/-!
PROOFS. A microframe boundary of a port: what it makes of the port's timebase, and what the rest of the boundary leaves of it (09 R259 to
R267).
-/
namespace Sys2Proof.Machine

/-! ### The steps of a boundary on a timebase -/

/-- The trim moves only once it has stood for three microframes (09 R263). -/
theorem PortFt.discipline_early {f : PortFt} (hf : f.sinceTrim < 3) (locked : Bool) (limit freq : Int) :
    f.discipline locked limit freq =
      { f with sinceTrim := f.sinceTrim + 1, learned := if locked then freqTerm freq else f.learned } := if_pos hf

/-- The discipline of a timebase is of its trim alone. -/
theorem PortFt.discipline_keeps (f : PortFt) (locked : Bool) (limit freq : Int) : ∃ trim since learned,
    f.discipline locked limit freq = { f with trim := trim, sinceTrim := since, learned := learned } := by
  have moved : ∀ (t l : Int), ∃ trim since learned,
      (if t = f.trim then { f with learned := l } else { f with trim := t, sinceTrim := 0, learned := l }) =
        { f with trim := trim, sinceTrim := since, learned := learned } := fun t l => by
    split <;> exact ⟨_, _, _, rfl⟩
  by_cases hf : f.sinceTrim < 3
  · exact ⟨_, _, _, f.discipline_early hf ..⟩
  · unfold PortFt.discipline
    rw [if_neg hf]
    exact moved ..

/-- The count rises, and the phase error is measured or an owed step absorbed (09 R261, R264, R265). -/
def State.countFt (s : State) (p : Nat) (f : PortFt) : PortFt :=
  let g := { f with count := f.count + 1 }
  if f.stepOwed = 0 then { g with phase := satInt32 (phaseOf s.now (s.cfg 0x4050 p) g.bias g.count) } else g.absorb

/-- What the boundary of port `p` makes of its timebase before the values of M class take effect: the count, then the trim and the length
of the microframe (09 R261 to R265). -/
def State.atBoundary (s : State) (p : Nat) (f : PortFt) : PortFt :=
  ((s.countFt p f).discipline (decide (s.ptp.state = 1)) ((s.cfg 0x2601 1 : Int) * 256) s.ptp.freq).accumulate

section
variable (s : State) (p : Nat) {f : PortFt}

theorem State.countFt_settled (hf : f.stepOwed = 0) : s.countFt p f = { f with
    count := f.count + 1, phase := satInt32 (phaseOf s.now (s.cfg 0x4050 p) f.bias (f.count + 1)) } := if_pos hf

/-- A step that is owed leaves the bias in whole microframes, half rounding down (09 R265). -/
theorem State.countFt_owed (hf : f.stepOwed ≠ 0) : ∃ phase, s.countFt p f = { f with
    count := f.count + 1, bias := f.bias - BitVec.ofInt 32 ((f.stepOwed - 62500 + 124999) / 125000), phase := phase, stepOwed := 0 } :=
  ⟨_, (if_neg hf).trans (if_neg hf)⟩

theorem State.countFt_counts (f : PortFt) : (s.countFt p f).count = f.count + 1 ∧ (s.countFt p f).running = f.running := by
  by_cases hf : f.stepOwed = 0
  · rw [s.countFt_settled p hf]
    exact ⟨rfl, rfl⟩
  · obtain ⟨phase, counted⟩ := s.countFt_owed p hf
    rw [counted]
    exact ⟨rfl, rfl⟩

/-- The trim and the length of the microframe are set beside the count, the bias and the phase error. -/
theorem State.atBoundary_keeps (f : PortFt) : ∃ trim since learned frac steps, s.atBoundary p f =
    { s.countFt p f with trim := trim, sinceTrim := since, learned := learned, frac := frac, steps := steps } := by
  obtain ⟨trim, since, learned, disciplined⟩ :=
    (s.countFt p f).discipline_keeps (decide (s.ptp.state = 1)) ((s.cfg 0x2601 1 : Int) * 256) s.ptp.freq
  unfold State.atBoundary
  rw [disciplined]
  exact ⟨_, _, _, _, _, rfl⟩

theorem State.atBoundary_counts (f : PortFt) :
    (s.atBoundary p f).count = f.count + 1 ∧ (s.atBoundary p f).running = f.running := by
  obtain ⟨_, _, _, _, _, kept⟩ := s.atBoundary_keeps p f
  rw [kept]
  exact s.countFt_counts p f

theorem State.atBoundary_phase (hf : f.stepOwed = 0) :
    (s.atBoundary p f).phase = satInt32 (phaseOf s.now (s.cfg 0x4050 p) f.bias (f.count + 1)) := by
  obtain ⟨_, _, _, _, _, kept⟩ := s.atBoundary_keeps p f
  rw [kept, s.countFt_settled p hf]

theorem State.atBoundary_bias (hf : f.stepOwed ≠ 0) :
    (s.atBoundary p f).bias = f.bias - BitVec.ofInt 32 ((f.stepOwed - 62500 + 124999) / 125000) := by
  obtain ⟨_, _, _, _, _, kept⟩ := s.atBoundary_keeps p f
  obtain ⟨_, counted⟩ := s.countFt_owed p hf
  rw [kept, counted]

/-- While the trim stands, it and the fraction accumulated set the length of the microframe (09 R262, R263). -/
theorem State.atBoundary_steps (hf : f.stepOwed = 0) (early : f.sinceTrim < 3) :
    (s.atBoundary p f).trim = f.trim ∧ (s.atBoundary p f).frac = (((f.frac : Int) + f.trim) % 256).toNat ∧
    (s.atBoundary p f).steps = (960000 + ((f.frac : Int) + f.trim) / 256).toNat := by
  unfold State.atBoundary
  rw [s.countFt_settled p hf, PortFt.discipline_early (by exact early)]
  exact ⟨rfl, rfl, rfl⟩

end

/-! ### What the rest of the boundary leaves of the timebase -/

/-- A timebase beside the start of its microframe, the step it owes and the mark of a saturated trim. -/
def PortFt.paced (f : PortFt) : PortFt := { f with began := 0, stepOwed := 0, saturated := false }

/-- The timebases, each beside the start of its microframe, the step it owes and the mark of a saturated trim. -/
def State.pace (s : State) (p : Nat) : PortFt := (s.getFt p).paced

theorem Eff.paceKept {m : Nat} {s t : State} (e : Eff m s t) (hm : m.testBit 3 = false) : Kept State.pace s t := by
  refine ⟨?_⟩
  unfold State.pace State.getFt
  rw [e.ft hm]

section
variable (s : State) (p : Nat)

theorem State.modFt_pace {f : PortFt → PortFt} (hf : ∀ x, (f x).paced = x.paced := by exact fun _ => rfl) :
    Kept State.pace s (s.modFt p f) := by
  refine ⟨funext fun q => ?_⟩
  unfold State.pace
  by_cases hq : q = p
  · rw [hq, State.getFt_modFt_same, hf]
  · rw [State.getFt_modFt_other _ _ _ hq]

theorem State.trimCheck_pace (limit : Int) : Kept State.pace s (s.trimCheck p limit) := by
  have marked : ∀ b, Kept State.pace s (s.modFt p (fun f => { f with saturated := b })) := fun _ => s.modFt_pace p
  exact .ite (((marked _).trans ((State.ftEvent_eff ..).paceKept rfl)).trans ((State.note_eff ..).paceKept rfl)) (marked _)

theorem State.applyPort_pace : Kept State.pace s (s.applyPort p) := by
  have budgets : ∀ (b : Nat) (l : List Nat) (t : State),
      Kept State.pace t (l.foldl (fun t n => t.modPipes n (fun x => { x with budget := b })) t) := fun _ l t =>
    .foldl (fun t n => (t.modPipes_eff n _).paceKept rfl) l t
  have applied : Kept State.pace s (s.applyM p) := (s.applyM_eff p).paceKept rfl
  unfold State.applyPort
  dsimp only
  exact .ite ((applied.trans (budgets ..)).trans (State.modFt_pace ..)) (applied.trans (budgets ..))

theorem State.openMicroframe_pace : Kept State.pace s (s.openMicroframe p) := by
  unfold State.openMicroframe
  dsimp only
  refine .trans (.trans (.trans ?_ (State.modFt_pace ..)) ((State.modUsb_eff ..).paceKept rfl)) ((State.serve_eff ..).paceKept rfl)
  exact ((State.missAll_eff ..).paceKept rfl).trans ((State.closeServices_eff ..).paceKept rfl)

/-- In a calm state the pass after a command leaves every timebase. -/
theorem State.settle_getFt {s : State} (h : Calm s) : s.settle.getFt = s.getFt := by
  have same : s.settle.ft = s.ft := by
    rw [State.settle_of_calm h, (State.pllPass_eff _).ft rfl, (State.freeRecalled_eff _).ft rfl, (State.settleWaits_eff _).ft rfl,
      (State.settleWaits_eff _).ft rfl, (State.settleWaits_eff _).ft rfl]
  unfold State.getFt
  rw [same]

end

/-! ### The boundary -/

theorem State.trimCheck_quiet {s : State} (h : Quiet s) (p : Nat) (limit : Int) : Quiet (s.trimCheck p limit) := by
  unfold State.trimCheck
  dsimp only
  split
  · exact Quiet.record (Eff.of_quiet (h.modFt ..) (State.ftEvent_eff ..) rfl) _
  · exact h.modFt ..

/-- A boundary of a running timebase: the timebase follows, then the values of M class take effect where they may, the packet goes out
and the microframe opens (09 R259 to R267). -/
theorem State.microframe_running {s : State} {p : Nat} (running : (s.getFt p).running = true) :
    s.microframe p =
      (let t := (s.modFt p (s.atBoundary p)).trimCheck p ((s.cfg 0x2601 1 : Int) * 256)
       let t := if t.takesM p then t.applyPort p else t
       (t.sendSof p).openMicroframe p) := if_neg (by simp [running])

section
variable {s : State} {p : Nat} (running : (s.getFt p).running = true)
include running

theorem State.microframe_calm (q : Quiet s) : Calm (s.microframe p) := by
  have checked := State.trimCheck_quiet (q.modFt p (s.atBoundary p)) p ((s.cfg 0x2601 1 : Int) * 256)
  rw [State.microframe_running running]
  dsimp only
  refine Calm.openMicroframe (.of_quiet (Eff.of_quiet ?_ (State.sendSof_eff ..) rfl)) p
  split
  · exact Eff.of_quiet checked (State.applyPort_eff ..) rfl
  · exact checked

theorem State.microframe_pace : (s.microframe p).pace p = (s.atBoundary p (s.getFt p)).paced := by
  have checked := (s.modFt p (s.atBoundary p)).trimCheck_pace p ((s.cfg 0x2601 1 : Int) * 256)
  have opened : Kept State.pace (s.modFt p (s.atBoundary p)) (s.microframe p) := by
    rw [State.microframe_running running]
    refine .trans (.trans ?_ ((State.sendSof_eff ..).paceKept rfl)) (State.openMicroframe_pace ..)
    exact .ite (checked.trans (State.applyPort_pace ..)) checked
  rw [opened.same]
  unfold State.pace
  rw [State.getFt_modFt_same]

end

end Sys2Proof.Machine

namespace Sys2Proof
open Machine

/-- After the command, the timebase is what the boundary makes of it, beside the start of the microframe, a step that an M-class value
owes and the mark of a saturated trim. -/
theorem microframeBoundary_gives {s : State} {p : Nat} {P : State → Prop} (hp : portOk p = true) (q : Quiet s)
    (running : (s.getFt p).running = true)
    (h : ∀ t : State, (t.getFt p).paced = (s.atBoundary p (s.getFt p)).paced → P t) : Gives (.microframeBoundary p) s P := by
  refine gives_onUnit rfl hp (h _ ?_)
  rw [State.settle_getFt (State.microframe_calm running q)]
  exact State.microframe_pace running

/-- Settles O6: nothing after the boundary's own steps reaches what they set in the timebase, and the pass that follows leaves every timebase. -/
theorem microframeBoundaryCounts : Obligations.MicroframeBoundaryCounts := by
  unfold Obligations.MicroframeBoundaryCounts
  refine ⟨fun s p hp q running => ?_, fun s p hp q running none => ?_, fun s p hp q running owed => ?_⟩
  · obtain ⟨count, run⟩ := s.atBoundary_counts p (s.getFt p)
    refine microframeBoundary_gives hp q running fun t same => ⟨?_, ?_⟩
    · exact (congrArg PortFt.count same :).trans count
    · exact ((congrArg PortFt.running same :).trans run).trans running
  · refine microframeBoundary_gives hp q running fun t same => ⟨?_, fun early => ?_⟩
    · exact (congrArg PortFt.phase same :).trans (s.atBoundary_phase p none)
    · obtain ⟨trim, frac, steps⟩ := s.atBoundary_steps p none early
      exact ⟨(congrArg PortFt.trim same :).trans trim, (congrArg PortFt.frac same :).trans frac, (congrArg PortFt.steps same :).trans steps⟩
  · exact microframeBoundary_gives hp q running fun t same => (congrArg PortFt.bias same :).trans (s.atBoundary_bias p owed)

end Sys2Proof
end

section
/-!
PROOFS. Every step has the effect of the operation it is, so it keeps whatever every operation keeps: the canonical form of the memories and
of the maps of units, and with it the fuses, the queue and the outputs (Laws/Effects.lean; 10 R278; 12 R328, R338; 17 R439).
-/
namespace Sys2Proof
open Machine

/-- Where a command answers a next state, that state is the effect of an operation on the one before, the pass included. -/
def HasEff (c : Instr) : Prop := ∀ s t, exec c s = .next t → ∃ m, Eff m s t

section
variable {c : Instr} {f : State → State} {m : Nat}

/-- What is done and the pass after it are one effect. -/
theorem Machine.Eff.settled {s u : State} (e : Eff m s u) : ∃ m, Eff m s u.settle := ⟨_, u.settle_eff.after e⟩

/-- A command that no pass follows. -/
theorem HasEff.next (h : ∀ s, exec c s = .next (f s)) (e : ∀ s, Eff m s (f s)) : HasEff c := fun s t ht => by
  rw [h, Host.Outcome.next.injEq] at ht
  exact ht ▸ ⟨m, e s⟩

/-- A command that the pass follows. -/
theorem HasEff.pass (h : ∀ s, exec c s = .next (f s).settle) (e : ∀ s, Eff m s (f s)) : HasEff c := fun s t ht => by
  rw [h, Host.Outcome.next.injEq] at ht
  exact ht ▸ (e s).settled

variable {b : Bool} {k : String} {n : Nat}

/-- A command of one unit that no pass follows. -/
theorem HasEff.unit (h : ∀ s, exec c s = onUnit b k n (f s)) (e : ∀ s, Eff m s (f s)) : HasEff c := fun s t ht => by
  rw [h] at ht
  exact onUnit_eq_next ht ▸ ⟨m, e s⟩

/-- A command of one unit that the pass follows. -/
theorem HasEff.unitPass (h : ∀ s, exec c s = onUnit b k n (f s).settle) (e : ∀ s, Eff m s (f s)) : HasEff c := fun s t ht => by
  rw [h] at ht
  exact onUnit_eq_next ht ▸ (e s).settled

end

/-- The pass follows the expiry of a U3 exit only where the link is degraded (06 R193). -/
theorem hasEff_u3ExitTimeout (p : Nat) : HasEff (.u3ExitTimeout p) := fun s t ht => by
  have ht := onUnit_eq_next (b := portOk p) (k := "port") (n := p) ht
  split at ht
  · exact ht ▸ (s.degraded_eff p).settled
  · exact ht ▸ ⟨0, .refl 0 _⟩

/-- Each command has the effect of the operation it is. -/
theorem hasEff (c : Instr) : HasEff c := by
  cases c with
  | sdoInitiateDownload _ => exact .pass (fun _ => rfl) (Eff.sdoServed fun s => s.sdoDownload_eff ..)
  | sdoInitiateUpload _ _ _ => exact .pass (fun _ => rfl) (Eff.sdoServed fun s => s.sdoUpload_eff ..)
  | sdoSegment _ => exact .pass (fun _ => rfl) (Eff.sdoServed fun s => State.sdoGoes_eff rfl s _ fun s => s.sdoSegment_eff ..)
  | sdoBlockSegment _ =>
    exact .pass (fun _ => rfl) (Eff.sdoServed fun s => State.sdoGoes_eff rfl s _ fun s => s.sdoBlock_eff ..)
  | sdoProtocolTimedOut => exact .next (fun _ => rfl) (fun s => s.sdoLate_eff ..)
  | nmtCommand _ _ => exact .next (fun _ => rfl) (fun s => s.nmt_eff ..)
  | canHeartbeat => exact .next (fun _ => rfl) (fun s => s.heartbeat_eff ..)
  | tpdoEventTimerExpiry _ => exact .unit (fun _ => rfl) (fun s => s.tpdoTimer_eff ..)
  | tpdoChangeCompare _ => exact .unit (fun _ => rfl) (fun s => s.tpdoCompare_eff ..)
  | tpdoInhibitTimeEnd _ => exact .unit (fun _ => rfl) (fun s => s.tpdoFree_eff ..)
  | heldTransferTimeout _ => exact .next (fun _ => rfl) (fun s => s.heldLate_eff ..)
  | spiRegisterRead _ _ _ => exact .pass (fun _ => rfl) (fun s => s.spiRead_eff ..)
  | spiRegisterWrite _ _ _ => exact .pass (fun _ => rfl) (fun s => s.spiWrite_eff ..)
  | spiCatalogueRequest _ => exact .pass (fun _ => rfl) (fun s => s.spiRequest_eff ..)
  | spiCatalogueResponse _ => exact .next (fun _ => rfl) (fun s => s.spiResponse_eff ..)
  | spiStatus _ => exact .next (fun _ => rfl) (fun s => s.spiStatus_eff ..)
  | spiUnknownOpcode _ => exact .next (fun _ => rfl) (fun s => s.spiUnknown_eff ..)
  | servicePortRequest _ => exact .pass (fun _ => rfl) (fun s => s.svcAsk_eff ..)
  | servicePortResponseRead => exact .next (fun _ => rfl) (fun s => s.svcRead_eff ..)
  | registerWrite _ _ => exact .pass (fun _ => rfl) (fun s => s.boardWrite_eff ..)
  | registerReadClear _ => exact .pass (fun _ => rfl) (fun s => s.wordRead_eff ..)
  | bitAliasWrite _ _ => exact .pass (fun _ => rfl) (fun s => .ite (s.boardWrite_eff ..) (.refl ..))
  | rwpWrite _ _ => exact .next (fun _ => rfl) (Eff.boardDoes fun s => s.rwp_eff ..)
  | rwpWriteAbsorbed => exact .next (fun _ => rfl) (fun s => s.absorbed_eff ..)
  | guardedWrite _ _ => exact .pass (fun _ => rfl) (fun s => .ite (s.guarded_eff ..) (s.unserved_eff.mono rfl))
  | guardedPairTimeout => exact .next (fun _ => rfl) (fun s => s.guardLate_eff ..)
  | rvAccess _ _ => exact .next (fun _ => rfl) (fun s => s.viewAccess_eff ..)
  | normalServiceEntry => exact .pass (fun _ => rfl) (fun s => s.enterService_eff ..)
  | clkEvtClear _ => exact .next (fun _ => rfl) (Eff.boardDoes fun s => s.clkClear_eff ..)
  | linkUnitError _ => exact .unitPass (fun _ => rfl) (fun s => s.linkError_eff ..)
  | linkRetrainDone link ok =>
    exact .unitPass (fun _ => rfl) (fun s => ((s.retrained link ok).linkFlow_eff link).after (s.retrained_eff link ok))
  | pllLock pll => exact .pass (fun _ => rfl) (fun s => (s.pllLocked pll).coreWoken_eff.after (s.pllLocked_eff pll))
  | pllLockTimeout pll => exact .pass (fun _ => rfl) (fun s => (s.pllLate pll).coreWoken_eff.after (s.pllLate_eff pll))
  | pllLossOfLock _ => exact .pass (fun _ => rfl) (fun s => s.pllLoss_eff ..)
  | pllStopDelayExpiry _ => exact .next (fun _ => rfl) (fun s => s.pllIdle_eff ..)
  | refclkEthLoss => exact .pass (fun _ => rfl) (fun s => s.refEthLost_eff ..)
  | crystalFailure => exact .next (fun _ => rfl) (fun s => s.crystalLost_eff ..)
  | loanGrant _ _ => exact .unitPass (fun _ => rfl) (fun s => s.write_eff ..)
  | loanChange _ _ => exact .unitPass (fun _ => rfl) (fun s => s.write_eff ..)
  | loanEnd _ _ => exact .unitPass (fun _ => rfl) (fun s => s.write_eff ..)
  | loanResume _ _ => exact .unitPass (fun _ => rfl) (fun s => s.write_eff ..)
  | lastItemEnded _ => exact .unitPass (fun _ => rfl) (fun s => s.loanIdle_eff ..)
  | leaseExpiry _ => exact .unitPass (fun _ => rfl) (fun s => s.leaseOver_eff ..)
  | nerqueluHeartbeatSend => exact .next (fun _ => rfl) (fun s => s.beat.progressAll_eff.after s.beat_eff)
  | heartbeatReceived _ _ _ => exact .next (fun _ => rfl) (fun s => Eff.nqTake (fun s => s.beatSeen_eff ..) s _)
  | quorumWindowExpiry _ => exact .next (fun _ => rfl) (fun s => s.unheard_eff ..)
  | epochAdvanceRequest _ => exact .next (fun _ => rfl) (fun s => s.write_eff ..)
  | epochPropose _ _ => exact .next (fun _ => rfl) (fun s => Eff.nqTake (fun s => s.proposed_eff ..) s _)
  | epochAccept _ _ => exact .next (fun _ => rfl) (fun s => Eff.nqTake (fun s => s.acceptSeen_eff ..) s _)
  | epochAdvanceTimeout => exact .next (fun _ => rfl) (fun s => s.epochLate_eff ..)
  | lockAcquire _ _ => exact .unit (fun _ => rfl) (fun s => s.lockVia_eff ..)
  | lockRelease _ _ => exact .unit (fun _ => rfl) (fun s => s.lockVia_eff ..)
  | lockBreak _ _ => exact .unit (fun _ => rfl) (fun s => s.lockVia_eff ..)
  | lockRequestMessage _ _ => exact .next (fun _ => rfl) (fun s => Eff.nqTake (fun s => s.lockServe_eff ..) s _)
  | lockAnswerMessage _ _ => exact .next (fun _ => rfl) (fun s => Eff.nqTake (fun s => s.lockSeen_eff ..) s _)
  | lockOwnerLostExpiry _ => exact .next (fun _ => rfl) (fun s => s.lockLost_eff ..)
  | upstreamLinksEnabledWrite _ _ => exact .pass (fun _ => rfl) (fun s => s.write_eff ..)
  | upstreamTrainingDone _ => exact .unit (fun _ => rfl) (fun s => s.trainingDone_eff ..)
  | upstreamTrainingFail _ => exact .unit (fun _ => rfl) (fun s => s.trainingFail_eff ..)
  | probationExpiry _ => exact .unit (fun _ => rfl) (fun s => s.probationEnd_eff ..)
  | upstreamLinkFault _ => exact .unitPass (fun _ => rfl) (fun s => s.linkFault_eff ..)
  | allDownHoldExpiry => exact .pass (fun _ => rfl) (fun s => s.allDownEnd_eff ..)
  | isaixFrameSend _ => exact .unitPass (fun _ => rfl) (fun s => s.frameSend_eff ..)
  | isaixDataFrame _ => exact .pass (fun _ => rfl) (fun s => s.dataFrame_eff ..)
  | isaixAckFrame _ => exact .pass (fun _ => rfl) (fun s => s.ackFrame_eff ..)
  | isaixProbeFrame _ => exact .pass (fun _ => rfl) (fun s => s.probeFrame_eff ..)
  | ackDelayExpiry _ => exact .unitPass (fun _ => rfl) (fun s => s.ackDelayEnd_eff ..)
  | reorderAllowanceExpiry _ _ => exact .unitPass (fun _ => rfl) (fun s => s.reorderEnd_eff ..)
  | retransmissionTimeout _ => exact .unitPass (fun _ => rfl) (fun s => s.rtoEnd_eff ..)
  | ptpSync _ => exact .next (fun _ => rfl) (fun s => s.syncSeen_eff ..)
  | ptpDelayResponse _ => exact .next (fun _ => rfl) (fun s => s.delayMeasured_eff ..)
  | syncTimeout => exact .next (fun _ => rfl) (fun s => s.syncLost_eff ..)
  | ppsOutSecond => exact .next (fun _ => rfl) (fun s => s.ppsRise_eff ..)
  | ppsOutWidthEnd => exact .next (fun _ => rfl) (fun s => s.ppsFall_eff ..)
  | ppsInEdge _ => exact .next (fun _ => rfl) (fun s => s.ppsEdge_eff ..)
  | openSession _ => exact .pass (fun _ => rfl) (fun s => s.openReq_eff ..)
  | confirm _ => exact .pass (fun _ => rfl) (fun s => s.confirmed_eff ..)
  | openTimeout _ => exact .unit (fun _ => rfl) (fun s => s.giveUp_eff ..)
  | closeDrain _ => exact .pass (fun _ => rfl) (fun s => .ite (s.sessionFrame_eff ..) (.refl ..))
  | closeAbort _ => exact .pass (fun _ => rfl) (fun s => .ite (s.sessionFrame_eff ..) (.refl ..))
  | sessionReset _ _ => exact .pass (fun _ => rfl) (fun s => s.sessReset_eff ..)
  | sessionEndingComplete _ => exact .unitPass (fun _ => rfl) (fun s => s.endingDone_eff ..)
  | vbusOn _ => exact .pass (fun _ => rfl) (fun s => s.recVbusOn_eff ..)
  | vbusOff _ => exact .pass (fun _ => rfl) (fun s => s.recVbusOff_eff ..)
  | portReset _ => exact .pass (fun _ => rfl) (fun s => s.recPortReset_eff ..)
  | suspendTree _ => exact .pass (fun _ => rfl) (fun s => s.recSuspendTree_eff ..)
  | resumeTree _ => exact .pass (fun _ => rfl) (fun s => s.recResumeTree_eff ..)
  | disable _ => exact .pass (fun _ => rfl) (fun s => s.recDisable_eff ..)
  | portStatus _ => exact .next (fun _ => rfl) (fun s => s.recPortStatus_eff ..)
  | pipeOpen _ => exact .pass (fun _ => rfl) (fun s => s.recPipeOpen_eff ..)
  | pipeClose _ => exact .pass (fun _ => rfl) (fun s => s.recPipeClose_eff ..)
  | pipeResync _ => exact .pass (fun _ => rfl) (fun s => s.recPipeResync_eff ..)
  | pipeAbort _ => exact .pass (fun _ => rfl) (fun s => s.recPipeAbort_eff ..)
  | transfer _ => exact .pass (fun _ => rfl) (fun s => s.recTransfer_eff ..)
  | outData _ => exact .pass (fun _ => rfl) (fun s => s.outMore_eff ..)
  | catRead _ => exact .pass (fun _ => rfl) (fun s => s.recCatRead_eff ..)
  | catWrite _ => exact .pass (fun _ => rfl) (fun s => s.recCatWrite_eff ..)
  | vhostStop _ => exact .pass (fun _ => rfl) (fun s => s.recVhostStop_eff ..)
  | vhostStart _ => exact .pass (fun _ => rfl) (fun s => s.recVhostStart_eff ..)
  | unknownCommandRecord _ _ => exact .pass (fun _ => rfl) (fun s => s.recUnknownCommandRecord_eff ..)
  | deadlineExpiry _ _ => exact .pass (fun _ => rfl) (fun s => s.deadline_eff ..)
  | vbusGood p => exact .unitPass (fun _ => rfl) (fun s => ((s.portGood p).vconnApply_eff p).after (s.portGood_eff p))
  | portVbusOff _ => exact .unitPass (fun _ => rfl) (fun s => s.portOff_eff ..)
  | connect _ _ => exact .unitPass (fun _ => rfl) (fun s => s.portConnect_eff ..)
  | connectionConfirmed _ => exact .unitPass (fun _ => rfl) (fun s => s.portConfirmed_eff ..)
  | portDisconnect _ => exact .unitPass (fun _ => rfl) (fun s => s.disconnected_eff ..)
  | pollingTimeout _ => exact .unitPass (fun _ => rfl) (fun s => s.pollTimeout_eff ..)
  | portResetEnd _ _ => exact .unitPass (fun _ => rfl) (fun s => s.resetEnd_eff ..)
  | resetRecoveryExpiry _ => exact .unitPass (fun _ => rfl) (fun s => s.resetRecovered_eff ..)
  | deviceResetRequest _ _ _ =>
    exact .unitPass (fun _ => rfl) (fun s => State.viaWrite_eff rfl s _ _ _ _ fun s => s.resetDevice_eff ..)
  | enumerationRequestComplete _ _ => exact .unitPass (fun _ => rfl) (fun s => s.enumReq_eff ..)
  | setAddressRecoveryExpiry _ => exact .unit (fun _ => rfl) (fun s => s.addressSettled_eff ..)
  | addressRelease _ _ => exact .unit (fun _ => rfl) (fun s => s.addressFree_eff ..)
  | externalHubStatusChange _ _ _ _ => exact .unitPass (fun _ => rfl) (fun s => s.hubChange_eff ..)
  | superspeedRecovery _ _ => exact .unitPass (fun _ => rfl) (fun s => s.recovery_eff ..)
  | recoveryWindowExpiry _ => exact .unit (fun _ => rfl) (fun s => s.modUsb_eff ..)
  | restoreRequestComplete _ _ => exact .unitPass (fun _ => rfl) (fun s => s.restoreReq_eff ..)
  | restoreWindowExpiry _ => exact .unitPass (fun _ => rfl) (fun s => s.restWindow_eff ..)
  | restoreTimeout _ => exact .unitPass (fun _ => rfl) (fun s => s.restLate_eff ..)
  | suspendEntryDone _ => exact .unit (fun _ => rfl) (fun s => s.suspendDone_eff ..)
  | idleSuspendExpiry _ => exact .unit (fun _ => rfl) (fun s => s.idleSuspend_eff ..)
  | suspendCurrentCheck _ _ => exact .unitPass (fun _ => rfl) (fun s => s.suspChecked_eff ..)
  | resumeSignallingDone _ => exact .unitPass (fun _ => rfl) (fun s => s.resumed_eff ..)
  | u3ExitTimeout p => exact hasEff_u3ExitTimeout p
  | remoteWake _ _ => exact .unitPass (fun _ => rfl) (fun s => s.wakeSeen_eff ..)
  | l1IdleExpiry _ => exact .unit (fun _ => rfl) (fun s => s.l1Idle_eff ..)
  | quarantineRelease _ _ =>
    exact .unitPass (fun _ => rfl) (fun s => State.viaWrite_eff rfl s _ _ _ _ fun s => s.releaseAsked_eff ..)
  | microframeBoundary _ => exact .unitPass (fun _ => rfl) (fun s => s.microframe_eff ..)
  | transactionComplete pipe res =>
    exact .unitPass (fun _ => rfl) (fun s => ((s.ctxUse pipe).xactEnd_eff pipe res).after (s.ctxUse_eff pipe))
  | interfaceMapReadComplete _ _ _ => exact .unitPass (fun _ => rfl) (fun s => s.mapDone_eff ..)
  | erdy _ _ => exact .unitPass (fun _ => rfl) (fun s => s.erdy_eff ..)
  | pipeFree _ => exact .unitPass (fun _ => rfl) (fun s => s.freePipe_eff ..)
  | pipeViewSelect _ => exact .unit (fun _ => rfl) (fun s => s.viewPipe_eff ..)
  | vaultEnable _ => exact .pass (fun _ => rfl) (fun s => s.vaultEnabled_eff ..)
  | vaultDisable _ => exact .pass (fun _ => rfl) (fun s => s.write_eff ..)
  | vaultRead _ => exact .pass (fun _ => rfl) (fun s => s.recVaultRead_eff ..)
  | vaultWrite _ => exact .pass (fun _ => rfl) (fun s => s.recVaultWrite_eff ..)
  | vaultFlush _ => exact .pass (fun _ => rfl) (fun s => s.recVaultFlush_eff ..)
  | vaultDeallocate _ => exact .pass (fun _ => rfl) (fun s => s.recVaultDeallocate_eff ..)
  | nvmeCommandComplete _ _ => exact .pass (fun _ => rfl) (fun s => s.nvmeDone_eff ..)
  | nvmeCommandTimeout _ => exact .pass (fun _ => rfl) (fun s => s.nvmeLate_eff ..)
  | templateLoad _ => exact .pass (fun _ => rfl) (fun s => s.recTemplateLoad_eff ..)
  | fanoutStart _ => exact .pass (fun _ => rfl) (fun s => s.recFanoutStart_eff ..)
  | fanoutStatus _ => exact .pass (fun _ => rfl) (fun s => s.recFanoutStatus_eff ..)
  | fanoutCancel _ => exact .pass (fun _ => rfl) (fun s => s.recFanoutCancel_eff ..)
  | exchangeStatus _ _ _ => exact .unitPass (fun _ => rfl) (fun s => s.statusSeen_eff ..)
  | statusPhaseTimeout _ _ => exact .unitPass (fun _ => rfl) (fun s => s.statusLate_eff ..)
  | verifyReadComplete _ _ _ => exact .unitPass (fun _ => rfl) (fun s => s.verifySeen_eff ..)
  | jobResultRetentionExpiry _ => exact .unitPass (fun _ => rfl) (fun s => s.jobFree_eff ..)
  | fanoutProgress _ _ => exact .next (fun _ => rfl) (fun s => Eff.nqTake (fun s => s.jobView_eff ..) s _)
  | captureStart _ => exact .pass (fun _ => rfl) (fun s => s.recCaptureStart_eff ..)
  | captureStop _ => exact .pass (fun _ => rfl) (fun s => s.recCaptureStop_eff ..)
  | go _ => exact .unitPass (fun _ => rfl) (fun s => Eff.chanCommand (fun s c => s.chanGo_eff c) s _)
  | resume _ => exact .unitPass (fun _ => rfl) (fun s => Eff.chanCommand (fun s c => s.chanResume_eff c) s _)
  | skip _ => exact .unitPass (fun _ => rfl) (fun s => Eff.chanCommand (fun s c => s.chanSkip_eff c) s _)
  | stop _ => exact .unitPass (fun _ => rfl) (fun s => Eff.chanCommand (fun s c => s.chanStop_eff c) s _)
  | descriptorEnd _ _ => exact .unitPass (fun _ => rfl) (fun s => s.descriptorEnd_eff ..)
  | moverBusError _ _ => exact .unitPass (fun _ => rfl) (fun s => s.busError_eff ..)
  | pipeShortEnd _ _ => exact .unitPass (fun _ => rfl) (fun s => s.shortEnd_eff ..)
  | stoppingComplete _ => exact .unitPass (fun _ => rfl) (fun s => s.chanStopped_eff ..)
  | checkUnitFree _ => exact .unitPass (fun _ => rfl) (fun s => s.unitFree_eff ..)
  | moverWindowAccess _ _ => exact .next (fun _ => rfl) (Eff.boardDoes fun s => s.windowAccess_eff ..)
  | scanGo _ => exact .pass (fun _ => rfl) (Eff.boardDoes fun s => s.scanGo_eff ..)
  | scanComplete => exact .pass (fun _ => rfl) (fun s => s.scanDone_eff ..)
  | scrubPass _ => exact .pass (fun _ => rfl) (fun s => s.scrubPass_eff ..)
  | regionZeroingDone _ => exact .pass (fun _ => rfl) (fun s => s.zeroed_eff ..)
  | rdOnOneCc _ _ _ => exact .unit (fun _ => rfl) (fun s => s.ccPins_eff ..)
  | ccAttachDebounceExpiry _ => exact .unit (fun _ => rfl) (fun s => s.ccAttached_eff ..)
  | rdLost _ => exact .unit (fun _ => rfl) (fun s => s.rdLost_eff ..)
  | ccDetachDebounceExpiry _ => exact .unitPass (fun _ => rfl) (fun s => s.ccLost_eff ..)
  | unattachedDrainDone _ => exact .unit (fun _ => rfl) (fun s => s.ccDrained_eff ..)
  | vconnFault _ => exact .unit (fun _ => rfl) (fun s => s.vconnFault_eff ..)
  | discoverIdentityInterval _ => exact .unit (fun _ => rfl) (fun s => s.discover_eff ..)
  | cableIdentityReceived _ _ _ _ => exact .unit (fun _ => rfl) (fun s => s.cableRead_eff ..)
  | bc12PrimaryDetection _ => exact .unit (fun _ => rfl) (fun s => s.bcDetected_eff ..)
  | rpCurrentAdjustExpiry _ => exact .unit (fun _ => rfl) (fun s => s.rpAdjusted_eff ..)
  | sourceCapabilitiesInterval _ _ => exact .unit (fun _ => rfl) (fun s => s.capsDue_eff ..)
  | pdRequest _ _ => exact .unit (fun _ => rfl) (fun s => s.pdRequest_eff ..)
  | eprModeEnter _ => exact .unit (fun _ => rfl) (fun s => s.eprEnter_eff ..)
  | eprKeepalive _ => exact .unit (fun _ => rfl) (fun s => .ite (s.pdAnswer_eff ..) (.refl ..))
  | getSourceCap _ => exact .unit (fun _ => rfl) (fun s => s.capsAsked_eff ..)
  | getStatus _ => exact .unit (fun _ => rfl) (fun s => s.pdAnswer_eff ..)
  | getRevision _ => exact .unit (fun _ => rfl) (fun s => s.pdAnswer_eff ..)
  | prSwap _ => exact .unit (fun _ => rfl) (fun s => s.pdAnswer_eff ..)
  | drSwap _ => exact .unit (fun _ => rfl) (fun s => s.pdAnswer_eff ..)
  | vconnSwap _ => exact .unit (fun _ => rfl) (fun s => s.pdAnswer_eff ..)
  | frSwap _ => exact .unit (fun _ => rfl) (fun s => s.pdAnswer_eff ..)
  | structuredVdm _ => exact .unit (fun _ => rfl) (fun s => s.pdAnswer_eff ..)
  | psRdy _ => exact .unit (fun _ => rfl) (fun s => s.psRdy_eff ..)
  | ppsKeepaliveTimeout _ => exact .unitPass (fun _ => rfl) (fun s => s.keepLost_eff ..)
  | eprKeepaliveTimeout _ => exact .unitPass (fun _ => rfl) (fun s => s.keepLost_eff ..)
  | hardReset _ _ => exact .unitPass (fun _ => rfl) (fun s => s.hardReset_eff ..)
  | hardResetRecoveryExpiry _ => exact .unit (fun _ => rfl) (fun s => s.hardRecovered_eff ..)
  | renegotiationNoRequestExpiry _ => exact .unitPass (fun _ => rfl) (fun s => s.noRequest_eff ..)
  | statusWordPoll _ _ =>
    exact .unitPass (fun _ => rfl) (fun s => (State.tripWake_eff ..).after ((State.stageEvent_eff ..).after (s.pmbus_eff ..)))
  | smbalert _ _ =>
    exact .unitPass (fun _ => rfl) (fun s => (State.tripWake_eff ..).after ((State.stageEvent_eff ..).after (s.pmbus_eff ..)))
  | stageWarningClearExpiry _ => exact .unit (fun _ => rfl) (fun s => s.warnClear_eff ..)
  | pmbusBusHeldLow _ => exact .unitPass (fun _ => rfl) (fun s => s.busHeld_eff ..)
  | pmbusSegmentRecovered _ => exact .unit (fun _ => rfl) (fun s => s.busFreed_eff ..)
  | galleryPowerSum _ => exact .unit (fun _ => rfl) (fun s => s.powerSum_eff ..)
  | raiseSlot _ => exact .unit (fun _ => rfl) (fun s => s.raiseSlot_eff ..)
  | servicePortFastDomainOn => exact .next (fun _ => rfl) (fun s => s.svcDomain_eff ..)
  | servicePortFastDomainOff => exact .next (fun _ => rfl) (fun s => s.svcDomain_eff ..)
  | servicePortRpSeen => exact .next (fun _ => rfl) (fun s => s.svcSink_eff ..)
  | servicePortRdSeen => exact .next (fun _ => rfl) (fun s => s.svcSrc_eff ..)
  | servicePortRoleToggle => exact .next (fun _ => rfl) (fun s => s.svcToggle_eff ..)
  | servicePortVbusLoss => exact .next (fun _ => rfl) (fun s => .ite (s.svcOff_eff ..) (.refl ..))
  | servicePortRdLost => exact .next (fun _ => rfl) (fun s => .ite (s.svcOff_eff ..) (.refl ..))
  | currentSample _ _ _ => exact .unitPass (fun _ => rfl) (fun s => (State.tripWake_eff ..).after (s.sample_eff ..))
  | fastTrip _ => exact .unitPass (fun _ => rfl) (fun s => (State.tripWake_eff ..).after (s.fastTrip_eff ..))
  | offsetMeasurement _ => exact .unit (fun _ => rfl) (fun s => s.measure_eff ..)
  | offsetMeasurementEnd _ _ => exact .unit (fun _ => rfl) (fun s => s.measured_eff ..)
  | prechargeDone _ => exact .unit (fun _ => rfl) (fun s => s.precharged_eff ..)
  | rampSafePoint _ => exact .unit (fun _ => rfl) (fun s => s.safePoint_eff ..)
  | vbusSettleExpiry _ => exact .unitPass (fun _ => rfl) (fun s => s.settled_eff ..)
  | rampTimeout _ => exact .unitPass (fun _ => rfl) (fun s => (State.tripWake_eff ..).after (s.rampLate_eff ..))
  | vbusDrained _ => exact .unitPass (fun _ => rfl) (fun s => (State.tripWake_eff ..).after (s.drainedVbus_eff ..))
  | drainTimeout _ => exact .unitPass (fun _ => rfl) (fun s => (State.tripWake_eff ..).after (s.stuckOn_eff ..))
  | retryOffTimeExpiry _ _ => exact .unitPass (fun _ => rfl) (fun s => (State.tripWake_eff ..).after (s.retry_eff ..))
  | retryClearExpiry _ => exact .unit (fun _ => rfl) (fun s => s.retryCleared_eff ..)
  | requestedStateWrite _ _ => exact .pass (fun _ => rfl) (fun s => s.write_eff ..)
  | entryGuardClear => exact .pass (fun _ => rfl) (fun s => s.guardsClear_eff ..)
  | drowseIdleExpiry => exact .pass (fun _ => rfl) (fun s => s.drowseIdle_eff ..)
  | settlingDone => exact .pass (fun _ => rfl) (fun s => s.settlingDone_eff ..)
  | pgMainLost => exact .next (fun _ => rfl) (fun s => s.pgLost_eff ..)
  | wakeNFall => exact .next (fun _ => rfl) (fun s => s.wake_eff ..)
  | alarmExpiry => exact .next (fun _ => rfl) (fun s => s.alarm_eff ..)
  | servicePortVbusWake => exact .next (fun _ => rfl) (fun s => s.wake_eff ..)
  | dormantAccessWake => exact .next (fun _ => rfl) (fun s => s.dormantAccess_eff ..)
  | domainPowerGood _ => exact .pass (fun _ => rfl) (fun s => s.powerGood_eff ..)
  | powerGoodTimeout _ => exact .pass (fun _ => rfl) (fun s => s.powerLate_eff ..)
  | coreVoltageUpdate _ => exact .next (fun _ => rfl) (fun s => s.coreUpdate_eff ..)
  | reactionTimeExpiry _ => exact .unitPass (fun _ => rfl) (fun s => s.reactionEnd_eff ..)
  | faultAcknowledge _ _ => exact .pass (fun _ => rfl) (fun s => s.ack_eff ..)
  | safeStopRelease _ => exact .pass (fun _ => rfl) (fun s => s.write_eff ..)
  | junctionTemperatureReading _ _ => exact .unitPass (fun _ => rfl) (fun s => s.reading_eff ..)
  | curatorWatchdogExpiry => exact .pass (fun _ => rfl) (fun s => s.curatorLost_eff ..)
  | errOutNMinimumExpiry => exact .next (fun _ => rfl) (fun s => s.modFlt_eff _)
  | emcyInhibitExpiry => exact .next (fun _ => rfl) (fun s => s.emcyDue_eff ..)
  | errorHistoryClear _ => exact .next (fun _ => rfl) (fun s => s.write_eff ..)
  | injectionArm _ => exact .next (fun _ => rfl) (Eff.boardDoes fun s => s.guardDone_eff ..)
  | coldStart _ => exact .next (fun _ => rfl) (fun s => s.coldStart_eff ..)
  | mainEnPowerGoodTimeout => exact .pass (fun _ => rfl) (fun s => s.mainLate_eff ..)
  | warmReset _ => exact .next (fun _ => rfl) (fun s => s.warmReset_eff ..)
  | resetNLow _ => exact .next (fun _ => rfl) (fun s => s.resetFall_eff ..)
  | resetNRise => exact .next (fun _ => rfl) (fun s => s.resetRise_eff ..)
  | resetRequest => exact .next (fun _ => rfl) (fun s => s.requestReset_eff ..)
  | custodianReset _ => exact .next (fun _ => rfl) (fun s => s.custodianReset_eff ..)
  | imageWrite _ _ _ => exact .next (fun _ => rfl) (fun s => State.viaWrite_eff rfl s _ _ _ _ fun s => s.writeAt_eff ..)
  | imageVerify _ => exact .next (fun _ => rfl) (fun s => s.write_eff ..)
  | rollbackCommit _ => exact .next (fun _ => rfl) (fun s => s.write_eff ..)
  | attestationNonce _ _ => exact .next (fun _ => rfl) (fun s => s.write_eff ..)
  | transportKeyWrite _ _ _ => exact .next (fun _ => rfl) (fun s => s.write_eff ..)
  | debugRequest _ => exact .pass (fun _ => rfl) (Eff.boardDoes fun s => s.debugReq_eff ..)
  | erasingComplete => exact .pass (fun _ => rfl) (fun s => s.eraseDone_eff ..)
  | crystalRunning => exact .next (fun _ => rfl) (fun s => s.crystalOn_eff ..)
  | controllerFatalStatus _ => exact .unitPass (fun _ => rfl) (fun s => s.driveFail_eff ..)
  | driveLinkDown _ => exact .unitPass (fun _ => rfl) (fun s => s.driveFail_eff ..)
  | curatorRestartTimeout => exact .next (fun _ => rfl) (fun s => s.curatorAgain_eff ..)
  | restartedCuratorRuns => exact .pass (fun _ => rfl) (fun s => s.curatorRuns_eff ..)
  | u1U2InactivityTimeout _ _ => exact .unit (fun _ => rfl) (fun s => s.uIdle_eff ..)
  | deviceInitiatedLinkEntry _ _ => exact .unit (fun _ => rfl) (fun s => s.devicePm_eff ..)
  | servicePortSourceCapabilities _ => exact .next (fun _ => rfl) (fun s => s.svcRequest_eff ..)
  | servicePortDrSwapAnswer _ => exact .next (fun _ => rfl) (fun s => s.svcSwapped_eff ..)
  | sdoAbortTransferRequest => exact .next (fun _ => rfl) (Eff.sdoServed fun s => s.sdoClose_eff)
  | jtagInstruction _ => exact .next (fun _ => rfl) (fun s => s.tap_eff ..)
  | vddStbyLoss => exact .next (fun _ => rfl) (fun s => s.standby_eff ..)
  | vddStbyReturn => exact .next (fun _ => rfl) (fun s => s.standby_eff ..)

/-- A step has an effect: that of the command at the front of the queue, or of the tick. -/
theorem step_eff {s t : State} (h : step s = .next t) : ∃ l m, Eff m { s with pending := l } t := by
  unfold step at h
  split at h
  next c rest hp => exact ⟨rest, hasEff c _ t h⟩
  next hp =>
    rw [Host.Outcome.next.injEq] at h
    exact ⟨s.pending, _, h ▸ s.tick_eff⟩

/-- Settles O51: a step has an effect, and every effect keeps the canonical forms. -/
theorem stepKeepsForm : Obligations.StepKeepsForm := by
  unfold Obligations.StepKeepsForm
  intro s t hm hu h
  obtain ⟨l, m, e⟩ := step_eff h
  exact ⟨e.memories hm, e.units hu⟩

end Sys2Proof
end

section
/-!
PROOFS. A VAULT_FLUSH while a drive command of an item that is not open yet stays in hand under the item's key (10 R283; 05 R153).
-/
namespace Sys2Proof
open Machine

/-! ### A drive command in hand for an item that is yet to come -/

/-- House session 5, Open with room for an item. -/
def houseSession5 : Session := { Session.reset with state := .opened, tenant := 0, itemLimit := 4 }

/-- A VAULT_FLUSH of session 5 (05 R153). -/
def vaultFlushRec : Rec where
  sess := 5
  acc := 0
  deadline := 0
  body := []

/-- In Run with the Vault enabled, and a command to drive 1 in hand for the item that the VAULT_FLUSH is to become. The operator's
allotment has no drive. -/
def strayVaultCommand : State :=
  ((State.reset.setSess 5 houseSession5).modDps (fun d => { d with state := .run })).modVault
    (fun v => { v with enabled := true, cmds := [(1, { Nvme.reset with drive := 1, op := 2, item := some (itemKey 0 0), issued := true })] })

theorem strayVaultCommand_quiet : Quiet strayVaultCommand := by
  constructor <;> decide +kernel

theorem vaultFlushRec_taken : Taken strayVaultCommand vaultFlushRec 0 where
  toAccepted := by constructor <;> decide +kernel
  running := by decide +kernel
  safe := by decide +kernel

/-- The item waits for the command in hand, so the session has no completion to send. -/
theorem vaultFlushRec_queue : ((strayVaultCommand.recVaultFlush vaultFlushRec).settle.getSess vaultFlushRec.sess).waiting false = [] := by
  decide +kernel

/-- Refutes O43: nothing bars a drive command in hand under the key of an item that is not open. A VAULT_FLUSH for an allotment of no drive
that comes to be that item waits for the command, so it does not complete at once. -/
theorem not_vaultItems : ¬ Obligations.VaultItems := by
  unfold Obligations.VaultItems
  rintro ⟨-, -, flush, -⟩
  obtain ⟨t, ht, -, answered⟩ := flush strayVaultCommand vaultFlushRec vaultFlushRec_taken strayVaultCommand_quiet (by decide +kernel)
    (by decide +kernel) (by decide +kernel)
  obtain ⟨q, isIn, moved, ps, fr, -, hq⟩ := answered (by decide +kernel)
  have hstep : exec (.vaultFlush vaultFlushRec) strayVaultCommand = .next (strayVaultCommand.recVaultFlush vaultFlushRec).settle := rfl
  rw [hstep, Host.Outcome.next.injEq] at ht
  subst ht
  rw [vaultFlushRec_queue] at hq
  simp at hq

end Sys2Proof
end

section
/-!
PROOFS. A CAPTURE_STOP of a capture whose item is also held for a loan: the pass that follows issues the item once more (03 R91; 10 R300).
-/
namespace Sys2Proof
open Machine

/-! ### A running capture whose item is held for its loan -/

/-- House session 5, Open with room for two items. -/
def captureSession5 : Session := { Session.reset with state := .opened, tenant := 0, itemLimit := 2 }

/-- An open bulk IN pipe of the operator on port 1. -/
def operatorInPipe : Pipe := { Pipe.reset with state := .opened, typ := 2, dirIn := true, port := 1, address := 3, endpoint := 1, maxPacket := 512 }

/-- The item of a CAPTURE_START with ACCESSION 9 of pipe 12288, one record of one block at block 0, running. -/
def runningCaptureItem : Item := { Item.reset with
  sess := 5, acc := 9, op := 0x68, stage := 1, body := natBE 4 12288 ++ zeros 12 ++ natBE 4 1 ++ natBE 2 1 ++ zeros 2 }

/-- Its capture, of no blocks. -/
def emptyCapture : Capt := { Capt.reset with item := itemKey 0 9, acc := 9 }

/-- In Run with the Vault enabled and a region of drive 1 in the operator's allotment. The capture runs, a write of its item is in hand, and
the item is also listed as held for the operator's loan, which is not Paused. -/
def heldCapture : State :=
  (((((State.reset.setSess 5 captureSession5).setPipes 12288 operatorInPipe).setItems (itemKey 0 9) runningCaptureItem).modTenants 0
    (fun x => { x with extents := [(0, 1)], heldItems := [itemKey 0 9] })).modDps (fun d => { d with state := .run })).modVault
    (fun v => { v with
      enabled := true, captures := [emptyCapture]
      cmds := [(1, { Nvme.reset with drive := 1, op := 1, item := some (itemKey 0 9), issued := true })] })

/-- A CAPTURE_STOP of ACCESSION 9 by session 5 (05 R153). -/
def captureStopRec : Rec where
  sess := 5
  acc := 0
  deadline := 0
  body := natBE 6 9 ++ zeros 2

theorem captureStopRec_taken : Taken heldCapture captureStopRec 8 where
  toAccepted := by constructor <;> decide +kernel
  running := by decide +kernel
  safe := by decide +kernel

/-- The item, still open for its write in hand, is issued once more and is in its running stage again. -/
theorem captureStopRec_stage : ((heldCapture.recCaptureStop captureStopRec).settle.getItems emptyCapture.item).stage = 1 := by
  decide +kernel

/-- Refutes O46: nothing bars a running capture from the items held for a loan that is not Paused. The stop leaves the item open for a write
in hand, and the pass that follows issues it once more as a held item, which starts a second capture under the item's key. -/
theorem not_captures : ¬ Obligations.Captures := by
  unfold Obligations.Captures
  rintro ⟨-, stop⟩
  obtain ⟨t, ht, stage⟩ := stop heldCapture captureStopRec emptyCapture captureStopRec_taken (by decide +kernel) (by decide +kernel)
    (by decide +kernel) (by decide +kernel) (by decide +kernel)
  have hstep : exec (.captureStop captureStopRec) heldCapture = .next (heldCapture.recCaptureStop captureStopRec).settle := rfl
  rw [hstep, Host.Outcome.next.injEq] at ht
  subst ht
  exact stage captureStopRec_stage

end Sys2Proof
end

section
/-!
PROOFS. The end of a job result's time while a FANOUT_START is held for a loan: the pass that follows issues it, and it takes the slot (03
R91; 10 R290, R297).
-/
namespace Sys2Proof
open Machine

/-! ### A FANOUT_START held for its loan -/

/-- A template with chunks of one block and commands of one byte, and without a status phase. -/
def oneByteTemplate : Bytes := [1, 0, 1, 0, 1] ++ zeros 347

/-- An open bulk OUT pipe of the operator to device 3 of port 1. -/
def jobOutPipe : Pipe := { Pipe.reset with state := .opened, typ := 2, port := 1, address := 3, endpoint := 1, maxPacket := 512 }

/-- Device 3 of port 1. -/
def jobDevice : Device where
  addr := 3
  depth := 1
  parent := 0
  parentPort := 0
  isHub := false
  speed := .hs
  desc := []
  serial := []
  requests := []
  map := []
  multiTt := false
  think := 0

/-- The item of a FANOUT_START with ACCESSION 9 of two blocks from upstream to device 3, over pipes 12288 and 12289. -/
def heldFanoutItem : Item := { Item.reset with
  sess := 5, acc := 9, op := 0x65
  body := [0, 1] ++ natBE 2 1 ++ zeros 12 ++ natBE 4 2 ++ zeros 12 ++
    natBE 2 (handle 1 3) ++ zeros 2 ++ natBE 4 12288 ++ natBE 4 12289 ++ zeros 20 }

/-- In Run, with no job, and the FANOUT_START listed as held for the operator's loan, which is not Paused. -/
def heldFanout : State :=
  (((((((State.reset.setSess 5 { Session.reset with state := .opened, itemLimit := 2 }).setPipes 12288 jobOutPipe).setPipes 12289
    jobOutPipe).modUsb 1 (fun u => { u with speed := .hs, devices := [jobDevice] })).setItems (itemKey 0 9) heldFanoutItem).modTenants 0
    (fun x => { x with heldItems := [itemKey 0 9] })).modDps (fun d => { d with state := .run })).modVault
    (fun v => { v with templates := [(0, oneByteTemplate)] })

/-- The item held takes the slot that is free. -/
theorem heldFanout_takes_slot : ((heldFanout.jobFree 0).settle.job 0).taken = true := by
  decide +kernel

/-- Refutes O45: nothing bars a FANOUT_START held for a loan that is not Paused when a job result's time has passed. The pass that follows
issues it, and its job takes the lowest free slot, which is the one just freed. -/
theorem not_fanoutJobs : ¬ Obligations.FanoutJobs := by
  unfold Obligations.FanoutJobs
  rintro ⟨-, -, -, -, -, -, -, retention⟩
  obtain ⟨t, ht, freed⟩ := retention heldFanout 0 (by decide) (by decide +kernel)
  have hstep : exec (.jobResultRetentionExpiry 0) heldFanout = .next (heldFanout.jobFree 0).settle := rfl
  rw [hstep, Host.Outcome.next.injEq] at ht
  subst ht
  have taken := heldFanout_takes_slot
  rw [freed] at taken
  exact absurd taken (by decide)

end Sys2Proof
end

section
/-!
PROOFS. The bytes that a store of the mover area, of the Vault or of an image slot leaves as they are (10 R278; 11 R308, R311, R312, R316;
17 R442).
-/
namespace Sys2Proof.Machine

/-! ### Byte strings in a map -/

theorem natLE_length (n v : Nat) : (natLE n v).length = n := by
  induction n generalizing v with
  | zero => rfl
  | succ n ih => exact congrArg (· + 1) (ih (v / 256))

theorem slice_length_le (d : Bytes) (o n : Nat) : (slice d o n).length ≤ n := List.length_take_le ..

/-- What is read of a map in which a byte string is stored, its first byte counted as byte `n` of the string. -/
theorem get_foldl_zipIdx_put (d : Bytes) (m : SMap Byte) (base n k : Nat) :
    SMap.get 0 ((d.zipIdx n).foldl (fun m e => SMap.put 0 m (base + e.2) e.1) m) k =
      if base + n ≤ k ∧ k < base + n + d.length then d.getD (k - (base + n)) 0 else SMap.get 0 m k := by
  induction d generalizing m n with
  | nil => exact (if_neg (by simp only [List.length_nil]; omega)).symm
  | cons b d ih =>
    rw [List.zipIdx_cons, List.foldl_cons, ih, List.length_cons]
    rcases Nat.lt_trichotomy k (base + n) with below | rfl | above
    · rw [if_neg (by omega), if_neg (by omega), SMap.get_put_other _ _ (by omega)]
    · rw [if_neg (by omega), if_pos (by omega), SMap.get_put_same, Nat.sub_self]
      rfl
    · by_cases inside : k < base + n + (d.length + 1)
      · rw [if_pos (by omega), if_pos (by omega), show k - (base + n) = k - (base + (n + 1)) + 1 by omega, List.getD_cons_succ]
      · rw [if_neg (by omega), if_neg (by omega), SMap.get_put_other _ _ (by omega)]

theorem get_putBytes (m : SMap Byte) (base : Nat) (d : Bytes) (k : Nat) :
    SMap.get 0 (putBytes m base d) k = if base ≤ k ∧ k < base + d.length then d.getD (k - base) 0 else SMap.get 0 m k :=
  get_foldl_zipIdx_put d m base 0 k

theorem get_putBytes_outside {m : SMap Byte} {base : Nat} {d : Bytes} {k : Nat} (h : k < base ∨ base + d.length ≤ k) :
    SMap.get 0 (putBytes m base d) k = SMap.get 0 m k := by
  rw [get_putBytes, if_neg (by omega)]

theorem get_putImage_outside {m : SMap Byte} {o : Nat} {d : Bytes} {k : Nat} (h : k < o ∨ o + d.length ≤ k) :
    SMap.get 0xFF (putImage m o d) k = SMap.get 0xFF m k :=
  List.foldlRecOn (motive := fun m' => SMap.get 0xFF m' k = SMap.get 0xFF m k) _ _ rfl fun m' same i hi => by
    rw [SMap.get_put_other _ _ (by have := List.mem_range.mp hi; omega), same]

/-! ### Bytes of the mover area -/

/-- Byte `k` of the mover area (11 R307). -/
def State.areaByte (s : State) (k : Nat) : Byte := SMap.get 0 s.mov.area k

/-- Every part of the state but the bytes of the mover area, as a mask of effects. -/
abbrev notArea : Nat := 0x3FFFFFFF - 2 ^ 28

theorem Eff.areaByte {m : Nat} {s t : State} (e : Eff m s t) (h : m.testBit 28 = false) (k : Nat) : t.areaByte k = s.areaByte k := by
  unfold State.areaByte
  rw [e.area h]

theorem State.areaByte_areaWrite {s : State} {o k : Nat} {d : Bytes} (h : k < o ∨ o + d.length ≤ k) :
    (s.areaWrite o d).areaByte k = s.areaByte k := by
  unfold State.areaWrite
  dsimp only
  split
  · rfl
  · exact get_putBytes_outside (by have := List.length_take_le' (s.areaSize - o) d; omega)

theorem State.injectMem_unarmed {s : State} (h : s.flt.injArmed = false) (mem : Nat) : s.injectMem mem = s :=
  if_neg (by simp [h])

theorem State.injectArea_unarmed {s : State} (h : s.flt.injArmed = false) (o : Nat) : s.injectArea o = s := by
  unfold State.injectArea
  rw [State.injectMem_unarmed h, ite_self]

theorem State.sideUse_unarmed {s : State} (h : s.flt.injArmed = false) (d : Bytes) : s.sideUse d = s := by
  unfold State.sideUse
  dsimp only
  rw [State.injectMem_unarmed h, ite_self]

theorem State.areaByte_windowWrite {s : State} {a k : Nat} {w : Word} (h : k < s.windowAt a ∨ s.windowAt a + 4 ≤ k) :
    (s.windowAccess a (some w)).areaByte k = s.areaByte k := by
  unfold State.windowAccess
  split
  · rfl
  · dsimp only
    split
    · exact State.areaByte_areaWrite (by rwa [natLE_length])
    · rfl

theorem State.areaByte_windowRead {s : State} (a k : Nat) (h : s.flt.injArmed = false) :
    (s.windowAccess a none).areaByte k = s.areaByte k := by
  unfold State.windowAccess
  split
  · rfl
  · dsimp only
    split
    · rw [State.injectArea_unarmed (s := s.emit _) h]
      exact (State.emit_eff ..).areaByte rfl k
    · exact (State.emit_eff ..).areaByte rfl k

/-- A byte that a board access keeps where it is served stays where it is not, for then the package at most wakes. -/
theorem State.areaByte_boardDoes {s : State} {k : Nat} {f : State → State} (h : (f s).areaByte k = s.areaByte k) :
    (s.boardDoes f).areaByte k = s.areaByte k := by
  unfold State.boardDoes
  split
  · exact h
  · unfold State.unserved
    split
    · exact (State.wake_eff ..).areaByte rfl k
    · rfl

/-! ### A channel's descriptor while its data moves (11 R311, R316) -/

theorem State.chan_setChan (s : State) (c : Nat) (v : Chan) : (s.setChan c v).chan c = v := SMap.get_put_same _ c v

theorem State.chan_modChan (s : State) (c : Nat) (f : Chan → Chan) : (s.modChan c f).chan c = f (s.chan c) := State.chan_setChan ..

theorem Eff.chan {m : Nat} {s t : State} (e : Eff m s t) (h : m.testBit 25 = false) (c : Nat) : t.chan c = s.chan c := by
  unfold State.chan
  rw [e.mov h]

/-- Channel `c` has the same descriptor, fetched from the same place, and byte `k` of the area is the same. -/
structure SameDesc (c k : Nat) (s t : State) : Prop where
  desc : (t.chan c).desc = (s.chan c).desc
  cur : (t.chan c).cur = (s.chan c).cur
  byte : t.areaByte k = s.areaByte k

section
variable {c k m : Nat} {s t u : State}

theorem SameDesc.refl (c k : Nat) (s : State) : SameDesc c k s s := ⟨rfl, rfl, rfl⟩

theorem SameDesc.trans (h : SameDesc c k s t) (g : SameDesc c k t u) : SameDesc c k s u :=
  ⟨g.desc.trans h.desc, g.cur.trans h.cur, g.byte.trans h.byte⟩

theorem Eff.sameDesc (e : Eff m s t) (mov : m.testBit 25 = false) (area : m.testBit 28 = false) : SameDesc c k s t :=
  ⟨by rw [e.chan mov], by rw [e.chan mov], e.areaByte area k⟩

theorem SameDesc.of_chans (chans : t.mov.chans = s.mov.chans) (byte : t.areaByte k = s.areaByte k) : SameDesc c k s t := by
  refine ⟨?_, ?_, byte⟩ <;> unfold State.chan <;> rw [chans]

theorem SameDesc.modMov {f : Mov → Mov} (h : SameDesc c k s t) (chans : (f t.mov).chans = t.mov.chans) (area : (f t.mov).area = t.mov.area) :
    SameDesc c k s (t.modMov f) :=
  h.trans (.of_chans chans ((State.modMov_eff t f area).areaByte rfl k))

theorem SameDesc.modChan {f : Chan → Chan} (h : SameDesc c k s t) (desc : (f (t.chan c)).desc = (t.chan c).desc)
    (cur : (f (t.chan c)).cur = (t.chan c).cur) : SameDesc c k s (t.modChan c f) :=
  h.trans ⟨by rw [State.chan_modChan, desc], by rw [State.chan_modChan, cur], (State.modChan_eff ..).areaByte rfl k⟩

theorem State.chanEvent_sameDesc (s : State) (c k : Nat) (b : BitVec 5) : SameDesc c k s (s.chanEvent c b) := by
  have set : SameDesc c k s (s.setChan c { s.chan c with evt := (s.chan c).evt ||| b }) :=
    ⟨by rw [State.chan_setChan], by rw [State.chan_setChan], (State.setChan_eff ..).areaByte rfl k⟩
  unfold State.chanEvent
  dsimp only
  split
  · exact set
  · exact set.trans ((State.houseEvent_eff ..).sameDesc rfl rfl)

theorem SameDesc.event {b : BitVec 5} {q : Prop} [Decidable q] (h : SameDesc c k s t) :
    SameDesc c k s (if q then t.chanEvent c b else t) := by
  split
  · exact h.trans (t.chanEvent_sameDesc c k b)
  · exact h

theorem State.areaWrite_sameDesc {o : Nat} {d : Bytes} (h : k < o ∨ o + d.length ≤ k) : SameDesc c k s (s.areaWrite o d) := by
  refine .of_chans ?_ (State.areaByte_areaWrite h)
  unfold State.areaWrite
  dsimp only
  split <;> rfl

/-- A destination's lines are written within themselves. -/
theorem State.scatter_sameDesc {x : Side} (h : x.1 = 0 → ∀ o ∈ sideLines x, k < o ∨ o + x.2.2.1 ≤ k) (lo : Nat) (d : Bytes) :
    SameDesc c k s (s.scatter x lo d) := by
  unfold State.scatter
  refine List.foldlRecOn (motive := SameDesc c k s) _ _ (.refl ..) fun t kept e he => kept.trans ?_
  dsimp only
  split
  · exact .refl ..
  · next filled =>
    split
    · next toArea =>
      have line := h toArea e.1 (List.fst_mem_of_mem_zipIdx he)
      have cut := slice_length_le d (max lo (e.2 * x.2.2.1)) ((e.2 + 1) * x.2.2.1 - max lo (e.2 * x.2.2.1))
      have some := List.length_pos_iff.mpr (fun none => filled (.inl none))
      have next : (e.2 + 1) * x.2.2.1 = e.2 * x.2.2.1 + x.2.2.1 := Nat.succ_mul ..
      exact State.areaWrite_sameDesc (by omega)
    · exact (State.emit_eff ..).sameDesc rfl rfl

/-- A byte that the descriptor's destination and the descriptor itself leave alone. -/
structure Spared (s : State) (c k : Nat) : Prop where
  desc : k < (s.chan c).cur ∨ (s.chan c).cur + 64 ≤ k
  dst : (dstSide (s.chan c).desc).1 = 0 → ∀ o ∈ sideLines (dstSide (s.chan c).desc), k < o ∨ o + (dstSide (s.chan c).desc).2.2.1 ≤ k

theorem Spared.kept (p : Spared s c k) (h : SameDesc c k s t) : Spared t c k where
  desc := by rw [h.cur]; exact p.desc
  dst := by rw [h.desc]; exact p.dst

/-- A byte that the descriptor spares is spared by the writes of the channel's data. -/
theorem State.chanWrite_sameDesc (p : Spared s c k) (out : Bytes) : SameDesc c k s (s.chanWrite c out) := by
  unfold State.chanWrite
  dsimp only
  exact .event (.event (.modChan (.modMov (State.scatter_sameDesc p.dst ..) rfl rfl) rfl rfl))

theorem State.areaByte_descStatus (p : Spared s c k) (done short : Bool) (cause : Nat) :
    (s.descStatus c done short cause).areaByte k = s.areaByte k := by
  have outside := p.desc
  unfold State.descStatus
  dsimp only
  rw [State.areaByte_areaWrite, State.areaByte_areaWrite, State.areaByte_areaWrite] <;> rw [natLE_length] <;> omega

/-- A descriptor that ends writes its status; what follows stores nothing in the area. -/
theorem State.areaByte_descEnd (p : Spared s c k) (short : Bool) (cause : Nat) : (s.descEnd c short cause).areaByte k = s.areaByte k := by
  have counted (t : State) : Eff 33554432 t (t.modMov (fun m => { m with descs := satAdd m.descs 1 })) := t.modMov_eff _ rfl
  have rest : Eff notArea (s.descStatus c true short cause) (s.descEnd c short cause) := by
    unfold State.descEnd
    dsimp only
    refine .ite (.by (State.chanEvent_eff ..) (by decide) (.by (State.modChan_eff ..) (by decide) ?_))
      (.by (State.chanFetch_eff ..) (by decide) ?_)
    all_goals
      refine .ite (.by (State.chanEvent_eff ..) (by decide) ?_) ?_
      all_goals exact .by (counted _) (by decide) (.by (State.chanFree_eff ..) (by decide) (.refl ..))
  rw [rest.areaByte rfl, State.areaByte_descStatus p]

theorem State.areaByte_readBack (p : Spared s c k) : (s.readBack c).areaByte k = s.areaByte k := by
  unfold State.readBack
  dsimp only
  split
  · refine Eff.areaByte (m := notArea) (.foldl (fun v x => ?_) ?_) rfl k
    · exact .by (v.nvme_eff ..) (by decide) (.refl ..)
    · exact .by (State.modChan_eff ..) (by decide) (.refl ..)
  · exact State.areaByte_descEnd p false 0

theorem State.areaByte_descWritten (p : Spared s c k) : (s.descWritten c).areaByte k = s.areaByte k := by
  unfold State.descWritten
  dsimp only
  have checked : SameDesc c k s (s.modChan c (fun x => { x with check := ((s.chan c).made (s.chan c).got).2.1 })) :=
    .modChan (.refl ..) rfl rfl
  have written := checked.trans (State.chanWrite_sameDesc (p.kept checked) ((s.chan c).made (s.chan c).got).1)
  split
  · rw [Eff.areaByte (m := notArea) (.by (State.note_eff ..) (by decide) (.by (State.chanHalt_eff ..) (by decide)
      (.by (State.modMov_eff _ _ (by rfl)) (by decide) (.by (State.modChan_eff ..) (by decide) (.refl ..))))) rfl, written.byte]
  · rw [State.areaByte_readBack (p.kept written), written.byte]

theorem State.vaultWrites_sameDesc (out : Bytes) : SameDesc c k s (s.vaultWrites c out) := by
  unfold State.vaultWrites
  dsimp only
  exact (SameDesc.modChan (.refl ..) rfl rfl).trans (Eff.sameDesc (m := 16777216) (.foldl (fun v e => v.writeCmds_eff ..) (.refl ..)) rfl rfl)

/-- A move that completes stores in the area the bytes of its destination and its descriptor's status, and no other. -/
theorem State.areaByte_descMoved (p : Spared s c k) (data : Bytes) : (s.descMoved c data).areaByte k = s.areaByte k := by
  unfold State.descMoved
  dsimp only
  split
  · rfl
  · have got : SameDesc c k s (s.modChan c (fun x => { x with
        got := (s.chan c).got ++ (s.gather (srcSide (s.chan c).desc) data).drop (s.chan c).got.length
        unwritten := x.unwritten || s.gatherFresh (srcSide (s.chan c).desc) })) := .modChan (.refl ..) rfl rfl
    split
    · have sent := got.trans (State.vaultWrites_sameDesc ((s.chan c).made
        ((s.chan c).got ++ (s.gather (srcSide (s.chan c).desc) data).drop (s.chan c).got.length)).1)
      split
      · exact sent.byte
      · rw [State.areaByte_descWritten (p.kept sent), sent.byte]
    · rw [State.areaByte_descWritten (p.kept got), got.byte]

theorem State.areaByte_descriptorEnd (p : Spared s c k) (h : s.flt.injArmed = false) (data : Bytes) :
    (s.descriptorEnd c data).areaByte k = s.areaByte k := by
  unfold State.descriptorEnd
  dsimp only
  split
  · rfl
  · rw [State.sideUse_unarmed h, State.areaByte_descMoved p]

end

/-! ### Bytes of the Vault (10 R278) -/

/-- Byte `k` of the Vault's data, by region key. -/
def State.dataByte (s : State) (k : Nat) : Byte := SMap.get 0 s.vault.data k

/-- Every part of the state but the data of the Vault, as a mask of effects. -/
abbrev notData : Nat := 0x3FFFFFFF - 2 ^ 27

theorem Eff.dataByte {m : Nat} {s t : State} (e : Eff m s t) (h : m.testBit 27 = false) (k : Nat) : t.dataByte k = s.dataByte k := by
  unfold State.dataByte
  rw [e.data h]

/-- Where the data of a write command begins in the Vault's data (10 R278). -/
def State.dataAt (s : State) (c : Nvme) : Nat := s.physOf c.region * 1048576 + c.chunk * 4096

theorem State.dataAt_of_ns {s t : State} (h : t.vault.ns = s.vault.ns) (c : Nvme) : t.dataAt c = s.dataAt c := by
  unfold State.dataAt State.physOf State.spaceOf State.spaces
  rw [h]

theorem State.dropCmd_ns (s : State) (n : Nat) : (s.dropCmd n).vault.ns = s.vault.ns := by
  unfold State.dropCmd State.enableDone
  split <;> rfl

theorem State.dataByte_stored (s : State) (c : Nvme) (k : Nat) :
    (s.stored c).dataByte k = SMap.get 0 (putBytes s.vault.data (s.dataAt c) c.data) k := by
  unfold State.stored
  dsimp only
  split
  · rfl
  · exact (State.nvme_eff ..).dataByte rfl k

/-- A command that succeeds stores nothing outside its data, and nothing at all unless it is a write. -/
theorem State.dataByte_cmdDone {s : State} {c : Nvme} {k : Nat} (h : c.op = 1 → k < s.dataAt c ∨ s.dataAt c + c.data.length ≤ k) :
    (s.cmdDone c).dataByte k = s.dataByte k := by
  unfold State.cmdDone
  split
  · next write =>
    rw [(State.cmdEnded_eff ..).dataByte rfl, State.dataByte_stored]
    exact get_putBytes_outside (h write)
  · split
    · rw [(State.cmdEnded_eff ..).dataByte rfl, (State.nvme_eff ..).dataByte rfl]
    · exact (State.cmdEnded_eff ..).dataByte rfl k

theorem State.dataByte_nvmeDone {s : State} {n k : Nat} {c : Nvme} {ok : Bool} (hc : s.cmd? n = some c)
    (h : c.op = 1 → ok = true → k < s.dataAt c ∨ s.dataAt c + c.data.length ≤ k) : (s.nvmeDone n ok).dataByte k = s.dataByte k := by
  have counted (t : State) : Eff 16777216 t (t.modVault (fun v => { v with errors := satAdd v.errors 1 })) := t.modVault_eff _ rfl
  have again (t : State) (l : SMap Nvme → SMap Nvme) : Eff 16777216 t (t.modVault (fun v => { v with cmds := l v.cmds })) := t.modVault_eff _ rfl
  have drive : Eff notData s (s.setDrive c.drive { s.drive c.drive with timeouts := 0 }) := .by (s.setDrive_eff ..) (by decide) (.refl ..)
  unfold State.nvmeDone
  rw [hc]
  dsimp only
  cases ok
  case true =>
    rw [if_pos rfl, State.dataByte_cmdDone, (State.dropCmd_eff ..).dataByte rfl, drive.dataByte rfl]
    rw [State.dataAt_of_ns (s := s) (State.dropCmd_ns (s.setDrive c.drive { s.drive c.drive with timeouts := 0 }) n)]
    exact fun write => h write rfl
  case false =>
    rw [if_neg (by decide)]
    refine Eff.dataByte (m := notData) (.ite ?_ ?_) rfl k
    · exact .by (State.cmdEnded_eff ..) (by decide) (.by (State.dropCmd_eff ..) (by decide)
        (.by (State.emit_eff ..) (by decide) (.by (counted _) (by decide) drive)))
    · exact .by (State.emit_eff ..) (by decide) (.by (again _ (SMap.put Nvme.reset · n _)) (by decide)
        (.by (State.emit_eff ..) (by decide) (.by (counted _) (by decide) drive)))

/-! ### Bytes of the image slots (17 R442) -/

/-- A write of image bytes above offset 0 fails, or stores them in the slot that does not run. -/
theorem State.imageWrite_cases {s : State} {o : Nat} (ho : o ≠ 0) (d : Bytes) : (s.imageWrite o d).1 = s ∨
    (s.boot.slot = true ∧ (s.imageWrite o d).1 = s.modBoot (fun b => { b with imgA := putImage b.imgA o d })) ∨
    (s.boot.slot = false ∧ (s.imageWrite o d).1 = s.modBoot (fun b => { b with imgB := putImage b.imgB o d })) := by
  unfold State.imageWrite
  simp only [if_neg ho]
  split
  · exact .inl rfl
  · split
    · exact .inl rfl
    · split
      · next slot => exact .inr (.inl ⟨slot, rfl⟩)
      · next slot => exact .inr (.inr ⟨Bool.eq_false_iff.mpr slot, rfl⟩)

/-- Image bytes above offset 0 leave the other bytes of the slot that does not run, and the slot that runs. -/
theorem State.imageWrite_keeps {s : State} {o : Nat} (ho : o ≠ 0) (d : Bytes) :
    (if s.boot.slot then (s.imageWrite o d).1.boot.imgB = s.boot.imgB else (s.imageWrite o d).1.boot.imgA = s.boot.imgA) ∧
      ∀ k, (k < o ∨ o + d.length ≤ k) → (s.imageWrite o d).1.imgByte (!s.boot.slot) k = s.imgByte (!s.boot.slot) k := by
  rcases State.imageWrite_cases (s := s) ho d with failed | ⟨slot, stored⟩ | ⟨slot, stored⟩
  · rw [failed]
    exact ⟨by split <;> rfl, fun _ _ => rfl⟩
  · rw [stored, slot]
    exact ⟨rfl, fun k hk => get_putImage_outside hk⟩
  · rw [stored, slot]
    exact ⟨rfl, fun k hk => get_putImage_outside hk⟩

end Sys2Proof.Machine

namespace Sys2Proof
open Machine

/-! ### The commands that store -/

theorem moverWindowWrite_keeps (s : State) (a k : Nat) (w : Word) : OwnEffect (.moverWindowAccess a (some w)) s (fun u =>
    (k < s.windowAt a ∨ s.windowAt a + 4 ≤ k) → u.areaByte k = s.areaByte k) :=
  fun t ht => ⟨t, .inl rfl, fun hk => by
    have hstep : exec (.moverWindowAccess a (some w)) s = .next (s.boardDoes (fun s => s.windowAccess a (some w))) := rfl
    rw [hstep, Host.Outcome.next.injEq] at ht
    exact ht ▸ State.areaByte_boardDoes (State.areaByte_windowWrite hk)⟩

theorem moverWindowRead_keeps {s : State} (a k : Nat) (h : s.flt.injArmed = false) :
    OwnEffect (.moverWindowAccess a none) s (fun u => u.areaByte k = s.areaByte k) :=
  fun t ht => ⟨t, .inl rfl, by
    have hstep : exec (.moverWindowAccess a none) s = .next (s.boardDoes (fun s => s.windowAccess a none)) := rfl
    rw [hstep, Host.Outcome.next.injEq] at ht
    exact ht ▸ State.areaByte_boardDoes (State.areaByte_windowRead a k h)⟩

/-- What a descriptor's end does of its own, for any channel. -/
theorem descriptorEnd_own {s : State} {c : Nat} {d : Bytes} {P : State → Prop} (h : P (s.descriptorEnd c d)) :
    OwnEffect (.descriptorEnd c d) s P :=
  fun _ ht => ⟨s.descriptorEnd c d, .inr (onUnit_eq_next ht), h⟩

theorem imageWrite_keeps {s : State} {o : Nat} {path : Path} (hw : MayWrite s path 0x2701 1) (ho : o ≠ 0) (k : Nat) (d : Bytes) :
    OwnEffect (.imageWrite o d path) s (fun u =>
      (if s.boot.slot then u.boot.imgB = s.boot.imgB else u.boot.imgA = s.boot.imgA) ∧
      ((k < o ∨ o + d.length ≤ k) → u.imgByte (!s.boot.slot) k = s.imgByte (!s.boot.slot) k)) := by
  have row : s.writeAt path 0x2701 1 o d = s.imageWrite o d := by
    unfold State.writeAt
    rw [show findRow 0x2701 1 objTable = some _ from rfl, hw.free]
    rfl
  have hstep : exec (.imageWrite o d path) s = .next (s.viaWrite path 0x2701 1 (fun s => s.writeAt path 0x2701 1 o d)) := rfl
  intro t ht
  rw [hstep, State.viaWrite_reached hw.reach, row, Host.Outcome.next.injEq] at ht
  obtain ⟨running, other⟩ := State.imageWrite_keeps (s := s) ho d
  exact ⟨t, .inl rfl, ht ▸ ⟨running, other k⟩⟩

/-- Settles O57: each store is within its bytes, and what else its command does stores nothing. -/
theorem storesTouchTheirBytes : Obligations.StoresTouchTheirBytes := by
  unfold Obligations.StoresTouchTheirBytes
  refine ⟨moverWindowWrite_keeps, fun s a k h => moverWindowRead_keeps a k h, fun s c k d h => ?_, fun s c d => ?_, fun s n k c ok hc => ?_,
    fun s o k d path hw ho => imageWrite_keeps hw ho k d⟩
  · exact descriptorEnd_own fun desc dst => State.areaByte_descriptorEnd ⟨desc, dst⟩ h d
  · exact descriptorEnd_own ((State.descriptorEnd_eff ..).data rfl)
  · refine OwnEffect.intro (u := s.nvmeDone n ok) rfl fun outside => State.dataByte_nvmeDone hc fun write good => ?_
    rcases outside with other | failed | below | above
    · exact absurd write other
    · exact absurd (failed.symm.trans good) (by decide)
    · exact .inl below
    · exact .inr above

end Sys2Proof
end

section
/-!
PROOFS. The Vault going on and off, and the success, failure and lateness of drive commands, where nothing waits (10 R270 to R281, R304,
R305).
-/
namespace Sys2Proof.Machine

/-! ### The queue of commands and the rest of the Vault (10 R271, R286) -/

/-- The Vault without its queue of commands and the turns at its attachment. -/
def Vault.unqueued (v : Vault) : Vault :=
  { v with
    cmds := [], nextCmd := 0, nextSeq := 0, roomIn := 0, roomOut := 0, jobTurn := 0, drrTurn := 0, deficit := [], catchUsed := 0, restUsed := 0 }

/-- The Vault without its written map and data. -/
def Vault.unwritten (v : Vault) : Vault := { v with written := [], data := [] }

/-- The Vault without what is stored and without its queue. -/
def Vault.unstored (v : Vault) : Vault := v.unqueued.unwritten

theorem State.nvmePump_vault (s : State) (f : Nat) : (s.nvmePump f).vault.unqueued = s.vault.unqueued := by
  induction f generalizing s with
  | zero => rfl
  | succ f ih =>
    rw [State.nvmePump]
    split
    · rfl
    · split
      · exact ih _
      · rfl

/-- A command that arises changes the Vault in its queue alone. -/
theorem State.nvme_vault (s : State) (c : Nvme) (fua : Bool) : (s.nvme c fua).vault.unqueued = s.vault.unqueued := by
  unfold State.nvme
  dsimp only
  split
  · rfl
  · split
    · rfl
    · exact State.nvmePump_vault ..

/-- The Vault without its queue is enabled, or has an enable in hand; else as it was. -/
theorem State.enableDone_vault (s : State) : s.enableDone.vault = s.vault ∨
    s.enableDone.vault = { s.vault with enabling := false, enabled := true } := by
  unfold State.enableDone
  split
  · exact .inr rfl
  · exact .inl rfl

theorem State.clearing_of_cmds {s t : State} (h : t.vault.cmds = s.vault.cmds) : t.clearing = s.clearing := by
  unfold State.clearing
  rw [h]

theorem State.clearing_modVault {s : State} {f : Vault → Vault} (h : (f s.vault).cmds = s.vault.cmds) : (s.modVault f).clearing = s.clearing :=
  State.clearing_of_cmds h

theorem State.enableDone_drives (s : State) : s.enableDone.vault.drives = s.vault.drives := by
  rcases s.enableDone_vault with h | h <;> rw [h]

/-- An enable in hand comes to its end, or waits for a clearing command. -/
theorem State.enableDone_enabling {s : State} (h : s.vault.enabling = true) : s.enableDone.vault.enabled = true ∨
    (s.enableDone.vault.enabling = true ∧ s.enableDone.clearing = true) := by
  unfold State.enableDone
  split
  · exact .inl rfl
  · next waits => exact .inr ⟨h, by simpa [h] using waits⟩

theorem State.enableDone_enables {s : State} (h : s.vault.enabling = true) (hc : s.clearing = false) : s.enableDone.vault.enabled = true := by
  unfold State.enableDone
  rw [if_pos ⟨h, hc⟩]
  rfl

theorem State.dropCmd_drives (s : State) (n : Nat) : (s.dropCmd n).vault.drives = s.vault.drives := State.enableDone_drives _

theorem State.dropCmd_errors (s : State) (n : Nat) : (s.dropCmd n).vault.errors = s.vault.errors := by
  unfold State.dropCmd
  rcases State.enableDone_vault (s.modVault (fun v => { v with cmds := SMap.put Nvme.reset v.cmds n Nvme.reset })) with h | h <;> rw [h] <;> rfl

theorem State.dropCmd_cmds (s : State) (n : Nat) : (s.dropCmd n).vault.cmds = SMap.put Nvme.reset s.vault.cmds n Nvme.reset := by
  unfold State.dropCmd
  rcases State.enableDone_vault (s.modVault (fun v => { v with cmds := SMap.put Nvme.reset v.cmds n Nvme.reset })) with h | h <;> rw [h] <;> rfl

/-! ### Drives (10 R274, R305) -/

theorem State.drive_of_vault {s t : State} (h : t.vault.drives = s.vault.drives) (n : Nat) : t.drive n = s.drive n := by
  unfold State.drive
  rw [h]

theorem State.drive_setDrive (s : State) (n : Nat) (v : Drive) : (s.setDrive n v).drive n = v := SMap.get_put_same _ n v

theorem State.drive_setDrive_other (s : State) {m n : Nat} (h : m ≠ n) (v : Drive) : (s.setDrive n v).drive m = s.drive m :=
  SMap.get_put_other _ v h

theorem State.drive_emit (s : State) (x : Sent) (n : Nat) : (s.emit x).drive n = s.drive n := rfl

theorem State.drive_setEff (s : State) (idx sub : Nat) (b : Bytes) (n : Nat) : (s.setEff idx sub b).drive n = s.drive n := rfl

theorem State.drive_causeOff (s : State) (src inst n : Nat) : (s.causeOff src inst).drive n = s.drive n := rfl

/-- What a step for each drive from 1 on comes to, where it sets its own drive and leaves the others. -/
theorem State.drive_foldl {g : State → Nat → State} {P : Nat → Drive → Prop} (own : ∀ s j, P (j + 1) ((g s j).drive (j + 1)))
    (other : ∀ s j n, n ≠ j + 1 → (g s j).drive n = s.drive n) (s : State) {m n : Nat} (h1 : 1 ≤ n) (hm : n ≤ m) :
    P n (((List.range m).foldl g s).drive n) := by
  induction m with
  | zero => omega
  | succ m ih =>
    rw [List.range_succ, List.foldl_append, List.foldl_cons, List.foldl_nil]
    by_cases last : n = m + 1
    · exact last ▸ own _ m
    · rw [other _ m n last]
      exact ih (by omega)

end Sys2Proof.Machine

namespace Sys2Proof
open Machine

/-! ### Quiet states (10 R274) -/

/-- A state stays quiet where of what it waits for only the Vault's commands, drives and data change. -/
theorem Machine.Eff.quiet_vault {m : Nat} {s t : State} (e : Eff m s t) (h : Quiet s) (c : m &&& 0x2140281 = 0)
    (ended : t.vault.ended = s.vault.ended) (jobs : t.vault.jobs = s.vault.jobs) (captures : t.vault.captures = s.vault.captures) : Quiet t := by
  have b : ∀ i, (0x2140281 : Nat).testBit i = true → m.testBit i = false := by
    intro i hi
    have := congrArg (Nat.testBit · i) c
    simpa [hi] using this
  have hu := e.usb (b _ rfl)
  have hi := e.items (b _ rfl)
  have ht := e.tenants (b _ rfl)
  have hd := e.dps (b _ rfl)
  have hf := e.flt (b _ rfl)
  have hm := e.mov (b _ rfl)
  obtain ⟨h1, h2, h3, h4, h5, h6, h7, h11, h8, h9, h10⟩ := h
  exact ⟨by rw [ended, h1], by rw [jobs, h2], by rw [captures, h3], by rw [hm, h4], by rw [hf, h5], by rw [hi, h6], by rw [ht, h7], by rw [ht, h11],
    by unfold State.getUsb State.getTenants at *; rw [hu, ht]; exact h8, by rw [hd, h9], by rw [hd, h10]⟩

section
variable {s : State} (q : Quiet s)
include q

theorem Quiet.setDrive (n : Nat) (v : Drive) : Quiet (s.setDrive n v) := q.modVault _ fun _ => ⟨rfl, rfl, rfl⟩

theorem Quiet.nvme (c : Nvme) (fua : Bool) : Quiet (s.nvme c fua) :=
  have v := s.nvme_vault c fua
  (s.nvme_eff c fua).quiet_vault q (by decide) (congrArg Vault.ended v :) (congrArg Vault.jobs v :) (congrArg Vault.captures v :)

theorem Quiet.enableDone : Quiet s.enableDone := by
  unfold State.enableDone
  split
  · exact q.modVault _ fun _ => ⟨rfl, rfl, rfl⟩
  · exact q

theorem Quiet.dropCmd (n : Nat) : Quiet (s.dropCmd n) := by
  unfold State.dropCmd
  exact .enableDone (.modVault q _ fun _ => ⟨rfl, rfl, rfl⟩)

theorem Quiet.stored (c : Nvme) : Quiet (s.stored c) := by
  have data := q.modVault (fun v => { v with data := putBytes v.data (s.physOf c.region * 1048576 + c.chunk * 4096) c.data })
    fun _ => ⟨rfl, rfl, rfl⟩
  unfold State.stored
  dsimp only
  split
  · exact data
  · refine .nvme (.modVault data _ fun v => ?_) ..
    exact ⟨rfl, rfl, rfl⟩

theorem Quiet.vaultEvent (b : BitVec 12) : Quiet (s.vaultEvent b) := by
  have event := q.modVault (fun v => { v with evt := v.evt ||| b }) fun _ => ⟨rfl, rfl, rfl⟩
  unfold State.vaultEvent
  dsimp only
  split
  · exact event
  · exact Eff.of_quiet event (State.houseEvent_eff ..) (by decide)

theorem Quiet.causeOn (src inst : Nat) : Quiet (s.causeOn src inst) := by
  unfold State.causeOn
  split
  · exact q
  · exact q.modFlt _ fun _ => rfl

theorem Quiet.causeOff (src inst : Nat) : Quiet (s.causeOff src inst) := q.modFlt _ fun _ => rfl

/-- No Vault item is open, so none completes. -/
theorem Quiet.vaultBoundary (k : Nat) : s.vaultBoundary k = s := by
  unfold State.vaultBoundary
  split
  · rfl
  · next i hi =>
    have op := (q.item k).2.1
    rw [State.getItems_of_item? hi] at op
    exact if_pos (by omega)

theorem Quiet.chan (c : Nat) : s.chan c = Chan.reset := by
  unfold State.chan
  rw [q.chans]
  rfl

theorem Quiet.job (n : Nat) : s.job n = Job.reset := by
  unfold State.job
  rw [q.jobs]
  rfl

/-- The end of a command that serves no item, or that succeeded, changes nothing: no Vault item is open, no channel and no job runs. -/
theorem Quiet.cmdEnded {c : Nvme} {det : Option Nat} (h : c.item = none ∨ det = none) : s.cmdEnded c det = s := by
  have chan (n : Nat) : s.chanCmdEnd n c det = s := by
    unfold State.chanCmdEnd
    rw [q.chan]
    rfl
  have job (n tag : Nat) : s.jobReadEnd n tag c.chunk det = s := by
    unfold State.jobReadEnd
    rw [q.job]
    rfl
  unfold State.cmdEnded
  rcases h with unserved | rfl
  · rw [unserved]
    cases c.chan <;> cases c.job <;> simp only [chan, job]
  · cases c.item <;> cases c.chan <;> cases c.job <;> simp only [q.vaultBoundary, chan, job]

end

/-! ### The Vault goes on and off (10 R270 to R281, R304) -/

/-- Every drive from 1 to 8 is noted as up where it was found (10 R271). -/
def Machine.State.drivesNoted (s : State) (drives : DriveReps) : State :=
  (List.range 8).foldl (fun s j =>
    (s.setDrive (j + 1) ⟨drives.any (fun (r : DriveRep) => decide (r.drive = j + 1)), false, 0⟩).causeOff 0x28 (j + 1)) s

/-- The namespaces taken, and the house allotment as the boot flash records it (10 R272, R281). -/
def Machine.State.allotted (s : State) (nss : SMap Nspace × Nat) : State :=
  let s := s.modVault (fun v => { v with ns := nss.1, regions := nss.2 })
  let rec_ := match s.boot.config with | some f => f.house | none => s.vault.houseRec
  let house := rec_.filter (fun e => decide (e.1 + e.2 ≤ nss.2))
  let s := (s.modTenants 0 (fun x => { x with extents := house })).recordHouse
  (s.setEff 0x2304 0 (natLE 4 (extSize house))).setEff 0x2300 2 [1]

/-- The admin commands that bring up the drives found (10 R271). -/
def Machine.State.brought (s : State) (drives : DriveReps) : State :=
  drives.foldl (fun s (r : DriveRep) => s.driveUp r.drive (r.spaces.map (fun (x : NsRep) => x.nsid))) s

/-- The namespaces that the drives found hold (10 R272, R273). -/
def Machine.State.spacesFound (s : State) (drives : DriveReps) : SMap Nspace × Nat :=
  ((List.range 64).map (· + 1)).foldl ((s.brought drives).enrol drives) ([], 0)

/-- What an enable does before it clears the written bits of what is free. -/
def Machine.State.enrolled (s : State) (found : DriveReps) : State :=
  ((s.brought (s.drivesFound found)).drivesNoted (s.drivesFound found)).allotted (s.spacesFound (s.drivesFound found))

theorem Machine.State.vaultOn_off {s : State} (h : s.vault.enabled = false) (hn : s.vault.enabling = false) (found : DriveReps) :
    s.vaultOn found = (((s.enrolled found).clearExts (s.enrolled found).freeExts none).modVault
      (fun v => { v with enabling := true })).enableDone :=
  if_neg (by simp [h, hn])

section
variable {s : State} (drives : DriveReps) (nss : SMap Nspace × Nat)

theorem Machine.State.drivesNoted_drive {n : Nat} (h1 : 1 ≤ n) (h8 : n ≤ 8) :
    ((s.drivesNoted drives).drive n).up = drives.any (fun (r : DriveRep) => decide (r.drive = n)) := by
  unfold State.drivesNoted
  refine State.drive_foldl (P := fun n d => d.up = drives.any (fun (r : DriveRep) => decide (r.drive = n))) (fun t j => ?_) (fun t j n h => ?_)
    s h1 h8
  · rw [State.drive_causeOff, State.drive_setDrive]
  · rw [State.drive_causeOff, State.drive_setDrive_other _ h]

theorem Machine.State.drivesNoted_queue :
    (s.drivesNoted drives).vault.written = s.vault.written ∧ (s.drivesNoted drives).vault.cmds = s.vault.cmds := by
  unfold State.drivesNoted
  refine List.foldlRecOn (motive := fun t : State => t.vault.written = s.vault.written ∧ t.vault.cmds = s.vault.cmds) _ _ ⟨rfl, rfl⟩ ?_
  exact fun _ kept _ _ => kept

theorem Quiet.drivesNoted (q : Quiet s) : Quiet (s.drivesNoted drives) := by
  unfold State.drivesNoted
  exact List.foldlRecOn (motive := Quiet) _ _ q fun _ h _ _ => (h.setDrive ..).causeOff ..

/-- The namespaces and the house record are all of the Vault that the allotment changes. -/
theorem Machine.State.allotted_vault : ∃ l, (s.allotted nss).vault = { s.vault with ns := nss.1, regions := nss.2, houseRec := l } := by
  unfold State.allotted State.recordHouse
  dsimp only
  rw [(State.setEff_eff ..).vault rfl, (State.setEff_eff ..).vault rfl, (State.flash_eff ..).vault rfl]
  exact ⟨_, rfl⟩

theorem Quiet.setEff (q : Quiet s) (idx sub : Nat) (b : Bytes) : Quiet (s.setEff idx sub b) := Eff.of_quiet q (State.setEff_eff ..) (by decide)

theorem Quiet.recordHouse (q : Quiet s) : Quiet s.recordHouse := by
  have noted := q.modVault (fun v => { v with houseRec := (s.getTenants 0).extents }) fun _ => ⟨rfl, rfl, rfl⟩
  exact Eff.of_quiet noted (State.flash_eff _ (fun c => { c with house := (s.getTenants 0).extents })) (by decide)

theorem Quiet.allotted (q : Quiet s) : Quiet (s.allotted nss) := by
  have spaces := q.modVault (fun v => { v with ns := nss.1, regions := nss.2 }) fun _ => ⟨rfl, rfl, rfl⟩
  unfold State.allotted
  dsimp only
  refine .setEff (.setEff (.recordHouse (.modTenants spaces _ _ fun x => ?_)) ..) ..
  exact ⟨rfl, rfl, rfl⟩

/-- Clearing written bits changes the written map, the data and the queue of the Vault. -/
theorem Machine.State.clearExts_vault (l : List (Nat × Nat)) (item : Option Nat) : (s.clearExts l item).vault.unstored = s.vault.unstored := by
  unfold State.clearExts
  exact List.foldlRecOn (motive := fun t : State => t.vault.unstored = s.vault.unstored) _ _ rfl fun t kept _ _ =>
    (congrArg Vault.unwritten (t.nvme_vault ..)).trans kept

theorem Machine.State.drive_clearExts (l : List (Nat × Nat)) (item : Option Nat) (n : Nat) : (s.clearExts l item).drive n = s.drive n :=
  State.drive_of_vault (congrArg Vault.drives (s.clearExts_vault l item) :) n

theorem Machine.State.drive_modVault {f : Vault → Vault} (h : (f s.vault).drives = s.vault.drives) (n : Nat) :
    (s.modVault f).drive n = s.drive n :=
  State.drive_of_vault h n

/-- With no written bit there is nothing to clear. -/
theorem Machine.State.clearExts_unwritten (h : s.vault.written = []) (l : List (Nat × Nat)) (item : Option Nat) :
    (s.clearExts l item).vault.cmds = s.vault.cmds := by
  unfold State.clearExts
  simp only [h, List.filter_nil, List.filterMap_nil, List.any_nil, List.filter_false, List.foldl_nil]
  rfl

theorem Quiet.clearExts (q : Quiet s) (l : List (Nat × Nat)) (item : Option Nat) : Quiet (s.clearExts l item) := by
  have v := s.clearExts_vault l item
  exact (s.clearExts_eff l item).quiet_vault q (by decide) (congrArg Vault.ended v :) (congrArg Vault.jobs v :) (congrArg Vault.captures v :)

end

section
variable {s : State} (d : DriveReps)

theorem Machine.State.brought_eff (drives : DriveReps) : Eff 0 s (s.brought drives) := Eff.foldl (fun t _ => t.driveUp_eff ..) (.refl ..)

theorem Quiet.enrolled (q : Quiet s) : Quiet (s.enrolled d) :=
  .allotted _ (.drivesNoted _ (Eff.of_quiet q (State.brought_eff _) (by decide)))

/-- An enable takes up the drives found, before it clears anything. -/
theorem Machine.State.enrolled_drive {n : Nat} (h1 : 1 ≤ n) (h8 : n ≤ 8) :
    ((s.enrolled d).drive n).up = (s.drivesFound d).any (fun (x : DriveRep) => decide (x.drive = n)) := by
  obtain ⟨l, v⟩ := State.allotted_vault (s := (s.brought (s.drivesFound d)).drivesNoted (s.drivesFound d)) (s.spacesFound (s.drivesFound d))
  unfold State.enrolled
  rw [State.drive_of_vault (congrArg Vault.drives v :), State.drivesNoted_drive _ h1 h8]

theorem Machine.State.enrolled_queue : (s.enrolled d).vault.written = s.vault.written ∧ (s.enrolled d).vault.cmds = s.vault.cmds := by
  obtain ⟨l, v⟩ := State.allotted_vault (s := (s.brought (s.drivesFound d)).drivesNoted (s.drivesFound d)) (s.spacesFound (s.drivesFound d))
  obtain ⟨written, cmds⟩ := State.drivesNoted_queue (s := s.brought (s.drivesFound d)) (s.drivesFound d)
  have same := (s.brought_eff (s.drivesFound d)).vault rfl
  unfold State.enrolled
  rw [v]
  exact ⟨written.trans (congrArg Vault.written same), cmds.trans (congrArg Vault.cmds same)⟩

/-- An enable that waits for nothing but its clearing: the state before its last step. -/
def Machine.State.enablingOf (s : State) (d : DriveReps) : State :=
  ((s.enrolled d).clearExts (s.enrolled d).freeExts none).modVault (fun v => { v with enabling := true })

theorem Quiet.enablingOf (q : Quiet s) : Quiet (s.enablingOf d) := by
  have cleared := (q.enrolled d).clearExts (s.enrolled d).freeExts none
  exact cleared.modVault (fun v => { v with enabling := true }) fun _ => ⟨rfl, rfl, rfl⟩

theorem Machine.State.enablingOf_drive (n : Nat) : (s.enablingOf d).drive n = (s.enrolled d).drive n := by
  unfold State.enablingOf
  rw [State.drive_modVault, State.drive_clearExts]
  with_reducible rfl

theorem Machine.State.enablingOf_clearing (h : s.vault.written = []) : (s.enablingOf d).clearing = s.clearing := by
  obtain ⟨written, cmds⟩ := s.enrolled_queue d
  have kept := (s.enrolled d).clearExts_unwritten (written.trans h) (s.enrolled d).freeExts none
  unfold State.enablingOf
  rw [State.clearing_modVault, State.clearing_of_cmds (kept.trans cmds)]
  with_reducible rfl

end

/-- What the pass that follows leaves of the Vault and of what was sent, where nothing waits. -/
theorem gives_vault {c : Instr} {s w u : State} {P : State → Prop} (hc : exec c s = .next w.settle) (own : w = u) (qu : Quiet u)
    (h : ∀ t : State, t.vault = u.vault → u.sent <+: t.sent → P t) : Gives c s P :=
  .intro (own ▸ hc) (h _ ((State.settle_eff_quiet qu).vault rfl) u.settle_eff.grows)

/-! ### VAULT_ENABLE (10 R270 to R281) -/

theorem eightDrives : ∀ n ∈ [1, 2, 3, 4, 5, 6, 7, 8], 1 ≤ n ∧ n ≤ 8 := by decide

section
variable {s : State} (q : Quiet s) (d : DriveReps)

/-- An enable in service and in *Run* starts the PCIe PLL where it is stopped, which leaves a quiet state, the Vault and what is found. -/
theorem Machine.State.vaultEnabled_run (q : Quiet s) (hs : s.inService = true) (hr : s.dps.state = .run) : ∃ u, s.vaultEnabled d = u.vaultOn d ∧
    Quiet u ∧ u.vault = s.vault ∧ u.drivesFound d = s.drivesFound d := by
  unfold State.vaultEnabled
  rw [if_neg (by simp [hs, hr])]
  split
  · exact ⟨_, rfl, Eff.of_quiet q (s.pllStart_eff .pcie) (by decide), (s.pllStart_eff .pcie).vault rfl, rfl⟩
  · exact ⟨_, rfl, q, rfl, rfl⟩

section
variable (hs : s.inService = true) (hr : s.dps.state = .run) (off : s.vault.enabled = false) (idle : s.vault.enabling = false)
include q hs hr off idle

/-- After a write that enables the Vault, the Vault is that of an enable that comes to its last step. -/
theorem vaultEnable_gives {P : State → Prop} (h : ∀ u t : State, u.vault = s.vault → u.drivesFound d = s.drivesFound d →
    t.vault = (u.enablingOf d).enableDone.vault → P t) : Gives (.vaultEnable d) s P := by
  obtain ⟨u, enabled, qu, vault, found⟩ := State.vaultEnabled_run d q hs hr
  rw [← vault] at off idle
  exact gives_vault rfl (enabled.trans (State.vaultOn_off off idle d)) (qu.enablingOf d).enableDone fun t same _ => h u t vault found same

theorem vaultEnable_brings : Gives (.vaultEnable d) s (fun t =>
    (t.vault.enabled = true ∨ (t.vault.enabling = true ∧ t.clearing = true)) ∧
    (∀ n ∈ [1, 2, 3, 4, 5, 6, 7, 8], (t.drive n).up = (s.drivesFound d).any (fun (x : DriveRep) => decide (x.drive = n)))) := by
  refine vaultEnable_gives q d hs hr off idle fun u t _ found same => ⟨?_, fun n hn => ?_⟩
  · rw [same, State.clearing_of_cmds (congrArg Vault.cmds same)]
    exact State.enableDone_enabling rfl
  · obtain ⟨h1, h8⟩ := eightDrives n hn
    rw [State.drive_of_vault (congrArg Vault.drives same), State.drive_of_vault (State.enableDone_drives _), State.enablingOf_drive,
      State.enrolled_drive d h1 h8, found]

theorem vaultEnable_enables (unwritten : s.vault.written = []) (clear : s.clearing = false) :
    Gives (.vaultEnable d) s (fun t => t.vault.enabled = true) := by
  refine vaultEnable_gives q d hs hr off idle fun u t vault _ same => ?_
  rw [same]
  refine State.enableDone_enables rfl ?_
  rw [State.enablingOf_clearing d (vault ▸ unwritten), State.clearing_of_cmds (congrArg Vault.cmds vault), clear]

end

end

/-! ### VAULT_DISABLE (10 R304) -/

/-- A drive that is up is shut down, and noted as down. -/
def Machine.State.driveOff (s : State) (j : Nat) : State :=
  (if (s.drive (j + 1)).up then s.driveDown (j + 1) else s).setDrive (j + 1) { s.drive (j + 1) with up := false }

/-- Every drive goes down. -/
def Machine.State.drivesOff (s : State) : State := (List.range 8).foldl State.driveOff s

section
variable {s : State}

theorem Machine.State.driveOff_drive (j : Nat) : ((s.driveOff j).drive (j + 1)).up = false := by
  unfold State.driveOff
  rw [State.drive_setDrive]

theorem Machine.State.driveOff_other {j n : Nat} (h : n ≠ j + 1) : (s.driveOff j).drive n = s.drive n := by
  unfold State.driveOff
  rw [State.drive_setDrive_other _ h]
  split
  · exact State.drive_of_vault (congrArg Vault.drives ((s.driveDown_eff (j + 1)).vault rfl)) n
  · rfl

theorem Quiet.driveOff (q : Quiet s) (j : Nat) : Quiet (s.driveOff j) := by
  unfold State.driveOff
  refine .setDrive ?_ ..
  split
  · exact Eff.of_quiet q (s.driveDown_eff (j + 1)) (by decide)
  · exact q

theorem Machine.State.drivesOff_drive {n : Nat} (h1 : 1 ≤ n) (h8 : n ≤ 8) : (s.drivesOff.drive n).up = false :=
  State.drive_foldl (P := fun _ d => d.up = false) (fun _ j => State.driveOff_drive j) (fun _ _ _ h => State.driveOff_other h) s h1 h8

theorem Quiet.drivesOff (q : Quiet s) : Quiet s.drivesOff := List.foldlRecOn (motive := Quiet) _ _ q fun _ h j _ => h.driveOff j

/-- With no Vault item open the Vault goes off. -/
theorem Quiet.vaultOff (q : Quiet s) : s.vaultOff =
    ((s.drivesOff.modVault (fun v => { v with enabled := false, enabling := false })).setEff 0x2300 2 [0], 0) := by
  have none : s.items.any (fun e => decide (0x60 ≤ e.2.op) && decide (e.2.op ≤ 0x6F)) = false := by
    rw [List.any_eq_false]
    intro e he
    have op := List.all_eq_true.mp q.items e he
    simp only [Bool.and_eq_true, decide_eq_true_eq] at op ⊢
    omega
  unfold State.vaultOff
  rw [if_neg (by simp [none])]
  rfl

/-- The row of the object that enables the Vault. -/
def vaultEnableRow : Obj := ⟨0x2300, 0x2300, 2, 2, .bool, .rw, .r, (some .i), .boolean, none, .nat 0⟩

theorem Machine.State.write_vaultOff {path : Path} (hw : MayWrite s path 0x2300 2) :
    s.write path 0x2300 2 [0] = s.vaultOff.1.emit (.answer path 0x2300 2 s.vaultOff.2) := by
  have row : findRow 0x2300 2 objTable = some vaultEnableRow := by decide +kernel
  have asked : s.actWrite path 0x2300 2 (leNat [0]) [0] = some s.vaultOff := rfl
  rw [State.write_served hw, State.writeAt_act row rfl rfl rfl rfl rfl hw.free asked]

theorem vaultDisable_disables {path : Path} (q : Quiet s) (hw : MayWrite s path 0x2300 2) : Gives (.vaultDisable path) s (fun t =>
    t.vault.enabled = false ∧ (∀ n ∈ [1, 2, 3, 4, 5, 6, 7, 8], (t.drive n).up = false) ∧ Sent.answer path 0x2300 2 0 ∈ t.sent) := by
  have own := State.write_vaultOff hw
  rw [q.vaultOff] at own
  have off := (q.drivesOff.modVault (fun v => { v with enabled := false, enabling := false }) fun _ => ⟨rfl, rfl, rfl⟩).setEff 0x2300 2 [0]
  refine gives_vault rfl own ((Quiet.emit _).mpr off) fun t same grows => ⟨?_, fun n hn => ?_, grows.subset (State.mem_sent_emit ..)⟩
  · rw [same]
    rfl
  · obtain ⟨h1, h8⟩ := eightDrives n hn
    rw [State.drive_of_vault (congrArg Vault.drives same), State.drive_emit, State.drive_setEff, State.drive_modVault, State.drivesOff_drive h1 h8]
    with_reducible rfl

end

/-! ### Commands that complete (10 R274, R278, R281) -/

/-- The state in which a command that succeeded is acted on: its drive answered, and it is in hand no more. -/
def Machine.State.answeredCmd (s : State) (n : Nat) (c : Nvme) : State :=
  (s.setDrive c.drive { s.drive c.drive with timeouts := 0 }).dropCmd n

section
variable {s : State} {n : Nat} {c : Nvme}

theorem Machine.State.nvmeDone_good (hc : s.cmd? n = some c) : s.nvmeDone n true = (s.answeredCmd n c).cmdDone c := by
  unfold State.nvmeDone
  rw [hc]
  rfl

theorem Machine.State.nvmeDone_again (hc : s.cmd? n = some c) (first : c.retried = false) (safe : s.flt.safeStop = false) :
    s.nvmeDone n false = (((((s.setDrive c.drive { s.drive c.drive with timeouts := 0 }).modVault
      (fun v => { v with errors := satAdd v.errors 1 })).emit (.nvmeAdmin c.drive 0x02 1)).modVault
      (fun v => { v with cmds := SMap.put Nvme.reset v.cmds n { c with retried := true } })).emit
      (.nvme c.drive c.op c.lba c.blocks c.fua)) := by
  unfold State.nvmeDone
  rw [hc]
  have goes : ¬(c.retried = true ∨ s.flt.safeStop = true) := by simp [first, safe]
  exact if_neg goes

variable (q : Quiet s)
include q

theorem Quiet.answeredCmd : Quiet (s.answeredCmd n c) := (q.setDrive ..).dropCmd n

theorem Quiet.cmdDone_write (write : c.op = 1) : s.cmdDone c = s.stored c := by
  unfold State.cmdDone
  rw [if_pos write, (q.stored c).cmdEnded (.inr rfl)]

theorem Quiet.cmdDone_clear (clear : c.op = 5) : s.cmdDone c = s.nvme { c with op := 3 } false := by
  unfold State.cmdDone
  rw [if_neg (by omega), if_pos clear, (q.nvme ..).cmdEnded (.inr rfl)]

theorem nvmeCommandComplete_enables (cmds : s.vault.cmds = [(n, c)]) (sent : c.issued = true) (clear : c.op = 5)
    (enabling : s.vault.enabling = true) : Gives (.nvmeCommandComplete n true) s (fun t => t.vault.enabled = true) := by
  have taken : s.cmd? n = some c := by
    unfold State.cmd?
    simp [cmds, sent]
  have none : SMap.put Nvme.reset s.vault.cmds n Nvme.reset = [] := by
    simp [cmds, SMap.put, SMap.erase]
  have enabled : (s.answeredCmd n c).vault.enabled = true := State.enableDone_enables enabling (by
    unfold State.clearing
    exact congrArg (fun l : SMap Nvme => l.any (fun e => decide (e.2.op = 5) && e.2.item.isNone)) none)
  have own := (State.nvmeDone_good taken).trans (q.answeredCmd.cmdDone_clear clear)
  refine gives_vault rfl own (q.answeredCmd.nvme ..) fun t same _ => ?_
  rw [same]
  exact (congrArg Vault.enabled ((s.answeredCmd n c).nvme_vault { c with op := 3 } false)).trans enabled

theorem nvmeCommandComplete_stores (hc : s.cmd? n = some c) (write : c.op = 1) : Gives (.nvmeCommandComplete n true) s (fun t =>
    ∀ k ∈ List.range c.data.length,
      SMap.get 0 t.vault.data (s.physOf c.region * 1048576 + c.chunk * 4096 + k) = c.data.getD k 0) := by
  have own := (State.nvmeDone_good hc).trans (q.answeredCmd.cmdDone_write write)
  refine gives_vault rfl own (q.answeredCmd.stored c) fun t same _ k hk => ?_
  have stored := State.dataByte_stored (s.answeredCmd n c) c (s.dataAt c + k)
  rw [State.dataAt_of_ns (s := s) (t := s.answeredCmd n c) (State.dropCmd_ns ..), get_putBytes,
    if_pos (by have := List.mem_range.mp hk; omega), Nat.add_sub_cancel_left] at stored
  rw [same]
  exact stored

theorem nvmeCommandComplete_again (hc : s.cmd? n = some c) (first : c.retried = false) (safe : s.flt.safeStop = false) :
    Gives (.nvmeCommandComplete n false) s (fun t => t.vault.errors = satAdd s.vault.errors 1 ∧
      Sent.nvme c.drive c.op c.lba c.blocks c.fua ∈ t.sent) := by
  have quiet := (((Quiet.emit (.nvmeAdmin c.drive 0x02 1)).mpr ((q.setDrive c.drive { s.drive c.drive with timeouts := 0 }).modVault
    (fun v => { v with errors := satAdd v.errors 1 }) fun _ => ⟨rfl, rfl, rfl⟩)).modVault
    (fun v => { v with cmds := SMap.put Nvme.reset v.cmds n { c with retried := true } }) fun _ => ⟨rfl, rfl, rfl⟩)
  refine gives_vault rfl (State.nvmeDone_again hc first safe) ((Quiet.emit _).mpr quiet) fun t same grows =>
    ⟨?_, grows.subset (State.mem_sent_emit ..)⟩
  rw [same]
  rfl

end

/-! ### Commands that are late, and drives that fail (10 R274) -/

/-- The state in which a late command has been aborted: an error is counted, and a timeout against its drive. -/
def Machine.State.abortedCmd (s : State) (n : Nat) (c : Nvme) : State :=
  (((s.modVault (fun v => { v with errors := satAdd v.errors 1 })).setDrive c.drive
    { s.drive c.drive with timeouts := (s.drive c.drive).timeouts + 1 }).dropCmd n).emit (.nvmeAdmin c.drive 0x08 n)

section
variable {s : State} {n : Nat} {c : Nvme} (q : Quiet s)
include q

theorem Quiet.abortedCmd : Quiet (s.abortedCmd n c) := by
  have counted := q.modVault (fun v => { v with errors := satAdd v.errors 1 }) fun _ => ⟨rfl, rfl, rfl⟩
  exact (Quiet.emit _).mpr ((counted.setDrive ..).dropCmd n)

/-- A late command that serves no item is aborted, and fails its drive where another was late before it. -/
theorem Quiet.nvmeLate (hc : s.cmd? n = some c) (item : c.item = none) : s.nvmeLate n =
    if 1 ≤ (s.drive c.drive).timeouts then (s.abortedCmd n c).driveFail c.drive else s.abortedCmd n c := by
  have ended := (q.abortedCmd (n := n) (c := c)).cmdEnded (det := some 0x53) (.inl item)
  unfold State.nvmeLate
  rw [hc]
  dsimp only
  unfold State.abortedCmd at ended ⊢
  rw [ended]
  exact if_congr (by omega) rfl rfl

end

section
variable {s : State} {n : Nat} {c : Nvme}

theorem Machine.State.abortedCmd_drive : (s.abortedCmd n c).drive c.drive =
    { s.drive c.drive with timeouts := (s.drive c.drive).timeouts + 1 } := by
  unfold State.abortedCmd
  rw [State.drive_emit, State.drive_of_vault (State.dropCmd_drives ..), State.drive_setDrive]

theorem Machine.State.abortedCmd_errors : (s.abortedCmd n c).vault.errors = satAdd s.vault.errors 1 :=
  State.dropCmd_errors ..

theorem Machine.State.abortedCmd_eff : Eff 16777216 s (s.abortedCmd n c) := by
  have counted : Eff 16777216 s (s.modVault (fun v => { v with errors := satAdd v.errors 1 })) := s.modVault_eff _ rfl
  exact .by (State.emit_eff ..) (by decide) ((counted.trans (State.setDrive_eff ..)).trans (State.dropCmd_eff ..))

theorem Machine.State.abortedCmd_cmds : (s.abortedCmd n c).vault.cmds = SMap.put Nvme.reset s.vault.cmds n Nvme.reset :=
  State.dropCmd_cmds ..

theorem nvmeCommandTimeout_counts (q : Quiet s) (hc : s.cmd? n = some c) (item : c.item = none) (first : (s.drive c.drive).timeouts = 0) :
    Gives (.nvmeCommandTimeout n) s (fun t => t.vault.errors = satAdd s.vault.errors 1 ∧ (t.drive c.drive).timeouts = 1) := by
  refine gives_vault rfl ((q.nvmeLate hc item).trans (if_neg (by omega))) q.abortedCmd fun t same _ => ⟨?_, ?_⟩
  · rw [same, State.abortedCmd_errors]
  · rw [State.drive_of_vault (congrArg Vault.drives same), State.abortedCmd_drive, first]

end

/-- The drive noted as failed, and its namespaces as those of a failed drive (10 R274). -/
def Machine.State.driveDead (s : State) (n : Nat) : State :=
  (s.setDrive n { up := false, failed := true, timeouts := 0 }).modVault (fun v => { v with
    ns := SMap.mapv Nspace.reset (fun e => if e.drive = n ∧ e.code = 1 then { e with code := 3 } else e) v.ns })

/-- The same with its fault raised and its event told. -/
def Machine.State.driveLost (s : State) (n : Nat) : State :=
  (((s.driveDead n).causeOn 0x28 n).raise 0x28 n).vaultEvent (BitVec.ofNat 12 (2 ^ (n - 1)))

/-- The commands of a drive that are in hand. -/
def Machine.State.cmdsOf (s : State) (n : Nat) : SMap Nvme := s.vault.cmds.filter (fun e => decide (e.2.drive = n))

section
variable {s : State} {n : Nat}

/-- A fault of a drive for which there is a slot is recorded, and does nothing more at once (16 R413, R417). -/
theorem Machine.State.raise_drive (slot : s.noSlot (s.recOf 0x28 n) = false) : s.raise 0x28 n = s.record (s.recOf 0x28 n) := by
  have recorded : s.fault 0x28 n = s.record (s.recOf 0x28 n) := by
    unfold State.fault State.faultRec
    dsimp only
    rw [slot]
    rfl
  unfold State.raise
  rw [recorded]
  exact ite_self _

theorem Machine.State.noSlot_causeOn (src inst n : Nat) :
    (s.causeOn src inst).noSlot ((s.causeOn src inst).recOf 0x28 n) = s.noSlot (s.recOf 0x28 n) := by
  unfold State.causeOn
  split <;> rfl

/-- The fault of a drive that is lost is recorded where it has a slot. -/
theorem Machine.State.driveLost_recorded (slot : s.noSlot (s.recOf 0x28 n) = false) : s.driveLost n =
    (((s.driveDead n).causeOn 0x28 n).record (((s.driveDead n).causeOn 0x28 n).recOf 0x28 n)).vaultEvent (BitVec.ofNat 12 (2 ^ (n - 1))) := by
  have free := (State.noSlot_causeOn (s := s.driveDead n) 0x28 n n).trans slot
  unfold State.driveLost
  rw [State.raise_drive free]

theorem Machine.State.vaultEvent_vault (b : BitVec 12) : (s.vaultEvent b).vault = { s.vault with evt := s.vault.evt ||| b } := by
  unfold State.vaultEvent
  dsimp only
  split
  · rfl
  · exact (State.houseEvent_eff ..).vault rfl

theorem Machine.State.driveLost_vault (slot : s.noSlot (s.recOf 0x28 n) = false) :
    (s.driveLost n).vault = { (s.driveDead n).vault with evt := (s.driveDead n).vault.evt ||| BitVec.ofNat 12 (2 ^ (n - 1)) } := by
  rw [State.driveLost_recorded slot, State.vaultEvent_vault, (State.record_eff ..).vault rfl, (State.causeOn_eff ..).vault rfl]

theorem Quiet.driveLost (q : Quiet s) (slot : s.noSlot (s.recOf 0x28 n) = false) : Quiet (s.driveLost n) := by
  have dead : Quiet (s.driveDead n) := (q.setDrive ..).modVault _ fun _ => ⟨rfl, rfl, rfl⟩
  rw [State.driveLost_recorded slot]
  exact ((dead.causeOn ..).record _).vaultEvent _

/-- Only Vault items and captures touch a drive. -/
theorem Machine.State.touches_other {i : Item} (h : i.op < 0x60) : s.touches i n = false := by
  unfold State.touches
  rw [if_neg (by omega), if_neg (by omega), if_neg (by omega)]

/-- With no Vault item open no item touches a drive. -/
theorem Quiet.touched (q : Quiet s) : s.itemsWhere (fun _ i => s.touches i n) = [] := by
  unfold State.itemsWhere
  rw [List.map_eq_nil_iff, List.filter_eq_nil_iff]
  intro e he
  have op := List.all_eq_true.mp q.items e he
  simp only [Bool.and_eq_true, decide_eq_true_eq] at op
  obtain ⟨⟨⟨-, low⟩, -⟩, -⟩ := op
  simp [State.touches_other low]

theorem Quiet.dropCmds (q : Quiet s) (l : SMap Nvme) : Quiet (l.foldl (fun s e => s.dropCmd e.1) s) :=
  List.foldlRecOn (motive := Quiet) _ _ q fun _ h e _ => h.dropCmd e.1

theorem Machine.State.dropCmds_drive (l : SMap Nvme) (m : Nat) : (l.foldl (fun s e => s.dropCmd e.1) s).drive m = s.drive m :=
  List.foldlRecOn (motive := fun t : State => t.drive m = s.drive m) _ _ rfl fun _ h _ _ =>
    (State.drive_of_vault (State.dropCmd_drives ..) m).trans h

theorem Quiet.cmdsEnded (q : Quiet s) {l : SMap Nvme} (items : ∀ e ∈ l, e.2.item = none) (det : Option Nat) :
    l.foldl (fun s e => s.cmdEnded e.2 det) s = s :=
  List.foldlRecOn (motive := fun t => t = s) _ _ rfl fun _ h e he => by rw [h, q.cmdEnded (.inl (items e he))]

/-- A drive that fails where no command in hand serves an item and the fault has a slot: its commands are dropped, and nothing else waits. -/
theorem Quiet.driveFail (q : Quiet s) (items : ∀ e ∈ s.vault.cmds, e.2.item = none) (slot : s.noSlot (s.recOf 0x28 n) = false)
    (up : (s.drive n).up = true) (works : (s.drive n).failed = false) :
    s.driveFail n = ((s.driveLost n).cmdsOf n).foldl (fun s e => s.dropCmd e.1) (s.driveLost n) := by
  have lost := q.driveLost slot
  have unserved : ∀ e ∈ (s.driveLost n).cmdsOf n, e.2.item = none := by
    intro e he
    have inHand := (List.mem_filter.mp he).1
    rw [State.driveLost_vault slot] at inHand
    exact items e inHand
  have ended := (lost.dropCmds ((s.driveLost n).cmdsOf n)).cmdsEnded unserved (some 0x52)
  unfold State.driveFail
  rw [if_neg (by simp [up, works]), q.touched]
  exact ended

theorem Quiet.driveFail_failed (q : Quiet s) (items : ∀ e ∈ s.vault.cmds, e.2.item = none) (slot : s.noSlot (s.recOf 0x28 n) = false)
    (up : (s.drive n).up = true) (works : (s.drive n).failed = false) :
    Quiet (s.driveFail n) ∧ (s.driveFail n).drive n = { up := false, failed := true, timeouts := 0 } := by
  have dead : (s.driveDead n).drive n = { up := false, failed := true, timeouts := 0 } := State.drive_setDrive ..
  rw [q.driveFail items slot up works]
  refine ⟨(q.driveLost slot).dropCmds _, ?_⟩
  rw [State.dropCmds_drive, ← dead]
  exact State.drive_of_vault (by rw [State.driveLost_vault slot]) n

/-- A command that fails a drive, where what it does is the failure in some quiet state. -/
theorem driveFail_gives {c : Instr} {w u : State} (hc : exec c s = .next w.settle) (own : w = u.driveFail n) (q : Quiet u)
    (items : ∀ e ∈ u.vault.cmds, e.2.item = none) (slot : u.noSlot (u.recOf 0x28 n) = false) (up : (u.drive n).up = true)
    (works : (u.drive n).failed = false) : Gives c s (fun t => (t.drive n).failed = true ∧ (t.drive n).up = false) := by
  obtain ⟨quiet, drive⟩ := q.driveFail_failed items slot up works
  refine gives_vault hc own quiet fun t same _ => ?_
  rw [State.drive_of_vault (congrArg Vault.drives same), drive]
  exact ⟨rfl, rfl⟩

theorem unserved_of_all (h : s.vault.cmds.all (fun e => decide (e.2.item = none)) = true) : ∀ e ∈ s.vault.cmds, e.2.item = none :=
  fun e he => of_decide_eq_true (List.all_eq_true.mp h e he)

theorem nvmeCommandTimeout_fails {c : Nvme} (q : Quiet s) (hc : s.cmd? n = some c) (items : ∀ e ∈ s.vault.cmds, e.2.item = none)
    (slot : s.noSlot (s.recOf 0x28 c.drive) = false) (again : 1 ≤ (s.drive c.drive).timeouts) (up : (s.drive c.drive).up = true)
    (works : (s.drive c.drive).failed = false) :
    Gives (.nvmeCommandTimeout n) s (fun t => (t.drive c.drive).failed = true ∧ (t.drive c.drive).up = false) := by
  have item : c.item = none := by
    obtain ⟨e, he, rfl⟩ := Option.map_eq_some_iff.mp hc
    exact items e (List.mem_of_find?_eq_some he)
  have rest := s.abortedCmd_eff (n := n) (c := c)
  refine driveFail_gives rfl ((q.nvmeLate hc item).trans (if_pos again)) q.abortedCmd (fun e he => ?_) ?_ ?_ ?_
  · rw [State.abortedCmd_cmds] at he
    exact items e (SMap.mem_put_default he).1
  · unfold State.noSlot State.recOf State.now State.inService at slot ⊢
    rw [rest.flt rfl, rest.regs rfl, rest.clk rfl]
    exact slot
  · rw [State.abortedCmd_drive]
    exact up
  · rw [State.abortedCmd_drive]
    exact works

section
variable (h1 : 1 ≤ n) (h8 : n ≤ 8) (q : Quiet s) (items : ∀ e ∈ s.vault.cmds, e.2.item = none) (slot : s.noSlot (s.recOf 0x28 n) = false)
  (up : (s.drive n).up = true) (works : (s.drive n).failed = false)
include h1 h8 q items slot up works

theorem controllerFatalStatus_fails :
    Gives (.controllerFatalStatus n) s (fun t => (t.drive n).failed = true ∧ (t.drive n).up = false) :=
  driveFail_gives (if_pos (by simp [h1, h8])) rfl q items slot up works

theorem driveLinkDown_fails : Gives (.driveLinkDown n) s (fun t => (t.drive n).failed = true ∧ (t.drive n).up = false) :=
  driveFail_gives (if_pos (by simp [h1, h8])) rfl q items slot up works

end

end

/-- Settles O44: a command in a quiet state has its own effect, and the pass that follows leaves the Vault as it is. -/
theorem driveCommands : Obligations.DriveCommands := by
  unfold Obligations.DriveCommands
  exact ⟨fun _ d q hs hr off idle => vaultEnable_brings q d hs hr off idle,
    fun _ d q hs hr off idle written clear => vaultEnable_enables q d hs hr off idle written clear,
    fun _ _ _ q cmds sent op _ _ _ enabling => nvmeCommandComplete_enables q cmds sent op enabling,
    fun _ _ q hw => vaultDisable_disables q hw,
    fun _ _ _ q hc op => nvmeCommandComplete_stores q hc op,
    fun _ _ _ q hc first safe => nvmeCommandComplete_again q hc first safe,
    fun _ _ _ q hc item first => nvmeCommandTimeout_counts q hc item first,
    fun _ _ _ q hc all slot again up works => nvmeCommandTimeout_fails q hc (unserved_of_all all) slot again up works,
    fun _ _ h1 h8 q all slot up works => controllerFatalStatus_fails h1 h8 q (unserved_of_all all) slot up works,
    fun _ _ h1 h8 q all slot up works => driveLinkDown_fails h1 h8 q (unserved_of_all all) slot up works⟩

end Sys2Proof
end

section
/-!
PROOFS. A RESUME that fetches a descriptor whose check unit's registers hold a word with bad parity, when every recovery slot is armed: the
mismatch is a fault without a slot, it escalates, and the channel does not run (02 R75; 11 R319, R322; 16 R409, R417).
-/
namespace Sys2Proof
open Machine

/-- A descriptor in the mover area: one line of 4 bytes from address 256 to address 512 through check unit 8, no interrupt, not the last. -/
def checkedDescriptor : Bytes :=
  natLE 4 (2 ^ 11 + 8 * 2 ^ 16) ++ zeros 4 ++ natLE 8 256 ++ natLE 4 4 ++ zeros 4 ++ natLE 4 1 ++ zeros 4 ++ natLE 8 512 ++ natLE 4 4 ++
    zeros 4 ++ natLE 4 1 ++ zeros 12

/-- The address of the first register of check unit 8 (11 R322). -/
def checkUnit8Reg : Nat := 0x320200

/-- In Run, with every recovery slot armed. A check halted channel 16 at offset 0 of the area, where a valid descriptor now stands, and the parity of
a register of check unit 8 is bad. -/
def haltedBeforeMismatch : State :=
  (((((State.reset.modDps (fun d => { d with state := .run })).modBoot (fun b => { b with phase := .service })).modRegs
    (fun r => { r with inService := true, parBad := [checkUnit8Reg] })).areaWrite 0 checkedDescriptor).setChan 16
    { Chan.reset with state := .halted, cause := 0x21 }).armAllSlots

theorem haltedBeforeMismatch_quiet : Quiet (haltedBeforeMismatch.modMov (fun m => { m with chans := [] })) := by
  constructor <;> decide +kernel

/-- The descriptor passes every check (11 R313). -/
theorem haltedBeforeMismatch_descCheck :
    haltedBeforeMismatch.descCheck (haltedBeforeMismatch.chan 16).cur (haltedBeforeMismatch.areaRead (haltedBeforeMismatch.chan 16).cur 64) = 0 := by
  decide +kernel

/-- The package-safe-stop that the mismatch escalates to stops the channel (16 R409, R417). -/
theorem haltedBeforeMismatch_stops :
    (((haltedBeforeMismatch.chanCommand 16 State.chanResume).settle).chan 16).state = .stopping := by
  decide +kernel

/-- Refutes O47: the clause of RESUME bars no parity mismatch. Where the fetched descriptor takes a check unit whose register has bad parity and no
recovery slot is free, the mismatch escalates, and the channel is Stopping instead of running. -/
theorem not_moverChannels : ¬ Obligations.MoverChannels := by
  unfold Obligations.MoverChannels
  rintro ⟨-, resume, -⟩
  obtain ⟨t, ht, runs⟩ := resume haltedBeforeMismatch 16 haltedBeforeMismatch_quiet (by decide +kernel) (by decide +kernel) (by decide)
    (by decide) (by decide +kernel) (by decide +kernel)
  have hstep : exec (.resume 16) haltedBeforeMismatch = .next (haltedBeforeMismatch.chanCommand 16 State.chanResume).settle := rfl
  rw [hstep, Host.Outcome.next.injEq] at ht
  subst ht
  rw [haltedBeforeMismatch_stops, if_pos haltedBeforeMismatch_descCheck] at runs
  exact absurd runs (by decide)

end Sys2Proof
end

section
/-!
PROOFS. The pass after a command where nothing waits beside mover channels: its rounds are the channels' own, and these take no check unit and
give none back (11 R309, R315, R322).
-/
set_option Elab.async false
namespace Sys2Proof.Machine

/-! ### What the rounds of the channels leave -/

/-- What a round of the pass begins with: the transfers that ended, the jobs and the captures in hand (10 R290, R300). -/
def State.vaultHand (s : State) : List (Nat × (Nat × Nat) × Bytes × Item) × SMap Job × List Capt :=
  (s.vault.ended, s.vault.jobs, s.vault.captures)

/-- The check units, and of each channel whether it waits for one and the setting it took (11 R322). -/
def State.unitView (s : State) : SMap CheckUnit × (Nat → Bool × Option UnitCfg) :=
  (s.mov.units, fun c => ((s.chan c).waitUnit, (s.chan c).unitCfg))

/-- Nothing waits beside mover channels. -/
def MoversOnly (s : State) : Prop := Quiet (s.modMov (fun m => { m with chans := [] }))

theorem Eff.handKept {m : Nat} {s t : State} (e : Eff m s t) (hm : m.testBit 24 = false) : Kept State.vaultHand s t :=
  ⟨congrArg (fun v : Vault => (v.ended, v.jobs, v.captures)) (e.vault hm)⟩

theorem Eff.unitsKept {m : Nat} {s t : State} (e : Eff m s t) (hm : m.testBit 25 = false) : Kept State.unitView s t := by
  refine ⟨?_⟩
  unfold State.unitView
  simp only [e.chan hm, e.mov hm]

section
variable {s t : State} (h : Kept State.unitView s t)
include h

theorem Kept.unit (n : Nat) : t.unit n = s.unit n := congrArg (SMap.get CheckUnit.reset · n) (congrArg Prod.fst h.same)

theorem Kept.waitUnit (c : Nat) : (t.chan c).waitUnit = (s.chan c).waitUnit := congrArg (fun v => (v.2 c).1) h.same

theorem Kept.unitCfg (c : Nat) : (t.chan c).unitCfg = (s.chan c).unitCfg := congrArg (fun v => (v.2 c).2) h.same

end

section
variable (s : State)

theorem State.modVault_handKept {f : Vault → Vault}
    (hf : ∀ v, ((f v).ended, (f v).jobs, (f v).captures) = (v.ended, v.jobs, v.captures) := by exact fun _ => rfl) :
    Kept State.vaultHand s (s.modVault f) := ⟨hf s.vault⟩

theorem State.nvmePump_handKept (n : Nat) : Kept State.vaultHand s (s.nvmePump n) := by
  induction n generalizing s with
  | zero => exact .refl s
  | succ n ih =>
    refine .ite (.refl s) ?_
    split
    · exact .trans (.trans s.modVault_handKept ((State.emit_eff ..).handKept rfl)) (ih _)
    · exact .refl s

theorem State.nvme_handKept (c : Nvme) (fua : Bool) : Kept State.vaultHand s (s.nvme c fua) :=
  .ite (.refl s) (.ite (.trans s.modVault_handKept ((State.emit_eff ..).handKept rfl))
    (.trans s.modVault_handKept (State.nvmePump_handKept ..)))

theorem State.readCmds_handKept (c : Nvme) (ps : List (Nat × Nat × Nat × Nat)) : Kept State.vaultHand s (s.readCmds c ps) :=
  .foldl (fun s _ => .ite (s.nvme_handKept ..) (.refl s)) ps s

theorem State.vaultBegin_handKept (c : Nat) : Kept State.vaultHand s (s.vaultBegin c) := by
  have staged := (s.modChan_eff c (fun x => { x with vstage := 1 })).handKept rfl
  exact .ite (.refl s) (.ite (staged.trans (.foldl (fun s _ => s.readCmds_handKept ..) _ _)) staged)

theorem State.chanPass_handKept : Kept State.vaultHand s s.chanPass := by
  refine .foldl (fun s e => .ite (.refl s) ?_) _ s
  have buffers : Kept State.vaultHand s (e.2.pipes.foldl State.chanNp s) := .foldl (fun s n => (s.chanNp_eff n).handKept rfl) _ s
  exact .trans (.ite buffers (buffers.trans ((State.modChan_eff ..).handKept rfl))) (State.vaultBegin_handKept ..)

/-- A change of a channel that leaves what it waits for and the setting it took. -/
theorem State.modChan_unitsKept (c : Nat) {f : Chan → Chan}
    (hf : ∀ x, ((f x).waitUnit, (f x).unitCfg) = (x.waitUnit, x.unitCfg) := by exact fun _ => rfl) :
    Kept State.unitView s (s.modChan c f) := by
  refine ⟨Prod.ext rfl (funext fun k => ?_)⟩
  by_cases hk : k = c
  · subst hk
    exact (congrArg (fun x : Chan => (x.waitUnit, x.unitCfg)) (s.chan_modChan k f)).trans (hf _)
  · exact congrArg (fun x : Chan => (x.waitUnit, x.unitCfg)) (SMap.get_put_other _ _ hk)

theorem State.vaultBegin_unitsKept (c : Nat) : Kept State.unitView s (s.vaultBegin c) := by
  have staged := s.modChan_unitsKept c (f := fun x => { x with vstage := 1 })
  exact .ite (.refl s) (.ite (staged.trans (.foldl (fun s _ => (State.readCmds_eff ..).unitsKept rfl) _ _)) staged)

theorem State.chanPass_unitsKept : Kept State.unitView s s.chanPass := by
  refine .foldl (fun s e => .ite (.refl s) ?_) _ s
  have buffers : Kept State.unitView s (e.2.pipes.foldl State.chanNp s) := .foldl (fun s n => (s.chanNp_eff n).unitsKept rfl) _ s
  exact .trans (.ite buffers (buffers.trans (State.modChan_unitsKept ..))) (State.vaultBegin_unitsKept ..)

end

/-! ### The pass where nothing waits beside mover channels -/

theorem MoversOnly.eff {m : Nat} {s t : State} (h : MoversOnly s) (e : Eff m s t) (c : m &&& 0x140281 = 0) (k : Kept State.vaultHand s t) :
    MoversOnly t := by
  have b : ∀ i, (0x140281 : Nat).testBit i = true → m.testBit i = false := by
    intro i hi
    have := congrArg (Nat.testBit · i) c
    simpa [hi] using this
  have hu := e.usb (b _ rfl)
  have ht := e.tenants (b _ rfl)
  have hand : (t.vault.ended, t.vault.jobs, t.vault.captures) = (s.vault.ended, s.vault.jobs, s.vault.captures) := k.same
  obtain ⟨ended, jobs, captures⟩ : t.vault.ended = s.vault.ended ∧ t.vault.jobs = s.vault.jobs ∧ t.vault.captures = s.vault.captures := by
    simpa using hand
  exact {
    ended := ended.trans h.ended
    jobs := jobs.trans h.jobs
    captures := captures.trans h.captures
    chans := rfl
    owed := (congrArg Flt.escDue (e.flt (b _ rfl))).trans h.owed
    items := (congrArg (List.all · _) (e.items (b _ rfl))).trans h.items
    stops := (congrArg (List.all · _) ht).trans h.stops
    paused := (congrArg (List.all · _) ht).trans h.paused
    recalls := by
      have recalls := h.recalls
      unfold State.getUsb State.getTenants at *
      simp only [State.modMov_usb, State.modMov_tenants, hu, ht] at *
      exact recalls
    request := (congrArg Dps.request (e.dps (b _ rfl))).trans h.request
    blocked := (congrArg Dps.blocked (e.dps (b _ rfl))).trans h.blocked }

section
variable {s : State} (h : MoversOnly s)
include h

theorem MoversOnly.chanPass : MoversOnly s.chanPass := h.eff s.chanPass_eff rfl s.chanPass_handKept

/-- A round of the pass is the channels' own. -/
theorem State.settleOnce_movers : s.settleOnce = s.chanPass := by
  have none_of (u : State) (hu : u.items = s.items) (p : Nat → Item → Bool) (hp : ∀ k i, i.op < 0x60 → p k i = false) : u.itemsWhere p = [] :=
    congrArg _ (List.filter_none (hu ▸ h.items) fun e he => hp e.1 e.2 (by simp at he; exact he.1.1.2))
  have ends : s.hubEnds = s := by
    have none : s.vault.ended = [] := h.ended
    have emptied : s.modVault (fun v => { v with ended := [] }) = s := by rw [← none]; rfl
    unfold State.hubEnds
    simp only [none, List.foldl_nil, emptied]
  have jobs : s.jobPass = s := congrArg (List.foldl _ s) (show s.vault.jobs = [] from h.jobs)
  have captures : s.captPass = s :=
    congrArg (fun l => (List.map Capt.item l).foldl State.captStep s) (show s.vault.captures = [] from h.captures)
  have vault : s.vaultPass = s := congrArg (List.foldl _ s) (none_of s rfl _ fun k i hi => by simp; omega)
  have templates : s.templatePass = s := congrArg (List.foldl _ s) (none_of s rfl _ fun k i hi => by simp; omega)
  have waits : s.chanPass.settleWaits = s.chanPass := by
    have q : MoversOnly s.chanPass := h.chanPass
    have ending : s.chanPass.settleEnding = s.chanPass :=
      State.settleEnding_uncaused fun k i hi => State.getItems_of_item? hi ▸ (q.item k).2.2.2
    have closes : s.chanPass.settleCloses = s.chanPass :=
      congrArg (List.foldl _ _) (List.filter_none (l := s.chanPass.items) q.items fun e he => by simp_all)
    have stops : s.chanPass.settleStops = s.chanPass :=
      congrArg (List.foldl _ _) (List.filter_none (l := s.chanPass.tenants) q.stops fun e he => by simp_all)
    unfold State.settleWaits
    rw [ending, closes, stops]
  unfold State.settleOnce
  rw [ends, jobs, captures, vault, templates, waits]

theorem State.resumedPass_movers : s.resumedPass = s :=
  congrArg (List.foldl _ s) (List.filter_none (l := s.tenants) h.paused fun e he => by simp_all)

theorem State.escOwed_movers : s.escOwed = s := by
  have none : s.flt.escDue = [] := h.owed
  have emptied : s.modFlt (fun f => { f with escDue := [] }) = s := by rw [← none]; rfl
  unfold State.escOwed
  simp only [none, List.foldl_nil, emptied]

theorem State.freeRecalled_movers : s.freeRecalled = s := by
  refine List.foldlRecOn (motive := fun t => t = s) allPorts _ rfl fun t ht p hp => ?_
  subst ht
  have owned := List.all_eq_true.mp h.recalls p hp
  rw [Bool.or_eq_true, decide_eq_true_eq] at owned
  exact if_pos (owned.imp id fun bit => .inr (.inl bit))

theorem State.guardPass_movers : s.guardPass = s := by
  unfold State.guardPass
  rw [show s.dps.request = none from h.request]
  simp [show s.dps.blocked = 0 from h.blocked]

end

/-- The pass is three rounds of the channels; then PLLs that are needed start. -/
theorem State.settle_movers {s : State} (h : MoversOnly s) : s.settle = s.chanPass.chanPass.chanPass.pllPass := by
  have done := h.chanPass.chanPass.chanPass
  have rounds : times State.settleOnce 3 s = s.chanPass.chanPass.chanPass := by
    simp only [times, State.settleOnce_movers h, State.settleOnce_movers h.chanPass, State.settleOnce_movers h.chanPass.chanPass]
  have started : MoversOnly s.chanPass.chanPass.chanPass.pllPass := done.eff (State.pllPass_eff _) rfl ((State.pllPass_eff _).handKept rfl)
  unfold State.settle
  rw [State.resumedPass_movers h, rounds, State.escOwed_movers done, State.freeRecalled_movers done, State.guardPass_movers started]

/-- The pass takes no check unit and gives none back. -/
theorem State.settle_unitsKept {s : State} (h : MoversOnly s) : Kept State.unitView s s.settle := by
  rw [State.settle_movers h]
  exact ((s.chanPass_unitsKept.trans (State.chanPass_unitsKept _)).trans (State.chanPass_unitsKept _)).trans
    ((State.pllPass_eff _).unitsKept rfl)

end Sys2Proof.Machine
end

section
/-!
PROOFS. The mover area through its window, a check unit that comes free, and the scan engine (11 R308, R322, R325, R327).
-/
set_option Elab.async false
namespace Sys2Proof.Machine

/-- What the area holds where bytes are stored within it (11 R307). -/
theorem State.areaRead_areaWrite (s : State) {o : Nat} {d : Bytes} (fits : o + d.length ≤ s.areaSize) :
    (s.areaWrite o d).areaRead o d.length = d := by
  unfold State.areaWrite
  rw [List.take_of_length_le (by omega)]
  dsimp only
  split
  next empty => subst empty; rfl
  next =>
    refine List.ext_getElem (by simp [State.areaRead]) fun i hi inside => ?_
    unfold State.areaRead
    have size (f : Mov → Mov) : (s.modMov f).areaSize = s.areaSize := rfl
    have stored := get_putBytes s.mov.area o d (o + i)
    rw [if_pos (by omega), Nat.add_sub_cancel_left, List.getD_eq_getElem _ _ inside] at stored
    simp only [List.getElem_map, List.getElem_range, size, show o + i < s.areaSize by omega, if_true]
    exact stored

/-- No use of registers finds a mismatch where none is latched and no injection is armed (02 R75). -/
theorem State.parityUses_clean {s : State} (bad : s.regs.parBad = []) (unarmed : s.flt.injArmed = false) (l : List Nat) : s.parityUses l = s := by
  refine List.foldl_same fun a => ?_
  unfold State.parityUse State.injectsAt
  simp [bad, unarmed]

theorem State.unit_setUnit (s : State) (u : Nat) (v : CheckUnit) : (s.setUnit u v).unit u = v := SMap.get_put_same _ u v

/-- A channel takes the unit that its descriptor names (11 R322). -/
theorem State.takeUnit_free {s : State} {c : Nat} (checks : ctl (s.chan c).desc 11 = true) (free : (s.unit (checkUnit (s.chan c).desc)).busy = false)
    (bad : s.regs.parBad = []) (unarmed : s.flt.injArmed = false) :
    s.takeUnit c = (s.setUnit (checkUnit (s.chan c).desc) { s.unit (checkUnit (s.chan c).desc) with busy := true, user := some c }).modChan c
      (fun x => { x with unitCfg := some (s.unit (checkUnit (s.chan c).desc)).cfg, waitUnit := false }) := by
  unfold State.takeUnit State.unitUsed
  simp only [checks, free, State.parityUses_clean bad unarmed, State.unit_setUnit]
  rfl

theorem State.unitFree_next {s : State} {n c : Nat} (free : (s.unit n).busy = false) (noScan : s.scanWaits n = false)
    (next : s.unitNext n = some c) : s.unitFree n = s.takeUnit c := by
  unfold State.unitFree
  simp [free, noScan, next]

/-- The scan takes a unit of the mover area's (11 R322, R325). -/
theorem State.scanTake_area {s : State} {u : Nat} (area : s.mov.scanKind = false) (bad : s.regs.parBad = []) (unarmed : s.flt.injArmed = false) :
    s.scanTake u = (s.setUnit u { s.unit u with busy := true, user := none }).modMov (fun m => { m with scanCfg := (s.unit u).cfg }) := by
  unfold State.scanTake State.unitUsed State.scanReads
  rw [State.parityUses_clean bad unarmed]
  exact if_neg (by simp [State.setUnit, area])

/-- The settings that a control word of the scan engine holds (11 R325). -/
def State.scanSet (s : State) (w : Nat) : State :=
  s.modMov (fun m => { m with scanKind := bitOf w 1, scanUnit := bitsOf w 2 4, scanCompare := bitOf w 6 })

/-- A scan busy with its settings, nothing matched yet. -/
def State.scanBegun (s : State) : State := s.modMov (fun m => { m with scanBusy := true, scanMatch := false, scanUnw := 0 })

section
variable {s : State} {w : Nat} (idle : s.mov.scanBusy = false) (bad : s.regs.parBad = []) (unarmed : s.flt.injArmed = false)
  (go : bitOf w 0 = true)
include idle bad unarmed go

theorem State.scanGo_hubUnit (hub : bitsOf w 2 4 < 8) : s.scanGo w = (s.scanSet w).modMov (fun m => { m with scanProg := true }) := by
  have clean := State.parityUses_clean (s := s.scanSet w) bad unarmed
  have unit : (s.scanSet w).mov.scanUnit = bitsOf w 2 4 := rfl
  have busy : (s.scanSet w).mov.scanBusy = false := idle
  have set : (if s.mov.scanBusy then s else s.scanSet w) = s.scanSet w := by simp [idle]
  unfold State.scanGo
  rw [← State.scanSet, set]
  simp [go, busy, clean, unit, hub]

theorem State.scanGo_area (operator : 8 ≤ bitsOf w 2 4) (valid : (s.unit (bitsOf w 2 4)).cfg.ok = true)
    (locator : (s.unit (bitsOf w 2 4)).cfg.locator ≠ 1) (area : bitOf w 1 = false) :
    s.scanGo w = if (s.unit (bitsOf w 2 4)).busy then (s.scanSet w).scanBegun else (s.scanSet w).scanBegun.scanTake (bitsOf w 2 4) := by
  have clean := State.parityUses_clean (s := s.scanSet w) bad unarmed
  have unit : (s.scanSet w).mov.scanUnit = bitsOf w 2 4 := rfl
  have kind : (s.scanSet w).mov.scanKind = false := area
  have busy : (s.scanSet w).mov.scanBusy = false := idle
  have units : (s.scanSet w).unit = s.unit := rfl
  have set : (if s.mov.scanBusy then s else s.scanSet w) = s.scanSet w := by simp [idle]
  unfold State.scanGo
  rw [← State.scanSet, set]
  simp [go, busy, clean, unit, units, kind, valid, locator, Nat.not_lt.mpr operator]
  rfl

end

end Sys2Proof.Machine

namespace Sys2Proof
open Machine

/-! ### CHECK_UNIT_FREE (11 R322) -/

theorem checkUnitFree_taken {s : State} {n c : Nat} (q : MoversOnly s) (hn : n < 16) (free : (s.unit n).busy = false)
    (noScan : s.scanWaits n = false) (next : s.unitNext n = some c) (named : checkUnit (s.chan c).desc = n) (checks : ctl (s.chan c).desc 11 = true)
    (bad : s.regs.parBad = []) (unarmed : s.flt.injArmed = false) :
    Gives (.checkUnitFree n) s (fun t => (t.unit n).busy = true ∧ (t.unit n).user = some c ∧ (t.chan c).waitUnit = false ∧
      (t.chan c).unitCfg = some (s.unit n).cfg) := by
  subst named
  refine gives_onUnit (t := (s.unitFree (checkUnit (s.chan c).desc)).settle) rfl (decide_eq_true hn) ?_
  rw [State.unitFree_next free noScan next, State.takeUnit_free checks free bad unarmed]
  generalize checkUnit (s.chan c).desc = n
  have own := (s.setUnit_eff n { s.unit n with busy := true, user := some c }).trans
    (State.modChan_eff _ c (fun x => { x with unitCfg := some (s.unit n).cfg, waitUnit := false }))
  have kept := State.settle_unitsKept (q.eff own rfl (own.handKept rfl))
  rw [kept.unit, kept.waitUnit, kept.unitCfg, State.chan_modChan]
  have taken := s.unit_setUnit n { s.unit n with busy := true, user := some c }
  exact ⟨(congrArg CheckUnit.busy taken :), (congrArg CheckUnit.user taken :), rfl, rfl⟩

/-! ### MOVER_WINDOW_ACCESS (11 R308) -/

section
variable {s : State} {a : Nat} (hc : s.coreServes = true) (hb : s.boot.phase = .service) (low : 0x380000 ≤ a) (high : a ≤ 0x3BFFFF)
  (aligned : a % 4 = 0)
include hc hb low high aligned

theorem moverWindowAccess_write (w : Word) (fits : s.windowAt a + 4 ≤ s.areaSize) :
    Gives (.moverWindowAccess a (some w)) s (fun t => t.areaRead (s.windowAt a) 4 = natLE 4 w.toNat) := by
  refine .intro (t := s.boardDoes (fun s => s.windowAccess a (some w))) rfl ?_
  rw [State.boardDoes_served hc hb]
  unfold State.windowAccess
  rw [if_neg (by omega)]
  simp only [aligned, if_true]
  have stored := s.areaRead_areaWrite (o := s.windowAt a) (d := natLE 4 w.toNat) (by rwa [natLE_length])
  rwa [natLE_length] at stored

theorem moverWindowAccess_read : Gives (.moverWindowAccess a none) s (fun t =>
    Sent.reg a (BitVec.ofNat 32 (leNat (s.areaRead (s.windowAt a) 4))) ∈ t.sent) := by
  refine .intro (t := s.boardDoes (fun s => s.windowAccess a none)) rfl ?_
  rw [State.boardDoes_served hc hb]
  unfold State.windowAccess
  rw [if_neg (by omega)]
  simp only [aligned, if_true]
  exact (State.injectArea_eff _ _).grows.subset (by simp)

end

theorem Quiet.setUnit {s : State} (q : Quiet s) (n : Nat) (v : CheckUnit) : Quiet (s.setUnit n v) := q.modMov _ fun _ => rfl

theorem Quiet.scanSet {s : State} (q : Quiet s) (w : Nat) : Quiet (s.scanSet w) := q.modMov _ fun _ => rfl

theorem Quiet.scanBegun {s : State} (q : Quiet s) : Quiet s.scanBegun := q.modMov _ fun _ => rfl

/-! ### SCAN_GO and SCAN_COMPLETE (11 R322, R325, R327) -/

/-- What the pass that follows leaves of the mover, where nothing waits. -/
theorem gives_mover {c : Instr} {s : State} {P : State → Prop} (u : State) (hc : exec c s = .next u.settle) (quiet : Quiet u)
    (h : ∀ t : State, t.mov = u.mov → P t) : Gives c s P :=
  .intro hc (h _ ((State.settle_eff_quiet quiet).mov rfl))

section
variable {s : State} (q : Quiet s)

section
variable {w : Word} (hc : s.coreServes = true) (hb : s.boot.phase = .service) (idle : s.mov.scanBusy = false) (bad : s.regs.parBad = [])
  (unarmed : s.flt.injArmed = false) (go : bitOf w.toNat 0 = true)
include q hc hb idle bad unarmed go

theorem scanGo_starts (operator : 8 ≤ bitsOf w.toNat 2 4) (valid : (s.unit (bitsOf w.toNat 2 4)).cfg.ok = true)
    (locator : (s.unit (bitsOf w.toNat 2 4)).cfg.locator ≠ 1) (area : bitOf w.toNat 1 = false) :
    Gives (.scanGo w) s (fun t => t.mov.scanBusy = true ∧ t.mov.scanMatch = false ∧ t.mov.scanCompare = bitOf w.toNat 6 ∧
      (t.unit (bitsOf w.toNat 2 4)).busy = true) := by
  refine gives_mover (s.scanGo w.toNat) (congrArg (fun u : State => Host.Outcome.next u.settle) (State.boardDoes_served hc hb _)) ?_ ?_
  all_goals
    have taken := State.scanTake_area (s := (s.scanSet w.toNat).scanBegun) (u := bitsOf w.toNat 2 4) area bad unarmed
    rw [State.scanGo_area idle bad unarmed go operator valid locator area, taken]
  · split
    · exact (q.scanSet _).scanBegun
    · exact Quiet.modMov ((q.scanSet _).scanBegun.setUnit _ _) _ fun _ => rfl
  · intro t same
    rw [State.unit, same]
    split
    next busy => exact ⟨rfl, rfl, rfl, busy⟩
    next => exact ⟨rfl, rfl, rfl, (congrArg CheckUnit.busy (State.unit_setUnit ..) :)⟩

theorem scanGo_programError (hub : bitsOf w.toNat 2 4 < 8) :
    Gives (.scanGo w) s (fun t => t.mov.scanBusy = false ∧ t.mov.scanProg = true) := by
  refine gives_mover (s.scanGo w.toNat) (congrArg (fun u : State => Host.Outcome.next u.settle) (State.boardDoes_served hc hb _)) ?_ ?_
  all_goals rw [State.scanGo_hubUnit idle bad unarmed go hub]
  · exact Quiet.modMov (q.scanSet _) _ fun _ => rfl
  · exact fun t same => by rw [same]; exact ⟨idle, rfl⟩

end

include q in
theorem scanComplete_area (busy : s.mov.scanBusy = true) (has : s.scanWaits s.mov.scanUnit = false) (area : s.mov.scanKind = false)
    (read : s.chanCmds 32 = false) :
    Gives .scanComplete s (fun t => t.mov.scanBusy = false ∧ t.mov.scanDone = true ∧
      t.mov.scanResult = s.mov.scanCfg.value (s.mov.scanAddr.toNat / 4096) (s.areaRead s.mov.scanAddr.toNat s.mov.scanLen.toNat) ∧
      (t.unit s.mov.scanUnit).busy = false) := by
  refine gives_mover s.scanDone rfl ?_ ?_
  all_goals
    unfold State.scanDone
    dsimp only
    rw [if_neg (by simp [busy, has, read])]
  · exact Quiet.modMov (q.setUnit _ _) _ fun _ => rfl
  · intro t same
    rw [State.unit, same, area]
    exact ⟨rfl, rfl, rfl, (congrArg CheckUnit.busy (s.unit_setUnit s.mov.scanUnit _) :)⟩

end
end Sys2Proof
end

section
/-!
PROOFS. What a Conservator pass that found one error of the pipe store counts and latches (12 R333, R334, R336).
-/
set_option Elab.async false
namespace Sys2Proof.Machine

/-- The memories without their events and the word last found stuck: what the errors of a pass are counted in (12 R333, R334, R340). -/
def State.memTally (s : State) : Mem := { s.mem with evt := 0, stuck := 0 }

theorem Eff.tallyKept {m : Nat} {s t : State} (e : Eff m s t) (hm : m.testBit 23 = false) : Kept State.memTally s t :=
  ⟨congrArg (fun m : Mem => { m with evt := 0, stuck := 0 }) (e.mem hm)⟩

section
variable (s : State)

theorem State.memEvent_tallyKept (b : BitVec 4) : Kept State.memTally s (s.memEvent b) :=
  .ite ⟨rfl⟩ (.trans (t := s.modMem (fun u => { u with evt := u.evt ||| b })) ⟨rfl⟩ ((State.houseEvent_eff ..).tallyKept rfl))

/-- The counts of a corrected error of the pipe store (12 R333). -/
def State.pipeWordCorrected (a : Nat) : State :=
  s.modMem (fun m => { m with
    pipeCorr := satAdd m.pipeCorr 1
    corrTotal := satAdd m.corrTotal 1
    passCount := m.passCount + 1
    passCorr := if m.passCorr.contains (memWord ⟨0, a, false⟩) then m.passCorr else m.passCorr ++ [memWord ⟨0, a, false⟩] })

theorem State.corrRate_tallyKept (e : MemErr) : Kept State.memTally s (s.corrRate e) :=
  .ite ((s.memEvent_tallyKept _).trans ((State.record_eff ..).tallyKept rfl)) (.refl s)

/-- A word corrected in two successive passes is stuck (12 R333). -/
def State.wordStuck (e : MemErr) : State :=
  if s.mem.prevCorr.contains (memWord e) then
    let s := (s.modMem (fun m => { m with stuck := BitVec.ofNat 32 (memWord e) })).memEvent 2
    s.record { s.recOf 0x22 e.memory with die := memDie e }
  else s

theorem State.wordStuck_tallyKept (e : MemErr) : Kept State.memTally s (s.wordStuck e) := by
  have stuck (w : Word) : Kept State.memTally s (s.modMem (fun m => { m with stuck := w })) := ⟨rfl⟩
  exact .ite (((stuck _).trans (State.memEvent_tallyKept ..)).trans ((State.record_eff ..).tallyKept rfl)) (.refl s)

theorem State.errsFound_pipeCorrected (a : Nat) :
    s.errsFound [⟨0, a, false⟩] = ((s.pipeWordCorrected a).corrRate ⟨0, a, false⟩).wordStuck ⟨0, a, false⟩ := rfl

/-- Beyond the counts, a corrected error of the pipe store raises events and faults alone. -/
theorem State.errsFound_pipeCorrected_tally (a : Nat) : Kept State.memTally (s.pipeWordCorrected a) (s.errsFound [⟨0, a, false⟩]) :=
  ((s.pipeWordCorrected a).corrRate_tallyKept _).trans (State.wordStuck_tallyKept ..)

/-- The latch and the count of an uncorrectable error where none is latched yet (12 R334). -/
def State.wordLatched (e : MemErr) : State :=
  s.modMem (fun m => { m with uncTotal := satAdd m.uncTotal 1, uncValid := true, uncAddr := BitVec.ofNat 26 e.addr, uncMem := e.memory })

theorem State.uncLatch_first (e : MemErr) (h : s.mem.uncValid = false) : s.uncLatch e = (s.wordLatched e).memEvent 1 := by
  unfold State.uncLatch State.wordLatched State.modMem
  simp [h]

/-- An uncorrectable error of a free context ends no pipe (07 R205). -/
theorem State.errsFound_freeContext (a : Nat) (h : (s.getPipes (a / 64)).state = .free) (first : s.mem.uncValid = false) :
    s.errsFound [⟨0, a, true⟩] =
      ((s.wordLatched ⟨0, a, true⟩).memEvent 1).record
        { ((s.wordLatched ⟨0, a, true⟩).memEvent 1).recOf 0x23 0 with cls := 0, die := memDie ⟨0, a, true⟩ } := by
  have free : (((s.wordLatched ⟨0, a, true⟩).memEvent 1).getPipes (a / 64)).state = .free := by
    unfold State.getPipes
    rw [(State.memEvent_eff ..).pipes rfl]
    exact h
  have found : s.errsFound [⟨0, a, true⟩] = (s.uncLatch ⟨0, a, true⟩).uncPipe ⟨0, a, true⟩ := rfl
  rw [found, s.uncLatch_first _ first]
  exact (if_pos free).trans (State.faultRec_minor Nat.zero_lt_two)

theorem State.errsFound_freeContext_tally (a : Nat) (h : (s.getPipes (a / 64)).state = .free) (first : s.mem.uncValid = false) :
    Kept State.memTally (s.wordLatched ⟨0, a, true⟩) (s.errsFound [⟨0, a, true⟩]) := by
  rw [s.errsFound_freeContext a h first]
  exact (State.memEvent_tallyKept ..).trans ((State.record_eff ..).tallyKept rfl)

/-- The pass that ends with errors found; no injection fires. -/
theorem State.scrubPass_unarmed (h : s.flt.injArmed = false) (found : MemErrs) :
    s.scrubPass found = (s.errsFound found).modMem (fun m => { m with
      passes := satAdd m.passes 1, passFrom := (s.errsFound found).clk.usCount, running := true, prevCorr := m.passCorr, passCorr := [],
      passCount := 0 }) := by
  unfold State.scrubPass
  simp only [List.foldl_cons, List.foldl_nil, State.injectMem_unarmed h]

end

end Sys2Proof.Machine

namespace Sys2Proof
open Machine

theorem Quiet.modMem {s : State} (h : Quiet s) (f : Mem → Mem) : Quiet (s.modMem f) := Eff.of_quiet h (State.modMem_eff s f) rfl

theorem Quiet.memEvent {s : State} (h : Quiet s) (b : BitVec 4) : Quiet (s.memEvent b) := Eff.of_quiet h (State.memEvent_eff s b) rfl

theorem Quiet.corrRate {s : State} (h : Quiet s) (e : MemErr) : Quiet (s.corrRate e) := by
  unfold State.corrRate
  split
  · exact (h.memEvent _).record _
  · exact h

theorem Quiet.wordStuck {s : State} (h : Quiet s) (e : MemErr) : Quiet (s.wordStuck e) := by
  unfold State.wordStuck
  split
  · exact ((h.modMem _).memEvent _).record _
  · exact h

/-! ### SCRUB_PASS (12 R333, R334, R336) -/

section
variable {s : State} (q : Quiet s) (unarmed : s.flt.injArmed = false)

include unarmed in
/-- What the memories come to at the end of a pass whose errors leave nothing waiting. -/
theorem gives_scrubPass {found : MemErrs} {P : State → Prop} (quiet : Quiet (s.errsFound found))
    (h : ∀ (t : State) (now : Word), t.mem = { (s.errsFound found).mem with
      passes := satAdd (s.errsFound found).mem.passes 1, passFrom := now, running := true, prevCorr := (s.errsFound found).mem.passCorr
      passCorr := [], passCount := 0 } → P t) :
    Gives (.scrubPass found) s P := by
  refine .intro (t := (s.scrubPass found).settle) rfl (h _ (s.errsFound found).clk.usCount ?_)
  rw [s.scrubPass_unarmed unarmed]
  exact (State.settle_eff_quiet (quiet.modMem _)).mem rfl

variable (a : Nat)
include q unarmed

theorem scrubPass_corrected : Gives (.scrubPass [⟨0, a, false⟩]) s (fun t =>
    t.mem.passes = satAdd s.mem.passes 1 ∧ t.mem.pipeCorr = satAdd s.mem.pipeCorr 1 ∧ t.mem.corrTotal = satAdd s.mem.corrTotal 1 ∧
    t.mem.passCorr = [] ∧ t.mem.prevCorr = if s.mem.passCorr.contains (memWord ⟨0, a, false⟩) then s.mem.passCorr
      else s.mem.passCorr ++ [memWord ⟨0, a, false⟩]) := by
  have counted := (s.errsFound_pipeCorrected_tally a).same
  refine gives_scrubPass unarmed (((q.modMem _).corrRate _).wordStuck _) fun t now ht => ?_
  rw [ht]
  exact ⟨congrArg (satAdd · 1) (congrArg Mem.passes counted :), (congrArg Mem.pipeCorr counted :), (congrArg Mem.corrTotal counted :), rfl,
    (congrArg Mem.passCorr counted :)⟩

theorem scrubPass_uncorrectable (first : s.mem.uncValid = false) (free : (s.getPipes (a / 64)).state = .free) :
    Gives (.scrubPass [⟨0, a, true⟩]) s (fun t => t.mem.passes = satAdd s.mem.passes 1 ∧ t.mem.uncValid = true ∧
      t.mem.uncAddr = BitVec.ofNat 26 a ∧ t.mem.uncMem = 0 ∧ t.mem.uncTotal = satAdd s.mem.uncTotal 1) := by
  have latched := (s.errsFound_freeContext_tally a free first).same
  have quiet : Quiet (s.errsFound [⟨0, a, true⟩]) := by
    rw [s.errsFound_freeContext a free first]
    exact ((q.modMem _).memEvent _).record _
  refine gives_scrubPass unarmed quiet fun t now ht => ?_
  rw [ht]
  exact ⟨congrArg (satAdd · 1) (congrArg Mem.passes latched :), (congrArg Mem.uncValid latched :), (congrArg Mem.uncAddr latched :),
    (congrArg Mem.uncMem latched :), (congrArg Mem.uncTotal latched :)⟩

end
end Sys2Proof
end

section
/-!
PROOFS. The pass after a command frees no region and ends the zeroing of none: what it does to the memories is to take and return memory of
the fan-out pool, and to follow the levels of the transit area (10 R291, R292; 12 R331, R332, R337).
-/
set_option Elab.async false
namespace Sys2Proof.Machine

/-- The regions that are being zeroed (12 R337). -/
def State.zeroing (s : State) : List Region := s.mem.zeroing

theorem Eff.zeroingKept {m : Nat} {s t : State} (e : Eff m s t) (hm : m.testBit 23 = false) : Kept State.zeroing s t :=
  ⟨congrArg Mem.zeroing (e.mem hm)⟩

section
variable {s t u : State}

theorem Kept.zeroingEff {m : Nat} (h : Kept State.zeroing s t) (e : Eff m t u) (hm : m.testBit 23 = false) : Kept State.zeroing s u :=
  h.trans (e.zeroingKept hm)

theorem Kept.zeroingTimes {f : State → State} (hf : ∀ s, Kept State.zeroing s (f s)) (k : Nat) (s : State) :
    Kept State.zeroing s (times f k s) := by
  induction k generalizing s with
  | zero => exact .refl s
  | succ k ih => exact (hf s).trans (ih _)

variable (s)

theorem State.modMem_zeroing {f : Mem → Mem} (hf : ∀ m, (f m).zeroing = m.zeroing := by exact fun _ => rfl) :
    Kept State.zeroing s (s.modMem f) := ⟨hf s.mem⟩

theorem State.memEvent_zeroing (b : BitVec 4) : Kept State.zeroing s (s.memEvent b) :=
  .ite s.modMem_zeroing (s.modMem_zeroing.zeroingEff (State.houseEvent_eff ..) rfl)

/-! ### Transactions and the service of a port (07 R209 to R226) -/

theorem State.levels_zeroing (p : Nat) : Kept State.zeroing s (s.levels p) := by
  have peaks (f : PortMem → PortMem) (g : Nat) :
      Kept State.zeroing s ((s.modFifo p f).modMem (fun m => { m with peak := max m.peak g })) :=
    .trans ((s.modFifo_eff p f).zeroingKept rfl) (State.modMem_zeroing _)
  exact .ite ((peaks ..).trans (State.memEvent_zeroing ..)) (peaks ..)

theorem State.inArrived_zeroing (k p : Nat) (d : Bytes) : Kept State.zeroing s (s.inArrived k p d) := by
  unfold State.inArrived
  split
  · exact .refl s
  · have moved := Eff.zeroingKept (s.modItems_eff k (fun i => { i with moved := i.moved + d.length })) rfl
    exact .ite (moved.zeroingEff (State.modItems_eff ..) rfl)
      (.ite ((moved.zeroingEff (State.modSess_eff ..) rfl).trans (State.levels_zeroing ..)) moved)

theorem State.inAck_zeroing (n k : Nat) (d : Bytes) : Kept State.zeroing s (s.inAck n k d) := by
  have arrived := (((s.advance_eff n ((s.getPipes n).packets d.length)).zeroingKept rfl).zeroingEff
    (State.bump_eff _ n ((s.getPipes n).packets d.length)) rfl).trans (State.inArrived_zeroing _ k (s.getPipes n).port d)
  have counted := ((arrived.zeroingEff (State.itemMoved_eff _ n d.length) rfl).zeroingEff
    (State.modPipes_eff _ n (fun x => { x with flow := .ready })) rfl).zeroingEff
    (State.serviceOver_eff _ n ((s.getPipes n).shortRun d.length)) rfl
  unfold State.inAck
  dsimp only
  split
  · exact counted
  · exact .ite (.ite (counted.zeroingEff (State.modItems_eff ..) rfl) counted) (.ite (counted.zeroingEff (State.finish_eff ..) rfl)
      (.ite (counted.zeroingEff (State.finish_eff ..) rfl) counted))

theorem State.xactResult_zeroing (n k : Nat) (i : Item) (b : Nat) (r : XactRes) : Kept State.zeroing s (s.xactResult n k i b r) := by
  have repaired := (s.repaired_eff n).zeroingKept rfl
  have served := (s.served_eff n).zeroingKept rfl
  cases r with
  | ack got =>
    exact .ite (repaired.zeroingEff (State.modPipes_eff ..) rfl) (.ite (repaired.zeroingEff (State.controlAck_eff ..) rfl)
      (.ite ((((repaired.zeroingEff (State.served_eff ..) rfl).zeroingEff (State.itemMoved_eff ..) rfl).zeroingEff (State.modItems_eff ..)
        rfl).zeroingEff (State.isoPacket_eff ..) rfl) (repaired.zeroingEff (State.outAck_eff ..) rfl)))
  | data q d =>
    exact .ite (.ite (served.zeroingEff (State.isoPacket_eff ..) rfl) (((served.trans (State.inArrived_zeroing ..)).zeroingEff
        (State.itemMoved_eff ..) rfl).zeroingEff (State.isoPacket_eff ..) rfl))
      (.ite ((repaired.zeroingEff (State.finish_eff ..) rfl).zeroingEff (State.statusDone_eff ..) rfl)
        (.ite (.refl s) (.ite ((State.finish_eff ..).zeroingKept rfl) (repaired.trans (State.inAck_zeroing ..)))))
  | nak => exact (State.xactWait_eff ..).zeroingKept rfl
  | nrdy => exact (State.xactWait_eff ..).zeroingKept rfl
  | stall => exact (State.xactStall_eff ..).zeroingKept rfl
  | error => exact (State.xactError_eff ..).zeroingKept rfl
  | babble => exact .ite (served.zeroingEff (State.isoPacket_eff ..) rfl) ((State.finish_eff ..).zeroingKept rfl)
  | move stream => exact (State.streamMove_eff ..).zeroingKept rfl

theorem State.xactOver_zeroing (n : Nat) (r : XactRes) : Kept State.zeroing s (s.xactOver n r) := by
  unfold State.xactOver
  dsimp only
  refine .zeroingEff ?_ (State.takeResync_eff ..) rfl
  have idle := ((s.modPipes_eff n (fun x => { x with
    inXact := false, reissueLen := 0, ssFrame := none, ssSent := 0, csFrame := none, wireRes := none })).zeroingKept rfl).zeroingEff
    (State.modUsb_eff _ (s.getPipes n).port (fun u => { u with inFlight := u.inFlight.filter (· ≠ n) })) rfl
  have given := Kept.ite (c := (s.getPipes n).np = true) (idle.zeroingEff (State.npGive_eff _ (s.getPipes n).port n) rfl) idle
  split
  · split
    · exact (given.trans (State.xactResult_zeroing ..)).zeroingEff (State.boundary_eff ..) rfl
    · exact given
  · exact .ite (given.zeroingEff (State.hubPolled_eff ..) rfl) given

theorem State.issue_zeroing (p n st b : Nat) : Kept State.zeroing s (s.issue p n st b) := by
  have used := (s.useBus_eff n st b).zeroingKept rfl
  unfold State.issue
  refine .ite ((State.sendAsk_eff ..).zeroingKept rfl) (.ite (.zeroingEff ((State.useBus_eff ..).zeroingKept rfl) (State.modPipes_eff ..) rfl)
    (.ite ?_ ((State.startXact_eff ..).zeroingKept rfl)))
  split
  · exact .trans ((State.useBus_eff ..).zeroingKept rfl) (State.xactOver_zeroing ..)
  · exact .zeroingEff ((State.useBus_eff ..).zeroingKept rfl) (State.modPipes_eff ..) rfl

theorem State.schedule_zeroing (p f : Nat) : Kept State.zeroing s (s.schedule p f) := by
  induction f generalizing s with
  | zero => exact .refl s
  | succ f ih =>
    rw [State.schedule]
    refine .ite (.refl s) ?_
    dsimp only
    split
    · exact .foldl (fun s _ => .ite ((State.npWait_eff ..).zeroingKept rfl) (.refl s)) _ s
    · exact (State.issue_zeroing ..).trans (ih _)

theorem State.serve_zeroing (p : Nat) : Kept State.zeroing s (s.serve p) :=
  .ite (s.schedule_zeroing ..) ((s.schedule_zeroing ..).trans (.foldl (fun s q => s.schedule_zeroing q _) _ _))

/-! ### Fan-out jobs (10 R290 to R298) -/

theorem State.poolUse_zeroing (f : Nat → Nat) : Kept State.zeroing s (s.poolUse f) := s.modMem_zeroing

theorem State.modTgt_zeroing (n i : Nat) (f : Target → Target) : Kept State.zeroing s (s.modTgt n i f) := (State.modTgt_eff ..).zeroingKept rfl

theorem State.dropStaging_zeroing (n i : Nat) : Kept State.zeroing s (s.dropStaging n i) :=
  .ite ((s.poolUse_zeroing _).trans (State.modTgt_zeroing ..)) (.refl s)

theorem State.catchUp_zeroing (n i : Nat) : Kept State.zeroing s (s.catchUp n i) :=
  ((s.poolUse_zeroing _).trans (State.modTgt_zeroing ..)).zeroingEff (State.vaultEvent_eff ..) rfl

theorem State.tgtEnd_zeroing (n i out det : Nat) : Kept State.zeroing s (s.tgtEnd n i out det) := by
  have ended := ((s.dropStaging_zeroing n i).zeroingEff (State.npGive_eff _ (((s.job n).target i).device / 256 % 128) ((s.job n).target i).cmd)
    rfl).trans (State.modTgt_zeroing _ n i (fun t => { t with state := .ended, busy := false, outcome := out, detail := det }))
  exact .ite (.refl s) (.ite (ended.zeroingEff (State.vaultEvent_eff ..) rfl) ended)

theorem State.stageRead_zeroing (n i : Nat) (catching : Bool) : Kept State.zeroing s (s.stageRead n i catching) := by
  unfold State.stageRead
  dsimp only
  refine .ite (s.tgtEnd_zeroing ..) ?_
  refine .ite ?_ ?_ <;>
    exact .trans (.zeroingEff (.ite ((State.modVault_eff _ _ (by rfl)).zeroingKept rfl) (.refl s)) (State.chunkRead_eff ..) rfl)
      (State.modTgt_zeroing ..)

theorem State.refRead_zeroing (n i : Nat) : Kept State.zeroing s (s.refRead n i) := by
  have read := (s.chunkRead_eff n (1000 + i) ((s.job n).target i).chunk).zeroingKept rfl
  exact .ite (s.tgtEnd_zeroing ..) (.ite read (read.zeroingEff (State.setJob_eff ..) rfl))

theorem State.startExchange_zeroing (n i : Nat) (verify : Bool) (data : Bytes) : Kept State.zeroing s (s.startExchange n i verify data) :=
  (State.startExchange_eff ..).zeroingKept rfl

theorem State.tgtStep_zeroing (n i : Nat) : Kept State.zeroing s (s.tgtStep n i) := by
  have staged (b : Bool) := Kept.ite (c := ((s.job n).target i).loaded = true) (.refl s) (s.stageRead_zeroing n i b)
  unfold State.tgtStep
  refine .ite (.refl s) ?_
  split
  · exact .ite (State.startExchange_zeroing ..) (.refl s)
  · exact .ite ((staged true).trans (State.startExchange_zeroing ..)) (staged true)
  · refine .ite (.ite ((staged false).trans (State.startExchange_zeroing ..)) (staged false)) ?_
    have read := Kept.ite (c := SMap.get none (s.job n).checks ((s.job n).target i).chunk = none ∧ (s.job n).upstream = false ∧
      s.refBusy n ((s.job n).target i).chunk = false) (s.refRead_zeroing n i) (.refl s)
    exact .ite read (read.trans (State.startExchange_zeroing ..))
  · exact .refl s

theorem State.chunkLost_zeroing (n det : Nat) : Kept State.zeroing s (s.chunkLost n det) :=
  .zeroingEff (.foldl (fun s _ => .ite (s.tgtEnd_zeroing ..) (.refl s)) _ s) (State.setJob_eff ..) rfl

theorem State.chunkOut_zeroing (n : Nat) : Kept State.zeroing s (s.chunkOut n) := (State.chunkOut_eff ..).zeroingKept rfl

theorem State.chunkIn_zeroing (n : Nat) : Kept State.zeroing s (s.chunkIn n) := (State.chunkIn_eff ..).zeroingKept rfl

theorem State.windowStep_zeroing (n : Nat) : Kept State.zeroing s (s.windowStep n) := by
  unfold State.windowStep
  dsimp only
  refine .trans (t := s.setJob n _) ((State.setJob_eff ..).zeroingKept rfl) (.ite (State.chunkOut_zeroing ..) (.ite ?_ (.ite ?_ (.refl _))))
  · refine .ite (.ite (State.chunkIn_zeroing ..) (.refl _)) (.ite (.refl _) (.ite (State.chunkLost_zeroing ..) ?_))
    have read (t : State) (c : Nat) := (t.chunkRead_eff n 0 c).zeroingKept rfl
    exact .ite (read ..) ((read ..).trans (State.chunkIn_zeroing ..))
  · exact .ite (.trans (.foldl (fun s i => s.catchUp_zeroing n i) _ _) (State.chunkOut_zeroing ..)) (.refl _)

theorem State.jobPump_zeroing (n : Nat) : Kept State.zeroing s (s.jobPump n) :=
  .ite (.refl s) (.trans (.trans ((State.trimUp_eff ..).zeroingKept rfl) (.zeroingTimes (fun s => s.windowStep_zeroing n) _ _))
    (.foldl (fun s i => s.tgtStep_zeroing n i) _ _))

theorem State.jobEnd_zeroing (n out det : Nat) : Kept State.zeroing s (s.jobEnd n out det) := by
  unfold State.jobEnd
  dsimp only
  refine .zeroingEff (.zeroingEff (.zeroingEff (.zeroingEff (.zeroingEff (.trans (.foldl (fun s p => ?_) _ s) (State.poolUse_zeroing ..))
    (State.modVault_eff _ _ (by rfl)) rfl) (State.setJob_eff ..) rfl) (State.progress_eff ..) rfl) (State.modItems_eff ..) rfl)
    (State.finishB_eff ..) rfl
  exact (State.letGo_eff ..).zeroingKept rfl

theorem State.jobSettle_zeroing (n : Nat) : Kept State.zeroing s (s.jobSettle n) := by
  unfold State.jobSettle
  refine .ite (.refl s) ?_
  split
  · exact .refl s
  · split
    · exact .trans (.foldl (fun s k => s.tgtEnd_zeroing ..) _ s) (State.jobEnd_zeroing ..)
    · exact .ite (State.jobEnd_zeroing ..) (.refl s)

theorem State.jobHold_zeroing (n i : Nat) : Kept State.zeroing s (s.jobHold n i) :=
  .ite (.trans ((State.npGive_eff ..).zeroingKept rfl) (State.modTgt_zeroing ..))
    (.ite (.ite (.ite (s.catchUp_zeroing ..) (.refl s)) (State.modTgt_zeroing ..)) (.refl s))

theorem State.jobPass_zeroing : Kept State.zeroing s s.jobPass := by
  unfold State.jobPass
  refine .foldl (fun s e => .ite ?_ (.refl s)) _ s
  have held : Kept State.zeroing s ((List.range e.2.targets.length).foldl (fun s i => s.jobHold e.1 i) s) :=
    .foldl (fun s i => s.jobHold_zeroing e.1 i) _ s
  exact ((held.trans (State.jobSettle_zeroing ..)).trans (State.jobPump_zeroing ..)).trans (State.jobSettle_zeroing ..)

theorem State.jobPipeEnd_zeroing (p out det : Nat) : Kept State.zeroing s (s.jobPipeEnd p out det) := by
  unfold State.jobPipeEnd
  split
  · exact ((s.tgtEnd_zeroing ..).trans (State.jobPump_zeroing ..)).trans (State.jobSettle_zeroing ..)
  · exact .refl s

theorem State.doFanout_zeroing (k : Nat) (i : Item) : Kept State.zeroing s (s.doFanout k i) := by
  have refused (det : Nat) : Kept State.zeroing s (s.finish k 0x0C det) := (State.finish_eff ..).zeroingKept rfl
  unfold State.doFanout
  refine .ite (refused _) (.ite (refused _) ?_)
  split
  · exact refused _
  · refine .ite (refused _) (.ite (refused _) ?_)
    split
    · exact refused _
    · refine .ite (refused _) (.trans (.zeroingEff (.trans (.trans (.trans ((State.setJob_eff ..).zeroingKept rfl) (State.poolUse_zeroing ..))
        (.foldl (fun s p => ?_) _ _)) (.foldl (fun s t => ?_) _ _)) (State.modItems_eff ..) rfl) (State.jobPump_zeroing ..))
      · exact (State.holdPipe_eff ..).zeroingKept rfl
      · exact (State.itemWake_eff ..).zeroingKept rfl

/-! ### Captures (10 R300 to R303) -/

theorem State.captNext_zeroing (c : Capt) (start : Nat) : Kept State.zeroing s (s.captNext c start) :=
  .trans ((State.holdPipe_eff ..).zeroingKept rfl) (State.serve_zeroing ..)

/-- A capture whose record has been joined goes on with its next transfer, where it goes on at all. -/
theorem State.captOnward_zeroing (h : Kept State.zeroing s t) (k start : Nat) : Kept State.zeroing s (match t.capt? k, t.item? k with
    | some c, some i => if i.stage = 1 ∧ i.cause = none then t.captNext c start else t
    | _, _ => t) := by
  split
  · exact .ite (h.trans (State.captNext_zeroing ..)) h
  · exact h

theorem State.captEnded_zeroing (k out det : Nat) (i : Item) : Kept State.zeroing s (s.captEnded k out det i) := by
  have full (u : State) (f : Nat) : Kept State.zeroing u (u.closeFull k f) := (State.closeFull_eff ..).zeroingKept rfl
  have closed (u : State) (short : Bool) : Kept State.zeroing u (u.closeRecord k short false) := (State.closeRecord_eff ..).zeroingKept rfl
  have joined (f : Capt → Capt) (missed : Nat) :
      Kept State.zeroing s (if missed = 0 then s.modCapt k f else (s.modCapt k f).vaultEvent 0x800) :=
    .trans ((State.modCapt_eff ..).zeroingKept rfl) (.ite (.refl _) ((State.vaultEvent_eff ..).zeroingKept rfl))
  have ends (u : State) (late : Prop) [Decidable late] : Kept State.zeroing u (if late then u.causeItem out det k else u) :=
    .ite ((State.causeItem_eff ..).zeroingKept rfl) (.refl u)
  unfold State.captEnded
  split
  · exact .refl s
  · refine State.captOnward_zeroing s (.trans ?_ (ends ..)) k _
    exact .ite (.ite (joined ..) ((joined ..).trans (closed ..)))
      (.ite (((joined ..).trans (full ..)).trans (closed ..)) ((joined ..).trans (full ..)))

theorem State.captStep_zeroing (k : Nat) : Kept State.zeroing s (s.captStep k) := by
  have ends (u : State) (cause : Option (Nat × Nat)) (hub : Nat) : Kept State.zeroing u (match cause with
      | some e => u.causeItem e.1 e.2 hub
      | none => u.causeItem 0x07 0x33 hub) := by
    cases cause <;> exact (State.causeItem_eff ..).zeroingKept rfl
  have closes (u : State) (last : Prop) [Decidable last] : Kept State.zeroing u ((if last then u else u.closeRecord k false true).modItems k
      (fun i => { i with stage := 4 })) :=
    .zeroingEff (.ite (.refl u) ((State.closeRecord_eff ..).zeroingKept rfl)) (State.modItems_eff ..) rfl
  have finishes (u : State) (full : Bool) : Kept State.zeroing u (match u.capt? k with
      | some c => u.captFinish c full
      | none => u) := by
    split
    · exact (State.captFinish_eff ..).zeroingKept rfl
    · exact .refl u
  unfold State.captStep
  split
  · dsimp only
    refine .trans (.ite ((State.modItems_eff ..).zeroingKept rfl) (.refl s)) (.ite (.ite (.refl _) (State.captNext_zeroing ..))
      (.ite (ends ..) (.trans (.ite (closes ..) (.ite ((State.modItems_eff ..).zeroingKept rfl) (.refl _))) (.ite (.refl _) (finishes ..)))))
  · exact .refl s

theorem State.captPass_zeroing : Kept State.zeroing s s.captPass := .foldl State.captStep_zeroing _ s

theorem State.doCapture_zeroing (k : Nat) (i : Item) : Kept State.zeroing s (s.doCapture k i) := by
  have refused (det : Nat) : Kept State.zeroing s (s.finish k 0x0C det) := (State.finish_eff ..).zeroingKept rfl
  unfold State.doCapture
  refine .ite (refused _) (.ite (refused _) (.ite (refused _) (.ite (refused _) (.ite (refused _) (.ite (refused _) ?_)))))
  refine .trans (.zeroingEff (.zeroingEff (.zeroingEff ?_ (State.itemWake_eff ..) rfl) (State.modPipes_eff ..) rfl) (State.modItems_eff ..)
    rfl) (State.captStep_zeroing ..)
  exact (State.modVault_eff _ _ (by rfl)).zeroingKept rfl

/-! ### The pass after a command -/

theorem State.runItem_zeroing (k : Nat) (i : Item) : Kept State.zeroing s (s.runItem k i) := by
  have action : Kept State.zeroing s (if i.f 1 1 = 1 then s.vbusOn k i.port else if i.f 1 1 = 2 then s.vbusOff k i.port
      else if i.f 1 1 = 3 then s.askReset i.port (some k) else if i.f 1 1 = 4 then s.askSuspend k i.port
      else if i.f 1 1 = 5 then s.askResume k i.port else s.askDisable k i.port) :=
    .ite ((State.vbusOn_eff ..).zeroingKept rfl) (.ite ((State.vbusOff_eff ..).zeroingKept rfl) (.ite ((State.askReset_eff ..).zeroingKept rfl)
      (.ite ((State.askSuspend_eff ..).zeroingKept rfl) (.ite ((State.askResume_eff ..).zeroingKept rfl)
        ((State.askDisable_eff ..).zeroingKept rfl)))))
  have moved : Kept State.zeroing s
      (((s.doTransfer k i).itemWake (s.getPipes (i.f 0 4 % 1048576)).port).serve (s.getPipes (i.f 0 4 % 1048576)).port) :=
    (((State.doTransfer_eff ..).zeroingKept rfl).zeroingEff (State.itemWake_eff ..) rfl).trans (State.serve_zeroing ..)
  exact .ite action (.ite moved (.ite ((State.doVaultRead_eff ..).zeroingKept rfl) (.ite ((State.doVaultWrite_eff ..).zeroingKept rfl)
    (.ite ((State.doVaultFlush_eff ..).zeroingKept rfl) (.ite ((State.doVaultDealloc_eff ..).zeroingKept rfl)
      (.ite (s.doFanout_zeroing k i) (.ite (s.doCapture_zeroing k i) (.refl s))))))))

theorem State.heldRun_zeroing (k : Nat) : Kept State.zeroing s (s.heldRun k) := by
  unfold State.heldRun
  split
  · exact .ite (s.runItem_zeroing ..) (.ite ((State.modTenants_eff ..).zeroingKept rfl) (s.runItem_zeroing ..))
  · exact .refl s

theorem State.resumedPass_zeroing : Kept State.zeroing s s.resumedPass :=
  .foldl (fun _ _ => .trans ((State.modTenants_eff ..).zeroingKept rfl) (.foldl State.heldRun_zeroing _ _)) _ s

theorem State.hubEnds_zeroing : Kept State.zeroing s s.hubEnds := by
  unfold State.hubEnds
  dsimp only
  refine .trans (t := s.modVault (fun v => { v with ended := [] })) ((State.modVault_eff _ _ (by rfl)).zeroingKept rfl)
    (.foldl (fun s e => ?_) _ _)
  split
  · exact s.jobPipeEnd_zeroing ..
  · exact s.captEnded_zeroing ..
  · exact (State.chanPipeEnd_eff ..).zeroingKept rfl
  · exact .refl s

theorem State.settleOnce_zeroing : Kept State.zeroing s s.settleOnce :=
  .zeroingEff (.zeroingEff (.zeroingEff (.zeroingEff ((s.hubEnds_zeroing.trans (State.jobPass_zeroing _)).trans (State.captPass_zeroing _))
    (State.vaultPass_eff _) rfl) (State.templatePass_eff _) rfl) (State.chanPass_eff _) rfl) (State.settleWaits_eff _) rfl

/-- The pass after a command leaves the regions that are being zeroed. -/
theorem State.settle_zeroing : Kept State.zeroing s s.settle := by
  have rounds : Kept State.zeroing s (times State.settleOnce 3 s.resumedPass) :=
    s.resumedPass_zeroing.trans (.zeroingTimes State.settleOnce_zeroing 3 _)
  exact (((rounds.zeroingEff (State.escOwed_eff _) rfl).zeroingEff (State.freeRecalled_eff _) rfl).zeroingEff (State.pllPass_eff _)
    rfl).zeroingEff (State.guardPass_eff _) rfl

end
end Sys2Proof.Machine
end

section
/-!
PROOFS. Check units, the window, scans, Conservator passes and zeroing (11 R308, R322 to R327; 12 R333 to R340).
-/
namespace Sys2Proof
open Machine

/-! ### REGION_ZEROING_DONE (12 R337) -/

theorem regionZeroingDone_ends {s : State} {r : Region} (zeroing : s.mem.zeroing.contains r = true) :
    Gives (.regionZeroingDone r) s (fun t => t.mem.zeroing = s.mem.zeroing.erase r) := by
  refine .intro (t := (s.zeroed r).settle) rfl ((State.settle_zeroing (s.zeroed r)).same.trans ?_)
  unfold State.zeroed
  rw [if_pos zeroing]
  rfl

/-- Settles O48: each command's own effect, and what the pass that follows it leaves of the mover, the memories and the check units. -/
theorem unitsScansAndMemories : Obligations.UnitsScansAndMemories := by
  unfold Obligations.UnitsScansAndMemories
  exact ⟨fun _ _ _ q hn free noScan next named checks bad unarmed => checkUnitFree_taken q hn free noScan next named checks bad unarmed,
    fun _ _ w hc hb low high aligned fits => moverWindowAccess_write hc hb low high aligned w fits,
    fun _ _ hc hb low high aligned => moverWindowAccess_read hc hb low high aligned,
    fun _ _ q hc hb idle bad unarmed go operator valid locator area => scanGo_starts q hc hb idle bad unarmed go operator valid locator area,
    fun _ _ q hc hb idle bad unarmed go hub => scanGo_programError q hc hb idle bad unarmed go hub,
    fun _ q busy has area read => scanComplete_area q busy has area read,
    fun _ a q unarmed => scrubPass_corrected q unarmed a,
    fun _ a q unarmed first free => scrubPass_uncorrectable q unarmed a first free,
    fun _ _ zeroing => regionZeroingDone_ends zeroing⟩

end Sys2Proof
end
